-- ==== Sys2Proof/Word.lean ====
section
/-!
DEFINITION. The machine's words: bytes, 64-bit integers, 128-bit capability and wide values, 144-bit accumulators
(R119, R120, R122), and their plainest arithmetic.
-/
namespace Sys2Proof

/-- A byte of memory. -/
abbrev Byte := BitVec 8
/-- The integer view of a register (R119). -/
abbrev Word := BitVec 64
/-- A wide value, and the 128 bits of a capability (R33, R120). -/
abbrev Wide := BitVec 128
/-- An accumulator: 128 value bits under 16 guard bits (R122). -/
abbrev AccWord := BitVec 144
/-- A register field of a syllable (R102). -/
abbrev RegIx := BitVec 5

end Sys2Proof
end

