-- ==== Sys2Proof/Operand.lean ====
section
/-!
DEFINITION. The operand forms of the commands: register, predicate and accumulator fields of a syllable (R102, R138,
R182) and its immediate, short or extended by an X syllable (R106, R137).
-/
namespace Sys2Proof

/-- A predicate field: p0-p7 (R138). -/
abbrev PredIx := BitVec 3
/-- An accumulator field: a0-a3 (R182). -/
abbrev AccIx := BitVec 2

/-- The immediate of a syllable: the 6 bits of `MIN`, or the 29 bits an X syllable gives it (R106, R137). -/
inductive Imm where
  | short (v : BitVec 6)
  | ext (v : BitVec 29)
deriving DecidableEq, Repr

end Sys2Proof
end

