-- ==== Sys2Proof/Syntax.lean ====
section
/-!
DEFINITION. The commands of the block: one constructor for each row of spec/opcode_table.json, in the table's order.
A syllable names the pair that executes it, its register fields and its immediate; an event names what the outside
supplies (a channel, a port, the bytes of a frame, a reading).
-/
namespace Sys2Proof

/-- The commands (spec/opcode_table.json; each docstring gives the row's rule). -/
inductive Instr where
  /-- BUNDLE (R113): A ledger or sentinel pair fetches, decodes and issues the bundle at PCC, and it either retires whole or faults. -/
  | bundle (p : Nat)
  /-- MODE_SHADOW_END (R286): A write to STATUS, AMODE, CTXCFG, TTBC or BANKW takes effect at the fourth bundle after it. -/
  | modeShadowEnd (p : Nat)
  /-- LB (R145): Load byte, sign-extended, through a capability. -/
  | lb (p : Nat) (cd : RegIx) (cs1 : RegIx) (imm : Imm)
  /-- LBU (R145): Load byte, zero-extended. -/
  | lbu (p : Nat) (cd : RegIx) (cs1 : RegIx) (imm : Imm)
  /-- LH (R145): Load halfword, sign-extended. -/
  | lh (p : Nat) (cd : RegIx) (cs1 : RegIx) (imm : Imm)
  /-- LHU (R145): Load halfword, zero-extended. -/
  | lhu (p : Nat) (cd : RegIx) (cs1 : RegIx) (imm : Imm)
  /-- LW (R145): Load word, sign-extended. -/
  | lw (p : Nat) (cd : RegIx) (cs1 : RegIx) (imm : Imm)
  /-- LWU (R145): Load word, zero-extended. -/
  | lwu (p : Nat) (cd : RegIx) (cs1 : RegIx) (imm : Imm)
  /-- LD (R145): Load doubleword. -/
  | ld (p : Nat) (cd : RegIx) (cs1 : RegIx) (imm : Imm)
  /-- CLC (R48): Load a capability, keeping its tag only where LC, PTE.CL and the load barrier allow. -/
  | clc (p : Nat) (cd : RegIx) (cs1 : RegIx) (imm : Imm)
  /-- SB (R147): Store byte through a capability. -/
  | sb (p : Nat) (cd : RegIx) (cs1 : RegIx) (imm : Imm)
  /-- SH (R147): Store halfword. -/
  | sh (p : Nat) (cd : RegIx) (cs1 : RegIx) (imm : Imm)
  /-- SW (R147): Store word. -/
  | sw (p : Nat) (cd : RegIx) (cs1 : RegIx) (imm : Imm)
  /-- SD (R147): Store doubleword. -/
  | sd (p : Nat) (cd : RegIx) (cs1 : RegIx) (imm : Imm)
  /-- CSC (R49): Store a capability with its tag, under SC, SL and PTE.CS. -/
  | csc (p : Nat) (cd : RegIx) (cs1 : RegIx) (imm : Imm)
  /-- LBX (R146): Indexed byte load, sign-extended. -/
  | lbx (p : Nat) (cd : RegIx) (cs1 : RegIx) (cs2 : RegIx)
  /-- LBUX (R146): Indexed byte load, zero-extended. -/
  | lbux (p : Nat) (cd : RegIx) (cs1 : RegIx) (cs2 : RegIx)
  /-- LHX (R146): Indexed halfword load, sign-extended. -/
  | lhx (p : Nat) (cd : RegIx) (cs1 : RegIx) (cs2 : RegIx)
  /-- LHUX (R146): Indexed halfword load, zero-extended. -/
  | lhux (p : Nat) (cd : RegIx) (cs1 : RegIx) (cs2 : RegIx)
  /-- LWX (R146): Indexed word load, sign-extended. -/
  | lwx (p : Nat) (cd : RegIx) (cs1 : RegIx) (cs2 : RegIx)
  /-- LWUX (R146): Indexed word load, zero-extended. -/
  | lwux (p : Nat) (cd : RegIx) (cs1 : RegIx) (cs2 : RegIx)
  /-- LDX (R146): Indexed doubleword load. -/
  | ldx (p : Nat) (cd : RegIx) (cs1 : RegIx) (cs2 : RegIx)
  /-- CLCX (R146): Indexed capability load. -/
  | clcx (p : Nat) (cd : RegIx) (cs1 : RegIx) (cs2 : RegIx)
  /-- SBX (R146): Indexed byte store. -/
  | sbx (p : Nat) (cd : RegIx) (cs1 : RegIx) (cs2 : RegIx)
  /-- SHX (R146): Indexed halfword store. -/
  | shx (p : Nat) (cd : RegIx) (cs1 : RegIx) (cs2 : RegIx)
  /-- SWX (R146): Indexed word store. -/
  | swx (p : Nat) (cd : RegIx) (cs1 : RegIx) (cs2 : RegIx)
  /-- SDX (R146): Indexed doubleword store. -/
  | sdx (p : Nat) (cd : RegIx) (cs1 : RegIx) (cs2 : RegIx)
  /-- CSCX (R146): Indexed capability store. -/
  | cscx (p : Nat) (cd : RegIx) (cs1 : RegIx) (cs2 : RegIx)
  /-- LRC_D (R152): Load 8 bytes and set the pair's reservation on the line. -/
  | lrcD (p : Nat) (cd : RegIx) (cs1 : RegIx)
  /-- LRC_C (R152): Load a capability and set the pair's reservation on the line. -/
  | lrcC (p : Nat) (cd : RegIx) (cs1 : RegIx)
  /-- SCC_D (R153): Store 8 bytes if the reservation is held, and write the status. -/
  | sccD (p : Nat) (cd : RegIx) (cs1 : RegIx) (cs2 : RegIx)
  /-- SCC_C (R153): Store a capability if the reservation is held, and write the status. -/
  | sccC (p : Nat) (cd : RegIx) (cs1 : RegIx) (cs2 : RegIx)
  /-- CMOVE (R144): Copy a capability register with its tag. -/
  | cmove (p : Nat) (cd : RegIx) (cs1 : RegIx)
  /-- CSETADDR (R40): Set the cursor, keeping the tag only if the new cursor is representable. -/
  | csetaddr (p : Nat) (cd : RegIx) (cs1 : RegIx) (cs2 : RegIx)
  /-- CINCADDR (R40): Add to the cursor. -/
  | cincaddr (p : Nat) (cd : RegIx) (cs1 : RegIx) (cs2 : RegIx)
  /-- CINCADDRI (R144): Add an immediate to the cursor. -/
  | cincaddri (p : Nat) (cd : RegIx) (cs1 : RegIx) (imm : Imm)
  /-- CSETBOUNDS (R43): Narrow the bounds to [cursor, cursor + length), rounded outward. -/
  | csetbounds (p : Nat) (cd : RegIx) (cs1 : RegIx) (cs2 : RegIx)
  /-- CSETBOUNDSX (R44): Narrow the bounds exactly, or clear the tag. -/
  | csetboundsx (p : Nat) (cd : RegIx) (cs1 : RegIx) (cs2 : RegIx)
  /-- CANDPERM (R62): AND the permissions with a mask. -/
  | candperm (p : Nat) (cd : RegIx) (cs1 : RegIx) (cs2 : RegIx)
  /-- CCLEARTAG (R144): Copy the 128 bits of a capability with the tag clear. -/
  | ccleartag (p : Nat) (cd : RegIx) (cs1 : RegIx)
  /-- CSEAL (R57): Seal a capability with the type named by an SE authority. -/
  | cseal (p : Nat) (cd : RegIx) (cs1 : RegIx) (cs2 : RegIx)
  /-- CUNSEAL (R58): Unseal a capability with a matching US authority. -/
  | cunseal (p : Nat) (cd : RegIx) (cs1 : RegIx) (cs2 : RegIx)
  /-- CSEALENTRY (R59): Seal a capability as a sentry. -/
  | csealentry (p : Nat) (cd : RegIx) (cs1 : RegIx)
  /-- CGETTAG (R61): Return the tag as an integer. -/
  | cgettag (p : Nat) (cd : RegIx) (cs1 : RegIx)
  /-- CGETPERM (R61): Return PERMS. -/
  | cgetperm (p : Nat) (cd : RegIx) (cs1 : RegIx)
  /-- CGETTYPE (R61): Return OTYPE. -/
  | cgettype (p : Nat) (cd : RegIx) (cs1 : RegIx)
  /-- CGETADDR (R61): Return the cursor. -/
  | cgetaddr (p : Nat) (cd : RegIx) (cs1 : RegIx)
  /-- CGETBASE (R61): Return the decoded base. -/
  | cgetbase (p : Nat) (cd : RegIx) (cs1 : RegIx)
  /-- CGETTOP (R61): Return the decoded top. -/
  | cgettop (p : Nat) (cd : RegIx) (cs1 : RegIx)
  /-- CGETLEN (R61): Return the decoded length. -/
  | cgetlen (p : Nat) (cd : RegIx) (cs1 : RegIx)
  /-- CRRL (R45): Return the representable length. -/
  | crrl (p : Nat) (cd : RegIx) (cs1 : RegIx)
  /-- CRAM (R45): Return the representable alignment mask. -/
  | cram (p : Nat) (cd : RegIx) (cs1 : RegIx)
  /-- ADD (R139): Integer add modulo 2^64. -/
  | add (p : Nat) (cd : RegIx) (cs1 : RegIx) (cs2 : RegIx)
  /-- SUB (R139): Integer subtract. -/
  | sub (p : Nat) (cd : RegIx) (cs1 : RegIx) (cs2 : RegIx)
  /-- ADDV (R139): Add, setting OV on signed overflow. -/
  | addv (p : Nat) (cd : RegIx) (cs1 : RegIx) (cs2 : RegIx)
  /-- SUBV (R139): Subtract, setting OV on signed overflow. -/
  | subv (p : Nat) (cd : RegIx) (cs1 : RegIx) (cs2 : RegIx)
  /-- ADDS (R139): Saturating add. -/
  | adds (p : Nat) (cd : RegIx) (cs1 : RegIx) (cs2 : RegIx)
  /-- SUBS (R139): Saturating subtract. -/
  | subs (p : Nat) (cd : RegIx) (cs1 : RegIx) (cs2 : RegIx)
  /-- NEG (R139): Negate. -/
  | neg (p : Nat) (cd : RegIx) (cs1 : RegIx)
  /-- NEGS (R139): Saturating negate. -/
  | negs (p : Nat) (cd : RegIx) (cs1 : RegIx)
  /-- AND (R139): Bitwise AND. -/
  | and (p : Nat) (cd : RegIx) (cs1 : RegIx) (cs2 : RegIx)
  /-- OR (R139): Bitwise OR. -/
  | or (p : Nat) (cd : RegIx) (cs1 : RegIx) (cs2 : RegIx)
  /-- XOR (R139): Bitwise XOR. -/
  | xor (p : Nat) (cd : RegIx) (cs1 : RegIx) (cs2 : RegIx)
  /-- ANDN (R139): AND with complement. -/
  | andn (p : Nat) (cd : RegIx) (cs1 : RegIx) (cs2 : RegIx)
  /-- ORN (R139): OR with complement. -/
  | orn (p : Nat) (cd : RegIx) (cs1 : RegIx) (cs2 : RegIx)
  /-- MIN (R139): Signed minimum. -/
  | min (p : Nat) (cd : RegIx) (cs1 : RegIx) (cs2 : RegIx)
  /-- MAX (R139): Signed maximum. -/
  | max (p : Nat) (cd : RegIx) (cs1 : RegIx) (cs2 : RegIx)
  /-- MINU (R139): Unsigned minimum. -/
  | minu (p : Nat) (cd : RegIx) (cs1 : RegIx) (cs2 : RegIx)
  /-- MAXU (R139): Unsigned maximum. -/
  | maxu (p : Nat) (cd : RegIx) (cs1 : RegIx) (cs2 : RegIx)
  /-- SLT (R139): Set if less than, signed. -/
  | slt (p : Nat) (cd : RegIx) (cs1 : RegIx) (cs2 : RegIx)
  /-- SLTU (R139): Set if less than, unsigned. -/
  | sltu (p : Nat) (cd : RegIx) (cs1 : RegIx) (cs2 : RegIx)
  /-- CLZ (R139): Count leading zeros. -/
  | clz (p : Nat) (cd : RegIx) (cs1 : RegIx)
  /-- CTZ (R139): Count trailing zeros. -/
  | ctz (p : Nat) (cd : RegIx) (cs1 : RegIx)
  /-- POPC (R139): Population count. -/
  | popc (p : Nat) (cd : RegIx) (cs1 : RegIx)
  /-- SEXTB (R139): Sign-extend a byte. -/
  | sextb (p : Nat) (cd : RegIx) (cs1 : RegIx)
  /-- SEXTH (R139): Sign-extend a halfword. -/
  | sexth (p : Nat) (cd : RegIx) (cs1 : RegIx)
  /-- SEXTW (R139): Sign-extend a word. -/
  | sextw (p : Nat) (cd : RegIx) (cs1 : RegIx)
  /-- ZEXTW (R139): Zero-extend a word. -/
  | zextw (p : Nat) (cd : RegIx) (cs1 : RegIx)
  /-- MFS (R125): Read a special register under its guard. -/
  | mfs (p : Nat) (cd : RegIx) (sr : RegIx) (cs2 : RegIx)
  /-- MTS (R125): Write a special register under its guard, or a window bank's register. -/
  | mts (p : Nat) (sr : RegIx) (cs1 : RegIx) (cs2 : RegIx)
  /-- PAND (R139): Predicate AND. -/
  | pand (p : Nat) (pd : PredIx) (ps1 : PredIx) (ps2 : PredIx)
  /-- POR (R139): Predicate OR. -/
  | por (p : Nat) (pd : PredIx) (ps1 : PredIx) (ps2 : PredIx)
  /-- PXOR (R139): Predicate XOR. -/
  | pxor (p : Nat) (pd : PredIx) (ps1 : PredIx) (ps2 : PredIx)
  /-- PANDN (R139): Predicate AND NOT. -/
  | pandn (p : Nat) (pd : PredIx) (ps1 : PredIx) (ps2 : PredIx)
  /-- PGET (R139): Read the predicates into an integer. -/
  | pget (p : Nat) (cd : RegIx)
  /-- PPUT (R139): Write p1–p7 from an integer. -/
  | pput (p : Nat) (cs1 : RegIx)
  /-- SLL (R139): Shift left logical by a register. -/
  | sll (p : Nat) (cd : RegIx) (cs1 : RegIx) (cs2 : RegIx)
  /-- SRL (R139): Shift right logical by a register. -/
  | srl (p : Nat) (cd : RegIx) (cs1 : RegIx) (cs2 : RegIx)
  /-- SRA (R139): Shift right arithmetic by a register. -/
  | sra (p : Nat) (cd : RegIx) (cs1 : RegIx) (cs2 : RegIx)
  /-- MUL (R139): Multiply, low 64 bits. -/
  | mul (p : Nat) (cd : RegIx) (cs1 : RegIx) (cs2 : RegIx)
  /-- MULV (R139): Multiply, setting OV on overflow. -/
  | mulv (p : Nat) (cd : RegIx) (cs1 : RegIx) (cs2 : RegIx)
  /-- MULS (R139): Saturating multiply. -/
  | muls (p : Nat) (cd : RegIx) (cs1 : RegIx) (cs2 : RegIx)
  /-- MULH (R139): Signed multiply, high 64 bits. -/
  | mulh (p : Nat) (cd : RegIx) (cs1 : RegIx) (cs2 : RegIx)
  /-- MULHU (R139): Unsigned multiply, high 64 bits. -/
  | mulhu (p : Nat) (cd : RegIx) (cs1 : RegIx) (cs2 : RegIx)
  /-- DIV (R140): Signed divide. -/
  | div (p : Nat) (cd : RegIx) (cs1 : RegIx) (cs2 : RegIx)
  /-- DIVU (R140): Unsigned divide. -/
  | divu (p : Nat) (cd : RegIx) (cs1 : RegIx) (cs2 : RegIx)
  /-- REM (R140): Signed remainder. -/
  | rem (p : Nat) (cd : RegIx) (cs1 : RegIx) (cs2 : RegIx)
  /-- REMU (R140): Unsigned remainder. -/
  | remu (p : Nat) (cd : RegIx) (cs1 : RegIx) (cs2 : RegIx)
  /-- DIVS (R140): Saturating signed divide. -/
  | divs (p : Nat) (cd : RegIx) (cs1 : RegIx) (cs2 : RegIx)
  /-- ADDI (R141): Add an immediate. -/
  | addi (p : Nat) (cd : RegIx) (cs1 : RegIx) (imm : Imm)
  /-- ANDI (R141): AND with an immediate. -/
  | andi (p : Nat) (cd : RegIx) (cs1 : RegIx) (imm : Imm)
  /-- ORI (R141): OR with an immediate. -/
  | ori (p : Nat) (cd : RegIx) (cs1 : RegIx) (imm : Imm)
  /-- XORI (R141): XOR with an immediate. -/
  | xori (p : Nat) (cd : RegIx) (cs1 : RegIx) (imm : Imm)
  /-- SLLI (R141): Shift left logical by an immediate. -/
  | slli (p : Nat) (cd : RegIx) (cs1 : RegIx) (amt : BitVec 6)
  /-- SRLI (R141): Shift right logical by an immediate. -/
  | srli (p : Nat) (cd : RegIx) (cs1 : RegIx) (amt : BitVec 6)
  /-- SRAI (R141): Shift right arithmetic by an immediate. -/
  | srai (p : Nat) (cd : RegIx) (cs1 : RegIx) (amt : BitVec 6)
  /-- COMPARE (R142): Compare two integers into a predicate and, optionally, its complement. -/
  | compare (p : Nat) (pd : PredIx) (pc : PredIx) (cond : BitVec 3) (cs1 : RegIx) (cs2 : RegIx)
  /-- WADD (R143): Wide add. -/
  | wadd (p : Nat) (cd : RegIx) (cs1 : RegIx) (cs2 : RegIx)
  /-- WSUB (R143): Wide subtract. -/
  | wsub (p : Nat) (cd : RegIx) (cs1 : RegIx) (cs2 : RegIx)
  /-- WADDV (R143): Wide add with OV. -/
  | waddv (p : Nat) (cd : RegIx) (cs1 : RegIx) (cs2 : RegIx)
  /-- WSUBV (R143): Wide subtract with OV. -/
  | wsubv (p : Nat) (cd : RegIx) (cs1 : RegIx) (cs2 : RegIx)
  /-- WADDS (R143): Wide saturating add. -/
  | wadds (p : Nat) (cd : RegIx) (cs1 : RegIx) (cs2 : RegIx)
  /-- WSUBS (R143): Wide saturating subtract. -/
  | wsubs (p : Nat) (cd : RegIx) (cs1 : RegIx) (cs2 : RegIx)
  /-- WNEG (R143): Wide negate. -/
  | wneg (p : Nat) (cd : RegIx) (cs1 : RegIx)
  /-- WNEGS (R143): Wide saturating negate. -/
  | wnegs (p : Nat) (cd : RegIx) (cs1 : RegIx)
  /-- WAND (R143): Wide AND. -/
  | wand (p : Nat) (cd : RegIx) (cs1 : RegIx) (cs2 : RegIx)
  /-- WOR (R143): Wide OR. -/
  | wor (p : Nat) (cd : RegIx) (cs1 : RegIx) (cs2 : RegIx)
  /-- WXOR (R143): Wide XOR. -/
  | wxor (p : Nat) (cd : RegIx) (cs1 : RegIx) (cs2 : RegIx)
  /-- WSLL (R143): Wide shift left by a register. -/
  | wsll (p : Nat) (cd : RegIx) (cs1 : RegIx) (cs2 : RegIx)
  /-- WSRL (R143): Wide shift right logical by a register. -/
  | wsrl (p : Nat) (cd : RegIx) (cs1 : RegIx) (cs2 : RegIx)
  /-- WSRA (R143): Wide shift right arithmetic by a register. -/
  | wsra (p : Nat) (cd : RegIx) (cs1 : RegIx) (cs2 : RegIx)
  /-- WMUL (R143): Wide multiply. -/
  | wmul (p : Nat) (cd : RegIx) (cs1 : RegIx) (cs2 : RegIx)
  /-- WMULV (R143): Wide multiply with OV. -/
  | wmulv (p : Nat) (cd : RegIx) (cs1 : RegIx) (cs2 : RegIx)
  /-- WMULS (R143): Wide saturating multiply. -/
  | wmuls (p : Nat) (cd : RegIx) (cs1 : RegIx) (cs2 : RegIx)
  /-- WMULX (R143): Signed 64 × 64 to 128 multiply. -/
  | wmulx (p : Nat) (cd : RegIx) (cs1 : RegIx) (cs2 : RegIx)
  /-- WMULXU (R143): Unsigned 64 × 64 to 128 multiply. -/
  | wmulxu (p : Nat) (cd : RegIx) (cs1 : RegIx) (cs2 : RegIx)
  /-- WDIV (R143): Wide signed divide. -/
  | wdiv (p : Nat) (cd : RegIx) (cs1 : RegIx) (cs2 : RegIx)
  /-- WREM (R143): Wide signed remainder. -/
  | wrem (p : Nat) (cd : RegIx) (cs1 : RegIx) (cs2 : RegIx)
  /-- WDIVS (R143): Wide saturating divide. -/
  | wdivs (p : Nat) (cd : RegIx) (cs1 : RegIx) (cs2 : RegIx)
  /-- WSEXT (R143): Sign-extend to 128 bits. -/
  | wsext (p : Nat) (cd : RegIx) (cs1 : RegIx)
  /-- WZEXT (R143): Zero-extend to 128 bits. -/
  | wzext (p : Nat) (cd : RegIx) (cs1 : RegIx)
  /-- WPACK (R143): Pack two 64-bit halves into a wide value. -/
  | wpack (p : Nat) (cd : RegIx) (cs1 : RegIx) (cs2 : RegIx)
  /-- WHI (R143): Extract the upper 64 bits. -/
  | whi (p : Nat) (cd : RegIx) (cs1 : RegIx)
  /-- WSLLI (R143): Wide shift left by an immediate. -/
  | wslli (p : Nat) (cd : RegIx) (cs1 : RegIx) (amt : BitVec 7)
  /-- WSRLI (R143): Wide shift right logical by an immediate. -/
  | wsrli (p : Nat) (cd : RegIx) (cs1 : RegIx) (amt : BitVec 7)
  /-- WSRAI (R143): Wide shift right arithmetic by an immediate. -/
  | wsrai (p : Nat) (cd : RegIx) (cs1 : RegIx) (amt : BitVec 7)
  /-- WADDI (R143): Wide add of an immediate. -/
  | waddi (p : Nat) (cd : RegIx) (cs1 : RegIx) (imm : Imm)
  /-- WIDE_COMPARE (R142): Compare two wide values into predicates. -/
  | wideCompare (p : Nat) (pd : PredIx) (pc : PredIx) (cond : BitVec 3) (cs1 : RegIx) (cs2 : RegIx)
  /-- ACLR (R184): Clear an accumulator. -/
  | aclr (p : Nat) (ad : AccIx)
  /-- AMOVA (R184): Copy an accumulator. -/
  | amova (p : Nat) (ad : AccIx) (as_ : AccIx)
  /-- ASETW (R184): Set an accumulator from a wide register. -/
  | asetw (p : Nat) (ad : AccIx) (cs1 : RegIx)
  /-- ASETX (R184): Set an accumulator from Q1.63. -/
  | asetx (p : Nat) (ad : AccIx) (cs1 : RegIx)
  /-- ASETM (R184): Set an accumulator from 64-bit money. -/
  | asetm (p : Nat) (ad : AccIx) (cs1 : RegIx)
  /-- AGETG (R184): Read the guard bits of an accumulator. -/
  | agetg (p : Nat) (cd : RegIx) (as_ : AccIx)
  /-- ANEG (R184): Negate an accumulator. -/
  | aneg (p : Nat) (ad : AccIx)
  /-- AGETR (R184): Read the raw low 128 bits of an accumulator. -/
  | agetr (p : Nat) (cd : RegIx) (as_ : AccIx)
  /-- ASETG (R184): Write the guard bits of an accumulator. -/
  | asetg (p : Nat) (ad : AccIx) (cs1 : RegIx)
  /-- QMUL (R185): Q1.63 multiply into an accumulator. -/
  | qmul (p : Nat) (ad : AccIx) (cs1 : RegIx) (cs2 : RegIx)
  /-- QMAC (R185): Q1.63 multiply-accumulate. -/
  | qmac (p : Nat) (ad : AccIx) (cs1 : RegIx) (cs2 : RegIx)
  /-- QMSU (R185): Q1.63 multiply-subtract. -/
  | qmsu (p : Nat) (ad : AccIx) (cs1 : RegIx) (cs2 : RegIx)
  /-- MMUL (R185): Money multiply into an accumulator. -/
  | mmul (p : Nat) (ad : AccIx) (cs1 : RegIx) (cs2 : RegIx)
  /-- MMAC (R185): Money multiply-accumulate. -/
  | mmac (p : Nat) (ad : AccIx) (cs1 : RegIx) (cs2 : RegIx)
  /-- MMSU (R185): Money multiply-subtract. -/
  | mmsu (p : Nat) (ad : AccIx) (cs1 : RegIx) (cs2 : RegIx)
  /-- AADDW (R185): Add a wide value to an accumulator. -/
  | aaddw (p : Nat) (ad : AccIx) (cs1 : RegIx)
  /-- ASUBW (R185): Subtract a wide value from an accumulator. -/
  | asubw (p : Nat) (ad : AccIx) (cs1 : RegIx)
  /-- AADDQ (R185): Add a Q1.63 value to an accumulator. -/
  | aaddq (p : Nat) (ad : AccIx) (cs1 : RegIx)
  /-- ASUBQ (R185): Subtract a Q1.63 value from an accumulator. -/
  | asubq (p : Nat) (ad : AccIx) (cs1 : RegIx)
  /-- AADDA (R185): Add one accumulator to another. -/
  | aadda (p : Nat) (ad : AccIx) (as_ : AccIx)
  /-- ARNDQ (R186): Round an accumulator to Q1.63. -/
  | arndq (p : Nat) (cd : RegIx) (as_ : AccIx)
  /-- ARNDW (R186): Round an accumulator to 128 bits. -/
  | arndw (p : Nat) (cd : RegIx) (as_ : AccIx)
  /-- ASHRQ (R186): Shift and round an accumulator to 64 bits. -/
  | ashrq (p : Nat) (cd : RegIx) (as_ : AccIx) (cs2 : RegIx)
  /-- ASHRW (R186): Shift and round an accumulator to 128 bits. -/
  | ashrw (p : Nat) (cd : RegIx) (as_ : AccIx) (cs2 : RegIx)
  /-- ARNDM (R186): Round an accumulator to 64-bit money. -/
  | arndm (p : Nat) (cd : RegIx) (as_ : AccIx)
  /-- QADD (R187): Q1.63 add. -/
  | qadd (p : Nat) (cd : RegIx) (cs1 : RegIx) (cs2 : RegIx)
  /-- QSUB (R187): Q1.63 subtract. -/
  | qsub (p : Nat) (cd : RegIx) (cs1 : RegIx) (cs2 : RegIx)
  /-- QMULR (R187): Q1.63 multiply with rounding. -/
  | qmulr (p : Nat) (cd : RegIx) (cs1 : RegIx) (cs2 : RegIx)
  /-- QNEG (R187): Q1.63 negate. -/
  | qneg (p : Nat) (cd : RegIx) (cs1 : RegIx)
  /-- WQADD (R187): Q1.127 add. -/
  | wqadd (p : Nat) (cd : RegIx) (cs1 : RegIx) (cs2 : RegIx)
  /-- WQSUB (R187): Q1.127 subtract. -/
  | wqsub (p : Nat) (cd : RegIx) (cs1 : RegIx) (cs2 : RegIx)
  /-- WQMULR (R187): Q1.127 multiply with rounding. -/
  | wqmulr (p : Nat) (cd : RegIx) (cs1 : RegIx) (cs2 : RegIx)
  /-- WQNEG (R187): Q1.127 negate. -/
  | wqneg (p : Nat) (cd : RegIx) (cs1 : RegIx)
  /-- QTOW (R187): Convert Q1.63 to Q1.127. -/
  | qtow (p : Nat) (cd : RegIx) (cs1 : RegIx)
  /-- WTOQ (R187): Round Q1.127 to Q1.63. -/
  | wtoq (p : Nat) (cd : RegIx) (cs1 : RegIx)
  /-- QDIV (R188): Q1.63 divide. -/
  | qdiv (p : Nat) (cd : RegIx) (cs1 : RegIx) (cs2 : RegIx)
  /-- WQDIV (R188): Q1.127 divide. -/
  | wqdiv (p : Nat) (cd : RegIx) (cs1 : RegIx) (cs2 : RegIx)
  /-- MDIV (R188): Money divide with rounding. -/
  | mdiv (p : Nat) (cd : RegIx) (cs1 : RegIx) (cs2 : RegIx)
  /-- MSCALE (R188): Multiply by a ratio with one rounding. -/
  | mscale (p : Nat) (cd : RegIx) (cs1 : RegIx) (cs2 : RegIx)
  /-- MMULQ (R188): Multiply money by Q1.63 with rounding. -/
  | mmulq (p : Nat) (cd : RegIx) (cs1 : RegIx)
  /-- MRND (R189): Round to a multiple of BKQ. -/
  | mrnd (p : Nat) (cd : RegIx) (cs1 : RegIx)
  /-- MBRK (R189): Return the breakage that MRND discards. -/
  | mbrk (p : Nat) (cd : RegIx) (cs1 : RegIx)
  /-- MRNDX (R189): Round a 64-bit value to a multiple of BKQ. -/
  | mrndx (p : Nat) (cd : RegIx) (cs1 : RegIx)
  /-- FSYNC (R192): Wait for earlier T syllables and raise a pending imprecise ARITH. -/
  | fsync (p : Nat)
  /-- TADD (R211): Send a stamped add to the tally unit that owns the pool cell. -/
  | tadd (p : Nat) (cd : RegIx) (cs1 : RegIx) (cs2 : RegIx) (ca : RegIx)
  /-- TCLOSE (R212): Send a close request for a pool cell. -/
  | tclose (p : Nat) (cd : RegIx) (cs1 : RegIx) (cs2 : RegIx)
  /-- TREAD (R213): Request a consistent snapshot of a pool cell. -/
  | tread (p : Nat) (cd : RegIx) (cs1 : RegIx) (cs2 : RegIx)
  /-- STM (R157): Store the masked registers to consecutive granules, keeping progress. -/
  | stm (p : Nat) (cs1 : RegIx) (cs2 : RegIx)
  /-- LDM (R157): Load the masked registers, keeping progress. -/
  | ldm (p : Nat) (cs1 : RegIx) (cs2 : RegIx)
  /-- SVCTX_U (R158): Push an upper save area onto a list. -/
  | svctxU (p : Nat) (cd : RegIx) (cs1 : RegIx)
  /-- SVCTX_L (R158): Push a lower save area onto a list. -/
  | svctxL (p : Nat) (cd : RegIx) (cs1 : RegIx)
  /-- LDCTX_U (R158): Pop an upper save area. -/
  | ldctxU (p : Nat) (cd : RegIx)
  /-- LDCTX_L (R159): Pop a lower save area and continue at the restored PCC. -/
  | ldctxL (p : Nat) (cd : RegIx)
  /-- BR (R161): Branch relative to the bundle. -/
  | br (p : Nat) (imm : Imm)
  /-- CJR (R54): Jump through a capability. -/
  | cjr (p : Nat) (cs1 : RegIx)
  /-- CJALR (R55): Jump through a capability and link a return sentry. -/
  | cjalr (p : Nat) (cd : RegIx) (cs1 : RegIx)
  /-- CALLM (R162): Save masked registers and call a target. -/
  | callm (p : Nat) (cd : RegIx) (cs1 : RegIx) (cs2 : RegIx) (imm : Imm)
  /-- CALLM_R (R163): Restore the CALLM frame and return through c1. -/
  | callmR (p : Nat) (cd : RegIx)
  /-- INVOKE (R245): Enter a gate: check the descriptor and arguments, write the frame and switch to the service stack. -/
  | invoke (p : Nat) (cs1 : RegIx)
  /-- RETG (R248): Return from a gate call through the gate-return capability. -/
  | retg (p : Nat) (cs1 : RegIx)
  /-- RETE (R237): End the running event, clear local capabilities and resume the interrupted context. -/
  | rete (p : Nat)
  /-- LOOP (R164): Set up a hardware loop in LC, LS and LE. -/
  | loop (p : Nat) (cs1 : RegIx) (imm : Imm)
  /-- REPI (R166): Repeat the next bundle LC times, interruptibly. -/
  | repi (p : Nat) (cs1 : RegIx)
  /-- REPU (R166): Repeat the next bundle at most 64 times, uninterruptibly. -/
  | repu (p : Nat) (cs1 : RegIx)
  /-- JAPP (R368): Check and read a payload and request a journal append. -/
  | japp (p : Nat) (cd : RegIx) (cs1 : RegIx) (cs2 : RegIx)
  /-- JSEAL (R369): Request a signing of the journal chain head. -/
  | jseal (p : Nat) (cd : RegIx) (cs1 : RegIx)
  /-- DRAW (R395): Check operands and send a draw request to the draw unit. -/
  | draw (p : Nat) (cd : RegIx) (cs1 : RegIx) (cs2 : RegIx)
  /-- ECLIPSE (R82): Mark the granules of a region as eclipsed in the revocation bitmap and return the covering epoch. -/
  | eclipse (p : Nat) (cd : RegIx) (cs1 : RegIx)
  /-- ECLIPSE_R (R85): Clear a region's bitmap bits if its epoch ticket has completed, or return EARLY. -/
  | eclipseR (p : Nat) (cd : RegIx) (cs1 : RegIx) (cs2 : RegIx)
  /-- MSYNC (R171): Wait until earlier accesses and invalidations complete and code and decode-table changes are visible. -/
  | msync (p : Nat)
  /-- IFLUSH (R172): On a sentinel, wait for TCM stores and discard fetched syllables. -/
  | iflush (p : Nat)
  /-- TLBINV_VA (R173): Invalidate TLB entries for one page and ASID module-wide. -/
  | tlbinvVa (p : Nat) (cs1 : RegIx) (cs2 : RegIx)
  /-- TLBINV_ASID (R173): Invalidate all non-global entries of an ASID. -/
  | tlbinvAsid (p : Nat) (cs2 : RegIx)
  /-- TLBINV_ALL (R173): Invalidate all TLB entries. -/
  | tlbinvAll (p : Nat)
  /-- WALKINV_VA (R173): Invalidate walk-cache entries on an address's path at selected levels. -/
  | walkinvVa (p : Nat) (cs1 : RegIx) (cs2 : RegIx)
  /-- WALKINV_ALL (R173): Invalidate all walk-cache entries. -/
  | walkinvAll (p : Nat)
  /-- CUSTOM_SYLLABLE (R416): Run a decode-table entry's micro-ops as one atomic syllable. -/
  | customSyllable (p : Nat) (n : BitVec 6) (cd : RegIx) (cs1 : RegIx) (cs2 : RegIx)
  /-- DIVERGENCE (R282): The reflection checker finds a miscompare and halts the pair. -/
  | divergence (p : Nat)
  /-- DIVERGENCE_RECORD (R380): After tally settlement, the dispatch unit requests the divergence record listing unjournaled adds and orphaned appends. -/
  | divergenceRecord (p : Nat)
  /-- HALT_RECORD (R380): After a lockup's settlement, the halt record is requested. -/
  | haltRecord (p : Nat)
  /-- REDISPATCH (R276): Once the record has a sequence, the halted pair's banks are discarded and its mid-event tasks are re-entered elsewhere. -/
  | redispatch (p : Nat)
  /-- EVENT_SELECT (R262): The dispatch unit selects ready work for a pair, prefetches the entry capability and preloads the region set. -/
  | eventSelect (p : Nat)
  /-- EVENT_ENTRY (R235): At a bundle boundary the pair switches to the handler bank, checks the entry capability and delivers the payload. -/
  | eventEntry (p : Nat)
  /-- BANK_RESUMPTION (R264): A waiting or suspended bank becomes ready and is resumed as an entry. -/
  | bankResumption (p : Nat)
  /-- SPILL (R267): A victim bank is checked, copied to the spill buffer and released. -/
  | spill (p : Nat)
  /-- SPILL_WRITE_COMPLETE (R267): The background TSB write of a spill finishes with the dispatch word, and the task is recorded as spilled. -/
  | spillWriteComplete (p : Nat)
  /-- BACKGROUND_SPILL (R266): A spill starts by itself when fewer than FREEMIN banks are free. -/
  | backgroundSpill (p : Nat)
  /-- FILL (R268): A bank is filled from a TSB through the task table, with the fill sweep. -/
  | fill (p : Nat)
  /-- MASK_OVERSTAY (R227): The pair's mask timer reaches its limit and a notice is sent. -/
  | maskOverstay (p : Nat)
  /-- FAULT_TIMEOUT (R229): A fault not entered within EXC_FAULTLIM escalates with reason FAULT_TIMEOUT. -/
  | faultTimeout (p : Nat) (b : Nat)
  /-- EVD_POST (R258): A software post to a channel increments PEND or is dropped. -/
  | evdPost (ch : BitVec 12)
  /-- EVD_ENABLE (R275): EVD_CTRL.EN rising enters each enabled pair's init task. -/
  | evdEnable
  /-- INVTASK (R252): Apply a task table entry change and record the task as spilled or not. -/
  | invtask (t : BitVec 16)
  /-- END (R274): Free a suspended or idle task's bank and delete its delivery record. -/
  | evdEnd (t : BitVec 16)
  /-- CLRCH (R280): Clear a channel's DROPPED and POSTED counts. -/
  | clrch (ch : BitVec 16)
  /-- EVD_CLRCNT (R280): Clear the dispatch counters. -/
  | evdClrcnt
  /-- RESTART (R275): Free all banks of a halted pair, clear its state and enter its init task. -/
  | restart (pair : BitVec 16)
  /-- EXC_CLRCNT (R250): Clear EXC_ESCCNT. -/
  | excClrcnt
  /-- LOCKUP_CLEAR (R242): A write of 1 clears a restarted pair's lockup bit, or is refused while halted. -/
  | lockupClear (second : Bool) (mask : BitVec 64)
  /-- LOCK_POINT (R564): In CERTIFIED, RWL fields lock at the first dispatch enable or 60 s after power-good. -/
  | lockPoint
  /-- ECL_START (R95): Start an epoch at its cover point, or report IGNORED. -/
  | eclStart
  /-- ECL_AUTO_START (R95): With AUTO set, an epoch starts by itself when the sweeper is idle and an ECLIPSE has retired. -/
  | eclAutoStart
  /-- ECL_ABORT (R96): Abort the running epoch. -/
  | eclAbort
  /-- ECL_CLRCNT (R100): Clear the Eclipse telemetry counters. -/
  | eclClrcnt
  /-- ECLIPSE_PASS (R93): An opening or closing pass interrupts a pair and sweeps its register banks. -/
  | eclipsePass (p : Nat)
  /-- SWEEP_GRANULE (R90): The sweeper reads a granule and atomically clears a revoked capability's tag. -/
  | sweepGranule
  /-- ECL_PHASE_ADVANCE (R89): The epoch completes a phase and begins the next. -/
  | eclPhaseAdvance
  /-- EPOCH_COMPLETION (R89): The closing pass ends, ECL_EPOCH_DONE updates and the epoch record is appended. -/
  | epochCompletion
  /-- TALLY_DECISION_ARRIVAL (R215): A tally operation reaches its owning unit and is decided, joins a LOADING entry or parks. -/
  | tallyDecisionArrival (id : Nat)
  /-- COMB_LOAD_COMPLETE (R214): A LOADING entry's cell read returns and its waiting operations are decided in order. -/
  | combLoadComplete (cell : Nat)
  /-- COMB_WINDOW_EXPIRY (R214): WIN fabric cycles after the first unwritten change, an entry starts its write-back. -/
  | combWindowExpiry (cell : Nat)
  /-- COMB_WRITEBACK_COMPLETE (R214): An entry's write-back completes and it returns to clean ACTIVE. -/
  | combWritebackComplete (cell : Nat)
  /-- UNPARK (R215): A parked tally operation leaves the pending queue when an entry can take it. -/
  | unpark (id : Nat)
  /-- PARK_TIMEOUT (R215): An operation parked for TALLY_PEND.LIMIT cycles returns RETRY. -/
  | parkTimeout (id : Nat)
  /-- TALLY_STATUS_RETURN (R206): The tally status reaches the pair and is written to cd. -/
  | tallyStatusReturn (id : Nat)
  /-- TALLY_ABORT (R219): Settle a halted core's tally operations. -/
  | tallyAbort (core : BitVec 7)
  /-- TALLY_CLRCNT (R221): Clear the per-channel tally counters and PEAK. -/
  | tallyClrcnt
  /-- CELL_LINE_ACCESS (R217): A load, store or DMA to a line held in a combining entry is routed through the tally unit. -/
  | cellLineAccess (pa : Nat)
  /-- JOURNAL_SEQUENCING (R372): The engine sequences a queued append or record, assigning sequence, time and previous hash, or returns FULL. -/
  | journalSequencing
  /-- SEAL_RECORD (R366): A signing ends and its seal record is sequenced. -/
  | sealRecord
  /-- DURABILITY_POINT (R374): An entry reaches local and, in SYNC, partner durability, and its receipt is minted. -/
  | durabilityPoint
  /-- JOURNAL_DUPCMP (R375): A miscompare in the duplicated sequencing logic stops the engine. -/
  | journalDupcmp
  /-- EPOCH_OPEN (R377): At boot the engine increments the epoch, scans the array and appends the epoch-open record. -/
  | epochOpen
  /-- JRN_SEAL_CMD (R365): JRN_CMD.SEAL requests a signing. -/
  | jrnSealCmd
  /-- JRN_CLRCNT (R391): Clear the journal counters. -/
  | jrnClrcnt
  /-- JRN_REPL_WRITE (R381): A change of MODE or DOWNPOL appends a mode-change record. -/
  | jrnReplWrite (p : Nat) (val : BitVec 64)
  /-- JRN_LOOKUP (R391): Start a lookup of an entry's array offset. -/
  | jrnLookup (seq : BitVec 64)
  /-- LOOKUP_COMPLETE (R391): A journal lookup finishes and JRN_LOOKUP_RES becomes valid. -/
  | lookupComplete
  /-- ENTRY_SEND (R382): The primary sends each locally durable entry to the partner in the ENTRY class. -/
  | entrySend
  /-- ENTRY (R383): A standby checks a received entry against its head and writes it, or reads FORKED. -/
  | entry (seq : BitVec 64) (body : List Byte)
  /-- ENTRY_ACK (R382): A cumulative acknowledgement from the partner updates JRN_PACK_SEQ and releases synchronous receipts. -/
  | entryAck (seq : BitVec 64)
  /-- ACK_TIMEOUT (R382): No acknowledgement within ACKTO_US holds receipts or degrades to ASYNC by DOWNPOL. -/
  | ackTimeout
  /-- DRAIN_FRAME (R386): The engine sends durable entries to the archive as a drain frame. -/
  | drainFrame
  /-- ARCHIVE_ACK (R387): A verified archive acknowledgement advances the archive point; others are discarded. -/
  | archiveAck (body : List Byte)
  /-- ARCHIVE_RETRANSMIT (R388): With no acknowledgement within RTO_MS, the drain point returns to the archive point. -/
  | archiveRetransmit
  /-- DRAW_REQUEST (R397): The draw unit tests a request, marks its ID pending, generates and maps results and requests the draw record. -/
  | drawRequest
  /-- DRAW_COMPLETE (R397): After the record's durability point, the unit writes the results and the draw token. -/
  | drawComplete
  /-- GLINT_STARTUP_TEST (R393): Glint's startup test over 4,096 samples completes, and the DRBG instantiates or the unit halts. -/
  | glintStartupTest (pass : Bool)
  /-- HEALTH_FAILURE (R403): A continuous health test fails: the unit halts, stops the DRBG and raises the GLINT class. -/
  | healthFailure (apt : Bool)
  /-- DRAW_DUPCMP (R403): A miscompare in the draw unit's duplicated logic stops it. -/
  | drawDupcmp
  /-- DRW_CLRCNT (R407): Clear the draw counters. -/
  | drwClrcnt
  /-- ARB_DECISION (R345): A channel arbiter chooses the next owner of its data bus by forced win or lottery. -/
  | arbDecision (ch : Nat) (cand : BitVec 22) (cyc : Nat)
  /-- ARB_COMMIT (R350): A commit is sent to the named channels. -/
  | arbCommit (mask : BitVec 16)
  /-- COMMIT_ARRIVAL (R351): At a channel, the commit snapshots the shadow copy and is checked against the policy bounds. -/
  | commitArrival (ch : Nat)
  /-- HOLD_MONITOR (R348): A tenure reaching HOLDMON cycles is recorded and noticed. -/
  | holdMonitor (ch : Nat)
  /-- REFRESH (R349): Refresh falls due and takes the bus at the next decision. -/
  | refresh (ch : Nat)
  /-- PATROL_SCRUB (R342): The scrubber reads the next line of its package each INT_NS. -/
  | patrolScrub (ch : Nat) (found : Option Bool)
  /-- MCH_CLRCNT (R354): Clear every channel's counters. -/
  | mchClrcnt
  /-- PT_CLRCNT (R306): Clear every PT_OVCNT. -/
  | ptClrcnt
  /-- TR_CLRCNT (R336): Clear the translation and RCU counters. -/
  | trClrcnt
  /-- REGISTER_WRITE (R9): A write to a device register without behaviour of its own is applied by its field types. -/
  | registerWrite (src : Nat) (pa : Nat) (val : BitVec 64)
  /-- FABRIC_TIMEOUT (R543): A fabric transaction fails twice or times out after 100 µs and ends with an error completion. -/
  | fabricTimeout (unit : BitVec 8) (pa : Nat) (va : Nat) (store : Bool) (crc : Bool)
  /-- POWER_GOOD (R527): Every rail reaches regulation, PG_OUT asserts and pair 0 runs LBIST and starts the Lantern ROM. -/
  | powerGood
  /-- STRAP_SAMPLE (R428): The warden latches the straps, taking safe defaults for unaccepted or invalid values. -/
  | strapSample (straps : BitVec 14) (ok : BitVec 7)
  /-- SELFTEST (R430): LBIST and MBIST of the other pairs and arrays complete, marking failures. -/
  | selftest (failL : BitVec 96) (failS : BitVec 8) (failUnit : Bool)
  /-- DRAM_INIT (R431): The channels are trained and DRAM, tags and bitmap are cleared. -/
  | dramInit (fail : BitVec 16)
  /-- IMAGE_VERIFY (R434): The warden verifies the images of the selected set and copies ledger images. -/
  | imageVerify
  /-- SEN_START (R436): Start a sentinel pair from its verified image and start block. -/
  | senStart (val : BitVec 64)
  /-- MEASUREMENT_LOG_CLOSE (R439): The measurement log is closed before customer or ledger pairs run. -/
  | measurementLogClose
  /-- STRAP_CHECK (R429): Once per second the health sentinel compares the straps with SEN_STRAP. -/
  | strapCheck (straps : BitVec 14)
  /-- GOVERNOR_PASS (R442): Each GOV_PERIOD the governor reads telemetry and sets ratios, tickets and rates within bounds. -/
  | governorPass (inlet : Int) (bp : Option (Nat × Nat × Nat)) (sweep : Option (Nat × Nat × Nat)) (tkt : Option (Nat × Word × Word × Word × Word))
  /-- SEN_NQ_HI (R446): Reading SEN_NQ_HI returns and removes the oldest notice. -/
  | senNqHi (q : Nat)
  /-- RSTREQ (R447): Present a reset request to the REG and OPS ports. -/
  | rstreq
  /-- LC_QUERY (R516): Return lifecycle, status, alarm and boot state. -/
  | lcQuery (port : Nat) (tag : BitVec 32) (body : List Byte)
  /-- ATTEST (R440): Assemble and sign an attestation report over a nonce. -/
  | attest (port : Nat) (tag : BitVec 32) (body : List Byte)
  /-- JEXPORT (R516): Export an unbroken run of durable journal entries. -/
  | jexport (port : Nat) (tag : BitVec 32) (body : List Byte)
  /-- KEYGEN (R453): Generate the device identity key pair in BLANK. -/
  | keygen (port : Nat) (tag : BitVec 32) (body : List Byte)
  /-- RAW_CAPTURE (R392): Capture raw Glint samples in BLANK. -/
  | rawCapture (port : Nat) (tag : BitVec 32) (body : List Byte)
  /-- PROVISION (R453): Store keys and policy and enter PROVISIONED. -/
  | provision (port : Nat) (tag : BitVec 32) (body : List Byte)
  /-- CERTIFY (R453): Enter CERTIFIED for a matching policy digest. -/
  | certify (port : Nat) (tag : BitVec 32) (body : List Byte)
  /-- POLICY_SET (R456): Replace the policy and apply it to the registers it carries. -/
  | policySet (port : Nat) (tag : BitVec 32) (body : List Byte)
  /-- KEY_SET (R516): Set or clear a debug, operator or archive key. -/
  | keySet (port : Nat) (tag : BitVec 32) (body : List Byte)
  /-- MC_COMMIT (R419): Install the staged decode table in the boot store and every pair's pending copy. -/
  | mcCommit (port : Nat) (tag : BitVec 32) (body : List Byte)
  /-- TAKEOVER (R510): A REG command makes a standby take over the primary role. -/
  | takeover (port : Nat) (tag : BitVec 32) (body : List Byte)
  /-- DEBUG_CHALLENGE (R472): Return a debug unlock challenge. -/
  | debugChallenge (port : Nat) (tag : BitVec 32) (body : List Byte)
  /-- DEBUG_UNLOCK (R472): Verify a signed challenge and unlock debug for a time. -/
  | debugUnlock (port : Nat) (tag : BitVec 32) (body : List Byte)
  /-- DEBUG_LOCK (R472): Relock debug. -/
  | debugLock (port : Nat) (tag : BitVec 32) (body : List Byte)
  /-- DEBUG_UNLOCK_EXPIRY (R472): The unlock duration ends and debug relocks. -/
  | debugUnlockExpiry
  /-- DEBUG_CHALLENGE_EXPIRY (R472): A challenge lapses 60 s after issue. -/
  | debugChallengeExpiry
  /-- ALARM_RECOVER (R465): Recover the draw unit, an alarm hold or the ALARMED state. -/
  | alarmRecover (port : Nat) (tag : BitVec 32) (body : List Byte) (pass : Bool)
  /-- RESET (R376): A REG-commanded module reset, after the journal is flushed. -/
  | reset (port : Nat) (tag : BitVec 32) (body : List Byte)
  /-- IMG_STAGE (R516): Write an image set in recovery hold. -/
  | imgStage (port : Nat) (tag : BitVec 32) (body : List Byte)
  /-- RETIRE (R453): Erase keys, blow the fuse and enter RETIRED. -/
  | retire (port : Nat) (tag : BitVec 32) (body : List Byte)
  /-- FW_STAGE (R516): Verify a firmware image and write it to the set not running. -/
  | fwStage (port : Nat) (tag : BitVec 32) (body : List Byte)
  /-- MC_STAGE (R418): Verify and stage a decode-table package. -/
  | mcStage (port : Nat) (tag : BitVec 32) (body : List Byte)
  /-- CFG_SET (R468): Write non-RWL, non-policy registers within their ranges. -/
  | cfgSet (port : Nat) (tag : BitVec 32) (body : List Byte)
  /-- TELEM_READ (R516): Return telemetry register values. -/
  | telemRead (port : Nat) (tag : BitVec 32) (body : List Byte)
  /-- DETACH (R534): An OPS command starts an orderly detach. -/
  | detach (port : Nat) (tag : BitVec 32) (body : List Byte)
  /-- PRESENCE (R518): Return identity, state and pin status over CMB. -/
  | presence (pecOk : Bool)
  /-- POWER_REQ (R518): Start a detach over CMB. -/
  | powerReq (value : BitVec 8) (pecOk : Bool)
  /-- SENSOR_READ (R518): Return a sensor reading over CMB. -/
  | sensorRead (idx : BitVec 8) (reading : Int) (pecOk : Bool)
  /-- LED_SET (R518): Set the locate LED over CMB. -/
  | ledSet (value : BitVec 8) (pecOk : Bool)
  /-- MGMT_SEGMENT (R515): A management request segment arrives and is acknowledged, or rejected. -/
  | mgmtSegment (port : Nat) (seg : List Byte) (pass : Bool)
  /-- MGMT_TIMEOUT (R515): A segment or response wait expires and the command is abandoned. -/
  | mgmtTimeout (port : Nat)
  /-- DEBUG_ACCESS (R471): A debug port access is judged by state, unlock and debug set, and performed or refused. -/
  | debugAccess (fn : Nat) (pa : Nat) (wr : Bool) (val : BitVec 64)
  /-- ALARM_DETECTION (R459): An alarm class is detected and its LOG, HALT or ERASE policy applied. -/
  | alarmDetection (hits : List (Nat × Nat × Int)) (powerUp : Bool)
  /-- UMBRA_ERASE (R463): Keys and DRBG state are zeroised and the state becomes ALARMED. -/
  | umbraErase
  /-- ALARM_HOLD_BOOT (R461): A boot with a class latched records it and stays in alarm hold. -/
  | alarmHoldBoot
  /-- FRAME_RECEIVE (R481): A good frame is stamped, steered to a queue, written by DMA and posted or handed to the journal. -/
  | frameReceive (port : Nat) (bytes : List Byte) (fcsOk : Bool)
  /-- PORT_LINK_DOWN (R478): RS-FEC alignment lost for 1 ms takes a port down. -/
  | portLinkDown (port : Nat)
  /-- NET_RXQ_CFG_WRITE (R479): A receive queue configuration write is taken or ignored, and enabling rebuilds the free list. -/
  | netRxqCfgWrite (q : Nat) (val : BitVec 64)
  /-- NET_TXQ_TAIL (R484): Posting descriptors to a transmit queue. -/
  | netTxqTail (t : Nat) (val : BitVec 64)
  /-- TX_FRAME_SENT (R484): A transmit descriptor's frame is sent and its status written back. -/
  | txFrameSent (t : Nat)
  /-- SYNC (R491): An accepted PTP Sync from an allowed grandmaster drives the servo. -/
  | sync (port : Nat) (domain : BitVec 8) (ident : BitVec 64) (origin : Nat) (twoStep : Bool)
  /-- FOLLOW_UP (R490): An accepted Follow_Up message completes a two-step Sync. -/
  | followUp (port : Nat) (domain : BitVec 8) (ident : BitVec 64) (origin : Nat)
  /-- DELAY_RESP (R490): An accepted Delay_Resp message completes a delay measurement. -/
  | delayResp (port : Nat) (domain : BitVec 8) (ident : BitVec 64) (sent : Nat) (recv : Nat)
  /-- HOLDOVER (R492): No accepted Sync for TIMEOUT_MS puts secure time in HOLDOVER. -/
  | holdover
  /-- HB_SQ_DB (R498): A host doorbell stamps and copies submission entries and writes completions. -/
  | hbSqDb (h : Nat) (val : BitVec 64) (msgs : List (List Byte × Option (List Byte)))
  /-- HB_CQ_HEAD (R499): The host frees completion ring entries. -/
  | hbCqHead (h : Nat) (val : BitVec 64) (msgs : List (List Byte × Option (List Byte)))
  /-- HB_DR_HEAD (R500): The host frees delivery ring slots. -/
  | hbDrHead (r : Nat) (val : BitVec 64)
  /-- HOST_BAR0_WRITE (R497): A host write to another BAR0 register is applied, or discarded and counted. -/
  | hostBar0Write (off : Nat) (val : BitVec 64)
  /-- PCI_SQ_TAIL (R501): Module software posts send descriptors to the host. -/
  | pciSqTail (q : Nat) (val : BitVec 64)
  /-- HOST_DELIVERY (R500): A send descriptor's message is written into the next free delivery slot. -/
  | hostDelivery (q : Nat)
  /-- DELIVERY_RING_STALL (R501): A descriptor finding no free slot within STALL_MS completes with status 0x85. -/
  | deliveryRingStall (q : Nat)
  /-- PCIE_LINK_DOWN (R496): The PCI Express data link goes down and open transfers end. -/
  | pcieLinkDown
  /-- FLIT (R505): A Cuwen flit arrives and is accepted in order or discarded. -/
  | flit (link : Nat) (bytes : List Byte)
  /-- FLIT_REPLAY (R505): With no acknowledgement progress for 10 µs, the sender replays flits. -/
  | flitReplay (link : Nat)
  /-- CWL_LINK_UP (R511): A Cuwen link trains and a dual-primary claim is resolved. -/
  | cwlLinkUp (link : Nat) (primary : Bool) (gen : BitVec 32) (slot : BitVec 6)
  /-- CWL_LINK_DOWN (R507): A Cuwen link goes down and its classes move to the other link. -/
  | cwlLinkDown (link : Nat)
  /-- HEARTBEAT_SEND (R508): Each PERIOD_US a heartbeat flit is sent on each link that is up. -/
  | heartbeatSend
  /-- HEARTBEAT (R508): A heartbeat from the partner is received. -/
  | heartbeat (link : Nat) (body : List Byte)
  /-- PARTNER_LOSS (R509): No valid flit for LOSS_US marks the partner lost. -/
  | partnerLoss
  /-- AUTO_TAKEOVER (R510): With AUTO set, a standby takes over after TAKE_MS of partner loss. -/
  | autoTakeover
  /-- CWL_TAKEOVER (R510): A TAKEOVER message announces the new primary's generation. -/
  | cwlTakeover (gen : BitVec 32)
  /-- JOIN_REQ (R385): A joining module reports its head and the primary appends a join record. -/
  | joinReq (ident : BitVec 64) (head : BitVec 64) (hash : List Byte)
  /-- JOIN_RESP (R385): The joiner learns acceptance, wait-archive or fork. -/
  | joinResp (code : Nat)
  /-- CWL_DETACH (R510): A DETACH message marks the partner lost and may trigger takeover. -/
  | cwlDetach
  /-- FWD_REQ (R383): The primary sequences a record forwarded by the standby. -/
  | fwdReq (tag : BitVec 32) (body : List Byte)
  /-- FWD_RECEIPT (R383): The standby returns the forwarded receipt to its issuer. -/
  | fwdReceipt (tag : BitVec 32) (seq : BitVec 64)
  /-- FWD_STATUS (R383): The standby returns a forwarded status to its issuer. -/
  | fwdStatus (tag : BitVec 32) (st : BitVec 8)
  /-- WRITE (R513): A Cuwen DMA write lands in the window or is refused. -/
  | cwlWrite (tag : BitVec 32) (off : Nat) (data : List Byte)
  /-- WRITE_DONE (R506): The sender's open DMA write completes. -/
  | writeDone (st : Nat)
  /-- POST (R513): A partner notice word is posted on CWL_EVT. -/
  | cwlPost (word : BitVec 64)
  /-- INSERTION (R532): PRES_N low and VIN valid for 10 ms close the hot-swap controller and ramp. -/
  | insertion
  /-- RAMP_TIMEOUT (R532): A ramp not finished in 50 ms opens the controller for retry. -/
  | rampTimeout
  /-- PRES_N_RELEASE (R538): PRES_N high for 1 µs starts the power-loss sequence. -/
  | presNRelease
  /-- VIN_UNDERVOLTAGE (R538): VIN undervoltage starts the power-loss sequence. -/
  | vinUndervoltage (mv : Nat)
  /-- VIN_OVERVOLTAGE (R538): VIN overvoltage starts the power-loss sequence. -/
  | vinOvervoltage (mv : Nat)
  /-- OVER_CURRENT_TRIP (R525): Input above 25 A for 1 µs opens the controller. -/
  | overCurrentTrip
  /-- THERMAL_TRIP (R538): A die above 125 °C for 1 ms starts the power-loss sequence. -/
  | thermalTrip
  /-- SHUTDOWN_RECORD (R539): The write buffer reaches the array and the final head and completion mark are stored. -/
  | shutdownRecord
  /-- AUTO_RESTART (R540): After the trigger's wait the module reruns insertion. -/
  | autoRestart
  /-- FAST_LIMIT (R525): Input current above 18.5 A forces every pair to ÷6. -/
  | fastLimit (ma : Nat)
  /-- PARK (R526): VIN below the park threshold for 10 ms drains the module without detach. -/
  | park (mv : Nat)
  /-- EJECT (R534): EJECT_N opens and starts a drain. -/
  | eject (isOpen : Bool)
  /-- PWR_DETACH (R534): PWR_CMD.DETACH starts a drain. -/
  | pwrDetach
  /-- UNFORCE (R525): End the fast limit. -/
  | unforce
  /-- PWR_CLRCNT (R547): Clear the power counters. -/
  | pwrClrcnt
  /-- DRAIN_LIMIT (R535): After DRAIN_MS, pairs still holding a context stop. -/
  | drainLimit
  /-- READY_TO_REMOVE (R535): The drain completes, DRAM self-refreshes and the remove LED lights. -/
  | readyToRemove
  /-- HOLDUP_MEASURE (R533): Every 60 s the hold-up energy is measured and HOLDUP_OK updated. -/
  | holdupMeasure (mj : Nat)
  /-- RAIL_EXCURSION (R528): A rail outside ±10 % raises the RAIL class; beyond ±5 % is only counted. -/
  | railExcursion (rail : Nat) (wide : Bool) (reading : Int)
  /-- REFCLK_LOSS (R529): PLL lock loss or missing REFCLK is a class 4 detection. -/
  | refclkLoss (detail : Nat) (reading : Int)
  /-- CLK_RATIO (R531): A pair's clock ratio changes at its next bundle boundary. -/
  | clkRatio (k : Nat) (val : BitVec 64)
  /-- PORT_LINK_UP (R478): A 100G port completes training and RS-FEC alignment and NET_STATUS.LINK sets. -/
  | portLinkUp (port : Nat)
  /-- PCIE_LINK_UP (R493): The PCI Express data link trains and PCI_STATUS.LINK sets. -/
  | pcieLinkUp (width : BitVec 6) (speed : BitVec 4)
  /-- REG_KEY_CHANGE (R469): The REG_KEY switch (or REG_KEY_N) changes position and, after its 10 ms filter, SEC_STATUS.KEY follows. -/
  | regKeyChange (isClosed : Bool)
  /-- TIME_UNCERTAIN (R492): In HOLDOVER, the growing error estimate passes UNC_NS and secure time becomes time-uncertain. -/
  | timeUncertain
  /-- L3_SCRUB (R545): The L3 scrub reads every L3 line each 100 ms, correcting errors and clearing tags of uncorrectable lines. -/
  | l3Scrub (bad : List Nat)
  /-- SECURITY_MONITOR_MISCOMPARE (R545): The security monitor's duplicated control state machines miscompare and the module enters alarm hold. -/
  | securityMonitorMiscompare
  /-- ALARM_SOURCE_INACTIVE (R465): An alarm source ceases and its SEC_ALM_RAW bit clears after its filter. -/
  | alarmSourceInactive (cls : Nat)
  /-- POWER_GOOD_TIMEOUT (R527): Power-good is not reached within 20 ms of the ramp, so the rails shut down in reverse order and insertion is retried. -/
  | powerGoodTimeout
  /-- RAMP_RETRY (R532): One second after a failed ramp, the hot-swap controller retries, staying open after three failures. -/
  | rampRetry
  /-- CLOCK_LOW_TIMEOUT (R518): CMB clock held low for 25 ms makes the module release the bus. -/
  | clockLowTimeout
  /-- SEGMENT_ACKNOWLEDGEMENT (R515): A requester's acknowledgement of a response segment arrives, and the next response segment is sent. -/
  | segmentAcknowledgement (port : Nat)
  /-- OUTSIDE_RECOMMENDED_CONDITIONS (R544): A measured VIN, temperature or airflow condition leaves or re-enters the recommended range, changing FC_STATUS.ENV and COVERED with a coverage notice. -/
  | outsideRecommendedConditions (env : Bool)
deriving DecidableEq, Repr

end Sys2Proof
end

