-- ==== Sys2Proof/WellFormed.lean ====
section
/-!
DEFINITION. The well-formed commands: those whose operands name a unit, channel, port or link that the module has. A command
that names none faults (log 1).
-/
namespace Sys2Proof

/-- Does a command name only what the module has? -/
def Instr.wellFormed (i : Instr) : Bool :=
  match i with
  | .bundle p | .modeShadowEnd p | .fsync p | .rete p | .msync p | .iflush p | .tlbinvAll p | .walkinvAll p
  | .divergence p | .divergenceRecord p | .haltRecord p | .maskOverstay p | .eclipsePass p => decide (p < 104)
  | .lb p _ _ _ | .lbu p _ _ _ | .lh p _ _ _ | .lhu p _ _ _ | .lw p _ _ _ | .lwu p _ _ _ | .ld p _ _ _
  | .clc p _ _ _ | .sb p _ _ _ | .sh p _ _ _ | .sw p _ _ _ | .sd p _ _ _ | .csc p _ _ _ | .lbx p _ _ _
  | .lbux p _ _ _ | .lhx p _ _ _ | .lhux p _ _ _ | .lwx p _ _ _ | .lwux p _ _ _ | .ldx p _ _ _ | .clcx p _ _ _
  | .sbx p _ _ _ | .shx p _ _ _ | .swx p _ _ _ | .sdx p _ _ _ | .cscx p _ _ _ | .sccD p _ _ _ | .sccC p _ _ _
  | .csetaddr p _ _ _ | .cincaddr p _ _ _ | .cincaddri p _ _ _ | .csetbounds p _ _ _ | .csetboundsx p _ _ _
  | .candperm p _ _ _ | .cseal p _ _ _ | .cunseal p _ _ _ | .add p _ _ _ | .sub p _ _ _ | .addv p _ _ _
  | .subv p _ _ _ | .adds p _ _ _ | .subs p _ _ _ | .and p _ _ _ | .or p _ _ _ | .xor p _ _ _ | .andn p _ _ _
  | .orn p _ _ _ | .min p _ _ _ | .max p _ _ _ | .minu p _ _ _ | .maxu p _ _ _ | .slt p _ _ _ | .sltu p _ _ _
  | .mfs p _ _ _ | .mts p _ _ _ | .pand p _ _ _ | .por p _ _ _ | .pxor p _ _ _ | .pandn p _ _ _ | .sll p _ _ _
  | .srl p _ _ _ | .sra p _ _ _ | .mul p _ _ _ | .mulv p _ _ _ | .muls p _ _ _ | .mulh p _ _ _ | .mulhu p _ _ _
  | .div p _ _ _ | .divu p _ _ _ | .rem p _ _ _ | .remu p _ _ _ | .divs p _ _ _ | .addi p _ _ _ | .andi p _ _ _
  | .ori p _ _ _ | .xori p _ _ _ | .slli p _ _ _ | .srli p _ _ _ | .srai p _ _ _ | .wadd p _ _ _ | .wsub p _ _ _
  | .waddv p _ _ _ | .wsubv p _ _ _ | .wadds p _ _ _ | .wsubs p _ _ _ | .wand p _ _ _ | .wor p _ _ _
  | .wxor p _ _ _ | .wsll p _ _ _ | .wsrl p _ _ _ | .wsra p _ _ _ | .wmul p _ _ _ | .wmulv p _ _ _
  | .wmuls p _ _ _ | .wmulx p _ _ _ | .wmulxu p _ _ _ | .wdiv p _ _ _ | .wrem p _ _ _ | .wdivs p _ _ _
  | .wpack p _ _ _ | .wslli p _ _ _ | .wsrli p _ _ _ | .wsrai p _ _ _ | .waddi p _ _ _ | .qmul p _ _ _
  | .qmac p _ _ _ | .qmsu p _ _ _ | .mmul p _ _ _ | .mmac p _ _ _ | .mmsu p _ _ _ | .ashrq p _ _ _
  | .ashrw p _ _ _ | .qadd p _ _ _ | .qsub p _ _ _ | .qmulr p _ _ _ | .wqadd p _ _ _ | .wqsub p _ _ _
  | .wqmulr p _ _ _ | .qdiv p _ _ _ | .wqdiv p _ _ _ | .mdiv p _ _ _ | .mscale p _ _ _ | .tclose p _ _ _
  | .tread p _ _ _ | .japp p _ _ _ | .draw p _ _ _ | .eclipseR p _ _ _ => decide (p < 104)
  | .lrcD p _ _ | .lrcC p _ _ | .cmove p _ _ | .ccleartag p _ _ | .csealentry p _ _ | .cgettag p _ _
  | .cgetperm p _ _ | .cgettype p _ _ | .cgetaddr p _ _ | .cgetbase p _ _ | .cgettop p _ _ | .cgetlen p _ _
  | .crrl p _ _ | .cram p _ _ | .neg p _ _ | .negs p _ _ | .clz p _ _ | .ctz p _ _ | .popc p _ _ | .sextb p _ _
  | .sexth p _ _ | .sextw p _ _ | .zextw p _ _ | .wneg p _ _ | .wnegs p _ _ | .wsext p _ _ | .wzext p _ _
  | .whi p _ _ | .amova p _ _ | .asetw p _ _ | .asetx p _ _ | .asetm p _ _ | .agetg p _ _ | .agetr p _ _
  | .asetg p _ _ | .aaddw p _ _ | .asubw p _ _ | .aaddq p _ _ | .asubq p _ _ | .aadda p _ _ | .arndq p _ _
  | .arndw p _ _ | .arndm p _ _ | .qneg p _ _ | .wqneg p _ _ | .qtow p _ _ | .wtoq p _ _ | .mmulq p _ _
  | .mrnd p _ _ | .mbrk p _ _ | .mrndx p _ _ | .stm p _ _ | .ldm p _ _ | .svctxU p _ _ | .svctxL p _ _
  | .cjalr p _ _ | .loop p _ _ | .jseal p _ _ | .eclipse p _ _ | .tlbinvVa p _ _ | .walkinvVa p _ _ => decide (p < 104)
  | .pget p _ | .pput p _ | .aclr p _ | .aneg p _ | .ldctxU p _ | .ldctxL p _ | .br p _ | .cjr p _ | .callmR p _
  | .invoke p _ | .retg p _ | .repi p _ | .repu p _ | .tlbinvAsid p _ | .jrnReplWrite p _ => decide (p < 104)
  | .compare p _ _ _ _ _ | .wideCompare p _ _ _ _ _ => decide (p < 104)
  | .tadd p _ _ _ _ | .callm p _ _ _ _ | .customSyllable p _ _ _ _ => decide (p < 104)
  | .redispatch p | .eventSelect p | .eventEntry p | .bankResumption p | .spill p | .spillWriteComplete p
  | .backgroundSpill p | .fill p => decide (p < 96)
  | .faultTimeout p b => decide (p < 96) && decide (b < 16)
  | .evdPost _ | .invtask _ | .evdEnd _ | .clrch _ | .restart _ | .tallyDecisionArrival _ | .combLoadComplete _
  | .combWindowExpiry _ | .combWritebackComplete _ | .unpark _ | .parkTimeout _ | .tallyStatusReturn _
  | .tallyAbort _ | .jrnLookup _ | .entryAck _ | .archiveAck _ | .glintStartupTest _ | .healthFailure _
  | .arbCommit _ | .dramInit _ | .senStart _ | .strapCheck _ | .presence _ | .cwlTakeover _ | .joinResp _
  | .writeDone _ | .cwlPost _ | .vinUndervoltage _ | .vinOvervoltage _ | .fastLimit _ | .park _ | .eject _
  | .holdupMeasure _ | .regKeyChange _ | .l3Scrub _ | .outsideRecommendedConditions _ => true
  | .evdEnable | .evdClrcnt | .excClrcnt | .lockPoint | .eclStart | .eclAutoStart | .eclAbort | .eclClrcnt
  | .sweepGranule | .eclPhaseAdvance | .epochCompletion | .tallyClrcnt | .journalSequencing | .sealRecord
  | .durabilityPoint | .journalDupcmp | .epochOpen | .jrnSealCmd | .jrnClrcnt | .lookupComplete | .entrySend
  | .ackTimeout | .drainFrame | .archiveRetransmit | .drawRequest | .drawComplete | .drawDupcmp | .drwClrcnt
  | .mchClrcnt | .ptClrcnt | .trClrcnt | .powerGood | .imageVerify | .measurementLogClose | .rstreq
  | .debugUnlockExpiry | .debugChallengeExpiry | .umbraErase | .alarmHoldBoot | .holdover | .pcieLinkDown
  | .heartbeatSend | .partnerLoss | .autoTakeover | .cwlDetach | .insertion | .rampTimeout | .presNRelease
  | .overCurrentTrip | .thermalTrip | .shutdownRecord | .autoRestart | .pwrDetach | .unforce | .pwrClrcnt
  | .drainLimit | .readyToRemove | .timeUncertain | .securityMonitorMiscompare | .powerGoodTimeout | .rampRetry
  | .clockLowTimeout => true
  | .lockupClear _ _ | .entry _ _ | .strapSample _ _ | .powerReq _ _ | .ledSet _ _ | .hostBar0Write _ _
  | .fwdReq _ _ | .fwdReceipt _ _ | .fwdStatus _ _ | .refclkLoss _ _ | .pcieLinkUp _ _ => true
  | .cellLineAccess pa => decide (pa < 2 ^ 41)
  | .arbDecision ch _ _ => decide (ch < 16)
  | .commitArrival ch | .holdMonitor ch | .refresh ch => decide (ch < 16)
  | .patrolScrub ch _ => decide (ch < 16)
  | .registerWrite src pa _ => decide (src < 105) && (decide (0xF0000000000 ≤ pa) && decide (pa < 0xF0010000000) && pa % 8 == 0)
  | .fabricTimeout _ _ _ _ _ => true
  | .selftest _ _ _ | .sensorRead _ _ _ | .joinReq _ _ _ | .cwlWrite _ _ _ => true
  | .governorPass _ _ _ _ | .debugAccess _ _ _ _ => true
  | .senNqHi q => decide (q < 8)
  | .lcQuery port _ _ | .attest port _ _ | .jexport port _ _ | .keygen port _ _ | .rawCapture port _ _
  | .provision port _ _ | .certify port _ _ | .policySet port _ _ | .keySet port _ _ | .mcCommit port _ _
  | .takeover port _ _ | .debugChallenge port _ _ | .debugUnlock port _ _ | .debugLock port _ _ | .reset port _ _
  | .imgStage port _ _ | .retire port _ _ | .fwStage port _ _ | .mcStage port _ _ | .cfgSet port _ _
  | .telemRead port _ _ | .detach port _ _ | .mgmtSegment port _ _ => decide (port < 3)
  | .alarmRecover port _ _ _ => decide (port < 3)
  | .mgmtTimeout port | .segmentAcknowledgement port => decide (port < 3)
  | .alarmDetection hits _ => hits.all (fun h => decide (h.1 < 8))
  | .frameReceive port _ _ => decide (port < 4)
  | .portLinkDown port | .portLinkUp port => decide (port < 4)
  | .netRxqCfgWrite q _ => decide (q < 256)
  | .netTxqTail t _ => decide (t < 256)
  | .txFrameSent t => decide (t < 256)
  | .sync port _ _ _ _ | .delayResp port _ _ _ _ => decide (port < 4)
  | .followUp port _ _ _ => decide (port < 4)
  | .hbSqDb h _ _ | .hbCqHead h _ _ => decide (h < 16)
  | .hbDrHead r _ => decide (r < 16)
  | .pciSqTail q _ => decide (q < 16)
  | .hostDelivery q | .deliveryRingStall q => decide (q < 16)
  | .flit link _ | .heartbeat link _ => decide (link < 2)
  | .flitReplay link | .cwlLinkDown link => decide (link < 2)
  | .cwlLinkUp link _ _ _ => decide (link < 2)
  | .railExcursion rail _ _ => decide (rail < 16)
  | .clkRatio k _ => decide (k < 3)
  | .alarmSourceInactive cls => decide (cls < 8)

end Sys2Proof
end

