-- ==== Sys2Proof/Decode.lean ====
section
/-!
DEFINITION. Commands from table words. The table of commands gives no row any bits: a command is a happening with operands,
not a word, so no word spells one.
-/
namespace Sys2Proof

/-- The command that a word spells by the table's bits: none, since the table gives no bits. -/
def decodeTableWord (_nbits _w : Nat) : Option Instr := none

end Sys2Proof
end

