-- ==== Sys2Proof/Config.lean ====
section
/-!
DEFINITION. What the spec leaves to the implementation or does not state: free values, as constants without a body.
A statement about one of them holds for every value.
-/
namespace Sys2Proof.Config

/-- The bytes of the mask-programmed Lantern ROM (R427 gives its place, not its content; log 4). -/
opaque romByte : Nat → Byte

/-- The 64-bit module identity, fixed at manufacture (R3, R559; log 5). -/
opaque moduleId : Word

/-- How a private key is formed from the bytes of the Generate request made for it (R455; log 6). -/
opaque privateKey : List Byte → Nat

/-- The i-th candidate for the secret number of the u-th signing (R366, R440; log 6). -/
opaque nonce (u i : Nat) : Nat

/-- Byte i of the raw Glint bits taken the u-th time: for the DRBG or for a capture (R392, R394; log 7). -/
opaque glintByte (u i : Nat) : Byte

/-- Byte i of the challenge numbered u (R472; log 7). -/
opaque challengeByte (u i : Nat) : Byte

/-- The MAC address of a 100G port (log 8). -/
opaque portMac (port : Nat) : BitVec 48

/-- Byte i of the factory's vendor key n (R455; log 9). -/
opaque vendorKey (n i : Nat) : Byte

/-- How many vendor keys the factory has stored; the model takes at most 4 (R455; log 9). -/
opaque vendorKeys : Nat

/-- The version of the Lantern ROM (R438; log 4). -/
opaque romVersion : Word

/-- The IDCODE that the debug port answers (R471; log 10). -/
opaque idcode : BitVec 32

/-- What `CGETTOP` answers for an untagged value whose decoded top is above 2^64 (R61; log 12). -/
opaque topOver : Wide → Word

/-- `SLOT` of a fault that no one syllable raises; `u` numbers the fault (R230; log 13). -/
opaque openSlot : Nat → BitVec 2

/-- Which frame granules below a faulting one an `INVOKE` has written; `u` numbers the fault (R246; log 14). -/
opaque frameWritten : Nat → BitVec 6

/-- How many of its remaining slots or pages a syllable that keeps progress performs before an event that may come is taken;
`u` numbers the choice (R83, R156; log 17). -/
opaque slotsDone : Nat → Nat

/-- Which of its values the u-th fetch of a word returns that has been stored to since the fetching pair's last `IFLUSH` or
`MSYNC` (R134, R289; logs 60, 79). -/
opaque staleFetch : Nat → Nat

/-- The walk that a ledger pair makes ahead of its fetches at an instant, if any: the pair and the virtual address (R283, R320;
log 80). -/
opaque specWalk : Nat → Option (Nat × Nat)

/-- How far the servo changes the rate of secure time when it takes an offset at an instant, within `SLEW_PPM` (R491; log 92). -/
opaque slewRate : Nat → Nat

/-- What the power unit measures at an instant: input voltage in mV, input current in mA, input power in mW (R547; log 94). -/
opaque powerReading : Nat → BitVec 32 × BitVec 32 × BitVec 32

/-- The error that arises at an instant in a line of the packages, if any: the line, counted from the first of tagged DRAM, and
whether the code cannot correct it (R339, R340; log 81). -/
opaque upset : Nat → Option (Nat × Bool)

end Sys2Proof.Config
end

