-- ==== Sys2Proof/Machine/Regs.lean ====
section
/-!
DEFINITION. The device registers of the module: their addresses, fields, access types, reset values and
reserved values, block by block, as the register tables of spec/ give them (R9-R13, R563). A field's fifth
component lists the ranges of values that are NOT reserved; the empty list means that every value is valid.
Address formulas with an index are functions of it.
-/
namespace Sys2Proof.Machine

/-- The access types of R9. -/
inductive FieldType where
  | ro | rw | w1c | w1s | wo | rwl | rsv
deriving DecidableEq, Repr

/-- One field of a register: lowest bit, width, access type, reset value, ranges of values that are not reserved (R12). -/
structure Field where
  lo : Nat
  width : Nat
  ty : FieldType
  reset : Nat
  valid : List (Nat × Nat)
deriving DecidableEq, Repr

/-- One register, or an array of `count` registers `stride` bytes apart. -/
structure Reg where
  name : String
  base : Nat
  stride : Nat
  count : Nat
  fields : List Field
deriving DecidableEq, Repr

namespace Addr

/-- `ECL_CTRL` (R100). -/
def ECL_CTRL : Nat := 0xF0007000000
/-- `ECL_CMD` (R100). -/
def ECL_CMD : Nat := 0xF0007000008
/-- `ECL_STATUS` (R100). -/
def ECL_STATUS : Nat := 0xF0007000010
/-- `ECL_ERR` (R100). -/
def ECL_ERR : Nat := 0xF0007000018
/-- `ECL_EPOCH_STARTED` (R100). -/
def ECL_EPOCH_STARTED : Nat := 0xF0007000020
/-- `ECL_EPOCH_DONE` (R100). -/
def ECL_EPOCH_DONE : Nat := 0xF0007000028
/-- `ECL_EVT` (R100). -/
def ECL_EVT : Nat := 0xF0007000030
/-- `ECL_LAST_US` (R100). -/
def ECL_LAST_US : Nat := 0xF0007000038
/-- `ECL_CNT_GRAN` (R100). -/
def ECL_CNT_GRAN : Nat := 0xF0007000040
/-- `ECL_CNT_PAGES` (R100). -/
def ECL_CNT_PAGES : Nat := 0xF0007000048
/-- `ECL_CNT_SKIP` (R100). -/
def ECL_CNT_SKIP : Nat := 0xF0007000050
/-- `ECL_CNT_SWCLR` (R100). -/
def ECL_CNT_SWCLR : Nat := 0xF0007000058
/-- `ECL_CNT_LBCLR` (R100). -/
def ECL_CNT_LBCLR : Nat := 0xF0007000060
/-- `ECL_ROOT_A[n]` (R100). -/
def ECL_ROOT_A (n : Nat) : Nat := 0xF0007001000 + 0x10 * n
/-- `ECL_ROOT_B[n]` (R100). -/
def ECL_ROOT_B (n : Nat) : Nat := 0xF0007001008 + 0x10 * n
/-- `TALLY_CTRL` (R221). -/
def TALLY_CTRL : Nat := 0xF0004000000
/-- `TALLY_GRACE` (R221). -/
def TALLY_GRACE : Nat := 0xF0004000008
/-- `TALLY_COMB` (R221). -/
def TALLY_COMB : Nat := 0xF0004000010
/-- `TALLY_BOFF` (R221). -/
def TALLY_BOFF : Nat := 0xF0004000018
/-- `TALLY_PEND` (R221). -/
def TALLY_PEND : Nat := 0xF0004000020
/-- `TALLY_CMD` (R221). -/
def TALLY_CMD : Nat := 0xF0004000028
/-- `TALLY_STATUS` (R221). -/
def TALLY_STATUS : Nat := 0xF0004000030
/-- `TALLY_ERR` (R221). -/
def TALLY_ERR : Nat := 0xF0004000038
/-- `TALLY_EVT` (R221). -/
def TALLY_EVT : Nat := 0xF0004000040
/-- `TCH_OCC[n]` (R221). -/
def TCH_OCC (n : Nat) : Nat := 0xF0004001000 + 0x100 * n
/-- `TCH_CNT_ACC[n]` (R221). -/
def TCH_CNT_ACC (n : Nat) : Nat := 0xF0004001008 + 0x100 * n
/-- `TCH_CNT_LATE[n]` (R221). -/
def TCH_CNT_LATE (n : Nat) : Nat := 0xF0004001010 + 0x100 * n
/-- `TCH_CNT_SEAL[n]` (R221). -/
def TCH_CNT_SEAL (n : Nat) : Nat := 0xF0004001018 + 0x100 * n
/-- `TCH_CNT_RETRY[n]` (R221). -/
def TCH_CNT_RETRY (n : Nat) : Nat := 0xF0004001020 + 0x100 * n
/-- `TCH_CNT_WB[n]` (R221). -/
def TCH_CNT_WB (n : Nat) : Nat := 0xF0004001028 + 0x100 * n
/-- `TCH_CNT_PARK[n]` (R221). -/
def TCH_CNT_PARK (n : Nat) : Nat := 0xF0004001030 + 0x100 * n
/-- `EXC_MASKLIM` (R250). -/
def EXC_MASKLIM : Nat := 0xF000200F000
/-- `EXC_FAULTLIM` (R250). -/
def EXC_FAULTLIM : Nat := 0xF000200F008
/-- `EXC_OVERSTAY0` (R250). -/
def EXC_OVERSTAY0 : Nat := 0xF000200F010
/-- `EXC_OVERSTAY1` (R250). -/
def EXC_OVERSTAY1 : Nat := 0xF000200F018
/-- `EXC_LOCKUP0` (R250). -/
def EXC_LOCKUP0 : Nat := 0xF000200F020
/-- `EXC_LOCKUP1` (R250). -/
def EXC_LOCKUP1 : Nat := 0xF000200F028
/-- `EXC_ESCCNT` (R250). -/
def EXC_ESCCNT : Nat := 0xF000200F030
/-- `EXC_CMD` (R250). -/
def EXC_CMD : Nat := 0xF000200F038
/-- `EXC_ERR` (R250). -/
def EXC_ERR : Nat := 0xF000200F040
/-- `EVD_CTRL` (R280). -/
def EVD_CTRL : Nat := 0xF0002000000
/-- `EVD_TASKTAB` (R280). -/
def EVD_TASKTAB : Nat := 0xF0002000008
/-- `EVD_SPILLCFG` (R280). -/
def EVD_SPILLCFG : Nat := 0xF0002000010
/-- `EVD_CMD` (R280). -/
def EVD_CMD : Nat := 0xF0002000018
/-- `EVD_STATUS` (R280). -/
def EVD_STATUS : Nat := 0xF0002000020
/-- `EVD_ERR` (R280). -/
def EVD_ERR : Nat := 0xF0002000028
/-- `EVD_POST` (R280). -/
def EVD_POST : Nat := 0xF0002000030
/-- `EVD_CNT_RES` (R280). -/
def EVD_CNT_RES : Nat := 0xF0002000038
/-- `EVD_CNT_FILL` (R280). -/
def EVD_CNT_FILL : Nat := 0xF0002000040
/-- `EVD_CNT_SPILL` (R280). -/
def EVD_CNT_SPILL : Nat := 0xF0002000048
/-- `EVD_CNT_STALL` (R280). -/
def EVD_CNT_STALL : Nat := 0xF0002000050
/-- `EVD_CNT_REDISP` (R280). -/
def EVD_CNT_REDISP : Nat := 0xF0002000058
/-- `EVD_PAIRCFG[n]` (R280). -/
def EVD_PAIRCFG (n : Nat) : Nat := 0xF0002001000 + 0x8 * n
/-- `EVD_PAIRSTAT[n]` (R280). -/
def EVD_PAIRSTAT (n : Nat) : Nat := 0xF0002001400 + 0x8 * n
/-- `EVD_SLOT[n]` (R280). -/
def EVD_SLOT (n : Nat) : Nat := 0xF0002010000 + 0x8 * n
/-- `EVD_CHSTAT[n]` (R280). -/
def EVD_CHSTAT (n : Nat) : Nat := 0xF0002018000 + 0x8 * n
/-- `PT_OVR0` (R306). -/
def PT_OVR0 : Nat := 0xF000F002000
/-- `PT_OVR1` (R306). -/
def PT_OVR1 : Nat := 0xF000F002008
/-- `PT_DIST0` (R306). -/
def PT_DIST0 : Nat := 0xF000F002010
/-- `PT_DIST1` (R306). -/
def PT_DIST1 : Nat := 0xF000F002018
/-- `PT_CMD` (R306). -/
def PT_CMD : Nat := 0xF000F002020
/-- `PT_ERR` (R306). -/
def PT_ERR : Nat := 0xF000F002028
/-- `PT_OVCNT[n]` (R306). -/
def PT_OVCNT (n : Nat) : Nat := 0xF000F002100 + 0x8 * n
/-- `RCU_CTRL` (R336). -/
def RCU_CTRL : Nat := 0xF0008000000
/-- `RCU_ERR` (R336). -/
def RCU_ERR : Nat := 0xF0008000008
/-- `RCU_VIOL_ADDR` (R336). -/
def RCU_VIOL_ADDR : Nat := 0xF0008000010
/-- `RCU_VIOL_INFO` (R336). -/
def RCU_VIOL_INFO : Nat := 0xF0008000018
/-- `RCU_CNT_VIOL` (R336). -/
def RCU_CNT_VIOL : Nat := 0xF0008000020
/-- `TR_CNT_WALK` (R336). -/
def TR_CNT_WALK : Nat := 0xF0008000028
/-- `TR_CNT_CDSET` (R336). -/
def TR_CNT_CDSET : Nat := 0xF0008000030
/-- `TR_CMD` (R336). -/
def TR_CMD : Nat := 0xF0008000038
/-- `RCU_G_LO[n]` (R336). -/
def RCU_G_LO (n : Nat) : Nat := 0xF0008001000 + 0x10 * n
/-- `RCU_G_HI[n]` (R336). -/
def RCU_G_HI (n : Nat) : Nat := 0xF0008001008 + 0x10 * n
/-- `RCU_DBG_LO[n]` (R336). -/
def RCU_DBG_LO (n : Nat) : Nat := 0xF0008001400 + 0x10 * n
/-- `RCU_DBG_HI[n]` (R336). -/
def RCU_DBG_HI (n : Nat) : Nat := 0xF0008001408 + 0x10 * n
/-- `MCH_ERR[n]` (R354). -/
def MCH_ERR (n : Nat) : Nat := 0xF0003000000 + 0x10000 * n
/-- `MCH_UE_ADDR[n]` (R354). -/
def MCH_UE_ADDR (n : Nat) : Nat := 0xF0003000008 + 0x10000 * n
/-- `MCH_CE_CNT[n]` (R354). -/
def MCH_CE_CNT (n : Nat) : Nat := 0xF0003000010 + 0x10000 * n
/-- `MCH_UE_CNT[n]` (R354). -/
def MCH_UE_CNT (n : Nat) : Nat := 0xF0003000018 + 0x10000 * n
/-- `MCH_SCRUB[n]` (R354). -/
def MCH_SCRUB (n : Nat) : Nat := 0xF0003000020 + 0x10000 * n
/-- `MCH_SCRUB_POS[n]` (R354). -/
def MCH_SCRUB_POS (n : Nat) : Nat := 0xF0003000028 + 0x10000 * n
/-- `MCH_LFSR[n]` (R354). -/
def MCH_LFSR (n : Nat) : Nat := 0xF0003000030 + 0x10000 * n
/-- `ARB_TKT0[n]` (R354). -/
def ARB_TKT0 (n : Nat) : Nat := 0xF0003000040 + 0x10000 * n
/-- `ARB_TKT1[n]` (R354). -/
def ARB_TKT1 (n : Nat) : Nat := 0xF0003000048 + 0x10000 * n
/-- `ARB_TKT2[n]` (R354). -/
def ARB_TKT2 (n : Nat) : Nat := 0xF0003000050 + 0x10000 * n
/-- `ARB_LIM[n]` (R354). -/
def ARB_LIM (n : Nat) : Nat := 0xF0003000058 + 0x10000 * n
/-- `ARB_TKT_ACT0[n]` (R354). -/
def ARB_TKT_ACT0 (n : Nat) : Nat := 0xF0003000060 + 0x10000 * n
/-- `ARB_TKT_ACT1[n]` (R354). -/
def ARB_TKT_ACT1 (n : Nat) : Nat := 0xF0003000068 + 0x10000 * n
/-- `ARB_TKT_ACT2[n]` (R354). -/
def ARB_TKT_ACT2 (n : Nat) : Nat := 0xF0003000070 + 0x10000 * n
/-- `ARB_LIM_ACT[n]` (R354). -/
def ARB_LIM_ACT (n : Nat) : Nat := 0xF0003000078 + 0x10000 * n
/-- `ARB_HOLD[n]` (R354). -/
def ARB_HOLD (n : Nat) : Nat := 0xF0003000080 + 0x10000 * n
/-- `ARB_FORCED[n]` (R354). -/
def ARB_FORCED (n : Nat) : Nat := 0xF0003000088 + 0x10000 * n
/-- `ARB_STAT[q]` of channel `ch` (R354). -/
def ARB_STAT (ch q : Nat) : Nat := 0xF0003000100 + 0x10000 * ch + 8 * q
/-- `ARB_LAT[q]` of channel `ch` (R354). -/
def ARB_LAT (ch q : Nat) : Nat := 0xF0003000200 + 0x10000 * ch + 8 * q
/-- `ARB_COMMIT` (R354). -/
def ARB_COMMIT : Nat := 0xF0003100000
/-- `ARB_CSTATUS` (R354). -/
def ARB_CSTATUS : Nat := 0xF0003100008
/-- `ARB_CERR` (R354). -/
def ARB_CERR : Nat := 0xF0003100010
/-- `ARB_EVT` (R354). -/
def ARB_EVT : Nat := 0xF0003100018
/-- `MCH_CMD` (R354). -/
def MCH_CMD : Nat := 0xF0003100020
/-- `ARB_BOUND[n]` (R354). -/
def ARB_BOUND (n : Nat) : Nat := 0xF0003100100 + 0x8 * n
/-- `ARB_BOUND_LIM` (R354). -/
def ARB_BOUND_LIM : Nat := 0xF00031001B0
/-- `JRN_CTRL` (R391). -/
def JRN_CTRL : Nat := 0xF0005000000
/-- `JRN_THR` (R391). -/
def JRN_THR : Nat := 0xF0005000008
/-- `JRN_SEAL` (R391). -/
def JRN_SEAL : Nat := 0xF0005000010
/-- `JRN_BP` (R391). -/
def JRN_BP : Nat := 0xF0005000018
/-- `JRN_REPL` (R391). -/
def JRN_REPL : Nat := 0xF0005000020
/-- `JRN_ARCH_CFG` (R391). -/
def JRN_ARCH_CFG : Nat := 0xF0005000028
/-- `JRN_ARCH_MAC` (R391). -/
def JRN_ARCH_MAC : Nat := 0xF0005000030
/-- `JRN_CMD` (R391). -/
def JRN_CMD : Nat := 0xF0005000038
/-- `JRN_STATUS` (R391). -/
def JRN_STATUS : Nat := 0xF0005000040
/-- `JRN_REPL_STATUS` (R391). -/
def JRN_REPL_STATUS : Nat := 0xF0005000048
/-- `JRN_ERR` (R391). -/
def JRN_ERR : Nat := 0xF0005000050
/-- `JRN_EVT` (R391). -/
def JRN_EVT : Nat := 0xF0005000058
/-- `JRN_EPOCH` (R391). -/
def JRN_EPOCH : Nat := 0xF0005000060
/-- `JRN_HEAD_SEQ` (R391). -/
def JRN_HEAD_SEQ : Nat := 0xF0005000068
/-- `JRN_DUR_SEQ` (R391). -/
def JRN_DUR_SEQ : Nat := 0xF0005000070
/-- `JRN_PACK_SEQ` (R391). -/
def JRN_PACK_SEQ : Nat := 0xF0005000078
/-- `JRN_DRAIN_SEQ` (R391). -/
def JRN_DRAIN_SEQ : Nat := 0xF0005000080
/-- `JRN_ARCH_SEQ` (R391). -/
def JRN_ARCH_SEQ : Nat := 0xF0005000088
/-- `JRN_HEAD_OFF` (R391). -/
def JRN_HEAD_OFF : Nat := 0xF0005000090
/-- `JRN_ARCH_OFF` (R391). -/
def JRN_ARCH_OFF : Nat := 0xF0005000098
/-- `JRN_LOOKUP` (R391). -/
def JRN_LOOKUP : Nat := 0xF00050000A0
/-- `JRN_LOOKUP_RES` (R391). -/
def JRN_LOOKUP_RES : Nat := 0xF00050000A8
/-- `JRN_CNT_APP` (R391). -/
def JRN_CNT_APP : Nat := 0xF0005000100
/-- `JRN_CNT_FULL` (R391). -/
def JRN_CNT_FULL : Nat := 0xF0005000108
/-- `JRN_CNT_SEAL` (R391). -/
def JRN_CNT_SEAL : Nat := 0xF0005000110
/-- `JRN_CNT_RETX` (R391). -/
def JRN_CNT_RETX : Nat := 0xF0005000118
/-- `JRN_CNT_ACKBAD` (R391). -/
def JRN_CNT_ACKBAD : Nat := 0xF0005000120
/-- `JRN_CNT_FWD` (R391). -/
def JRN_CNT_FWD : Nat := 0xF0005000128
/-- `DRW_CTRL` (R407). -/
def DRW_CTRL : Nat := 0xF0006000000
/-- `DRW_RESEED` (R407). -/
def DRW_RESEED : Nat := 0xF0006000008
/-- `DRW_HEALTH` (R407). -/
def DRW_HEALTH : Nat := 0xF0006000010
/-- `DRW_CMD` (R407). -/
def DRW_CMD : Nat := 0xF0006000018
/-- `DRW_STATUS` (R407). -/
def DRW_STATUS : Nat := 0xF0006000020
/-- `DRW_ERR` (R407). -/
def DRW_ERR : Nat := 0xF0006000028
/-- `DRW_EVT` (R407). -/
def DRW_EVT : Nat := 0xF0006000030
/-- `DRW_INST` (R407). -/
def DRW_INST : Nat := 0xF0006000038
/-- `DRW_RESEEDS` (R407). -/
def DRW_RESEEDS : Nat := 0xF0006000040
/-- `DRW_RESEED_CTR` (R407). -/
def DRW_RESEED_CTR : Nat := 0xF0006000048
/-- `DRW_IDTAB` (R407). -/
def DRW_IDTAB : Nat := 0xF0006000050
/-- `DRW_LAST_SEQ` (R407). -/
def DRW_LAST_SEQ : Nat := 0xF0006000058
/-- `DRW_CNT_DRAW` (R407). -/
def DRW_CNT_DRAW : Nat := 0xF0006000100
/-- `DRW_CNT_DUP` (R407). -/
def DRW_CNT_DUP : Nat := 0xF0006000108
/-- `DRW_CNT_REJ` (R407). -/
def DRW_CNT_REJ : Nat := 0xF0006000110
/-- `DRW_CNT_FAIL` (R407). -/
def DRW_CNT_FAIL : Nat := 0xF0006000118
/-- `MC_VERSION` (R424). -/
def MC_VERSION : Nat := 0xF000E000000
/-- `MC_HASH0` (R424). -/
def MC_HASH0 : Nat := 0xF000E000008
/-- `MC_HASH1` (R424). -/
def MC_HASH1 : Nat := 0xF000E000010
/-- `MC_HASH2` (R424). -/
def MC_HASH2 : Nat := 0xF000E000018
/-- `MC_HASH3` (R424). -/
def MC_HASH3 : Nat := 0xF000E000020
/-- `MC_PEND0` (R424). -/
def MC_PEND0 : Nat := 0xF000E000028
/-- `MC_PEND1` (R424). -/
def MC_PEND1 : Nat := 0xF000E000030
/-- `MC_FLT` (R424). -/
def MC_FLT : Nat := 0xF000E000038
/-- `MC_ERR` (R424). -/
def MC_ERR : Nat := 0xF000E000040
/-- `SEN_BOOT` (R450). -/
def SEN_BOOT : Nat := 0xF0000800000
/-- `SEN_STRAP` (R450). -/
def SEN_STRAP : Nat := 0xF0000800008
/-- `SEN_FAIL0` (R450). -/
def SEN_FAIL0 : Nat := 0xF0000800010
/-- `SEN_FAIL1` (R450). -/
def SEN_FAIL1 : Nat := 0xF0000800018
/-- `SEN_START` (R450). -/
def SEN_START : Nat := 0xF0000800020
/-- `SEN_STATUS` (R450). -/
def SEN_STATUS : Nat := 0xF0000800028
/-- `SEN_CMD` (R450). -/
def SEN_CMD : Nat := 0xF0000800030
/-- `SEN_ERR` (R450). -/
def SEN_ERR : Nat := 0xF0000800038
/-- `GOV_PERIOD` (R450). -/
def GOV_PERIOD : Nat := 0xF0000800040
/-- `SEN_NQ_LO[n]` (R450). -/
def SEN_NQ_LO (n : Nat) : Nat := 0xF0000801000 + 0x100 * n
/-- `SEN_NQ_HI[n]` (R450). -/
def SEN_NQ_HI (n : Nat) : Nat := 0xF0000801008 + 0x100 * n
/-- `SEN_NQSTAT[n]` (R450). -/
def SEN_NQSTAT (n : Nat) : Nat := 0xF0000801010 + 0x100 * n
/-- `SEC_LC` (R476). -/
def SEC_LC : Nat := 0xF0000000000
/-- `SEC_STATUS` (R476). -/
def SEC_STATUS : Nat := 0xF0000000008
/-- `SEC_ALM_RAW` (R476). -/
def SEC_ALM_RAW : Nat := 0xF0000000010
/-- `SEC_ALM_ACT` (R476). -/
def SEC_ALM_ACT : Nat := 0xF0000000018
/-- `SEC_ALM_POL` (R476). -/
def SEC_ALM_POL : Nat := 0xF0000000020
/-- `SEC_DBG` (R476). -/
def SEC_DBG : Nat := 0xF0000000028
/-- `SEC_POLVER` (R476). -/
def SEC_POLVER : Nat := 0xF0000000030
/-- `SEC_ERR` (R476). -/
def SEC_ERR : Nat := 0xF0000000038
/-- `SEC_CNT_REJ` (R476). -/
def SEC_CNT_REJ : Nat := 0xF0000000040
/-- `SEC_ALM_CNT[n]` (R476). -/
def SEC_ALM_CNT (n : Nat) : Nat := 0xF0000000100 + 0x8 * n
/-- `NET_CTRL` (R520). -/
def NET_CTRL : Nat := 0xF0009000000
/-- `NET_STATUS` (R520). -/
def NET_STATUS : Nat := 0xF0009000008
/-- `NET_ERR` (R520). -/
def NET_ERR : Nat := 0xF0009000010
/-- `NET_EVT` (R520). -/
def NET_EVT : Nat := 0xF0009000018
/-- `MB_CNT_TMO` (R520). -/
def MB_CNT_TMO : Nat := 0xF0009000020
/-- `NET_RXQ_BASE[n]` (R520). -/
def NET_RXQ_BASE (n : Nat) : Nat := 0xF0009001000 + 0x10 * n
/-- `NET_RXQ_CFG[n]` (R520). -/
def NET_RXQ_CFG (n : Nat) : Nat := 0xF0009001008 + 0x10 * n
/-- `NET_RULE_M[n]` (R520). -/
def NET_RULE_M (n : Nat) : Nat := 0xF0009002000 + 0x10 * n
/-- `NET_RULE_A[n]` (R520). -/
def NET_RULE_A (n : Nat) : Nat := 0xF0009002008 + 0x10 * n
/-- `NET_TXQ_BASE[n]` (R520). -/
def NET_TXQ_BASE (n : Nat) : Nat := 0xF0009003000 + 0x10 * n
/-- `NET_TXQ_CFG[n]` (R520). -/
def NET_TXQ_CFG (n : Nat) : Nat := 0xF0009003008 + 0x10 * n
/-- `NET_TXQ_TAIL[n]` (R520). -/
def NET_TXQ_TAIL (n : Nat) : Nat := 0xF0009004000 + 0x8 * n
/-- `NET_PCNT[p][k]` (R520). -/
def NET_PCNT (p k : Nat) : Nat := 0xF0009005000 + 0x40 * p + 8 * k
/-- `TIME_NOW` (R520). -/
def TIME_NOW : Nat := 0xF0009008000
/-- `TIME_CFG` (R520). -/
def TIME_CFG : Nat := 0xF0009008008
/-- `TIME_LIM` (R520). -/
def TIME_LIM : Nat := 0xF0009008010
/-- `TIME_STATUS` (R520). -/
def TIME_STATUS : Nat := 0xF0009008018
/-- `TIME_ERR` (R520). -/
def TIME_ERR : Nat := 0xF0009008020
/-- `TIME_GM[n]` (R520). -/
def TIME_GM (n : Nat) : Nat := 0xF0009008040 + 0x8 * n
/-- `CWL_CTRL` (R521). -/
def CWL_CTRL : Nat := 0xF000B000000
/-- `CWL_HB` (R521). -/
def CWL_HB : Nat := 0xF000B000008
/-- `CWL_STATUS` (R521). -/
def CWL_STATUS : Nat := 0xF000B000010
/-- `CWL_ERR` (R521). -/
def CWL_ERR : Nat := 0xF000B000018
/-- `CWL_EVT` (R521). -/
def CWL_EVT : Nat := 0xF000B000020
/-- `CWL_WIN` (R521). -/
def CWL_WIN : Nat := 0xF000B000028
/-- `CWL_CNT_REPLAY0` (R521). -/
def CWL_CNT_REPLAY0 : Nat := 0xF000B000030
/-- `CWL_CNT_REPLAY1` (R521). -/
def CWL_CNT_REPLAY1 : Nat := 0xF000B000038
/-- `PCI_CTRL` (R522). -/
def PCI_CTRL : Nat := 0xF000A000000
/-- `PCI_STATUS` (R522). -/
def PCI_STATUS : Nat := 0xF000A000008
/-- `PCI_ERR` (R522). -/
def PCI_ERR : Nat := 0xF000A000010
/-- `PCI_CFG` (R522). -/
def PCI_CFG : Nat := 0xF000A000018
/-- `PCI_CNT_BADW` (R522). -/
def PCI_CNT_BADW : Nat := 0xF000A000020
/-- `PCI_SQ_BASE[n]` (R522). -/
def PCI_SQ_BASE (n : Nat) : Nat := 0xF000A001000 + 0x20 * n
/-- `PCI_SQ_CFG[n]` (R522). -/
def PCI_SQ_CFG (n : Nat) : Nat := 0xF000A001008 + 0x20 * n
/-- `PCI_SQ_TAIL[n]` (R522). -/
def PCI_SQ_TAIL (n : Nat) : Nat := 0xF000A001010 + 0x20 * n
/-- `PWR_CTRL` (R547). -/
def PWR_CTRL : Nat := 0xF0001000000
/-- `PWR_STATUS` (R547). -/
def PWR_STATUS : Nat := 0xF0001000008
/-- `PWR_ERR` (R547). -/
def PWR_ERR : Nat := 0xF0001000010
/-- `PWR_EVT` (R547). -/
def PWR_EVT : Nat := 0xF0001000018
/-- `PWR_VIN` (R547). -/
def PWR_VIN : Nat := 0xF0001000020
/-- `PWR_IIN` (R547). -/
def PWR_IIN : Nat := 0xF0001000028
/-- `PWR_PIN` (R547). -/
def PWR_PIN : Nat := 0xF0001000030
/-- `PWR_LIMIT` (R547). -/
def PWR_LIMIT : Nat := 0xF0001000038
/-- `PWR_HOLDUP` (R547). -/
def PWR_HOLDUP : Nat := 0xF0001000040
/-- `PWR_CMD` (R547). -/
def PWR_CMD : Nat := 0xF0001000048
/-- `PWR_RSTCAUSE` (R547). -/
def PWR_RSTCAUSE : Nat := 0xF0001000050
/-- `FC_CTRL` (R547). -/
def FC_CTRL : Nat := 0xF0001000058
/-- `FC_STATUS` (R547). -/
def FC_STATUS : Nat := 0xF0001000060
/-- `FTO_ADDR` (R547). -/
def FTO_ADDR : Nat := 0xF0001000068
/-- `FTO_CNT` (R547). -/
def FTO_CNT : Nat := 0xF0001000070
/-- `PWR_CNT_CRC` (R547). -/
def PWR_CNT_CRC : Nat := 0xF0001000078
/-- `PWR_CNT_RAILW` (R547). -/
def PWR_CNT_RAILW : Nat := 0xF0001000080
/-- `CLK_RATIO[n]` (R547). -/
def CLK_RATIO (n : Nat) : Nat := 0xF0001000100 + 0x8 * n
/-- `CLK_ON[n]` (R547). -/
def CLK_ON (n : Nat) : Nat := 0xF0001000200 + 0x8 * n

end Addr

/-- Security monitor (R476). -/
def regsSec : List Reg := [
  ⟨"SEC_LC", 0xF0000000000, 0x8, 1, [⟨0, 3, .ro, 0, []⟩, ⟨3, 1, .ro, 0, []⟩, ⟨4, 60, .rsv, 0, []⟩]⟩,
  ⟨"SEC_STATUS", 0xF0000000008, 0x8, 1, [⟨0, 1, .ro, 0, []⟩, ⟨1, 1, .ro, 0, []⟩, ⟨2, 1, .ro, 0, []⟩, ⟨3, 1, .ro, 0, []⟩, ⟨4, 1, .ro, 0, []⟩, ⟨5, 3, .rsv, 0, []⟩, ⟨8, 4, .ro, 0, []⟩, ⟨12, 52, .rsv, 0, []⟩]⟩,
  ⟨"SEC_ALM_RAW", 0xF0000000010, 0x8, 1, [⟨0, 8, .ro, 0, []⟩, ⟨8, 56, .rsv, 0, []⟩]⟩,
  ⟨"SEC_ALM_ACT", 0xF0000000018, 0x8, 1, [⟨0, 8, .ro, 0, []⟩, ⟨8, 56, .rsv, 0, []⟩]⟩,
  ⟨"SEC_ALM_POL", 0xF0000000020, 0x8, 1, [⟨0, 16, .ro, 0x66A, []⟩, ⟨16, 16, .ro, 0x156, []⟩, ⟨32, 32, .rsv, 0, []⟩]⟩,
  ⟨"SEC_DBG", 0xF0000000028, 0x8, 1, [⟨0, 1, .ro, 0, []⟩, ⟨1, 15, .rsv, 0, []⟩, ⟨16, 16, .ro, 0, []⟩, ⟨32, 16, .ro, 0xE10, []⟩, ⟨48, 16, .rsv, 0, []⟩]⟩,
  ⟨"SEC_POLVER", 0xF0000000030, 0x8, 1, [⟨0, 64, .ro, 0, []⟩]⟩,
  ⟨"SEC_ERR", 0xF0000000038, 0x8, 1, [⟨0, 1, .w1c, 0, []⟩, ⟨1, 63, .rsv, 0, []⟩]⟩,
  ⟨"SEC_CNT_REJ", 0xF0000000040, 0x8, 1, [⟨0, 64, .ro, 0, []⟩]⟩,
  ⟨"SEC_ALM_CNT", 0xF0000000100, 0x8, 8, [⟨0, 32, .ro, 0, []⟩, ⟨32, 32, .rsv, 0, []⟩]⟩]

/-- Sentinel control (R450). -/
def regsSen : List Reg := [
  ⟨"SEN_BOOT", 0xF0000800000, 0x8, 1, [⟨0, 4, .ro, 0, []⟩, ⟨4, 8, .ro, 0, []⟩, ⟨12, 1, .ro, 0, []⟩, ⟨13, 51, .rsv, 0, []⟩]⟩,
  ⟨"SEN_STRAP", 0xF0000800008, 0x8, 1, [⟨0, 14, .ro, 0, []⟩, ⟨14, 2, .rsv, 0, []⟩, ⟨16, 7, .ro, 0, []⟩, ⟨23, 41, .rsv, 0, []⟩]⟩,
  ⟨"SEN_FAIL0", 0xF0000800010, 0x8, 1, [⟨0, 64, .ro, 0, []⟩]⟩,
  ⟨"SEN_FAIL1", 0xF0000800018, 0x8, 1, [⟨0, 32, .ro, 0, []⟩, ⟨32, 8, .ro, 0, []⟩, ⟨40, 24, .rsv, 0, []⟩]⟩,
  ⟨"SEN_START", 0xF0000800020, 0x8, 1, [⟨0, 3, .wo, 0, [(1, 7)]⟩, ⟨3, 3, .rsv, 0, []⟩, ⟨6, 24, .wo, 0, []⟩, ⟨30, 34, .rsv, 0, []⟩]⟩,
  ⟨"SEN_STATUS", 0xF0000800028, 0x8, 1, [⟨0, 8, .ro, 1, []⟩, ⟨8, 2, .ro, 0, []⟩, ⟨10, 54, .rsv, 0, []⟩]⟩,
  ⟨"SEN_CMD", 0xF0000800030, 0x8, 1, [⟨0, 1, .wo, 0, []⟩, ⟨1, 63, .rsv, 0, []⟩]⟩,
  ⟨"SEN_ERR", 0xF0000800038, 0x8, 1, [⟨0, 1, .w1c, 0, []⟩, ⟨1, 1, .w1c, 0, []⟩, ⟨2, 62, .rsv, 0, []⟩]⟩,
  ⟨"GOV_PERIOD", 0xF0000800040, 0x8, 1, [⟨0, 16, .rwl, 0x3E8, [(100, 10000)]⟩, ⟨16, 48, .rsv, 0, []⟩]⟩,
  ⟨"SEN_NQ_LO", 0xF0000801000, 0x100, 8, [⟨0, 64, .ro, 0, []⟩]⟩,
  ⟨"SEN_NQ_HI", 0xF0000801008, 0x100, 8, [⟨0, 64, .ro, 0, []⟩]⟩,
  ⟨"SEN_NQSTAT", 0xF0000801010, 0x100, 8, [⟨0, 9, .ro, 0, []⟩, ⟨9, 23, .rsv, 0, []⟩, ⟨32, 32, .ro, 0, []⟩]⟩]

/-- Power, clock and hot-plug (R547). -/
def regsPwr : List Reg := [
  ⟨"PWR_CTRL", 0xF0001000000, 0x8, 1, [⟨0, 16, .rwl, 0x6590, [(20000, 36000)]⟩, ⟨16, 9, .rwl, 0x12C, [(10, 350)]⟩, ⟨25, 39, .rsv, 0, []⟩]⟩,
  ⟨"PWR_STATUS", 0xF0001000008, 0x8, 1, [⟨0, 3, .ro, 1, []⟩, ⟨3, 1, .ro, 0, []⟩, ⟨4, 1, .ro, 0, []⟩, ⟨5, 1, .ro, 1, []⟩, ⟨6, 1, .ro, 0, []⟩, ⟨7, 1, .ro, 1, []⟩, ⟨8, 2, .ro, 0, []⟩, ⟨10, 54, .rsv, 0, []⟩]⟩,
  ⟨"PWR_ERR", 0xF0001000010, 0x8, 1, [⟨0, 1, .w1c, 0, []⟩, ⟨1, 1, .w1c, 0, []⟩, ⟨2, 1, .w1c, 0, []⟩, ⟨3, 1, .w1c, 0, []⟩, ⟨4, 60, .rsv, 0, []⟩]⟩,
  ⟨"PWR_EVT", 0xF0001000018, 0x8, 1, [⟨0, 12, .rw, 0, []⟩, ⟨12, 3, .rsv, 0, []⟩, ⟨15, 1, .rw, 0, []⟩, ⟨16, 48, .rsv, 0, []⟩]⟩,
  ⟨"PWR_VIN", 0xF0001000020, 0x8, 1, [⟨0, 32, .ro, 0, []⟩, ⟨32, 32, .rsv, 0, []⟩]⟩,
  ⟨"PWR_IIN", 0xF0001000028, 0x8, 1, [⟨0, 32, .ro, 0, []⟩, ⟨32, 32, .rsv, 0, []⟩]⟩,
  ⟨"PWR_PIN", 0xF0001000030, 0x8, 1, [⟨0, 32, .ro, 0, []⟩, ⟨32, 32, .rsv, 0, []⟩]⟩,
  ⟨"PWR_LIMIT", 0xF0001000038, 0x8, 1, [⟨0, 32, .ro, 0, []⟩, ⟨32, 32, .rsv, 0, []⟩]⟩,
  ⟨"PWR_HOLDUP", 0xF0001000040, 0x8, 1, [⟨0, 16, .ro, 0, []⟩, ⟨16, 48, .rsv, 0, []⟩]⟩,
  ⟨"PWR_CMD", 0xF0001000048, 0x8, 1, [⟨0, 1, .wo, 0, []⟩, ⟨1, 1, .wo, 0, []⟩, ⟨2, 1, .wo, 0, []⟩, ⟨3, 61, .rsv, 0, []⟩]⟩,
  ⟨"PWR_RSTCAUSE", 0xF0001000050, 0x8, 1, [⟨0, 32, .ro, 0, []⟩, ⟨32, 32, .rsv, 0, []⟩]⟩,
  ⟨"FC_CTRL", 0xF0001000058, 0x8, 1, [⟨0, 1, .rwl, 1, []⟩, ⟨1, 1, .rwl, 0, []⟩, ⟨2, 62, .rsv, 0, []⟩]⟩,
  ⟨"FC_STATUS", 0xF0001000060, 0x8, 1, [⟨0, 1, .ro, 0, []⟩, ⟨1, 1, .ro, 0, []⟩, ⟨2, 1, .ro, 0, []⟩, ⟨3, 1, .ro, 0, []⟩, ⟨4, 1, .ro, 0, []⟩, ⟨5, 59, .rsv, 0, []⟩]⟩,
  ⟨"FTO_ADDR", 0xF0001000068, 0x8, 1, [⟨0, 44, .ro, 0, []⟩, ⟨44, 8, .ro, 0, []⟩, ⟨52, 12, .rsv, 0, []⟩]⟩,
  ⟨"FTO_CNT", 0xF0001000070, 0x8, 1, [⟨0, 64, .ro, 0, []⟩]⟩,
  ⟨"PWR_CNT_CRC", 0xF0001000078, 0x8, 1, [⟨0, 64, .ro, 0, []⟩]⟩,
  ⟨"PWR_CNT_RAILW", 0xF0001000080, 0x8, 1, [⟨0, 64, .ro, 0, []⟩]⟩,
  ⟨"CLK_RATIO", 0xF0001000100, 0x8, 3, [⟨0, 2, .rw, 0, [(0, 2)]⟩, ⟨2, 2, .rw, 0, [(0, 2)]⟩, ⟨4, 2, .rw, 0, [(0, 2)]⟩, ⟨6, 2, .rw, 0, [(0, 2)]⟩, ⟨8, 2, .rw, 0, [(0, 2)]⟩, ⟨10, 2, .rw, 0, [(0, 2)]⟩, ⟨12, 2, .rw, 0, [(0, 2)]⟩, ⟨14, 2, .rw, 0, [(0, 2)]⟩, ⟨16, 2, .rw, 0, [(0, 2)]⟩, ⟨18, 2, .rw, 0, [(0, 2)]⟩, ⟨20, 2, .rw, 0, [(0, 2)]⟩, ⟨22, 2, .rw, 0, [(0, 2)]⟩, ⟨24, 2, .rw, 0, [(0, 2)]⟩, ⟨26, 2, .rw, 0, [(0, 2)]⟩, ⟨28, 2, .rw, 0, [(0, 2)]⟩, ⟨30, 2, .rw, 0, [(0, 2)]⟩, ⟨32, 2, .rw, 0, [(0, 2)]⟩, ⟨34, 2, .rw, 0, [(0, 2)]⟩, ⟨36, 2, .rw, 0, [(0, 2)]⟩, ⟨38, 2, .rw, 0, [(0, 2)]⟩, ⟨40, 2, .rw, 0, [(0, 2)]⟩, ⟨42, 2, .rw, 0, [(0, 2)]⟩, ⟨44, 2, .rw, 0, [(0, 2)]⟩, ⟨46, 2, .rw, 0, [(0, 2)]⟩, ⟨48, 2, .rw, 0, [(0, 2)]⟩, ⟨50, 2, .rw, 0, [(0, 2)]⟩, ⟨52, 2, .rw, 0, [(0, 2)]⟩, ⟨54, 2, .rw, 0, [(0, 2)]⟩, ⟨56, 2, .rw, 0, [(0, 2)]⟩, ⟨58, 2, .rw, 0, [(0, 2)]⟩, ⟨60, 2, .rw, 0, [(0, 2)]⟩, ⟨62, 2, .rw, 0, [(0, 2)]⟩]⟩,
  ⟨"CLK_ON", 0xF0001000200, 0x8, 5, [⟨0, 64, .ro, 0, []⟩]⟩]

/-- Event dispatch and exception supervision (R280, R250), part 1. -/
def regsEvd0 : List Reg := [
  ⟨"EXC_MASKLIM", 0xF000200F000, 0x8, 1, [⟨0, 16, .rwl, 0x32, [(1, 65535)]⟩, ⟨16, 48, .rsv, 0, []⟩]⟩,
  ⟨"EXC_FAULTLIM", 0xF000200F008, 0x8, 1, [⟨0, 16, .rw, 0x3E8, [(1, 65535)]⟩, ⟨16, 48, .rsv, 0, []⟩]⟩,
  ⟨"EXC_OVERSTAY0", 0xF000200F010, 0x8, 1, [⟨0, 64, .w1c, 0, []⟩]⟩,
  ⟨"EXC_OVERSTAY1", 0xF000200F018, 0x8, 1, [⟨0, 32, .w1c, 0, []⟩, ⟨32, 8, .w1c, 0, []⟩, ⟨40, 24, .rsv, 0, []⟩]⟩,
  ⟨"EXC_LOCKUP0", 0xF000200F020, 0x8, 1, [⟨0, 64, .w1c, 0, []⟩]⟩,
  ⟨"EXC_LOCKUP1", 0xF000200F028, 0x8, 1, [⟨0, 32, .w1c, 0, []⟩, ⟨32, 8, .w1c, 0, []⟩, ⟨40, 24, .rsv, 0, []⟩]⟩,
  ⟨"EXC_ESCCNT", 0xF000200F030, 0x8, 1, [⟨0, 64, .ro, 0, []⟩]⟩,
  ⟨"EXC_CMD", 0xF000200F038, 0x8, 1, [⟨0, 1, .wo, 0, []⟩, ⟨1, 63, .rsv, 0, []⟩]⟩,
  ⟨"EXC_ERR", 0xF000200F040, 0x8, 1, [⟨0, 1, .w1c, 0, []⟩, ⟨1, 63, .rsv, 0, []⟩]⟩,
  ⟨"EVD_CTRL", 0xF0002000000, 0x8, 1, [⟨0, 1, .rw, 0, []⟩, ⟨1, 63, .rsv, 0, []⟩]⟩,
  ⟨"EVD_TASKTAB", 0xF0002000008, 0x8, 1, [⟨0, 21, .rsv, 0, []⟩, ⟨21, 23, .rwl, 0, []⟩, ⟨44, 20, .rsv, 0, []⟩]⟩,
  ⟨"EVD_SPILLCFG", 0xF0002000010, 0x8, 1, [⟨0, 3, .rw, 1, [(0, 4)]⟩, ⟨3, 61, .rsv, 0, []⟩]⟩,
  ⟨"EVD_CMD", 0xF0002000018, 0x8, 1, [⟨0, 4, .wo, 0, [(0, 5)]⟩, ⟨4, 12, .rsv, 0, []⟩, ⟨16, 16, .wo, 0, []⟩, ⟨32, 32, .rsv, 0, []⟩]⟩,
  ⟨"EVD_STATUS", 0xF0002000020, 0x8, 1, [⟨0, 1, .ro, 0, []⟩, ⟨1, 2, .ro, 0, []⟩, ⟨3, 61, .rsv, 0, []⟩]⟩,
  ⟨"EVD_ERR", 0xF0002000028, 0x8, 1, [⟨0, 1, .w1c, 0, []⟩, ⟨1, 1, .w1c, 0, []⟩, ⟨2, 1, .w1c, 0, []⟩, ⟨3, 1, .w1c, 0, []⟩, ⟨4, 1, .w1c, 0, []⟩, ⟨5, 1, .w1c, 0, []⟩, ⟨6, 1, .w1c, 0, []⟩, ⟨7, 57, .rsv, 0, []⟩]⟩,
  ⟨"EVD_POST", 0xF0002000030, 0x8, 1, [⟨0, 12, .wo, 0, []⟩, ⟨12, 52, .rsv, 0, []⟩]⟩,
  ⟨"EVD_CNT_RES", 0xF0002000038, 0x8, 1, [⟨0, 64, .ro, 0, []⟩]⟩,
  ⟨"EVD_CNT_FILL", 0xF0002000040, 0x8, 1, [⟨0, 64, .ro, 0, []⟩]⟩,
  ⟨"EVD_CNT_SPILL", 0xF0002000048, 0x8, 1, [⟨0, 64, .ro, 0, []⟩]⟩,
  ⟨"EVD_CNT_STALL", 0xF0002000050, 0x8, 1, [⟨0, 64, .ro, 0, []⟩]⟩]

/-- Event dispatch and exception supervision (R280, R250), part 2. -/
def regsEvd1 : List Reg := [
  ⟨"EVD_CNT_REDISP", 0xF0002000058, 0x8, 1, [⟨0, 64, .ro, 0, []⟩]⟩,
  ⟨"EVD_PAIRCFG", 0xF0002001000, 0x8, 96, [⟨0, 7, .rw, 0, [(0, 95)]⟩, ⟨7, 1, .rsv, 0, []⟩, ⟨8, 1, .rw, 0, []⟩, ⟨9, 7, .rsv, 0, []⟩, ⟨16, 16, .rw, 0, []⟩, ⟨32, 32, .rsv, 0, []⟩]⟩,
  ⟨"EVD_PAIRSTAT", 0xF0002001400, 0x8, 96, [⟨0, 4, .ro, 0, []⟩, ⟨4, 1, .ro, 1, []⟩, ⟨5, 1, .ro, 0, []⟩, ⟨6, 1, .ro, 0, []⟩, ⟨7, 1, .rsv, 0, []⟩, ⟨8, 15, .ro, 0x7FFF, []⟩, ⟨23, 9, .rsv, 0, []⟩, ⟨32, 4, .ro, 0, []⟩, ⟨36, 28, .rsv, 0, []⟩]⟩,
  ⟨"EVD_SLOT", 0xF0002010000, 0x8, 4096, [⟨0, 16, .rw, 0, []⟩, ⟨16, 4, .rw, 0, [(0, 14)]⟩, ⟨20, 3, .rw, 0, [(0, 3)]⟩, ⟨23, 1, .rw, 0, []⟩, ⟨24, 39, .rsv, 0, []⟩, ⟨63, 1, .ro, 0, []⟩]⟩,
  ⟨"EVD_CHSTAT", 0xF0002018000, 0x8, 4096, [⟨0, 16, .ro, 0, []⟩, ⟨16, 16, .ro, 0, []⟩, ⟨32, 32, .ro, 0, []⟩]⟩]

/-- Event dispatch and exception supervision (R280, R250): all of them. -/
def regsEvd : List Reg := regsEvd0 ++ regsEvd1

/-- Memory channels and common arbiter registers (R354), part 1. -/
def regsMch0 : List Reg := [
  ⟨"MCH_ERR", 0xF0003000000, 0x10000, 16, [⟨0, 1, .w1c, 0, []⟩, ⟨1, 1, .w1c, 0, []⟩, ⟨2, 62, .rsv, 0, []⟩]⟩,
  ⟨"MCH_UE_ADDR", 0xF0003000008, 0x10000, 16, [⟨0, 44, .ro, 0, []⟩, ⟨44, 20, .rsv, 0, []⟩]⟩,
  ⟨"MCH_CE_CNT", 0xF0003000010, 0x10000, 16, [⟨0, 64, .ro, 0, []⟩]⟩,
  ⟨"MCH_UE_CNT", 0xF0003000018, 0x10000, 16, [⟨0, 64, .ro, 0, []⟩]⟩,
  ⟨"MCH_SCRUB", 0xF0003000020, 0x10000, 16, [⟨0, 1, .rw, 1, []⟩, ⟨1, 15, .rsv, 0, []⟩, ⟨16, 32, .rw, 0x19FA, [(100, 10000000)]⟩, ⟨48, 16, .rsv, 0, []⟩]⟩,
  ⟨"MCH_SCRUB_POS", 0xF0003000028, 0x10000, 16, [⟨0, 32, .ro, 0, []⟩, ⟨32, 16, .ro, 0, []⟩, ⟨48, 16, .rsv, 0, []⟩]⟩,
  ⟨"MCH_LFSR", 0xF0003000030, 0x10000, 16, [⟨0, 32, .rw, 0, [(1, 4294967295)]⟩, ⟨32, 32, .rsv, 0, []⟩]⟩,
  ⟨"ARB_TKT0", 0xF0003000040, 0x10000, 16, [⟨0, 8, .rw, 0x18, []⟩, ⟨8, 8, .rw, 0x18, []⟩, ⟨16, 8, .rw, 0x18, []⟩, ⟨24, 8, .rw, 0x18, []⟩, ⟨32, 8, .rw, 0x18, []⟩, ⟨40, 8, .rw, 0x18, []⟩, ⟨48, 8, .rw, 0x18, []⟩, ⟨56, 8, .rw, 0x18, []⟩]⟩,
  ⟨"ARB_TKT1", 0xF0003000048, 0x10000, 16, [⟨0, 8, .rw, 0x18, []⟩, ⟨8, 8, .rw, 0x18, []⟩, ⟨16, 8, .rw, 0x18, []⟩, ⟨24, 8, .rw, 0x18, []⟩, ⟨32, 8, .rw, 0x40, []⟩, ⟨40, 8, .rw, 0x10, []⟩, ⟨48, 8, .rw, 0x10, []⟩, ⟨56, 8, .rw, 0x10, []⟩]⟩,
  ⟨"ARB_TKT2", 0xF0003000050, 0x10000, 16, [⟨0, 8, .rw, 0x10, []⟩, ⟨8, 8, .rw, 0x10, []⟩, ⟨16, 8, .rw, 0x18, []⟩, ⟨24, 8, .rw, 8, []⟩, ⟨32, 8, .rw, 2, []⟩, ⟨40, 8, .rw, 0x10, []⟩, ⟨48, 16, .rsv, 0, []⟩]⟩,
  ⟨"ARB_LIM", 0xF0003000058, 0x10000, 16, [⟨0, 10, .rw, 0x100, [(32, 1023)]⟩, ⟨10, 6, .rsv, 0, []⟩, ⟨16, 16, .rw, 0x2AF8, []⟩, ⟨32, 32, .rsv, 0, []⟩]⟩,
  ⟨"ARB_TKT_ACT0", 0xF0003000060, 0x10000, 16, [⟨0, 8, .ro, 0x18, []⟩, ⟨8, 8, .ro, 0x18, []⟩, ⟨16, 8, .ro, 0x18, []⟩, ⟨24, 8, .ro, 0x18, []⟩, ⟨32, 8, .ro, 0x18, []⟩, ⟨40, 8, .ro, 0x18, []⟩, ⟨48, 8, .ro, 0x18, []⟩, ⟨56, 8, .ro, 0x18, []⟩]⟩,
  ⟨"ARB_TKT_ACT1", 0xF0003000068, 0x10000, 16, [⟨0, 8, .ro, 0x18, []⟩, ⟨8, 8, .ro, 0x18, []⟩, ⟨16, 8, .ro, 0x18, []⟩, ⟨24, 8, .ro, 0x18, []⟩, ⟨32, 8, .ro, 0x40, []⟩, ⟨40, 8, .ro, 0x10, []⟩, ⟨48, 8, .ro, 0x10, []⟩, ⟨56, 8, .ro, 0x10, []⟩]⟩,
  ⟨"ARB_TKT_ACT2", 0xF0003000070, 0x10000, 16, [⟨0, 8, .ro, 0x10, []⟩, ⟨8, 8, .ro, 0x10, []⟩, ⟨16, 8, .ro, 0x18, []⟩, ⟨24, 8, .ro, 8, []⟩, ⟨32, 8, .ro, 2, []⟩, ⟨40, 8, .ro, 0x10, []⟩, ⟨48, 16, .rsv, 0, []⟩]⟩,
  ⟨"ARB_LIM_ACT", 0xF0003000078, 0x10000, 16, [⟨0, 10, .ro, 0x100, []⟩, ⟨10, 6, .rsv, 0, []⟩, ⟨16, 16, .ro, 0x2AF8, []⟩, ⟨32, 32, .rsv, 0, []⟩]⟩,
  ⟨"ARB_HOLD", 0xF0003000080, 0x10000, 16, [⟨0, 5, .ro, 0, []⟩, ⟨5, 11, .rsv, 0, []⟩, ⟨16, 16, .ro, 0, []⟩, ⟨32, 32, .ro, 0, []⟩]⟩,
  ⟨"ARB_FORCED", 0xF0003000088, 0x10000, 16, [⟨0, 64, .ro, 0, []⟩]⟩,
  ⟨"ARB_COMMIT", 0xF0003100000, 0x8, 1, [⟨0, 16, .wo, 0, []⟩, ⟨16, 48, .rsv, 0, []⟩]⟩,
  ⟨"ARB_CSTATUS", 0xF0003100008, 0x8, 1, [⟨0, 16, .ro, 0, []⟩, ⟨16, 3, .ro, 0, []⟩, ⟨19, 45, .rsv, 0, []⟩]⟩,
  ⟨"ARB_CERR", 0xF0003100010, 0x8, 1, [⟨0, 1, .w1c, 0, []⟩, ⟨1, 1, .w1c, 0, []⟩, ⟨2, 62, .rsv, 0, []⟩]⟩]

/-- Memory channels and common arbiter registers (R354), part 2. -/
def regsMch1 : List Reg := [
  ⟨"ARB_EVT", 0xF0003100018, 0x8, 1, [⟨0, 12, .rw, 0, []⟩, ⟨12, 3, .rsv, 0, []⟩, ⟨15, 1, .rw, 0, []⟩, ⟨16, 48, .rsv, 0, []⟩]⟩,
  ⟨"MCH_CMD", 0xF0003100020, 0x8, 1, [⟨0, 1, .wo, 0, []⟩, ⟨1, 63, .rsv, 0, []⟩]⟩,
  ⟨"ARB_BOUND", 0xF0003100100, 0x8, 22, [⟨0, 8, .ro, 0, []⟩, ⟨8, 8, .ro, 0xFF, []⟩, ⟨16, 48, .rsv, 0, []⟩]⟩,
  ⟨"ARB_BOUND_LIM", 0xF00031001B0, 0x8, 1, [⟨0, 10, .ro, 0x3FF, []⟩, ⟨10, 54, .rsv, 0, []⟩]⟩]

/-- `ARB_STAT[q]` and `ARB_LAT[q]` of every channel, q = 0-21 (R354). -/
def regsArbQ : List Reg :=
  (List.range 22).map (fun q => ⟨"ARB_STAT", 0xF0003000100 + 8 * q, 0x10000, 16, [⟨0, 10, .ro, 0, []⟩, ⟨10, 2, .rsv, 0, []⟩, ⟨12, 3, .ro, 0, []⟩, ⟨15, 17, .rsv, 0, []⟩, ⟨32, 10, .ro, 0, []⟩, ⟨42, 22, .rsv, 0, []⟩]⟩) ++
  (List.range 22).map (fun q => ⟨"ARB_LAT", 0xF0003000200 + 8 * q, 0x10000, 16, [⟨0, 24, .ro, 0, []⟩, ⟨24, 40, .ro, 0, []⟩]⟩)

/-- Memory channels and common arbiter registers (R354): all of them. -/
def regsMchAll : List Reg := regsMch0 ++ regsMch1 ++ regsArbQ

/-- Tally (R221). -/
def regsTally : List Reg := [
  ⟨"TALLY_CTRL", 0xF0004000000, 0x8, 1, [⟨0, 1, .rw, 0, []⟩, ⟨1, 63, .rsv, 0, []⟩]⟩,
  ⟨"TALLY_GRACE", 0xF0004000008, 0x8, 1, [⟨0, 20, .rwl, 0x7D0, [(100, 1000000)]⟩, ⟨20, 44, .rsv, 0, []⟩]⟩,
  ⟨"TALLY_COMB", 0xF0004000010, 0x8, 1, [⟨0, 10, .rw, 0x40, [(1, 1023)]⟩, ⟨10, 7, .rw, 0x40, [(1, 64)]⟩, ⟨17, 3, .rsv, 0, []⟩, ⟨20, 10, .rw, 0x200, [(16, 512)]⟩, ⟨30, 34, .rsv, 0, []⟩]⟩,
  ⟨"TALLY_BOFF", 0xF0004000018, 0x8, 1, [⟨0, 16, .rw, 0x14, []⟩, ⟨16, 16, .rw, 2, []⟩, ⟨32, 32, .rsv, 0, []⟩]⟩,
  ⟨"TALLY_PEND", 0xF0004000020, 0x8, 1, [⟨0, 16, .rw, 0x44C, [(1, 65535)]⟩, ⟨16, 48, .rsv, 0, []⟩]⟩,
  ⟨"TALLY_CMD", 0xF0004000028, 0x8, 1, [⟨0, 1, .wo, 0, []⟩, ⟨1, 1, .wo, 0, []⟩, ⟨2, 6, .rsv, 0, []⟩, ⟨8, 7, .wo, 0, [(0, 95)]⟩, ⟨15, 49, .rsv, 0, []⟩]⟩,
  ⟨"TALLY_STATUS", 0xF0004000030, 0x8, 1, [⟨0, 2, .ro, 0, []⟩, ⟨2, 6, .rsv, 0, []⟩, ⟨8, 16, .ro, 0, []⟩, ⟨24, 16, .ro, 0, []⟩, ⟨40, 24, .rsv, 0, []⟩]⟩,
  ⟨"TALLY_ERR", 0xF0004000038, 0x8, 1, [⟨0, 1, .w1c, 0, []⟩, ⟨1, 1, .w1c, 0, []⟩, ⟨2, 1, .w1c, 0, []⟩, ⟨3, 61, .rsv, 0, []⟩]⟩,
  ⟨"TALLY_EVT", 0xF0004000040, 0x8, 1, [⟨0, 12, .rw, 0, []⟩, ⟨12, 52, .rsv, 0, []⟩]⟩,
  ⟨"TCH_OCC", 0xF0004001000, 0x100, 16, [⟨0, 10, .ro, 0, []⟩, ⟨10, 6, .rsv, 0, []⟩, ⟨16, 7, .ro, 0, []⟩, ⟨23, 9, .rsv, 0, []⟩, ⟨32, 10, .ro, 0, []⟩, ⟨42, 22, .rsv, 0, []⟩]⟩,
  ⟨"TCH_CNT_ACC", 0xF0004001008, 0x100, 16, [⟨0, 64, .ro, 0, []⟩]⟩,
  ⟨"TCH_CNT_LATE", 0xF0004001010, 0x100, 16, [⟨0, 64, .ro, 0, []⟩]⟩,
  ⟨"TCH_CNT_SEAL", 0xF0004001018, 0x100, 16, [⟨0, 64, .ro, 0, []⟩]⟩,
  ⟨"TCH_CNT_RETRY", 0xF0004001020, 0x100, 16, [⟨0, 64, .ro, 0, []⟩]⟩,
  ⟨"TCH_CNT_WB", 0xF0004001028, 0x100, 16, [⟨0, 64, .ro, 0, []⟩]⟩,
  ⟨"TCH_CNT_PARK", 0xF0004001030, 0x100, 16, [⟨0, 64, .ro, 0, []⟩]⟩]

/-- Journal (R391), part 1. -/
def regsJrn0 : List Reg := [
  ⟨"JRN_CTRL", 0xF0005000000, 0x8, 1, [⟨0, 1, .rw, 0, []⟩, ⟨1, 1, .rw, 0, []⟩, ⟨2, 62, .rsv, 0, []⟩]⟩,
  ⟨"JRN_THR", 0xF0005000008, 0x8, 1, [⟨0, 7, .rwl, 0x4B, []⟩, ⟨7, 1, .rsv, 0, []⟩, ⟨8, 7, .rwl, 0x5A, []⟩, ⟨15, 1, .rsv, 0, []⟩, ⟨16, 7, .rwl, 0x62, []⟩, ⟨23, 41, .rsv, 0, []⟩]⟩,
  ⟨"JRN_SEAL", 0xF0005000010, 0x8, 1, [⟨0, 13, .rwl, 0x1000, [(16, 4096)]⟩, ⟨13, 51, .rsv, 0, []⟩]⟩,
  ⟨"JRN_BP", 0xF0005000018, 0x8, 1, [⟨0, 16, .rw, 0, []⟩, ⟨16, 48, .rsv, 0, []⟩]⟩,
  ⟨"JRN_REPL", 0xF0005000020, 0x8, 1, [⟨0, 2, .rwl, 0, [(0, 2)]⟩, ⟨2, 1, .rwl, 0, []⟩, ⟨3, 5, .rsv, 0, []⟩, ⟨8, 16, .rwl, 0x32, [(1, 65535)]⟩, ⟨24, 40, .rsv, 0, []⟩]⟩,
  ⟨"JRN_ARCH_CFG", 0xF0005000028, 0x8, 1, [⟨0, 2, .rw, 0, []⟩, ⟨2, 6, .rsv, 0, []⟩, ⟨8, 8, .rw, 0, []⟩, ⟨16, 8, .rw, 0, []⟩, ⟨24, 14, .rw, 0x2000, [(4128, 9000)]⟩, ⟨38, 2, .rsv, 0, []⟩, ⟨40, 8, .rw, 0x28, [(1, 100)]⟩, ⟨48, 16, .rw, 0x64, [(1, 65535)]⟩]⟩,
  ⟨"JRN_ARCH_MAC", 0xF0005000030, 0x8, 1, [⟨0, 48, .rw, 0, []⟩, ⟨48, 16, .rw, 0x88B5, []⟩]⟩,
  ⟨"JRN_CMD", 0xF0005000038, 0x8, 1, [⟨0, 1, .wo, 0, []⟩, ⟨1, 1, .wo, 0, []⟩, ⟨2, 62, .rsv, 0, []⟩]⟩,
  ⟨"JRN_STATUS", 0xF0005000040, 0x8, 1, [⟨0, 3, .ro, 0, []⟩, ⟨3, 1, .ro, 0, []⟩, ⟨4, 1, .ro, 0, []⟩, ⟨5, 1, .ro, 0, []⟩, ⟨6, 1, .ro, 0, []⟩, ⟨7, 1, .rsv, 0, []⟩, ⟨8, 7, .ro, 0, []⟩, ⟨15, 1, .rsv, 0, []⟩, ⟨16, 11, .ro, 0, []⟩, ⟨27, 3, .rsv, 0, []⟩, ⟨30, 2, .ro, 0, []⟩, ⟨32, 32, .rsv, 0, []⟩]⟩,
  ⟨"JRN_REPL_STATUS", 0xF0005000048, 0x8, 1, [⟨0, 1, .ro, 0, []⟩, ⟨1, 3, .ro, 0, []⟩, ⟨4, 28, .rsv, 0, []⟩, ⟨32, 32, .ro, 0, []⟩]⟩,
  ⟨"JRN_ERR", 0xF0005000050, 0x8, 1, [⟨0, 1, .w1c, 0, []⟩, ⟨1, 1, .w1c, 0, []⟩, ⟨2, 1, .w1c, 0, []⟩, ⟨3, 1, .w1c, 0, []⟩, ⟨4, 1, .w1c, 0, []⟩, ⟨5, 1, .w1c, 0, []⟩, ⟨6, 58, .rsv, 0, []⟩]⟩,
  ⟨"JRN_EVT", 0xF0005000058, 0x8, 1, [⟨0, 12, .rw, 0, []⟩, ⟨12, 3, .rsv, 0, []⟩, ⟨15, 1, .rw, 0, []⟩, ⟨16, 48, .rsv, 0, []⟩]⟩,
  ⟨"JRN_EPOCH", 0xF0005000060, 0x8, 1, [⟨0, 64, .ro, 0, []⟩]⟩,
  ⟨"JRN_HEAD_SEQ", 0xF0005000068, 0x8, 1, [⟨0, 64, .ro, 0, []⟩]⟩,
  ⟨"JRN_DUR_SEQ", 0xF0005000070, 0x8, 1, [⟨0, 64, .ro, 0, []⟩]⟩,
  ⟨"JRN_PACK_SEQ", 0xF0005000078, 0x8, 1, [⟨0, 64, .ro, 0, []⟩]⟩,
  ⟨"JRN_DRAIN_SEQ", 0xF0005000080, 0x8, 1, [⟨0, 64, .ro, 0, []⟩]⟩,
  ⟨"JRN_ARCH_SEQ", 0xF0005000088, 0x8, 1, [⟨0, 64, .ro, 0, []⟩]⟩,
  ⟨"JRN_HEAD_OFF", 0xF0005000090, 0x8, 1, [⟨0, 38, .ro, 0, []⟩, ⟨38, 26, .rsv, 0, []⟩]⟩,
  ⟨"JRN_ARCH_OFF", 0xF0005000098, 0x8, 1, [⟨0, 38, .ro, 0, []⟩, ⟨38, 26, .rsv, 0, []⟩]⟩]

/-- Journal (R391), part 2. -/
def regsJrn1 : List Reg := [
  ⟨"JRN_LOOKUP", 0xF00050000A0, 0x8, 1, [⟨0, 64, .rw, 0, []⟩]⟩,
  ⟨"JRN_LOOKUP_RES", 0xF00050000A8, 0x8, 1, [⟨0, 38, .ro, 0, []⟩, ⟨38, 24, .rsv, 0, []⟩, ⟨62, 1, .ro, 0, []⟩, ⟨63, 1, .ro, 0, []⟩]⟩,
  ⟨"JRN_CNT_APP", 0xF0005000100, 0x8, 1, [⟨0, 64, .ro, 0, []⟩]⟩,
  ⟨"JRN_CNT_FULL", 0xF0005000108, 0x8, 1, [⟨0, 64, .ro, 0, []⟩]⟩,
  ⟨"JRN_CNT_SEAL", 0xF0005000110, 0x8, 1, [⟨0, 64, .ro, 0, []⟩]⟩,
  ⟨"JRN_CNT_RETX", 0xF0005000118, 0x8, 1, [⟨0, 64, .ro, 0, []⟩]⟩,
  ⟨"JRN_CNT_ACKBAD", 0xF0005000120, 0x8, 1, [⟨0, 64, .ro, 0, []⟩]⟩,
  ⟨"JRN_CNT_FWD", 0xF0005000128, 0x8, 1, [⟨0, 64, .ro, 0, []⟩]⟩]

/-- Journal (R391): all of them. -/
def regsJrn : List Reg := regsJrn0 ++ regsJrn1

/-- Draw (R407). -/
def regsDrw : List Reg := [
  ⟨"DRW_CTRL", 0xF0006000000, 0x8, 1, [⟨0, 1, .rwl, 0, []⟩, ⟨1, 63, .rsv, 0, []⟩]⟩,
  ⟨"DRW_RESEED", 0xF0006000008, 0x8, 1, [⟨0, 32, .rwl, 0x10000, [(1, 4294967295)]⟩, ⟨32, 16, .rwl, 0x2710, []⟩, ⟨48, 16, .rsv, 0, []⟩]⟩,
  ⟨"DRW_HEALTH", 0xF0006000010, 0x8, 1, [⟨0, 8, .rwl, 0x19, [(8, 255)]⟩, ⟨8, 8, .rsv, 0, []⟩, ⟨16, 11, .rwl, 0x285, [(513, 1024)]⟩, ⟨27, 37, .rsv, 0, []⟩]⟩,
  ⟨"DRW_CMD", 0xF0006000018, 0x8, 1, [⟨0, 1, .wo, 0, []⟩, ⟨1, 63, .rsv, 0, []⟩]⟩,
  ⟨"DRW_STATUS", 0xF0006000020, 0x8, 1, [⟨0, 3, .ro, 0, []⟩, ⟨3, 1, .ro, 0, []⟩, ⟨4, 7, .ro, 0, []⟩, ⟨11, 1, .rsv, 0, []⟩, ⟨12, 2, .ro, 0, []⟩, ⟨14, 50, .rsv, 0, []⟩]⟩,
  ⟨"DRW_ERR", 0xF0006000028, 0x8, 1, [⟨0, 1, .w1c, 0, []⟩, ⟨1, 1, .w1c, 0, []⟩, ⟨2, 1, .w1c, 0, []⟩, ⟨3, 1, .w1c, 0, []⟩, ⟨4, 1, .w1c, 0, []⟩, ⟨5, 59, .rsv, 0, []⟩]⟩,
  ⟨"DRW_EVT", 0xF0006000030, 0x8, 1, [⟨0, 12, .rw, 0, []⟩, ⟨12, 3, .rsv, 0, []⟩, ⟨15, 1, .rw, 0, []⟩, ⟨16, 48, .rsv, 0, []⟩]⟩,
  ⟨"DRW_INST", 0xF0006000038, 0x8, 1, [⟨0, 64, .ro, 0, []⟩]⟩,
  ⟨"DRW_RESEEDS", 0xF0006000040, 0x8, 1, [⟨0, 64, .ro, 0, []⟩]⟩,
  ⟨"DRW_RESEED_CTR", 0xF0006000048, 0x8, 1, [⟨0, 64, .ro, 0, []⟩]⟩,
  ⟨"DRW_IDTAB", 0xF0006000050, 0x8, 1, [⟨0, 17, .ro, 0, []⟩, ⟨17, 47, .rsv, 0, []⟩]⟩,
  ⟨"DRW_LAST_SEQ", 0xF0006000058, 0x8, 1, [⟨0, 64, .ro, 0, []⟩]⟩,
  ⟨"DRW_CNT_DRAW", 0xF0006000100, 0x8, 1, [⟨0, 64, .ro, 0, []⟩]⟩,
  ⟨"DRW_CNT_DUP", 0xF0006000108, 0x8, 1, [⟨0, 64, .ro, 0, []⟩]⟩,
  ⟨"DRW_CNT_REJ", 0xF0006000110, 0x8, 1, [⟨0, 64, .ro, 0, []⟩]⟩,
  ⟨"DRW_CNT_FAIL", 0xF0006000118, 0x8, 1, [⟨0, 64, .ro, 0, []⟩]⟩]

/-- Eclipse (R100). -/
def regsEcl : List Reg := [
  ⟨"ECL_CTRL", 0xF0007000000, 0x8, 1, [⟨0, 1, .rw, 1, []⟩, ⟨1, 1, .rw, 0, []⟩, ⟨2, 6, .rsv, 0, []⟩, ⟨8, 8, .rw, 0, []⟩, ⟨16, 48, .rsv, 0, []⟩]⟩,
  ⟨"ECL_CMD", 0xF0007000008, 0x8, 1, [⟨0, 1, .wo, 0, []⟩, ⟨1, 1, .wo, 0, []⟩, ⟨2, 1, .wo, 0, []⟩, ⟨3, 61, .rsv, 0, []⟩]⟩,
  ⟨"ECL_STATUS", 0xF0007000010, 0x8, 1, [⟨0, 1, .ro, 0, []⟩, ⟨1, 3, .ro, 0, []⟩, ⟨4, 1, .ro, 0, []⟩, ⟨5, 2, .ro, 0, []⟩, ⟨7, 1, .ro, 0, []⟩, ⟨8, 56, .rsv, 0, []⟩]⟩,
  ⟨"ECL_ERR", 0xF0007000018, 0x8, 1, [⟨0, 1, .w1c, 0, []⟩, ⟨1, 1, .w1c, 0, []⟩, ⟨2, 1, .w1c, 0, []⟩, ⟨3, 1, .w1c, 0, []⟩, ⟨4, 1, .w1c, 0, []⟩, ⟨10, 6, .ro, 0, []⟩, ⟨5, 5, .rsv, 0, []⟩, ⟨16, 48, .rsv, 0, []⟩]⟩,
  ⟨"ECL_EPOCH_STARTED", 0xF0007000020, 0x8, 1, [⟨0, 64, .ro, 0, []⟩]⟩,
  ⟨"ECL_EPOCH_DONE", 0xF0007000028, 0x8, 1, [⟨0, 64, .ro, 0, []⟩]⟩,
  ⟨"ECL_EVT", 0xF0007000030, 0x8, 1, [⟨0, 12, .rw, 0, []⟩, ⟨12, 3, .rsv, 0, []⟩, ⟨15, 1, .rw, 0, []⟩, ⟨16, 48, .rsv, 0, []⟩]⟩,
  ⟨"ECL_LAST_US", 0xF0007000038, 0x8, 1, [⟨0, 64, .ro, 0, []⟩]⟩,
  ⟨"ECL_CNT_GRAN", 0xF0007000040, 0x8, 1, [⟨0, 64, .ro, 0, []⟩]⟩,
  ⟨"ECL_CNT_PAGES", 0xF0007000048, 0x8, 1, [⟨0, 64, .ro, 0, []⟩]⟩,
  ⟨"ECL_CNT_SKIP", 0xF0007000050, 0x8, 1, [⟨0, 64, .ro, 0, []⟩]⟩,
  ⟨"ECL_CNT_SWCLR", 0xF0007000058, 0x8, 1, [⟨0, 64, .ro, 0, []⟩]⟩,
  ⟨"ECL_CNT_LBCLR", 0xF0007000060, 0x8, 1, [⟨0, 64, .ro, 0, []⟩]⟩,
  ⟨"ECL_ROOT_A", 0xF0007001000, 0x10, 64, [⟨0, 1, .rw, 0, []⟩, ⟨1, 1, .rw, 0, []⟩, ⟨2, 2, .rsv, 0, []⟩, ⟨4, 40, .rw, 0, []⟩, ⟨44, 20, .rsv, 0, []⟩]⟩,
  ⟨"ECL_ROOT_B", 0xF0007001008, 0x10, 64, [⟨0, 64, .rw, 0, []⟩]⟩]

/-- Translation and RCU (R336). -/
def regsRcu : List Reg := [
  ⟨"RCU_CTRL", 0xF0008000000, 0x8, 1, [⟨0, 1, .w1s, 0, []⟩, ⟨1, 63, .rsv, 0, []⟩]⟩,
  ⟨"RCU_ERR", 0xF0008000008, 0x8, 1, [⟨0, 1, .w1c, 0, []⟩, ⟨1, 1, .w1c, 0, []⟩, ⟨2, 1, .w1c, 0, []⟩, ⟨3, 1, .w1c, 0, []⟩, ⟨4, 60, .rsv, 0, []⟩]⟩,
  ⟨"RCU_VIOL_ADDR", 0xF0008000010, 0x8, 1, [⟨0, 44, .ro, 0, []⟩, ⟨44, 20, .rsv, 0, []⟩]⟩,
  ⟨"RCU_VIOL_INFO", 0xF0008000018, 0x8, 1, [⟨0, 4, .ro, 0, []⟩, ⟨4, 4, .ro, 0, []⟩, ⟨8, 2, .ro, 0, []⟩, ⟨10, 54, .rsv, 0, []⟩]⟩,
  ⟨"RCU_CNT_VIOL", 0xF0008000020, 0x8, 1, [⟨0, 64, .ro, 0, []⟩]⟩,
  ⟨"TR_CNT_WALK", 0xF0008000028, 0x8, 1, [⟨0, 64, .ro, 0, []⟩]⟩,
  ⟨"TR_CNT_CDSET", 0xF0008000030, 0x8, 1, [⟨0, 64, .ro, 0, []⟩]⟩,
  ⟨"TR_CMD", 0xF0008000038, 0x8, 1, [⟨0, 1, .wo, 0, []⟩, ⟨1, 63, .rsv, 0, []⟩]⟩,
  ⟨"RCU_G_LO", 0xF0008001000, 0x10, 32, [⟨0, 38, .rw, 0, []⟩, ⟨38, 10, .rsv, 0, []⟩, ⟨48, 1, .rw, 0, []⟩, ⟨49, 1, .rw, 0, []⟩, ⟨50, 1, .rw, 0, []⟩, ⟨51, 1, .rw, 0, []⟩, ⟨52, 1, .rw, 0, []⟩, ⟨53, 2, .rsv, 0, []⟩, ⟨55, 1, .w1s, 0, []⟩, ⟨56, 4, .rw, 0, [(0, 5)]⟩, ⟨60, 3, .rsv, 0, []⟩, ⟨63, 1, .rw, 0, []⟩]⟩,
  ⟨"RCU_G_HI", 0xF0008001008, 0x10, 32, [⟨0, 38, .rw, 0, []⟩, ⟨38, 25, .rsv, 0, []⟩, ⟨63, 1, .rw, 0, []⟩]⟩,
  ⟨"RCU_DBG_LO", 0xF0008001400, 0x10, 8, [⟨0, 38, .rwl, 0, []⟩, ⟨38, 10, .rsv, 0, []⟩, ⟨48, 1, .rwl, 0, []⟩, ⟨49, 1, .rwl, 0, []⟩, ⟨50, 2, .rsv, 0, []⟩, ⟨52, 1, .rwl, 0, []⟩, ⟨53, 10, .rsv, 0, []⟩, ⟨63, 1, .rwl, 0, []⟩]⟩,
  ⟨"RCU_DBG_HI", 0xF0008001408, 0x10, 8, [⟨0, 38, .rwl, 0, []⟩, ⟨38, 26, .rsv, 0, []⟩]⟩]

/-- Network and time (R520), part 1. -/
def regsNet0 : List Reg := [
  ⟨"NET_CTRL", 0xF0009000000, 0x8, 1, [⟨0, 4, .rw, 0, []⟩, ⟨4, 4, .rsv, 0, []⟩, ⟨8, 8, .rw, 0, [(0, 239)]⟩, ⟨16, 8, .rw, 0, [(0, 239)]⟩, ⟨24, 8, .rw, 0, [(0, 239)]⟩, ⟨32, 8, .rw, 0, [(0, 239)]⟩, ⟨40, 24, .rsv, 0, []⟩]⟩,
  ⟨"NET_STATUS", 0xF0009000008, 0x8, 1, [⟨0, 4, .ro, 0, []⟩, ⟨4, 60, .rsv, 0, []⟩]⟩,
  ⟨"NET_ERR", 0xF0009000010, 0x8, 1, [⟨0, 1, .w1c, 0, []⟩, ⟨1, 1, .w1c, 0, []⟩, ⟨2, 62, .rsv, 0, []⟩]⟩,
  ⟨"NET_EVT", 0xF0009000018, 0x8, 1, [⟨0, 12, .rw, 0, []⟩, ⟨12, 3, .rsv, 0, []⟩, ⟨15, 1, .rw, 0, []⟩, ⟨16, 48, .rsv, 0, []⟩]⟩,
  ⟨"MB_CNT_TMO", 0xF0009000020, 0x8, 1, [⟨0, 64, .ro, 0, []⟩]⟩,
  ⟨"NET_RXQ_BASE", 0xF0009001000, 0x10, 256, [⟨0, 6, .rsv, 0, []⟩, ⟨6, 38, .rw, 0, []⟩, ⟨44, 20, .rsv, 0, []⟩]⟩,
  ⟨"NET_RXQ_CFG", 0xF0009001008, 0x10, 256, [⟨0, 1, .rw, 0, []⟩, ⟨1, 1, .rw, 0, []⟩, ⟨2, 1, .rw, 0, []⟩, ⟨3, 13, .rsv, 0, []⟩, ⟨16, 13, .rw, 0, [(1, 4096)]⟩, ⟨29, 3, .rsv, 0, []⟩, ⟨32, 12, .rw, 0, []⟩, ⟨44, 20, .rsv, 0, []⟩]⟩,
  ⟨"NET_RULE_M", 0xF0009002000, 0x10, 64, [⟨0, 48, .rw, 0, []⟩, ⟨48, 16, .rw, 0, []⟩]⟩,
  ⟨"NET_RULE_A", 0xF0009002008, 0x10, 64, [⟨0, 1, .rw, 0, []⟩, ⟨1, 3, .rw, 0, []⟩, ⟨4, 4, .rw, 0, []⟩, ⟨8, 8, .rw, 0, []⟩, ⟨16, 8, .rw, 1, [(1, 240)]⟩, ⟨24, 12, .rw, 0, []⟩, ⟨36, 28, .rsv, 0, []⟩]⟩,
  ⟨"NET_TXQ_BASE", 0xF0009003000, 0x10, 256, [⟨0, 4, .rsv, 0, []⟩, ⟨4, 40, .rw, 0, []⟩, ⟨44, 20, .rsv, 0, []⟩]⟩,
  ⟨"NET_TXQ_CFG", 0xF0009003008, 0x10, 256, [⟨0, 1, .rw, 0, []⟩, ⟨1, 2, .rw, 0, []⟩, ⟨3, 13, .rsv, 0, []⟩, ⟨16, 13, .rw, 0, [(1, 4096)]⟩, ⟨29, 3, .rsv, 0, []⟩, ⟨32, 12, .rw, 0, []⟩, ⟨44, 1, .rw, 0, []⟩, ⟨45, 19, .rsv, 0, []⟩]⟩,
  ⟨"NET_TXQ_TAIL", 0xF0009004000, 0x8, 256, [⟨0, 12, .rw, 0, []⟩, ⟨12, 52, .rsv, 0, []⟩]⟩,
  ⟨"NET_PCNT0", 0xF0009005000, 0x40, 4, [⟨0, 64, .ro, 0, []⟩]⟩,
  ⟨"NET_PCNT1", 0xF0009005008, 0x40, 4, [⟨0, 64, .ro, 0, []⟩]⟩,
  ⟨"NET_PCNT2", 0xF0009005010, 0x40, 4, [⟨0, 64, .ro, 0, []⟩]⟩,
  ⟨"NET_PCNT3", 0xF0009005018, 0x40, 4, [⟨0, 64, .ro, 0, []⟩]⟩,
  ⟨"NET_PCNT4", 0xF0009005020, 0x40, 4, [⟨0, 64, .ro, 0, []⟩]⟩,
  ⟨"NET_PCNT5", 0xF0009005028, 0x40, 4, [⟨0, 64, .ro, 0, []⟩]⟩,
  ⟨"NET_PCNT6", 0xF0009005030, 0x40, 4, [⟨0, 64, .ro, 0, []⟩]⟩,
  ⟨"NET_PCNT7", 0xF0009005038, 0x40, 4, [⟨0, 64, .ro, 0, []⟩]⟩]

/-- Network and time (R520), part 2. -/
def regsNet1 : List Reg := [
  ⟨"TIME_NOW", 0xF0009008000, 0x8, 1, [⟨0, 64, .ro, 0, []⟩]⟩,
  ⟨"TIME_CFG", 0xF0009008008, 0x8, 1, [⟨0, 2, .rwl, 0, [(0, 2)]⟩, ⟨2, 2, .rwl, 0, []⟩, ⟨4, 4, .rwl, 0, []⟩, ⟨8, 8, .rwl, 0, [(0, 127)]⟩, ⟨16, 1, .rwl, 0, []⟩, ⟨17, 15, .rsv, 0, []⟩, ⟨32, 16, .rwl, 0x3E8, [(100, 10000)]⟩, ⟨48, 16, .rsv, 0, []⟩]⟩,
  ⟨"TIME_LIM", 0xF0009008010, 0x8, 1, [⟨0, 16, .rwl, 0x3E8, [(100, 65535)]⟩, ⟨16, 16, .rwl, 0x32, [(1, 10000)]⟩, ⟨32, 8, .rwl, 0x64, [(1, 200)]⟩, ⟨40, 24, .rsv, 0, []⟩]⟩,
  ⟨"TIME_STATUS", 0xF0009008018, 0x8, 1, [⟨0, 2, .ro, 0, []⟩, ⟨2, 1, .ro, 1, []⟩, ⟨3, 1, .ro, 0, []⟩, ⟨4, 2, .ro, 0, []⟩, ⟨6, 10, .rsv, 0, []⟩, ⟨16, 32, .ro, 0, []⟩, ⟨48, 16, .rsv, 0, []⟩]⟩,
  ⟨"TIME_ERR", 0xF0009008020, 0x8, 1, [⟨0, 1, .w1c, 0, []⟩, ⟨1, 1, .w1c, 0, []⟩, ⟨2, 1, .w1c, 0, []⟩, ⟨3, 61, .rsv, 0, []⟩]⟩,
  ⟨"TIME_GM", 0xF0009008040, 0x8, 4, [⟨0, 64, .rwl, 0, []⟩]⟩]

/-- Network and time (R520): all of them. -/
def regsNet : List Reg := regsNet0 ++ regsNet1

/-- PCIe (R522). -/
def regsPci : List Reg := [
  ⟨"PCI_CTRL", 0xF000A000000, 0x8, 1, [⟨0, 1, .rw, 0, []⟩, ⟨1, 63, .rsv, 0, []⟩]⟩,
  ⟨"PCI_STATUS", 0xF000A000008, 0x8, 1, [⟨0, 1, .ro, 0, []⟩, ⟨1, 5, .ro, 0, []⟩, ⟨6, 3, .ro, 0, []⟩, ⟨9, 55, .rsv, 0, []⟩]⟩,
  ⟨"PCI_ERR", 0xF000A000010, 0x8, 1, [⟨0, 1, .w1c, 0, []⟩, ⟨1, 1, .w1c, 0, []⟩, ⟨2, 1, .w1c, 0, []⟩, ⟨3, 1, .w1c, 0, []⟩, ⟨4, 60, .rsv, 0, []⟩]⟩,
  ⟨"PCI_CFG", 0xF000A000018, 0x8, 1, [⟨0, 16, .rw, 0x64, [(1, 65535)]⟩, ⟨16, 48, .rsv, 0, []⟩]⟩,
  ⟨"PCI_CNT_BADW", 0xF000A000020, 0x8, 1, [⟨0, 64, .ro, 0, []⟩]⟩,
  ⟨"PCI_SQ_BASE", 0xF000A001000, 0x20, 16, [⟨0, 4, .rsv, 0, []⟩, ⟨4, 40, .rw, 0, []⟩, ⟨44, 20, .rsv, 0, []⟩]⟩,
  ⟨"PCI_SQ_CFG", 0xF000A001008, 0x20, 16, [⟨0, 1, .rw, 0, []⟩, ⟨1, 15, .rsv, 0, []⟩, ⟨16, 13, .rw, 0, [(1, 4096)]⟩, ⟨29, 3, .rsv, 0, []⟩, ⟨32, 12, .rw, 0, []⟩, ⟨44, 1, .rw, 0, []⟩, ⟨45, 19, .rsv, 0, []⟩]⟩,
  ⟨"PCI_SQ_TAIL", 0xF000A001010, 0x20, 16, [⟨0, 12, .rw, 0, []⟩, ⟨12, 52, .rsv, 0, []⟩]⟩]

/-- Cuwen Link (R521). -/
def regsCwl : List Reg := [
  ⟨"CWL_CTRL", 0xF000B000000, 0x8, 1, [⟨0, 2, .rw, 3, []⟩, ⟨2, 1, .rwl, 0, []⟩, ⟨3, 61, .rsv, 0, []⟩]⟩,
  ⟨"CWL_HB", 0xF000B000008, 0x8, 1, [⟨0, 16, .rw, 0xA, [(1, 1000)]⟩, ⟨16, 16, .rwl, 0xC8, [(20, 65535)]⟩, ⟨32, 16, .rwl, 0x32, [(1, 65535)]⟩, ⟨48, 16, .rsv, 0, []⟩]⟩,
  ⟨"CWL_STATUS", 0xF000B000010, 0x8, 1, [⟨0, 2, .ro, 0, []⟩, ⟨2, 1, .ro, 0, []⟩, ⟨3, 1, .ro, 0, []⟩, ⟨4, 28, .rsv, 0, []⟩, ⟨32, 32, .ro, 0, []⟩]⟩,
  ⟨"CWL_ERR", 0xF000B000018, 0x8, 1, [⟨0, 1, .w1c, 0, []⟩, ⟨1, 1, .w1c, 0, []⟩, ⟨2, 1, .w1c, 0, []⟩, ⟨3, 1, .w1c, 0, []⟩, ⟨4, 60, .rsv, 0, []⟩]⟩,
  ⟨"CWL_EVT", 0xF000B000020, 0x8, 1, [⟨0, 12, .rw, 0, []⟩, ⟨12, 3, .rsv, 0, []⟩, ⟨15, 1, .rw, 0, []⟩, ⟨16, 48, .rsv, 0, []⟩]⟩,
  ⟨"CWL_WIN", 0xF000B000028, 0x8, 1, [⟨0, 12, .rsv, 0, []⟩, ⟨12, 32, .rw, 0, []⟩, ⟨44, 20, .rw, 0, []⟩]⟩,
  ⟨"CWL_CNT_REPLAY0", 0xF000B000030, 0x8, 1, [⟨0, 64, .ro, 0, []⟩]⟩,
  ⟨"CWL_CNT_REPLAY1", 0xF000B000038, 0x8, 1, [⟨0, 64, .ro, 0, []⟩]⟩]

/-- Decode table (R424). -/
def regsMc : List Reg := [
  ⟨"MC_VERSION", 0xF000E000000, 0x8, 1, [⟨0, 64, .ro, 0, []⟩]⟩,
  ⟨"MC_HASH0", 0xF000E000008, 0x8, 1, [⟨0, 64, .ro, 0, []⟩]⟩,
  ⟨"MC_HASH1", 0xF000E000010, 0x8, 1, [⟨0, 64, .ro, 0, []⟩]⟩,
  ⟨"MC_HASH2", 0xF000E000018, 0x8, 1, [⟨0, 64, .ro, 0, []⟩]⟩,
  ⟨"MC_HASH3", 0xF000E000020, 0x8, 1, [⟨0, 64, .ro, 0, []⟩]⟩,
  ⟨"MC_PEND0", 0xF000E000028, 0x8, 1, [⟨0, 64, .ro, 0, []⟩]⟩,
  ⟨"MC_PEND1", 0xF000E000030, 0x8, 1, [⟨0, 32, .ro, 0, []⟩, ⟨32, 32, .rsv, 0, []⟩]⟩,
  ⟨"MC_FLT", 0xF000E000038, 0x8, 1, [⟨0, 7, .ro, 0, []⟩, ⟨7, 1, .rsv, 0, []⟩, ⟨8, 6, .ro, 0, []⟩, ⟨14, 2, .rsv, 0, []⟩, ⟨16, 5, .ro, 0, []⟩, ⟨21, 3, .rsv, 0, []⟩, ⟨24, 8, .ro, 0, []⟩, ⟨32, 32, .rsv, 0, []⟩]⟩,
  ⟨"MC_ERR", 0xF000E000040, 0x8, 1, [⟨0, 1, .w1c, 0, []⟩, ⟨1, 1, .w1c, 0, []⟩, ⟨2, 1, .w1c, 0, []⟩, ⟨3, 61, .rsv, 0, []⟩]⟩]

/-- Pipeline timing, in the telemetry block (R306). -/
def regsPt : List Reg := [
  ⟨"PT_OVR0", 0xF000F002000, 0x8, 1, [⟨0, 64, .w1c, 0, []⟩]⟩,
  ⟨"PT_OVR1", 0xF000F002008, 0x8, 1, [⟨0, 32, .w1c, 0, []⟩, ⟨32, 8, .w1c, 0, []⟩, ⟨40, 24, .rsv, 0, []⟩]⟩,
  ⟨"PT_DIST0", 0xF000F002010, 0x8, 1, [⟨0, 64, .w1c, 0, []⟩]⟩,
  ⟨"PT_DIST1", 0xF000F002018, 0x8, 1, [⟨0, 32, .w1c, 0, []⟩, ⟨32, 32, .rsv, 0, []⟩]⟩,
  ⟨"PT_CMD", 0xF000F002020, 0x8, 1, [⟨0, 1, .wo, 0, []⟩, ⟨1, 63, .rsv, 0, []⟩]⟩,
  ⟨"PT_ERR", 0xF000F002028, 0x8, 1, [⟨0, 1, .w1c, 0, []⟩, ⟨1, 63, .rsv, 0, []⟩]⟩,
  ⟨"PT_OVCNT", 0xF000F002100, 0x8, 104, [⟨0, 32, .ro, 0, []⟩, ⟨32, 32, .ro, 0, []⟩]⟩]

/-- The registers of the block that holds a physical address (R563); the empty list outside every block. -/
def blockRegs (a : Nat) : List Reg :=
  if a < 0xF0000000000 then []
  else if a < 0xF0000800000 then regsSec
  else if a < 0xF0001000000 then regsSen
  else if a < 0xF0002000000 then regsPwr
  else if a < 0xF0003000000 then regsEvd
  else if a < 0xF0004000000 then regsMchAll
  else if a < 0xF0005000000 then regsTally
  else if a < 0xF0006000000 then regsJrn
  else if a < 0xF0007000000 then regsDrw
  else if a < 0xF0008000000 then regsEcl
  else if a < 0xF0009000000 then regsRcu
  else if a < 0xF000A000000 then regsNet
  else if a < 0xF000B000000 then regsPci
  else if a < 0xF000C000000 then regsCwl
  else if a < 0xF000E000000 then []
  else if a < 0xF000F000000 then regsMc
  else if a < 0xF0010000000 then regsPt
  else []

/-- Does the register (array) `r` occupy the address? -/
def Reg.holds (r : Reg) (a : Nat) : Bool :=
  r.base ≤ a && (a - r.base) % r.stride == 0 && (a - r.base) / r.stride < r.count

/-- The register at a physical address, if one occupies it (R563). -/
def regFind (a : Nat) : Option Reg := (blockRegs a).find? (fun r => r.holds a)

/-- The reset value of a register as its fields give it (R13). -/
def Reg.resetValue (r : Reg) : Nat := r.fields.foldl (fun n f => n + f.reset * 2 ^ f.lo) 0

/-- The value of the device register at an address after module reset (R13). `EVD_PAIRCFG[p].ALT` resets to
p XOR 1 (R280) and `MCH_LFSR` of channel ch to 0x5EED_0001 + ch (R354); an address no register occupies reads zero. -/
def regReset (a : Nat) : BitVec 64 :=
  match regFind a with
  | none => 0
  | some r =>
    if r.name = "EVD_PAIRCFG" then BitVec.ofNat 64 (((a - r.base) / r.stride) ^^^ 1)
    else if r.name = "MCH_LFSR" then BitVec.ofNat 64 (0x5EED0001 + (a - r.base) / r.stride)
    else BitVec.ofNat 64 r.resetValue

/-- The write-error status bit of the block that holds an address: its register and bit (R12, R563), where the block has one. -/
def wrerrOf (a : Nat) : Option (Nat × Nat) :=
  if a < 0xF0000000000 then none
  else if a < 0xF0000800000 then some (Addr.SEC_ERR, 0)
  else if a < 0xF0001000000 then some (Addr.SEN_ERR, 0)
  else if a < 0xF0002000000 then some (Addr.PWR_ERR, 0)
  else if a < 0xF000200F000 then some (Addr.EVD_ERR, 0)
  else if a < 0xF000200F048 then some (Addr.EXC_ERR, 0)
  else if a < 0xF0003000000 then some (Addr.EVD_ERR, 0)
  else if a < 0xF0003100000 then some (Addr.MCH_ERR ((a - 0xF0003000000) / 0x10000), 0)
  else if a < 0xF0004000000 then some (Addr.ARB_CERR, 0)
  else if a < 0xF0005000000 then some (Addr.TALLY_ERR, 0)
  else if a < 0xF0006000000 then some (Addr.JRN_ERR, 0)
  else if a < 0xF0007000000 then some (Addr.DRW_ERR, 0)
  else if a < 0xF0008000000 then some (Addr.ECL_ERR, 4)
  else if a < 0xF0009000000 then some (Addr.RCU_ERR, 0)
  else if a < 0xF0009008000 then some (Addr.NET_ERR, 0)
  else if a < 0xF000A000000 then some (Addr.TIME_ERR, 0)
  else if a < 0xF000B000000 then some (Addr.PCI_ERR, 0)
  else if a < 0xF000C000000 then some (Addr.CWL_ERR, 0)
  else if a < 0xF000E000000 then none
  else if a < 0xF000F000000 then some (Addr.MC_ERR, 0)
  else if a < 0xF0010000000 then some (Addr.PT_ERR, 0)
  else none

end Sys2Proof.Machine
end

