-- ==== Sys2Proof/Machine/SMap.lean ====
section
/-!
DEFINITION. Sparse maps from addresses or indexes to values, in one canonical form: keys strictly rising, and no
entry equal to what an unlisted key reads as. Memory, tags, register files, device registers and tables are such maps.
-/
namespace Sys2Proof.Machine

/-- The value at key `k`: the listed one, else what an unlisted key reads as. -/
def smGet {β : Type} (d : Nat → β) : List (Nat × β) → Nat → β
  | [], k => d k
  | (a, v) :: m, k => if a = k then v else smGet d m k

/-- The map without an entry at `k`. -/
def smErase {β : Type} : List (Nat × β) → Nat → List (Nat × β)
  | [], _ => []
  | (a, v) :: m, k => if a = k then smErase m k else (a, v) :: smErase m k

/-- The map with the entry `(k, v)`, at its place in the order. -/
def smInsert {β : Type} : List (Nat × β) → Nat → β → List (Nat × β)
  | [], k, v => [(k, v)]
  | (a, w) :: m, k, v =>
    if a = k then (k, v) :: m
    else if k < a then (k, v) :: (a, w) :: m
    else (a, w) :: smInsert m k v

/-- The map with `v` at key `k`; writing what an unlisted key reads as removes the entry. -/
def smSet {β : Type} [DecidableEq β] (d : Nat → β) (m : List (Nat × β)) (k : Nat) (v : β) : List (Nat × β) :=
  if v = d k then smErase m k else smInsert m k v

/-- The canonical form: keys strictly rising above `lo`, no entry equal to the value of an unlisted key. -/
def smWfFrom {β : Type} [DecidableEq β] (d : Nat → β) : Option Nat → List (Nat × β) → Bool
  | _, [] => true
  | lo, (a, v) :: m =>
    (match lo with | none => true | some l => decide (l < a)) && decide (v ≠ d a) && smWfFrom d (some a) m

/-- The canonical form of a map. -/
def smWf {β : Type} [DecidableEq β] (d : Nat → β) (m : List (Nat × β)) : Bool := smWfFrom d none m

/-- Memory that nothing has listed reads as zero bytes (R431 clears DRAM; log 3). -/
def memDefault (_ : Nat) : Byte := 0

/-- The canonical form of a byte memory. -/
def Memory.wf (m : List Host.Cell) : Bool := smWf memDefault m

/-- The `n` bytes at address `a` as a little-endian number (R5). -/
def readLE (m : List Host.Cell) (a : Nat) : Nat → Nat
  | 0 => 0
  | n + 1 => (smGet memDefault m a).toNat + 256 * readLE m (a + 1) n

/-- The memory with the `n` low bytes of `v` at address `a`, little-endian (R5). -/
def writeLE (m : List Host.Cell) (a : Nat) : Nat → Nat → List Host.Cell
  | 0, _ => m
  | n + 1, v => writeLE (smSet memDefault m a (BitVec.ofNat 8 v)) (a + 1) n (v / 256)

/-- The `n` bytes at address `a`, in address order. -/
def readBytes (m : List Host.Cell) (a : Nat) : Nat → List Byte
  | 0 => []
  | n + 1 => smGet memDefault m a :: readBytes m (a + 1) n

/-- The memory with the bytes `bs` at address `a`. -/
def writeBytes (m : List Host.Cell) (a : Nat) : List Byte → List Host.Cell
  | [] => m
  | b :: bs => writeBytes (smSet memDefault m a b) (a + 1) bs

/-- A list of bytes as a little-endian number. -/
def bytesNat : List Byte → Nat
  | [] => 0
  | b :: bs => b.toNat + 256 * bytesNat bs

/-- The `n` low bytes of a number, little-endian. -/
def natBytes : Nat → Nat → List Byte
  | 0, _ => []
  | n + 1, v => BitVec.ofNat 8 v :: natBytes n (v / 256)

/-- The `n` low bytes of a number, most significant first. -/
def natBytesBE (n v : Nat) : List Byte := (natBytes n v).reverse

/-- A list of bytes, most significant first, as a number. -/
def bytesNatBE (bs : List Byte) : Nat := bytesNat bs.reverse

/-- Bits `[lo + w - 1 : lo]` of a number. -/
def bitsAt (x lo w : Nat) : Nat := (x / 2 ^ lo) % 2 ^ w

/-- The number with bits `[lo + w - 1 : lo]` replaced by the low bits of `v`. -/
def setBitsAt (x lo w v : Nat) : Nat := x - bitsAt x lo w * 2 ^ lo + (v % 2 ^ w) * 2 ^ lo

/-- A truth value as an integer 0 or 1. -/
def b2n (b : Bool) : Nat := if b then 1 else 0

/-- Counters saturate at all ones of their width. -/
def satInc (w x : Nat) : Nat := if x + 1 < 2 ^ w then x + 1 else 2 ^ w - 1

end Sys2Proof.Machine
end

