-- ==== Sys2Proof/Machine/Aes.lean ====
section
/-!
DEFINITION. AES-256 (FIPS 197) and CTR_DRBG over it with the derivation function (NIST SP 800-90A Rev. 1), the generator of
the draw unit (R19, R394).
-/
namespace Sys2Proof.Machine

/-! ## AES-256 -/

/-- Multiplication by x in GF(2^8) modulo x^8 + x^4 + x^3 + x + 1. -/
def aesX (b : Byte) : Byte := (b <<< 1) ^^^ (if b.msb then 0x1B#8 else 0#8)

/-- The product in GF(2^8), over the bits of the second factor from the one numbered n - 1 down. -/
def aesMulGo (a b acc : Byte) : Nat → Byte
  | 0 => acc
  | n + 1 => aesMulGo a b (aesX acc ^^^ (if b.getLsbD n then a else 0#8)) n

/-- The product in GF(2^8). -/
def aesMul (a b : Byte) : Byte := aesMulGo a b 0 8

/-- The multiplicative inverse: the 254th power (0 for 0). -/
def aesInv (a : Byte) : Byte :=
  let a2 := aesMul a a
  let a4 := aesMul a2 a2
  let a8 := aesMul a4 a4
  let a16 := aesMul a8 a8
  let a32 := aesMul a16 a16
  let a64 := aesMul a32 a32
  let a128 := aesMul a64 a64
  aesMul a128 (aesMul a64 (aesMul a32 (aesMul a16 (aesMul a8 (aesMul a4 a2)))))

/-- SUBBYTES for one byte. -/
def aesSub (a : Byte) : Byte :=
  let b := aesInv a
  b ^^^ b.rotateLeft 1 ^^^ b.rotateLeft 2 ^^^ b.rotateLeft 3 ^^^ b.rotateLeft 4 ^^^ 0x63#8

/-- The exclusive or of two lists of bytes. -/
def xorBytes (a b : List Byte) : List Byte := (a.zip b).map (fun x => x.1 ^^^ x.2)

/-- SHIFTROWS over the sixteen bytes of a state in column order. -/
def aesShift (b : List Byte) : List Byte :=
  [b.getD 0 0, b.getD 5 0, b.getD 10 0, b.getD 15 0, b.getD 4 0, b.getD 9 0, b.getD 14 0, b.getD 3 0,
   b.getD 8 0, b.getD 13 0, b.getD 2 0, b.getD 7 0, b.getD 12 0, b.getD 1 0, b.getD 6 0, b.getD 11 0]

/-- MIXCOLUMNS over the columns of a state. -/
def aesMix : List Byte → List Byte
  | a :: b :: c :: d :: r =>
    (aesX a ^^^ aesX b ^^^ b ^^^ c ^^^ d) :: (a ^^^ aesX b ^^^ aesX c ^^^ c ^^^ d) :: (a ^^^ b ^^^ aesX c ^^^ aesX d ^^^ d)
      :: (aesX a ^^^ a ^^^ b ^^^ c ^^^ aesX d) :: aesMix r
  | _ => []

/-- The key schedule: words of four bytes, newest first, extended by n words; `rc` is the next round constant. -/
def aesExpand (rc : Byte) (ws : List (List Byte)) : Nat → List (List Byte)
  | 0 => ws
  | n + 1 =>
    let t := ws.headD []
    let w8 := ws.getD 7 []
    if ws.length % 8 = 0 then
      let r := match t with
        | a :: rest => (rest ++ [a]).map aesSub
        | [] => []
      aesExpand (aesX rc) (xorBytes w8 (xorBytes r [rc, 0, 0, 0]) :: ws) n
    else if ws.length % 8 = 4 then aesExpand rc (xorBytes w8 (t.map aesSub) :: ws) n
    else aesExpand rc (xorBytes w8 t :: ws) n

/-- Groups of n bytes, m of them. -/
def bytesGroups (n : Nat) (bs : List Byte) : Nat → List (List Byte)
  | 0 => []
  | m + 1 => bs.take n :: bytesGroups n (bs.drop n) m

/-- The fifteen round keys of a 256-bit key. -/
def aesKeys (key : List Byte) : List (List Byte) :=
  bytesGroups 16 (aesExpand 1 (bytesGroups 4 key 8).reverse 52).reverse.flatten 15

/-- The rounds after the first key addition. -/
def aesRounds (b : List Byte) : List (List Byte) → List Byte
  | [] => b
  | [k] => xorBytes (aesShift (b.map aesSub)) k
  | k :: ks => aesRounds (xorBytes (aesMix (aesShift (b.map aesSub))) k) ks

/-- One block under a key schedule. -/
def aesBlock (ks : List (List Byte)) (b : List Byte) : List Byte := aesRounds (xorBytes b (ks.headD [])) ks.tail

/-! ## CTR_DRBG -/

/-- The generator's key and counter value (R394). -/
structure Drbg where
  key : BitVec 256
  v : BitVec 128
deriving DecidableEq, Repr

/-- The generator before any instantiation, and after a zeroising (R403). -/
def drbgZero : Drbg := ⟨0, 0⟩

/-- Output blocks from counter values after v, n of them. -/
def drbgBlocks (ks : List (List Byte)) (v : BitVec 128) : Nat → List Byte
  | 0 => []
  | n + 1 => aesBlock ks (natBytesBE 16 (v + 1).toNat) ++ drbgBlocks ks (v + 1) n

/-- CTR_DRBG_Update: 48 bytes of provided data. -/
def drbgUpdate (d : Drbg) (data : List Byte) : Drbg :=
  let t := xorBytes (drbgBlocks (aesKeys (natBytesBE 32 d.key.toNat)) d.v 3) data
  ⟨BitVec.ofNat 256 (bytesNatBE (t.take 32)), BitVec.ofNat 128 (bytesNatBE (t.drop 32))⟩

/-- BCC: the chained encryption of blocks. -/
def drbgBcc (ks : List (List Byte)) (chain : List Byte) : List (List Byte) → List Byte
  | [] => chain
  | b :: bs => drbgBcc ks (aesBlock ks (xorBytes chain b)) bs

/-- n blocks, each the encryption of the one before. -/
def drbgChain (ks : List (List Byte)) (x : List Byte) : Nat → List Byte
  | 0 => []
  | n + 1 => aesBlock ks x ++ drbgChain ks (aesBlock ks x) n

/-- Block_Cipher_df: 48 bytes from an input. -/
def drbgDf (input : List Byte) : List Byte :=
  let s0 := natBytesBE 4 input.length ++ natBytesBE 4 48 ++ input ++ [0x80#8]
  let s := s0 ++ List.replicate ((16 - s0.length % 16) % 16) 0
  let ks := aesKeys ((List.range 32).map (BitVec.ofNat 8))
  let part (i : Nat) := drbgBcc ks (List.replicate 16 0)
    ((natBytesBE 4 i ++ List.replicate 12 0) :: bytesGroups 16 s (s.length / 16))
  let temp := part 0 ++ part 1 ++ part 2
  drbgChain (aesKeys (temp.take 32)) (temp.drop 32) 3

/-- Instantiate: entropy input and nonce, then the personalisation string. -/
def drbgInstantiate (entropy pers : List Byte) : Drbg := drbgUpdate drbgZero (drbgDf (entropy ++ pers))

/-- Reseed. -/
def drbgReseed (d : Drbg) (entropy : List Byte) : Drbg := drbgUpdate d (drbgDf entropy)

/-- A Generate request of n blocks: the output and the generator after it. -/
def drbgGenerate (d : Drbg) (n : Nat) : List Byte × Drbg :=
  let ks := aesKeys (natBytesBE 32 d.key.toNat)
  (drbgBlocks ks d.v n, drbgUpdate ⟨d.key, d.v + BitVec.ofNat 128 n⟩ (List.replicate 48 0))

end Sys2Proof.Machine
end

