-- ==== Sys2Proof/Machine/StateCore.lean ====
section
/-!
DEFINITION. The parts of the state that the pairs, memory, dispatch, tally, Eclipse and arbiter chapters give the
machine, as plain data (R33, R69, R119-R129, R209-R219, R224, R256-R265, R270, R320, R345, R408).
-/
namespace Sys2Proof.Machine

/-- A capability value: 128 bits and a tag held apart from them (R33, R34). -/
structure Cap where
  bits : Wide
  tag : Bool
deriving DecidableEq, Repr

/-- The null capability: all bits zero, tag clear (R35). -/
def nullCap : Cap := ⟨0, false⟩

/-- The states of a bank (R265). -/
inductive BankState where
  | free | running | preempted | idle | waiting | suspended | spilling | filling
deriving DecidableEq, Repr

/-- The context a bank was entered over (R263): a bank of the pair, or a spilled task. -/
inductive CtxRef where
  | bank (b : Nat)
  | spilled (task : Nat)
deriving DecidableEq, Repr

/-- A task table entry as the dispatch unit holds it (R251, R252). -/
structure TaskEntry where
  tsb : Cap
  ttbc : Word
  v : Bool
  prio : Nat
  pair : Nat
deriving DecidableEq, Repr

/-- One register bank: the per-task state of R123, with what the dispatch unit records of it (R263-R265). -/
structure Bank where
  /-- c1-c31 (R119); an unlisted register is null. -/
  regs : List (Nat × Cap)
  /-- p1-p7 in bits 7:1 (R121). -/
  preds : BitVec 8
  pcc : Cap
  status : Word
  amode : Word
  bkq : Word
  lc : Word
  ls : Word
  le : Word
  tsbc : Cap
  ttbc : Word
  /-- The active region set of the task that the bank holds: 16 descriptors (R327, R332). -/
  region : List (BitVec 128)
  /-- The lazy-area capability of the context (R196). -/
  lazyCap : Cap
  /-- The gate frame link (R234, offset 0x320). -/
  gateLink : Word
  st : BankState
  task : Option Nat
  /-- The table entry that the bank was filled with: its TSB stands until the next fill (R252). -/
  entry : Option TaskEntry
  /-- The fault channel and the payload of the fault that suspended the bank (R229). -/
  fault : Option (Nat × List Cap)
  /-- The recorded context that `RETE` resumes (R263). -/
  prior : Option CtxRef
  /-- The delivery record of the event in progress (R260). -/
  deliv : Option Nat
  /-- The destination register of a syllable that left the bank waiting (R170, R264). -/
  waitCd : Option Nat
  /-- The wait result or the fault's event has ended: the bank can be resumed (R264). -/
  ready : Bool
  /-- The dispatch unit's number of when the bank last ran, or became ready (R262, R266). -/
  lastRun : Nat
  /-- Not eligible as a victim until the escalation's `RETE` (R271). -/
  held : Bool
deriving DecidableEq, Repr

/-- A register that R286 shadows. -/
inductive ShadowReg where
  | status | amode | ctxcfg | ttbc | bankw
deriving DecidableEq, Repr

/-- A mode write inside its shadow (R286): register, bank, value, the bits it writes, shadow bundles left. -/
structure ShadowWrite where
  reg : ShadowReg
  bank : Nat
  value : Word
  mask : Word
  left : Nat
deriving DecidableEq, Repr

/-- A cached leaf (R320). -/
structure TlbEntry where
  va : Nat
  level : Nat
  asid : Nat
  e : Word
  pe : Nat
deriving DecidableEq, Repr

/-- A cached table descriptor (R321). -/
structure WalkEntry where
  table : Nat
  idx : Nat
  level : Nat
  e : Word
deriving DecidableEq, Repr

/-- A decode table: 64 entry words and 64 x 32 micro-ops (R408, R409). -/
structure DecodeTable where
  words : List (Nat × Word)
  uops : List (Nat × Word)
deriving DecidableEq, Repr

/-- Why a pair is halted (R276). -/
inductive HaltCause where
  | divergence | lockup
deriving DecidableEq, Repr

/-- A spill released under R267 whose background write is under way. -/
structure SpillBuf where
  bank : Bank
  task : Nat
  midEvent : Bool
  /-- `DET` of the pair and PRIO of the task, as the spill copied them (R267). -/
  det : Bool
  prio : Nat
  /-- Physical addresses of the TSB granules at 0x000-0x3FF and of the dispatch word. -/
  dst : List Nat
deriving DecidableEq, Repr

/-- Work that the dispatch unit has selected for a pair (R262): an event of a channel, or a bank to resume. -/
inductive Work where
  | event (deliv : Nat)
  | bank (b : Nat)
deriving DecidableEq, Repr

/-- The standby set of a pair (R270): the work that it was loaded for, the region set, and the prefetched entry
capability (R262). -/
structure Standby where
  work : Work
  region : List (BitVec 128)
  entry : Cap
deriving DecidableEq, Repr

/-- What an escalation's `RETE` does beyond resuming (R240, R271): drop the event of a channel, redo a return, make the held
victim (pair, bank) eligible again. -/
structure EscInfo where
  dropDeliv : Option Nat
  redo : Option CtxRef
  held : Option (Nat × Nat)
deriving DecidableEq, Repr

/-- One reflection pair as software sees it: its banks and per-pair state (R123), caches of translations (R320),
and what the dispatch unit keeps for it (R262-R270). Pairs 0-95 are ledger pairs, 96-103 sentinel pairs 0-7. -/
structure Pair where
  banks : List (Nat × Bank)
  /-- a0-a3 (R122). -/
  accs : List (Nat × AccWord)
  ctxcfg : Word
  bankw : Word
  escc : Cap
  essc : Cap
  det : Bool
  shadow : List ShadowWrite
  /-- The reserved 64-byte line, by physical line number (R152). -/
  resv : Option Nat
  /-- Time at which the mask timer started, and whether its notice has been sent (R227). -/
  maskFrom : Option Nat
  maskNoted : Bool
  /-- The bank of the running context; none when the pair idles (R263). -/
  run : Option Nat
  halt : Option HaltCause
  /-- Init task not yet returned (R275). -/
  init : Bool
  /-- The pair has been started (R66, R436). -/
  started : Bool
  /-- The pair is stopped by alarm hold, drain or power loss (R460, R535, R539). -/
  stopped : Bool
  /-- The pair has failed self-test (R430). -/
  failed : Bool
  /-- The second-level TLB; of a sentinel, or in DET, the pair's only one (R297, R320). -/
  tlb : List TlbEntry
  /-- The I-TLB and the D-TLB of a ledger pair (R320). -/
  itlb : List TlbEntry
  dtlb : List TlbEntry
  /-- The DRAM lines that a ledger pair has fetched since its last `MSYNC`: their bytes may stand in its fetch buffer (R289). -/
  ibuf : List Nat
  walkc : List WalkEntry
  table : DecodeTable
  pendTable : Option DecodeTable
  /-- Registers whose loaded value the delay syllable does not yet see, with their old values (R133): c n as n, p1-p7
  together as 32, `LC`, `LS` and `LE` as 44 to 46. -/
  delay : List (Nat × Cap)
  spillBufs : List SpillBuf
  selected : Option Work
  standby : Option Standby
  esc : EscInfo
  /-- A return to a spilled context that waits for its fill (R263). -/
  returning : Option Nat
  /-- An Eclipse pass is due on the pair (R93). -/
  passDue : Bool
  /-- The selected event has been counted as stalled (R266). -/
  stalled : Bool
  /-- A bank switch has brought in the running context and nothing of it has executed since (R192). -/
  resumed : Bool
  /-- Module time of the last bank switch (R279). -/
  ranAt : Nat
  /-- How often the pair's banks have been discarded: a receipt of an earlier count finds no bank (R277). -/
  gen : Nat
  /-- The re-dispatch after the pair's halt has been made (R276), and a RESTART waits for it (R279). -/
  redispDone : Bool
  restartWait : Bool
  /-- c28-c31 of the record of the pair's lockup (R241, R380). -/
  lockRec : List Cap
deriving DecidableEq, Repr

/-- The kinds of tally operation (R205). -/
inductive TallyKind where
  | add | close | read
deriving DecidableEq, Repr

/-- A tally operation after it has left its pair (R206, R209). -/
structure TallyOp where
  id : Nat
  pair : Nat
  bank : Nat
  task : Option Nat
  kind : TallyKind
  /-- Physical address of the cell. -/
  cell : Nat
  amount : Wide
  stampTime : Nat
  stampUnc : Bool
  stampPort : Nat
  sat : Bool
  /-- Requested close time of `TCLOSE`. -/
  reqT : Nat
  cd : Nat
  /-- Destination of a `TREAD` snapshot, already translated and checked: physical pieces and their lengths. -/
  dst : List (Nat × Nat)
deriving DecidableEq, Repr

/-- A combining entry's state (R214). -/
inductive CombState where
  | loading | active | flushing
deriving DecidableEq, Repr

/-- A combining entry: a copy of one cell (R214). -/
structure CombEntry where
  cell : Nat
  st : CombState
  data : List Byte
  waiting : List TallyOp
  /-- Operations that have changed it since its load or last write-back, and whether an error in its line has marked it dirty
  (R214, R220). -/
  changes : Nat
  marked : Bool
  /-- `TALLY_COMB.MAXADD` when it was opened (R221). -/
  most : Nat
  /-- The number of its last use (R214). -/
  used : Nat
deriving DecidableEq, Repr

/-- The tally unit of one channel (R214, R215). -/
structure TallyChan where
  entries : List CombEntry
  parked : List TallyOp
deriving DecidableEq, Repr

/-- A decided tally operation whose status has not yet reached the pair (R206). -/
structure TallyDone where
  op : TallyOp
  status : Word
  snapshot : Option (List Byte)
deriving DecidableEq, Repr

/-- An accepted add that no receipt covers (R218). -/
structure UnjAdd where
  stampTime : Nat
  stampPort : Nat
  cell : Nat
  amount : Wide
  task : Nat
deriving DecidableEq, Repr

/-- The un-journaled add list of a logical core (R218). -/
structure UnjList where
  adds : List UnjAdd
  ovf : Bool
deriving DecidableEq, Repr

/-- The tally units together. -/
structure Tally where
  chans : List (Nat × TallyChan)
  transit : List TallyOp
  done : List TallyDone
  unj : List (Nat × UnjList)
  nextId : Nat
deriving DecidableEq, Repr

/-- How the bases of capabilities in a scanned range are translated (R89). -/
inductive ScanXl where
  | physical
  | table (ttbc : Nat)
  | sentinel (k : Nat)
deriving DecidableEq, Repr

/-- A run of granules the sweeper has yet to scan: granule numbers, inclusive of the first, exclusive of the last. -/
structure ScanRange where
  tcm : Option Nat
  first : Nat
  stop : Nat
  xl : ScanXl
deriving DecidableEq, Repr

/-- The Eclipse sweeper beyond its registers (R89-R96). -/
structure Sweeper where
  /-- The sweep roots latched at the cover point: index, `ECL_ROOT_A`, `ECL_ROOT_B`. -/
  roots : List (Nat × Nat × Nat)
  rate : Nat
  todo : List ScanRange
  /-- An `ECLIPSE` has retired since the cover point of the latest completed epoch (R95). -/
  fresh : Bool
  /-- An `ECLIPSE` has retired since the cover point of the running epoch. -/
  freshRun : Bool
  startedAt : Nat
  /-- Tags cleared since the cover point, without saturation (R362). -/
  cleared : Nat
  /-- The epoch record is not yet sequenced: the sweeper waits for it where it meets FULL (R379). -/
  waits : Bool
  /-- When the latest epoch completed, in ns (R98). -/
  doneAt : Option Nat
deriving DecidableEq, Repr

/-- A post waiting on a channel (R258): its payload if its source carries one, and the order in which it came. -/
structure Post where
  chan : Nat
  payload : List Cap
  /-- For a fault: the faulting pair and bank. -/
  fault : Option (Nat × Nat)
  at_ : Nat
  /-- For a frame: the receive queue and its buffer. -/
  buf : Option (Nat × Nat)
  /-- Module time at the post (R229). -/
  since : Nat
deriving DecidableEq, Repr

/-- A delivery record (R260). -/
structure Delivery where
  id : Nat
  chan : Nat
  task : Nat
  entry : Nat
  payload : List Cap
  pair : Nat
  fault : Option (Nat × Nat)
  /-- PRIO of the task at the delivery (R252). -/
  prio : Nat
  /-- A bank of its pair has taken the event (R235), and that bank was filled for it (R268). -/
  accepted : Bool
  filled : Bool
  /-- The delivery is no longer in progress: the handler's first bundle has issued, or the entry failed (R257). -/
  entered : Bool
  at_ : Nat
  buf : Option (Nat × Nat)
  /-- The re-dispatch word that a re-entry carries in c31 (R277). -/
  redisp : Option Wide
  since : Nat
deriving DecidableEq, Repr

/-- What the dispatch unit keeps of a mid-event context that was spilled (R263): its task and pair, the context it was
entered over, and its delivery record. -/
structure MidCtx where
  task : Nat
  pair : Nat
  prior : Option CtxRef
  deliv : Option Nat
  /-- The cursor of c2 is to be raised at the fill (R198, R199). -/
  fix : Bool
deriving DecidableEq, Repr

/-- The event dispatch unit beyond its registers (R251-R263). -/
structure Evd where
  tasks : List (Nat × Option TaskEntry)
  /-- Tasks recorded as spilled (R255). -/
  spilled : List (Nat × Bool)
  /-- The active copy of each slot (R257). -/
  slots : List (Nat × Word)
  posts : List Post
  delivs : List Delivery
  /-- The channel last delivered of each task, plus one (R262). -/
  lastChan : List (Nat × Nat)
  /-- Mid-event contexts that were spilled (R263). -/
  mid : List MidCtx
  nextId : Nat
  /-- The latest notice word of each channel (R259). -/
  notice : List (Nat × Word)
  /-- Halted pairs that wait for their record before re-dispatch (R276): pair, record sequence or none. -/
  redisp : List (Nat × Option Nat)
deriving DecidableEq, Repr

/-- A channel arbiter beyond its registers (R344-R350). -/
structure ArbChan where
  /-- The requester whose tenure runs, or the last one of a slice port or of the sentinel port (R343). -/
  owner : Option Nat
  /-- The running tenure's notice was raised (R348). -/
  noted : Bool
  refreshDue : Bool
  debugDue : Bool
  /-- The commits in transit, and a snapshot that waits for the next decision (R350): tickets 0-2 and limits. -/
  transit : Nat
  snap : Option (Word × Word × Word × Word)
  /-- The requester of each parked entry, oldest first; tally operations park in their own unit (R347). -/
  parked : List Nat
  /-- Lines that the sweeper has read in its running tenure (R343). -/
  lines : Nat
deriving DecidableEq, Repr

end Sys2Proof.Machine
end

