-- ==== Sys2Proof/Machine/StateUnits.lean ====
section
/-!
DEFINITION. The parts of the state that the journal, draw, security, boot, network, host, Cuwen Link and power chapters
give the machine, beyond their registers.
-/
namespace Sys2Proof.Machine

/-! ## Journal (R355-R391) -/

/-- Who waits for an append (R368-R385). -/
inductive JIssuer where
  /-- A bank that issued `JAPP` or `JSEAL`: pair, bank, task, and the pair's count of discards then (R277). -/
  | bank (p b task gen : Nat)
  /-- The dispatch unit's record of a halted pair. -/
  | halt (p : Nat)
  /-- The draw unit's record. -/
  | draw
  /-- A security record whose command waits for its receipt (R454). -/
  | audit
  /-- The governor's record of a change that waits for its receipt (R443): register, lowest bit, width, value. -/
  | gov (reg lo width value : Nat)
  /-- The governor's record of an arbiter commit that waits for its receipt: channel mask, tickets and limits (R443). -/
  | tickets (mask : Nat) (t0 t1 t2 lim : Word)
  /-- The epoch-open record (R377). -/
  | epoch
  /-- A record forwarded by the partner, by its tag (R383). -/
  | remote (tag : Nat)
  /-- The sweeper's epoch record: the sweeper waits until it is sequenced (R379). -/
  | sweeper
  /-- A hardware record that nobody waits for. -/
  | none
deriving DecidableEq, Repr

/-- A request that has not been sequenced (R372, R373). -/
structure JReq where
  typ : Nat
  src : Nat
  payload : List Byte
  issuer : JIssuer
deriving DecidableEq, Repr

/-- An entry of the ring (R356, R359): its place, its bytes with the pad, its hash, and who waits. -/
structure JEntry where
  seq : Nat
  off : Nat
  size : Nat
  typ : Nat
  data : List Byte
  hash : List Byte
  /-- The receipt waits for the partner's acknowledgement (R374, R382). -/
  sync : Bool
  /-- In the write buffer or the array (R374). -/
  loc : Bool
  /-- It lay in the write buffer when `HOLDUP_OK` cleared, and has not reached the array since (R533). -/
  drain : Bool
  /-- At its durability point (R374). -/
  dur : Bool
  issuers : List JIssuer
  /-- Bytes at the end of the array that a skip marker before the entry covers, zero where there is none (R356). -/
  skip : Nat
deriving DecidableEq, Repr

/-- A running signing (R365): the covered entry, and who waits for its seal record. -/
structure Signing where
  seq : Nat
  hash : List Byte
  waiters : List JIssuer
deriving DecidableEq, Repr

/-- The ring positions recorded at a shutdown (R377): the head, the archive point, and the last entry that the archive had
acknowledged. -/
structure RingPos where
  head : Nat
  arch : Nat
  archSeq : Nat
deriving DecidableEq, Repr

/-- The journal engine beyond its registers. -/
structure Jrn where
  queue : List JReq
  ring : List JEntry
  headH : List Byte
  lastTime : Nat
  /-- The replication mode that entries are sequenced under: it follows the mode-change records (R381). -/
  mode : Nat
  signing : Option Signing
  /-- A signing has been requested, and who waits for it (R365). -/
  sealWant : Bool
  sealWaiters : List JIssuer
  covered : Nat
  /-- The epoch-open record has been requested in this boot, and has reached its durability point (R377). -/
  opening : Bool
  isOpen : Bool
  /-- Highest sequence sent to the partner (R382). -/
  sent : Nat
  /-- Highest sequence ever sent to the archive (R387): a drain retransmission does not lower it. -/
  drained : Nat
  /-- Sequences of appends of halted pairs whose receipts were discarded (R380). -/
  orphans : List (Nat × Nat)
  /-- Records forwarded to the primary and not yet answered, by tag (R383). -/
  fwd : List (Nat × JReq)
  nextTag : Nat
  /-- The last replies to forwarded records, newest first (R507): tag, receipt or status. -/
  replies : List (Nat × Bool × Nat)
  /-- The joiner's ring is abandoned: the next entry sets its head (R385). -/
  rejoin : Bool
  /-- A join has succeeded: of the partner on a primary, of this module on a standby (R377, R382, R385). -/
  joined : Bool
  /-- Received entries that wait for room in a standby's ring, oldest first (R356, R383). -/
  inbox : List (Nat × List Byte)
  /-- Power loss or a commanded reset has stopped sequencing (R376). -/
  halted : Bool
  /-- The ring positions recorded at the last shutdown (R377). -/
  pos : RingPos
deriving DecidableEq, Repr

/-- The journal engine right after reset. -/
def jrnReset : Jrn :=
  { queue := [], ring := [], headH := List.replicate 32 0, lastTime := 0, mode := 0, signing := none, sealWant := false,
    sealWaiters := [], covered := 0, opening := false, isOpen := false, sent := 0, drained := 0, orphans := [], fwd := [],
    nextTag := 0, replies := [], rejoin := false, joined := false, inbox := [], halted := false, pos := ⟨0, 0, 0⟩ }

/-! ## Draw unit (R392-R407) -/

/-- A draw request that has passed its fault checks (R397): issuer, draw ID, range, count, replacement, and the physical
parts of its destination. -/
structure DrawReq where
  pair : Nat
  bank : Nat
  task : Nat
  /-- The pair's count of discards when the request was made (R277). -/
  gen : Nat
  cd : Nat
  id : Nat
  n : Nat
  k : Nat
  wor : Bool
  dst : List (Nat × Nat)
deriving DecidableEq, Repr

/-- The draw in progress after its results are mapped (R397): `seq` is the record's sequence once it is sequenced, and `dur`
says that the record has reached its durability point. -/
structure DrawAct where
  req : DrawReq
  results : List Nat
  rej : Nat
  seq : Option Nat
  dur : Bool
deriving DecidableEq, Repr

/-- The draw unit beyond its registers. -/
structure Draw where
  queue : List DrawReq
  act : Option DrawAct
  /-- The draw-ID table: pending (false) or recorded (true) (R401). -/
  ids : List (Nat × Option Bool)
  reseedAt : Nat
  /-- The DRBG's key and counter value, which no agent can read (R392, R394). -/
  drbg : Drbg
deriving DecidableEq, Repr

/-- The draw unit right after reset. -/
def drawReset : Draw := ⟨[], none, [], 0, drbgZero⟩

/-! ## Key store and security monitor (R451-R476) -/

/-- The key store (R455): private keys as the numbers they are, public keys as bytes. -/
structure KeyStore where
  devKey : Option Nat
  jrnKey : Option Nat
  debugPub : Option (List Byte)
  /-- Operator keys by slot. -/
  oper : List (Nat × Option (List Byte))
  archive : Option (List Byte)
  minVer : List (Nat × Nat)
  policy : List Byte
  epoch : Nat
  finalSeq : Nat
  finalH : List Byte
  takeGen : Nat
  /-- The next epoch-open record has KEY_CHANGED set (R465). -/
  keyChanged : Bool
  /-- The shutdown record (R539): cause word of the next boot without a trigger of its own, none when there is none. -/
  shutdown : Option Nat
  /-- The audit record of a recovery from ALARMED, which follows the next epoch-open record (R454). -/
  recovered : Option (List Byte)
deriving DecidableEq, Repr

/-- The key store of a module that nothing has been provisioned in (R451). -/
def keysReset : KeyStore :=
  { devKey := none, jrnKey := none, debugPub := none, oper := [], archive := none, minVer := [], policy := [],
    epoch := 0, finalSeq := 0, finalH := List.replicate 32 0, takeGen := 0, keyChanged := false, shutdown := none, recovered := none }

/-- A command that has been accepted and waits for its audit record's receipt (R454). -/
structure SecPend where
  code : Nat
  port : Nat
  tag : Nat
  body : List Byte
deriving DecidableEq, Repr

/-- A segmented request under way at a port (R515). -/
structure Exchange where
  code : Nat
  tag : Nat
  count : Nat
  next : Nat
  data : List Byte
deriving DecidableEq, Repr

/-- A response of several segments whose next one waits for the requester's acknowledgement (R515). -/
structure Response where
  code : Nat
  tag : Nat
  next : Nat
  body : List Byte
deriving DecidableEq, Repr

/-- The security monitor and the management ports beyond their registers. -/
structure Sec where
  pend : Option SecPend
  /-- The answer of the journal to the audit record that `pend` waits for: a receipt (true) or a status (R454). -/
  audit : Option Bool
  /-- The challenge in force and the time at which it was made (R472). -/
  challenge : Option (List Byte × Nat)
  /-- The decode-table package that `MC_STAGE` staged (R418). -/
  mcStaged : Option (List Byte)
  /-- An alarm with policy ERASE has been recorded and the Umbra erase has not run (R463). -/
  erase : Bool
  locate : Bool
  /-- A reset request is presented to REG and OPS (R447). -/
  rstReq : Bool
  exch : List (Nat × Option Exchange)
  /-- The last segmented request that a port completed: code, tag, number of segments (R515). -/
  lastSeg : List (Nat × Option (Nat × Nat × Nat))
  /-- Responses under way, by port. -/
  resp : List (Nat × Option Response)
  /-- Pairs that debug has halted (R471): 0 not halted, 1 halted, 2 halted with one step to run. -/
  dbgHalt : List (Nat × Nat)
  /-- Time at which the unlock in force began (R472). -/
  unlockAt : Nat
deriving DecidableEq, Repr

/-- The security monitor right after reset. -/
def secReset : Sec :=
  { pend := none, audit := none, challenge := none, mcStaged := none, erase := false, locate := false, rstReq := false,
    exch := [], lastSeg := [], resp := [], dbgHalt := [], unlockAt := 0 }

/-! ## Boot (R425-R441) -/

/-- An accepted image of this boot (R434, R448): its slot, its body, its load address and its entry offset. -/
structure Image where
  slot : Nat
  data : List Byte
  load : Nat
  entry : Nat
deriving DecidableEq, Repr

/-- What boot has done so far. -/
structure BootUnit where
  /-- The straps have been latched (R428). -/
  strapped : Bool
  images : List Image
  /-- The measurement log (R438). -/
  log : List Byte
  /-- The measurement log is closed (R439). -/
  closed : Bool
  /-- Governor passes made in this boot (R445). -/
  passes : Nat
  /-- The policy has changed since the governor's last pass (R449). -/
  polNew : Bool
deriving DecidableEq, Repr

/-- Boot right after reset. -/
def bootReset : BootUnit := ⟨false, [], [], false, 0, false⟩

/-! ## Network, host and Cuwen Link (R477-R522) -/

/-- A ring in host memory: entries written and entries consumed since EN was set (R499, R500). -/
structure HostRing where
  written : Nat
  consumed : Nat
deriving DecidableEq, Repr

/-- A doorbell whose entries have not all been read (R498): the tail, and the stamp's time and uncertain flag. -/
structure Doorbell where
  tail : Nat
  time : Nat
  unc : Bool
deriving DecidableEq, Repr

/-- A frame in a port's transmit buffer: its queue, the address of its descriptor, its bytes (R484, R485). -/
structure TxFrame where
  queue : Nat
  desc : Nat
  bytes : List Byte
deriving DecidableEq, Repr

/-- The network, time and host engines beyond their registers. -/
structure Net where
  /-- Next descriptor of each transmit queue (R484). -/
  txHead : List (Nat × Nat)
  /-- The frames in each port's transmit buffer, oldest first (R485). -/
  txBuf : List (Nat × List TxFrame)
  /-- The queue of each port that was last served in its turn (R485). -/
  txLast : List (Nat × Nat)
  /-- Host registers of BAR0, by offset (R497). -/
  hb : List (Nat × Word)
  /-- Doorbells of each submission ring that wait, oldest first (R498, R499). -/
  bells : List (Nat × List Doorbell)
  /-- The completion rings and the delivery rings (R499, R500). -/
  cq : List (Nat × HostRing)
  dr : List (Nat × HostRing)
  /-- Next descriptor of each send queue (R501). -/
  sqHead : List (Nat × Nat)
  /-- Secure time at the arrival of a two-step Sync that waits for its Follow_Up (R489). -/
  syncAt : Option Nat
  /-- Origin and arrival time of the last accepted Sync, and the measured path delay (R491). -/
  lastSync : Option (Nat × Nat)
  delay : Nat
  /-- The servo's change of rate in parts per million, and the millionths of a nanosecond not yet counted (R488, R491). -/
  rate : Int
  frac : Nat
deriving DecidableEq, Repr

/-- The network, time and host engines right after reset. -/
def netReset : Net := ⟨[], [], [], [], [], [], [], [], none, none, 0, 0, 0⟩

/-- A flit that waits for credit, or that is kept for replay: its kind, its flags byte, its payload (R504). -/
structure Flit where
  kind : Nat
  flags : Nat
  data : List Byte
deriving DecidableEq, Repr

/-- One Cuwen link (R504, R505). -/
structure Link where
  /-- Sequence of the next flit to send, and of the next flit expected. -/
  txSeq : Nat
  rxSeq : Nat
  /-- Flits sent and not acknowledged, oldest first, with their sequences. -/
  kept : List (Nat × Flit)
  /-- Flits that wait for a credit of their class or for room among the kept ones. -/
  wait : List Flit
  /-- Credits in hand by class, and credits owed to the partner. -/
  credit : List Nat
  owed : List Nat
  /-- How often the oldest kept flit has been replayed. -/
  replays : Nat
deriving DecidableEq, Repr

/-- A link that has just trained: the receive credits of R506. -/
def linkReset : Link := ⟨0, 0, [], [], [32, 2048, 128, 1024], [0, 0, 0, 0], 0⟩

/-- The Cuwen Link beyond its registers. -/
structure Cwl where
  links : List (Nat × Link)
  /-- The parts of a message that have arrived, by link and class: link x 4 + class (R506). -/
  part : List (Nat × List Byte)
  partnerId : Nat
  partnerGen : Nat
  partnerHead : Nat
  partnerDur : Nat
  /-- DETACH was received (R510). -/
  detached : Bool
  /-- How the last DMA write to the partner completed: 0 done, 1 refused or lost (R506, R507). -/
  lastDone : Nat
deriving DecidableEq, Repr

/-- The Cuwen Link right after reset. -/
def cwlReset : Cwl := ⟨[], [], 0, 0, 0, 0, false, 0⟩

/-! ## Power (R523-R547) -/

/-- The power unit beyond its registers. -/
structure Pwr where
  /-- The trigger of the drain or park in progress, and when it came (R534, R536). -/
  trigger : Nat
  trigTime : Nat
  /-- Ledger pairs stopped with a context (R535 step 2), and whether that step is over. -/
  stopped : Nat
  ctxDone : Bool
  /-- The power-loss trigger (R538). -/
  loss : Nat
  /-- The hot-swap controller is closed (R532); ramps that have failed; when the trips of codes 4 and 5 came (R540). -/
  closed : Bool
  failed : Nat
  trips : List Nat
  /-- The ejector opened before RUNNING (R561). -/
  ejectWait : Bool
  /-- When the fast limit was applied (R525). -/
  forcedAt : Nat
  /-- The wait for the partner's acknowledgement of the detach record has run out (R535 step 5). -/
  ackOver : Bool
  /-- Nanoseconds that the power unit has run, module resets included. -/
  up : Nat
deriving DecidableEq, Repr

/-- The power unit right after module reset: the hot-swap controller is closed. -/
def pwrReset : Pwr := ⟨0, 0, 0, false, 0, true, 0, [], false, 0, false, 0⟩

/-- What leaves the module: frames, replies, link messages, writes to host memory, interrupts. -/
inductive Emit where
  /-- A frame sent on a 100G port, without its FCS. -/
  | frame (port : Nat) (bytes : List Byte)
  /-- A segment of a response on a management port: command code, result, tag, index, count, body (R514, R515). -/
  | reply (port code result tag idx count : Nat) (body : List Byte)
  /-- A segment acknowledgement on a management port: command code, tag, index (R515). -/
  | segAck (port code tag idx : Nat)
  /-- A block read on CMB (R518). -/
  | block (bytes : List Byte)
  /-- NACK of a CMB transaction (R518). -/
  | nack
  /-- A message given to the Cuwen Link (R506). -/
  | link (op tag operand : Nat) (body : List Byte)
  /-- The 128 bytes of a flit sent on a link (R504). -/
  | flit (link : Nat) (bytes : List Byte)
  /-- A write to host memory, and an MSI-X vector (R499-R502). -/
  | hostWrite (addr : Nat) (bytes : List Byte)
  | msix (vector : Nat)
  /-- The result of a debug access: refused or not, and the data (R471). -/
  | debug (refused : Bool) (data : Nat)
  /-- What a read of a device register returned (R446). -/
  | read (value : Nat)
deriving DecidableEq, Repr

end Sys2Proof.Machine
end

