-- ==== Sys2Proof/Machine/State.lean ====
section
/-!
DEFINITION. The state of the module, the reasons a step can stop, and the state right after module reset (R13, R65, R66).
-/
namespace Sys2Proof.Machine

/-- Why a command stops with a fault. No command does: the spec gives every command an effect, and one that names a unit
the module does not have reaches nothing (log 1). Safe. -/
inductive Fault where
deriving DecidableEq, Repr

/-- Why a command is refused. -/
inductive Refusal where
  /-- Raised by `exec` for a command that has no meaning yet, by name. Safe. -/
  | notModelled (mnemonic : String)
deriving DecidableEq, Repr

/-- The state of the module. Maps list only what differs from the reset value (docstrings name the rule). -/
structure State where
  /-- The pairs: 0-95 ledger, 96-103 sentinel (R66, R123). -/
  pairs : List (Nat × Pair)
  /-- Bytes of tagged DRAM (R69, R562). -/
  mem : List Host.Cell
  /-- Tags of DRAM granules, by granule number (R69). -/
  tags : List (Nat × Bool)
  /-- Poisoned DRAM lines, by line number (R340). -/
  poison : List (Nat × Bool)
  /-- DRAM lines that hold an error not yet read: true uncorrectable, false correctable (R339, R340). -/
  latent : List (Nat × Option Bool)
  /-- The revocation bitmap, by granule number (R79). -/
  bitmap : List (Nat × Bool)
  /-- Bytes of the sentinels' TCMs: pair k at k x 512 KiB (R425). -/
  tcm : List Host.Cell
  tcmTags : List (Nat × Bool)
  /-- The earlier values, latest first, of the TCM words stored to since the pair's last `IFLUSH` (R134): word w of pair k at
  k x 0x20000 + w; and of the DRAM words that a ledger pair may still fetch from its buffer (R289; log 79). -/
  stale : List (Nat × List Nat)
  /-- The journal array, by offset (R355). -/
  jarr : List Host.Cell
  /-- The boot store beyond the Lantern ROM, by offset (R427, R432). -/
  boot : List Host.Cell
  /-- The device registers, by physical address (R563). -/
  dev : List (Nat × Word)
  tally : Tally
  evd : Evd
  sweep : Sweeper
  arbs : List (Nat × ArbChan)
  /-- The notice queues of the sentinel pairs, oldest first (R446). -/
  notices : List (Nat × List (Word × Word))
  /-- The free buffers of each receive queue, in order (R479). -/
  rxFree : List (Nat × List Nat)
  /-- The lock point of this boot has passed (R564). -/
  locked : Bool
  jrn : Jrn
  draw : Draw
  keys : KeyStore
  sec : Sec
  bootSt : BootUnit
  net : Net
  cwl : Cwl
  pwr : Pwr
  /-- What the last command sent out of the module. -/
  out : List Emit
  /-- Time since power-good in ns (R564, R527). -/
  clk : Nat
  /-- Secure time in TAI ns (R210, R488). -/
  time : Nat
  /-- The model's own counter for free values. -/
  free : Nat
  /-- The commands that wait, first in, first out. -/
  pending : List Instr
deriving DecidableEq, Repr

/-- A bank right after reset: free, every register null, `STATUS.EVM` set and `BKQ` 1 (R66, R129, R224). -/
def bankReset : Bank :=
  { regs := [], preds := 0, pcc := nullCap, status := 1, amode := 0, bkq := 1, lc := 0, ls := 0, le := 0,
    tsbc := nullCap, ttbc := 0, region := [], lazyCap := nullCap, gateLink := 0, st := .free, task := none, entry := none, fault := none,
    prior := none, deliv := none, waitCd := none, ready := false, lastRun := 0, held := false }

/-- The value of a map with the same value at every unlisted key. -/
def always {β : Type} (v : β) (_ : Nat) : β := v

/-- A ledger pair, or a sentinel pair not yet started, right after reset (R66). -/
def pairCold : Pair :=
  { banks := [], accs := [], ctxcfg := 0, bankw := 0, escc := nullCap, essc := nullCap, det := false, shadow := [],
    resv := none, maskFrom := none, maskNoted := false, run := none, halt := none, init := false, started := false,
    stopped := false, failed := false, tlb := [], itlb := [], dtlb := [], ibuf := [], walkc := [], table := ⟨[], []⟩, pendTable := none, delay := [],
    spillBufs := [], selected := none, standby := none, esc := ⟨none, none, none⟩, returning := none, passDue := false, stalled := false,
    resumed := false, ranAt := 0, gen := 0, redispDone := false, restartWait := false, lockRec := [] }

/-- The primordial capabilities in c4-c8 of the warden (R65). -/
def primordial : List (Nat × Cap) :=
  [ (4, ⟨0xC67F0000CC0000000000000000000000#128, true⟩),
    (5, ⟨0x01810000100010000000000000000000#128, true⟩),
    (6, ⟨0x08030000CC0000000000000000000000#128, true⟩),
    (7, ⟨0x10010000500010000000000000000000#128, true⟩),
    (8, ⟨0x2007000050001000#64 ++ 0x00000F0000000000#64, true⟩) ]

/-- The warden's `PCC` at reset: GL, LD, EX and SY over the Lantern ROM, cursor at its first byte (R65, R427).
256 KiB is exact at exponent 6: `BASEM` 0x0000 and `TOPM` 0x1000. -/
def wardenPcc : Cap := ⟨0x400B000018001000#64 ++ 0x00000F8000000000#64, true⟩

/-- The warden, sentinel pair 0, right after reset (R65, R427): bank 0 runs the Lantern ROM with `EVM` set. -/
def wardenReset : Pair :=
  { pairCold with
    banks := [(0, { bankReset with regs := primordial, pcc := wardenPcc, st := .running })]
    run := some 0, started := true, maskFrom := some 0 }

/-- Pair `p` right after module reset. -/
def pairReset (p : Nat) : Pair := if p = 96 then wardenReset else pairCold

/-- An idle arbiter channel right after reset (R344). -/
def arbReset : ArbChan :=
  { owner := none, noted := false, refreshDue := false, debugDue := false,
    transit := 0, snap := none, parked := [], lines := 0 }

/-- The machine right after module reset: registers at the reset column's values, memory with nothing listed, the
primordial capabilities in the warden, no command waiting (R13, R65, R66, R98). -/
def State.reset : State :=
  { pairs := [], mem := [], tags := [], poison := [], latent := [], bitmap := [], tcm := [], tcmTags := [], stale := [],
    jarr := [], boot := [], dev := [],
    tally := ⟨[], [], [], [], 0⟩,
    evd := ⟨[], [], [], [], [], [], [], 0, [], []⟩,
    sweep := ⟨[], 0, [], false, false, 0, 0, false, none⟩,
    arbs := [], notices := [], rxFree := [], locked := false,
    jrn := jrnReset, draw := drawReset, keys := keysReset, sec := secReset, bootSt := bootReset, net := netReset,
    cwl := cwlReset, pwr := pwrReset, out := [], clk := 0, time := 0, free := 0, pending := [] }

end Sys2Proof.Machine
end

