-- ==== Sys2Proof/Machine/Ops.lean ====
section
/-!
DEFINITION. The named operations over registers, capabilities, memory and device registers that the meanings share.
-/
namespace Sys2Proof.Machine

/-! ## Pairs, banks and registers -/

/-- Pair `p`. -/
def State.pair (s : State) (p : Nat) : Pair := smGet pairReset s.pairs p

/-- The state with pair `p` replaced. -/
def State.setPair (s : State) (p : Nat) (v : Pair) : State := { s with pairs := smSet pairReset s.pairs p v }

/-- Bank `b` of a pair. -/
def Pair.bank (v : Pair) (b : Nat) : Bank := smGet (always bankReset) v.banks b

/-- The pair with bank `b` replaced. -/
def Pair.setBank (v : Pair) (b : Nat) (k : Bank) : Pair := { v with banks := smSet (always bankReset) v.banks b k }

/-- Bank `b` of pair `p`. -/
def State.bank (s : State) (p b : Nat) : Bank := (s.pair p).bank b

/-- The state with bank `b` of pair `p` replaced. -/
def State.setBank (s : State) (p b : Nat) (k : Bank) : State := s.setPair p ((s.pair p).setBank b k)

/-- The state with a function applied to bank `b` of pair `p`. -/
def State.updBank (s : State) (p b : Nat) (f : Bank → Bank) : State := s.setBank p b (f (s.bank p b))

/-- The state with a function applied to pair `p`. -/
def State.updPair (s : State) (p : Nat) (f : Pair → Pair) : State := s.setPair p (f (s.pair p))

/-- Capability register n of a bank; c0 reads as null (R35, R119). -/
def Bank.reg (k : Bank) (n : Nat) : Cap := if n = 0 then nullCap else smGet (always nullCap) k.regs n

/-- The bank with c n written; a write to c0 is discarded (R35). -/
def Bank.setReg (k : Bank) (n : Nat) (c : Cap) : Bank :=
  if n = 0 then k else { k with regs := smSet (always nullCap) k.regs n c }

/-- Predicate n of a bank; p0 reads as 1 (R121). -/
def Bank.pred (k : Bank) (n : Nat) : Bool := if n = 0 then true else k.preds.getLsbD n

/-- The bank with predicate n written; a write to p0 is discarded (R121). -/
def Bank.setPred (k : Bank) (n : Nat) (v : Bool) : Bank :=
  if n = 0 then k
  else { k with preds := BitVec.ofNat 8 (setBitsAt k.preds.toNat n 1 (b2n v)) }

/-- Accumulator n of a pair (R122). -/
def Pair.acc (v : Pair) (n : Nat) : AccWord := smGet (always 0) v.accs n

/-- The pair with accumulator n written. -/
def Pair.setAcc (v : Pair) (n : Nat) (a : AccWord) : Pair := { v with accs := smSet (always 0) v.accs n a }

/-- Ledger pairs are 0-95; sentinel pairs 0-7 are numbered 96-103 here, as in `PT_OVCNT` (R306). -/
def isSentinel (p : Nat) : Bool := decide (96 ≤ p)

/-- The bank that holds escalation contexts (R239). -/
def escBank (p : Nat) : Nat := if isSentinel p then 1 else 15

/-- The value a syllable reads from c n: the register, or on a sentinel the value that the register held before the
load just executed (R133). -/
def State.src (s : State) (p b : Nat) (n : Nat) : Cap :=
  smGet (fun k => (s.bank p b).reg k) (s.pair p).delay n

/-- The running bank as the delay syllable of a sentinel's load reads it: p1-p7, `LC`, `LS` and `LE` as they stood (R133). -/
def State.seen (s : State) (p b : Nat) : Bank :=
  let k := s.bank p b
  let d := (s.pair p).delay
  let word (n : Nat) (w : Word) : Word := (smGet (always ⟨w.setWidth 128, false⟩) d n).bits.setWidth 64
  if d.isEmpty then k
  else { k with preds := (word 32 (k.preds.setWidth 64)).setWidth 8, lc := word 44 k.lc, ls := word 45 k.ls, le := word 46 k.le }

/-- The 128-bit value a syllable reads (R120). -/
def State.srcW (s : State) (p b : Nat) (n : Nat) : Wide := (s.src p b n).bits

/-- The integer view x[n] that a syllable reads (R119). -/
def State.srcX (s : State) (p b : Nat) (n : Nat) : Word := (s.src p b n).bits.setWidth 64

/-- The state with c n of a bank written. -/
def State.setReg (s : State) (p b n : Nat) (c : Cap) : State := s.updBank p b (fun k => k.setReg n c)

/-- The untagged 128-bit value of an integer result (R119). -/
def intCap (x : Word) : Cap := ⟨x.setWidth 128, false⟩

/-- The untagged 128-bit value of a wide result (R120). -/
def wideCap (x : Wide) : Cap := ⟨x, false⟩

/-- x[n] written under R119: the upper half zero and the tag clear. -/
def State.setX (s : State) (p b n : Nat) (x : Word) : State := s.setReg p b n (intCap x)

/-- W[n] written under R120: the tag clear. -/
def State.setW (s : State) (p b n : Nat) (x : Wide) : State := s.setReg p b n (wideCap x)

/-! ## Device registers -/

/-- The stored value of the device register at a physical address. -/
def State.rd (s : State) (a : Nat) : Word := smGet regReset s.dev a

/-- The state with a device register's stored value replaced. -/
def State.wr (s : State) (a : Nat) (v : Word) : State := { s with dev := smSet regReset s.dev a v }

/-- Field [lo + w - 1 : lo] of a device register. -/
def State.fld (s : State) (a lo w : Nat) : Nat := bitsAt (s.rd a).toNat lo w

/-- The state with one field of a device register replaced. -/
def State.setFld (s : State) (a lo w v : Nat) : State :=
  s.wr a (BitVec.ofNat 64 (setBitsAt (s.rd a).toNat lo w v))

/-- The state with one bit of a device register set. -/
def State.setBit (s : State) (a i : Nat) : State := s.setFld a i 1 1

/-- A counter field incremented, saturating at all ones. -/
def State.bumpF (s : State) (a lo w : Nat) : State := s.setFld a lo w (satInc w (s.fld a lo w))

/-- A 64-bit counter register incremented, saturating at all ones. -/
def State.bump (s : State) (a : Nat) : State := s.bumpF a 0 64

/-- A write that placed a reserved value sets the block's write-error bit (R12). -/
def State.wrerr (s : State) (a : Nat) : State :=
  match wrerrOf a with
  | none => s
  | some (e, i) => s.setBit e i

/-! ## Notices to the sentinels (R446) -/

/-- The notice queue of sentinel pair q. -/
def State.queue (s : State) (q : Nat) : List (Word × Word) := smGet (always []) s.notices q

/-- A notice sent to the queue of sentinel pair q: dropped and counted when 256 are queued (R446). -/
def State.notify (s : State) (q kind unit idx detail : Nat) : State :=
  let l := s.queue q
  if 256 ≤ l.length then s.bumpF (Addr.SEN_NQSTAT q) 32 32
  else
    let n := (BitVec.ofNat 64 (kind % 256 + unit % 256 * 256 + idx % 4096 * 65536), BitVec.ofNat 64 detail)
    { s with notices := smSet (always []) s.notices q (l ++ [n]) }

/-! ## Capability fields (R33) -/

/-- `PERMS`. -/
def Cap.perms (c : Cap) : Nat := bitsAt c.bits.toNat 112 16
/-- `OTYPE`. -/
def Cap.otype (c : Cap) : Nat := bitsAt c.bits.toNat 96 16
/-- `EXP`. -/
def Cap.exp (c : Cap) : Nat := bitsAt c.bits.toNat 90 6
/-- `BASEM`. -/
def Cap.basem (c : Cap) : Nat := bitsAt c.bits.toNat 77 13
/-- `TOPM`. -/
def Cap.topm (c : Cap) : Nat := bitsAt c.bits.toNat 64 13
/-- `ADDR`, the cursor. -/
def Cap.addr (c : Cap) : Nat := bitsAt c.bits.toNat 0 64

/-- A capability from its fields. -/
def mkCap (tag : Bool) (perms otype exp basem topm addr : Nat) : Cap :=
  ⟨BitVec.ofNat 128 ((perms % 65536) * 2 ^ 112 + (otype % 65536) * 2 ^ 96 + (exp % 64) * 2 ^ 90
    + (basem % 8192) * 2 ^ 77 + (topm % 8192) * 2 ^ 64 + addr % 2 ^ 64), tag⟩

/-- The capability with its cursor replaced, tag as given. -/
def Cap.withAddr (c : Cap) (x : Nat) (tag : Bool) : Cap := ⟨BitVec.ofNat 128 (setBitsAt c.bits.toNat 0 64 x), tag⟩
/-- The capability with its object type replaced, tag as given. -/
def Cap.withOtype (c : Cap) (t : Nat) (tag : Bool) : Cap := ⟨BitVec.ofNat 128 (setBitsAt c.bits.toNat 96 16 t), tag⟩
/-- The capability with its permissions replaced, tag as given. -/
def Cap.withPerms (c : Cap) (q : Nat) (tag : Bool) : Cap := ⟨BitVec.ofNat 128 (setBitsAt c.bits.toNat 112 16 q), tag⟩
/-- The capability with its bounds fields replaced, tag as given. -/
def Cap.withBounds (c : Cap) (e bm tm : Nat) (tag : Bool) : Cap :=
  ⟨BitVec.ofNat 128 (setBitsAt (setBitsAt (setBitsAt c.bits.toNat 90 6 e) 77 13 bm) 64 13 tm), tag⟩
/-- The same 128 bits with the tag clear. -/
def Cap.untag (c : Cap) : Cap := ⟨c.bits, false⟩
/-- Does the capability hold permission i? -/
def Cap.has (c : Cap) (i : Nat) : Bool := bitsAt c.perms i 1 == 1

/-- Permission numbers (R47). -/
def permGL : Nat := 0
/-- Permission LD (R47). -/
def permLD : Nat := 1
/-- Permission ST (R47). -/
def permST : Nat := 2
/-- Permission EX (R47). -/
def permEX : Nat := 3
/-- Permission LC (R47). -/
def permLC : Nat := 4
/-- Permission SC (R47). -/
def permSC : Nat := 5
/-- Permission SL (R47). -/
def permSL : Nat := 6
/-- Permission SE (R47). -/
def permSE : Nat := 7
/-- Permission US (R47). -/
def permUS : Nat := 8
/-- Permission IV (R47). -/
def permIV : Nat := 9
/-- Permission TA (R47). -/
def permTA : Nat := 10
/-- Permission JA (R47). -/
def permJA : Nat := 11
/-- Permission DR (R47). -/
def permDR : Nat := 12
/-- Permission BW (R47). -/
def permBW : Nat := 13
/-- Permission SY (R47). -/
def permSY : Nat := 14
/-- Permission RV (R47). -/
def permRV : Nat := 15

/-- Does the capability hold every permission of a list? -/
def Cap.hasAll (c : Cap) (need : List Nat) : Bool := need.all c.has

/-- The decoded base and top of a capability whose `EXP` is at most 51 (R37, R38). -/
def Cap.bounds (c : Cap) : Nat × Nat :=
  if c.exp = 51 then (0, 2 ^ 64)
  else
    let e := c.exp
    let a := c.addr
    let rw := (c.basem + 2 ^ 13 - 0x400) % 2 ^ 13
    let am := a / 2 ^ e % 2 ^ 13
    let aHi := b2n (decide (am < rw))
    let bHi := b2n (decide (c.basem < rw))
    -- the block may be -1 modulo the space: work modulo 2^64 blocks
    let block := a / 2 ^ (e + 13) + bHi + (2 ^ 64 - aHi)
    let base := (block * 2 ^ (e + 13) + c.basem * 2 ^ e) % 2 ^ 64
    (base, base + ((c.topm + 2 ^ 13 - c.basem) % 2 ^ 13) * 2 ^ e)

/-- The decoded base. -/
def Cap.base (c : Cap) : Nat := c.bounds.1
/-- The decoded top. -/
def Cap.top (c : Cap) : Nat := c.bounds.2

/-- Is the capability malformed (R38)? -/
def Cap.malformed (c : Cap) : Bool := decide (51 < c.exp)

/-- Is a cursor value representable for the capability's bounds (R39)? -/
def Cap.representable (c : Cap) (x : Nat) : Bool :=
  if c.exp = 51 then true
  else
    let w := (c.base + 2 ^ 64 - 2 ^ (c.exp + 10)) % 2 ^ 64
    decide ((x + 2 ^ 64 - w) % 2 ^ 64 < 2 ^ (c.exp + 13))

/-- The base rounded down to a multiple of 2^e. -/
def roundDown (x e : Nat) : Nat := x / 2 ^ e * 2 ^ e
/-- The top rounded up to a multiple of 2^e. -/
def roundUp (x e : Nat) : Nat := (x + 2 ^ e - 1) / 2 ^ e * 2 ^ e

/-- The search of `encode` over the exponents of a list (R42). -/
def encodeIn (b t : Nat) : List Nat → Nat × Nat × Nat × Nat × Nat
  | [] => (51, 0, 0, 0, 2 ^ 64)
  | e :: es =>
    let lo := roundDown b e
    let hi := roundUp t e
    if (hi - lo) / 2 ^ e ≤ 8191 then (e, lo / 2 ^ e % 2 ^ 13, hi / 2 ^ e % 2 ^ 13, lo, hi) else encodeIn b t es

/-- `encode` of R42: exponent, base and top mantissas, and the rounded bounds. -/
def encodeBounds (b t : Nat) : Nat × Nat × Nat × Nat × Nat := encodeIn b t (List.range 51)

/-- A capability minted over [b, t) with its cursor at b (R64). -/
def mintCap (perms otype b t : Nat) : Cap :=
  let r := encodeBounds b t
  mkCap true perms otype r.1 r.2.1 r.2.2.1 b

/-! ## Causes (R222) -/

/-- CAP_TAG. -/
def capTag : Nat := 0x01
/-- CAP_BOUNDS. -/
def capBounds : Nat := 0x02
/-- CAP_PERM. -/
def capPerm : Nat := 0x03
/-- CAP_SEAL. -/
def capSeal : Nat := 0x04
/-- CAP_MALFORMED. -/
def capMalformed : Nat := 0x05
/-- ALIGN. -/
def align : Nat := 0x08
/-- ILLEGAL. -/
def illegal : Nat := 0x09
/-- BUNDLE_DEP. -/
def bundleDep : Nat := 0x0A
/-- PAGE_FAULT. -/
def pageFault : Nat := 0x10
/-- ACCESS_FLAG. -/
def accessFlag : Nat := 0x11
/-- DIRTY_FLAG. -/
def dirtyFlag : Nat := 0x12
/-- SYS_GUARD. -/
def sysGuard : Nat := 0x13
/-- WALK_FAULT. -/
def walkFault : Nat := 0x14
/-- WALK_DEVICE. -/
def walkDevice : Nat := 0x15
/-- REGION. -/
def region : Nat := 0x18
/-- ARITH. -/
def arith : Nat := 0x20
/-- GATE_ARG. -/
def gateArg : Nat := 0x28
/-- GATE_STACK. -/
def gateStack : Nat := 0x29
/-- REP_LIMIT. -/
def repLimit : Nat := 0x30
/-- LAZY_STACK. -/
def lazyStack : Nat := 0x31
/-- ESCALATION. -/
def escalation : Nat := 0x3F

/-- The checks of R51 over [addr, addr + size); the cause of the first that fails. -/
def checkAccess (c : Cap) (addr size : Nat) (need : List Nat) : Option Nat :=
  if c.malformed then some capMalformed
  else if !c.tag then some capTag
  else if c.otype ≠ 0 then some capSeal
  else if !c.hasAll need then some capPerm
  else if addr < c.base || c.top < addr + size then some capBounds
  else none

/-- The checks of R54 and R109 on a jump target; the cause of the first that fails. -/
def checkTarget (c : Cap) : Option Nat :=
  if c.malformed then some capMalformed
  else if !c.tag then some capTag
  else if c.otype ≠ 0 && c.otype ≠ 0xFF01 then some capSeal
  else if !c.has permEX then some capPerm
  else if c.addr < c.base || c.top < c.addr + 4 then some capBounds
  else if c.addr % 4 ≠ 0 then some align
  else none

/-- The checks of R60 on a hardware-typed operand; the cause of the first that fails. -/
def checkTyped (c : Cap) (t : Nat) : Option Nat :=
  if c.malformed then some capMalformed
  else if !c.tag then some capTag
  else if c.otype ≠ t then some capSeal
  else none

/-! ## Faults of a syllable -/

/-- A fault of a syllable: its cause, DETAIL, UPPER and address for the record of R230. -/
structure PFault where
  cause : Nat
  detail : Nat
  upper : Bool
  addr : Nat
deriving DecidableEq, Repr

/-- A fault without an address or detail. -/
def flt0 (cause : Nat) : PFault := ⟨cause, 0, false, 0⟩
/-- A fault with a DETAIL. -/
def fltD (cause detail : Nat) : PFault := ⟨cause, detail, false, 0⟩
/-- A fault with a DETAIL and an address. -/
def fltA (cause detail addr : Nat) : PFault := ⟨cause, detail, false, addr⟩

/-- The fault of a jump target that fails a check: DETAIL names the operand for the checks of the capability and is 0 for
ALIGN (R231). -/
def targetFault (cause operand addr : Nat) : PFault := fltA cause (if cause = align then 0 else operand) addr

/-- What an operation of a syllable answers: a value and a state, or a fault and the state that it leaves (R15). -/
inductive Res (α : Type) where
  | ok (a : α) (s : State)
  | flt (f : PFault) (s : State)
deriving DecidableEq, Repr

/-- Sequencing: a fault ends the operation it appears in (R15). -/
def Res.bind {α β : Type} (r : Res α) (k : α → State → Res β) : Res β :=
  match r with
  | .ok a s => k a s
  | .flt f s => .flt f s

/-- A check: the fault if there is one, else go on. -/
def Res.guard (o : Option PFault) (s : State) : Res Unit :=
  match o with
  | some f => .flt f s
  | none => .ok () s

/-- A failed check becomes a fault with a DETAIL and an address. -/
def causeAt (o : Option Nat) (detail addr : Nat) : Option PFault := o.map (fun c => fltA c detail addr)

/-! ## Physical memory -/

/-- The physical spaces of R562, as pair `p` reaches them; a sentinel's low 512 KiB is its own TCM (R425). -/
inductive Space where
  | dram | tcm (k : Nat) | bitmap | journal | dev | boot | absent
deriving DecidableEq, Repr

/-- The space that a physical address lies in for pair `p`. -/
def spaceOf (p pa : Nat) : Space :=
  if isSentinel p && pa < 0x80000 then .tcm (p - 96)
  else if pa < 0x20000000000 then .dram
  else if pa < 0x20400000000 then .bitmap
  else if 0x80000000000 ≤ pa && pa < 0x84000000000 then .journal
  else if 0xF0000000000 ≤ pa && pa < 0xF0100000000 then .dev
  else if 0xF8000000000 ≤ pa && pa < 0xF8040000000 then .boot
  else .absent

/-- The spaces that store tags in memory (R70). -/
def Space.tagged : Space → Bool
  | .dram => true
  | .tcm _ => true
  | _ => false

/-- The memory channel that holds a physical address (R337). -/
def channelOf (pa : Nat) : Nat := (bitsAt pa 8 4) ^^^ (bitsAt pa 12 4)

/-! ## The arbiters' tenures (R343, R347) -/

/-- A channel arbiter. -/
def State.arb (s : State) (ch : Nat) : ArbChan := smGet (always arbReset) s.arbs ch
/-- The state with a channel arbiter replaced. -/
def State.setArb (s : State) (ch : Nat) (a : ArbChan) : State :=
  { s with arbs := smSet (always arbReset) s.arbs ch a }

/-- A requester drops its request at a channel, which ends its tenure there (R343, R348). -/
def State.endTenure (s : State) (ch q : Nat) : State :=
  if (s.arb ch).owner = some q then s.setArb ch { s.arb ch with owner := none, noted := false } else s

/-- A requester drops its request at every channel. -/
def State.endTenures (s : State) (q : Nat) : State := (List.range 16).foldl (fun s ch => s.endTenure ch q) s

/-- Is the line that holds a DRAM address poisoned (R340)? -/
def State.poisoned (s : State) (pa : Nat) : Bool := smGet (always false) s.poison (pa / 64)

/-- The tag of the granule at an address of a tagged space. -/
def State.tagAt (s : State) (sp : Space) (pa : Nat) : Bool :=
  match sp with
  | .dram => smGet (always false) s.tags (pa / 16)
  | .tcm k => smGet (always false) s.tcmTags ((k * 0x80000 + pa) / 16)
  | _ => false

/-- The state with the tag of one granule of a tagged space written. -/
def State.setTag (s : State) (sp : Space) (pa : Nat) (t : Bool) : State :=
  match sp with
  | .dram => { s with tags := smSet (always false) s.tags (pa / 16) t }
  | .tcm k => { s with tcmTags := smSet (always false) s.tcmTags ((k * 0x80000 + pa) / 16) t }
  | _ => s

/-- The tags of `n` granules from a granule address cleared. -/
def State.clearTagsFrom (s : State) (sp : Space) (pa : Nat) : Nat → State
  | 0 => s
  | n + 1 => (s.setTag sp pa false).clearTagsFrom sp (pa + 16) n

/-- The number of granules that [pa, pa + n) touches. -/
def granulesIn (pa n : Nat) : Nat := if n = 0 then 0 else (pa + n - 1) / 16 - pa / 16 + 1

/-- The number of 64-byte lines that [pa, pa + n) touches. -/
def linesIn (pa n : Nat) : Nat := if n = 0 then 0 else (pa + n - 1) / 64 - pa / 64 + 1

/-- A write to lines takes every reservation on them (R152). -/
def State.loseResv (s : State) (line n : Nat) : State :=
  { s with pairs := s.pairs.map (fun e =>
      match e.2.resv with
      | some l => if line ≤ l && l < line + n then (e.1, { e.2 with resv := none }) else e
      | none => e) }

/-- A write to lines clears their poison (R341); a poisoned line's bytes already read zero. -/
def State.unpoison (s : State) (line : Nat) : Nat → State
  | 0 => s
  | n + 1 =>
    ({ s with poison := smSet (always false) s.poison line false,
              latent := smSet (always none) s.latent line none }).unpoison (line + 1) n

/-- The line identity that reservations compare: DRAM lines by number, TCM lines above them (R152). -/
def resvLine (sp : Space) (pa : Nat) : Nat :=
  match sp with
  | .tcm k => 2 ^ 40 + k * 0x2000 + pa / 64
  | _ => pa / 64

/-- The little-endian word at a place of the TCMs. -/
def State.tcmWord (s : State) (w : Nat) : Nat :=
  bytesNat ((List.range 4).map (fun i => smGet memDefault s.tcm (4 * w + i)))

/-- The number of 4-byte words that [pa, pa + n) touches. -/
def wordsIn (pa n : Nat) : Nat := if n = 0 then 0 else (pa + n - 1) / 4 - pa / 4 + 1

/-- The values of n words of the TCMs from word w on, kept for the fetches that a store does not yet reach (R134). -/
def State.keepStale (s : State) (w n : Nat) : State :=
  let add := fun (m : List (Nat × List Nat)) (i : Nat) => smSet (always []) m (w + i) (s.tcmWord (w + i) :: smGet (always []) m (w + i))
  { s with stale := (List.range n).foldl add s.stale }

/-- The little-endian word at a place of DRAM. -/
def State.dramWord (s : State) (w : Nat) : Nat :=
  bytesNat ((List.range 4).map (fun i => smGet memDefault s.mem (4 * w + i)))

/-- Where the old values of DRAM word w are kept for the fetches of ledger pair p; TCM words lie below (R289). -/
def codeKey (p w : Nat) : Nat := (p + 1) * 2 ^ 45 + w

/-- The old values of the words of [w, w + n) that lie in lines which a ledger pair may hold in its fetch buffer, kept for its
fetches up to its next `MSYNC` (R289; log 79). -/
def State.keepCode (s : State) (w n : Nat) : State :=
  let keep (m : List (Nat × List Nat)) (p i : Nat) :=
    smSet (always []) m (codeKey p (w + i)) (s.dramWord (w + i) :: smGet (always []) m (codeKey p (w + i)))
  let one (m : List (Nat × List Nat)) (e : Nat × Pair) :=
    if e.2.ibuf.isEmpty then m
    else ((List.range n).filter (fun i => e.2.ibuf.contains ((w + i) / 16))).foldl (fun m i => keep m e.1 i) m
  { s with stale := s.pairs.foldl one s.stale }

/-- `MSYNC` of a ledger pair: it then fetches only the new bytes (R171, R289). -/
def State.dropCode (s : State) (p : Nat) : State :=
  if isSentinel p then s
  else { (s.updPair p (fun v => { v with ibuf := [] })) with stale := s.stale.filter (fun e => !(e.1 / 2 ^ 45 == p + 1)) }

/-- A ledger pair fetches from a line of DRAM, and may read on into the next one (R289). -/
def State.fetchLine (s : State) (p line : Nat) : State :=
  let have' := (s.pair p).ibuf
  if isSentinel p || (have'.contains line && have'.contains (line + 1)) then s
  else s.updPair p (fun v => { v with ibuf := (line :: (line + 1) :: v.ibuf).eraseDups })

/-- `IFLUSH` of a sentinel pair: every syllable it fetches is then as stored (R134, R172). -/
def State.dropStale (s : State) (p : Nat) : State :=
  if isSentinel p then { s with stale := s.stale.filter (fun e => !(e.1 / 0x20000 == p - 96)) } else s

/-- The word that pair p fetches where memory holds `cur`: a word stored to since the pair's last `IFLUSH` or `MSYNC` may still
read as any value it has held since (R134, R289). -/
def State.staleWord (s : State) (p : Nat) (sp : Space) (pa cur : Nat) : Nat × State :=
  let old := match sp with
    | .tcm k => smGet (always []) s.stale (k * 0x20000 + pa / 4)
    | .dram => smGet (always []) s.stale (codeKey p (pa / 4))
    | _ => []
  match old with
  | [] => (cur, s)
  | vs => ((cur :: vs).getD (Config.staleFetch s.free % (vs.length + 1)) cur, { s with free := s.free + 1 })

/-- A data write of bytes to a space that stores them: every granule it touches loses its tag (R72), poison and reservations of
the lines written end (R152, R341), and fetched syllables may stay old for a time (R134, R289). -/
def State.dataWrite (s : State) (sp : Space) (pa : Nat) (bs : List Byte) : State :=
  match sp with
  | .dram =>
    let s1 := (s.unpoison (pa / 64) (linesIn pa bs.length)).loseResv (pa / 64) (linesIn pa bs.length)
    let s1 := s1.keepCode (pa / 4) (wordsIn pa bs.length)
    let s2 := { s1 with mem := writeBytes s1.mem pa bs }
    s2.clearTagsFrom .dram pa (granulesIn pa bs.length)
  | .tcm k =>
    let s1 := s.loseResv (resvLine (.tcm k) pa) (linesIn pa bs.length)
    let s1 := s1.keepStale ((k * 0x80000 + pa) / 4) (wordsIn pa bs.length)
    let s2 := { s1 with tcm := writeBytes s1.tcm (k * 0x80000 + pa) bs }
    s2.clearTagsFrom (.tcm k) pa (granulesIn pa bs.length)
  | .boot => { s with boot := writeBytes s.boot (pa - 0xF8000000000) bs }
  | _ => s

/-- A capability store to a granule of a tagged space: the 128 bits and the tag together (R67, R72, R75). -/
def State.capWrite (s : State) (sp : Space) (pa : Nat) (c : Cap) : State :=
  (s.dataWrite sp pa (natBytes 16 c.bits.toNat)).setTag sp pa c.tag

/-- Does the read window hide a byte of the journal array: it belongs to an entry that has not reached its durability point
(R358)? -/
def State.jrnHides (s : State) (o : Nat) : Bool :=
  s.jrn.ring.any (fun e => !e.dur && decide (e.off ≤ o) && decide (o < e.off + e.size))

/-- The byte that a space holds at a physical address; device registers hold no bytes. -/
def State.byteAt (s : State) (sp : Space) (pa : Nat) : Byte :=
  match sp with
  | .dram => smGet memDefault s.mem pa
  | .tcm k => smGet memDefault s.tcm (k * 0x80000 + pa)
  | .journal => if s.jrnHides (pa - 0x80000000000) then 0 else smGet memDefault s.jarr (pa - 0x80000000000)
  | .boot =>
    if pa < 0xF8000040000 then Config.romByte (pa - 0xF8000000000)
    else smGet memDefault s.boot (pa - 0xF8000000000)
  | _ => 0

/-- `n` bytes of a space from a physical address. -/
def State.bytesAt (s : State) (sp : Space) (pa : Nat) : Nat → List Byte
  | 0 => []
  | n + 1 => s.byteAt sp pa :: s.bytesAt sp (pa + 1) n

/-- The little-endian number in `n` bytes of a space. -/
def State.numAt (s : State) (sp : Space) (pa n : Nat) : Nat := bytesNat (s.bytesAt sp pa n)

/-- The 128 bits and tag of a granule (R36). -/
def State.capAt (s : State) (sp : Space) (pa : Nat) : Cap :=
  ⟨BitVec.ofNat 128 (s.numAt sp pa 16), s.tagAt sp pa⟩

/-- The ACTIVE entry that holds a line is marked dirty: its write-back rewrites the line (R220). -/
def State.markEntry (s : State) (line : Nat) : State :=
  let mark (e : CombEntry) : CombEntry := if e.cell / 64 = line && e.st = .active then { e with marked := true } else e
  { s with tally := { s.tally with
      chans := s.tally.chans.map (fun c => (c.1, { c.2 with entries := c.2.entries.map mark })) } }

/-- A line becomes poisoned (R340): its bytes read zero with every tag clear, the channel records it and notifies the
health sentinel; a combining entry still holds its cell (R220). -/
def State.poisonLine (s : State) (line : Nat) : State :=
  let pa := line * 64
  let ch := channelOf pa
  let s1 := (s.markEntry line).dataWrite .dram pa (List.replicate 64 0)
  let s2 := { s1 with poison := smSet (always false) s1.poison line true }
  let s3 := ((s2.setBit (Addr.MCH_ERR ch) 1).wr (Addr.MCH_UE_ADDR ch) (BitVec.ofNat 64 pa)).bump (Addr.MCH_UE_CNT ch)
  s3.notify 3 0x03 0 ch pa

/-- A correctable error is corrected, counted and written back (R339). -/
def State.correctLine (s : State) (line : Nat) : State :=
  ({ s with latent := smSet (always none) s.latent line none }).bump (Addr.MCH_CE_CNT (channelOf (line * 64)))

/-- A read of a DRAM line meets the error that it holds, if any (R339, R340). -/
def State.touchLine (s : State) (line : Nat) : State :=
  match smGet (always none) s.latent line with
  | none => s
  | some false => s.correctLine line
  | some true => s.poisonLine line

/-- A read touches every line of [pa, pa + n) in ascending order. -/
def State.touchFrom (s : State) (line : Nat) : Nat → State
  | 0 => s
  | n + 1 => (s.touchLine line).touchFrom (line + 1) n

/-- Is the granule at a physical address eclipsed (R79)? -/
def State.eclipsed (s : State) (pa : Nat) : Bool := smGet (always false) s.bitmap (pa / 16)

/-- The line of the packages that holds the bitmap bit of a physical address (R79, R338). -/
def bitmapLine (pa : Nat) : Nat := (0x20000000000 + pa / 128) / 64

/-- A bitmap line whose error cannot be corrected: reported as any line is, and its 512 bits read zero (R338, R340; log 82). -/
def State.poisonBitmap (s : State) (line : Nat) : State :=
  let pa := line * 64
  let ch := channelOf pa
  let s1 := { s with latent := smSet (always none) s.latent line none }
  let s2 := (List.range 512).foldl (fun s i =>
    { s with bitmap := smSet (always false) s.bitmap ((pa - 0x20000000000) * 8 + i) false }) s1
  (((s2.setBit (Addr.MCH_ERR ch) 1).wr (Addr.MCH_UE_ADDR ch) (BitVec.ofNat 64 pa)).bump (Addr.MCH_UE_CNT ch)).notify 3 0x03 0 ch pa

/-- An access to a bitmap line meets the error that it holds, if any (R338-R340). -/
def State.bitmapTouch (s : State) (line : Nat) : State :=
  match smGet (always none) s.latent line with
  | none => s
  | some false => s.correctLine line
  | some true => s.poisonBitmap line

/-- The bitmap bit of a physical address looked up (R79, R87). -/
def State.bitmapRead (s : State) (pa : Nat) : Bool × State :=
  let s1 := if s.latent = [] then s else s.bitmapTouch (bitmapLine pa)
  (s1.eclipsed pa, s1)

/-- The time that the module clock has counted, in microseconds. -/
def State.us (s : State) : Nat := s.clk / 1000

end Sys2Proof.Machine
end

