-- ==== Sys2Proof/Machine/Flags.lean ====
section
/-!
DEFINITION. The modes and sticky flags of `AMODE` (R129, R190), rounding and range (R178-R180), and the flag
computations of the integer syllables (R139, R140, R143).
-/
namespace Sys2Proof.Machine

/-- The sticky flags a syllable sets (R190). -/
structure Flags where
  ov : Bool
  satf : Bool
  inx : Bool
  dz : Bool
  bkr : Bool
deriving DecidableEq, Repr

/-- No flag. -/
def noFlags : Flags := ⟨false, false, false, false, false⟩
/-- OV alone, when a condition holds. -/
def flagOV (c : Bool) : Flags := ⟨c, false, false, false, false⟩
/-- SATF alone, when a condition holds. -/
def flagSATF (c : Bool) : Flags := ⟨false, c, false, false, false⟩
/-- DZ alone, when a condition holds. -/
def flagDZ (c : Bool) : Flags := ⟨false, false, false, c, false⟩

/-- The flags of two syllables together (R117). -/
def Flags.or (a b : Flags) : Flags :=
  ⟨a.ov || b.ov, a.satf || b.satf, a.inx || b.inx, a.dz || b.dz, a.bkr || b.bkr⟩

/-- The bits of `AMODE` that flags occupy (R129). -/
def Flags.bits (f : Flags) : Word :=
  BitVec.ofNat 64 (b2n f.ov * 256 + b2n f.satf * 512 + b2n f.inx * 1024 + b2n f.dz * 2048 + b2n f.bkr * 4096)

/-- The flags that a pair's `AMODE` has: a sentinel has OV and DZ only (R132). -/
def flagMask (p : Nat) : Word := if isSentinel p then 0x900 else 0x1F00

/-- Flags ORed into the `AMODE` of a bank (R117, R190). -/
def State.addFlags (s : State) (p b : Nat) (f : Flags) : State :=
  if f = noFlags then s
  else s.updBank p b (fun k => { k with amode := k.amode ||| (f.bits &&& flagMask p) })

/-- `AMODE.RM`; on a sentinel it reads 0 (R132). -/
def Bank.rm (k : Bank) : Nat := bitsAt k.amode.toNat 0 3
/-- `AMODE.SAT`. -/
def Bank.sat (k : Bank) : Bool := k.amode.getLsbD 3
/-- `AMODE.PA`. -/
def Bank.pa (k : Bank) : Bool := k.amode.getLsbD 4
/-- The quantum of a rounding syllable (R178): `BKQ` under RBK, else 1. -/
def Bank.qr (k : Bank) : Nat := if k.rm = 5 then k.bkq.toNat else 1

/-- `rnd` of R178 on the exact value num / den: the rounded integer, INX and BKR. -/
def rnd (num : Int) (den : Nat) (q m : Nat) : Int × Bool × Bool :=
  let d : Int := (den : Int) * (q : Int)
  let n := num / d
  let f := num - n * d
  if f = 0 then (n * q, false, false)
  else
    let up : Bool :=
      if m = 0 then !(decide (2 * f < d) || (decide (2 * f = d) && decide (n % 2 = 0)))
      else if m = 1 then !(decide (2 * f < d) || (decide (2 * f = d) && decide (num < 0)))
      else if m = 2 || m = 5 then decide (num < 0)
      else if m = 3 then false
      else true
    ((if up then n + 1 else n) * q, true, decide (m = 5))

/-- The largest integer of w bits, two's complement. -/
def hiOf (w : Nat) : Int := 2 ^ (w - 1) - 1
/-- The smallest integer of w bits, two's complement. -/
def loOf (w : Nat) : Int := -(2 ^ (w - 1))

/-- `fit` of R179: the w-bit result, OV and SATF. -/
def fit (r : Int) (w q : Nat) (sat : Bool) : BitVec w × Bool × Bool :=
  if loOf w ≤ r ∧ r ≤ hiOf w then (BitVec.ofInt w r, false, false)
  else if sat then
    (BitVec.ofInt w (if hiOf w < r then hiOf w / q * q else -((-(loOf w)) / q * q)), false, true)
  else (BitVec.ofInt w r, true, false)

/-- The result of rounding once and then fitting (R178, R179), with every flag. -/
def rndFit (k : Bank) (num : Int) (den w q : Nat) : BitVec w × Flags :=
  let r := rnd num den q k.rm
  let v := fit r.1 w q k.sat
  (v.1, ⟨v.2.1, v.2.2, r.2.1, false, r.2.2⟩)

/-- Fitting an exact integer without rounding (R179). -/
def fitOnly (k : Bank) (e : Int) (w : Nat) : BitVec w × Flags :=
  let v := fit e w 1 k.sat
  (v.1, ⟨v.2.1, v.2.2, false, false, false⟩)

/-- The result of a T-unit division whose divisor is zero (R180). -/
def divZero (dividend : Int) (w : Nat) : BitVec w × Flags :=
  (BitVec.ofInt w (if 0 < dividend then hiOf w else if dividend < 0 then loOf w else 0), flagDZ true)

/-- A T-unit division: R180 for a zero divisor, else rounded and fitted once. -/
def divFit (k : Bank) (dividend divisor : Int) (w : Nat) : BitVec w × Flags :=
  if divisor = 0 then divZero dividend w
  else
    let num := if divisor < 0 then -dividend else dividend
    rndFit k num divisor.natAbs w k.qr

/-- Is an exact result outside the signed range of w bits? -/
def outside (w : Nat) (e : Int) : Bool := decide (e < loOf w) || decide (hiOf w < e)

/-- An exact result wrapped to w bits, with OV when it is outside the range and `v` asks for it. -/
def wrapV (w : Nat) (e : Int) (v : Bool) : BitVec w × Flags := (BitVec.ofInt w e, flagOV (v && outside w e))

/-- An exact result clamped to w bits, with SATF when it was. -/
def clampS (w : Nat) (e : Int) : BitVec w × Flags :=
  (BitVec.ofInt w (if e < loOf w then loOf w else if hiOf w < e then hiOf w else e), flagSATF (outside w e))

/-- Signed quotient toward zero with the edge results of R140. -/
def sdivE (w : Nat) (a b : Int) : BitVec w × Flags :=
  if b = 0 then (0, flagDZ true) else wrapV w (Int.tdiv a b) true

/-- Saturating signed quotient with the edge results of R140. -/
def sdivS (w : Nat) (a b : Int) : BitVec w × Flags :=
  if b = 0 then (0, flagDZ true) else clampS w (Int.tdiv a b)

/-- Signed remainder with the edge results of R140: OV is set with the quotient's overflow. -/
def sremE (w : Nat) (a b : Int) : BitVec w × Flags :=
  if b = 0 then (BitVec.ofInt w a, flagDZ true)
  else (BitVec.ofInt w (Int.tmod a b), flagOV (outside w (Int.tdiv a b)))

/-- The condition of a compare, MIN[2:0] of R142. -/
def condHolds {w : Nat} (c : Nat) (a b : BitVec w) : Bool :=
  if c = 0 then decide (a = b)
  else if c = 1 then decide (a ≠ b)
  else if c = 2 then decide (a.toInt < b.toInt)
  else if c = 3 then decide (b.toInt ≤ a.toInt)
  else if c = 4 then decide (a.toNat < b.toNat)
  else if c = 5 then decide (b.toNat ≤ a.toNat)
  else if c = 6 then decide (a &&& b ≠ 0)
  else decide (a &&& b = 0)

/-- The number of leading zeros of a w-bit number below bit i. -/
def clzFrom (x : Nat) : Nat → Nat
  | 0 => 0
  | i + 1 => if x.testBit i then 0 else 1 + clzFrom x i

/-- The number of trailing zeros of a number, at most the fuel. -/
def ctzFrom (x i : Nat) : Nat → Nat
  | 0 => 0
  | n + 1 => if x.testBit i then 0 else 1 + ctzFrom x (i + 1) n

/-- The number of ones among the low bits of a number. -/
def popFrom (x : Nat) : Nat → Nat
  | 0 => 0
  | n + 1 => b2n (x.testBit n) + popFrom x n

end Sys2Proof.Machine
end

