-- ==== Sys2Proof/Machine/Operands.lean ====
section
/-!
DEFINITION. The operand forms of a syllable: immediates and their scaling (R106, R137), shift amounts (R139, R141,
R143), the context in which a syllable executes, and effective addresses (R52, R145).
-/
namespace Sys2Proof.Machine
open Sys2Proof (Imm)

/-- The value of an immediate: the sign-extended 6 bits of `MIN`, or the 29 bits of an X extension (R106, R137). -/
def immVal : Imm → Int
  | .short v => v.toInt
  | .ext v => v.toInt

/-- Is the immediate extended by an X syllable? -/
def immExt : Imm → Bool
  | .short _ => false
  | .ext _ => true

/-- The displacement of an immediate load or store: scaled by the access size without X, in bytes with X (R137). -/
def immDisp (i : Imm) (size : Nat) : Int := if immExt i then immVal i else immVal i * size

/-- An integer as a 64-bit address, modulo 2^64. -/
def addrOf (x : Int) : Nat := (x % (2 ^ 64 : Int)).toNat

/-- The effective address of R145. -/
def effAddr (c : Cap) (d : Int) : Nat := addrOf ((c.addr : Int) + d)

/-- The context in which a syllable executes: its pair, the running bank, the addresses of its bundle and of the
bundle that follows, its unit (0 M, 1 A, 2 B, 3 T). -/
structure SCtx where
  pair : Nat
  bank : Nat
  pc : Nat
  next : Nat
  unit : Nat
deriving DecidableEq, Repr

/-- x << n as R139 defines it for a whole unsigned amount: 0 when the amount is the width or more. -/
def shlBy {w : Nat} (a : BitVec w) (n : Nat) : BitVec w := if n < w then a <<< n else 0
/-- Logical right shift by a whole unsigned amount. -/
def shrBy {w : Nat} (a : BitVec w) (n : Nat) : BitVec w := if n < w then a >>> n else 0
/-- Arithmetic right shift by a whole unsigned amount: sign fill beyond the width. -/
def sarBy {w : Nat} (a : BitVec w) (n : Nat) : BitVec w := BitVec.sshiftRight a (if n < w then n else w)

end Sys2Proof.Machine
end

