-- ==== Sys2Proof/Machine/TallyCore.lean ====
section
/-!
DEFINITION. Pool cells, the decision of a tally operation and the combining entries (R202, R207, R209-R218).
-/
namespace Sys2Proof.Machine

/-- The number in `n` bytes of a cell at an offset (R202, R5). -/
def cellGet (d : List Byte) (off n : Nat) : Nat := bytesNat ((d.drop off).take n)
/-- The cell with `n` bytes at an offset replaced. -/
def cellPut (d : List Byte) (off n v : Nat) : List Byte := d.take off ++ natBytes n v ++ d.drop (off + n)
/-- Bit i of a cell's flags word. -/
def cellFlag (d : List Byte) (i : Nat) : Bool := (cellGet d 0x28 4).testBit i
/-- The cell with a flag set. -/
def cellSetFlag (d : List Byte) (i : Nat) : List Byte := cellPut d 0x28 4 ((cellGet d 0x28 4) ||| 2 ^ i)
/-- The cell's amount as a signed integer. -/
def cellAmount (d : List Byte) : Int := (BitVec.ofNat 128 (cellGet d 0 16)).toInt

/-- The status of R207: a code, flag bits and, for codes 0-2, the Pool ID. -/
def tallyStatus (code bits : Nat) (d : List Byte) : Nat :=
  code + bits + (if code ≤ 2 then cellGet d 0x2C 4 * 2 ^ 32 else 0)

/-- What deciding an operation gives: the cell after it, the status, and whether an add was accepted. -/
structure Decision where
  cell : List Byte
  status : Nat
  accepted : Bool
deriving DecidableEq, Repr

/-- Is the cell closed with its seal time reached (R211)? -/
def cellSealed (now : Nat) (d : List Byte) : Bool := cellFlag d 2 && decide (cellGet d 0x20 8 ≤ now)

/-- `TADD` at its decision point (R211). -/
def decideAdd (now : Nat) (op : TallyOp) (d : List Byte) : Decision :=
  if !cellFlag d 0 then ⟨d, tallyStatus 4 0 d, false⟩
  else if cellSealed now d then ⟨cellSetFlag d 3, tallyStatus 2 0 d, false⟩
  else if op.stampUnc && !cellFlag d 7 then ⟨d, tallyStatus 5 0 d, false⟩
  else if cellGet d 0x18 8 ≤ op.stampTime then ⟨d, tallyStatus 1 0 d, false⟩
  else
    let r := cellAmount d + op.amount.toInt
    let out := outside 128 r
    let r' := if out && op.sat then (if r < 0 then loOf 128 else hiOf 128) else r
    let d1 := cellPut d 0 16 (BitVec.ofInt 128 r').toNat
    let d2 := if out then cellSetFlag d1 (if op.sat then 5 else 6) else d1
    let full := decide (cellGet d 0x10 8 = 2 ^ 64 - 1)
    let d3 := if full then cellSetFlag d2 4 else cellPut d2 0x10 8 (cellGet d 0x10 8 + 1)
    ⟨d3, tallyStatus 0 (b2n full * 256 + b2n (out && op.sat) * 512 + b2n (out && !op.sat) * 1024) d, true⟩

/-- `TCLOSE` at its decision point (R212). -/
def decideClose (now : Nat) (unc : Bool) (graceNs : Nat) (op : TallyOp) (d : List Byte) : Decision :=
  if !cellFlag d 0 then ⟨d, tallyStatus 4 0 d, false⟩
  else if cellSealed now d then ⟨cellSetFlag d 3, tallyStatus 2 0 d, false⟩
  else if op.reqT = 0 && unc then ⟨d, tallyStatus 5 0 d, false⟩
  else
    let req := if op.reqT = 0 then now else max op.reqT now
    let close := min (cellGet d 0x18 8) req
    let d1 := cellPut d 0x18 8 close
    let d2 := cellPut d1 0x20 8 (min (close + graceNs) (2 ^ 64 - 1))
    ⟨cellSetFlag d2 2, tallyStatus 0 0 d, false⟩

/-- `TREAD` at its decision point (R213): the cell, with SEALED set when the seal time of a closed cell is reached. -/
def decideRead (now : Nat) (d : List Byte) : Decision :=
  if !cellFlag d 0 then ⟨d, tallyStatus 4 0 d, false⟩
  else if cellSealed now d then ⟨cellSetFlag d 3, tallyStatus 0 2048 d, false⟩
  else ⟨d, tallyStatus 0 0 d, false⟩

/-- The decision of an operation (R209). -/
def decideOp (now : Nat) (unc : Bool) (graceNs : Nat) (op : TallyOp) (d : List Byte) : Decision :=
  match op.kind with
  | .add => decideAdd now op d
  | .close => decideClose now unc graceNs op d
  | .read => decideRead now d

/-- The tally unit of a channel. -/
def State.tch (s : State) (ch : Nat) : TallyChan := smGet (always ⟨[], []⟩) s.tally.chans ch

/-- The state with the tally unit of a channel replaced, and the channel's occupancy register with it (R221). -/
def State.setTch (s : State) (ch : Nat) (t : TallyChan) : State :=
  let s1 := { s with tally := { s.tally with chans := smSet (always ⟨[], []⟩) s.tally.chans ch t } }
  let a := Addr.TCH_OCC ch
  let s2 := (s1.setFld a 0 10 t.entries.length).setFld a 16 7 t.parked.length
  s2.setFld a 32 10 (max (s2.fld a 32 10) t.entries.length)

/-- The L3 slice port that forwards a line (R347). -/
def slicePort (pa : Nat) : Nat := pa / 64 % 12

/-- The entries of a channel's pending queue in use (R347). -/
def State.arbPend (s : State) (ch : Nat) : Nat := (s.arb ch).parked.length + (s.tch ch).parked.length

/-- The entries of one requester there: a slice port's hold the tally operations that it forwarded too (R347). -/
def State.arbPendOf (s : State) (ch q : Nat) : Nat :=
  ((s.arb ch).parked.filter (fun r => r == q)).length
    + ((s.tch ch).parked.filter (fun o => slicePort o.cell == q)).length

/-- A status on its way to its pair (R206). -/
def State.tallyReturn (s : State) (op : TallyOp) (status : Nat) (snap : Option (List Byte)) : State :=
  { s with tally := { s.tally with done := s.tally.done ++ [⟨op, BitVec.ofNat 64 status, snap⟩] } }

/-- The un-journaled list of a logical core (R218). -/
def State.unjList (s : State) (p : Nat) : UnjList := smGet (always ⟨[], false⟩) s.tally.unj p

/-- The state with a core's un-journaled list replaced. -/
def State.setUnj (s : State) (p : Nat) (l : UnjList) : State :=
  { s with tally := { s.tally with unj := smSet (always ⟨[], false⟩) s.tally.unj p l } }

/-- An accepted add enters its core's list; a 17th displaces the oldest and marks the list overflowed (R218). -/
def State.recordAdd (s : State) (op : TallyOp) : State :=
  let l := s.unjList op.pair
  let a : UnjAdd := ⟨op.stampTime, op.stampPort, op.cell, op.amount, op.task.getD 0⟩
  if 16 ≤ l.adds.length then
    (s.setUnj op.pair ⟨l.adds.drop 1 ++ [a], true⟩).setBit Addr.TALLY_ERR 2
  else s.setUnj op.pair ⟨l.adds ++ [a], l.ovf⟩

/-- The per-channel counter that a status code increments (R221). -/
def tallyCount (s : State) (ch : Nat) (kind : TallyKind) (code : Nat) : State :=
  if code = 0 && kind = .add then s.bump (Addr.TCH_CNT_ACC ch)
  else if code = 1 then s.bump (Addr.TCH_CNT_LATE ch)
  else if code = 2 then s.bump (Addr.TCH_CNT_SEAL ch)
  else if code = 3 then s.bump (Addr.TCH_CNT_RETRY ch)
  else s

/-- Tally time is marked uncertain (R210, R492). -/
def State.timeUnc (s : State) : Bool := s.fld Addr.TIME_STATUS 2 1 == 1

/-- An operation is decided against a cell's contents: the state with its effects, and the cell after it. -/
def State.decideOne (s : State) (ch : Nat) (op : TallyOp) (d : List Byte) : State × List Byte :=
  let r := decideOp s.time s.timeUnc (s.fld Addr.TALLY_GRACE 0 20 * 1000) op d
  let s1 := if r.accepted then s.recordAdd op else s
  let s2 := tallyCount s1 ch op.kind (r.status % 256)
  let snap := if op.kind = .read && r.status % 256 = 0 then some r.cell else none
  (s2.tallyReturn op r.status snap, r.cell)

/-- Operations decided in order against a cell's contents: the state, the cell, and how many changed it. -/
def State.decideAll (s : State) (ch : Nat) : List TallyOp → List Byte → Nat → State × List Byte × Nat
  | [], d, n => (s, d, n)
  | op :: ops, d, n =>
    let r := s.decideOne ch op d
    State.decideAll r.1 ch ops r.2 (if r.2 = d then n else n + 1)

/-- Every waiting operation returns CELL_ERROR (R220, R340). -/
def State.cellErrors (s : State) : List TallyOp → State
  | [] => s
  | op :: ops => State.cellErrors ((s.tallyReturn op 6 none).setBit Addr.TALLY_ERR 1) ops

/-- The entry that holds a cell. -/
def TallyChan.entryOf (t : TallyChan) (cell : Nat) : Option CombEntry := t.entries.find? (fun e => e.cell == cell)

/-- The channel without the entry of a cell. -/
def TallyChan.dropEntry (t : TallyChan) (cell : Nat) : TallyChan :=
  { t with entries := t.entries.filter (fun e => !(e.cell == cell)) }

/-- The channel with the entry of a cell replaced. -/
def TallyChan.putEntry (t : TallyChan) (e : CombEntry) : TallyChan :=
  { t with entries := t.entries.map (fun x => if x.cell == e.cell then e else x) }

/-- The next number of the tally units: it names operations and orders the uses of entries (R214). -/
def State.tallyTick (s : State) : Nat × State :=
  (s.tally.nextId, { s with tally := { s.tally with nextId := s.tally.nextId + 1 } })

/-- Has an entry contents that DRAM lacks (R214, R220)? -/
def CombEntry.dirty (e : CombEntry) : Bool := e.marked || !(e.changes == 0)

/-- A load returns: the operations that wait in the entry are decided in order and the entry is ACTIVE, or FLUSHING when
they have changed it MAXADD times; a poisoned line gives CELL_ERROR to each and the entry is given up (R214, R220). -/
def State.combLoad (s : State) (ch : Nat) (e : CombEntry) : State :=
  let s0 := s.touchLine (e.cell / 64)
  if s0.poisoned e.cell then
    (s0.cellErrors e.waiting).setTch ch ((s0.tch ch).dropEntry e.cell)
  else
    let r := s0.decideAll ch e.waiting (s0.bytesAt .dram e.cell 64) 0
    let st := if e.most ≤ r.2.2 then CombState.flushing else CombState.active
    let n := r.1.tallyTick
    n.2.setTch ch ((n.2.tch ch).putEntry { e with st := st, data := r.2.1, waiting := [], changes := r.2.2, used := n.1 })

/-- A write-back of an entry's contents to DRAM (R214); the cell is written as data (R203). -/
def State.combWrite (s : State) (ch : Nat) (e : CombEntry) : State :=
  (s.dataWrite .dram e.cell e.data).bump (Addr.TCH_CNT_WB ch)

/-- Another access reaches a line that an entry holds (R217): waiting operations are decided first, a dirty entry is
written back, one that the access's own read of the line finds in error too (R220), and the entry is given up. -/
def State.cellRoute (s : State) (line : Nat) : State :=
  let cell := line * 64
  let ch := channelOf cell
  match (s.tch ch).entryOf cell with
  | none => s
  | some e =>
    let s1 := if e.st = .loading then s.combLoad ch e else s.touchLine line
    match (s1.tch ch).entryOf cell with
    | none => s1
    | some e1 =>
      let s2 := if e1.dirty || e1.st = .flushing then s1.combWrite ch e1 else s1
      s2.setTch ch ((s2.tch ch).dropEntry cell)

/-- Every line of an access is routed in ascending order (R217). -/
def State.cellRouteFrom (s : State) (line : Nat) : Nat → State
  | 0 => s
  | n + 1 => (s.cellRoute line).cellRouteFrom (line + 1) n

/-- What a memory access to [pa, pa + n) of DRAM meets first: combining entries (R217), then latent errors (R339, R340). -/
def State.dramEnter (s : State) (pa n : Nat) : State :=
  let s1 := if s.tally.chans = [] then s else s.cellRouteFrom (pa / 64) (linesIn pa n)
  if s1.latent = [] then s1 else s1.touchFrom (pa / 64) (linesIn pa n)

/-- Does a bank wait for the status of a tally syllable, for any destination or for one (R206)? -/
def TallyOp.mine (o : TallyOp) (p b : Nat) : Bool := o.pair == p && o.bank == b

/-- The tally operations of a bank whose status has not reached it. -/
def State.tallyOut (s : State) (p b : Nat) : List TallyOp :=
  s.tally.transit.filter (fun o => o.mine p b)
    ++ ((s.tally.done.filter (fun d => d.op.mine p b)).map (fun d => d.op))
    ++ (s.tally.chans.flatMap (fun c =>
        c.2.parked.filter (fun o => o.mine p b)
          ++ c.2.entries.flatMap (fun e => e.waiting.filter (fun o => o.mine p b))))

/-! ## Settlement (R219) -/

/-- Operations of a core taken out of the entries of a channel. -/
def dropWaiting (p : Nat) (e : CombEntry) : CombEntry := { e with waiting := e.waiting.filter (fun o => !(o.pair == p)) }

/-- How many undecided operations of a core there are. -/
def State.undecided (s : State) (p : Nat) : Nat :=
  (s.tally.transit.filter (fun o => o.pair == p)).length
    + (s.tally.chans.map (fun c => (c.2.parked.filter (fun o => o.pair == p)).length
        + (c.2.entries.map (fun e => (e.waiting.filter (fun o => o.pair == p)).length)).sum)).sum

/-- Every undecided operation of a core is taken out of one channel (R219). -/
def State.abortChan (s : State) (p : Nat) : List Nat → State
  | [] => s
  | ch :: chs =>
    let t := s.tch ch
    let t1 : TallyChan := ⟨t.entries.map (dropWaiting p), t.parked.filter (fun o => !(o.pair == p))⟩
    (if t1 = t then s else s.setTch ch t1).abortChan p chs

/-- A core's operations are settled (R219): the undecided ones are taken out, and decided ones whose status has not returned are
reported ALREADY_COMPLETE and not changed. -/
def State.tallySettle (s : State) (p : Nat) : State :=
  let n := s.undecided p
  let done := (s.tally.done.filter (fun d => d.op.pair == p)).length
  let s1 := { s with tally := { s.tally with
    transit := s.tally.transit.filter (fun o => !(o.pair == p)),
    done := s.tally.done.filter (fun d => !(d.op.pair == p)) } }
  let s2 := s1.abortChan p (List.range 16)
  ((s2.setFld Addr.TALLY_STATUS 0 2 (if n = 0 && !(done == 0) then 2 else 0)).setFld Addr.TALLY_STATUS 8 16 n).setFld
    Addr.TALLY_STATUS 24 16 done

/-- The settlement that the halt of a pair makes, as `TALLY_CMD.ABORT` for a logical core would (R219), `TALLY_STATUS`
included (DEDUCED, log 75). -/
def State.haltSettle (s : State) (p : Nat) : State := if isSentinel p then s else s.tallySettle p

/-- Does a bank wait for a tally status (R206)? -/
def State.tallyBusy (s : State) (p b : Nat) : Bool := !(s.tallyOut p b).isEmpty

/-- Is the register a destination whose tally status is outstanding (R206)? -/
def State.tallyHolds (s : State) (p b n : Nat) : Bool := (s.tallyOut p b).any (fun o => o.cd == n)

end Sys2Proof.Machine
end

