-- ==== Sys2Proof/Machine/Mem.lean ====
section
/-!
DEFINITION. Translation, region checks and checked accesses to memory (R70, R76, R77, R80, R81, R87, R147, R148,
R307-R334, R562, R563).
-/
namespace Sys2Proof.Machine

/-! ## Region checks -/

/-- The kinds of access that descriptors mark (R327). -/
inductive RKind where
  | r | w | x | cap
deriving DecidableEq, Repr

/-- The bit of a descriptor's word 0 that marks a kind (R327). -/
def RKind.bit : RKind → Nat
  | .r => 48
  | .w => 49
  | .x => 50
  | .cap => 51

/-- One descriptor as two words (R327). -/
structure Desc where
  lo : Nat
  hi : Nat
deriving DecidableEq, Repr

/-- The global set (R331). -/
def State.globalSet (s : State) : List Desc :=
  (List.range 32).map (fun n => ⟨(s.rd (Addr.RCU_G_LO n)).toNat, (s.rd (Addr.RCU_G_HI n)).toNat⟩)

/-- The debug set (R334). -/
def State.debugSet (s : State) : List Desc :=
  (List.range 8).map (fun n => ⟨(s.rd (Addr.RCU_DBG_LO n)).toNat, (s.rd (Addr.RCU_DBG_HI n)).toNat⟩)

/-- Does a task descriptor have a reserved bit set (R327, R332)? -/
def taskDescBad (d : BitVec 128) : Bool :=
  let x := d.toNat
  !(bitsAt x 38 10 == 0) || !(bitsAt x 53 10 == 0) || !(bitsAt x 102 26 == 0)

/-- The task set of a bank; a descriptor with a reserved bit set matches nothing (R327). -/
def Bank.taskSet (k : Bank) : List Desc :=
  (k.region.filter (fun d => !taskDescBad d)).map (fun d => ⟨bitsAt d.toNat 0 64, bitsAt d.toNat 64 64⟩)

/-- Does a descriptor apply to a class, cover a grain and mark a kind (R328)? -/
def Desc.marks (d : Desc) (cls : Option Nat) (g : Nat) (k : RKind) : Bool :=
  d.lo.testBit 63
    && (match cls with
        | none => true
        | some c => bitsAt d.lo 56 4 == 0 || bitsAt d.lo 56 4 == c)
    && decide (bitsAt d.lo 0 38 ≤ g) && decide (g ≤ bitsAt d.hi 0 38) && d.lo.testBit k.bit

/-- Does a set permit one grain: some descriptor allows it and none denies it (R328)? -/
def grainOk (set : List Desc) (cls : Option Nat) (g : Nat) (k : RKind) : Bool :=
  let m := set.filter (fun d => d.marks cls g k)
  !m.isEmpty && m.all (fun d => !d.lo.testBit 52)

/-- `region_ok` over `n` grains from grain g (R328). -/
def grainsOk (set : List Desc) (cls : Option Nat) (g : Nat) (k : RKind) : Nat → Bool
  | 0 => true
  | n + 1 => grainOk set cls g k && grainsOk set cls (g + 1) k n

/-- `region_ok` over [pa, pa + n) (R328). -/
def regionOk (set : List Desc) (cls : Option Nat) (pa n : Nat) (k : RKind) : Bool :=
  grainsOk set cls (pa / 64) k (linesIn pa n)

/-- The first grain of [pa, pa + n) that a set refuses, as an address (R333). -/
def firstRefused (set : List Desc) (cls : Option Nat) (g : Nat) (k : RKind) : Nat → Option Nat
  | 0 => none
  | n + 1 => if grainOk set cls g k then firstRefused set cls (g + 1) k n else some (g * 64)

/-- `RCU_CTRL.EN` (R331). -/
def State.rcuOn (s : State) : Bool := s.fld Addr.RCU_CTRL 0 1 == 1

/-- Is an access permitted by the global set, for a class (R329, R331)? -/
def State.globalOk (s : State) (cls pa n : Nat) (k : RKind) : Bool :=
  !s.rcuOn || regionOk s.globalSet (some cls) pa n k

/-- The fixed rules of R330 for a pair: is an access to this space refused? Pair 0 may write the image sets, but not the
mask-programmed ROM (R427). -/
def fixedRefuses (p : Nat) (sp : Space) (pa : Nat) (k : RKind) : Bool :=
  match sp with
  | .bitmap => true
  | .absent => true
  | .journal => k = .w || k = .cap
  | .boot => (k = .w || k = .cap) && !(p == 96 && decide (0xF8000040000 ≤ pa))
  | _ => false

/-- The master class of a pair (R327). -/
def classOf (p : Nat) : Nat := if isSentinel p then 2 else 1

/-- Is the space a TCM? -/
def Space.isTcm : Space → Bool
  | .tcm _ => true
  | _ => false

/-- Is a pair's access permitted by every set of R329 and by R330? `task` is the bank whose task set applies. A sentinel's own
TCM is not checked (R425). -/
def State.pairOk (s : State) (p : Nat) (task : Option Bank) (sp : Space) (pa n : Nat) (k : RKind) : Bool :=
  sp.isTcm || (!fixedRefuses p sp pa k && s.globalOk (classOf p) pa n k
    && (match task with
        | none => true
        | some b => !s.rcuOn || regionOk b.taskSet none pa n k))

/-! ## The walk -/

/-- The entry bits of R311. -/
def pteV : Nat := 0
/-- Is the entry a table descriptor form: R, W and X clear? -/
def pteTable (e : Nat) : Bool := bitsAt e 1 3 == 0
/-- The physical address that `PPN` names. -/
def ptePa (e : Nat) : Nat := bitsAt e 16 32 * 4096

/-- The size of a leaf's page at a level (R310). -/
def leafSize (level : Nat) : Nat := 2 ^ (39 - 9 * level)

/-- The reserved forms of a valid entry (R312). -/
def pteReserved (e level : Nat) : Bool :=
  if pteTable e then
    level == 3 || !(bitsAt e 1 15 == 0) || !(bitsAt e 48 8 == 0)
  else
    !(e.testBit 1 || e.testBit 3)
      || (e.testBit 2 && !e.testBit 1)
      || level == 0
      || (decide (level < 3) && (e.testBit 14 || !(ptePa e % leafSize level == 0)))
      || e.testBit 13 || e.testBit 15 || !(bitsAt e 48 8 == 0)

/-- The index of a virtual address at a level (R310). -/
def vaIndex (va level : Nat) : Nat := bitsAt va (39 - 9 * level) 9

/-- Is a virtual address canonical (R310)? -/
def canonical (va : Nat) : Bool := bitsAt va 47 17 == 0 || bitsAt va 47 17 == 2 ^ 17 - 1

/-- A fault of the translation at an address. -/
def xfault (cause detail va : Nat) : PFault := fltA cause detail va

/-- The space in which a walker reads a table: a sentinel's own TCM stands below 512 KiB (R425, R562; log 83). `pr` is the walking
pair, none for the dispatch unit and the sweeper. -/
def walkSpace (pr : Option Nat) (pe : Nat) : Space := spaceOf (pr.getD 0) pe

/-- May the walker read an entry: in tagged DRAM as the global set permits to the walking pair's class, or in the pair's own TCM
(R314, R329, R425)? -/
def State.walkOk (s : State) (pr : Option Nat) (pe : Nat) : Bool :=
  (walkSpace pr pe).isTcm || (walkSpace pr pe = .dram && (match pr with
    | none => true
    | some p => s.globalOk (classOf p) pe 8 .r))

/-- The entry read at `pe`: from the pair's walk cache for levels 0-2, else from memory (R314, R321). -/
def State.readPte (s : State) (wc pr : Option Nat) (table idx level : Nat) : Option Nat × State :=
  let pe := table + 8 * idx
  let cached : Option WalkEntry := match wc with
    | none => none
    | some p => (s.pair p).walkc.find? (fun w => w.table == table && w.idx == idx && w.level == level)
  match cached with
  | some w => (some w.e.toNat, s)
  | none =>
    let sp := walkSpace pr pe
    let s1 := if sp = .dram then s.dramEnter pe 8 else s
    if sp = .dram && s1.poisoned pe then (none, s1) else (some (s1.numAt sp pe 8), s1)

/-- A table descriptor enters the walk cache of a ledger pair: 64 entries a level, the oldest replaced (R320). -/
def State.cacheWalk (s : State) (wc : Option Nat) (table idx level e : Nat) : State :=
  match wc with
  | none => s
  | some p =>
    if isSentinel p then s
    else s.updPair p (fun v =>
      let hit := v.walkc.any (fun w => w.table == table && w.idx == idx && w.level == level)
      if hit then v
      else
        let same := v.walkc.filter (fun w => w.level == level)
        let other := v.walkc.filter (fun w => !(w.level == level))
        { v with walkc := (⟨table, idx, level, BitVec.ofNat 64 e⟩ :: same).take 64 ++ other })

/-- The levels of a walk (R314): `wc` is the pair whose walk caches serve it, `pr` the walking pair. -/
def walkGo (s : State) (wc pr : Option Nat) (va asid table level : Nat) : Nat → Res TlbEntry
  | 0 => .flt (xfault walkFault level va) s
  | fuel + 1 =>
    let idx := vaIndex va level
    let pe := table + 8 * idx
    if 0xF0000000000 ≤ pe && pe < 0xF0100000000 then .flt (xfault walkDevice level va) s
    else if !s.walkOk pr pe then .flt (xfault walkFault level va) s
    else
      match s.readPte wc pr table idx level with
      | (none, s1) => .flt (xfault walkFault level va) s1
      | (some e, s1) =>
        if !e.testBit 0 then .flt (xfault pageFault 0 va) s1
        else if pteReserved e level then .flt (xfault walkFault level va) s1
        else if pteTable e then
          walkGo (s1.cacheWalk wc table idx level e) wc pr va asid (ptePa e) (level + 1) fuel
        else .ok ⟨va, level, asid, BitVec.ofNat 64 e, pe⟩ s1

/-- The root and the ASID of a `TTBC` value (R308). -/
def ttbcRoot (t : Nat) : Nat := bitsAt t 12 32 * 4096
/-- The ASID of a `TTBC` value (R308). -/
def ttbcAsid (t : Nat) : Nat := bitsAt t 44 16

/-- A whole walk; those of the pairs are counted (R314, R336). -/
def State.walk (s : State) (wc pr : Option Nat) (va ttbc : Nat) : Res TlbEntry :=
  if !canonical va then .flt (xfault pageFault 0 va) s
  else walkGo (if pr.isSome then s.bump Addr.TR_CNT_WALK else s) wc pr va (ttbcAsid ttbc) (ttbcRoot ttbc) 0 4

/-- Does a TLB entry translate an address under an ASID (R320)? -/
def TlbEntry.hits (t : TlbEntry) (va asid : Nat) : Bool :=
  (t.asid == asid || t.e.toNat.testBit 9) && t.va / leafSize t.level == va / leafSize t.level

/-- How many leaves a pair's TLB holds (R320); the DET TLB holds 64 (R297). -/
def tlbSize (p : Nat) (det : Bool) : Nat := if isSentinel p then 32 else if det then 64 else 2048

/-- A leaf put in front of those of a list, in place of what the list held for its address. -/
def tlbPut (t : TlbEntry) (n : Nat) (l : List TlbEntry) : List TlbEntry := (t :: l.filter (fun x => !x.hits t.va t.asid)).take n

/-- Has a pair a TLB of one level only: a sentinel, or a pair in DET (R297, R320)? -/
def Pair.oneTlb (v : Pair) (p : Nat) : Bool := isSentinel p || v.det

/-- A leaf enters the I-TLB (`x`) or the D-TLB of a ledger pair (R320). -/
def Pair.l1Put (v : Pair) (x : Bool) (t : TlbEntry) : Pair :=
  if x then { v with itlb := tlbPut t 64 v.itlb } else { v with dtlb := tlbPut t 64 v.dtlb }

/-- A leaf that a walk found enters a pair's TLBs: the second level, and the first level of its use (R320). -/
def State.tlbFill (s : State) (p : Nat) (x : Bool) (t : TlbEntry) : State :=
  s.updPair p (fun v =>
    let v1 := { v with tlb := tlbPut t (tlbSize p v.det) v.tlb }
    if v.oneTlb p then v1 else v1.l1Put x t)

/-- A leaf found in `tlb`: it is the latest used of the DET TLB, or enters a first-level TLB (R297, R320). -/
def State.tlbHit (s : State) (p : Nat) (x : Bool) (t : TlbEntry) : State :=
  s.updPair p (fun v =>
    if v.det then { v with tlb := tlbPut t (tlbSize p true) v.tlb } else if isSentinel p then v else v.l1Put x t)

/-- Every TLB of a pair with a function applied. -/
def Pair.mapTlbs (v : Pair) (f : List TlbEntry → List TlbEntry) : Pair :=
  { v with tlb := f v.tlb, itlb := f v.itlb, dtlb := f v.dtlb }

/-- The leaf for an address of a pair, for a fetch (`x`) or a data access: from its TLBs, else by a walk that fills them (R314,
R320); in DET the walk caches are not used (R297). -/
def State.leafOf (s : State) (p : Nat) (x : Bool) (ttbc va : Nat) : Res TlbEntry :=
  let hit (t : TlbEntry) := t.hits va (ttbcAsid ttbc)
  if !canonical va then .flt (xfault pageFault 0 va) s
  else
    match (if x then (s.pair p).itlb else (s.pair p).dtlb).find? hit with
    | some t => .ok t s
    | none =>
      match (s.pair p).tlb.find? hit with
      | some t => .ok t (s.tlbHit p x t)
      | none =>
        (s.walk (if (s.pair p).det then none else some p) (some p) va ttbc).bind (fun t s1 => .ok t (s1.tlbFill p x t))

/-- The leaf read again from memory, bypassing the TLBs and walk caches: what is read takes the place of the cached entry, which
is gone where there is no leaf now (R317). -/
def State.releaf (s : State) (p : Nat) (x : Bool) (ttbc va : Nat) : Res TlbEntry :=
  let s0 := s.updPair p (fun v => v.mapTlbs (fun l => l.filter (fun t => !t.hits va (ttbcAsid ttbc))))
  (s0.walk none (some p) va ttbc).bind (fun t s1 => .ok t (s1.tlbFill p x t))

/-- The physical address that a leaf gives (R314). -/
def leafPa (t : TlbEntry) (va : Nat) : Nat := ptePa t.e.toNat + va % leafSize t.level

/-! ## The checks of a leaf -/

/-- The kinds of access of R315. -/
inductive AKind where
  | fetch | load | store | tstore
deriving DecidableEq, Repr

/-- Is the kind a write? -/
def AKind.isStore : AKind → Bool
  | .store => true
  | .tstore => true
  | _ => false

/-- The region kind of an access (R328). -/
def AKind.rkind : AKind → RKind
  | .fetch => .x
  | .load => .r
  | _ => .w

/-- How an access is made: its pair, `TTBC`, whether `PCC` holds SY and the access is a syllable's or a fetch (R315),
the bank whose task set applies (R329), and the tests that R82 and R208 skip. -/
structure Via where
  pair : Nat
  ttbc : Nat
  guard : Bool
  task : Option Bank
  noW : Bool
  noA : Bool
  noD : Bool
deriving DecidableEq, Repr

/-- The way of a syllable's own access from a bank (R307, R315, R329). -/
def State.via (s : State) (p b : Nat) : Via :=
  let k := s.bank p b
  { pair := p, ttbc := k.ttbc.toNat, guard := k.pcc.has permSY,
    task := if isSentinel p || b = 15 then none else some k, noW := false, noA := false, noD := false }

/-- The way of the spill engine and fill: no system guard, class 1 or 2, no task set (R315, R329). -/
def spillVia (p ttbc : Nat) : Via :=
  { pair := p, ttbc := ttbc, guard := false, task := none, noW := false, noA := false, noD := false }

/-- One part of an access that has been translated: physical place, length, memory type, `CL`, and the PTE whose `CD`
is to be set, with its `CT` (R77). -/
structure Piece where
  va : Nat
  pa : Nat
  len : Nat
  sp : Space
  mt : Nat
  cl : Bool
  cd : Option (Nat × Bool)
deriving DecidableEq, Repr

/-- Bare mode (R309): the attributes R, W, X, CL, CS and MT of a physical space; none outside the map. -/
def bareAttrs : Space → Option (Bool × Bool × Bool × Bool × Bool × Nat)
  | .dram => some (true, true, true, true, true, 0)
  | .tcm _ => some (true, true, true, true, true, 0)
  | .bitmap => some (true, true, true, true, true, 0)
  | .journal => some (true, false, false, false, false, 1)
  | .dev => some (true, true, false, false, false, 2)
  | .boot => some (true, false, true, false, false, 1)
  | .absent => none

/-- A translation in bare mode (R309, R316). -/
def bareXlate (s : State) (v : Via) (k : AKind) (va len : Nat) : Res Piece :=
  if 2 ^ 44 ≤ va then .flt (xfault pageFault 0 va) s
  else
    let sp := spaceOf v.pair va
    match bareAttrs sp with
    | none => .flt (xfault pageFault 0 va) s
    | some (r, w, x, cl, cs, mt) =>
      let bad := match k with
        | .fetch => !x
        | .load => !r
        | .store => !w && !v.noW
        | .tstore => !w || !cs
      if bad then .flt (xfault pageFault 0 va) s
      else .ok ⟨va, va, len, sp, mt, cl, none⟩ s

/-- `leaf_check` of R315 up to A and D. -/
def leafRights (v : Via) (k : AKind) (e va : Nat) : Option PFault :=
  if e.testBit 6 && v.guard then some (xfault sysGuard 0 va)
  else
    let bad := match k with
      | .fetch => !e.testBit 3 || decide (2 ≤ bitsAt e 10 2)
      | .load => !e.testBit 1
      | .store => !e.testBit 2 && !v.noW
      | .tstore => (!e.testBit 2 && !v.noW) || !e.testBit 5
    if bad then some (xfault pageFault 0 va) else none

/-- Is A missing, then is D missing, for a kind (R315)? -/
def leafFlags (v : Via) (k : AKind) (e va : Nat) : Option PFault :=
  if !e.testBit 7 && !v.noA then some (xfault accessFlag 0 va)
  else if k.isStore && !v.noD && !e.testBit 8 then some (xfault dirtyFlag 0 va)
  else none

/-- The piece that a leaf gives. -/
def pieceOf (v : Via) (k : AKind) (t : TlbEntry) (va len : Nat) : Piece :=
  let pa := leafPa t va
  let e := t.e.toNat
  ⟨va, pa, len, spaceOf v.pair pa, bitsAt e 10 2, e.testBit 4,
    if k = .tstore && !e.testBit 12 then some (t.pe, e.testBit 14) else none⟩

/-- A translation in the order of R316. A leaf without A or D is read again before the fault (R317). -/
def xlate (s : State) (v : Via) (k : AKind) (va len : Nat) : Res Piece :=
  if v.ttbc % 2 = 0 then bareXlate s v k va len
  else
    (s.leafOf v.pair (k = .fetch) v.ttbc va).bind (fun t s1 =>
      match leafRights v k t.e.toNat va with
      | some f => .flt f s1
      | none =>
        match leafFlags v k t.e.toNat va with
        | none => .ok (pieceOf v k t va len) s1
        | some _ =>
          (s1.releaf v.pair (k = .fetch) v.ttbc va).bind (fun t2 s2 =>
            match leafRights v k t2.e.toNat va with
            | some f => .flt f s2
            | none =>
              match leafFlags v k t2.e.toNat va with
              | none => .ok (pieceOf v k t2 va len) s2
              | some f => .flt f s2))

/-- `CD` set in a leaf, or in all 16 entries of a run, by an atomic read-modify-write (R77, R318). -/
def State.setCdAt (s : State) (sp : Space) (pe : Nat) : State :=
  let s1 := if sp = .dram then s.dramEnter pe 8 else s
  let e := s1.numAt sp pe 8
  s1.dataWrite sp pe (natBytes 8 (if e.testBit 12 then e else e + 4096))

/-- `CD` set in `n` consecutive entries. -/
def State.setCdRun (s : State) (sp : Space) (pe : Nat) : Nat → State
  | 0 => s
  | n + 1 => (s.setCdAt sp pe).setCdRun sp (pe + 8) n

/-- The pair's cached copy of an entry then holds `CD` (R77). -/
def tlbSetCd (pe n : Nat) (t : TlbEntry) : TlbEntry :=
  if pe ≤ t.pe && t.pe < pe + 8 * n then { t with e := t.e ||| 4096#64 } else t

/-- `CD` set for a piece that stores a tagged capability, once every check has passed (R77, R316). -/
def State.markCd (s : State) (p : Nat) (c : Piece) : State :=
  match c.cd with
  | none => s
  | some (pe, run) =>
    let first := if run then pe / 128 * 128 else pe
    let n := if run then 16 else 1
    ((s.setCdRun (walkSpace (some p) first) first n).updPair p (fun v => v.mapTlbs (fun l => l.map (tlbSetCd first n)))).bump
      Addr.TR_CNT_CDSET

/-! ## Checked accesses -/

/-- The parts of an access split at 64-byte lines: at most `fuel` of them (R147, R148). -/
def splitLines (ea n : Nat) : Nat → List (Nat × Nat)
  | 0 => []
  | fuel + 1 =>
    let room := 64 - ea % 64
    if n ≤ room then [(ea, n)] else (ea, room) :: splitLines (ea + room) (n - room) fuel

/-- The parts of a range split at 4 KiB pages. -/
def splitPages (ea n : Nat) : Nat → List (Nat × Nat)
  | 0 => []
  | fuel + 1 =>
    let room := 4096 - ea % 4096
    if n ≤ room then [(ea, n)] else (ea, room) :: splitPages (ea + room) (n - room) fuel

/-- What a part must satisfy beyond translation: item 4 and item 5 of R147. `one` says that it is one access of at most
16 bytes, `capAcc` that it is a capability access, `size` is the whole access. -/
def pieceCheck (s : State) (v : Via) (k : AKind) (one capAcc : Bool) (ea size : Nat) (c : Piece) : Option PFault :=
  let device := decide (2 ≤ c.mt)
  if one && (device || (c.sp = .dev && size == 8 && !capAcc)) && !(ea % size == 0) then some (xfault align 0 c.va)
  else if !one && device then some (xfault pageFault 0 c.va)
  else if k = .tstore && !c.sp.tagged then some (xfault region 0 c.va)
  else if c.sp = .dev && (!one || capAcc || !(size == 8)) then some (xfault region 0 c.va)
  else if !s.pairOk v.pair v.task c.sp c.pa c.len k.rkind then some (xfault region 0 c.va)
  else if k = .tstore && !s.pairOk v.pair v.task c.sp c.pa c.len .cap then some (xfault region 0 c.va)
  else none

/-- The fault of a part other than the first is marked UPPER (R230). -/
def markUpper (u : Bool) (f : PFault) : PFault := { f with upper := u }

/-- Every part translated and checked in order, before any is performed (R148). -/
def planParts (v : Via) (k : AKind) (one capAcc : Bool) (ea size : Nat) (upper : Bool) (s : State) :
    List (Nat × Nat) → Res (List Piece)
  | [] => .ok [] s
  | h :: hs =>
    match xlate s v k h.1 h.2 with
    | .flt f s1 => .flt (markUpper upper f) s1
    | .ok c s1 =>
      match pieceCheck s1 v k one capAcc ea size c with
      | some f => .flt (markUpper upper f) s1
      | none =>
        match planParts v k one capAcc ea size one s1 hs with
        | .ok cs s2 => .ok (c :: cs) s2
        | .flt f s2 => .flt f s2

/-- An access of at most 16 bytes: items 3 to 6 of R147. -/
def planAccess (s : State) (v : Via) (k : AKind) (capAcc : Bool) (ea size : Nat) : Res (List Piece) :=
  planParts v k true capAcc ea size false s (splitLines ea size 2)

/-- An access of more than 16 bytes made by one syllable, page by page in ascending order (R147 item 4). -/
def planRange (s : State) (v : Via) (k : AKind) (ea size : Nat) : Res (List Piece) :=
  planParts v k false false ea size false s (splitPages ea size (size / 4096 + 2))

/-- The bytes of the parts of a load, in order. Lines are routed and corrected first (R217, R339, R340). -/
def State.readPieces (s : State) : List Piece → List Byte × State
  | [] => ([], s)
  | c :: cs =>
    let s1 := if c.sp = .dram then s.dramEnter c.pa c.len else s
    let r := s1.readPieces cs
    (s1.bytesAt c.sp c.pa c.len ++ r.1, r.2)

/-- The bytes of a data store written to its parts, in order (R72). -/
def State.writePieces (s : State) : List Piece → List Byte → State
  | [], _ => s
  | c :: cs, bs =>
    let s1 := if c.sp = .dram then s.dramEnter c.pa c.len else s
    (s1.dataWrite c.sp c.pa (bs.take c.len)).writePieces cs (bs.drop c.len)

/-! ## Capabilities in memory -/

/-- The object types that are never revoked (R81). -/
def neverRevoked (c : Cap) : Bool := c.otype == 0xFF05 || c.otype == 0xFF06 || c.otype == 0xFF07

/-- The physical address of a data access at `va` by a pair under a `TTBC`, without any right's check (R81). -/
def State.lookupPa (s : State) (p ttbc va : Nat) : Option Nat × State :=
  if ttbc % 2 = 0 then ((if va < 2 ^ 44 then some va else none), s)
  else
    match s.leafOf p false ttbc va with
    | .ok t s1 => (some (leafPa t va), s1)
    | .flt _ s1 => (none, s1)

/-- Is a capability revoked, its base translated as pair p translates a data access under a `TTBC` (R81)? -/
def State.revoked (s : State) (p ttbc : Nat) (c : Cap) : Bool × State :=
  if !c.tag || c.malformed || neverRevoked c then (false, s)
  else
    match s.lookupPa p ttbc c.base with
    | (none, s1) => (false, s1)
    | (some pa, s1) => if spaceOf p pa = .dram then s1.bitmapRead pa else (false, s1)

/-- The load barrier (R87, R88). -/
def State.barrier (s : State) (p ttbc : Nat) (c : Cap) : Cap × State :=
  match s.revoked p ttbc c with
  | (true, s1) => (c.untag, s1.bump Addr.ECL_CNT_LBCLR)
  | (false, s1) => (c, s1)

/-- A capability load from a checked granule: the tag as R48 and R70 permit, then the barrier (R73, R87). `lc` says that
the authority holds LC. -/
def State.capLoad (s : State) (v : Via) (lc : Bool) (c : Piece) : Cap × State :=
  let s1 := if c.sp = .dram then s.dramEnter c.pa 16 else s
  let x := s1.capAt c.sp c.pa
  if x.tag && lc && c.cl && c.sp.tagged then s1.barrier v.pair v.ttbc x else (x.untag, s1)

/-- A capability store to a checked granule: `CD` first where the value is tagged (R67, R72, R77). -/
def State.capStore (s : State) (v : Via) (x : Cap) (c : Piece) : State :=
  let s1 := if x.tag then s.markCd v.pair c else s
  let s2 := if c.sp = .dram then s1.dramEnter c.pa 16 else s1
  s2.capWrite c.sp c.pa x

/-- One granule planned as a capability access (R147 items 3 to 5 for a 16-byte access). -/
def planCap (s : State) (v : Via) (k : AKind) (ea : Nat) : Res Piece :=
  match planAccess s v k true ea 16 with
  | .ok (c :: _) s1 => .ok c s1
  | .ok [] s1 => .flt (xfault align 0 ea) s1
  | .flt f s1 => .flt f s1

/-- The kind of a store of a capability value (R49). -/
def storeKind (x : Cap) : AKind := if x.tag then .tstore else .store

/-- The permissions that a capability store needs (R147 item 1). -/
def storeNeed (x : Cap) : List Nat :=
  if !x.tag then [permST] else if x.has permGL then [permST, permSC] else [permST, permSC, permSL]

end Sys2Proof.Machine
end

