-- ==== Sys2Proof/Machine/Ctx.lean ====
section
/-!
DEFINITION. Contexts and banks: `STATUS` (R224), the mode shadow (R233, R286), lazy accumulator state (R195-R199), bank
switches, escalation and lockup (R239-R242), posts (R256-R259), the task table (R251, R252) and the delivery of faults
(R229-R232).
-/
namespace Sys2Proof.Machine

/-! ## STATUS -/

/-- Bit i of a bank's `STATUS`. -/
def Bank.stBit (k : Bank) (i : Nat) : Bool := k.status.toNat.testBit i
/-- The bank with a field of `STATUS` replaced. -/
def Bank.stSet (k : Bank) (lo w v : Nat) : Bank :=
  { k with status := BitVec.ofNat 64 (setBitsAt k.status.toNat lo w v) }
/-- `EVM`. -/
def Bank.evm (k : Bank) : Bool := k.stBit 0
/-- `ESC`. -/
def Bank.escd (k : Bank) : Bool := k.stBit 2
/-- `LAZY`. -/
def Bank.lazy (k : Bank) : Bool := k.stBit 3
/-- `LZS`. -/
def Bank.lzs (k : Bank) : Bool := k.stBit 4
/-- `APEND`. -/
def Bank.apend (k : Bank) : Bool := k.stBit 5
/-- `REP`. -/
def Bank.rep (k : Bank) : Nat := bitsAt k.status.toNat 6 2
/-- `GDEPTH`. -/
def Bank.gdepth (k : Bank) : Nat := bitsAt k.status.toNat 8 8
/-- `PROG`. -/
def Bank.prog (k : Bank) : Nat := bitsAt k.status.toNat 24 40
/-- The bank with `PROG` replaced. -/
def Bank.setProg (k : Bank) (n : Nat) : Bank := k.stSet 24 40 n

/-- `STATUS` as software reads it: the bank's, with the pair's `DET` in bit 1 (R224). -/
def State.statusOf (s : State) (p b : Nat) : Word :=
  BitVec.ofNat 64 (setBitsAt (s.bank p b).status.toNat 1 1 (b2n (s.pair p).det))

/-! ## The mode shadow -/

/-- The bits of a register that a write changes. -/
def merge (old value mask : Word) : Word := (old &&& ~~~mask) ||| (value &&& mask)

/-- A mode write takes effect on its pair (R286). -/
def applyShadow (v : Pair) (w : ShadowWrite) : Pair :=
  let k := v.bank w.bank
  match w.reg with
  | .status =>
    let m := w.mask &&& ~~~(2#64)
    let det := if w.mask.getLsbD 1 then w.value.getLsbD 1 else v.det
    -- at either edge of DET the pair's TLBs and walk caches are empty (R302)
    { v.setBank w.bank { k with status := merge k.status w.value m } with
      det := det, tlb := if det = v.det then v.tlb else [], itlb := if det = v.det then v.itlb else [],
      dtlb := if det = v.det then v.dtlb else [], walkc := if det = v.det then v.walkc else [] }
  | .amode => v.setBank w.bank { k with amode := merge k.amode w.value w.mask }
  | .ctxcfg => { v with ctxcfg := merge v.ctxcfg w.value w.mask }
  | .ttbc => v.setBank w.bank { k with ttbc := merge k.ttbc w.value w.mask }
  | .bankw => { v with bankw := merge v.bankw w.value w.mask }

/-- Every pending mode write takes effect, oldest first (R233). -/
def flushShadow (v : Pair) : Pair := { v.shadow.foldl applyShadow v with shadow := [] }

/-- A bundle begins: writes whose shadow has ended take effect; the others count one bundle more (R286). -/
def tickShadow (v : Pair) : Pair :=
  let due := v.shadow.filter (fun w => w.left == 0)
  let rest := v.shadow.filter (fun w => !(w.left == 0))
  { due.foldl applyShadow v with shadow := rest.map (fun w => { w with left := w.left - 1 }) }

/-! ## Bank switches -/

/-- The mask timer follows the running context (R227): it runs while EVM or ESC is set. While the pair runs
nothing the spec says nothing of it: the model resets it (DESIGN CHOICE, log 72). -/
def maskUpdate (clk : Nat) (v : Pair) : Pair :=
  match v.run with
  | none => { v with maskFrom := none, maskNoted := false }
  | some b =>
    if (v.bank b).evm || (v.bank b).escd then
      { v with maskFrom := if v.maskFrom.isSome then v.maskFrom else some clk }
    else { v with maskFrom := none, maskNoted := false }

/-- A bank switch: pending mode writes take effect (R233), the window closes (R129), the reservation is lost (R152), a
load's delay ends (R133), the DET TLB is empty (R299), and the named bank runs. -/
def switchPair (clk order : Nat) (v : Pair) (dest : Option Nat) : Pair :=
  let v1 := flushShadow v
  let v2 := { v1 with bankw := v1.bankw &&& ~~~(0x100#64), resv := none, delay := [], run := dest, resumed := dest.isSome,
                      tlb := if v1.det then [] else v1.tlb, ranAt := clk }
  let v3 := match dest with
    | none => v2
    | some b => v2.setBank b { v2.bank b with st := .running, lastRun := order }
  maskUpdate clk v3

/-- Is a pass to be taken at the pair's next bundle boundary (R93): not under DET, not within a `REPU` sequence? -/
def Pair.passReady (v : Pair) : Bool :=
  v.passDue && v.halt.isNone && !v.det
    && (match v.run with
        | some b => !((v.bank b).rep == 2)
        | none => true)

/-- Does a resumed context raise ARITH before its first bundle (R192)? -/
def State.apendDue (s : State) (p b : Nat) : Bool := (s.pair p).resumed && (s.bank p b).apend

/-- The next number of the dispatch unit: it orders posts and runs, and names delivery records. -/
def State.evdTick (s : State) : Nat × State := (s.evd.nextId, { s with evd := { s.evd with nextId := s.evd.nextId + 1 } })

/-- A bank switch of pair p. -/
def State.switchTo (s : State) (p : Nat) (dest : Option Nat) : State :=
  let n := s.evdTick
  n.2.updPair p (fun v => switchPair s.clk n.1 v dest)

/-! ## Delivery records and channels -/

/-- A delivery record by number. -/
def State.deliv (s : State) (id : Nat) : Option Delivery := s.evd.delivs.find? (fun d => d.id == id)

/-- The state with a delivery record replaced. -/
def State.putDeliv (s : State) (d : Delivery) : State :=
  { s with evd := { s.evd with delivs := s.evd.delivs.map (fun x => if x.id == d.id then d else x) } }

/-- Is a delivery of a channel in progress: selected, and neither entered nor failed (R257)? -/
def State.delivering (s : State) (ch : Nat) : Bool := s.evd.delivs.any (fun d => d.chan == ch && !d.entered)

/-- The active copy of a slot (R257). -/
def State.slot (s : State) (ch : Nat) : Nat := (smGet (always 0) s.evd.slots ch).toNat

/-- The next copy of a slot becomes active when no delivery of its channel is in progress (R257). -/
def State.slotSync (s : State) (ch : Nat) : State :=
  if 4096 ≤ ch || s.delivering ch then s
  else { s with evd := { s.evd with slots := smSet (always 0) s.evd.slots ch (s.rd (Addr.EVD_SLOT ch)) } }

/-- A receive buffer returns to its queue when the record that holds it goes (R260). The network unit's free list of a
queue is kept in `bufs`, by queue. -/
def State.freeBuf (s : State) (buf : Option (Nat × Nat)) : State :=
  match buf with
  | none => s
  | some (q, a) =>
    let l := smGet (always []) s.rxFree q
    let base := s.fld (Addr.NET_RXQ_BASE q) 6 38 * 64
    let size := if s.fld (Addr.NET_RXQ_CFG q) 2 1 = 1 then 10240 else 2048
    -- a buffer of a pool that the queue no longer has is nobody's
    if a < base || (a - base) % size != 0 || s.fld (Addr.NET_RXQ_CFG q) 16 13 ≤ (a - base) / size || l.contains a then s
    else { s with rxFree := smSet (always []) s.rxFree q (l ++ [a]) }

/-- A delivery record is deleted (R260); its channel's slot may then change (R257). -/
def State.dropDeliv (s : State) (id : Nat) : State :=
  match s.deliv id with
  | none => s
  | some d =>
    let s1 := { s with evd := { s.evd with delivs := s.evd.delivs.filter (fun x => !(x.id == id)) } }
    (s1.freeBuf d.buf).slotSync d.chan

/-- A post or event of a channel is dropped (R258, R240). -/
def State.countDrop (s : State) (ch : Nat) : State :=
  if 4096 ≤ ch then s
  else (s.bumpF (Addr.EVD_CHSTAT ch) 16 16).setBit Addr.EVD_ERR 1

/-! ## The task table -/

/-- The physical address of a virtual one under a `TTBC`, for the dispatch unit's own reads: no pair's caches, no region
check (R307, R329). -/
def State.dispPa (s : State) (ttbc va : Nat) : Res Nat :=
  if ttbc % 2 = 0 then (if va < 0x20000000000 then .ok va s else .flt (xfault pageFault 0 va) s)
  else
    (s.walk none none va ttbc).bind (fun t s1 =>
      if leafPa t va < 0x20000000000 then .ok (leafPa t va) s1 else .flt (xfault region 0 va) s1)

/-- Is a capability's base eclipsed, for a loader outside the pairs (R87)? -/
def State.dispRevoked (s : State) (ttbc : Nat) (c : Cap) : Bool × State :=
  if !c.tag || c.malformed || neverRevoked c then (false, s)
  else
    match s.dispPa ttbc c.base with
    | .ok pa s1 => s1.bitmapRead pa
    | .flt _ s1 => (false, s1)

/-- The load barrier for a loader outside the pairs (R87, R88). -/
def State.dispBarrier (s : State) (ttbc : Nat) (c : Cap) : Cap × State :=
  match s.dispRevoked ttbc c with
  | (true, s1) => (c.untag, s1.bump Addr.ECL_CNT_LBCLR)
  | (false, s1) => (c, s1)

/-- Does a table entry keep R251? -/
def taskEntryOk (tsb : Cap) (ctl : Nat) : Bool :=
  tsb.tag && tsb.otype == 0 && !tsb.malformed && tsb.hasAll [permLD, permST, permLC, permSC, permSL]
    && tsb.addr % 64 == 0 && decide (tsb.base ≤ tsb.addr) && decide (tsb.addr + 2048 ≤ tsb.top)
    && bitsAt ctl 1 3 == 0 && bitsAt ctl 15 49 == 0
    && (decide (bitsAt ctl 8 7 ≤ 95) || bitsAt ctl 8 7 == 0x7F)

/-- A task table entry read from memory (R251, R252): none where it names no task. The flag says that it breaks R251. -/
def State.readTask (s : State) (t : Nat) : Option TaskEntry × Bool × State :=
  let pa := (s.rd Addr.EVD_TASKTAB).toNat + 32 * t
  if 0x20000000000 < pa + 32 then (none, true, s)
  else
    let s1 := s.dramEnter pa 32
    let ttbc := s1.numAt .dram (pa + 16) 8
    let ctl := s1.numAt .dram (pa + 24) 8
    let r := s1.dispBarrier ttbc (s1.capAt .dram pa)
    if !taskEntryOk r.1 ctl then (none, true, r.2)
    else if ctl % 2 = 0 then (none, false, r.2)
    else (some ⟨r.1, BitVec.ofNat 64 ttbc, true, bitsAt ctl 4 4, bitsAt ctl 8 7⟩, false, r.2)

/-- A task's entry: the cached one, else the one in memory, which is then cached (R252). -/
def State.task (s : State) (t : Nat) : Option TaskEntry × State :=
  match s.evd.tasks.find? (fun e => e.1 == t) with
  | some e => (e.2, s)
  | none =>
    let r := s.readTask t
    (r.1, { r.2.2 with evd := { r.2.2.evd with tasks := (t, r.1) :: r.2.2.evd.tasks } })

/-- The priority of a task; 0 when its entry names none. -/
def State.prioOf (s : State) (t : Nat) : Nat := ((s.task t).1.map (fun e => e.prio)).getD 0

/-- The entry whose TSB a task's bank uses: the one the bank was filled with, else the task's (R252). -/
def State.entryAt (s : State) (p b t : Nat) : Option TaskEntry × State :=
  match (s.bank p b).entry with
  | some e => (some e, s)
  | none => s.task t

/-- The priority of the context in a bank: its task's at the delivery in progress, else now (R252). -/
def State.bankPrio (s : State) (p b : Nat) : Nat :=
  match (s.bank p b).deliv.bind s.deliv with
  | some d => d.prio
  | none => s.prioOf ((s.bank p b).task.getD 0)

/-! ## Posts -/

/-- A post to a channel (R258). -/
def State.evdPost (s : State) (ch src : Nat) (payload : List Cap) (fault : Option (Nat × Nat))
    (buf : Option (Nat × Nat)) : State :=
  let s1 := s.bumpF (Addr.EVD_CHSTAT ch) 32 32
  let sl := s1.slot ch
  let mis := !(bitsAt sl 20 3 == src)
  let s2 := if mis then s1.setBit Addr.EVD_ERR 2 else s1
  let r := s2.task (bitsAt sl 0 16)
  let s3 := r.2
  if mis || !sl.testBit 23 || r.1.isNone || s3.fld (Addr.EVD_CHSTAT ch) 0 16 == 0xFFFF then
    (s3.freeBuf buf).countDrop ch
  else
    let n := s3.evdTick
    let s4 := n.2.setFld (Addr.EVD_CHSTAT ch) 0 16 (s3.fld (Addr.EVD_CHSTAT ch) 0 16 + 1)
    { s4 with evd := { s4.evd with posts := s4.evd.posts ++ [⟨ch, payload, fault, n.1, buf, s.clk⟩] } }

/-- A unit's notice post: the notice word of the channel, then the post (R259, SRC 2). -/
def State.unitPost (s : State) (ch : Nat) (word : Nat) : State :=
  let s1 := { s with evd := { s.evd with notice := smSet (always 0) s.evd.notice ch (BitVec.ofNat 64 word) } }
  s1.evdPost ch 2 [] none none

/-- A unit's notice through an `EVT` register of the common layout: CHAN in bits 11:0, EVEN in bit 15. -/
def State.evtPost (s : State) (reg word : Nat) : State :=
  if s.fld reg 15 1 == 1 then s.unitPost (s.fld reg 0 12) word else s

/-! ## Lazy accumulator state -/

/-- The checks of R195 on the interrupted c2. -/
def lazyOk (c2 : Cap) : Bool :=
  !c2.malformed && c2.tag && c2.otype == 0 && c2.hasAll [permLD, permST] && c2.addr % 16 == 0
    && decide (96 ≤ c2.addr) && decide (c2.base ≤ c2.addr - 96) && decide (c2.addr ≤ c2.top)

/-- The lazy-area capability that R195 forms below a stack capability. -/
def lazyCapOf (c2 : Cap) : Cap := mintCap 0x0006 0 (c2.addr - 96) c2.addr

/-- The accumulators as R197 lays them out: 96 bytes. -/
def lazyBytes (v : Pair) : List Byte :=
  natBytes 16 (v.acc 0).toNat ++ natBytes 16 (v.acc 1).toNat ++ natBytes 16 (v.acc 2).toNat
    ++ natBytes 16 (v.acc 3).toNat
    ++ natBytes 2 (bitsAt (v.acc 0).toNat 128 16) ++ natBytes 2 (bitsAt (v.acc 1).toNat 128 16)
    ++ natBytes 2 (bitsAt (v.acc 2).toNat 128 16) ++ natBytes 2 (bitsAt (v.acc 3).toNat 128 16)
    ++ List.replicate 24 0

/-- An accumulator read back from the lazy area. -/
def lazyAcc (bs : List Byte) (i : Nat) : AccWord :=
  BitVec.ofNat 144 (cellGet bs (16 * i) 16 + cellGet bs (64 + 2 * i) 2 * 2 ^ 128)

/-- The lazy save of R197, when the context has LAZY set. -/
def State.lazySave (s : State) (p b : Nat) : Res Unit :=
  let k := s.bank p b
  if !k.lazy then .ok () s
  else
    match checkAccess k.lazyCap k.lazyCap.addr 96 [permST] with
    | some c => .flt (fltA c 5 k.lazyCap.addr) s
    | none =>
      (planRange s (s.via p b) .store k.lazyCap.addr 96).bind (fun cs s1 =>
        let s2 := s1.writePieces cs (lazyBytes (s1.pair p))
        .ok () (s2.updBank p b (fun k => (k.stSet 3 1 0).stSet 4 1 1)))

/-- The lazy reload of R198, when the context has LZS set. -/
def State.lazyReload (s : State) (p b : Nat) : Res Unit :=
  let k := s.bank p b
  if !k.lzs then .ok () s
  else
    match checkAccess k.lazyCap k.lazyCap.addr 96 [permLD] with
    | some c => .flt (fltA c 5 k.lazyCap.addr) s
    | none =>
      (planRange s (s.via p b) .load k.lazyCap.addr 96).bind (fun cs s1 =>
        let r := s1.readPieces cs
        .ok () (r.2.updPair p (fun v =>
          (((v.setAcc 0 (lazyAcc r.1 0)).setAcc 1 (lazyAcc r.1 1)).setAcc 2 (lazyAcc r.1 2)).setAcc 3 (lazyAcc r.1 3))))

/-- c2 of a bank with its cursor raised by 96 (R198). -/
def raiseC2 (k : Bank) : Bank :=
  let c := k.reg 2
  k.setReg 2 (c.withAddr (addrOf ((c.addr : Int) + 96)) c.tag)

/-- The cursor of c2 of the recorded context goes back to its value before the entry (R198): at once in a resident bank,
at its fill in a spilled one. -/
def State.restoreC2 (s : State) (p : Nat) (prior : Option CtxRef) : State :=
  match prior with
  | some (.bank b) => s.updBank p b raiseC2
  | some (.spilled t) =>
    { s with evd := { s.evd with mid := s.evd.mid.map (fun m => if m.task == t then { m with fix := true } else m) } }
  | none => s

/-- The lazy state completed before a bank waits or is suspended (R199). -/
def State.lazyComplete (s : State) (p b : Nat) : Res Unit :=
  let k := s.bank p b
  if !(k.lazy || k.lzs) then .ok () s
  else
    (s.lazyReload p b).bind (fun _ s1 =>
      let s2 := s1.updBank p b (fun k => (k.stSet 3 1 0).stSet 4 1 0)
      .ok () (if k.gdepth = 0 then s2.restoreC2 p k.prior else s2))

/-- The reservation of R195 on the interrupted bank for an entry of bank `b`: c2 lowered, the lazy-area capability and
LAZY in the new context. None where a check fails. -/
def State.lazyReserve (s : State) (p old b : Nat) : Option State :=
  let c2 := (s.bank p old).reg 2
  if !lazyOk c2 then none
  else
    let s1 := s.updBank p old (fun k => k.setReg 2 (c2.withAddr (c2.addr - 96) c2.tag))
    some (s1.updBank p b (fun k => { (k.stSet 3 1 1).stSet 4 1 0 with lazyCap := lazyCapOf c2 }))

/-! ## Escalation and lockup -/

/-- The integers of a fault or escalation record in c28-c31 (R230). -/
structure Rec where
  cause : Nat
  detail : Nat
  slot : Nat
  impr : Bool
  shadow : Bool
  upper : Bool
  bank : Nat
  tsbn : Nat
  orig : Nat
  addr : Nat
  bundle : Nat
  reason : Nat
  chan : Option Nat
deriving DecidableEq, Repr

/-- c28-c31 of a record (R230). -/
def recRegs (r : Rec) : List Cap :=
  [ intCap (BitVec.ofNat 64 (r.cause % 256 + r.detail % 256 * 2 ^ 8 + r.slot % 4 * 2 ^ 16 + b2n r.impr * 2 ^ 18
      + b2n r.shadow * 2 ^ 19 + b2n r.upper * 2 ^ 20 + r.bank % 16 * 2 ^ 24 + r.tsbn % 65536 * 2 ^ 32
      + r.orig % 256 * 2 ^ 48)),
    intCap (BitVec.ofNat 64 r.addr),
    intCap (BitVec.ofNat 64 r.bundle),
    intCap (BitVec.ofNat 64 (r.reason % 256
      + (match r.chan with
         | none => 0
         | some c => c % 4096 * 2 ^ 8 + 2 ^ 20))) ]

/-- The record that c28-c31 of a posted fault spell (R230). -/
def recOf (cs : List Cap) : Rec :=
  let x := (cs.getD 0 nullCap).addr
  { cause := bitsAt x 0 8, detail := bitsAt x 8 8, slot := bitsAt x 16 2, impr := x.testBit 18, shadow := x.testBit 19,
    upper := x.testBit 20, bank := bitsAt x 24 4, tsbn := bitsAt x 32 16, orig := bitsAt x 48 8,
    addr := (cs.getD 1 nullCap).addr, bundle := (cs.getD 2 nullCap).addr, reason := 0, chan := none }

/-- A list of values written to c n, c (n+1) and on. -/
def Bank.setRegs (k : Bank) (n : Nat) : List Cap → Bank
  | [] => k
  | c :: cs => (k.setReg n c).setRegs (n + 1) cs

/-- The checks of R239 on `ESCC`. -/
def esccOk (c : Cap) : Bool :=
  !c.malformed && c.tag && (c.otype == 0 || c.otype == 0xFF01) && c.has permEX && c.addr % 4 == 0
    && decide (c.base ≤ c.addr) && decide (c.addr + 4 ≤ c.top)

/-- The checks of R239 on `ESSC`. -/
def esscOk (c : Cap) : Bool :=
  !c.malformed && c.tag && c.otype == 0 && c.hasAll [permLD, permST] && c.addr % 16 == 0

/-- The lockup or overstay bit of a pair: register and bit (R250). -/
def pairBit (r0 r1 p : Nat) : Nat × Nat := if p < 64 then (r0, p) else (r1, p - 64)

/-- The lockup of a pair (R241): it stops fetching, its bit is set (FAULT_N follows the bits, R242), and the health
sentinel gets a notice with the record; a lockup of pair 3 goes to pair 0; its tally operations are settled (R219). Its halt record is
the command HALT_RECORD. -/
def State.lockup (s : State) (p : Nat) (r : Rec) : State :=
  let a := pairBit Addr.EXC_LOCKUP0 Addr.EXC_LOCKUP1 p
  let s1 := s.setBit a.1 a.2
  let s2 := s1.updPair p (fun v =>
    { maskUpdate s.clk { flushShadow v with run := none } with
      halt := some .lockup, resv := none, selected := none, standby := none, lockRec := recRegs r })
  (s2.notify (if p = 99 then 0 else 3) 0x02 0 p ((recRegs r).headD nullCap).addr).haltSettle p

/-- Entry to escalation (R239): `over` is the context that the escalation's `RETE` resumes. -/
def State.escalate (s : State) (p : Nat) (prior : Option CtxRef) (esc : EscInfo) (r : Rec) : State :=
  let v := s.pair p
  if !(esccOk v.escc && esscOk v.essc) then s.lockup p r
  else
    let eb := escBank p
    let s1 := s.switchTo p (some eb)
    let s2 := s1.updBank p eb (fun k =>
      ({ k with pcc := v.escc.withOtype 0 true, status := 5, prior := prior, deliv := none, task := none,
                lazyCap := nullCap, gateLink := 0, ready := false, waitCd := none }.setReg 2 v.essc).setRegs 28 (recRegs r))
    let s3 := s2.updPair p (fun v => maskUpdate s.clk { v with esc := esc })
    s3.bump Addr.EXC_ESCCNT

/-- The running bank becomes PREEMPTED when another context is entered over it (R265). -/
def State.preempt (s : State) (p b : Nat) : State := s.updBank p b (fun k => { k with st := .preempted })

/-! ## Delivering a fault -/

/-- The record of a fault (R230). -/
def faultRec (s : State) (p b : Nat) (f : PFault) (slot : Nat) (impr : Bool) : Rec :=
  let k := s.bank p b
  { cause := f.cause, detail := f.detail, slot := slot, impr := impr, shadow := !(s.pair p).shadow.isEmpty,
    upper := f.upper, bank := b, tsbn := k.task.getD 0, orig := 0, addr := f.addr, bundle := k.pcc.addr,
    reason := 0, chan := none }

/-- Does an escalation of a pair wait for its running bank's tally statuses (R192, R206)? -/
def State.escBusy (s : State) (p : Nat) : Bool :=
  match (s.pair p).run with
  | some b => s.tallyBusy p b
  | none => false

/-- An escalation of a pair over whatever it runs (R239): the running context is preempted; one that is itself an escalation
puts the pair into lockup (R241). -/
def State.escalateRun (s : State) (p : Nat) (esc : EscInfo) (r : Rec) : State :=
  match (s.pair p).run with
  | none => s.escalate p none esc r
  | some b => if (s.bank p b).escd then s.lockup p r else (s.preempt p b).escalate p (some (.bank b)) esc r

/-- The fault word of a task (R229), or the fault that reading it raises. -/
def State.faultWord (s : State) (p : Nat) (e : TaskEntry) : Res Nat :=
  (planAccess s (spillVia p e.ttbc.toNat) .load false (addrOf ((e.tsb.addr : Int) + 0x5F8)) 8).bind (fun cs s1 =>
    let r := s1.readPieces cs
    .ok (bytesNat r.1) r.2)

/-- The bank that holds a task on some pair in suspension for a fault, if any: a handler that is itself suspended (R229). -/
def State.suspendedTask (s : State) (t : Nat) : Bool :=
  s.pairs.any (fun e => e.2.banks.any (fun x => x.2.task == some t && x.2.st == .suspended))

/-- Is any line of a run poisoned? -/
def anyPoison (s : State) (line : Nat) : Nat → Bool
  | 0 => false
  | n + 1 => smGet (always false) s.poison line || anyPoison s (line + 1) n

/-- The first poisoned line of the parts of an access, as a virtual address (R271). -/
def poisonAt (s : State) (ps : List Piece) : Option Nat :=
  (ps.flatMap (fun c =>
    if c.sp = .dram then
      ((List.range (linesIn c.pa c.len)).filter (fun i => smGet (always false) s.poison (c.pa / 64 + i))).map
        (fun i => if i = 0 then c.va else (c.va / 64 + i) * 64)
    else [])).head?

/-- The 16 descriptors in 256 bytes. -/
def regionOfBytes (bs : List Byte) : List (BitVec 128) :=
  (List.range 16).map (fun i => BitVec.ofNat 128 (cellGet bs (16 * i) 16))

/-- The region set of a task read for a switch (R270, R332); `TASKFMT` where a descriptor has a reserved bit set (R327). -/
def State.regionRead (s : State) (p : Nat) (e : TaskEntry) : Res (List (BitVec 128)) :=
  (planRange s (spillVia p e.ttbc.toNat) .load (addrOf ((e.tsb.addr : Int) + 0x400)) 256).bind (fun cs s1 =>
    let r := s1.readPieces cs
    match poisonAt r.2 cs with
    | some va => .flt (fltA 0x44 0 va) r.2
    | none =>
      let ds := regionOfBytes r.1
      .ok ds (if ds.any taskDescBad then r.2.setBit Addr.RCU_ERR 2 else r.2))

/-- The record of a failure for an entry, a spill or a fill (R230, R271): no syllable raises it, so `SLOT` is 0 and `BUNDLE` is
that of the running context (log 66). -/
def failRec (s : State) (p b t : Nat) (f : PFault) (chan : Option Nat) : Rec :=
  let bundle := match (s.pair p).run with
    | some r => (s.bank p r).pcc.addr
    | none => 0
  { cause := escalation, detail := 0, slot := 0, impr := false, shadow := false, upper := false, bank := b,
    tsbn := t, orig := 0, addr := f.addr, bundle := bundle, reason := f.cause, chan := chan }

/-- The return of a pair to a resident bank (R237, R263): its task's region set is read at the switch (R270, R332). A set that
cannot be read fails the return, which the escalation's `RETE` makes again (R271). -/
def State.resumeBank (s : State) (p o : Nat) : State :=
  match (s.bank p o).task with
  | none => s.switchTo p (some o)
  | some t =>
    let te := s.entryAt p o t
    match te.1 with
    | none => te.2.switchTo p (some o)
    | some e =>
      match te.2.regionRead p e with
      | .ok ds s1 => (s1.updBank p o (fun k => { k with region := ds })).switchTo p (some o)
      | .flt f s1 =>
        let s2 := (s1.setBit Addr.EVD_ERR 4).updPair p (fun v => { v with run := none })
        s2.escalate p none ⟨none, some (.bank o), none⟩ (failRec s2 p o t f none)

/-- A pair resumes a recorded context (R237, R240, R263): at once when it is resident, after its fill when spilled. -/
def State.resumeCtx (s : State) (p : Nat) (prior : Option CtxRef) : State :=
  match prior with
  | some (.bank o) => s.resumeBank p o
  | some (.spilled t) => (s.switchTo p none).updPair p (fun v => { v with returning := some t, stalled := false })
  | none => s.switchTo p none

/-- A bank is taken out of the recorded chain: the pair goes on with the context that it had interrupted, or idles (R264). -/
def State.leaveChain (s : State) (p b : Nat) (st : BankState) : State :=
  (s.updBank p b (fun k => { k with st := st, prior := none, ready := false })).resumeCtx p (s.bank p b).prior

/-- A fault of a bank of a ledger pair whose delivery fails: escalation over the faulting bank (R229, R231, R239). -/
def State.faultEscalate (s : State) (p b : Nat) (r : Rec) (reason orig : Nat) (chan : Option Nat) : State :=
  (s.updBank p b (fun k => { k with st := .preempted, ready := false, fault := none })).escalate p (some (.bank b))
    ⟨none, none, none⟩ { r with cause := escalation, detail := 0, reason := reason, orig := orig, chan := chan }

/-- A fault whose delivery fails after its bank was suspended (R229, R240): the escalation's `RETE` resumes the faulting bank,
whose own return then resumes what the pair runs now. -/
def State.faultOver (s : State) (p b : Nat) (r : Rec) (reason : Nat) (chan : Option Nat) : State :=
  let cur : Option CtxRef := (s.pair p).run.map (fun o => .bank o)
  let s1 := match (s.pair p).run with
    | some o => s.preempt p o
    | none => s
  (s1.updBank p b (fun k => { k with prior := cur })).faultEscalate p b r reason r.cause chan

/-- The delivery of a fault of a ledger bank to its fault channel (R229). -/
def State.faultPost (s : State) (p b : Nat) (r : Rec) : State :=
  match (s.bank p b).task with
  | none => s.faultEscalate p b r 0x40 r.cause none
  | some t =>
    let e := s.task t
    match e.1 with
    | none => e.2.faultEscalate p b r 0x40 r.cause none
    | some te =>
      match e.2.faultWord p (((s.bank p b).entry).getD te) with
      | .flt f s1 => s1.faultEscalate p b r f.cause r.cause none
      | .ok w s1 =>
        let ch := w % 4096
        let sl := s1.slot ch
        let handler := bitsAt sl 0 16
        if !w.testBit 12 || !sl.testBit 23 || !(bitsAt sl 20 3 == 3) then s1.faultEscalate p b r 0x40 r.cause (some ch)
        else if handler = t then s1.faultEscalate p b r 0x41 r.cause (some ch)
        else if s1.suspendedTask handler then s1.faultEscalate p b r 0x42 r.cause (some ch)
        else
          let s2 := (s1.evdPost ch 3 (recRegs r) (some (p, b)) none).updBank p b (fun k => { k with fault := some (ch, recRegs r) })
          s2.leaveChain p b .suspended

/-- A fault of the running bank of a pair (R229, R232, R241). A fault in an escalation context is a lockup. On a sentinel
every fault enters bank 1 at once. On a ledger pair the bank's lazy state is completed (R199) and the fault delivered. -/
def State.takeFault (s : State) (p b : Nat) (f : PFault) (slot : Nat) (impr : Bool) : State :=
  let r := faultRec s p b f slot impr
  let s0 := s.updPair p (fun v => { v with resv := none })
  if (s0.bank p b).escd then s0.lockup p r
  else if isSentinel p then
    (s0.preempt p b).escalate p (some (.bank b)) ⟨none, none, none⟩ r
  else
    let s1 := s0.updPair p flushShadow
    match s1.lazyComplete p b with
    | .flt g s2 => s2.faultEscalate p b { r with addr := g.addr } g.cause f.cause none
    | .ok _ s2 => s2.faultPost p b r

/-- ARITH at a resumption with `STATUS.APEND` set, before the first bundle (R192): its entry clears APEND. -/
def State.takeApend (s : State) (p b slot : Nat) : State :=
  (s.updBank p b (fun k => k.stSet 5 1 0)).takeFault p b (flt0 arith) slot true

end Sys2Proof.Machine
end

