-- ==== Sys2Proof/Machine/Evd.lean ====
section
/-!
DEFINITION. The event dispatch unit: choice of work, entry, resumption, spill, fill, ending and restarting
(R227, R229, R235-R240, R251-R280).
-/
namespace Sys2Proof.Machine

/-! ## Choosing work -/

/-- A pair that the unit may enter new work on: not halted and not disabled (R261). -/
def State.usable (s : State) (p : Nat) : Bool :=
  (s.pair p).halt.isNone && !(s.fld (Addr.EVD_PAIRCFG p) 8 1 == 1) && !(s.pair p).failed && !(s.pair p).stopped

/-- The pair reached by following ALT from p to a usable one, in at most `n` steps (R261). -/
def altPair (s : State) (p : Nat) : Nat → Option Nat
  | 0 => none
  | n + 1 =>
    if s.usable p then some p
    else
      let q := s.fld (Addr.EVD_PAIRCFG p) 0 7
      if q = p then none else altPair s q n

/-- The bank of a pair that holds a task, if any. -/
def Pair.bankOf (v : Pair) (t : Nat) : Option Nat :=
  (v.banks.find? (fun e => e.2.task == some t && !(e.2.st == .free))).map (fun e => e.1)

/-- The pair on which a task is resident. -/
def State.residentOn (s : State) (t : Nat) : Option Nat :=
  (s.pairs.find? (fun e => decide (e.1 < 96) && (e.2.bankOf t).isSome)).map (fun e => e.1)

/-- The priority that a pair runs at, plus one; 0 for an idle pair. -/
def State.runPrio (s : State) (p : Nat) : Nat :=
  match (s.pair p).run with
  | none => 0
  | some b => if (s.bank p b).task.isNone then 1 else s.bankPrio p b + 1

/-- The usable pair that runs the lowest priority, the lowest number among equals (R261). -/
def lowestPair (s : State) : List Nat → Option Nat
  | [] => none
  | p :: ps =>
    match lowestPair s ps with
    | none => if s.usable p then some p else none
    | some q => if s.usable p && decide (s.runPrio p ≤ s.runPrio q) then some p else some q

/-- The pair on which an event of a task is entered (R261): a floating task that is resident on a pair which takes no work
is redirected as one that is not resident (log 67). -/
def State.pairFor (s : State) (t : Nat) (e : TaskEntry) (fault : Option (Nat × Nat)) : Option Nat :=
  match fault with
  | some f => some f.1
  | none =>
    if e.pair = 0x7F then
      match s.residentOn t with
      | some p => if s.usable p then some p else lowestPair s (List.range 96)
      | none => lowestPair s (List.range 96)
    else altPair s e.pair 96

/-- Is an event of a task in progress (R262)? -/
def State.midEvent (s : State) (t : Nat) : Bool := s.evd.delivs.any (fun d => d.task == t)

/-- A piece of ready work for a pair: its priority, whether it is a re-dispatch, and its order. -/
structure Cand where
  prio : Nat
  redisp : Bool
  order : Nat
  what : Work
  chan : Option Nat
  task : Nat
deriving DecidableEq, Repr

/-- Does work a go before work b (R262, R277)? -/
def Cand.before (a b : Cand) : Bool :=
  decide (b.prio < a.prio)
    || (a.prio == b.prio && ((a.redisp && !b.redisp) || (a.redisp == b.redisp && decide (a.order < b.order))))

/-- The first of a list of work. -/
def bestCand : List Cand → Option Cand
  | [] => none
  | c :: cs =>
    match bestCand cs with
    | none => some c
    | some d => if c.before d then some c else some d

/-- A post as work for pair p, where its task is between events and is entered on p (R261, R262). -/
def postCand (s : State) (p : Nat) (x : Post) : Option Cand :=
  let t := bitsAt (s.slot x.chan) 0 16
  match (s.task t).1 with
  | none => none
  | some e =>
    if s.midEvent t || ((s.pair p).init && x.fault.isNone) then none
    else if s.pairFor t e x.fault = some p then some ⟨e.prio, false, x.at_, .event 0, some x.chan, t⟩
    else none

/-- A ready bank as work for its pair (R264). -/
def bankCand (s : State) (p : Nat) (b : Nat × Bank) : Option Cand :=
  if b.2.ready && (b.2.st == .waiting || b.2.st == .suspended) then
    some ⟨s.bankPrio p b.1, false, b.2.lastRun, .bank b.1, none, b.2.task.getD 0⟩
  else none

/-- Has a pair room for one more delivery record (R260)? -/
def State.recordRoom (s : State) (p : Nat) : Bool := decide ((s.evd.delivs.filter (fun d => d.pair == p)).length < 15)

/-- An event that is selected, whose bank has not been entered and that no pair now presents: after a halt, or where other work
took its place (R262, R277, R279). -/
def delivCand (s : State) (p : Nat) (d : Delivery) : Option Cand :=
  if d.accepted || d.entered || s.pairs.any (fun v => v.2.selected == some (.event d.id)) || ((s.pair p).init && d.fault.isNone && !(d.chan == 4096))
      || !(d.pair == p || s.recordRoom p) then none
  else if d.chan = 4096 then (if d.pair = p then some ⟨d.prio, false, d.at_, .event d.id, none, d.task⟩ else none)
  else
    match (s.task d.task).1 with
    | none => none
    | some e =>
      if s.pairFor d.task e d.fault = some p then some ⟨d.prio, d.redisp.isSome, d.at_, .event d.id, none, d.task⟩ else none

/-- The work that the unit presents to a pair next (R262). During a drain it selects no new event and re-dispatches none (R535):
only banks that are ready run on. -/
def State.nextWork (s : State) (p : Nat) : Option Cand :=
  let old := (s.pair p).banks.filterMap (bankCand s p)
  if s.pwr.trigger = 0 then
    bestCand ((if s.recordRoom p then s.evd.posts.filterMap (postCand s p) else [])
      ++ old ++ s.evd.delivs.filterMap (delivCand s p))
  else bestCand old

/-- The work that a pair presents now. -/
def State.selCand (s : State) (p : Nat) : Option Cand :=
  match (s.pair p).selected with
  | none => none
  | some (.bank b) => bankCand s p (b, s.bank p b)
  | some (.event id) => (s.deliv id).map (fun d => ⟨d.prio, d.redisp.isSome, d.at_, .event id, none, d.task⟩)

/-- Does an event wait that no pair can take (R261)? -/
def State.noPair (s : State) : Bool :=
  s.evd.posts.any (fun x =>
    let t := bitsAt (s.slot x.chan) 0 16
    match (s.task t).1 with
    | none => false
    | some e => !s.midEvent t && (s.pairFor t e x.fault).isNone)
  || s.evd.delivs.any (fun d =>
    !d.accepted && !d.entered && !(d.chan == 4096)
      && (match (s.task d.task).1 with
          | none => false
          | some e => (s.pairFor d.task e d.fault).isNone))

/-- The distance of a channel after the one last delivered, round robin (R262). -/
def chanDist (last ch : Nat) : Nat := (ch + 4096 - (last + 1) % 4096) % 4096

/-- The nearest channel of a list after the one last delivered. -/
def nearestChan (last : Nat) : List Nat → Option Nat
  | [] => none
  | c :: cs =>
    match nearestChan last cs with
    | none => some c
    | some d => if chanDist last c ≤ chanDist last d then some c else some d

/-- The channel last delivered of a task: the first search begins at channel 0 (R262; log 67). -/
def State.lastChan (s : State) (t : Nat) : Nat := smGet (always 0) s.evd.lastChan t + 4095

/-- The post of a task that a pair takes: from its channels in round robin, the earliest on the channel (R262). -/
def State.takePost (s : State) (p t : Nat) : Option Post :=
  let ps := s.evd.posts.filter (fun x => match postCand s p x with
    | some c => c.task == t
    | none => false)
  match nearestChan (s.lastChan t) (ps.map (fun x => x.chan)) with
  | none => none
  | some ch => ps.find? (fun x => x.chan == ch)

/-- The payload that a delivery places in c28 to c31 (R259). -/
def State.payloadFor (s : State) (x : Post) (src : Nat) : List Cap :=
  if src = 0 then
    [intCap (BitVec.ofNat 64 (x.chan + s.fld (Addr.EVD_CHSTAT x.chan) 0 16 * 65536)), nullCap, nullCap, nullCap]
  else if src = 2 then [intCap (smGet (always 0) s.evd.notice x.chan), nullCap, nullCap, nullCap]
  else x.payload

/-- Is a part of a region or entry fetch to be read from a task's bank entry: the entry of the resident bank, else the task's
(R252). -/
def State.entryFor (s : State) (p t : Nat) : Option TaskEntry × State :=
  match (s.pair p).bankOf t with
  | some b => s.entryAt p b t
  | none => s.task t

/-- The event-entry capability of a task, by index (R254, R235). -/
def State.entryCap (s : State) (p k : Nat) (e : TaskEntry) : Res Cap :=
  let v := spillVia p e.ttbc.toNat
  (planCap s v .load (addrOf ((e.tsb.addr : Int) + 0x500 + 16 * k))).bind (fun c s1 =>
    let r := s1.capLoad v true c
    .ok r.1 r.2)

/-- The task and, for an event, the entry index of a piece of work. -/
def State.workTask (s : State) (p : Nat) : Work → Nat × Option Nat
  | .bank b => ((s.bank p b).task.getD 0, none)
  | .event id => match s.deliv id with
    | none => (0, none)
    | some d => (d.task, some d.entry)

/-- The region set of selected work is read, and the entry capability of an event prefetched (R262, R270). -/
def State.preload (s : State) (p : Nat) (w : Work) : Res Standby :=
  let x := s.workTask p w
  let e := s.entryFor p x.1
  match e.1 with
  | none => .flt (flt0 capTag) e.2
  | some te =>
    (e.2.regionRead p te).bind (fun ds s1 =>
      match x.2 with
      | none => .ok ⟨w, ds, nullCap⟩ s1
      | some k => (s1.entryCap p k te).bind (fun c s2 => .ok ⟨w, ds, c⟩ s2))

/-- Work is presented to a pair: its standby set is loaded; one that cannot be read is read again at the switch (R270). -/
def State.present (s : State) (p : Nat) (w : Work) : State :=
  let s1 := s.updPair p (fun v => { v with selected := some w, standby := none, stalled := false })
  let s2 := match w with
    | .bank _ => s1
    | .event id => { s1 with evd := { s1.evd with
        delivs := s1.evd.delivs.map (fun (d : Delivery) => if d.id == id then { d with pair := p } else d) } }
  match s2.preload p w with
  | .ok x s3 => s3.updPair p (fun v => { v with standby := some x })
  | .flt _ s3 => s3

/-- The post selected: PEND falls, and its delivery record begins (R258, R260). -/
def State.selectPost (s : State) (p t prio : Nat) (x : Post) : State :=
  let sl := s.slot x.chan
  let n := s.evdTick
  let s1 := { n.2 with evd := { n.2.evd with
    posts := n.2.evd.posts.filter (fun y => !(y.at_ == x.at_)),
    lastChan := smSet (always 0) n.2.evd.lastChan t (x.chan + 1) } }
  let s2 := s1.setFld (Addr.EVD_CHSTAT x.chan) 0 16 (s1.fld (Addr.EVD_CHSTAT x.chan) 0 16 - 1)
  let d : Delivery :=
    { id := n.1, chan := x.chan, task := t, entry := bitsAt sl 16 4, payload := s2.payloadFor x (bitsAt sl 20 3),
      pair := p, fault := x.fault, prio := prio, accepted := false, filled := false, entered := false, at_ := x.at_,
      buf := x.buf, redisp := none, since := x.since }
  { s2 with evd := { s2.evd with delivs := s2.evd.delivs ++ [d] } }.present p (.event n.1)

/-- EVENT_SELECT (R262): the unit selects the first ready work of a pair that would preempt what it runs, in place of the work
that it presents there where that comes later. -/
def State.evdSelect (s : State) (p : Nat) : State :=
  if !(s.fld Addr.EVD_CTRL 0 1 == 1) || (s.pair p).halt.isSome || (s.pair p).returning.isSome then s
  else
    let s0 := if s.noPair then s.setBit Addr.EVD_ERR 6 else s
    match s0.nextWork p with
    | none => s0
    | some c =>
      let later := match s0.selCand p with
        | none => false
        | some x => !c.before x
      if decide (c.prio + 1 ≤ s0.runPrio p) || later then s0
      else
        match c.chan with
        | none => s0.present p c.what
        | some _ =>
          match s0.takePost p c.task with
          | none => s0
          | some x => (s0.task c.task).2.selectPost p c.task c.prio x

/-! ## When an entry may take place -/

/-- Is a pair between two runs of a `REPU`, which takes no event and no spill there (R167)? -/
def State.inRepu (s : State) (p : Nat) : Bool :=
  match (s.pair p).run with
  | some b => (s.bank p b).rep == 2
  | none => false

/-- Would ready work of a priority preempt what the pair runs: EVM and ESC clear and strictly higher priority, no ARITH and no
pass before it, and no `REPU` in progress (R167, R228, R262)? -/
def State.preempts (s : State) (p prio : Nat) : Bool :=
  let v := s.pair p
  v.halt.isNone && !v.stopped && v.returning.isNone && !v.passReady
    && (match v.run with
        | none => true
        | some b => !(v.bank b).evm && !(v.bank b).escd && !s.inRepu p && !s.apendDue p b && decide (s.runPrio p < prio + 1))

/-- May it be entered: an entry also waits for the running bank's tally statuses (R192, R206). -/
def State.mayEnter (s : State) (p prio : Nat) : Bool := s.preempts p prio && !s.escBusy p

/-! ## Spill -/

/-- Is a bank the target of the pair's open window (R273)? -/
def Pair.window (v : Pair) (b : Nat) : Bool := v.bankw.getLsbD 8 && bitsAt v.bankw.toNat 0 4 == b && !(v.run == some b)

/-- May a bank be a spill victim (R265, R266, R273)? -/
def Pair.eligible (v : Pair) (e : Nat × Bank) : Bool :=
  decide (e.1 < 15) && (e.2.st == .preempted || e.2.st == .idle) && !v.window e.1 && !e.2.held

/-- The bank of a list that ran least recently. -/
def leastRecent : List (Nat × Bank) → Option Nat
  | [] => none
  | e :: es =>
    match leastRecent es with
    | none => some e.1
    | some b => match es.find? (fun x => x.1 == b) with
      | none => some e.1
      | some x => if e.2.lastRun ≤ x.2.lastRun then some e.1 else some b

/-- The victim of a pair (R266). -/
def Pair.victim (v : Pair) : Option Nat := leastRecent (v.banks.filter v.eligible)

/-- The lowest FREE bank of a pair, 0-14. -/
def Pair.freeBank (v : Pair) : Option Nat := (List.range 15).find? (fun b => (v.bank b).st == .free)

/-- How many of banks 0-14 are FREE. -/
def Pair.freeCount (v : Pair) : Nat := ((List.range 15).filter (fun b => (v.bank b).st == .free)).length

/-- The fields of a TSB in order: offset and contents, a capability or eight-byte words (R234). -/
def tsbSlots (k : Bank) (det : Bool) : List Cap :=
  let w (a b : Word) : Cap := ⟨b ++ a, false⟩
  let tagBit (i : Nat) : Nat := b2n (k.reg i).tag * 2 ^ i
  let tags := (List.range 32).foldl (fun a i => a + tagBit i) 0
    + b2n k.pcc.tag * 2 ^ 32 + b2n k.tsbc.tag * 2 ^ 33 + b2n k.lazyCap.tag * 2 ^ 34
  let status := BitVec.ofNat 64 (setBitsAt k.status.toNat 1 1 (b2n det))
  ((List.range 32).map k.reg)
    ++ [ w (BitVec.ofNat 64 tags) ((k.preds &&& 0xFE#8).setWidth 64), k.pcc, w status k.amode, w k.bkq k.lc, w k.ls k.le,
         k.tsbc ]
    ++ List.replicate 10 nullCap
    ++ [k.lazyCap, w k.ttbc 0, w k.gateLink 0]
    ++ List.replicate 13 nullCap

/-- A tag cleared by a sweep is counted (R90, R92, R362). -/
def State.swClr (s : State) : State :=
  let s1 := s.bump Addr.ECL_CNT_SWCLR
  { s1 with sweep := { s1.sweep with cleared := s1.sweep.cleared + 1 } }

/-- A bank with each revoked capability's tag cleared by the sweep of R92: `rev` says which are revoked. -/
def sweepRegsFrom (s : State) (p ttbc : Nat) (k : Bank) : List Nat → Bank × State
  | [] => (k, s)
  | n :: ns =>
    let c := k.reg n
    match s.revoked p ttbc c with
    | (true, s1) => sweepRegsFrom s1.swClr p ttbc (k.setReg n c.untag) ns
    | (false, s1) => sweepRegsFrom s1 p ttbc k ns

/-- One capability swept (R92). -/
def State.sweepCap (s : State) (p ttbc : Nat) (c : Cap) : Cap × State :=
  match s.revoked p ttbc c with
  | (true, s1) => (c.untag, s1.swClr)
  | (false, s1) => (c, s1)

/-- The sweep of a bank: c1-c31, `PCC`, `TSBC` and the lazy-area capability under the task's address space (R92). -/
def State.sweepBank (s : State) (p : Nat) (k : Bank) : Bank × State :=
  let t := k.ttbc.toNat
  let r := sweepRegsFrom s p t k ((List.range 31).map (· + 1))
  let c1 := r.2.sweepCap p t k.pcc
  let c2 := c1.2.sweepCap p t k.tsbc
  let c3 := c2.2.sweepCap p t k.lazyCap
  ({ r.1 with pcc := c1.1, tsbc := c2.1, lazyCap := c3.1 }, c3.2)

/-- The granules of a TSB planned for a spill: each slot as a store of its own value (R74, R267). -/
def planSlots (v : Via) (base : Nat) (s : State) : List (Nat × Cap) → Res (List Piece)
  | [] => .ok [] s
  | x :: xs =>
    (planCap s v (storeKind x.2) (addrOf ((base : Int) + x.1))).bind (fun c s1 =>
      (planSlots v base s1 xs).bind (fun cs s2 => .ok (c :: cs) s2))

/-- `CD` set for every planned slot. -/
def State.markCds (s : State) (p : Nat) : List Piece → State
  | [] => s
  | c :: cs => (s.markCd p c).markCds p cs

/-- The values of a list with their TSB offsets. -/
def withOffsets (off : Nat) : List Cap → List (Nat × Cap)
  | [] => []
  | c :: cs => (off, c) :: withOffsets (off + 16) cs

/-- A recorded context of a pair has a new place: every record of it follows, in the pair's banks, in its spilled contexts and
in the return that its escalation makes again (R263). -/
def State.renameCtx (s : State) (p : Nat) (old new : CtxRef) : State :=
  let swap (r : Option CtxRef) : Option CtxRef := if r = some old then some new else r
  let s1 := s.updPair p (fun v =>
    { v with banks := v.banks.map (fun e => (e.1, { e.2 with prior := swap e.2.prior })),
             esc := { v.esc with redo := swap v.esc.redo } })
  { s1 with evd := { s1.evd with mid := s1.evd.mid.map (fun m => if m.pair == p then { m with prior := swap m.prior } else m) } }

/-- A spill up to its release (R267): the TSB is translated and checked as a whole, then the bank is copied and FREE. -/
def State.spillBank (s : State) (p b : Nat) : Res Unit :=
  let k := s.bank p b
  let v := spillVia p k.ttbc.toNat
  match checkAccess k.tsbc k.tsbc.addr 2048 [permST, permSC, permSL] with
  | some c => .flt (fltA c 0 k.tsbc.addr) s
  | none =>
    let slots := withOffsets 0 (tsbSlots k (s.pair p).det)
    (planSlots v k.tsbc.addr s (slots ++ [(0x5F0, nullCap)])).bind (fun cs s1 =>
      (planRange s1 v .store (addrOf ((k.tsbc.addr : Int) + 0x400)) 0x400).bind (fun _ s2 =>
        match poisonAt s2 cs with
        | some va => .flt (fltA 0x44 0 va) s2
        | none =>
          let t := k.task.getD 0
          let mid := k.st == .preempted
          let x : SpillBuf := ⟨k, t, mid, (s2.pair p).det, s2.bankPrio p b, cs.map (fun c => c.pa)⟩
          let s3 := (s2.markCds p cs).updPair p (fun v => { v.setBank b bankReset with spillBufs := v.spillBufs ++ [x] })
          let s4 := s3.renameCtx p (.bank b) (.spilled t)
          .ok () (if mid then { s4 with evd := { s4.evd with mid := s4.evd.mid ++ [⟨t, p, k.prior, k.deliv, false⟩] } } else s4)))

/-- The slots of a spill written (R72, R234). -/
def State.writeSlots (s : State) : List Cap → List Nat → State
  | c :: cs, pa :: pas => ((s.dramEnter pa 16).capWrite .dram pa c).writeSlots cs pas
  | _, _ => s

/-- The background write of a spill, with the sweep of R92, the dispatch word last (R267). -/
def State.spillWrite (s : State) (p : Nat) (x : SpillBuf) : State :=
  let r := s.sweepBank p x.bank
  let slots := tsbSlots r.1 x.det
  let word := b2n x.midEvent + x.prio * 16
  let s1 := r.2.writeSlots slots x.dst
  let pa := x.dst.getLastD 0
  let s2 := (s1.dramEnter pa 8).dataWrite .dram pa (natBytes 8 word)
  let s3 := s2.bump Addr.EVD_CNT_SPILL
  { s3 with evd := { s3.evd with spilled := smSet (always false) s3.evd.spilled x.task true } }

/-- SPILL_WRITE_COMPLETE (R267): the oldest released spill of a pair reaches memory. -/
def State.spillComplete (s : State) (p : Nat) : State :=
  match (s.pair p).spillBufs with
  | [] => s
  | x :: xs => (s.spillWrite p x).updPair p (fun v => { v with spillBufs := xs })

/-- Every released spill of a pair reaches memory, in order. -/
def State.spillDrain (s : State) (p : Nat) : Nat → State
  | 0 => s
  | n + 1 => (s.spillComplete p).spillDrain p n

/-- Every released spill of a task reaches memory, whichever pair released it (R268, R279). -/
def State.drainTask (s : State) (t : Nat) : State :=
  (s.pairs.map (fun e => e.1)).foldl (fun s p =>
    if (s.pair p).spillBufs.any (fun x => x.task == t) then s.spillDrain p (s.pair p).spillBufs.length else s) s

/-- The event that a pair has selected. -/
def State.selEvent (s : State) (p : Nat) : Option Delivery :=
  match (s.pair p).selected with
  | some (.event id) => s.deliv id
  | _ => none

/-- The channel of a record, where the delivery came from one. -/
def Delivery.chanOpt (d : Delivery) : Option Nat := if d.chan < 4096 then some d.chan else none

/-- The context that an escalation on a pair interrupts. -/
def State.curCtx (s : State) (p : Nat) : Option CtxRef := (s.pair p).run.map (fun b => .bank b)

/-- The running context of a pair is interrupted by an escalation. -/
def State.preemptRun (s : State) (p : Nat) : State :=
  match (s.pair p).run with
  | some b => s.preempt p b
  | none => s

/-- The delivery of a selected event fails (R240): an event is no longer in progress (R257), and the escalation's `RETE` drops
it; of a fault, the `RETE` resumes the faulting bank, and the record is that fault's where `own` says so (R229, R230). -/
def State.failDelivery (s : State) (p : Nat) (d : Delivery) (r : Rec) (own : Bool) (held : Option (Nat × Nat)) : State :=
  let s1 := s.updPair p (fun v => { v with selected := none, standby := none })
  match d.fault with
  | some (_, b) =>
    let f := recOf d.payload
    let s2 := (s1.dropDeliv d.id).faultOver p b (if own then f else { r with cause := 0 }) r.reason r.chan
    s2.updPair p (fun v => { v with esc := { v.esc with held := held } })
  | none =>
    ((s1.putDeliv { d with entered := true, accepted := true }).slotSync d.chan).escalateRun p ⟨some d.id, none, held⟩ r

/-- A failed spill for an entry, a return or FREEMIN (R271): the victim stays, and is held until the escalation's `RETE`. A
return is made again by that `RETE`. -/
def State.spillFail (s : State) (p vp b : Nat) (f : PFault) : State :=
  let t := (s.bank vp b).task.getD 0
  let s1 := (s.updBank vp b (fun k => { k with held := true })).setBit Addr.EVD_ERR 3
  let r := failRec s1 p b t f none
  match (s1.pair p).returning with
  | some rt =>
    (s1.updPair p (fun v => { v with returning := none })).escalate p none ⟨none, some (.spilled rt), some (vp, b)⟩ r
  | none =>
    match s1.selEvent p with
    | some d => if s1.mayEnter p d.prio then s1.failDelivery p d { r with chan := d.chanOpt } false (some (vp, b))
      else s1.escalateRun p ⟨none, none, some (vp, b)⟩ r
    | none => s1.escalateRun p ⟨none, none, some (vp, b)⟩ r

/-- A spill of bank b of pair vp for pair p (R267, R271): a failure waits for the tally statuses of the context that its
escalation interrupts (R192). -/
def State.trySpill (s : State) (p vp b : Nat) : State :=
  match s.spillBank vp b with
  | .ok _ s1 => s1
  | .flt f s1 => if s.escBusy p then s else s1.spillFail p vp b f

/-- Does pair p wait for a FREE bank: an event accepted for a task that is not resident on it, or a return to fill (R263,
R266)? -/
def State.needsBank (s : State) (p : Nat) : Bool :=
  (match s.selEvent p with
   | some d => s.mayEnter p d.prio && ((s.pair p).bankOf d.task).isNone
   | none => false)
  || (s.pair p).returning.isSome

/-- A selected event of another pair waits for a task that is IDLE on pair p, and no window pins its bank (R261, R273, R279):
that bank and that pair. -/
def State.wantedElsewhere (s : State) (p : Nat) : Option (Nat × Nat) :=
  (s.pairs.filterMap (fun e =>
    match s.selEvent e.1 with
    | some d =>
      if e.1 = p then none
      else match (s.pair p).bankOf d.task with
        | some b => if (s.bank p b).st = .idle && !(s.pair p).window b && !(s.bank p b).held then some (b, e.1) else none
        | none => none
    | none => none)).head?

/-- SPILL (R266, R267): a bank that another pair's event needs, else the victim that an entry of this pair needs. A halted pair
starts no spill (R276), and none is taken between the runs of a `REPU` (R167). -/
def State.spill (s : State) (p : Nat) : State :=
  if (s.pair p).halt.isSome || s.inRepu p then s
  else
    match s.wantedElsewhere p with
    | some (b, q) => s.trySpill q p b
    | none =>
      if s.needsBank p && (s.pair p).freeBank.isNone then
        match (s.pair p).victim with
        | none =>
          if (s.pair p).stalled then s
          else (s.bump Addr.EVD_CNT_STALL).updPair p (fun v => { v with stalled := true })
        | some b => s.trySpill p p b
      else s

/-- BACKGROUND_SPILL (R266): the least recently run eligible bank when fewer than FREEMIN banks are FREE. -/
def State.backSpill (s : State) (p : Nat) : State :=
  if s.fld Addr.EVD_SPILLCFG 0 3 ≤ (s.pair p).freeCount || (s.pair p).halt.isSome || s.inRepu p then s
  else
    match (s.pair p).victim with
    | none => s
    | some b => s.trySpill p p b

/-! ## Fill -/

/-- The granules of a fill read as capability loads (R73, R87, R268). -/
def State.fillCaps (s : State) (v : Via) : List Piece → List Cap × State
  | [] => ([], s)
  | c :: cs =>
    let r := s.capLoad v true c
    let rs := r.2.fillCaps v cs
    (r.1 :: rs.1, rs.2)

/-- Granules planned as capability loads, in order. -/
def planLoads (v : Via) (base : Nat) (s : State) : List Nat → Res (List Piece)
  | [] => .ok [] s
  | o :: os =>
    (planCap s v .load (addrOf ((base : Int) + o))).bind (fun c s1 =>
      (planLoads v base s1 os).bind (fun cs s2 => .ok (c :: cs) s2))

/-- A word of a list of granules. -/
def capWord (cs : List Cap) (i : Nat) (hi : Bool) : Word :=
  let c := (cs.getD i nullCap).bits
  if hi then (c >>> 64).setWidth 64 else c.setWidth 64

/-- The bank that a TSB image gives (R234, R268). For an image that software wrote with BKQ 0, which R178 never allows in a bank,
the bank holds 1; a reserved `AMODE.RM` is kept: the spec states neither (DESIGN CHOICE, log 74). -/
def bankOfImage (cs : List Cap) (e : TaskEntry) (t : Nat) : Bank :=
  let bkq := capWord cs 35 false
  { bankReset with
    regs := (bankReset.setRegs 0 (cs.take 32)).regs,
    preds := (capWord cs 32 true).setWidth 8 &&& 0xFE#8,
    pcc := cs.getD 33 nullCap,
    status := capWord cs 34 false &&& 0xFFFFFFFFFF00FFFD#64,
    amode := capWord cs 34 true &&& 0x1F1F#64,
    bkq := if bkq = 0 then 1 else bkq,
    lc := capWord cs 35 true, ls := capWord cs 36 false, le := capWord cs 36 true,
    tsbc := e.tsb, lazyCap := cs.getD 48 nullCap, ttbc := capWord cs 49 false, gateLink := capWord cs 50 false,
    task := some t }

/-- The image of a task read from its TSB, or the fault that the fill raises (R268, R271). The dispatch word is read with it;
the unit's own record says whether the fill enters an event or resumes (log 68). -/
def State.fillImage (s : State) (p t : Nat) (e : TaskEntry) : Res Bank :=
  let v := spillVia p e.ttbc.toNat
  (planLoads v e.tsb.addr s ((List.range 64).map (16 * ·) ++ [0x5F0])).bind (fun cs s1 =>
    let r := s1.fillCaps v cs
    match poisonAt r.2 cs with
    | some va => .flt (fltA 0x44 0 va) r.2
    | none =>
      let k := bankOfImage (r.1.take 64) e t
      let sw := r.2.sweepBank p k
      (sw.2.regionRead p e).bind (fun ds s2 => .ok { sw.1 with region := ds } s2))

/-- A failed fill of a selected event or of a return (R271). -/
def State.fillFail (s : State) (p b t : Nat) (f : PFault) : State :=
  let s1 := s.setBit Addr.EVD_ERR 4
  match (s1.pair p).returning with
  | some rt =>
    let s2 := s1.updPair p (fun v => { v with returning := none })
    s2.escalate p none ⟨none, some (.spilled rt), none⟩ (failRec s2 p b rt f none)
  | none =>
    match s1.selEvent p with
    | some d => s1.failDelivery p d (failRec s1 p b t f d.chanOpt) false none
    | none => s1

/-- The task that a pair's fill is for: a return first, else its accepted event (R263, R268). -/
def State.fillTask (s : State) (p : Nat) : Option Nat :=
  match (s.pair p).returning with
  | some t => some t
  | none =>
    match s.selEvent p with
    | some d =>
      if s.mayEnter p d.prio && ((s.pair p).bankOf d.task).isNone && (s.residentOn d.task).isNone then some d.task else none
    | none => none

/-- The kept context of a spilled task is taken back. -/
def State.takeMid (s : State) (t : Nat) : Option MidCtx × State :=
  (s.evd.mid.find? (fun m => m.task == t),
   { s with evd := { s.evd with mid := s.evd.mid.filter (fun m => !(m.task == t)) } })

/-- A filled bank takes its place: IDLE for an event entry, running for a return to a spilled context (R263, R268). -/
def State.fillDone (s : State) (p b t : Nat) (k : Bank) : State :=
  let s1 := (s.bump Addr.EVD_CNT_FILL)
  let s2 := { s1 with evd := { s1.evd with spilled := smSet (always false) s1.evd.spilled t false } }
  match (s2.pair p).returning with
  | none =>
    let s3 := s2.setBank p b { k with st := .idle }
    match s3.selEvent p with
    | none => s3
    | some d => s3.putDeliv { d with filled := true }
  | some _ =>
    let m := s2.takeMid t
    let k1 := if (m.1.map (fun x => x.fix)).getD false then raiseC2 k else k
    let k2 := { k1 with prior := (m.1.map (fun x => x.prior)).getD none, deliv := (m.1.map (fun x => x.deliv)).getD none }
    let s3 := (m.2.setBank p b k2).renameCtx p (.spilled t) (.bank b)
    (s3.updPair p (fun v => { v with returning := none, stalled := false })).switchTo p (some b)

/-- FILL (R268): a FREE bank is filled for a pair's accepted event or its return, after every earlier spill of the task. -/
def State.fill (s : State) (p : Nat) : State :=
  if (s.pair p).halt.isSome then s
  else
    match s.fillTask p with
    | none => s
    | some t =>
      match (s.pair p).freeBank with
      | none => s
      | some b =>
        let e := (s.drainTask t).task t
        match e.1 with
        | none => if s.escBusy p then s else (e.2.setBit Addr.EVD_ERR 5).fillFail p b t (flt0 capTag)
        | some te =>
          match e.2.fillImage p t te with
          | .flt f s1 => if s.escBusy p then s else s1.fillFail p b t f
          | .ok k s1 => s1.fillDone p b t k

/-! ## Entry and resumption -/

/-- The checks of R235 on an event-entry capability; a malformed one fails its first use (R38). -/
def entryCheck (c : Cap) : Option Nat :=
  if c.malformed then some capMalformed
  else if !c.tag then some capTag
  else if !(c.otype == 0xFF04) then some capSeal
  else if !c.hasAll [permIV, permEX] then some capPerm
  else if !(c.addr % 4 == 0) then some align
  else if c.addr < c.base || c.top < c.addr + 4 then some capBounds
  else none

/-- The re-dispatch word in c31 of a re-entry (R277). -/
def Delivery.regs (d : Delivery) : List Cap :=
  match d.redisp with
  | none => d.payload
  | some w => d.payload.take 3 ++ List.replicate (3 - (d.payload.take 3).length) nullCap ++ [wideCap w]

/-- The handler's bank starts (R235): the entry capability, the payload and a fresh `STATUS`. -/
def startBank (k : Bank) (entry : Cap) (d : Delivery) (payload : List Cap) (prior : Option CtxRef)
    (region : List (BitVec 128)) : Bank :=
  { ((k.setReg 28 nullCap).setReg 29 nullCap |>.setReg 30 nullCap |>.setReg 31 nullCap).setRegs 28 payload with
    pcc := entry.withOtype 0 true, status := 0, prior := prior, deliv := some d.id, region := region, lazyCap := nullCap,
    gateLink := 0, ready := false, fault := none }

/-- The load barrier on each capability of a payload, under the handler's translation (R87). -/
def State.barrierAll (s : State) (p ttbc : Nat) : List Cap → List Cap × State
  | [] => ([], s)
  | c :: cs =>
    let r := s.barrier p ttbc c
    let rs := r.2.barrierAll p ttbc cs
    (r.1 :: rs.1, rs.2)

/-- The interrupted context's lazy reservation for an entry into bank b, if a context is interrupted (R195, R263). -/
def State.reserveFor (s : State) (p b : Nat) : Option State :=
  match (s.pair p).run with
  | none => some (s.updBank p b (fun k => (k.stSet 3 1 0).stSet 4 1 0))
  | some o => s.lazyReserve p o b

/-- The entry of a selected event once its region set and entry capability are at hand (R195, R235). -/
def State.enterEvent (s : State) (p b : Nat) (d : Delivery) (x : Standby) : State :=
  let prior := s.curCtx p
  let pay := s.barrierAll p (s.bank p b).ttbc.toNat d.regs
  let s1 := (pay.2.updPair p flushShadow).updBank p b (fun k => startBank k x.entry d pay.1 prior x.region)
  match s1.reserveFor p b with
  | none => s.failDelivery p d (failRec s p b d.task (flt0 lazyStack) d.chanOpt) true none
  | some s2 =>
    match entryCheck x.entry with
    | some c => s.failDelivery p d (failRec s p b d.task (flt0 c) d.chanOpt) true none
    | none =>
      let s3 := (s2.preemptRun p).switchTo p (some b)
      let s4 := s3.updPair p (fun v => { v with selected := none, standby := none })
      let s5 := s4.putDeliv { d with pair := p, accepted := true }
      if d.filled then s5 else s5.bump Addr.EVD_CNT_RES

/-- EVENT_ENTRY (R235): the pair switches to the handler's resident bank. -/
def State.evdEntry (s : State) (p : Nat) : State :=
  match s.selEvent p with
  | none => s
  | some d =>
    match (s.pair p).bankOf d.task with
    | none => s
    | some b =>
      if !((s.bank p b).st = .idle) || !s.mayEnter p d.prio then s
      else
        let ready := match (s.pair p).standby with
          | some x => if x.work = Work.event d.id then some x else none
          | none => none
        match ready with
        | some x => s.enterEvent p b d x
        | none =>
          let te := s.entryAt p b d.task
          match te.1 with
          | none => (te.2.setBit Addr.EVD_ERR 5).failDelivery p d (failRec te.2 p b d.task (flt0 capTag) d.chanOpt) false none
          | some e =>
            match te.2.regionRead p e with
            | .flt f s1 => (s1.setBit Addr.EVD_ERR 4).failDelivery p d (failRec s1 p b d.task f d.chanOpt) false none
            | .ok ds s1 =>
              match s1.entryCap p d.entry e with
              | .flt f s2 => s2.failDelivery p d (failRec s2 p b d.task f d.chanOpt) true none
              | .ok entry s2 => s2.enterEvent p b d ⟨.event d.id, ds, entry⟩

/-- The handler's first bundle issues: its delivery is no longer in progress (R257). -/
def State.firstBundle (s : State) (p b : Nat) : State :=
  match (s.bank p b).deliv with
  | none => s
  | some id =>
    match s.deliv id with
    | none => s
    | some d => if d.entered then s else (s.putDeliv { d with entered := true }).slotSync d.chan

/-- The resumption of a ready bank once its region set is at hand (R195, R264). -/
def State.enterBank (s : State) (p b : Nat) (ds : List (BitVec 128)) : State :=
  let prior := s.curCtx p
  let done (x : State) : State := x.updPair p (fun v => { v with selected := none, standby := none })
  match (s.updPair p flushShadow).reserveFor p b with
  | none =>
    (done s).escalateRun p ⟨none, none, none⟩ (failRec s p b ((s.bank p b).task.getD 0) (flt0 lazyStack) none)
  | some s1 =>
    let s2 := s1.updBank p b (fun k => { k with prior := prior, region := ds, ready := false, waitCd := none, fault := none })
    (done ((s2.preemptRun p).switchTo p (some b))).bump Addr.EVD_CNT_RES

/-- BANK_RESUMPTION (R264): a ready bank that the unit selected is entered again. -/
def State.evdResume (s : State) (p : Nat) : State :=
  match (s.pair p).selected with
  | some (.bank b) =>
    let t := (s.bank p b).task.getD 0
    if !(s.bank p b).ready || !s.mayEnter p (s.bankPrio p b) then s
    else
      let ready := match (s.pair p).standby with
        | some x => if x.work = Work.bank b then some x else none
        | none => none
      match ready with
      | some x => s.enterBank p b x.region
      | none =>
        let te := s.entryAt p b t
        match te.1 with
        | none => s
        | some e =>
          match te.2.regionRead p e with
          | .ok ds s1 => s1.enterBank p b ds
          | .flt f s1 =>
            let s2 := (s1.setBit Addr.EVD_ERR 4).updPair p (fun v => { v with selected := none, standby := none })
            s2.escalateRun p ⟨none, none, none⟩ (failRec s2 p b t f none)
  | _ => s

/-- Is enabled work due at the pair's bundle boundary (R228): one that may preempt, and that has a bank to enter or can get one?
An event that stalls for a bank does not hold the running context (log 69). -/
def State.entryDue (s : State) (p : Nat) : Bool :=
  match (s.pair p).selected with
  | none => false
  | some (.bank b) => (s.bank p b).ready && s.preempts p (s.bankPrio p b)
  | some (.event id) =>
    match s.deliv id with
    | none => false
    | some d =>
      s.preempts p d.prio
        && (match (s.pair p).bankOf d.task with
            | some b => (s.bank p b).st == .idle
            | none =>
              ((s.pair p).freeBank.isSome || (s.pair p).victim.isSome)
                && (match s.residentOn d.task with
                    | none => true
                    | some q => match (s.pair q).bankOf d.task with
                      | none => true
                      | some b => (s.pair q).halt.isNone && (s.bank q b).st == .idle && !(s.pair q).window b))

/-- May an event be presented to the pair while a syllable that keeps progress runs (R83, R156, R175)? -/
def State.eventMayCome (s : State) (p : Nat) : Bool :=
  s.fld Addr.EVD_CTRL 0 1 == 1
    && (match s.nextWork p with
        | none => false
        | some c => s.preempts p c.prio)

/-- A waiting bank receives its result: the value goes to its cd, and the bank is ready (R170, R264). A sentinel pair was held
and goes on (R368). -/
def State.wake (s : State) (p b : Nat) (c : Cap) : State :=
  let k := s.bank p b
  if !(k.st = .waiting) then s
  else if isSentinel p then
    s.updBank p b (fun k => { (match k.waitCd with
        | some cd => k.setReg cd c
        | none => k) with st := .running, waitCd := none })
  else
    let n := s.evdTick
    n.2.updBank p b (fun k => { (match k.waitCd with
        | some cd => k.setReg cd c
        | none => k) with ready := true, lastRun := n.1 })

/-- The faulting bank is ready again once the `RETE` of its fault event has run (R232). -/
def State.faultEnded (s : State) (fault : Option (Nat × Nat)) : State :=
  match fault with
  | none => s
  | some (p, b) =>
    if (s.bank p b).st = .suspended then
      let n := s.evdTick
      n.2.updBank p b (fun k => { k with ready := true, lastRun := n.1 })
    else s

/-! ## Return -/

/-- What `RETE` clears in the handler's bank (R237): the tags of c28-c31 and of every local capability in c1-c27. -/
def reteClear (k : Bank) : Bank :=
  (List.range 32).foldl (fun k n =>
    let c := k.reg n
    if 28 ≤ n || !c.has permGL then k.setReg n c.untag else k) k

/-- The effect of `RETE` in an event's bank once no fault is raised (R237, R240, R260, R275). -/
def State.rete (s : State) (p b : Nat) : State :=
  let k := s.bank p b
  let s1 := if k.lazy || k.lzs then s.restoreC2 p k.prior else s
  let s2 := s1.updBank p b (fun k =>
    let k1 := reteClear k
    { (k1.stSet 3 1 0).stSet 4 1 0 with
      st := if b = escBank p then .free else .idle, prior := none, deliv := none })
  let s3 := if b = escBank p then s2.updBank p b (fun k => k.stSet 2 1 0) else s2
  let s4 := match k.deliv with
    | none => s3
    | some id =>
      match s3.deliv id with
      | none => s3
      | some d => ((if d.chan = 4096 then s3.updPair p (fun v => { v with init := false }) else s3).dropDeliv id).faultEnded
          d.fault
  if b = escBank p then
    let info := (s4.pair p).esc
    let s5 := match info.dropDeliv with
      | none => s4
      | some id =>
        match s4.deliv id with
        | none => s4
        | some d => (s4.countDrop d.chan).dropDeliv id
    let s6 := s5.updPair p (fun v => { v with esc := ⟨none, none, none⟩ })
    let s7 := match info.held with
      | none => s6
      | some (q, o) => s6.updBank q o (fun k => { k with held := false })
    s7.resumeCtx p (if info.redo.isSome then info.redo else k.prior)
  else s4.resumeCtx p k.prior

/-! ## Supervision and commands -/

/-- MASK_OVERSTAY (R227): the mask timer reaches its limit. -/
def State.maskOverstay (s : State) (p : Nat) : State :=
  let v := s.pair p
  match v.maskFrom with
  | none => s
  | some _ =>
    if v.maskNoted then s
    else
      let a := pairBit Addr.EXC_OVERSTAY0 Addr.EXC_OVERSTAY1 p
      let b := v.run.getD 0
      let t := (v.bank b).task.getD 0
      ((s.setBit a.1 a.2).notify 3 0x01 0 p (b + t * 65536)).updPair p (fun v => { v with maskNoted := true })

/-- A fault event that has not been accepted goes: its post, with PEND, or its delivery record, with the selection (R229). -/
def State.dropFault (s : State) (p b : Nat) : State :=
  let hit (f : Option (Nat × Nat)) : Bool := f == some (p, b)
  let s1 := match s.evd.posts.find? (fun x => hit x.fault) with
    | none => s
    | some x =>
      { s with evd := { s.evd with posts := s.evd.posts.filter (fun y => !(y.at_ == x.at_)) } }.setFld (Addr.EVD_CHSTAT x.chan) 0 16
        (s.fld (Addr.EVD_CHSTAT x.chan) 0 16 - 1)
  match s1.evd.delivs.find? (fun d => hit d.fault && !d.accepted) with
  | none => s1
  | some d =>
    (s1.dropDeliv d.id).updPair p (fun v =>
      if v.selected = some (.event d.id) then { v with selected := none, standby := none } else v)

/-- FAULT_TIMEOUT (R229): the fault of a suspended bank has not been entered within its limit. It waits while an escalation
runs, a return is being filled or a tally status is out (log 69). -/
def State.faultTimeout (s : State) (p b : Nat) : State :=
  let k := s.bank p b
  let busy := (match (s.pair p).run with
    | some o => (s.bank p o).escd
    | none => false) || (s.pair p).returning.isSome || s.escBusy p
  if !(k.st = .suspended) || k.ready || busy || (s.pair p).halt.isSome
      || s.evd.delivs.any (fun d => d.fault == some (p, b) && d.accepted) then s
  else
    match k.fault with
    | none => s
    | some (ch, pay) => (s.dropFault p b).faultOver p b (recOf pay) 0x43 (some ch)

/-- `EVD_STATUS.LASTCMD` takes a result, and the command has completed. -/
def State.evdLast (s : State) (r : Nat) : State := (s.setFld Addr.EVD_STATUS 1 2 r).setFld Addr.EVD_STATUS 0 1 0

/-- INVTASK (R252, R255): the entry is read again and applies; the task is recorded as spilled or not. -/
def State.invTask (s : State) (t : Nat) : State :=
  let r := s.readTask t
  let s1 := { r.2.2 with evd := { r.2.2.evd with
    tasks := (t, r.1) :: r.2.2.evd.tasks.filter (fun e => !(e.1 == t)) } }
  let s2 := if r.2.1 then s1.setBit Addr.EVD_ERR 5 else s1
  let rec' := match r.1 with
    | none => false
    | some _ => (s2.residentOn t).isNone
  let s3 := { s2 with evd := { s2.evd with spilled := smSet (always false) s2.evd.spilled t rec' } }
  s3.evdLast 0

/-- Every delivery record of a task goes, and no pair presents it (R274). -/
def State.dropTask (s : State) (t : Nat) : State :=
  let ids := (s.evd.delivs.filter (fun d => d.task == t)).map (fun d => d.id)
  let s1 := ids.foldl (fun s id => s.dropDeliv id) s
  { s1 with pairs := s1.pairs.map (fun (e : Nat × Pair) =>
      match e.2.selected with
      | some (.event id) => if ids.contains id then (e.1, { e.2 with selected := none, standby := none }) else e
      | _ => e) }

/-- END (R274): a suspended or idle task's bank is freed and its delivery record deleted. A bank that has become RUNNING at this
same time, and has executed nothing, gives ALREADY_COMPLETE (R279; log 70). -/
def State.evdEnd (s : State) (t : Nat) : State :=
  match s.residentOn t with
  | none => s.evdLast 1
  | some p =>
    match (s.pair p).bankOf t with
    | none => s.evdLast 1
    | some b =>
      let k := s.bank p b
      if k.st = .suspended || k.st = .idle then
        let s1 := (s.setBank p b bankReset).updPair p (fun v =>
          if v.selected = some (.bank b) then { v with selected := none, standby := none } else v)
        let clr (f : Option (Nat × Nat)) : Option (Nat × Nat) := if f = some (p, b) then none else f
        let s2 := { s1 with evd := { s1.evd with
          posts := s1.evd.posts.map (fun (x : Post) => { x with fault := clr x.fault }),
          delivs := s1.evd.delivs.map (fun (d : Delivery) => { d with fault := clr d.fault }) } }
        (s2.dropTask t).evdLast 0
      else if k.st = .running && (s.pair p).resumed && (s.pair p).ranAt == s.clk then s.evdLast 2
      else s.evdLast 1

/-- CLRCH (R280): DROPPED and POSTED of a channel clear, never PEND. -/
def State.clrCh (s : State) (ch : Nat) : State :=
  if 4096 ≤ ch then (s.wrerr Addr.EVD_CMD).evdLast 3
  else (s.wr (Addr.EVD_CHSTAT ch) (BitVec.ofNat 64 (s.fld (Addr.EVD_CHSTAT ch) 0 16))).evdLast 0

/-- CLRCNT (R280): the five dispatch counters clear. -/
def State.evdClrCnt (s : State) : State :=
  (((((s.wr Addr.EVD_CNT_RES 0).wr Addr.EVD_CNT_FILL 0).wr Addr.EVD_CNT_SPILL 0).wr Addr.EVD_CNT_STALL 0).wr
    Addr.EVD_CNT_REDISP 0).evdLast 0

/-- The init task's entry is selected on a pair (R275). -/
def State.initEntry (s : State) (p : Nat) (restart : Bool) : State :=
  let t := s.fld (Addr.EVD_PAIRCFG p) 16 16
  let n := s.evdTick
  let d : Delivery :=
    { id := n.1, chan := 4096, task := t, entry := 0, payload := [intCap (BitVec.ofNat 64 (p + b2n restart * 256))],
      pair := p, fault := none, prio := n.2.prioOf t, accepted := false, filled := false, entered := false, at_ := n.1,
      buf := none, redisp := none, since := s.clk }
  let s1 := { n.2 with evd := { n.2.evd with delivs := n.2.evd.delivs ++ [d] } }
  (s1.updPair p (fun v => { v with init := true })).present p (.event n.1)

/-- A pair takes its ready pending decode table, and its `MC_PEND` bit clears (R420). -/
def State.switchTable (s : State) (p : Nat) : State :=
  match (s.pair p).pendTable with
  | none => s
  | some t =>
    let s1 := s.updPair p (fun v => { v with table := t, pendTable := none })
    if p < 64 then s1.setFld Addr.MC_PEND0 p 1 0 else s1.setFld Addr.MC_PEND1 (p - 64) 1 0

/-- A halted pair starts again (R275): its banks are freed, its state cleared and its init task entered. -/
def State.restartPair (s : State) (p : Nat) : State :=
  let s1 := s.updPair p (fun v =>
    { pairCold with
      tlb := v.tlb, itlb := v.itlb, dtlb := v.dtlb, ibuf := v.ibuf, walkc := v.walkc, table := v.table, pendTable := v.pendTable, failed := v.failed, stopped := v.stopped,
      gen := v.gen })
  ((s1.switchTable p).initEntry p true).evdLast 0

/-- RESTART (R275) acts on a halted pair once its re-dispatch has been made: until then the command has not completed
(R276, R279). -/
def State.restart (s : State) (p : Nat) : State :=
  if 96 ≤ p then (s.wrerr Addr.EVD_CMD).evdLast 3
  else if (s.pair p).halt.isNone then s.evdLast 1
  else if (s.pair p).redispDone then s.restartPair p
  else (s.updPair p (fun v => { v with restartWait := true })).setBit Addr.EVD_STATUS 0

/-- The init task entry on every pair of a list that is not disabled (R275). -/
def State.initAll (s : State) : List Nat → State
  | [] => s
  | p :: ps => (if s.usable p then s.initEntry p false else s).initAll ps

/-- LOCK_POINT (R564): in CERTIFIED, RWL fields no longer change. -/
def State.lockPoint (s : State) : State := { s with locked := true }

/-- `EVD_CTRL.EN` goes from 0 to 1 (R275, R564). -/
def State.evdEnable (s : State) : State :=
  if s.fld Addr.EVD_CTRL 0 1 = 1 then s
  else ((s.setFld Addr.EVD_CTRL 0 1 1).lockPoint).initAll (List.range 96)

/-- A software post (R258): only SRC 0 slots take one. -/
def State.softPost (s : State) (ch : Nat) : State :=
  if bitsAt (s.slot ch) 20 3 = 0 then (s.evdPost ch 0 [] none none).evdLast 0 else s.evdLast 1

/-- LOCKUP_CLEAR (R242): bits of halted pairs stay and set `EXC_ERR.WRERR`; the others clear. -/
def State.lockupClear (s : State) (second : Bool) (mask : Nat) : State :=
  let a := if second then Addr.EXC_LOCKUP1 else Addr.EXC_LOCKUP0
  let base := if second then 64 else 0
  (List.range 64).foldl (fun s i =>
    if mask.testBit i && (s.rd a).toNat.testBit i then
      if (s.pair (base + i)).halt.isSome then s.setBit Addr.EXC_ERR 0 else s.setFld a i 1 0
    else s) s

/-! ## Re-dispatch -/

/-- Has every tally operation of a pair been settled (R219, R276)? -/
def State.tallySettled (s : State) (p : Nat) : Bool :=
  !(s.tally.transit.any (fun o => o.pair == p)) && !(s.tally.done.any (fun d => d.op.pair == p))
    && s.tally.chans.all (fun c => !(c.2.parked.any (fun o => o.pair == p))
      && !(c.2.entries.any (fun e => e.waiting.any (fun o => o.pair == p))))

/-- The re-dispatch word (R277). -/
def redispWord (p : Nat) (seq : Option Nat) (lockup ovf : Bool) : Wide :=
  BitVec.ofNat 128 (seq.getD 0 + 2 ^ 64 + b2n lockup * 2 ^ 65 + b2n ovf * 2 ^ 66 + b2n seq.isNone * 2 ^ 67 + p * 2 ^ 72)

/-- What a re-dispatch makes of the delivery records of a halted pair (R276, R277): accepted events carry the word and wait to
be entered again, events not yet accepted wait as they are, and a fault event in progress goes. -/
def redispDelivs (p : Nat) (w : Wide) (ds : List Delivery) : List Delivery :=
  (ds.filter (fun d => !(d.pair == p && d.chan == 4096))).map (fun d =>
    if d.pair == p && d.accepted then { d with redisp := some w, accepted := false, entered := false, filled := false } else d)

/-- REDISPATCH (R276): once settlement is complete and the record has its sequence, or cannot be appended, the banks of a
halted pair are discarded and its mid-event tasks are entered again elsewhere. -/
def State.redispatch (s : State) (p : Nat) : State :=
  match (s.pair p).halt, s.evd.redisp.find? (fun e => e.1 == p) with
  | some cause, some (_, seq) =>
    if !s.tallySettled p then s
    else
      let v := s.pair p
      let s0 := s.spillDrain p v.spillBufs.length
      let w := redispWord p seq (cause == .lockup) (s.unjList p).ovf
      -- the event of a failed entry is dropped (R240); fault events in progress are deleted
      let s1 := match v.esc.dropDeliv with
        | none => s0
        | some id => match s0.deliv id with
          | none => s0
          | some d => (s0.countDrop d.chan).dropDeliv id
      let gone := (s1.evd.delivs.filter (fun d => d.pair == p && d.fault.isSome)).map (fun d => d.id)
      let s2 := gone.foldl (fun s id => s.dropDeliv id) s1
      let n := (s2.evd.delivs.filter (fun d => d.pair == p && d.accepted && !(d.chan == 4096))).length
      -- a fault whose bank has gone is an event of its handler like any other (log 67)
      let s3 := { s2 with evd := { s2.evd with
        posts := s2.evd.posts.map (fun (x : Post) => if (x.fault.map (fun (f : Nat × Nat) => f.1)) = some p then { x with fault := none } else x),
        delivs := redispDelivs p w s2.evd.delivs,
        mid := s2.evd.mid.filter (fun m => !(m.pair == p)),
        redisp := s2.evd.redisp.filter (fun e => !(e.1 == p)) } }
      let s4 := s3.updPair p (fun v =>
        { v with banks := [], selected := none, standby := none, returning := none, esc := ⟨none, none, none⟩,
                 gen := v.gen + 1, redispDone := true })
      let s5 := s4.setUnj p ⟨[], false⟩
      let s6 := (List.range n).foldl (fun s _ => s.bump Addr.EVD_CNT_REDISP) s5
      if v.restartWait then s6.restartPair p else s6
  | _, _ => s

/-- DIVERGENCE (R276, R282, R545): the checker halts a pair; a sentinel pair takes the lockup path. In BLANK `CHK_TEST` disables
the comparison (R544). -/
def State.diverge (s : State) (p : Nat) : State :=
  let v := s.pair p
  if v.halt.isSome || v.failed || (s.fld Addr.FC_CTRL 1 1 == 1 && s.fld Addr.SEC_LC 0 3 == 0) then s
  else if isSentinel p then
    if v.started then s.lockup p ⟨0, 0, 0, false, false, false, v.run.getD 0, 0, 0, 0, 0, 0, none⟩ else s
  else
    ((s.updPair p (fun v =>
      { maskUpdate s.clk { flushShadow v with run := none } with
        halt := some .divergence, resv := none, selected := none, standby := none })).notify 3 0x06 0 p 0).haltSettle p

end Sys2Proof.Machine
end

