-- ==== Sys2Proof/Machine/Tally.lean ====
section
/-!
DEFINITION. What the tally units do between a syllable's request and its status (R206, R213-R221).
-/
namespace Sys2Proof.Machine

/-- A parked place for an operation: at most 4 on its slice port and 64 on the channel (R215, R347). -/
def State.canPark (s : State) (ch cell : Nat) : Bool :=
  decide (s.arbPend ch < 64) && decide (s.arbPendOf ch (slicePort cell) < 4)

/-- The hint of a RETRY with P operations parked (R216). -/
def State.retryHint (s : State) (parked : Nat) : Nat :=
  min (s.fld Addr.TALLY_BOFF 0 16 + s.fld Addr.TALLY_BOFF 16 16 * parked) 0xFFFF

/-- An operation returns RETRY (R215, R216). -/
def State.tallyRetry (s : State) (ch : Nat) (op : TallyOp) : State :=
  let h := s.retryHint (s.tch ch).parked.length
  ((s.bump (Addr.TCH_CNT_RETRY ch)).tallyReturn op (3 + h * 65536) none)

/-- The least recently used clean ACTIVE entry (R214). -/
def cleanLru : List CombEntry → Option CombEntry
  | [] => none
  | e :: es =>
    let r := cleanLru es
    if e.st = .active && !e.dirty then
      match r with
      | none => some e
      | some d => if e.used ≤ d.used then some e else some d
    else r

/-- The high-water notice: a channel's entries reach 460 with `HIWAT_EN` (R221). -/
def State.hiwat (s : State) (before after : Nat) : State :=
  if before < 460 && 460 ≤ after && s.fld Addr.TALLY_CTRL 0 1 == 1 then
    s.unitPost (s.fld Addr.TALLY_EVT 0 12) 0x02
  else s

/-- A LOADING entry opened for a cell with one waiting operation (R215 step 3). -/
def State.openEntry (s : State) (ch : Nat) (t : TallyChan) (op : TallyOp) : State :=
  let n := s.tallyTick
  let e : CombEntry := ⟨op.cell, .loading, [], [op], 0, false, s.fld Addr.TALLY_COMB 10 7, n.1⟩
  let t1 := { t with entries := t.entries ++ [e] }
  (n.2.setTch ch t1).hiwat t.entries.length t1.entries.length

/-- An operation decided against an ACTIVE entry; the entry starts its write-back at MAXADD changes (R214, R215). -/
def State.decideActive (s : State) (ch : Nat) (e : CombEntry) (op : TallyOp) : State :=
  let r := s.decideOne ch op e.data
  let n := if r.2 = e.data then e.changes else e.changes + 1
  let st := if e.most ≤ n then CombState.flushing else CombState.active
  let u := r.1.tallyTick
  u.2.setTch ch ((u.2.tch ch).putEntry { e with st := st, data := r.2, changes := n, used := u.1 })

/-- Steps 1 to 3 of R215, where one applies. -/
def State.tallyAdmit (s : State) (ch : Nat) (op : TallyOp) : Option State :=
  let t := s.tch ch
  match t.entryOf op.cell with
  | some e =>
    if e.st = .active then some (s.decideActive ch e op)
    else if e.st = .loading && decide (e.waiting.length < e.most) then
      some (s.setTch ch (t.putEntry { e with waiting := e.waiting ++ [op] }))
    else none
  | none =>
    if t.entries.length < s.fld Addr.TALLY_COMB 20 10 then some (s.openEntry ch t op)
    else
      match cleanLru t.entries with
      | none => none
      | some d => some (s.openEntry ch (t.dropEntry d.cell) op)

/-- TALLY_DECISION_ARRIVAL (R215): an operation in transit reaches its tally unit. -/
def State.tallyArrive (s : State) (id : Nat) : State :=
  match s.tally.transit.find? (fun o => o.id == id) with
  | none => s
  | some op =>
    let s1 := { s with tally := { s.tally with transit := s.tally.transit.filter (fun o => !(o.id == id)) } }
    let ch := channelOf op.cell
    match s1.tallyAdmit ch op with
    | some s2 => s2
    | none =>
      let t := s1.tch ch
      if s1.canPark ch op.cell then (s1.setTch ch { t with parked := t.parked ++ [op] }).bump (Addr.TCH_CNT_PARK ch)
      else s1.tallyRetry ch op

/-- COMB_LOAD_COMPLETE (R214); the read ends the tally unit's tenure (R343). -/
def State.combLoaded (s : State) (cell : Nat) : State :=
  let ch := channelOf cell
  match (s.tch ch).entryOf cell with
  | none => s
  | some e => if e.st = .loading then (s.combLoad ch e).endTenure ch 12 else s

/-- COMB_WINDOW_EXPIRY (R214): an ACTIVE entry with unwritten changes starts its write-back. -/
def State.combWindow (s : State) (cell : Nat) : State :=
  let ch := channelOf cell
  match (s.tch ch).entryOf cell with
  | none => s
  | some e =>
    if e.st = .active && e.dirty then s.setTch ch ((s.tch ch).putEntry { e with st := .flushing }) else s

/-- COMB_WRITEBACK_COMPLETE (R214): the entry reaches DRAM and is clean, and the tally unit's tenure ends (R343). -/
def State.combFlushed (s : State) (cell : Nat) : State :=
  let ch := channelOf cell
  match (s.tch ch).entryOf cell with
  | none => s
  | some e =>
    if e.st = .flushing then
      let s1 := s.combWrite ch e
      (s1.setTch ch ((s1.tch ch).putEntry { e with st := .active, changes := 0, marked := false })).endTenure ch 12
    else s

/-- A parked operation by its number: its channel and itself. -/
def State.parkedOp (s : State) (id : Nat) : Option (Nat × TallyOp) :=
  (s.tally.chans.filterMap (fun c => (c.2.parked.find? (fun o => o.id == id)).map (fun o => (c.1, o)))).head?

/-- A parked operation leaves its queue. -/
def State.leavePark (s : State) (ch id : Nat) : State :=
  let t := s.tch ch
  s.setTch ch { t with parked := t.parked.filter (fun o => !(o.id == id)) }

/-- UNPARK (R215 step 4): the first parked operation of its cell leaves the queue when steps 1 to 3 can take it. -/
def State.unpark (s : State) (id : Nat) : State :=
  match s.parkedOp id with
  | none => s
  | some (ch, op) =>
    if ((s.tch ch).parked.find? (fun o => o.cell == op.cell)).map (fun o => o.id) = some id then
      match (s.leavePark ch id).tallyAdmit ch op with
      | some s1 => s1
      | none => s
    else s

/-- PARK_TIMEOUT (R215 step 6). -/
def State.parkTimeout (s : State) (id : Nat) : State :=
  match s.parkedOp id with
  | none => s
  | some (ch, op) => (s.leavePark ch id).tallyRetry ch op

/-- A snapshot of a cell stored at its destination as one data store (R213). -/
def State.writeSnap (s : State) : List (Nat × Nat) → List Byte → State
  | [], _ => s
  | (pa, n) :: ps, bs => ((s.dramEnter pa n).dataWrite .dram pa (bs.take n)).writeSnap ps (bs.drop n)

/-- TALLY_STATUS_RETURN (R206, R213): the status reaches the pair: the snapshot first, then cd. -/
def State.tallyStatusReturn (s : State) (id : Nat) : State :=
  match s.tally.done.find? (fun d => d.op.id == id) with
  | none => s
  | some d =>
    let s1 := { s with tally := { s.tally with done := s.tally.done.filter (fun x => !(x.op.id == id)) } }
    let s2 := match d.snapshot with
      | none => s1
      | some bs => s1.writeSnap d.op.dst bs
    s2.setX d.op.pair d.op.bank d.op.cd d.status

/-- TALLY_ABORT (R219): a halted core's operations are settled. -/
def State.tallyAbort (s : State) (p : Nat) : State :=
  if 96 ≤ p then (s.wrerr Addr.TALLY_CMD).setFld Addr.TALLY_STATUS 0 2 3
  else if (s.pair p).halt.isNone then s.setFld Addr.TALLY_STATUS 0 2 1
  else s.tallySettle p

/-- The counters of one channel clear, and PEAK follows the entries now in use (R221). -/
def State.tallyClrCh (s : State) (ch : Nat) : State :=
  (((((s.wr (Addr.TCH_CNT_ACC ch) 0).wr (Addr.TCH_CNT_LATE ch) 0).wr (Addr.TCH_CNT_SEAL ch) 0).wr
    (Addr.TCH_CNT_RETRY ch) 0).wr (Addr.TCH_CNT_WB ch) 0).wr (Addr.TCH_CNT_PARK ch) 0 |>.setFld (Addr.TCH_OCC ch) 32 10 0

/-- TALLY_CLRCNT (R221). -/
def State.tallyClrCnt (s : State) : State :=
  ((List.range 16).foldl (fun s ch => s.tallyClrCh ch) s).setFld Addr.TALLY_STATUS 0 2 0

/-- CELL_LINE_ACCESS (R217): another access to a line that an entry holds is routed through its tally unit. -/
def State.cellAccess (s : State) (pa : Nat) : State := s.cellRoute (pa / 64)

/-- A receipt that `JAPP` returns to a task removes that task's entries, in whichever core's list they stand (R218); an empty
list is no longer overflowed. -/
def State.receiptClears (s : State) (t : Nat) : State :=
  let clear (l : UnjList) : UnjList :=
    let a := l.adds.filter (fun x => !(x.task == t))
    ⟨a, l.ovf && !a.isEmpty⟩
  (s.tally.unj.map (fun e => e.1)).foldl (fun s p => s.setUnj p (clear (s.unjList p))) s

end Sys2Proof.Machine
end

