-- ==== Sys2Proof/Machine/Arb.lean ====
section
/-!
DEFINITION. The channel arbiters: decisions, commits, the hold monitor, refresh and the patrol scrub (R339-R354).
-/
namespace Sys2Proof.Machine

/-- One Galois step of the LFSR (R345). -/
def lfsrStep (x : BitVec 32) : BitVec 32 := if x.getLsbD 0 then (x >>> 1) ^^^ 0x80200003#32 else x >>> 1

/-- The LFSR advanced by n steps. -/
def lfsrAdvance (x : BitVec 32) : Nat → BitVec 32
  | 0 => x
  | n + 1 => lfsrAdvance (lfsrStep x) n

/-- The active tickets of requester q at a channel. -/
def State.ticket (s : State) (ch q : Nat) : Nat :=
  s.fld (if q < 8 then Addr.ARB_TKT_ACT0 ch else if q < 16 then Addr.ARB_TKT_ACT1 ch else Addr.ARB_TKT_ACT2 ch)
    (8 * (q % 8)) 8

/-- The wait count of requester q at a channel. -/
def State.waitOf (s : State) (ch q : Nat) : Nat := s.fld (Addr.ARB_STAT ch q) 0 10

/-- The wait count written, and MAXWAIT with it. -/
def State.setWait (s : State) (ch q n : Nat) : State :=
  let s1 := s.setFld (Addr.ARB_STAT ch q) 0 10 n
  s1.setFld (Addr.ARB_STAT ch q) 32 10 (max (s1.fld (Addr.ARB_STAT ch q) 32 10) n)

/-- The candidate with the largest wait, the lowest index on a tie (R345). -/
def longestWait (s : State) (ch : Nat) : List Nat → Option Nat
  | [] => none
  | q :: qs =>
    match longestWait s ch qs with
    | none => some q
    | some r => if s.waitOf ch r ≤ s.waitOf ch q then some q else some r

/-- The lottery's winner for a draw r over the candidates in ascending order (R345). -/
def lotteryWin (s : State) (ch : Nat) : List Nat → Nat → Option Nat
  | [], _ => none
  | q :: qs, r => if r < s.ticket ch q then some q else lotteryWin s ch qs (r - s.ticket ch q)

/-- A snapshot becomes the active copy at the decision (R350). -/
def State.takeSnap (s : State) (ch : Nat) : State :=
  match (s.arb ch).snap with
  | none => s
  | some (t0, t1, t2, l) =>
    let s1 := (((s.wr (Addr.ARB_TKT_ACT0 ch) t0).wr (Addr.ARB_TKT_ACT1 ch) t1).wr (Addr.ARB_TKT_ACT2 ch) t2).wr
      (Addr.ARB_LIM_ACT ch) l
    let s2 := s1.setArb ch { s1.arb ch with snap := none }
    if (s2.arb ch).transit = 0 then s2.setFld Addr.ARB_CSTATUS ch 1 0 else s2

/-- The waits after a decision (R345). -/
def State.updWaits (s : State) (ch win : Nat) : List Nat → State
  | [] => s
  | q :: qs => (s.setWait ch q (if q = win then 0 else min (s.waitOf ch q + 1) 1023)).updWaits ch win qs

/-- Has a requester a free entry in a channel's pending queue (R347)? -/
def State.parkRoom (s : State) (ch q : Nat) : Bool :=
  decide (s.arbPend ch < 64) && decide (s.arbPendOf ch q < (if 13 ≤ q && q ≤ 16 then 3 else 4))

/-- The live requests that did not win are parked, where an entry is free; the others are held at their ports (R347). -/
def State.parkLosers (s : State) (ch : Nat) : List Nat → State
  | [] => s
  | q :: qs =>
    let a := s.arb ch
    (if s.parkRoom ch q then s.setArb ch { a with parked := a.parked ++ [q] } else s).parkLosers ch qs

/-- The requester whose tenure a decision finds running: a slice port's and the sentinel port's tenure has ended when it has no
request left, the others' where it was dropped (R343; DESIGN CHOICE, log 88). -/
def ArbChan.running (a : ArbChan) (cand : Nat) : Option Nat :=
  a.owner.filter (fun q => (decide (12 ≤ q) && decide (q ≤ 20)) || cand.testBit q)

/-- The winner owns this channel and no other: the requesters of one channel alone are its tally unit and its scrubber
(R343, R352). -/
def State.grantTo (s : State) (ch q : Nat) : State :=
  let s1 := if q = 12 || q = 20 then s else s.endTenures q
  s1.setArb ch { s1.arb ch with owner := some q, noted := false, lines := 0 }

/-- ARB_DECISION (R345): `cand` marks the requesters with a live request at the channel, beside those that are parked; `cyc` is
how long the winner has waited, in fabric cycles. -/
def State.arbDecide (s : State) (ch cand cyc : Nat) : State :=
  let s0 := s.takeSnap ch
  let a := s0.arb ch
  let lim := s0.fld (Addr.ARB_LIM_ACT ch) 0 10
  let live := (List.range 22).filter (fun q => cand.testBit q)
  if a.refreshDue || a.debugDue then
    let s1 := match a.running cand with
      | none => s0
      | some q => s0.setWait ch q lim
    let s2 := s1.setArb ch { a with owner := none, noted := false, refreshDue := false,
                                    debugDue := a.debugDue && a.refreshDue }
    s2.parkLosers ch live
  else
    let x := lfsrAdvance (BitVec.ofNat 32 (s0.fld (Addr.MCH_LFSR ch) 0 32)) 32
    let s1 := s0.wr (Addr.MCH_LFSR ch) (x.setWidth 64)
    let cs := (List.range 22).filter (fun q => cand.testBit q || a.parked.contains q)
    let forced := cs.filter (fun q => decide (lim ≤ s1.waitOf ch q))
    let total := (cs.map (fun q => s1.ticket ch q)).sum
    let win := if !forced.isEmpty then longestWait s1 ch forced
      else if total = 0 then longestWait s1 ch cs
      else lotteryWin s1 ch cs (x.toNat * total / 2 ^ 32)
    match win with
    | none => s1.setArb ch { a with owner := none, noted := false }
    | some q =>
      let s2 := if forced.isEmpty then s1 else s1.bump (Addr.ARB_FORCED ch)
      let s3 := s2.updWaits ch q cs
      let s4 := (s3.bumpF (Addr.ARB_LAT ch q) 0 24).setFld (Addr.ARB_LAT ch q) 24 40
        (min (s3.fld (Addr.ARB_LAT ch q) 24 40 + cyc) (2 ^ 40 - 1))
      let s5 := s4.setArb ch { s4.arb ch with parked := a.parked.erase q }
      (s5.parkLosers ch (if a.parked.contains q then live else live.erase q)).grantTo ch q

/-- ARB_COMMIT (R350): a commit is sent to the named channels. -/
def State.arbCommit (s : State) (mask : Nat) : State :=
  if mask % 65536 = 0 then s.setFld Addr.ARB_CSTATUS 16 3 1
  else
    let again := !(mask &&& (s.fld Addr.ARB_CSTATUS 0 16) == 0)
    let s1 := (List.range 16).foldl (fun s ch =>
      if mask.testBit ch then (s.setArb ch { s.arb ch with transit := (s.arb ch).transit + 1 }).setBit Addr.ARB_CSTATUS ch else s) s
    s1.setFld Addr.ARB_CSTATUS 16 3 (if again then 2 else 0)

/-- Is every ticket of a snapshot within its requester's bounds, and the wait limit within its own (R351)? -/
def boundsOk (s : State) (t0 t1 t2 l : Word) : Bool :=
  (List.range 22).all (fun q =>
    let t := bitsAt (if q < 8 then t0 else if q < 16 then t1 else t2).toNat (8 * (q % 8)) 8
    decide (s.fld (Addr.ARB_BOUND q) 0 8 ≤ t) && decide (t ≤ s.fld (Addr.ARB_BOUND q) 8 8))
  && decide (bitsAt l.toNat 0 10 ≤ s.fld Addr.ARB_BOUND_LIM 0 10)

/-- COMMIT_ARRIVAL (R350, R351): the oldest commit in transit arrives, and the shadow copy is checked and kept for the next
decision, or refused whole. -/
def State.commitArrive (s : State) (ch : Nat) : State :=
  let n := (s.arb ch).transit - 1
  if (s.arb ch).transit = 0 then s
  else
    let t0 := s.rd (Addr.ARB_TKT0 ch)
    let t1 := s.rd (Addr.ARB_TKT1 ch)
    let t2 := s.rd (Addr.ARB_TKT2 ch)
    let l := s.rd (Addr.ARB_LIM ch)
    if boundsOk s t0 t1 t2 l then s.setArb ch { s.arb ch with transit := n, snap := some (t0, t1, t2, l) }
    else
      let s1 := s.setArb ch { s.arb ch with transit := n }
      let s2 := if n = 0 then s1.setFld Addr.ARB_CSTATUS ch 1 0 else s1
      (s2.setFld Addr.ARB_CSTATUS 16 3 4).setBit Addr.ARB_CERR 1

/-- HOLD_MONITOR (R348): the running tenure of a channel reaches HOLDMON cycles. -/
def State.holdMonitor (s : State) (ch : Nat) : State :=
  let a := s.arb ch
  let lim := s.fld (Addr.ARB_LIM_ACT ch) 16 16
  match a.owner with
  | none => s
  | some q =>
    if lim = 0 || a.noted then s
    else
      let s1 := (((s.setArb ch { a with noted := true }).setFld (Addr.ARB_HOLD ch) 0 5 q).bumpF
        (Addr.ARB_HOLD ch) 16 16).setFld (Addr.ARB_HOLD ch) 32 32 lim
      s1.evtPost Addr.ARB_EVT 0

/-- REFRESH (R349): refresh falls due at a channel. -/
def State.refreshDue (s : State) (ch : Nat) : State := s.setArb ch { s.arb ch with refreshDue := true }

/-- The physical address of a line of a channel in package order. The first 2^31 lines are tagged DRAM, in ascending
address, and the rest the bitmap (R338; log 20). -/
def packageLine (ch n : Nat) : Nat :=
  let base := if n < 2 ^ 31 then 0 else 0x20000000000
  let m := if n < 2 ^ 31 then n else n - 2 ^ 31
  let block := m / 4
  let hi := block % 16
  base + (block / 16) * 65536 + hi * 4096 + (hi ^^^ ch) * 256 + m % 4 * 64

/-- PATROL_SCRUB (R342): the scrubber of a channel reads its next line; `found` says which error the line then shows. Its tenure
ends after that line (R343). -/
def State.patrol (s : State) (ch : Nat) (found : Option Bool) : State :=
  if !(s.fld (Addr.MCH_SCRUB ch) 0 1 == 1) then s
  else
    let n := s.fld (Addr.MCH_SCRUB_POS ch) 0 32
    let pa := packageLine ch n
    let line := pa / 64
    let s1 := match found with
      | none => s
      | some ue => { s with latent := smSet (always none) s.latent line (some ue) }
    let s2 := (if pa < 0x20000000000 then s1.touchLine line else s1.bitmapTouch line).endTenure ch 20
    if n + 1 < 2164260864 then s2.setFld (Addr.MCH_SCRUB_POS ch) 0 32 (n + 1)
    else (s2.setFld (Addr.MCH_SCRUB_POS ch) 0 32 0).bumpF (Addr.MCH_SCRUB_POS ch) 32 16

/-- The counters of one channel clear (R354). -/
def State.mchClr (s : State) (ch : Nat) : State :=
  let s1 := ((s.wr (Addr.MCH_CE_CNT ch) 0).wr (Addr.ARB_HOLD ch) 0).wr (Addr.ARB_FORCED ch) 0
  (List.range 22).foldl (fun s q => (s.wr (Addr.ARB_LAT ch q) 0).setFld (Addr.ARB_STAT ch q) 32 10 0) s1

/-- MCH_CLRCNT (R354): every channel's counters clear, but for `MCH_UE_CNT` and `MCH_UE_ADDR`. -/
def State.mchClrCnt (s : State) : State := (List.range 16).foldl (fun s ch => s.mchClr ch) s

end Sys2Proof.Machine
end

