-- ==== Sys2Proof/Machine/P384.lean ====
section
/-!
DEFINITION. ECDSA over P-384 with SHA-256 (FIPS 186-5): public keys, signatures and their verification (R19, R366, R387, R434,
R440, R472).
-/
namespace Sys2Proof.Machine

/-- The field's prime. -/
def p384P : Nat := 2 ^ 384 - 2 ^ 128 - 2 ^ 96 + 2 ^ 32 - 1

/-- The order of the base point. -/
def p384N : Nat :=
  0xffffffffffffffffffffffffffffffffffffffffffffffffc7634d81f4372ddf581a0db248b0a77aecec196accc52973

/-- The curve's coefficient b. -/
def p384B : Nat :=
  0xb3312fa7e23ee7e4988e056be3f82d19181d9c6efe8141120314088f5013875ac656398d8a2ed19d2a85c8edd3ec2aef

/-- The base point's coordinates. -/
def p384Gx : Nat :=
  0xaa87ca22be8b05378eb1c71ef320ad746e1d3b628ba79b9859f741e082542a385502f25dbf55296c3a545e3872760ab7
/-- The base point's y coordinate. -/
def p384Gy : Nat :=
  0x3617de4a96262c6f5d9e98bf9292dc29f8f41dbd289a147ce9da3113b5f0b8c00a60b1ce1d7e819d7a431d7c90ea0e5f

/-- A power modulo m, over the bits of the exponent from the one numbered n - 1 down. -/
def modPowGo (m b e acc : Nat) : Nat → Nat
  | 0 => acc
  | n + 1 =>
    let sq2 := acc * acc % m
    modPowGo m b e (if e.testBit n then sq2 * b % m else sq2) n

/-- The inverse modulo a prime of at most 384 bits. -/
def modInv (m a : Nat) : Nat := modPowGo m a (m - 2) 1 384

/-- A point in Jacobian coordinates; z = 0 is the point at infinity. -/
structure P384Point where
  x : Nat
  y : Nat
  z : Nat
deriving DecidableEq, Repr

/-- The point at infinity. -/
def p384Zero : P384Point := ⟨1, 1, 0⟩

/-- The base point. -/
def p384G : P384Point := ⟨p384Gx, p384Gy, 1⟩

/-- A difference in the field, of two values below the prime. -/
def fSub (a b : Nat) : Nat := (a + p384P - b) % p384P

/-- A doubling (the coefficient a of the curve is -3). -/
def p384Dbl (q : P384Point) : P384Point :=
  if q.z = 0 || q.y = 0 then p384Zero
  else
    let delta := q.z * q.z % p384P
    let gamma := q.y * q.y % p384P
    let beta := q.x * gamma % p384P
    let alpha := 3 * (fSub q.x delta * ((q.x + delta) % p384P)) % p384P
    let x := fSub (alpha * alpha % p384P) (8 * beta % p384P)
    let yz := (q.y + q.z) % p384P
    ⟨x, fSub (alpha * fSub (4 * beta % p384P) x % p384P) (8 * (gamma * gamma) % p384P),
      fSub (fSub (yz * yz % p384P) gamma) delta⟩

/-- An addition. -/
def p384Add (a b : P384Point) : P384Point :=
  if a.z = 0 then b
  else if b.z = 0 then a
  else
    let z1 := a.z * a.z % p384P
    let z2 := b.z * b.z % p384P
    let u1 := a.x * z2 % p384P
    let u2 := b.x * z1 % p384P
    let s1 := a.y * (b.z * z2) % p384P
    let s2 := b.y * (a.z * z1) % p384P
    if u1 = u2 then if s1 = s2 then p384Dbl a else p384Zero
    else
      let h := fSub u2 u1
      let r := fSub s2 s1
      let h2 := h * h % p384P
      let h3 := h * h2 % p384P
      let v := u1 * h2 % p384P
      let x := fSub (fSub (r * r % p384P) h3) (2 * v % p384P)
      ⟨x, fSub (r * fSub v x % p384P) (s1 * h3 % p384P), a.z * b.z * h % p384P⟩

/-- A multiple of a point, over the bits of the factor from the one numbered n - 1 down. -/
def p384MulGo (k : Nat) (q acc : P384Point) : Nat → P384Point
  | 0 => acc
  | n + 1 =>
    let d := p384Dbl acc
    p384MulGo k q (if k.testBit n then p384Add d q else d) n

/-- k times a point, for k below 2^384. -/
def p384Mul (k : Nat) (q : P384Point) : P384Point := p384MulGo k q p384Zero 384

/-- The affine coordinates of a point other than the point at infinity. -/
def P384Point.affine (q : P384Point) : Nat × Nat :=
  let zi := modInv p384P q.z
  let z2 := zi * zi % p384P
  (q.x * z2 % p384P, q.y * (z2 * zi) % p384P)

/-- The public key of a private key: uncompressed, 97 bytes (R516). -/
def pubKey (d : Nat) : List Byte :=
  let a := (p384Mul d p384G).affine
  0x04#8 :: (natBytesBE 48 a.1 ++ natBytesBE 48 a.2)

/-- The point of an uncompressed public key, where it is a point of the curve. -/
def keyPoint (key : List Byte) : Option P384Point :=
  let x := bytesNatBE ((key.drop 1).take 48)
  let y := bytesNatBE (key.drop 49)
  if key.length = 97 && key.headD 0 == 0x04#8 && decide (x < p384P) && decide (y < p384P)
      && y * y % p384P == (x * x * x + (p384P - 3) * x + p384B) % p384P then some ⟨x, y, 1⟩
  else none

/-- A signature with a private key and one secret number per message: r and s, each 48 bytes, big-endian (R366, R516). None
where r or s is 0, for which the standard takes another number. -/
def ecdsaSign (d k : Nat) (msg : List Byte) : Option (List Byte) :=
  let r := (p384Mul k p384G).affine.1 % p384N
  let s := modInv p384N k * ((bytesNatBE (sha256 msg) + r * d) % p384N) % p384N
  if r = 0 || s = 0 then none else some (natBytesBE 48 r ++ natBytesBE 48 s)

/-- The verification of a signature. -/
def verifies (key msg sig : List Byte) : Bool :=
  match keyPoint key with
  | none => false
  | some q =>
    let r := bytesNatBE (sig.take 48)
    let s := bytesNatBE (sig.drop 48)
    if sig.length = 96 && decide (0 < r) && decide (r < p384N) && decide (0 < s) && decide (s < p384N) then
      let w := modInv p384N s
      let pt := p384Add (p384Mul (bytesNatBE (sha256 msg) * w % p384N) p384G) (p384Mul (r * w % p384N) q)
      !(pt.z == 0) && pt.affine.1 % p384N == r
    else false

end Sys2Proof.Machine
end

