-- ==== Sys2Proof/Machine/Jrn.lean ====
section
/-!
DEFINITION. The journal engine: requests, sequencing, durability, signing, epochs, replication and the archive drain
(R355-R391).
-/
namespace Sys2Proof.Machine

/-! ## Small parts -/

/-- What a command sends out of the module, besides what it has sent already. -/
def State.emit (s : State) (l : List Emit) : State := { s with out := s.out ++ l }
/-- One thing that a command sends. -/
def State.emitMore (s : State) (e : Emit) : State := { s with out := s.out ++ [e] }

/-- `JRN_STATUS.STATE`. -/
def State.jState (s : State) : Nat := s.fld Addr.JRN_STATUS 0 3
/-- Is the module a standby (`JRN_REPL_STATUS.ROLE`)? -/
def State.standby (s : State) : Bool := s.fld Addr.JRN_REPL_STATUS 0 1 == 1
/-- `SEC_LC.STATE`. -/
def State.lcState (s : State) : Nat := s.fld Addr.SEC_LC 0 3
/-- Is alarm hold in force (R460)? -/
def State.hold (s : State) : Bool := s.fld Addr.SEC_STATUS 0 1 == 1

/-- Is some Cuwen Link up? -/
def State.linkUp (s : State) : Bool := !(s.fld Addr.CWL_STATUS 0 2 == 0)

/-- The journal engine with a function applied. -/
def State.updJrn (s : State) (f : Jrn → Jrn) : State := { s with jrn := f s.jrn }

/-- `JRN_STATUS.QUEUE` and `SIGNING` follow the engine; the field holds at most 1,024 (R373). -/
def State.jrnShow (s : State) : State :=
  (s.setFld Addr.JRN_STATUS 16 11 (min s.jrn.queue.length 1024)).setFld Addr.JRN_STATUS 6 1 (b2n s.jrn.signing.isSome)

/-- The size of the array (R355). -/
def arraySize : Nat := 2 ^ 38

/-- Is the record one of the hardware's (R362)? -/
def hwType (t : Nat) : Bool := decide (0xF000 ≤ t)

/-- The entries that the archive has not acknowledged (R356). -/
def State.liveEntries (s : State) : List JEntry :=
  s.jrn.ring.filter (fun e => decide ((s.rd Addr.JRN_ARCH_SEQ).toNat < e.seq))

/-- The bytes that the ring occupies, [archive point, head) (R356). -/
def State.jrnUsed (s : State) : Nat :=
  let h := s.fld Addr.JRN_HEAD_OFF 0 38
  let a := s.fld Addr.JRN_ARCH_OFF 0 38
  if h = a then (if s.liveEntries.isEmpty then 0 else arraySize) else (h + arraySize - a) % arraySize

/-- A receipt for a sequence (R371). -/
def receiptCap (seq : Nat) : Cap := ⟨BitVec.ofNat 128 (0x0001FF05CC000000 * 2 ^ 64 + seq % 2 ^ 64), true⟩

/-- A notice of the journal on its event channel: bits 15:8 the code, under `NOTE_EN` (R391). -/
def State.jrnEvt (s : State) (code : Nat) : State :=
  if s.fld Addr.JRN_CTRL 0 1 == 1 then s.evtPost Addr.JRN_EVT (0x03 + code * 256) else s

/-- One threshold's bit: set at or above it, clear 2 points below it (R357). -/
def thrBit (old : Nat) (used thr : Nat) : Nat :=
  if thr * arraySize ≤ used * 100 then 1
  else if used * 100 ≤ (thr - 2) * arraySize then 0
  else old

/-- The occupancy compared with its thresholds, with the notices of a crossing (R357). -/
def State.jrnOcc (s : State) : State :=
  let used := s.jrnUsed
  let o3 := s.fld Addr.JRN_STATUS 3 1
  let o4 := s.fld Addr.JRN_STATUS 4 1
  let n3 := thrBit o3 used (s.fld Addr.JRN_THR 0 7)
  let n4 := thrBit o4 used (s.fld Addr.JRN_THR 8 7)
  let n5 := thrBit (s.fld Addr.JRN_STATUS 5 1) used (s.fld Addr.JRN_THR 16 7)
  let pct := used * 100 / arraySize
  let s1 := (((s.setFld Addr.JRN_STATUS 3 1 n3).setFld Addr.JRN_STATUS 4 1 n4).setFld Addr.JRN_STATUS 5 1 n5).setFld
    Addr.JRN_STATUS 8 7 pct
  let s2 := if o3 = 0 && n3 == 1 then (s1.notify 1 0x04 3 0 pct).jrnEvt 1 else s1
  if o4 = 0 && n4 == 1 then s2.jrnEvt 2 else s2

/-! ## Answers -/

/-- Does a bank still wait for what it asked a unit for: it waits, runs the task that asked, and nothing of its pair has been
discarded since (R277, R390)? -/
def State.waitsFor (s : State) (p b t g : Nat) : Bool :=
  (s.pair p).halt.isNone && decide ((s.bank p b).st = .waiting) && (s.bank p b).task.getD 0 == t && (s.pair p).gen == g

/-- A unit's answer goes to the bank that asked, if it still waits; else it is discarded. -/
def State.answer (s : State) (p b t g : Nat) (c : Cap) : State := if s.waitsFor p b t g then s.wake p b c else s

/-- A draw request answers with a status (R396): its ID leaves the table, and cd takes the integer. -/
def State.drawFail (s : State) (r : DrawReq) (status : Nat) (owned : Bool) : State :=
  let s1 := if owned then { s with draw := { s.draw with ids := smSet (always none) s.draw.ids r.id none } } else s
  let s2 := s1.bump (if status = 1 then Addr.DRW_CNT_DUP else Addr.DRW_CNT_FAIL)
  s2.answer r.pair r.bank r.task r.gen (intCap (BitVec.ofNat 64 status))

/-- `DRW_STATUS.ACTIVE`, `QUEUE` and `DRW_IDTAB` follow the unit. -/
def State.drawShow (s : State) : State :=
  ((s.setFld Addr.DRW_STATUS 3 1 (b2n s.draw.act.isSome)).setFld Addr.DRW_STATUS 4 7 (min s.draw.queue.length 64)).setFld
    Addr.DRW_IDTAB 0 17 s.draw.ids.length

/-- The draw in progress ends with a status. -/
def State.drawEnd (s : State) (status : Nat) : State :=
  match s.draw.act with
  | none => s
  | some a => (({ s with draw := { s.draw with act := none } }).drawFail a.req status a.seq.isNone).drawShow

/-- The status that the draw unit returns for a status of the journal (R396). -/
def drawCode (j : Nat) : Nat :=
  if j = 0x01 then 0x04 else if j = 0x02 then 0x0A else j

/-- An issuer that still waits gets a status of R370 (R390). -/
def State.jStatusTo (s : State) (status : Nat) : JIssuer → State
  | .bank p b t g => s.answer p b t g (intCap (BitVec.ofNat 64 status))
  | .draw => s.drawEnd (drawCode status)
  | .audit => { s with sec := { s.sec with audit := some false } }
  | .remote tag =>
    { (s.emitMore (.link 0x22 tag status [])) with
      jrn := { s.jrn with replies := ((tag, false, status) :: s.jrn.replies).take 256 } }
  | _ => s

/-- Several issuers get a status. -/
def State.jStatusAll (s : State) (status : Nat) : List JIssuer → State
  | [] => s
  | i :: is => (s.jStatusTo status i).jStatusAll status is

/-- A request is not appended: FULL is counted (R391), a hardware record lost for another reason sets LOST (R364), and a pair
whose record is lost can be re-dispatched without it. -/
def State.jFail (s : State) (typ status : Nat) (i : JIssuer) : State :=
  let s1 := if status = 1 then s.bump Addr.JRN_CNT_FULL else if hwType typ then s.setBit Addr.JRN_ERR 5 else s
  match i with
  | .halt p => { s1 with evd := { s1.evd with redisp := s1.evd.redisp ++ [(p, none)] } }
  | .sweeper => { s1 with sweep := { s1.sweep with waits := false } }
  | _ => s1.jStatusTo status i

/-- Every request of a list gets a status. -/
def State.jFailReqs (s : State) (status : Nat) : List JReq → State
  | [] => s
  | r :: rs => (s.jFail r.typ status r.issuer).jFailReqs status rs

/-- An issuer gets the receipt of its entry (R374). A halted pair's receipt is discarded, and its append is listed (R380,
R390); a receipt that `JAPP` returns clears the task's listed adds (R218). -/
def State.jReceipt (s : State) (seq typ : Nat) : JIssuer → State
  | .bank p b t g =>
    if (s.pair p).halt.isSome then
      if typ = 0xF001 then s else s.updJrn (fun j => { j with orphans := j.orphans ++ [(p, seq)] })
    else if s.waitsFor p b t g then
      let s1 := s.wake p b (receiptCap seq)
      if typ = 0xF001 then s1 else s1.receiptClears t
    else s
  | .draw =>
    match s.draw.act with
    | none => s
    | some a => if a.seq = some seq then { s with draw := { s.draw with act := some { a with dur := true } } } else s
  | .audit => { s with sec := { s.sec with audit := some true } }
  | .gov reg lo w v => s.setFld reg lo w v
  | .tickets mask t0 t1 t2 l =>
    let chs := (List.range 16).filter (fun ch => mask.testBit ch)
    (chs.foldl (fun s ch => (((s.wr (Addr.ARB_TKT0 ch) t0).wr (Addr.ARB_TKT1 ch) t1).wr (Addr.ARB_TKT2 ch) t2).wr
      (Addr.ARB_LIM ch) l) s).arbCommit mask
  | .epoch =>
    let s1 := s.updJrn (fun j => { j with isOpen := true })
    if s1.jState = 0 then s1.setFld Addr.JRN_STATUS 0 3 1 else s1
  | .remote tag =>
    { (s.emitMore (.link 0x21 tag seq [])) with
      jrn := { s.jrn with replies := ((tag, true, seq) :: s.jrn.replies).take 256 } }
  | _ => s

/-- Several issuers get a receipt. -/
def State.jReceipts (s : State) (seq typ : Nat) : List JIssuer → State
  | [] => s
  | i :: is => (s.jReceipt seq typ i).jReceipts seq typ is

/-- A request joins the queue (R373). -/
def State.jrnRequest (s : State) (r : JReq) : State :=
  (s.updJrn (fun j => { j with queue := j.queue ++ [r] })).jrnShow

/-- A request goes ahead of every queued request (R463). -/
def State.jrnAhead (s : State) (r : JReq) : State :=
  (s.updJrn (fun j => { j with queue := r :: j.queue })).jrnShow

/-- A security audit record (R473): the 64-byte payload, then what its kind adds. -/
def auditPayload (kind port result code before after : Nat) (a v : Nat) (dig : List Byte) (time : Nat) : List Byte :=
  natBytes 2 kind ++ natBytes 1 port ++ natBytes 1 result ++ natBytes 2 code ++ natBytes 1 before ++ natBytes 1 after
    ++ natBytes 8 a ++ natBytes 8 v ++ (dig ++ List.replicate 32 (0 : Byte)).take 32 ++ natBytes 8 time

/-- A security audit record requested (R473). -/
def State.auditRec (s : State) (kind port result code a v : Nat) (dig extra : List Byte) (issuer : JIssuer) : State :=
  s.jrnRequest ⟨0xF00B, 0x0203,
    auditPayload kind port result code s.lcState s.lcState a v dig s.time ++ extra, issuer⟩

/-- An alarm record's payload (R474). -/
def alarmPayload (s : State) (cls policy flags detail reading : Nat) : List Byte :=
  natBytes 1 cls ++ natBytes 1 policy ++ natBytes 1 s.lcState ++ natBytes 1 flags ++ natBytes 4 detail ++ natBytes 8 s.time
    ++ natBytes 8 reading ++ natBytes 8 (s.rd Addr.SEC_ALM_ACT).toNat

/-! ## Sequencing -/

/-- The queue is answered with a status and emptied, and so are the waiters of signings. -/
def State.jrnFlush (s : State) (status : Nat) (keep : JReq → Bool) : State :=
  let gone := s.jrn.queue.filter (fun r => !keep r)
  let ws := (match s.jrn.signing with
    | some g => g.waiters
    | none => []) ++ s.jrn.sealWaiters
  let s1 := s.updJrn (fun j =>
    { j with queue := j.queue.filter keep, signing := none, sealWant := false, sealWaiters := [] })
  ((s1.jFailReqs status gone).jStatusAll status ws).jrnShow

/-- Has the epoch-open record of this boot been sequenced (R377)? -/
def State.epochPlaced (s : State) : Bool :=
  s.jrn.opening && !s.jrn.queue.any (fun r => r.issuer == .epoch) && !s.jrn.fwd.any (fun x => x.2.issuer == .epoch)

/-- May the engine run a signing at all: a primary whose epoch has begun, in OPENING, RUNNING or DETACHING (R365, R376, R383)? -/
def State.signs (s : State) : Bool := s.epochPlaced && !s.standby && !s.jrn.halted && decide (s.jState < 3)

/-- A signing starts where one is due and none runs (R365): at INTERVAL entries, or on request. -/
def State.signStart (s : State) : State :=
  let head := (s.rd Addr.JRN_HEAD_SEQ).toNat
  if s.jrn.signing.isSome || !s.signs || head = 0 then s
  else if s.jrn.sealWant || decide (s.jrn.covered + s.fld Addr.JRN_SEAL 0 13 ≤ head) then
    (s.updJrn (fun j =>
      { j with signing := some ⟨head, j.headH, j.sealWaiters⟩, sealWant := false, sealWaiters := [] })).jrnShow
  else s

/-- A skip marker's header: every field zero but Length (R356). -/
def skipMarker (len : Nat) : List Byte := List.replicate 16 0 ++ natBytes 4 len ++ List.replicate 44 0

/-- The bytes of an entry that is placed at `off` and does not fit before the end need a marker; where it then goes, and how
many bytes that takes in all (R356). -/
def placeEntry (off size : Nat) : Nat × Nat :=
  if off + size ≤ arraySize then (off, size) else (0, arraySize - off + size)

/-- Entries that [off, off + size) overwrites leave the ring's index. -/
def keepEntry (off size : Nat) (e : JEntry) : Bool := decide (e.off + e.size ≤ off) || decide (off + size ≤ e.off)

/-- The payload that a mode-change record carries at its sequencing point (R381): the old mode is the one in force then, and
the request holds the three bytes after it. -/
def modePayload (s : State) (seq : Nat) (p : List Byte) : List Byte :=
  let held := s.jrn.ring.filter (fun e => e.sync && !e.dur)
  let first := if (p.getD 2 0).toNat = 3 then (held.head?.map (fun e => e.seq)).getD seq else seq + 1
  natBytes 1 s.jrn.mode ++ (p.take 4).drop 1 ++ List.replicate 4 0 ++ natBytes 8 first ++ natBytes 8 (s.rd Addr.JRN_PACK_SEQ).toNat

/-- The payload at the sequencing point: mode-change and detach records hold positions of that moment (R381, R536). -/
def finalPayload (s : State) (seq : Nat) (r : JReq) : List Byte :=
  if r.typ = 0xF008 then modePayload s seq r.payload
  else if r.typ = 0xF003 then
    r.payload.take 16 ++ natBytes 8 (s.rd Addr.JRN_PACK_SEQ).toNat ++ natBytes 8 (s.rd Addr.JRN_ARCH_SEQ).toNat
  else r.payload

/-- The 64-byte header of an entry (R359, R360). -/
def entryHeader (seq time len typ src flags : Nat) (prev : List Byte) : List Byte :=
  natBytes 8 seq ++ natBytes 8 time ++ natBytes 4 len ++ natBytes 2 typ ++ natBytes 2 src ++ natBytes 4 flags
    ++ natBytes 4 0 ++ prev

/-- The pad that brings a payload to a multiple of 64 (R359). -/
def padOf (len : Nat) : Nat := (64 - len % 64) % 64

/-- Does an issuer come from the partner (R360)? -/
def JIssuer.partner : JIssuer → Bool
  | .remote _ => true
  | _ => false

/-- An entry takes its place at the head, with a skip marker before it where it would cross the end (R356). -/
def State.placeAt (s : State) (e : JEntry) : State :=
  let s1 := s.updJrn (fun j =>
    { j with ring := (j.ring.filter (fun x => keepEntry (arraySize - e.skip) e.skip x && keepEntry e.off e.size x)) ++ [e] })
  s1.setFld Addr.JRN_HEAD_OFF 0 38 ((e.off + e.size) % arraySize)

/-- The bytes of an entry, and of the skip marker before it, as they enter the write buffer or the array; the read window hides
the entry's until its durability point (R356, R358). -/
def State.storeEntry (s : State) (e : JEntry) : State :=
  let m := if e.skip = 0 then s.jarr else writeBytes s.jarr (arraySize - e.skip) (skipMarker (e.skip - 64))
  { s with jarr := writeBytes m e.off e.data }

/-- The last sequence has been used: the counter sticks at all ones (R364). -/
def State.exhaust (s : State) : State :=
  ((s.wr Addr.JRN_HEAD_SEQ (BitVec.ofNat 64 (2 ^ 64 - 1))).setFld Addr.JRN_STATUS 0 3 5).jrnFlush 2 (fun _ => false)

/-- What a record of this module does at its sequencing point beyond entering the ring, here or at the primary that it was
forwarded to (R381, R383). -/
def State.sequenced (s : State) (seq : Nat) (r : JReq) : State :=
  let s1 := if r.typ = 0xF008 && !r.issuer.partner then
      let m := (r.payload.getD 1 0).toNat % 4
      (s.updJrn (fun j => { j with mode := m })).setFld Addr.JRN_REPL 0 2 m
    else s
  let s2 := if r.typ = 0xF003 && !r.issuer.partner then s1.setFld Addr.JRN_STATUS 0 3 2 else s1
  match r.issuer with
  | .sweeper => { s2 with sweep := { s2.sweep with waits := false } }
  | .halt p => { s2 with evd := { s2.evd with redisp := s2.evd.redisp ++ [(p, some seq)] } }
  | .draw =>
    match s2.draw.act with
    | none => s2
    | some a => { s2 with draw := { s2.draw with act := some { a with seq := some seq },
                                                 ids := smSet (always none) s2.draw.ids a.req.id (some true) } }
  | _ => s2

/-- A request becomes an entry (R359-R364, R372) whose receipt the listed issuers wait for. -/
def State.sequence (s : State) (r : JReq) (ws : List JIssuer) : State :=
  let seq := (s.rd Addr.JRN_HEAD_SEQ).toNat + 1
  let time := max s.time s.jrn.lastTime
  let payload := finalPayload s seq r
  let len := payload.length
  let flags := b2n (s.jrn.mode == 2) + b2n s.timeUnc * 2 + b2n r.issuer.partner * 4
  let body := entryHeader seq time len r.typ r.src flags s.jrn.headH ++ payload
  let h := sha256 body
  let size := 64 + len + padOf len
  let at_ := placeEntry (s.fld Addr.JRN_HEAD_OFF 0 38) size
  let e : JEntry := ⟨seq, at_.1, size, r.typ, body ++ List.replicate (padOf len) 0, h, s.jrn.mode == 2, false, false, false, ws,
    at_.2 - size⟩
  let s1 := (s.placeAt e).wr Addr.JRN_HEAD_SEQ (BitVec.ofNat 64 seq)
  let s2 := s1.updJrn (fun j => { j with headH := h, lastTime := time })
  let s3 := (s2.bump Addr.JRN_CNT_APP).sequenced seq r
  let s4 := if seq = 2 ^ 64 - 2 then s3.exhaust else s3
  (s4.jrnOcc).signStart.jrnShow

/-- Records that bypass FULL and FWFULL (R379); the detach record is taken with them. -/
def bypasses (typ : Nat) : Bool := [0xF000, 0xF001, 0xF003, 0xF004, 0xF005, 0xF006, 0xF007, 0xF00C].contains typ

/-- Does the ring have room for a record (R356, R357)? -/
def State.jrnRoom (s : State) (len : Nat) : Bool :=
  let size := 64 + len + padOf len
  decide (s.jrnUsed + (placeEntry (s.fld Addr.JRN_HEAD_OFF 0 38) size).2 ≤ arraySize)

/-- What a request is, for the rules of its sequencing (R357, R362, R379). -/
inductive JKind where
  /-- A `JAPP` of a ledger pair, or of a sentinel pair of either module. -/
  | ledger | sentinel
  | draw
  /-- The epoch-open record of this boot, and the takeover record. -/
  | epoch | takeover
  /-- Another hardware record. -/
  | hardware
deriving DecidableEq, Repr

/-- The kind of a request. -/
def JReq.kind (r : JReq) : JKind :=
  match r.issuer with
  | .bank p _ _ _ => if isSentinel p then .sentinel else .ledger
  | .epoch => .epoch
  | _ =>
    if !hwType r.typ then .sentinel
    else if r.typ = 0xF00A then .draw
    else if r.typ = 0xF006 then .takeover
    else .hardware

/-- What sequencing a request would do: nothing yet, go on, or a status (R364, R368, R370, R376, R379, R460). -/
inductive JTurn where
  | wait | go | status (n : Nat) | forward
deriving DecidableEq, Repr

/-- Does alarm hold keep a request waiting (R460)? -/
def State.heldBack (s : State) (r : JReq) : Bool :=
  match r.issuer with
  | .bank p _ _ _ => s.hold && !(decide (96 ≤ p) && decide (p ≤ 99))
  | _ => false

/-- The order of the epoch (R377, R384): `JAPP` waits until the epoch-open record is durable, other records until it is
sequenced, and the takeover record for nothing. -/
def State.epochAllows (s : State) (r : JReq) : Bool :=
  match r.kind with
  | .ledger => s.jrn.isOpen
  | .sentinel => s.jrn.isOpen
  | .draw => s.epochPlaced
  | .epoch => true
  | .takeover => true
  | .hardware => s.epochPlaced

/-- Is the FULL bit set that stops ledger appends and the other records that do not bypass it (R357, R379)? -/
def State.jrnFull (s : State) : Bool := s.fld Addr.JRN_STATUS 4 1 == 1

/-- The turn of a request on a primary (R357, R379): `JAPP` and draw records meet their FULL bit; other hardware records that
do not bypass the thresholds wait for space. -/
def State.turnPrimary (s : State) (r : JReq) : JTurn :=
  let full := s.jrnFull
  let go := if s.jrnRoom r.payload.length then JTurn.go else .wait
  match r.kind with
  | .ledger => if full then .status 1 else go
  | .sentinel => if s.fld Addr.JRN_STATUS 5 1 = 1 then .status 1 else go
  | .draw => if full then .status 1 else go
  | .epoch => go
  | .takeover => go
  | .hardware => if !bypasses r.typ && full then .wait else go

/-- The turn of a request of this module on a standby (R377, R383): NOT_PRIMARY to a ledger pair; the epoch-open record waits
for a join; the rest goes to the primary while the link is up. -/
def State.turnStandby (s : State) (r : JReq) : JTurn :=
  match r.kind with
  | .ledger => .status 5
  | .epoch => if s.linkUp && s.jrn.joined then .forward else .wait
  | _ => if s.linkUp then .forward else .wait

/-- Does DETACHING answer a request (R370, R376)? Only `JAPP`. -/
def JReq.detaches (r : JReq) : Bool := decide (r.kind = .ledger) || decide (r.kind = .sentinel)

/-- The turn of a queued request. -/
def State.turn (s : State) (r : JReq) : JTurn :=
  let st := s.jState
  if s.jrn.halted then .wait
  else if st = 3 then .status 8
  else if st = 5 then .status 2
  else if st = 4 && !(decide (r.src = 0x0203) || r.typ == 0xF003) then .status 6
  else if st = 2 && r.detaches then .status 7
  else if !s.epochAllows r || s.heldBack r then .wait
  else if s.standby && !r.issuer.partner then s.turnStandby r
  else s.turnPrimary r

/-- The first request of a queue whose turn has come, with the requests before and after it. -/
def firstTurn (s : State) (before : List JReq) : List JReq → Option (JReq × JTurn × List JReq)
  | [] => none
  | r :: rs =>
    match s.turn r with
    | .wait => firstTurn s (before ++ [r]) rs
    | t => some (r, t, before ++ rs)

/-- A record goes to the primary (R383). -/
def State.forward (s : State) (r : JReq) : State :=
  let tag := s.jrn.nextTag
  let s1 := s.updJrn (fun j => { j with fwd := j.fwd ++ [(tag, r)], nextTag := (j.nextTag + 1) % 2 ^ 32 })
  (s1.bump Addr.JRN_CNT_FWD).emitMore
    (.link 0x20 tag 0 (natBytes 2 r.src ++ natBytes 2 r.typ ++ natBytes 4 r.payload.length ++ r.payload))

/-- JOURNAL_SEQUENCING (R372): the first queued request whose turn has come is sequenced, forwarded or answered. -/
def State.jrnSequence (s : State) : State :=
  match firstTurn s [] s.jrn.queue with
  | none => s
  | some (r, t, rest) =>
    let s1 := (s.updJrn (fun j => { j with queue := rest })).jrnShow
    match t with
    | .go => s1.sequence r [r.issuer]
    | .status n => s1.jFail r.typ n r.issuer
    | .forward => s1.forward r
    | .wait => s

/-! ## Signing -/

/-- The identifier of a public key (R366). -/
def keyId (pub : List Byte) : List Byte := (sha256 pub).take 8

/-- The signature of a message with a private key: the first candidate for the secret number that the standard accepts, of the
candidates of the signing numbered u (R366; log 6). -/
def signBytes (d : Nat) (msg : List Byte) (u : Nat) : List Byte :=
  ((List.range 8).findSome? (fun i => ecdsaSign d (1 + Config.nonce u i % (p384N - 1)) msg)).getD (List.replicate 96 0)

/-- The model's next number for a free value. -/
def State.fresh (s : State) : Nat × State := (s.free, { s with free := s.free + 1 })

/-- A seal record's payload (R366, R367). -/
def State.sealPayload (s : State) (g : Signing) : List Byte × State :=
  let m := natBytes 8 g.seq ++ natBytes 8 (s.rd Addr.JRN_EPOCH).toNat ++ g.hash
  match s.keys.jrnKey with
  | none => (m ++ List.replicate 104 0, s)
  | some n =>
    let u := s.fresh
    (m ++ signBytes n m u.1 ++ keyId (pubKey n), u.2)

/-- SEAL_RECORD (R365, R366): the running signing ends and its seal record is the next entry. -/
def State.sealRecord (s : State) : State :=
  match s.jrn.signing with
  | none => s
  | some g =>
    if !s.signs || !s.jrnRoom 152 then s
    else
      let r := s.sealPayload g
      let s1 := r.2.updJrn (fun j => { j with signing := none, covered := g.seq })
      let s2 := s1.sequence ⟨0xF001, 0x0200, r.1, .none⟩ g.waiters
      (s2.bump Addr.JRN_CNT_SEAL).signStart.jrnShow

/-- JRN_SEAL_CMD (R365): a signing is requested without a receipt. The request is IGNORED where `JSEAL` would return a status
(R369; log 77). -/
def State.jrnSealCmd (s : State) : State :=
  if s.standby || s.jrn.halted || decide (2 ≤ s.jState) then s.setFld Addr.JRN_STATUS 30 2 1
  else ((s.updJrn (fun j => { j with sealWant := true })).signStart).setFld Addr.JRN_STATUS 30 2 0

/-- `JSEAL` asks for a signing and waits for its record (R369). -/
def State.sealRequest (s : State) (i : JIssuer) : State :=
  (s.updJrn (fun j => { j with sealWant := true, sealWaiters := j.sealWaiters ++ [i] })).signStart

/-- JRN_CLRCNT (R391). -/
def State.jrnClrCnt (s : State) : State :=
  ((((((s.wr Addr.JRN_CNT_APP 0).wr Addr.JRN_CNT_FULL 0).wr Addr.JRN_CNT_SEAL 0).wr Addr.JRN_CNT_RETX 0).wr
    Addr.JRN_CNT_ACKBAD 0).wr Addr.JRN_CNT_FWD 0).setFld Addr.JRN_STATUS 30 2 0

/-! ## Durability -/

/-- The key store's final head follows the entries that enter the write buffer (R378). -/
def State.finalHead (s : State) (seq : Nat) (h : List Byte) : State :=
  { s with keys := { s.keys with finalSeq := seq, finalH := h } }

/-- Is an entry the mode-change record of a lost partner (R381)? -/
def JEntry.partnerLost (e : JEntry) : Bool := e.typ == 0xF008 && (e.data.getD 66 0).toNat == 3

/-- Is the write buffer hold-up-protected (R533)? -/
def State.holdupOk (s : State) : Bool := s.fld Addr.PWR_STATUS 3 1 == 1

/-- The first entry that is not in the write buffer enters it; while the buffer is not hold-up-protected it goes on to the
array, after those that lie in the buffer (R533, log 96). The record of a lost partner releases every entry up to its own
(R374, R382). -/
def State.enterBuffer (s0 : State) : State :=
  let s := s0.updJrn (fun j => { j with ring := j.ring.map (fun e => { e with drain := false }) })
  match s.jrn.ring.find? (fun e => !e.loc) with
  | none => s
  | some e =>
    let free (x : JEntry) : Bool := e.partnerLost && decide (x.seq ≤ e.seq)
    let s1 := s.updJrn (fun j =>
      { j with ring := j.ring.map (fun x => { x with loc := x.loc || x.seq == e.seq, sync := x.sync && !free x }) })
    (s1.storeEntry e).finalHead e.seq e.hash

/-- Does an entry meet R374? -/
def State.durNow (s : State) (e : JEntry) : Bool :=
  e.loc && (!e.drain || s.holdupOk) && (!e.sync || decide (e.seq ≤ (s.rd Addr.JRN_PACK_SEQ).toNat))

/-- One entry reaches its durability point: it is acknowledged, `DRW_LAST_SEQ` follows a draw record (R407), and whoever waits
for it is answered. -/
def State.makeDur (s : State) (e : JEntry) : State :=
  let s1 := s.updJrn (fun j =>
    { j with ring := j.ring.map (fun x => if x.seq == e.seq then { x with dur := true, issuers := [] } else x) })
  let s2 := s1.wr Addr.JRN_DUR_SEQ (BitVec.ofNat 64 (max (s1.rd Addr.JRN_DUR_SEQ).toNat e.seq))
  let s3 := if e.typ = 0xF00A then s2.wr Addr.DRW_LAST_SEQ (BitVec.ofNat 64 e.seq) else s2
  s3.jReceipts e.seq e.typ e.issuers

/-- Every entry of a list that meets R374 reaches its durability point, in sequence order. -/
def State.makeDurs (s : State) : List JEntry → State
  | [] => s
  | e :: es => (if !e.dur && s.durNow e then s.makeDur e else s).makeDurs es

/-- DURABILITY_POINT (R374), for the journal: the next entry enters the write buffer, and every entry that meets R374 is
durable and answered. A stopped engine mints no receipt (R375). -/
def State.jrnDurable (s : State) : State :=
  let s1 := s.enterBuffer
  if s1.jState = 3 || s1.jrn.halted then s1 else (s1.makeDurs s1.jrn.ring).signStart

/-- HOLDUP_MEASURE (R533), for the journal: entries in a buffer that is no longer hold-up-protected wait for the array, and those
of one that is again are durable where R374 says so. -/
def State.jrnHoldup (s : State) (ok : Bool) : State :=
  if ok then (if s.jState = 3 || s.jrn.halted then s else s.makeDurs s.jrn.ring)
  else s.updJrn (fun j => { j with ring := j.ring.map (fun e => { e with drain := e.drain || (e.loc && !e.dur) }) })

/-- The issuers that wait for entries not yet durable. -/
def State.heldIssuers (s : State) : List JIssuer := s.jrn.ring.flatMap (fun e => if e.dur then [] else e.issuers)

/-- No issuer waits for an entry any more. -/
def State.dropIssuers (s : State) : State :=
  s.updJrn (fun j => { j with ring := j.ring.map (fun e => { e with issuers := [] }) })

/-- JOURNAL_DUPCMP (R375): sequencing stops, no receipt is minted from here on, and every request without one returns
STOPPED. -/
def State.jrnDupcmp (s : State) : State :=
  let s1 := (s.setFld Addr.JRN_STATUS 0 3 3).setBit Addr.JRN_ERR 4
  let s2 := s1.notify 3 0x05 3 3 0
  let s3 := s2.dropIssuers.updJrn (fun j => { j with fwd := [] })
  ((s3.jrnFlush 8 (fun _ => false)).jStatusAll 8 s2.heldIssuers).jFailReqs 8 (s2.jrn.fwd.map (fun x => x.2))

/-- Where an entry's place in the ring begins, its skip marker included. -/
def JEntry.start (e : JEntry) : Nat := if e.skip = 0 then e.off else arraySize - e.skip

/-- Power loss or a commanded reset reaches the engine (R376): it stops sequencing, what has not entered the buffer is
discarded, the buffer and the ring positions are kept, and nobody is answered. -/
def State.jrnStop (s : State) : State :=
  let keep := s.jrn.ring.filter (fun (e : JEntry) => e.loc)
  let gone := s.jrn.ring.find? (fun e => !e.loc)
  let head := (gone.map JEntry.start).getD (s.fld Addr.JRN_HEAD_OFF 0 38)
  let pos := if s.jrn.opening then ⟨head, s.fld Addr.JRN_ARCH_OFF 0 38, (s.rd Addr.JRN_ARCH_SEQ).toNat⟩ else s.jrn.pos
  let s1 := s.updJrn (fun j =>
    { j with ring := keep.map (fun e => { e with issuers := [] }), queue := [], signing := none,
             sealWant := false, sealWaiters := [], fwd := [], inbox := [], halted := true, pos := pos,
             headH := (gone.map (fun e => (e.data.drop 0x20).take 32)).getD j.headH })
  let s2 := s1.setFld Addr.JRN_HEAD_OFF 0 38 head
  (match gone with
   | none => s2
   | some e => s2.wr Addr.JRN_HEAD_SEQ (BitVec.ofNat 64 (e.seq - 1))).jrnShow

/-- The alarm state of the engine (R376): queued requests return ALARMED but for the security monitor's records. An engine that
is STOPPED or EXHAUSTED stays so. -/
def State.jrnAlarmed (s : State) : State :=
  if s.jState = 3 || s.jState = 5 then s
  else (s.setFld Addr.JRN_STATUS 0 3 4).jrnFlush 6 (fun r => decide (r.src = 0x0203) || r.typ == 0xF003)

/-! ## Epochs -/

/-- The replication state, with the notice of a change (R391). -/
def State.setRepl (s : State) (st : Nat) : State :=
  if s.fld Addr.JRN_REPL_STATUS 1 3 = st then s else (s.setFld Addr.JRN_REPL_STATUS 1 3 st).jrnEvt 3

/-- The sequence that the last seal record of the ring covers, zero where the ring has none (R365, R366). -/
def lastCovered (ring : List JEntry) : Nat :=
  match ring.reverse.find? (fun e => e.typ == 0xF001) with
  | none => 0
  | some e => bytesNat ((e.data.drop 64).take 8)

/-- The engine finds the ring again from the positions recorded at the last shutdown (R377): the head after the last entry of
the array, the archive point as recorded, and the drain point back at it. -/
def State.findRing (s : State) (lseq seq : Nat) : State :=
  let p := s.jrn.pos
  let head := (s.jrn.ring.getLast?.map (fun e => (e.off + e.size) % arraySize)).getD p.head
  let s1 := ((s.setFld Addr.JRN_HEAD_OFF 0 38 head).setFld Addr.JRN_ARCH_OFF 0 38 p.arch).wr Addr.JRN_HEAD_SEQ
    (BitVec.ofNat 64 seq)
  let s2 := ((s1.wr Addr.JRN_DUR_SEQ (BitVec.ofNat 64 lseq)).wr Addr.JRN_ARCH_SEQ (BitVec.ofNat 64 p.archSeq)).wr
    Addr.JRN_DRAIN_SEQ (BitVec.ofNat 64 p.archSeq)
  s2.updJrn (fun j => { j with ring := j.ring.map (fun e => { e with dur := true, sync := false }), drained := p.archSeq,
                               covered := lastCovered j.ring })

/-- The epoch-open record's payload (R377). -/
def epochPayload (s : State) (ep lseq : Nat) (lh : List Byte) (mis : Bool) : List Byte :=
  let kid := match s.keys.jrnKey with
    | none => List.replicate 8 (0 : Byte)
    | some n => keyId (pubKey n)
  natBytes 8 ep ++ natBytes 8 s.keys.finalSeq ++ natBytes 8 lseq ++ lh ++ natBytes 4 (s.rd Addr.PWR_RSTCAUSE).toNat
    ++ natBytes 4 (b2n mis + b2n s.keys.keyChanged * 2) ++ kid ++ sha256 s.bootSt.log ++ s.bootSt.log

/-- A standby asks to join when its array holds nothing that the archive has not acknowledged (R385), once it has found its
last entry (R377). -/
def State.askJoin (s : State) : State :=
  if !s.standby || !s.jrn.opening then s
  else if s.liveEntries.isEmpty then
    s.emitMore (.link 0x02 0 0 (natBytes 8 Config.moduleId.toNat ++ natBytes 8 (s.rd Addr.JRN_HEAD_SEQ).toNat ++ s.jrn.headH))
  else s.setRepl 3

/-- The records of a boot (R377, R454): the epoch-open record ahead of every other, then that of a recovery from ALARMED. With
the last sequence used, none can be appended (R364). -/
def State.epochRecords (s : State) (payload : List Byte) (seq : Nat) : State :=
  let s1 := if 2 ^ 64 - 2 ≤ seq then (s.exhaust).setBit Addr.JRN_ERR 5 else s.jrnAhead ⟨0xF000, 0x0200, payload, .epoch⟩
  match s1.keys.recovered with
  | none => s1
  | some b => { (s1.jrnRequest ⟨0xF00B, 0x0203, b, .none⟩) with keys := { s1.keys with recovered := none } }

/-- EPOCH_OPEN (R377, R378): the epoch number rises, the last entry of the array is found, and the epoch-open record is
requested ahead of every other. -/
def State.epochOpen (s : State) : State :=
  if s.jrn.opening || s.jrn.halted || !s.bootSt.closed || 3 ≤ s.lcState || !(s.jState == 0) then s
  else
    let ep := s.keys.epoch + 1
    let last := s.jrn.ring.getLast?
    let lseq := (last.map (fun e => e.seq)).getD 0
    let lh := (last.map (fun e => e.hash)).getD (List.replicate 32 0)
    let seq := max lseq s.keys.finalSeq
    let mis := !(lseq == s.keys.finalSeq && lh == s.keys.finalH)
    let s1 := { s with keys := { s.keys with epoch := ep, keyChanged := false }, draw := { s.draw with ids := [] } }
    let s2 := (s1.findRing lseq seq).wr Addr.JRN_EPOCH (BitVec.ofNat 64 ep)
    let s3 := if mis then s2.setBit Addr.JRN_ERR 3 else s2
    let s4 := s3.updJrn (fun j => { j with opening := true, headH := s.keys.finalH })
    let s5 := (s4.epochRecords (epochPayload s ep lseq lh mis) seq).setFld Addr.SEN_BOOT 0 4 4
    (if s5.linkUp then s5.askJoin else s5).drawShow

/-! ## Halted pairs -/

/-- The un-journaled adds of a halted pair as its record lists them (R380). -/
def addBytes (a : UnjAdd) : List Byte :=
  natBytes 8 a.stampTime ++ natBytes 2 a.stampPort ++ natBytes 2 0 ++ natBytes 4 a.task ++ natBytes 8 a.cell
    ++ natBytes 16 a.amount.toNat

/-- Does an issuer belong to a pair? -/
def JIssuer.ofPair (p : Nat) : JIssuer → Bool
  | .bank q _ _ _ => q == p
  | _ => false

/-- Has the record of a halted pair been requested, or the pair been re-dispatched after it? -/
def State.haltAsked (s : State) (p : Nat) : Bool :=
  s.jrn.queue.any (fun r => r.issuer == .halt p) || s.jrn.fwd.any (fun x => x.2.issuer == .halt p)
    || s.evd.redisp.any (fun e => e.1 == p) || (s.pair p).redispDone

/-- Has a pair sent an append that has no sequence yet, here or at the primary? -/
def State.unsequenced (s : State) (p : Nat) : Bool :=
  s.jrn.queue.any (fun r => r.issuer.ofPair p) || s.jrn.fwd.any (fun x => x.2.issuer.ofPair p)

/-- Entries of a pair's appends that are not durable: their receipts will be discarded (R277, R380). -/
def State.heldAppends (s : State) (p : Nat) : List Nat :=
  (s.jrn.ring.filter (fun e => !e.dur && e.typ != 0xF001 && e.issuers.any (JIssuer.ofPair p))).map (fun e => e.seq)

/-- A halted pair's appends have been listed: none of its receipts is listed again. -/
def State.forgetAppends (s : State) (p : Nat) : State :=
  s.updJrn (fun j => { j with
    orphans := j.orphans.filter (fun o => !(o.1 == p)),
    ring := j.ring.map (fun e => { e with issuers := e.issuers.filter (fun i => !i.ofPair p) }) })

/-- DIVERGENCE_RECORD and HALT_RECORD (R380): the record of a halted pair, after settlement, once every append that it had
sent has a sequence. -/
def State.haltRecord (s : State) (p : Nat) (cause : HaltCause) : State :=
  if !((s.pair p).halt == some cause) || s.haltAsked p || !s.tallySettled p || s.unsequenced p then s
  else
    let l := s.unjList p
    let orph := (s.jrn.orphans.filter (fun o => o.1 == p)).map (fun o => o.2)
    let m := (orph ++ s.heldAppends p).take 15
    let regs := if cause = .lockup then
        ((s.pair p).lockRec.flatMap (fun c => natBytes 8 c.addr) ++ List.replicate 32 (0 : Byte)).take 32
      else List.replicate 32 (0 : Byte)
    let payload := natBytes 2 p ++ natBytes 1 (b2n l.ovf) ++ natBytes 1 l.adds.length ++ natBytes 1 m.length
      ++ natBytes 3 0 ++ regs ++ l.adds.flatMap addBytes ++ m.flatMap (natBytes 8)
    (s.forgetAppends p).jrnRequest ⟨if cause = .lockup then 0xF005 else 0xF004, 0x0204, payload, .halt p⟩

/-! ## Lookup -/

/-- Does an entry lie at or after the archive point (R356)? -/
def State.inRing (s : State) (e : JEntry) : Bool := decide ((s.rd Addr.JRN_ARCH_SEQ).toNat < e.seq)

/-- JRN_LOOKUP (R391): a lookup starts. -/
def State.jrnLookup (s : State) (seq : Word) : State :=
  (s.wr Addr.JRN_LOOKUP seq).wr Addr.JRN_LOOKUP_RES (BitVec.ofNat 64 (2 ^ 62))

/-- LOOKUP_COMPLETE (R391): the offset of a durable entry of the ring. -/
def State.lookupDone (s : State) : State :=
  if s.fld Addr.JRN_LOOKUP_RES 62 1 = 0 then s
  else
    match s.jrn.ring.find? (fun e => e.seq == (s.rd Addr.JRN_LOOKUP).toNat && e.dur && s.inRing e) with
    | none => s.wr Addr.JRN_LOOKUP_RES 0
    | some e => s.wr Addr.JRN_LOOKUP_RES (BitVec.ofNat 64 (e.off + 2 ^ 63))

/-! ## Replication -/

/-- `LAG`: entries sent and not acknowledged, saturating (R382). -/
def State.jrnLag (s : State) : State :=
  s.setFld Addr.JRN_REPL_STATUS 32 32 (min (s.jrn.sent - (s.rd Addr.JRN_PACK_SEQ).toNat) (2 ^ 32 - 1))

/-- A mode-change record requested (R381): new mode, cause, DOWNPOL after the change; the old mode is filled in at the sequencing
point. -/
def State.modeRecord (s : State) (new cause downpol : Nat) : State :=
  s.jrnRequest ⟨0xF008, 0x0200, [0, BitVec.ofNat 8 new, BitVec.ofNat 8 cause, BitVec.ofNat 8 downpol], .none⟩

/-- JRN_REPL_WRITE (R381): a change of MODE or DOWNPOL is recorded, and entries follow the record. -/
def State.replChange (s : State) (mode downpol acktoUs cause : Nat) : State :=
  let old := s.fld Addr.JRN_REPL 0 3
  let s1 := s.setFld Addr.JRN_REPL 8 16 acktoUs
  let s2 := s1.setFld Addr.JRN_REPL 0 3 (mode + downpol * 4)
  if old = mode + downpol * 4 then s2 else s2.modeRecord mode cause downpol

/-- ENTRY_SEND (R382): the primary sends a partner that has joined the next entry that is durable locally. -/
def State.entrySend (s : State) : State :=
  if s.standby || !s.jrn.joined || !s.linkUp || s.fld Addr.CWL_STATUS 2 1 = 0 || s.jrn.mode = 0 then s
  else
    match s.jrn.ring.find? (fun e => e.loc && decide (s.jrn.sent < e.seq)) with
    | none => s
    | some e =>
      let len := bytesNat ((e.data.drop 0x10).take 4)
      ((s.updJrn (fun j => { j with sent := e.seq })).emitMore
        (.link 0x10 0 e.seq (e.data.take (64 + len)))).jrnLag

/-- ENTRY_ACK (R382): the partner's cumulative acknowledgement. -/
def State.entryAck (s : State) (seq : Nat) : State :=
  let old := (s.rd Addr.JRN_PACK_SEQ).toNat
  if s.standby || seq ≤ old || s.jrn.sent < seq then s
  else
    let s1 := (s.wr Addr.JRN_PACK_SEQ (BitVec.ofNat 64 seq)).jrnLag
    let st := s1.fld Addr.JRN_REPL_STATUS 1 3
    let caught := match s1.jrn.ring.reverse.find? (fun e => e.loc) with
      | none => true
      | some e => decide (e.seq ≤ seq)
    if (st = 1 || st = 0) && caught then s1.setRepl 2 else s1

/-- What the primary does when the partner does not answer (R382). -/
def State.partnerSilent (s : State) : State :=
  if s.standby then s
  else if s.jrn.mode = 2 && s.fld Addr.JRN_REPL 2 1 == 1 then
    if s.jrn.queue.any (fun r => r.typ == 0xF008 && (r.payload.getD 2 0).toNat == 3) then s
    else (s.modeRecord 1 3 1).setRepl 5
  else if s.fld Addr.JRN_REPL_STATUS 1 3 = 5 then s
  else s.setRepl 0

/-- ACK_TIMEOUT (R382): entries sent have not been acknowledged within ACKTO_US. A drain waits no longer for its record's
acknowledgement (R535). -/
def State.ackTimeout (s0 : State) : State :=
  let s := if s0.jState = 2 then { s0 with pwr := { s0.pwr with ackOver := true } } else s0
  if s.jrn.sent ≤ (s.rd Addr.JRN_PACK_SEQ).toNat then s else s.partnerSilent

/-- Does a standby's entry follow its head (R383)? The first entry after a join sets the head (R385). -/
def State.entryFits (s : State) (seq : Nat) (body : List Byte) : Bool :=
  s.jrn.rejoin
    || (decide (seq = (s.rd Addr.JRN_HEAD_SEQ).toNat + 1) && ((body.drop 0x20).take 32 == s.jrn.headH))

/-- The draw-ID table of a standby follows what it receives (R401): the ID of a draw record enters it, and an epoch-open record
of the primary empties it. -/
def State.idsFollow (s : State) (typ : Nat) (body : List Byte) : State :=
  if typ = 0xF00A then
    ({ s with draw := { s.draw with ids := smSet (always none) s.draw.ids (bytesNat ((body.drop 64).take 8)) (some true) } }).drawShow
  else if typ = 0xF000 && !(bytesNat ((body.drop 0x18).take 4)).testBit 2 then
    ({ s with draw := { s.draw with ids := [] } }).drawShow
  else s

/-- The first entry after a join (R385): the ring begins with it, and everything before it is the archive's. -/
def State.ringFrom (s : State) (seq : Nat) : State :=
  if s.jrn.rejoin then
    ((s.wr Addr.JRN_ARCH_SEQ (BitVec.ofNat 64 (seq - 1))).wr Addr.JRN_DRAIN_SEQ (BitVec.ofNat 64 (seq - 1))).updJrn
      (fun j => { j with rejoin := false, drained := seq - 1 })
  else s

/-- A received entry as it is stored, byte for byte (R383). -/
def State.receivedEntry (s : State) (seq : Nat) (body : List Byte) : JEntry :=
  let len := body.length - 64
  let size := 64 + len + padOf len
  let at_ := placeEntry (s.fld Addr.JRN_HEAD_OFF 0 38) size
  ⟨seq, at_.1, size, bytesNat ((body.drop 0x14).take 2), body ++ List.replicate (padOf len) 0, sha256 body, false, true, false, true, [],
    at_.2 - size⟩

/-- A standby stores a received entry that follows its head, and acknowledges it (R359, R364, R365, R383). -/
def State.takeEntry (s0 : State) (seq : Nat) (body : List Byte) : State :=
  let s := s0.ringFrom seq
  let e := s.receivedEntry seq body
  let s1 := (((s.placeAt e).storeEntry e).wr Addr.JRN_HEAD_SEQ (BitVec.ofNat 64 seq)).wr Addr.JRN_DUR_SEQ (BitVec.ofNat 64 seq)
  let s2 := (s1.updJrn (fun j => { j with
    headH := e.hash, lastTime := max j.lastTime (bytesNat ((body.drop 8).take 8)),
    covered := if e.typ = 0xF001 then bytesNat ((body.drop 64).take 8) else j.covered })).finalHead seq e.hash
  let s3 := s2.idsFollow e.typ body
  let s4 := if s3.fld Addr.JRN_REPL_STATUS 1 3 = 1 && decide (s3.cwl.partnerDur ≤ seq) then s3.setRepl 2 else s3
  let s5 := if seq = 2 ^ 64 - 2 then s4.exhaust else s4
  s5.jrnOcc.emitMore (.link 0x11 0 seq [])

/-- Received entries in order (R383): one at or below the head is discarded and the head acknowledged again (R507); one that does
not follow the head forks; one for which the ring has no room waits (R356). -/
def State.takeInbox (s : State) : List (Nat × List Byte) → State
  | [] => s.updJrn (fun j => { j with inbox := [] })
  | (seq, body) :: es =>
    let head := (s.rd Addr.JRN_HEAD_SEQ).toNat
    if !s.standby || s.jrn.halted || s.fld Addr.JRN_REPL_STATUS 1 3 = 4 then s.updJrn (fun j => { j with inbox := [] })
    else if !s.jrn.rejoin && decide (seq ≤ head) then (s.emitMore (.link 0x11 0 head [])).takeInbox es
    else if !s.entryFits seq body then ((s.setRepl 4).setBit Addr.JRN_ERR 2).updJrn (fun j => { j with inbox := [] })
    else if !s.jrnRoom (body.length - 64) then s.updJrn (fun j => { j with inbox := (seq, body) :: es })
    else (s.takeEntry seq body).takeInbox es

/-- ENTRY (R383): a standby receives an entry, checks it, stores it and acknowledges it. -/
def State.entryIn (s : State) (seq : Nat) (body : List Byte) : State := s.takeInbox (s.jrn.inbox ++ [(seq, body)])

/-- The record of a takeover (R384), ahead of every other request, and the forwarded records after it. Nothing has been
acknowledged to the new primary yet. -/
def State.takeRole (s : State) (cause : Nat) : State :=
  let payload := natBytes 8 (s.rd Addr.JRN_HEAD_SEQ).toNat ++ s.jrn.headH ++ natBytes 8 s.cwl.partnerId
    ++ natBytes 1 s.jrn.mode ++ natBytes 1 cause
  let s1 := (s.setFld Addr.JRN_REPL_STATUS 0 1 0).wr Addr.JRN_PACK_SEQ 0
  let s2 := s1.updJrn (fun j =>
    { j with queue := ⟨0xF006, 0x0200, payload, .none⟩ :: (j.fwd.map (fun x => x.2) ++ j.queue), fwd := [],
             rejoin := false, joined := false, inbox := [], sent := 0 })
  (s2.jrnLag.setRepl 0).jrnShow

/-- Is a reported head an entry of this module's chain (R385): an entry of the ring, the head, or the entry before the oldest one
of the ring? A module that holds no entry at all forks from nothing. -/
def State.onChain (s : State) (head : Nat) (h : List Byte) : Bool :=
  head == 0 || (head == (s.rd Addr.JRN_HEAD_SEQ).toNat && h == s.jrn.headH)
    || s.jrn.ring.any (fun e => (e.seq == head && e.hash == h) || (e.seq == head + 1 && (e.data.drop 0x20).take 32 == h))

/-- JOIN_REQ (R385): the primary records the join, answers, and streams from its archive point. -/
def State.joinReq (s : State) (ident head : Nat) (h : List Byte) : State :=
  if s.standby then s
  else
    let on := s.onChain head h
    let payload := natBytes 8 ident ++ natBytes 8 head ++ (h ++ List.replicate 32 (0 : Byte)).take 32 ++ natBytes 1 (b2n !on)
    let s1 := s.jrnRequest ⟨0xF007, 0x0200, payload, .none⟩
    let s2 := (if on then s1 else s1.setBit Addr.JRN_ERR 2).wr Addr.JRN_PACK_SEQ (s.rd Addr.JRN_ARCH_SEQ)
    let s3 := (s2.updJrn (fun j => { j with sent := (s.rd Addr.JRN_ARCH_SEQ).toNat, joined := true })).jrnLag
    (s3.setRepl 1).emitMore (.link 0x03 0 (if on then 0 else 2) [])

/-- JOIN_RESP (R385): the joiner abandons its ring and catches up, or waits for its archive. An issuer that still waits for an
entry of the abandoned ring gets NOT_PRIMARY (log 76). -/
def State.joinResp (s : State) (code : Nat) : State :=
  if !s.standby then s
  else if code = 1 then s.setRepl 3
  else
    let s1 := (s.dropIssuers.updJrn (fun j => { j with ring := [], rejoin := true, joined := true, inbox := [] })).jStatusAll 5
      s.heldIssuers
    let s2 := ((s1.wr Addr.JRN_ARCH_OFF (s1.rd Addr.JRN_HEAD_OFF)).wr Addr.JRN_ARCH_SEQ (s1.rd Addr.JRN_HEAD_SEQ)).wr
      Addr.JRN_DRAIN_SEQ (s1.rd Addr.JRN_HEAD_SEQ)
    ((if code = 2 then s2.setBit Addr.JRN_ERR 2 else s2).setRepl 1).jrnOcc

/-- FWD_REQ (R383, R507): the primary takes a forwarded record; a repeated tag gets its first reply again. -/
def State.fwdReq (s : State) (tag : Nat) (body : List Byte) : State :=
  if s.standby then s
  else
    match s.jrn.replies.find? (fun r => r.1 == tag) with
    | some (_, ok, v) => s.emit [.link (if ok then 0x21 else 0x22) tag v []]
    | none =>
      let busy := s.jrn.queue.any (fun r => r.issuer == .remote tag)
        || s.jrn.ring.any (fun e => e.issuers.contains (.remote tag))
      if busy then s
      else
        let len := bytesNat ((body.drop 4).take 4)
        (s.bump Addr.JRN_CNT_FWD).jrnRequest
          ⟨bytesNat ((body.drop 2).take 2), bytesNat (body.take 2), (body.drop 8).take len, .remote tag⟩

/-- The forwarded record of a tag. -/
def State.fwdOf (s : State) (tag : Nat) : Option JReq := (s.jrn.fwd.find? (fun x => x.1 == tag)).map (fun x => x.2)

/-- A forwarded record is answered. -/
def State.dropFwd (s : State) (tag : Nat) : State :=
  s.updJrn (fun j => { j with fwd := j.fwd.filter (fun x => !(x.1 == tag)) })

/-- FWD_RECEIPT (R383): the primary's receipt reaches the standby's issuer. -/
def State.fwdReceipt (s : State) (tag seq : Nat) : State :=
  match s.fwdOf tag with
  | none => s
  | some r => ((s.dropFwd tag).sequenced seq r).jReceipt seq r.typ r.issuer

/-- FWD_STATUS (R383): the primary's status reaches the standby's issuer. -/
def State.fwdStatus (s : State) (tag st : Nat) : State :=
  match s.fwdOf tag with
  | none => s
  | some r => (s.dropFwd tag).jFail r.typ st r.issuer

/-! ## Archive drain -/

/-- The entries that the next drain frame takes: durable ones in sequence order, within MAXB bytes (R386). -/
def drainTake (ok : JEntry → Bool) (maxb : Nat) (next used : Nat) : List JEntry → List JEntry
  | [] => []
  | e :: es =>
    if e.seq = next && ok e && decide (used + e.size ≤ maxb) then e :: drainTake ok maxb (next + 1) (used + e.size) es
    else if e.seq < next then drainTake ok maxb next used es
    else []

/-- May an entry go to the archive: it is durable, or it is held on a module that has lost the primary role and must empty its
array before it can join (R385, R386; log 76). -/
def State.drains (s : State) (e : JEntry) : Bool := e.dur || (s.standby && e.loc)

/-- The first sequence of the ring after one. -/
def nextSeq (after : Nat) : List JEntry → Nat
  | [] => after + 1
  | e :: es => if after < e.seq then e.seq else nextSeq after es

/-- The EtherType and addresses of a frame that the module sends on a port (R386). -/
def frameHead (port dmac etype : Nat) : List Byte :=
  natBytesBE 6 dmac ++ natBytesBE 6 (Config.portMac port).toNat ++ natBytesBE 2 etype

/-- DRAIN_FRAME (R386). -/
def State.drainFrame (s : State) : State :=
  let port := s.fld Addr.JRN_ARCH_CFG 0 2
  let last := (s.rd Addr.JRN_DRAIN_SEQ).toNat
  let es := drainTake s.drains (s.fld Addr.JRN_ARCH_CFG 24 14) (nextSeq last s.jrn.ring) 0 s.jrn.ring
  if s.fld Addr.JRN_CTRL 1 1 = 0 || s.fld Addr.NET_STATUS port 1 = 0 then s
  else
    match es.head?, es.getLast? with
    | some a, some z =>
      let hdr := natBytes 2 1 ++ natBytes 2 0 ++ natBytes 4 es.length ++ natBytes 8 Config.moduleId.toNat ++ natBytes 8 a.seq
        ++ natBytes 8 (s.rd Addr.JRN_EPOCH).toNat
      let s1 := (s.wr Addr.JRN_DRAIN_SEQ (BitVec.ofNat 64 z.seq)).updJrn (fun j => { j with drained := max j.drained z.seq })
      s1.emit [.frame port (frameHead port (s.fld Addr.JRN_ARCH_MAC 0 48) (s.fld Addr.JRN_ARCH_MAC 48 16) ++ hdr
        ++ es.flatMap (fun e => e.data))]
    | _, _ => s

/-- Where the archive point stands after an entry: at the next entry of the ring, or at the head (R387). -/
def State.afterEntry (s : State) (seq : Nat) : Nat :=
  match s.jrn.ring.find? (fun e => decide (seq < e.seq)) with
  | some e => e.off
  | none => s.fld Addr.JRN_HEAD_OFF 0 38

/-- Is an acknowledgement good (R387)? -/
def State.archOk (s : State) (b : List Byte) : Bool :=
  let seq := bytesNat ((b.drop 0x10).take 8)
  (b.length == 152) && bytesNat (b.take 2) == 2 && (b.drop 2).take 6 == List.replicate 6 0
    && bytesNat ((b.drop 8).take 8) == Config.moduleId.toNat
    && decide ((s.rd Addr.JRN_ARCH_SEQ).toNat < seq) && decide (seq ≤ s.jrn.drained)
    && s.jrn.ring.any (fun e => e.seq == seq && e.hash == (b.drop 0x18).take 32)
    && (match s.keys.archive with
        | none => false
        | some k => verifies k (b.take 0x38) (b.drop 0x38))

/-- ARCHIVE_ACK (R387): a good acknowledgement advances the archive point, and the drain skips what is acknowledged (R390); any
other is discarded and counted. -/
def State.archiveAck (s : State) (b : List Byte) : State :=
  if s.archOk b then
    let seq := bytesNat ((b.drop 0x10).take 8)
    let off := s.afterEntry seq
    let s1 := (s.wr Addr.JRN_ARCH_SEQ (BitVec.ofNat 64 seq)).setFld Addr.JRN_ARCH_OFF 0 38 off
    let s2 := s1.wr Addr.JRN_DRAIN_SEQ (BitVec.ofNat 64 (max seq (s.rd Addr.JRN_DRAIN_SEQ).toNat))
    let s3 := (s2.takeInbox s2.jrn.inbox).jrnOcc
    if s3.standby && s3.fld Addr.JRN_REPL_STATUS 1 3 == 3 then s3.askJoin else s3
  else ((s.bump Addr.JRN_CNT_ACKBAD).setBit Addr.JRN_ERR 1).evtPost Addr.JRN_EVT (0x03 + 4 * 256)

/-- ARCHIVE_RETRANSMIT (R388): the drain point returns to the archive point. -/
def State.archiveRetx (s : State) : State :=
  if (s.rd Addr.JRN_DRAIN_SEQ).toNat ≤ (s.rd Addr.JRN_ARCH_SEQ).toNat then s
  else (s.wr Addr.JRN_DRAIN_SEQ (s.rd Addr.JRN_ARCH_SEQ)).bump Addr.JRN_CNT_RETX

end Sys2Proof.Machine
end

