-- ==== Sys2Proof/Machine/Draw.lean ====
section
/-!
DEFINITION. The draw unit: tests, the DRBG, the mapping, the draw record and its completion (R392-R407).
-/
namespace Sys2Proof.Machine

/-- `DRW_STATUS.STATE`. -/
def State.drwState (s : State) : Nat := s.fld Addr.DRW_STATUS 0 3
/-- The unit with a function applied. -/
def State.updDraw (s : State) (f : Draw → Draw) : State := { s with draw := f s.draw }
/-- A notice of the draw unit: unit 0x04, bits 15:8 the code (R407). -/
def State.drwEvt (s : State) (code : Nat) : State := s.evtPost Addr.DRW_EVT (0x04 + code * 256)

/-- A request joins the unit's queue (R397). -/
def State.drawAsk (s : State) (r : DrawReq) : State := (s.updDraw (fun d => { d with queue := d.queue ++ [r] })).drawShow

/-- Is a detach in progress (R396)? -/
def State.detaching (s : State) : Bool := !(s.pwr.trigger == 0) || s.drwState == 5

/-- BADARG (R396). -/
def DrawReq.bad (r : DrawReq) : Bool :=
  r.k == 0 || (!r.wor && decide (496 < r.k))
    || (r.wor && (decide (64 < r.k) || r.n == 0 || decide (65536 < r.n) || decide (r.n < r.k)))

/-- The status that a request gets before it is generated, in the order of R396. -/
def State.drawTest (s : State) (r : DrawReq) : Option Nat :=
  if r.bad then some 0x02
  else if s.standby then some 0x05
  else if s.lcState = 3 || s.lcState = 4 || s.hold || s.drwState == 4 then some 0x06
  else if s.detaching then some 0x07
  else if s.drwState = 3 || s.jState = 3 then some 0x08
  else if s.drwState = 2 then some 0x03
  else if smGet (always none) s.draw.ids r.id = some true then some 0x01
  else if 65536 ≤ s.draw.ids.length then some 0x09
  else none

/-- A stream of DRBG words under way (R394, R398): the words left of the Generate request in use, the reseed counter at the
first request, whether a reseed preceded it, and the rejected candidates. -/
structure Gen where
  words : List Word
  ctr0 : Option Nat
  reseeded : Bool
  rej : Nat
deriving DecidableEq, Repr

/-- No request yet. -/
def genStart : Gen := ⟨[], none, false, 0⟩

/-- n bytes of raw Glint output, which are free, and the state that has taken them (R392; log 7). -/
def State.glint (s : State) (n : Nat) : List Byte × State :=
  let u := s.fresh
  ((List.range n).map (Config.glintByte u.1), u.2)

/-- A reseed with 1,024 raw bits (R394). -/
def State.reseed (s : State) : State :=
  let e := s.glint 128
  ((e.2.bump Addr.DRW_RESEEDS).wr Addr.DRW_RESEED_CTR 1).updDraw
    (fun d => { d with reseedAt := s.clk, drbg := drbgReseed d.drbg e.1 })

/-- Does the unit reseed before a Generate request (R394)? -/
def State.reseedDue (s : State) (first : Bool) : Bool :=
  decide (s.fld Addr.DRW_RESEED 0 32 < (s.rd Addr.DRW_RESEED_CTR).toNat)
    || (!(s.fld Addr.DRW_RESEED 32 16 == 0) && decide (s.fld Addr.DRW_RESEED 32 16 * 1000000 < s.clk - s.draw.reseedAt))
    || (first && s.fld Addr.DRW_CTRL 0 1 == 1)

/-- A Generate request of 4,096 bits, taken as 64 little-endian words (R394). -/
def generate (s : State) (g : Gen) : State × Gen :=
  let first := g.ctr0.isNone
  let due := s.reseedDue first
  let s1 := if due then s.reseed else s
  let c := (s1.rd Addr.DRW_RESEED_CTR).toNat
  let o := drbgGenerate s1.draw.drbg 32
  ((s1.wr Addr.DRW_RESEED_CTR (BitVec.ofNat 64 (c + 1))).updDraw (fun d => { d with drbg := o.2 }),
   { g with words := (bytesGroups 8 o.1 64).map (fun w => BitVec.ofNat 64 (bytesNat w)),
            ctr0 := if first then some c else g.ctr0, reseeded := if first then due else g.reseeded })

/-- The least m with r ≤ 2^m, searched from m. -/
def ceilLog (r m : Nat) : Nat → Nat
  | 0 => m
  | n + 1 => if r ≤ 2 ^ m then m else ceilLog r (m + 1) n

/-- `uniform` of R398 over [0, r): none where the candidates of the fuel are all rejected. -/
def uniformGo (r m : Nat) (s : State) (g : Gen) : Nat → Option (Nat × State × Gen)
  | 0 => none
  | n + 1 =>
    let x := if g.words.isEmpty then generate s g else (s, g)
    let c := (x.2.words.headD 0).toNat % 2 ^ m
    let g1 := { x.2 with words := x.2.words.tail }
    if c < r then some (c, x.1, g1) else uniformGo r m x.1 { g1 with rej := g1.rej + 1 } n

/-- One uniform value (R398): a range of 1 consumes no word. -/
def uniform (r : Nat) (s : State) (g : Gen) : Option (Nat × State × Gen) :=
  if r = 1 then some (0, s, g) else uniformGo r (ceilLog r 0 64) s g 1024

/-- A value put into a list in ascending order. -/
def insertAsc (v : Nat) : List Nat → List Nat
  | [] => [v]
  | x :: xs => if v < x then v :: x :: xs else x :: insertAsc v xs

/-- The value not in an ascending list with exactly j such values below it (R399). -/
def rankValue (j : Nat) : List Nat → Nat
  | [] => j
  | c :: cs => if c ≤ j then rankValue (j + 1) cs else j

/-- The results of a draw in draw order (R398, R399). -/
def drawMap (n : Nat) (wor : Bool) (chosen : List Nat) (s : State) (g : Gen) : Nat → Option (List Nat × State × Gen)
  | 0 => some ([], s, g)
  | k + 1 =>
    let range := if wor then n - chosen.length else if n = 0 then 2 ^ 64 else n
    match uniform range s g with
    | none => none
    | some (j, s1, g1) =>
      let v := if wor then rankValue j chosen else j
      match drawMap n wor (insertAsc v chosen) s1 g1 k with
      | none => none
      | some (vs, s2, g2) => some (v :: vs, s2, g2)

/-- The source code of a pair in records (R361, R400). -/
def pairCode (p : Nat) : Nat := if isSentinel p then 0x0100 + (p - 96) else p

/-- The draw record's payload (R400). -/
def drawPayload (s : State) (r : DrawReq) (vs : List Nat) (g : Gen) : List Byte :=
  natBytes 8 r.id ++ natBytes 8 r.n ++ natBytes 2 r.k ++ natBytes 1 (b2n r.wor + b2n g.reseeded * 2) ++ natBytes 1 0
    ++ natBytes 4 7 ++ natBytes 8 (g.ctr0.getD (s.rd Addr.DRW_RESEED_CTR).toNat) ++ natBytes 8 (s.rd Addr.DRW_RESEEDS).toNat
    ++ natBytes 8 (s.rd Addr.DRW_INST).toNat ++ natBytes 2 (pairCode r.pair) ++ natBytes 2 0 ++ natBytes 4 r.task
    ++ natBytes 8 g.rej ++ vs.flatMap (natBytes 8)

/-- A draw ID enters the table as pending (R397), with the notice at 90 % (R407). -/
def State.idPend (s : State) (id : Nat) : State :=
  let s1 := (s.updDraw (fun d => { d with ids := smSet (always none) d.ids id (some false) })).drawShow
  if s1.draw.ids.length = 58983 && s.draw.ids.length == 58982 then s1.drwEvt 3 else s1

/-- A counter raised by n, saturating. -/
def State.bumpBy (s : State) (a n : Nat) : State := s.wr a (BitVec.ofNat 64 (min ((s.rd a).toNat + n) (2 ^ 64 - 1)))

/-- DRAW_REQUEST (R397 steps 1 to 4): the unit takes the first request of its queue. -/
def State.drawRequest (s : State) : State :=
  match s.draw.queue with
  | [] => s
  | r :: rs =>
    if s.draw.act.isSome || s.drwState == 0 then s
    else
      let s1 := (s.updDraw (fun d => { d with queue := rs })).drawShow
      match s1.drawTest r with
      | some st => s1.drawFail r st false
      | none =>
        match drawMap r.n r.wor [] (s1.idPend r.id) genStart r.k with
        | none => s
        | some (vs, s2, g) =>
          let s3 := (s2.updDraw (fun d => { d with act := some ⟨r, vs, g.rej, none, false⟩ })).drawShow
          (s3.bumpBy Addr.DRW_CNT_REJ g.rej).jrnRequest ⟨0xF00A, 0x0201, drawPayload s3 r vs g, .draw⟩

/-- A draw token (R402). -/
def tokenCap (seq : Nat) : Cap := ⟨BitVec.ofNat 128 (0x0001FF07CC000000 * 2 ^ 64 + seq % 2 ^ 64), true⟩

/-- Results stored at a destination's physical parts as data stores (R72, R397). -/
def State.writeParts (s : State) : List (Nat × Nat) → List Byte → State
  | [], _ => s
  | (pa, n) :: ps, bs => ((s.dramEnter pa n).dataWrite .dram pa (bs.take n)).writeParts ps (bs.drop n)

/-- DRAW_COMPLETE (R397 steps 5 to 7): the draw's own record is durable; the results are written, then the token goes to the
bank that asked, if it still waits (R30, R277). -/
def State.drawComplete (s : State) : State :=
  match s.draw.act with
  | none => s
  | some a =>
    match a.seq with
    | none => s
    | some q =>
      if !a.dur then s
      else
        let s1 := s.writeParts a.req.dst (a.results.flatMap (natBytes 8))
        let s2 := (s1.updDraw (fun d => { d with act := none })).drawShow
        (s2.bump Addr.DRW_CNT_DRAW).answer a.req.pair a.req.bank a.req.task a.req.gen (tokenCap q)

/-- The DRBG is instantiated with 1,536 raw bits and the module identity, little-endian (R5), and the unit is READY (R394). -/
def State.instantiate (s : State) : State :=
  let e := s.glint 192
  ((((e.2.bump Addr.DRW_INST).wr Addr.DRW_RESEEDS 0).wr Addr.DRW_RESEED_CTR 1).setFld Addr.DRW_STATUS 0 3 1).updDraw
    (fun d => { d with reseedAt := s.clk, drbg := drbgInstantiate e.1 (natBytes 8 Config.moduleId.toNat) })

/-- The startup test of Glint ends (R393, R403). -/
def State.startupTest (s : State) (pass : Bool) : State :=
  if pass then s.instantiate else (s.setBit Addr.DRW_ERR 3).setFld Addr.DRW_STATUS 0 3 2

/-- GLINT_STARTUP_TEST (R393): at power-up, in STARTUP. -/
def State.glintStartup (s : State) (pass : Bool) : State := if s.drwState = 0 then s.startupTest pass else s

/-- A draw in progress whose record is not sequenced returns a status. `all` takes a sequenced record without a receipt as
well (R403). -/
def State.drawStop (s : State) (status : Nat) (all : Bool) : State :=
  match s.draw.act with
  | none => s
  | some a =>
    if a.seq.isNone then
      let s1 := s.updJrn (fun j => { j with queue := j.queue.filter (fun r => !(r.issuer == .draw)) })
      s1.jrnShow.drawEnd status
    else if all && !a.dur then s.drawEnd status else s

/-- Queued requests return a status, and then the draw in progress as `drawStop` says (R403). -/
def State.drawAbort (s : State) (status : Nat) (all : Bool) : State :=
  let s1 := (s.updDraw (fun d => { d with queue := [] })).drawShow
  (s.draw.queue.foldl (fun s r => s.drawFail r status false) s1).drawStop status all

/-- What a failed health test does in the unit (R403); the alarm class is the security monitor's. A unit that is STOPPED or ERASED
stays so. -/
def State.healthFail (s : State) (apt : Bool) : State :=
  let s1 := s.setBit Addr.DRW_ERR (if apt then 2 else 1)
  if s.drwState = 3 || s.drwState = 4 then s1.drwEvt 1
  else ((s1.setFld Addr.DRW_STATUS 0 3 2).drwEvt 1).drawAbort 0x03 false

/-- DRAW_DUPCMP (R403). -/
def State.drawDupcmp (s : State) : State :=
  ((((s.setBit Addr.DRW_ERR 4).setFld Addr.DRW_STATUS 0 3 3).notify 3 0x05 4 4 0).drwEvt 2).drawAbort 0x08 true

/-- DRW_CLRCNT (R407). -/
def State.drwClrCnt (s : State) : State :=
  ((((s.wr Addr.DRW_CNT_DRAW 0).wr Addr.DRW_CNT_DUP 0).wr Addr.DRW_CNT_REJ 0).wr Addr.DRW_CNT_FAIL 0).setFld
    Addr.DRW_STATUS 12 2 0

end Sys2Proof.Machine
end

