-- ==== Sys2Proof/Machine/Ecl.lean ====
section
/-!
DEFINITION. The Eclipse sweeper: epochs, passes and the sweep of memory (R89-R101).
-/
namespace Sys2Proof.Machine

/-- The running phase (R89). -/
def State.eclPhase (s : State) : Nat := s.fld Addr.ECL_STATUS 1 3
/-- The result of the last `ECL_CMD` write. -/
def State.eclLast (s : State) (r : Nat) : State := s.setFld Addr.ECL_STATUS 5 2 r
/-- The sweeper with a function applied. -/
def State.updSweep (s : State) (f : Sweeper → Sweeper) : State := { s with sweep := f s.sweep }

/-- One root latched at the cover point: none where it is not valid; a bad range, or a table root whose `TTBC` value has MODE 0,
sets WRERR (R89, R101, R308). -/
def State.latchRoot (s : State) (n : Nat) : Option (Nat × Nat × Nat) × State :=
  let a := (s.rd (Addr.ECL_ROOT_A n)).toNat
  let b := (s.rd (Addr.ECL_ROOT_B n)).toNat
  if !a.testBit 0 then (none, s)
  else if a.testBit 1 && (decide (bitsAt b 4 40 < bitsAt a 4 40) || decide (2 ^ 37 ≤ bitsAt b 4 40)) then
    (none, s.setBit Addr.ECL_ERR 4)
  else if !a.testBit 1 && !b.testBit 0 then (none, s.setBit Addr.ECL_ERR 4)
  else (some (n, a, b), s)

/-- Every root latched, in order. -/
def State.latchRoots (s : State) : List Nat → List (Nat × Nat × Nat) × State
  | [] => ([], s)
  | n :: ns =>
    let r := s.latchRoot n
    let rs := r.2.latchRoots ns
    (match r.1 with
     | none => rs.1
     | some x => x :: rs.1, rs.2)

/-- The cover point (R89, R95, R97). -/
def State.eclBegin (s : State) : State :=
  let n := (s.rd Addr.ECL_EPOCH_STARTED).toNat + 1
  let r := s.latchRoots (List.range 64)
  let s1 := ((r.2.wr Addr.ECL_EPOCH_STARTED (BitVec.ofNat 64 n)).setFld Addr.ECL_STATUS 0 4 3).setFld Addr.ECL_STATUS 7 1 0
  s1.updSweep (fun w =>
    { w with roots := r.1, rate := s.fld Addr.ECL_CTRL 8 8, todo := [], freshRun := false, startedAt := s.us, cleared := 0 })

/-- May an epoch start: enabled, idle, not waiting for a record that meets FULL, and not at the last number (R95, R97, R379;
log 78)? -/
def State.eclMayStart (s : State) : Bool :=
  s.fld Addr.ECL_CTRL 0 1 == 1 && s.fld Addr.ECL_STATUS 0 1 == 0 && !(s.sweep.waits && s.jrnFull)
    && decide ((s.rd Addr.ECL_EPOCH_STARTED).toNat + 1 < 2 ^ 64)

/-- ECL_START (R95). Where no epoch may start because STARTED is all ones, or because the sweeper waits for its record, LASTCMD
reads IGNORED as the other cases of R95 and R98 have it: the model's choice (R97, R379; DESIGN CHOICE, log 78). -/
def State.eclStart (s : State) : State := if s.eclMayStart then (s.eclBegin).eclLast 0 else s.eclLast 1

/-- ECL_AUTO_START (R95). -/
def State.eclAuto (s : State) : State :=
  if s.eclMayStart && s.fld Addr.ECL_CTRL 1 1 == 1 && s.fld Addr.ECL_STATUS 7 1 == 0 && s.sweep.fresh then s.eclBegin else s

/-- The epoch ends aborted (R96). -/
def State.eclAbortWith (s : State) : State :=
  let s1 := (s.setFld Addr.ECL_STATUS 0 4 0).setFld Addr.ECL_STATUS 7 1 1
  let s2 := s1.updSweep (fun w => { w with todo := [], fresh := w.fresh || w.freshRun })
  let s3 := { s2 with pairs := s2.pairs.map (fun (e : Nat × Pair) => (e.1, { e.2 with passDue := false })) }
  s3.evtPost Addr.ECL_EVT 0x01

/-- ECL_ABORT (R96, R98): in the cycle in which an epoch completes it changes nothing and reads ALREADY_COMPLETE. -/
def State.eclAbort (s : State) : State :=
  if s.fld Addr.ECL_STATUS 0 1 = 0 then s.eclLast (if s.sweep.doneAt = some s.clk then 2 else 1) else s.eclAbortWith.eclLast 0

/-- ECL_CLRCNT (R100). -/
def State.eclClrCnt (s : State) : State :=
  (((((s.wr Addr.ECL_CNT_GRAN 0).wr Addr.ECL_CNT_PAGES 0).wr Addr.ECL_CNT_SKIP 0).wr Addr.ECL_CNT_SWCLR 0).wr
    Addr.ECL_CNT_LBCLR 0).eclLast 0

/-! ## Passes (R92-R94) -/

/-- Every bank of a pair swept. -/
def sweepBanks (p : Nat) (s : State) : List Nat → State
  | [] => s
  | b :: bs =>
    let r := s.sweepBank p (s.bank p b)
    sweepBanks p (r.2.setBank p b r.1) bs

/-- The sweep of a pair's banks, `ESCC` and `ESSC` (R92). -/
def State.sweepPair (s : State) (p : Nat) : State :=
  let s1 := sweepBanks p s (((s.pair p).banks).map (fun e => e.1))
  let t := (s1.bank p (escBank p)).ttbc.toNat
  let r1 := s1.sweepCap p t (s1.pair p).escc
  let r2 := r1.2.sweepCap p t (r1.2.pair p).essc
  r2.2.updPair p (fun v => { v with escc := r1.1, essc := r2.1, passDue := false })

/-- ECLIPSE_PASS (R93): the pass of a pair at its bundle boundary; deferred under DET, and not within a `REPU` sequence. -/
def State.eclPass (s : State) (p : Nat) : State :=
  if (s.pair p).passReady then s.sweepPair p else s

/-- Is a pass outstanding on a pair that is not halted? -/
def State.passesDue (s : State) : Bool := s.pairs.any (fun e => e.2.passDue && e.2.halt.isNone)

/-- A pass falls due on every pair that is not halted. -/
def State.setPasses (s : State) : State :=
  (List.range 104).foldl (fun s p => if (s.pair p).halt.isSome then s else s.updPair p (fun v => { v with passDue := true })) s

/-! ## What the memory phase scans -/

/-- How a table root's walk ends: a walk fault, a walk into a device region, or the ranges and skipped pages. -/
inductive RootWalk where
  | fault | device | ok (rs : List ScanRange) (skip : Nat)
deriving DecidableEq, Repr

/-- The granules of tagged DRAM that a leaf's page covers. -/
def leafRange (ttbc pa size : Nat) : List ScanRange :=
  if pa < 2 ^ 41 then [⟨none, pa / 16, min (pa + size) (2 ^ 41) / 16, .table ttbc⟩] else []

/-- One root's walk after another's. -/
def RootWalk.join (a b : RootWalk) : RootWalk :=
  match a, b with
  | .ok rs n, .ok rs2 n2 => .ok (rs ++ rs2) (n + n2)
  | .ok _ _, r => r
  | r, _ => r

/-- What one entry of a table at a level adds: a leaf with `CD` is a range, another leaf is skipped, a table descriptor is
walked by `sub` (R89, R96). The read meets combining entries and errors as every read of DRAM does (R217, R339, R340). -/
def walkEntry (s : State) (ttbc level pe : Nat) (sub : State → Nat → RootWalk × State) : RootWalk × State :=
  if 0xF0000000000 ≤ pe && pe < 0xF0100000000 then (.device, s)
  else if !(decide (pe < 0x20000000000)) then (.fault, s)
  else
    let s1 := s.dramEnter pe 8
    let e := s1.numAt .dram pe 8
    if s1.poisoned pe then (.fault, s1)
    else if !e.testBit 0 then (.ok [] 0, s1)
    else if pteReserved e level then (.fault, s1)
    else if pteTable e then sub s1 (ptePa e)
    else if e.testBit 12 then (.ok (leafRange ttbc (ptePa e) (leafSize level)) 0, s1)
    else (.ok [] (leafSize level / 4096), s1)

/-- The 512 entries of a table, in order, and of the tables below it. -/
def walkTable (ttbc : Nat) : Nat → Nat → State → Nat → RootWalk × State
  | 0, _, s, _ => (.ok [] 0, s)
  | fuel + 1, level, s, table =>
    (List.range 512).foldl (fun acc i =>
      let r := walkEntry acc.2 ttbc level (table + 8 * i) (walkTable ttbc fuel (level + 1))
      (acc.1.join r.1, r.2)) (.ok [] 0, s)

/-- The ranges of one latched root. -/
def State.rootWalk (s : State) (r : Nat × Nat × Nat) : RootWalk × State :=
  if r.2.1.testBit 1 then (.ok [⟨none, bitsAt r.2.1 4 40, bitsAt r.2.2 4 40 + 1, .physical⟩] 0, s)
  else walkTable r.2.2 4 0 s (ttbcRoot r.2.2)

/-- The memory phase's work built root by root; an abort where a root cannot be walked (R89, R96). -/
def State.buildRoots (s : State) (acc : List ScanRange) : List (Nat × Nat × Nat) → State × Option (List ScanRange)
  | [] => (s, some acc)
  | r :: rs =>
    match s.rootWalk r with
    | (.ok l n, s1) => (s1.bumpBy Addr.ECL_CNT_SKIP n).buildRoots (acc ++ l) rs
    | (.fault, s1) => ((s1.setFld Addr.ECL_ERR 10 6 r.1).setBit Addr.ECL_ERR 0, none)
    | (.device, s1) => ((s1.setFld Addr.ECL_ERR 10 6 r.1).setBit Addr.ECL_ERR 1, none)

/-- The TCMs of the eight sentinel pairs (R89). -/
def tcmRanges : List ScanRange := (List.range 8).map (fun k => ⟨some k, 0, 0x8000, .sentinel k⟩)

/-- The ranges of one spilled TSB: its 2 KiB by page, under the `TTBC` it holds (R89). None where it cannot be read: a page does
not translate, or the line that holds its `TTBC` is lost (R96; log 84). Any other lost line is left to its scan. -/
def State.tsbRanges (s : State) (t : Nat) : Option (List ScanRange) × State :=
  let e := s.task t
  match e.1 with
  | none => (none, e.2)
  | some te =>
    let parts := splitPages te.tsb.addr 2048 2
    let go := parts.foldl (fun (r : Option (List (Nat × Nat)) × State) q =>
      match r.1 with
      | none => r
      | some l =>
        match r.2.dispPa te.ttbc.toNat q.1 with
        | .ok pa s1 => (some (l ++ [(pa, q.2)]), s1)
        | .flt _ s1 => (none, s1)) (some [], e.2)
    match go.1 with
    | none => (none, go.2)
    | some l =>
      match go.2.dispPa te.ttbc.toNat (te.tsb.addr + 0x310) with
      | .flt _ s1 => (none, s1)
      | .ok pa s1 =>
        let s2 := s1.dramEnter pa 8
        let ttbc := s2.numAt .dram pa 8
        if s2.poisoned pa then (none, s2)
        else (some (l.map (fun q => ⟨none, q.1 / 16, (q.1 + q.2) / 16, if ttbc % 2 = 0 then .physical else .table ttbc⟩)), s2)

/-- The ranges of every spilled task of a list. -/
def State.tsbAll (s : State) (acc : List ScanRange) : List Nat → State × Option (List ScanRange)
  | [] => (s, some acc)
  | t :: ts =>
    match s.tsbRanges t with
    | (none, s1) => (s1.setBit Addr.ECL_ERR 2, none)
    | (some l, s1) => s1.tsbAll (acc ++ l) ts

/-- A phase begins with the work that it has, or the epoch aborts. -/
def State.beginPhase (r : State × Option (List ScanRange)) (phase : Nat) : State :=
  match r.2 with
  | none => r.1.eclAbortWith
  | some l => (r.1.updSweep (fun w => { w with todo := l })).setFld Addr.ECL_STATUS 1 3 phase

/-- ECL_PHASE_ADVANCE (R89): the running phase is complete and the next begins. -/
def State.eclAdvance (s : State) : State :=
  let ph := s.eclPhase
  if ph = 1 then (s.setPasses).setFld Addr.ECL_STATUS 1 3 2
  else if ph = 2 && !s.passesDue then
    let r := s.buildRoots [] s.sweep.roots
    State.beginPhase (r.1, r.2.map (fun l => l ++ tcmRanges)) 3
  else if ph = 3 && s.sweep.todo.isEmpty then
    State.beginPhase (s.tsbAll [] ((s.evd.spilled.filter (fun e => e.2)).map (fun e => e.1))) 4
  else if ph = 4 && s.sweep.todo.isEmpty then (s.setPasses).setFld Addr.ECL_STATUS 1 3 5
  else s

/-- Is a capability that the sweeper read revoked, its base translated as the range says (R81, R89)? Of a sentinel the running
bank's `TTBC` serves, or bank 0's where it runs none: the spec does not say which bank "that pair" translates with (DESIGN CHOICE,
log 85). -/
def State.scanRevoked (s : State) (xl : ScanXl) (c : Cap) : Bool × State :=
  match xl with
  | .physical => if !neverRevoked c && decide (c.base < 2 ^ 41) then s.bitmapRead c.base else (false, s)
  | .table t => s.dispRevoked t c
  | .sentinel k =>
    let p := 96 + k
    let b := (s.pair p).run.getD 0
    s.revoked p (s.bank p b).ttbc.toNat c

/-- One granule scanned (R90). -/
def State.scanGranule (s : State) (r : ScanRange) : State :=
  let g := r.first
  let sp := match r.tcm with
    | none => Space.dram
    | some k => Space.tcm k
  let pa := g * 16
  let s0 := if sp = .dram then s.dramEnter pa 16 else s
  let s1 := s0.bump Addr.ECL_CNT_GRAN
  let s2 := if g % 256 = 255 || g + 1 == r.stop then s1.bump Addr.ECL_CNT_PAGES else s1
  let s3 := if sp = .dram && s2.poisoned pa then s2.setBit Addr.ECL_ERR 3 else s2
  let c := s3.capAt sp pa
  if c.tag && !c.malformed then
    match s3.scanRevoked r.xl c with
    | (true, s4) => (((s4.setTag sp pa false).loseResv (resvLine sp pa) 1)).swClr
    | (false, s4) => s4
  else s3

/-- The sweeper's tenure after it has scanned a granule: it ends after 64 lines, or when the phase has no work left (R343). -/
def State.sweepTenure (s : State) (r : ScanRange) (more : Bool) : State :=
  let ch := channelOf (r.first * 16)
  let a := s.arb ch
  if !more then s.endTenures 19
  else if r.tcm.isSome || !(a.owner == some 19) || !(r.first % 4 == 3) then s
  else if 64 ≤ a.lines + 1 then s.endTenure ch 19
  else s.setArb ch { a with lines := a.lines + 1 }

/-- SWEEP_GRANULE (R90): the next granule of the running phase. -/
def State.sweepGranule (s : State) : State :=
  if !(s.eclPhase = 3 || s.eclPhase = 4) then s
  else
    match s.sweep.todo with
    | [] => s
    | r :: rs =>
      if r.stop ≤ r.first then s.updSweep (fun w => { w with todo := rs })
      else
        let rest := if r.first + 1 < r.stop then { r with first := r.first + 1 } :: rs else rs
        ((s.scanGranule r).updSweep (fun w => { w with todo := rest })).sweepTenure r (!rest.isEmpty)

/-- EPOCH_COMPLETION (R89): the closing pass has ended; the sweeper then waits for its record (R379). -/
def State.eclComplete (s : State) : State :=
  if !(s.eclPhase = 5) || s.passesDue then s
  else
    let us := s.us - s.sweep.startedAt
    let n := (s.rd Addr.ECL_EPOCH_STARTED).toNat
    let s1 := ((s.wr Addr.ECL_EPOCH_DONE (BitVec.ofNat 64 n)).wr Addr.ECL_LAST_US (BitVec.ofNat 64 us)).setFld
      Addr.ECL_STATUS 0 4 0
    let s2 := s1.updSweep (fun w =>
      { w with fresh := w.freshRun, freshRun := false, todo := [], waits := true, doneAt := some s.clk })
    let s3 := s2.jrnRequest ⟨0xF009, 0x0202, natBytes 8 n ++ natBytes 8 us ++ natBytes 8 s.sweep.cleared, .sweeper⟩
    s3.evtPost Addr.ECL_EVT 0x01

/-- An `ECLIPSE` retires (R95): automatic epochs have something to cover. -/
def State.eclRetired (s : State) : State := s.updSweep (fun w => { w with fresh := true, freshRun := true })

end Sys2Proof.Machine
end

