-- ==== Sys2Proof/Machine/Reset.lean ====
section
/-!
DEFINITION. Module reset and what survives it (R13, R376, R451, R454, R541), and the policy applied to its registers (R456, R517).
-/
namespace Sys2Proof.Machine

/-! ## The policy block (R517) -/

/-- A field of `n` bytes of a policy block. -/
def polGet (b : List Byte) (off n : Nat) : Nat := cellGet b off n

/-- Ticket bounds of every requester from a list (R351, R517). -/
def polBounds (b : List Byte) (s : State) : List Nat → State
  | [] => s
  | q :: qs =>
    polBounds b (s.wr (Addr.ARB_BOUND q) (BitVec.ofNat 64 (polGet b (8 + 2 * q) 1 + polGet b (9 + 2 * q) 1 * 256))) qs

/-- The values of a policy written to the registers that it carries (R456), but for `JRN_REPL`. -/
def State.applyPolicy (s : State) (b : List Byte) : State :=
  let s1 := (s.setFld Addr.SEC_ALM_POL 0 16 (polGet b 2 2)).setFld Addr.SEC_DBG 32 16 (polGet b 4 2)
  let s2 := (polBounds b s1 (List.range 22)).setFld Addr.ARB_BOUND_LIM 0 10 (polGet b 0x34 2)
  let s3 := ((s2.setFld Addr.JRN_THR 0 7 (polGet b 0x3C 1)).setFld Addr.JRN_THR 8 7 (polGet b 0x3D 1)).setFld Addr.JRN_THR 16 7
    (polGet b 0x3E 1)
  let s4 := (s3.setFld Addr.JRN_SEAL 0 13 (polGet b 0x40 2)).setFld Addr.EXC_MASKLIM 0 16 (polGet b 0x42 2)
  let s5 := (s4.setFld Addr.TALLY_GRACE 0 20 (polGet b 0x44 4)).setFld Addr.DRW_CTRL 0 1 (polGet b 0x48 1)
  let s6 := (s5.setFld Addr.DRW_HEALTH 0 8 (polGet b 0x49 1)).setFld Addr.DRW_HEALTH 16 11 (polGet b 0x4A 2)
  let s7 := (s6.setFld Addr.DRW_RESEED 0 32 (polGet b 0x4C 4)).setFld Addr.DRW_RESEED 32 16 (polGet b 0x50 2)
  { s7 with keys := { s7.keys with policy := b, minVer := (List.range 15).map (fun n => (n, polGet b (0x58 + 8 * n) 8)) } }

/-- The replication fields of a policy: MODE, DOWNPOL and ACKTO_US (R517). -/
def polRepl (b : List Byte) : Nat × Nat × Nat := (polGet b 0x39 1 % 4, polGet b 0x39 1 / 4 % 2, polGet b 0x3A 2)

/-- The alarm policy of a class, from the registers in force (R457, R459). -/
def State.almPol (s : State) (c : Nat) : Nat := s.fld Addr.SEC_ALM_POL (2 * c) 2
/-- The floor of a class in CERTIFIED (R457). -/
def State.almFloor (s : State) (c : Nat) : Nat := s.fld Addr.SEC_ALM_POL (16 + 2 * c) 2

/-- The policy that boot applies: the stored one, with its replication mode as the one in force (R456). -/
def State.bootPolicy (s : State) : State :=
  if s.keys.policy = [] then s
  else
    let r := polRepl s.keys.policy
    let s1 := s.applyPolicy s.keys.policy
    ((s1.setFld Addr.JRN_REPL 0 3 (r.1 + r.2.1 * 4)).setFld Addr.JRN_REPL 8 16 r.2.2).updJrn (fun j => { j with mode := r.1 })

/-! ## Module reset -/

/-- A register keeps its value over module reset. -/
def keepReg (old s : State) (a : Nat) : State := s.wr a (old.rd a)

/-- Registers whose value survives module reset (R451, R459, R476). -/
def keptRegs : List Nat :=
  [Addr.SEC_LC, Addr.SEC_ALM_ACT, Addr.SEC_POLVER] ++ (List.range 8).map Addr.SEC_ALM_CNT

/-- Module reset with a reset cause (R13, R541): every field at its reset value but what survives; the journal first acts as
at power loss, and a commanded reset leaves its shutdown record with its completion mark (R376). -/
def State.moduleReset (s : State) (cause : Nat) : State :=
  let o := s.jrnStop
  let keys := if cause = 5 then { o.keys with shutdown := some 5 } else o.keys
  let jrn := { jrnReset with
    ring := o.jrn.ring, headH := o.jrn.headH, lastTime := o.jrn.lastTime, nextTag := o.jrn.nextTag, pos := o.jrn.pos }
  let s1 := { State.reset with
    jarr := o.jarr, boot := o.boot, keys := keys, pending := o.pending, free := o.free, out := o.out,
    pwr := { pwrReset with closed := o.pwr.closed, failed := o.pwr.failed, trips := o.pwr.trips, up := o.pwr.up,
                           ejectWait := o.fld Addr.PWR_STATUS 6 1 == 1 },
    jrn := jrn,
    sec := { secReset with locate := o.sec.locate },
    time := o.jrn.lastTime }
  let s2 := keptRegs.foldl (keepReg o) s1
  let s3 := ((s2.setFld Addr.SEC_STATUS 2 1 (o.fld Addr.SEC_STATUS 2 1)).setFld Addr.SEC_STATUS 4 1
    (o.fld Addr.SEC_STATUS 4 1)).setFld Addr.SEC_STATUS 3 1 (b2n (!(o.fld Addr.SEC_ALM_ACT 0 8 == 0)))
  let s4 := (s3.setFld Addr.CWL_STATUS 32 32 o.keys.takeGen).setFld Addr.PWR_STATUS 6 1 (o.fld Addr.PWR_STATUS 6 1)
  let s5 := if o.drwState = 4 then s4.setFld Addr.DRW_STATUS 0 3 4 else s4
  (s5.setFld Addr.PWR_RSTCAUSE 0 32 cause).bootPolicy

end Sys2Proof.Machine
end

