-- ==== Sys2Proof/Machine/Pwr.lean ====
section
/-!
DEFINITION. Power, clocks and hot-plug: limits, insertion, drain, power loss, coverage and fabric timeouts (R523-R547).
-/
namespace Sys2Proof.Machine

/-- `PWR_STATUS.STATE`. -/
def State.pwrState (s : State) : Nat := s.fld Addr.PWR_STATUS 0 3
/-- `PWR_STATUS.LASTCMD`. -/
def State.pwrLast (s : State) (r : Nat) : State := s.setFld Addr.PWR_STATUS 8 2 r
/-- The power unit with a function applied. -/
def State.updPwr (s : State) (f : Pwr → Pwr) : State := { s with pwr := f s.pwr }

/-- A notice of the power unit: to the governor for codes 1 and 2, to the health sentinel for the others, and on
`PWR_EVT` (R446, R547). -/
def State.pwrNotice (s : State) (code detail : Nat) : State :=
  (s.notify (if code ≤ 2 then 1 else 3) 0x09 7 code detail).evtPost Addr.PWR_EVT (0x07 + code * 256)

/-- Pairs of a list stop at their next bundle boundary (R460, R535). -/
def State.stopPairs (s : State) : List Nat → State
  | [] => s
  | p :: ps => (s.updPair p (fun v => { v with stopped := true })).stopPairs ps

/-- Ledger pairs and sentinel pairs 4-7 (R460). -/
def workPairs : List Nat := List.range 96 ++ [100, 101, 102, 103]

/-! ## Measurements -/

/-- The load power limit in mW for an input voltage in mV (R524). -/
def loadLimit (mv : Nat) : Nat := min (18 * mv) 640000 * 92 / 100

/-- A measured input voltage (R524). -/
def State.setVin (s : State) (mv : Nat) : State :=
  (s.setFld Addr.PWR_VIN 0 32 mv).setFld Addr.PWR_LIMIT 0 32 (loadLimit mv)

/-- `FC_STATUS` follows its conditions; a change of coverage is reported (R544). -/
def State.cover (s : State) : State :=
  let scrub := (List.range 16).any (fun ch =>
    s.fld (Addr.MCH_SCRUB ch) 0 1 == 0 || decide (6650 < s.fld (Addr.MCH_SCRUB ch) 16 32))
  let l3 := s.fld Addr.FC_CTRL 0 1 == 0
  let test := s.fld Addr.FC_CTRL 1 1 == 1
  let env := s.fld Addr.FC_STATUS 1 1 == 1
  let cov := !scrub && !l3 && !test && !env
  let was := s.fld Addr.FC_STATUS 0 1
  let s1 := (((s.setFld Addr.FC_STATUS 2 1 (b2n scrub)).setFld Addr.FC_STATUS 3 1 (b2n l3)).setFld Addr.FC_STATUS 4 1
    (b2n (test && s.lcState == 0))).setFld Addr.FC_STATUS 0 1 (b2n cov)
  if was = b2n cov then s1 else s1.pwrNotice 6 (s1.rd Addr.FC_STATUS).toNat

/-- OUTSIDE_RECOMMENDED_CONDITIONS (R544, R554): a measured condition leaves or re-enters the recommended range. -/
def State.outsideEnv (s : State) (env : Bool) : State := (s.setFld Addr.FC_STATUS 1 1 (b2n env)).cover

/-- FAST_LIMIT (R525). -/
def State.fastLimit (s0 : State) (ma : Nat) : State :=
  let s := s0.updPwr (fun w => { w with forcedAt := s0.time })
  (((s.setFld Addr.PWR_IIN 0 32 ma).setBit Addr.PWR_STATUS 4).setBit Addr.PWR_ERR 2).pwrNotice 2 ma

/-- UNFORCE (R525). -/
def State.unforce (s : State) : State :=
  if s.fld Addr.PWR_STATUS 4 1 = 0 then s.pwrLast 1 else (s.setFld Addr.PWR_STATUS 4 1 0).pwrLast 0

/-- The clock ratio that a ledger pair runs at: the requested one, or divide by 6 under the fast limit (R525, R547). -/
def State.ratio (s : State) (p : Nat) : Nat :=
  if s.fld Addr.PWR_STATUS 4 1 = 1 then 2 else s.fld (Addr.CLK_RATIO (p / 32)) (2 * (p % 32)) 2

/-- HOLDUP_MEASURE (R533). -/
def State.holdup (s : State) (mj : Nat) : State :=
  let s1 := s.setFld Addr.PWR_HOLDUP 0 16 (min mj 65535)
  if 1500 ≤ mj then (s1.setFld Addr.PWR_STATUS 3 1 1).jrnHoldup true
  else (((s1.setFld Addr.PWR_STATUS 3 1 0).jrnHoldup false).setBit Addr.PWR_ERR 1).pwrNotice 5 (min mj 65535)

/-- PWR_CLRCNT (R547). -/
def State.pwrClrCnt (s : State) : State := (((s.wr Addr.FTO_CNT 0).wr Addr.PWR_CNT_CRC 0).wr Addr.PWR_CNT_RAILW 0).pwrLast 0

/-! ## Drain (R534-R537) -/

/-- A drain or park starts (R535 step 1): dispatch and event-owned queues stop, and queued draws return DETACHING. -/
def State.drainStart (s : State) (trig : Nat) : State :=
  if !(s.pwr.trigger == 0) || !(s.pwrState == 1) then s.pwrLast 1
  else
    let s1 := (s.setFld Addr.PWR_STATUS 0 3 3).updPwr (fun w => { w with
      trigger := trig, trigTime := s.time, stopped := 0, ctxDone := false, ackOver := false })
    let s2 := if s1.drwState = 1 then s1.setFld Addr.DRW_STATUS 0 3 5 else s1
    ((s2.drawAbort 0x07 false).pwrNotice (if trig = 5 then 1 else 3) 0).pwrLast 0

/-- Does a ledger pair hold a context that has not ended (R535)? -/
def Pair.holdsCtx (v : Pair) : Bool := v.run.isSome || v.banks.any (fun e => !(e.2.st == .free) && !(e.2.st == .idle))

/-- Does a context have to end before the drain goes on: one that a pair holds, or a spilled one (R535 step 2)? -/
def State.ctxLeft (s : State) : Bool :=
  (List.range 96).any (fun p => (s.pair p).holdsCtx && !(s.pair p).stopped) || !s.evd.mid.isEmpty

/-- The detach record (R536): its positions are those of its sequencing. -/
def State.askDetach (s : State) : State :=
  (s.updPwr (fun w => { w with ctxDone := true })).jrnRequest ⟨0xF003, 0x0200,
    natBytes 1 s.pwr.trigger ++ natBytes 3 0 ++ natBytes 4 s.pwr.stopped ++ natBytes 8 s.pwr.trigTime ++ natBytes 16 0, .none⟩

/-- DRAIN_LIMIT (R535 step 2): every ledger pair that still holds a context stops, and the detach record is requested. -/
def State.drainLimit (s : State) : State :=
  if s.pwr.trigger = 0 || s.pwr.ctxDone then s
  else
    let held := (List.range 96).filter (fun p => (s.pair p).holdsCtx && !(s.pair p).stopped)
    ((s.stopPairs held).updPwr (fun w => { w with stopped := held.length })).askDetach

/-- Every request parked at a channel is served, operations in flight to it are decided, and its entries written back (R220, R353,
R535 step 7). -/
def State.tallyFlushCh (s : State) (ch : Nat) : State :=
  let ps := (s.tch ch).parked ++ s.tally.transit.filter (fun o => channelOf o.cell == ch)
  let s1 := (s.tch ch).entries.foldl (fun s e => s.cellRoute (e.cell / 64)) s
  let s2 := s1.setTch ch { s1.tch ch with parked := [] }
  let s2 := { s2 with tally := { s2.tally with transit := s2.tally.transit.filter (fun o => !(channelOf o.cell == ch)) } }
  let s3 := ps.foldl (fun s o => match s.tallyAdmit ch o with
    | some s3 => s3.cellRoute (o.cell / 64)
    | none => s.tallyRetry ch o) s2
  s3.setArb ch { s3.arb ch with owner := none, noted := false, parked := [] }

/-- Steps 3 to 5 of the drain are over (R535): the detach record has its place, every entry is committed, the draws have ended,
and in SYNC the partner has acknowledged every entry or had its time. A standby whose links are down has nobody to sequence its
record (DEDUCED, log 96). -/
def State.drainDone (s : State) : Bool :=
  !(s.pwr.trigger == 0) && s.pwrState == 3 && s.pwr.ctxDone && (decide (2 ≤ s.jState) || (s.standby && !s.linkUp))
    && s.jrn.ring.all (fun e => e.loc) && s.draw.act.isNone
    && (s.standby || s.pwr.ackOver || s.jrn.ring.all (fun e => e.dur || !e.sync))

/-- The primary of a module that leaves tells its partner; a park does not (R526, R535 step 5). -/
def State.saysDetach (s : State) : Bool := s.drainDone && !(s.pwr.trigger == 5) && !s.standby && s.linkUp

/-- READY_TO_REMOVE (R535 steps 4 to 8): the contexts have ended and the record is requested; or the record is in the journal
and the drain ends. -/
def State.readyToRemove (s : State) : State :=
  if !s.pwr.ctxDone then
    if s.pwr.trigger = 0 || !(s.pwrState == 3) || s.ctxLeft then s else s.askDetach
  else if !s.drainDone then s
  else
    let park := s.pwr.trigger == 5
    let s3 := (List.range 16).foldl (fun s ch => s.tallyFlushCh ch) s
    let s4 := (s3.stopPairs workPairs).setFld Addr.NET_STATUS 0 4 0
    let s5 := ((s4.setFld Addr.PCI_STATUS 0 1 0).setFld Addr.CWL_STATUS 0 3 0).setFld Addr.PWR_STATUS 0 3 (if park then 2 else 4)
    let s6 := { s5 with keys := { s5.keys with shutdown := some (0x02 + s.pwr.trigger * 256) } }
    if park then s6 else s6.pwrNotice 4 0

/-- Are the links and the work pairs without power or in reset: before power-good, parked, READY, or after a loss of power (R535,
R537, R539)? -/
def State.ioOff (s : State) : Bool := !(s.pwrState == 1) && !(s.pwrState == 3)

/-- EJECT (R534, R561): the ejector switch after its filter; an opening before RUNNING is kept. -/
def State.eject (s : State) (isOpen : Bool) : State :=
  let s1 := s.setFld Addr.PWR_STATUS 6 1 (b2n isOpen)
  if !isOpen then s1
  else if s1.pwrState = 0 || s1.pwrState = 5 || (s1.pwrState = 1 && !(s1.fld Addr.SEN_BOOT 0 4 == 5)) then s1.updPwr (fun w => { w with ejectWait := true })
  else s1.drainStart 1

/-- The module reaches RUNNING: an ejector opened before is taken now (R561). -/
def State.takeEject (s : State) : State :=
  if s.pwr.ejectWait && s.fld Addr.SEN_BOOT 0 4 == 5 && s.pwrState == 1 then
    if s.fld Addr.PWR_STATUS 6 1 = 1 then (s.updPwr (fun w => { w with ejectWait := false })).drainStart 1
    else s.updPwr (fun w => { w with ejectWait := false })
  else s

/-! ## Power loss (R538-R541) -/

/-- DRAM contents are lost (R539). -/
def State.loseDram (s : State) : State :=
  { s with mem := [], tags := [], poison := [], latent := [], bitmap := [], tally := { s.tally with chans := [] } }

/-- The work of a running module ends at a loss of power (R539): the journal keeps what is in its buffer. A module that has
detached or parked keeps that shutdown record (R541; DEDUCED, log 97). -/
def State.lossStops (s : State) (trig : Nat) : State :=
  let kept := s.pwrState == 2 || s.pwrState == 4
  let s3 := (s.jrnStop.stopPairs workPairs).loseDram
  let s4 := (s3.setFld Addr.NET_STATUS 0 4 0).setFld Addr.PCI_STATUS 0 1 0 |>.setFld Addr.CWL_STATUS 0 3 0
  { s4 with keys := { s4.keys with shutdown := if kept then s4.keys.shutdown else some (0x04 + trig * 256) },
            draw := { s4.draw with queue := [], act := none }, sec := { s4.sec with pend := none } }

/-- The power-loss sequence starts (R538, R539): the hot-swap controller opens and the work of a running module ends. -/
def State.powerLoss (s : State) (trig : Nat) : State :=
  if s.pwrState = 5 then s
  else
    let s1 := if s.pwrState = 0 then s else s.lossStops trig
    ((s1.setFld Addr.PWR_STATUS 0 3 5).setFld Addr.PWR_STATUS 7 1 0).updPwr (fun w =>
      { w with loss := trig, closed := false, trigger := 0,
               trips := if trig = 4 || trig = 5 then w.trips ++ [w.up] else w.trips })

/-- SHUTDOWN_RECORD (R539): the final head and the completion mark are in the key store; the rest of the module stops. -/
def State.shutdownRecord (s : State) : State :=
  if !(s.pwrState == 5) then s
  else
    let rec_ := match s.keys.shutdown with
      | some v => if v % 256 = 4 then some (v - 1) else some v
      | none => none
    ({ s with keys := { s.keys with shutdown := rec_ } }).stopPairs [96, 97, 98, 99]

/-- PRES_N_RELEASE (R538): PRES_N high; the counts of failed ramps and trips end with it (R532, R540; log 97). -/
def State.presRelease (s : State) : State :=
  ((s.powerLoss 1).setFld Addr.PWR_STATUS 5 1 0).updPwr (fun w => { w with failed := 0, trips := [] })

/-- The hot-swap controller closes and the ramp begins (R532). -/
def State.ramp (s : State) : State := (s.updPwr (fun w => { w with closed := true })).setFld Addr.PWR_STATUS 0 3 0

/-- INSERTION (R532): PRES_N low and VIN good for 10 ms. A module that has stayed in its slot after a loss of power restarts only
under R540 (R539). -/
def State.insertion (s : State) : State :=
  let stays := s.pwrState == 5 && !(s.pwr.loss == 1) && s.fld Addr.PWR_STATUS 5 1 == 1
  let s1 := s.setFld Addr.PWR_STATUS 5 1 1
  if s1.pwr.closed || 3 ≤ s1.pwr.failed || stays then s1 else s1.ramp

/-- RAMP_TIMEOUT and POWER_GOOD_TIMEOUT (R527, R532): the controller opens again. -/
def State.rampFail (s : State) : State :=
  if !s.pwr.closed || !(s.pwrState == 0) then s
  else s.updPwr (fun w => { w with closed := false, failed := w.failed + 1 })

/-- RAMP_RETRY (R532): after three failed attempts it stays open. -/
def State.rampRetry (s : State) : State :=
  if s.pwr.closed || !(s.pwrState == 0) || 3 ≤ s.pwr.failed || s.pwr.failed == 0 || s.fld Addr.PWR_STATUS 5 1 == 0 then s else s.ramp

/-- The trips of codes 4 and 5 within the last 10 min (R540). -/
def State.recentTrips (s : State) : Nat := (s.pwr.trips.filter (fun t => decide (s.pwr.up < t + 600000000000))).length

/-- AUTO_RESTART (R540): VIN, the inlet and the wait that the trigger asks for have held. -/
def State.autoRestart (s : State) : State :=
  if !(s.pwrState == 5) || s.pwr.loss = 1 || 3 ≤ s.recentTrips || s.fld Addr.PWR_STATUS 5 1 == 0 || s.pwr.closed then s
  else s.ramp

/-- POWER_GOOD (R527, R541): every rail is good after a ramp; the module is reset with the cause of its shutdown record. -/
def State.powerGood (s : State) : State :=
  if !s.pwr.closed || !(s.pwrState == 0) then s
  else
    let s1 := s.moduleReset (s.keys.shutdown.getD 0x01)
    s1.updPwr (fun w => { w with failed := 0 })

/-! ## Fabric (R543) -/

/-- What the requester does with a fabric failure (R543): a pair's load faults, a pair's store that retired locks it up. -/
def State.ftoPair (s : State) (p va : Nat) (store : Bool) : State :=
  match (s.pair p).run with
  | none => s
  | some b =>
    let f := fltA region 0 va
    if store then s.lockup p (faultRec s p b f 0 false) else s.takeFault p b f 0 false

/-- FABRIC_TIMEOUT (R543): a transaction of a requester ends in error; `crc` says that its CRC failed twice. -/
def State.fabricTimeout (s : State) (unit pa va : Nat) (store crc : Bool) : State :=
  let s1 := if crc then s.bump Addr.PWR_CNT_CRC else s
  let s2 := (s1.wr Addr.FTO_ADDR (BitVec.ofNat 64 (pa % 2 ^ 44 + unit % 256 * 2 ^ 44))).bump Addr.FTO_CNT
  let s3 := (s2.setBit Addr.PWR_ERR 3).notify 3 0x08 7 unit pa
  if unit < 104 then s3.ftoPair unit va store else s3

end Sys2Proof.Machine
end

