-- ==== Sys2Proof/Machine/RegCore.lean ====
section
/-!
DEFINITION. A write of a device register by its field types (R9-R12, R564), the constraints over several fields that the
register tables state, and the read of a register without behaviour of its own.
-/
namespace Sys2Proof.Machine

/-- Who writes or reads a device register: a pair, the debug port (R471), or CFG_SET, whose own checks have refused every
RWL field that it names (R468). -/
inductive Writer where
  | pair (p : Nat) | debug | cfg
deriving DecidableEq, Repr

/-- Registers whose RWL fields the policy carries (R456). -/
def policyRegs : List String :=
  ["JRN_REPL", "JRN_THR", "JRN_SEAL", "TALLY_GRACE", "EXC_MASKLIM", "DRW_CTRL", "DRW_RESEED", "DRW_HEALTH"]

/-- Does R564 refuse a write to the RWL fields of a register? -/
def State.rwlRefused (s : State) (w : Writer) (r : Reg) : Bool :=
  !(w == .cfg) && s.lcState == 2 && (policyRegs.contains r.name || s.locked || w == .debug)

/-- Is a value of a field none of its reserved values (R12)? -/
def Field.valueOk (f : Field) (v : Nat) : Bool :=
  f.valid.isEmpty || f.valid.any (fun r => decide (r.1 ≤ v) && decide (v ≤ r.2))

/-- What a write has done field by field: the new stored value, the value handed to a command register, whether a reserved
value was written, whether an RWL field was refused. -/
structure RegWrite where
  new : Nat
  passed : Nat
  bad : Bool
  refused : Bool
deriving DecidableEq, Repr

/-- One field of a write (R9, R11, R12). -/
def fieldWrite (lock : Bool) (old v : Nat) (o : RegWrite) (f : Field) : RegWrite :=
  let x := bitsAt v f.lo f.width
  let y := bitsAt old f.lo f.width
  let pass := setBitsAt o.passed f.lo f.width x
  match f.ty with
  | .ro => o
  | .rsv => o
  | .w1c => { o with new := setBitsAt o.new f.lo f.width (y - (y &&& x)), passed := pass }
  | .w1s => { o with new := setBitsAt o.new f.lo f.width (y ||| x), passed := pass }
  | .wo => if f.valueOk x then { o with passed := pass } else { o with bad := true }
  | .rw =>
    if f.valueOk x then { o with new := setBitsAt o.new f.lo f.width x, passed := pass } else { o with bad := true }
  | .rwl =>
    if lock then { o with refused := true }
    else if f.valueOk x then { o with new := setBitsAt o.new f.lo f.width x, passed := pass } else { o with bad := true }

/-- The fields of a list keep their old values, and the write counts as one of a reserved value. -/
def keepFields (old : Nat) (o : RegWrite) : List (Nat × Nat) → RegWrite
  | [] => { o with bad := true }
  | f :: fs => keepFields old { o with new := setBitsAt o.new f.1 f.2 (bitsAt old f.1 f.2) } fs

/-- Constraints over several fields of one register: `JRN_THR` (R391), `CWL_HB` (R521), `NET_RULE_A`, `NET_CTRL.DEFQ` and
`TIME_CFG.TXPORTS` (R520). -/
def crossFields (name : String) (old v : Nat) (o : RegWrite) : RegWrite :=
  if name = "JRN_THR" then
    if bitsAt o.new 0 7 < bitsAt o.new 8 7 && decide (bitsAt o.new 8 7 < bitsAt o.new 16 7) && decide (bitsAt o.new 16 7 ≤ 99) then o
    else keepFields old o [(0, 7), (8, 7), (16, 7)]
  else if name = "CWL_HB" then
    if 2 * bitsAt o.new 0 16 ≤ bitsAt o.new 16 16 || bitsAt o.new 16 16 == bitsAt old 16 16 then o else keepFields old o [(16, 16)]
  else if name = "NET_RULE_A" then
    if bitsAt o.new 8 8 + bitsAt o.new 16 8 ≤ 240 then o else keepFields old o [(8, 8), (16, 8)]
  else if name = "NET_CTRL" then
    if (List.range 4).all (fun p => decide (bitsAt v (8 * p + 8) 8 ≤ 239)) then o else keepFields old o [(8, 32)]
  else if name = "TIME_CFG" then
    if (bitsAt o.new 4 4).testBit (bitsAt o.new 2 2) then keepFields old o [(4, 4)] else o
  else o

/-- The descriptor that a region register belongs to: its low word's and its high word's address (R336). -/
def descOf (r : Reg) (a : Nat) : Option (Nat × Nat) :=
  if r.name = "RCU_G_LO" || r.name = "RCU_DBG_LO" then some (a, a + 8)
  else if r.name = "RCU_G_HI" || r.name = "RCU_DBG_HI" then some (a - 8, a)
  else none

/-- A write of a descriptor register is dropped whole: the descriptor is sealed (R331), or the write places a reserved value
or makes `START` exceed `END` (R327). -/
def State.descDrops (s : State) (r : Reg) (a : Nat) (o : RegWrite) : Bool :=
  match descOf r a with
  | none => false
  | some (lo, hi) =>
    let l := if a = lo then o.new else (s.rd lo).toNat
    let h := if a = hi then o.new else (s.rd hi).toNat
    ((r.name == "RCU_G_LO" || r.name == "RCU_G_HI") && (s.rd lo).toNat.testBit 55) || o.bad || decide (bitsAt h 0 38 < bitsAt l 0 38)

/-- The writing pair as an audit record names it (R473); zero for the others. -/
def Writer.code : Writer → Nat
  | .pair p => pairCode p
  | .debug => 0
  | .cfg => 0

/-- The port that an audit record names for a writer (R473). -/
def Writer.port : Writer → Nat
  | .pair _ => 5
  | .debug => 4
  | .cfg => 2

/-- A write to a register applied by its fields, and the value that passed them (R9-R12, R564): a refused RWL field is
audited (R10), a reserved value sets the block's write error (R12), and so does an address that no register occupies (R563). -/
def State.regStore (s : State) (w : Writer) (a v : Nat) : State × Nat :=
  match regFind a with
  | none => (s.wrerr a, 0)
  | some r =>
    let old := (s.rd a).toNat
    let o := crossFields r.name old v (r.fields.foldl (fieldWrite (s.rwlRefused w r) old v) ⟨old, 0, false, false⟩)
    let drop := s.descDrops r a o
    let s1 := if o.refused then s.auditRec 3 w.port 0 w.code a v [] [] .none else s
    let s2 := if drop then s1 else s1.wr a (BitVec.ofNat 64 o.new)
    (if o.bad || (drop && !o.refused) then s2.wrerr a else s2, o.passed)

/-- The bits of a register that a read returns (R9): WO and RSV read as zero. -/
def Reg.readMask (r : Reg) : Nat :=
  r.fields.foldl (fun m f => if f.ty = .wo || f.ty = .rsv then m else m + (2 ^ f.width - 1) * 2 ^ f.lo) 0

/-- A read of a register's stored value (R9); an address that no register occupies reads zero (R563). -/
def State.regLoad (s : State) (a : Nat) : Word :=
  match regFind a with
  | none => 0
  | some r => s.rd a &&& BitVec.ofNat 64 r.readMask

/-- REGISTER_WRITE's own part: a register without behaviour of its own (R9-R12). -/
def State.plainWrite (s : State) (w : Writer) (a v : Nat) : State := (s.regStore w a v).1

end Sys2Proof.Machine
end

