-- ==== Sys2Proof/Machine/Net.lean ====
section
/-!
DEFINITION. DMA checks (R329-R333), the 100G ports with their receive and transmit queues (R477-R487), and secure time
(R488-R492).
-/
namespace Sys2Proof.Machine

/-! ## DMA -/

/-- The fixed rules of R330 for a DMA access to a space. -/
def dmaFixed (sp : Space) (k : RKind) : Bool :=
  match sp with
  | .dram => false
  | .journal => k = .w
  | .boot => k = .w
  | _ => true

/-- The first refused grain of a run of grains, and the rule that refuses it: 0 the global set, 1 a fixed rule (R336). -/
def State.dmaFirst (s : State) (cls g : Nat) (k : RKind) : Nat → Option (Nat × Nat)
  | 0 => none
  | n + 1 =>
    if dmaFixed (spaceOf 0 (g * 64)) k then some (g * 64, 1)
    else if s.rcuOn && !grainOk s.globalSet (some cls) g k then some (g * 64, 0)
    else s.dmaFirst cls (g + 1) k n

/-- The check of a DMA transfer as a whole (R333). -/
def State.dmaCheck (s : State) (cls pa n : Nat) (k : RKind) : Option (Nat × Nat) := s.dmaFirst cls (pa / 64) k (linesIn pa n)

/-- A refused DMA transfer is recorded (R333, R336). -/
def State.dmaViol (s : State) (cls : Nat) (k : RKind) (v : Nat × Nat) : State :=
  (((s.setBit Addr.RCU_ERR 1).wr Addr.RCU_VIOL_ADDR (BitVec.ofNat 64 v.1)).wr Addr.RCU_VIOL_INFO
    (BitVec.ofNat 64 (cls + 2 ^ (k.bit - 44) + v.2 * 256))).bump Addr.RCU_CNT_VIOL

/-- Bytes that DMA writes to tagged DRAM: data bytes, whose granules lose their tags (R71, R72); lines held in combining
entries are routed through the tally unit (R217). -/
def State.dmaWrite (s : State) (pa : Nat) (bs : List Byte) : State := (s.dramEnter pa bs.length).dataWrite .dram pa bs

/-- Is a line of [pa, pa + n) poisoned? -/
def State.dmaPoison (s : State) (pa n : Nat) : Bool :=
  (List.range (linesIn pa n)).any (fun i => pa / 64 + i < 2 ^ 35 && s.poisoned ((pa / 64 + i) * 64))

/-- The bytes that DMA reads. -/
def State.dmaBytes (s : State) (pa n : Nat) : List Byte :=
  (List.range n).map (fun i => s.byteAt (spaceOf 0 (pa + i)) (pa + i))

/-- A descriptor of 16 bytes read by DMA of a class (R329, R333): its bytes, or the status that its queue gives one which the
region check refuses (0x81) or whose line is lost (0x83; log 86). `err` is the error register of the unit. -/
def State.descRead (s : State) (cls err dpa : Nat) : Except Nat (List Byte) × State :=
  match s.dmaCheck cls dpa 16 .r with
  | some v => (.error 0x81, (s.dmaViol cls .r v).setBit err 1)
  | none =>
    let s1 := if dpa < 2 ^ 41 then s.dramEnter dpa 16 else s
    (if s1.dmaPoison dpa 16 then .error 0x83 else .ok (s1.dmaBytes dpa 16), s1)

/-- The status byte of a descriptor written back by DMA of a class (R329, R333, R484, R501). -/
def State.descStatus (s : State) (cls err dpa status : Nat) : State :=
  match s.dmaCheck cls (dpa + 11) 1 .w with
  | some v => (s.dmaViol cls .w v).setBit err 1
  | none => if dpa + 11 < 2 ^ 41 then s.dmaWrite (dpa + 11) [BitVec.ofNat 8 status] else s

/-! ## CRC-32 and steering (R480) -/

/-- One bit of the CRC-32 of IEEE 802.3, reflected. -/
def crcBit (x : Nat) : Nat := if x % 2 = 1 then (x / 2) ^^^ 0xEDB88320 else x / 2
/-- One byte of it. -/
def crcByte (x : Nat) (b : Byte) : Nat :=
  crcBit (crcBit (crcBit (crcBit (crcBit (crcBit (crcBit (crcBit (x ^^^ b.toNat))))))))
/-- The CRC-32 of IEEE 802.3 over bytes. -/
def crc32 (bs : List Byte) : Nat := (bs.foldl crcByte 0xFFFFFFFF) ^^^ 0xFFFFFFFF

/-- `n` bytes at an offset. -/
def cut (off n : Nat) (bs : List Byte) : List Byte := (bs.drop off).take n

/-- The bytes of TCP or UDP ports that an IPv6 payload begins with, over the extension headers that precede it; nothing for a
fragment (R480). -/
def ip6Ports (next : Nat) (bs : List Byte) : Nat → List Byte
  | 0 => []
  | fuel + 1 =>
    if next = 6 || next = 17 then bs.take 4
    else if next = 0 || next = 43 || next = 60 then
      ip6Ports (bs.getD 0 0).toNat (bs.drop (((bs.getD 1 0).toNat + 1) * 8)) fuel
    else if next = 51 then ip6Ports (bs.getD 0 0).toNat (bs.drop (((bs.getD 1 0).toNat + 2) * 4)) fuel
    else []

/-- The bytes that the steering hash covers (R480). -/
def hashKey (frame : List Byte) (etype : Nat) (p : List Byte) : List Byte :=
  if etype = 0x0800 then
    let frag := bytesNatBE (cut 6 2 p) % 0x4000
    let proto := (p.getD 9 0).toNat
    let ports := if frag = 0 && (proto == 6 || proto == 17) then cut (((p.getD 0 0).toNat % 16) * 4) 4 p else []
    cut 12 8 p ++ ports
  else if etype = 0x86DD then cut 8 32 p ++ ip6Ports (p.getD 6 0).toNat (p.drop 40) p.length
  else cut 6 6 frame

/-- Is an 802.1Q tag present (R477)? -/
def hasVlan (frame : List Byte) : Bool := bytesNatBE (cut 12 2 frame) == 0x8100
/-- The VLAN identifier, or zero. -/
def vlanOf (frame : List Byte) : Nat := if hasVlan frame then bytesNatBE (cut 14 2 frame) % 4096 else 0
/-- The EtherType, after the tag where there is one. -/
def etypeOf (frame : List Byte) : Nat := bytesNatBE (cut (if hasVlan frame then 16 else 12) 2 frame)
/-- The bytes after the frame's header. -/
def payloadOf (frame : List Byte) : List Byte := frame.drop (if hasVlan frame then 18 else 14)
/-- The steering hash (R480). -/
def steerHash (frame : List Byte) : Nat := crc32 (hashKey frame (etypeOf frame) (payloadOf frame))

/-- Does a rule match a frame of a port (R480)? -/
def State.ruleHits (s : State) (port : Nat) (frame : List Byte) (r : Nat) : Bool :=
  let a := (s.rd (Addr.NET_RULE_A r)).toNat
  let m := (s.rd (Addr.NET_RULE_M r)).toNat
  a.testBit 0 && a.testBit (4 + port)
    && (!a.testBit 1 || bitsAt m 0 48 == bytesNatBE (frame.take 6))
    && (!a.testBit 2 || bitsAt m 48 16 == etypeOf frame)
    && (!a.testBit 3 || bitsAt a 24 12 == vlanOf frame)

/-- The queue that a frame of a port is steered to (R480). -/
def State.steer (s : State) (port : Nat) (frame : List Byte) : Nat :=
  match (List.range 64).find? (s.ruleHits port frame) with
  | some r =>
    let a := (s.rd (Addr.NET_RULE_A r)).toNat
    bitsAt a 8 8 + steerHash frame % bitsAt a 16 8
  | none => s.fld Addr.NET_CTRL (8 * port + 8) 8

/-! ## Receive queues (R479, R481-R483) -/

/-- The buffer size of a queue. -/
def State.bufSize (s : State) (q : Nat) : Nat := if s.fld (Addr.NET_RXQ_CFG q) 2 1 = 1 then 10240 else 2048

/-- Does a post or a delivery record hold a buffer? -/
def State.bufHeld (s : State) (q a : Nat) : Bool :=
  s.evd.delivs.any (fun d => d.buf == some (q, a)) || s.evd.posts.any (fun x => x.buf == some (q, a))

/-- The free list rebuilt (R479): every buffer of the pool that no delivery record holds, in ascending order. -/
def State.rebuildFree (s : State) (q : Nat) : State :=
  let base := s.fld (Addr.NET_RXQ_BASE q) 6 38 * 64
  let all := (List.range (s.fld (Addr.NET_RXQ_CFG q) 16 13)).map (fun i => base + i * s.bufSize q)
  { s with rxFree := smSet (always []) s.rxFree q (all.filter (fun a => !s.bufHeld q a)) }

/-- A write to `NET_RXQ_BASE` or `NET_RXQ_CFG` (R479). -/
def State.rxqWrite (s : State) (q a v : Nat) : State :=
  let cfg := (s.rd (Addr.NET_RXQ_CFG q)).toNat
  if cfg.testBit 0 then
    if a = Addr.NET_RXQ_CFG q && (v &&& 0xFFF1FFF0007) == cfg - 1 then s.wr a (BitVec.ofNat 64 (cfg - 1))
    else s.wrerr a
  else
    let s1 := s.plainWrite (.pair 0) a v
    if s1.fld (Addr.NET_RXQ_CFG q) 0 1 = 1 then s1.rebuildFree q else s1

/-- How a received frame or message ended (R481, R499). -/
inductive RxEnd where
  | good | qdis | long | nobuf | rcu | post
deriving DecidableEq, Repr

/-- An ingress stamp (R487). -/
def stampCap (source time : Nat) (unc : Bool) : Cap := mkCap true 0 0xFF06 51 source 0 (time % 2 ^ 62 + b2n unc * 2 ^ 62)

/-- A steered frame or message: written to a free buffer of its queue by DMA of class `cls`, then posted or handed to the
journal engine (R481). During a drain, event-owned queues take nothing (R519). -/
def State.rxDeliver (s : State) (cls q : Nat) (bytes : List Byte) (stamp : Cap) (extra : Nat) : State × RxEnd :=
  let own := s.fld (Addr.NET_RXQ_CFG q) 1 1 == 1
  if s.fld (Addr.NET_RXQ_CFG q) 0 1 = 0 || (!own && !(s.pwr.trigger == 0)) then (s, .qdis)
  else if s.bufSize q < bytes.length then (s, .long)
  else
    match smGet (always []) s.rxFree q with
    | [] => (s, .nobuf)
    | pa :: rest =>
      match s.dmaCheck cls pa bytes.length .w with
      | some v => (s.dmaViol cls .w v, .rcu)
      | none =>
        let s1 := s.dmaWrite pa bytes
        if own then
          let s2 := { s1 with rxFree := smSet (always []) s1.rxFree q (rest ++ [pa]) }
          (s2.archiveAck (payloadOf bytes), .good)
        else
          let s2 := { s1 with rxFree := smSet (always []) s1.rxFree q rest }
          let c30 := intCap (BitVec.ofNat 64 (bytes.length + q * 2 ^ 16 + extra))
          let s3 := s2.evdPost (s.fld (Addr.NET_RXQ_CFG q) 32 12) 1 [mintCap 0x0002 0 pa (pa + bytes.length), stamp, c30, nullCap]
            none (some (q, pa))
          if s2.evd.posts.length < s3.evd.posts.length then (s3, .good)
          else ({ s3 with rxFree := s1.rxFree }, .post)

/-- The counter of a port (R520). -/
def State.portCount (s : State) (port k : Nat) : State := s.bump (0xF0009005000 + 0x40 * port + 8 * k)

/-- The index of the counter that an ending is counted in (R520). -/
def RxEnd.counter : RxEnd → Nat
  | .good => 0
  | .long => 2
  | .nobuf => 3
  | .qdis => 4
  | .post => 5
  | .rcu => 6

/-- FRAME_RECEIVE (R477-R483): a frame of a port, without its FCS; `fcsOk` says that the FCS was good. -/
def State.frameIn (s : State) (port : Nat) (bytes : List Byte) (fcsOk : Bool) : State :=
  if s.fld Addr.NET_STATUS port 1 = 0 || s.fld Addr.NET_CTRL port 1 = 0 then s
  else if !fcsOk || bytes.length + 4 < 64 || 9216 < bytes.length + 4 then s.portCount port 1
  else if etypeOf bytes = 0x8808 then s.portCount port 7
  else
    let h := steerHash bytes
    let extra := port * 2 ^ 24 + b2n (hasVlan bytes) * 2 ^ 27 + vlanOf bytes * 2 ^ 32 + (h % 65536) * 2 ^ 48
    let r := s.rxDeliver 3 (s.steer port bytes) bytes (stampCap port s.time s.timeUnc) extra
    let s1 := (r.1.portCount port r.2.counter).endTenures (13 + port)
    if r.2 = .rcu then s1.setBit Addr.NET_ERR 1 else s1

/-- PORT_LINK_DOWN (R478). -/
def State.portDown (s : State) (port : Nat) : State :=
  if s.fld Addr.NET_STATUS port 1 = 0 then s
  else (s.setFld Addr.NET_STATUS port 1 0).evtPost Addr.NET_EVT (0x05 + 1 * 256 + port * 2 ^ 16)

/-- PORT_LINK_UP (R478): a port that NETMODE powers down does not come up. -/
def State.portUp (s : State) (port : Nat) : State :=
  if s.ioOff || (s.fld Addr.SEN_STRAP 9 2 = 1 && decide (2 ≤ port)) then s else s.setFld Addr.NET_STATUS port 1 1

/-! ## Transmit queues (R484, R485) -/

/-- Is a 16-byte transmit descriptor free of reserved values (R484)? -/
def txDescOk (d : List Byte) : Bool :=
  let len := cellGet d 8 2
  decide (cellGet d 0 8 < 2 ^ 44) && decide (60 ≤ len) && decide (len ≤ 9212) && decide (cellGet d 10 1 < 2) && cellGet d 12 4 == 0

/-- The port of a transmit queue. -/
def State.txPort (s : State) (t : Nat) : Nat := s.fld (Addr.NET_TXQ_CFG t) 1 2

/-- The address of the next posted descriptor of a transmit queue, where it has one (R484). -/
def State.txNext (s : State) (t : Nat) : Option Nat :=
  let cfg := (s.rd (Addr.NET_TXQ_CFG t)).toNat
  let size := bitsAt cfg 16 13
  let head := smGet (always 0) s.net.txHead t
  let tail := s.fld (Addr.NET_TXQ_TAIL t) 0 12
  if !cfg.testBit 0 || size ≤ tail || size ≤ head || head = tail then none
  else some (s.fld (Addr.NET_TXQ_BASE t) 4 40 * 16 + 16 * head)

/-- A transmit queue takes its next descriptor. -/
def State.txTake (s : State) (t : Nat) : State :=
  let size := s.fld (Addr.NET_TXQ_CFG t) 16 13
  let head := smGet (always 0) s.net.txHead t
  { s with net := { s.net with txHead := smSet (always 0) s.net.txHead t ((head + 1) % size) } }

/-- A descriptor of a transmit queue completes with a status (R484). -/
def State.txDone (s : State) (t dpa status : Nat) : State :=
  let s1 := s.descStatus 3 Addr.NET_ERR dpa status
  if s.fld (Addr.NET_TXQ_CFG t) 44 1 = 1 then s1.unitPost (s.fld (Addr.NET_TXQ_CFG t) 32 12) 0x05 else s1

/-- The frames in a port's transmit buffer. -/
def State.txFrames (s : State) (port : Nat) : List TxFrame := smGet (always []) s.net.txBuf port

/-- They are replaced. -/
def State.setTxFrames (s : State) (port : Nat) (l : List TxFrame) : State :=
  { s with net := { s.net with txBuf := smSet (always []) s.net.txBuf port l } }

/-- The queue whose frames have the reserved part of the buffer (R485). -/
def State.txReserved (s : State) (t : Nat) : Bool := s.fld Addr.JRN_ARCH_CFG 8 8 == t

/-- The bytes that one part of a port's buffer holds: the reserved queue's, or the others'. -/
def State.txUsed (s : State) (port : Nat) (res : Bool) : Nat :=
  (((s.txFrames port).filter (fun f => s.txReserved f.queue == res)).map (fun f => f.bytes.length)).sum

/-- Has the queue's part of its port's buffer room for n bytes: 128 KiB for the reserved queue, the rest of 1 MiB for the others
(R485)? -/
def State.txRoom (s : State) (t n : Nat) : Bool :=
  decide (s.txUsed (s.txPort t) (s.txReserved t) + n ≤ (if s.txReserved t then 0x20000 else 0xE0000))

/-- The next descriptor of a queue is read and its frame put into the port's buffer, or it completes at once with the status that
refuses it (R484). None where the frame does not fit yet. -/
def State.txLoad (s : State) (t : Nat) : Option State :=
  match s.txNext t with
  | none => none
  | some dpa =>
    let r := s.descRead 3 Addr.NET_ERR dpa
    match r.1 with
    | .error st => some ((r.2.txTake t).txDone t dpa st)
    | .ok d =>
      let pa := cellGet d 0 8
      let n := cellGet d 8 2
      if !txDescOk d then some ((r.2.txTake t).txDone t dpa 0x84)
      else if !s.txRoom t n then none
      else
        match r.2.dmaCheck 3 pa n .r with
        | some v => some ((((r.2.dmaViol 3 .r v).setBit Addr.NET_ERR 1).txTake t).txDone t dpa 0x81)
        | none =>
          let s1 := if pa < 2 ^ 41 then r.2.dramEnter pa n else r.2
          if s1.dmaPoison pa n then some ((s1.txTake t).txDone t dpa 0x83)
          else some ((s1.txTake t).setTxFrames (s.txPort t) (s1.txFrames (s.txPort t) ++ [⟨t, dpa, s1.dmaBytes pa n⟩]))

/-- The queues of a port in the order in which their turn comes: the reserved queue, then the others in round-robin order after
the one last served (R485). -/
def State.txOrder (s : State) (port : Nat) : List Nat :=
  let last := smGet (always 255) s.net.txLast port
  let mine := ((List.range 256).map (fun i => (last + 1 + i) % 256)).filter (fun t => s.txPort t == port)
  mine.filter (fun t => s.txReserved t) ++ mine.filter (fun t => !s.txReserved t)

/-- The first queue of a list that has a descriptor and whose frame fits is served. -/
def State.txServe (s : State) (port : Nat) : List Nat → Option State
  | [] => none
  | t :: ts =>
    match s.txLoad t with
    | none => s.txServe port ts
    | some s1 =>
      some (if s.txReserved t then s1
        else { s1 with net := { s1.net with txLast := smSet (always 255) s1.net.txLast port t } })

/-- The port's buffer is filled: queues take their turns until none has a frame that fits. -/
def State.txFill (s : State) (port : Nat) : Nat → State
  | 0 => s
  | n + 1 =>
    match s.txServe port (s.txOrder port) with
    | none => s
    | some s1 => s1.txFill port n

/-- The next frame of a port's buffer: the oldest of the reserved queue, else the oldest (R485). -/
def State.txFirst (s : State) (port : Nat) : Option TxFrame :=
  match (s.txFrames port).find? (fun f => s.txReserved f.queue) with
  | some f => some f
  | none => (s.txFrames port).head?

/-- TX_FRAME_SENT (R484, R485): the port of a queue fills its buffer and sends its next frame; the frame's status is written
back. -/
def State.txSent (s : State) (t : Nat) : State :=
  let port := s.txPort t
  let s1 := (s.txFill port 1048576).endTenures (13 + port)
  match s1.txFirst port with
  | none => s1
  | some f =>
    let s2 := s1.setTxFrames port ((s1.txFrames port).erase f)
    if s.fld Addr.NET_STATUS port 1 = 0 || s.fld Addr.NET_CTRL port 1 = 0 then s2.txDone f.queue f.desc 0x82
    else (s2.emitMore (.frame port f.bytes)).txDone f.queue f.desc 0x80

/-! ## Secure time (R488-R492) -/

/-- Is a message one that the time unit follows (R490)? The index of its grandmaster. -/
def State.gmIndex (s : State) (ident : Nat) : Option Nat :=
  (List.range 4).find? (fun g => !(ident == 0) && (s.rd (Addr.TIME_GM g)).toNat == ident)

/-- Does the time unit take a message of a port and domain at all (R489)? -/
def State.timeTakes (s : State) (port domain : Nat) : Bool :=
  !(s.fld Addr.TIME_CFG 0 2 == 0) && s.fld Addr.TIME_CFG 2 2 == port && s.fld Addr.TIME_CFG 8 8 == domain

/-- A message of an allowed clock is followed; one of another clock is discarded (R490). -/
def State.timeFrom (s : State) (port domain ident : Nat) (f : Nat → State → State) : State :=
  if !s.timeTakes port domain then s
  else
    match s.gmIndex ident with
    | none => s.setBit Addr.TIME_ERR 1
    | some g => f g s

/-- A measured offset as `TIME_STATUS.OFFSET` holds it: signed, saturating at 32 bits. -/
def offsetField (off : Int) : Nat := ((max (-(2 ^ 31)) (min (2 ^ 31 - 1) off)) % 2 ^ 32).toNat

/-- The servo's rate for an offset: fast where the module is behind, slow where it is ahead, by at most `SLEW_PPM` (R491). How far
within it the spec does not say (log 92). -/
def State.slewFor (s : State) (off : Int) : Int :=
  let n : Int := (1 + Config.slewRate s.clk % max 1 (s.fld Addr.TIME_LIM 32 8) : Nat)
  if off = 0 then 0 else if 0 < off then n else -n

/-- The servo takes an offset, grandmaster less module (R491, R492): one step forward at the first lock, else a change of
rate. -/
def State.servo (s : State) (gm : Nat) (off : Int) : State :=
  let first := s.fld Addr.TIME_STATUS 0 2 == 0
  let step := first && decide (0 < off)
  let s1 := if step then { (s.setBit Addr.TIME_STATUS 3) with time := ((s.time : Int) + off).toNat } else s
  let rest := if step then 0 else off
  let slew := decide (s.fld Addr.TIME_LIM 0 16 < rest.natAbs)
  let s2 := (s1.setFld Addr.TIME_STATUS 0 2 (if slew then 2 else 1)).setFld Addr.TIME_STATUS 2 1 (b2n slew)
  let s3 := { s2 with net := { s2.net with rate := s2.slewFor rest } }
  (s3.setFld Addr.TIME_STATUS 4 2 gm).setFld Addr.TIME_STATUS 16 32 (offsetField rest)

/-- An accepted Sync with its origin time (R491). -/
def State.syncWith (s : State) (gm origin arrival : Nat) : State :=
  let s1 := { s with net := { s.net with syncAt := none, lastSync := some (origin, arrival) } }
  s1.servo gm ((origin : Int) + s1.net.delay - arrival)

/-- SYNC (R489-R491): a one-step Sync carries its origin time; a two-step Sync waits for its Follow_Up. -/
def State.timeSync (s : State) (port domain ident origin : Nat) (twoStep : Bool) : State :=
  s.timeFrom port domain ident (fun g s =>
    if twoStep then { s with net := { s.net with syncAt := some s.time } } else s.syncWith g origin s.time)

/-- FOLLOW_UP (R490). -/
def State.followUp (s : State) (port domain ident origin : Nat) : State :=
  s.timeFrom port domain ident (fun g s =>
    match s.net.syncAt with
    | none => s
    | some t => s.syncWith g origin t)

/-- DELAY_RESP (R489, R490): the end-to-end delay from the last Sync and from a Delay_Req sent at `sent` and received at
`recv`. -/
def State.delayResp (s : State) (port domain ident sent recv : Nat) : State :=
  s.timeFrom port domain ident (fun _ s =>
    match s.net.lastSync with
    | none => s
    | some (t1, t2) =>
      { s with net := { s.net with delay := ((((t2 : Int) - t1) + ((recv : Int) - sent)) / 2).toNat } })

/-- HOLDOVER (R492): no accepted Sync for TIMEOUT_MS. The error estimate has then grown for that time. -/
def State.holdover (s : State) : State :=
  let st := s.fld Addr.TIME_STATUS 0 2
  if st = 0 || st = 3 then s
  else
    let off := (BitVec.ofNat 32 (s.fld Addr.TIME_STATUS 16 32)).toInt.natAbs
    let est := off * 10 ^ 9 + s.fld Addr.TIME_LIM 16 16 * s.fld Addr.TIME_CFG 32 16 * 10 ^ 6
    let s1 := (s.setFld Addr.TIME_STATUS 0 2 3).setBit Addr.TIME_ERR 2
    s1.setFld Addr.TIME_STATUS 2 1 (b2n (decide (s.fld Addr.TIME_LIM 0 16 * 10 ^ 9 < est)))

/-- TIME_UNCERTAIN (R492): in HOLDOVER the error estimate has passed `UNC_NS`. -/
def State.timeUncertain (s : State) : State :=
  if s.fld Addr.TIME_STATUS 0 2 = 3 then s.setFld Addr.TIME_STATUS 2 1 1 else s

end Sys2Proof.Machine
end

