-- ==== Sys2Proof/Machine/Pcie.lean ====
section
/-!
DEFINITION. The host PCI Express endpoint: BAR0, the submission, completion and delivery rings, and the send queues
(R493-R502, R522).
-/
namespace Sys2Proof.Machine

/-! ## BAR0 registers (R497) -/

/-- Offsets of BAR0. -/
def hbSqBase (h : Nat) : Nat := 0x1000 + 0x40 * h
/-- `HB_SQ_CFG`. -/
def hbSqCfg (h : Nat) : Nat := 0x1008 + 0x40 * h
/-- `HB_SQ_HEAD`. -/
def hbSqHead (h : Nat) : Nat := 0x1018 + 0x40 * h
/-- `HB_CQ_BASE`. -/
def hbCqBase (h : Nat) : Nat := 0x1020 + 0x40 * h
/-- `HB_DR_BASE`. -/
def hbDrBase (r : Nat) : Nat := 0x2000 + 0x40 * r
/-- `HB_DR_CFG`. -/
def hbDrCfg (r : Nat) : Nat := 0x2008 + 0x40 * r
/-- `HB_DR_TAIL`. -/
def hbDrTail (r : Nat) : Nat := 0x2018 + 0x40 * r
/-- `HB_STATUS`. -/
def hbStatusOff : Nat := 8

/-- A register of BAR0. -/
def State.hb (s : State) (off : Nat) : Nat := (smGet (always 0) s.net.hb off).toNat
/-- A register of BAR0 replaced. -/
def State.setHb (s : State) (off v : Nat) : State :=
  { s with net := { s.net with hb := smSet (always 0) s.net.hb off (BitVec.ofNat 64 v) } }

/-- `HB_STATUS` as the host reads it (R497): READY, DETACHING, WRERR. -/
def State.hbStatus (s : State) : Nat :=
  b2n (s.fld Addr.PCI_CTRL 0 1 == 1 && s.pwrState == 1) + b2n (s.pwrState == 3) * 2 + bitsAt (s.hb hbStatusOff) 8 1 * 256

/-! ## MSI-X (R497, R502) -/

/-- The upper half of an entry of the MSI-X table: message data, then the vector's control word. -/
def hbVector (v : Nat) : Nat := 0x8008 + 16 * v
/-- The pending-bit array. -/
def hbPending : Nat := 0x9000

/-- Is a vector masked? Its mask bit is 1 until the host clears it (PCI Express Base Specification 5.0; log 55), so the state holds
the bit inverted. -/
def State.vecMasked (s : State) (v : Nat) : Bool := !(s.hb (hbVector v)).testBit 32

/-- A vector is sent, or becomes pending while it is masked. -/
def State.vector (s : State) (v : Nat) : State :=
  if s.vecMasked v then s.setHb hbPending (setBitsAt (s.hb hbPending) v 1 1) else s.emitMore (.msix v)

/-- A host write of half an entry of the MSI-X table: a vector that it unmasks is sent if it is pending. -/
def State.msixWrite (s : State) (off v : Nat) : State :=
  if off % 16 = 0 then s.setHb off v
  else
    let k := (off - 0x8000) / 16
    let s1 := s.setHb off (v % 2 ^ 32 + (1 - bitsAt v 32 1) * 2 ^ 32)
    if !s1.vecMasked k && (s1.hb hbPending).testBit k then
      (s1.setHb hbPending (setBitsAt (s1.hb hbPending) k 1 0)).emitMore (.msix k)
    else s1

/-- MSI-X vector 32 signals a change of `HB_STATUS` (R502), while the link is up. -/
def State.hbNotice (old s : State) : State :=
  if old.hbStatus = s.hbStatus || s.fld Addr.PCI_STATUS 0 1 = 0 then s else s.vector 32

/-- A host write that places a reserved value (R497). -/
def State.hbWrerr (s : State) : State := s.setHb hbStatusOff (setBitsAt (s.hb hbStatusOff) 8 1 1)

/-- What a host read of BAR0 returns (R497). -/
def State.hostRead (s : State) (off : Nat) : Nat :=
  if off = 0 then Config.moduleId.toNat
  else if off = hbStatusOff then s.hbStatus
  else if 0x8000 ≤ off && decide (off < 0x8400) && off % 16 == 8 then s.hb off ^^^ 2 ^ 32
  else s.hb off

/-- A write of a ring's CFG (R497): bits but EN change only while EN is clear; EN rising empties the ring's counts. A reserved bit
that is not zero leaves its own field as it is. -/
def State.hbCfg (s : State) (off w : Nat) (maskBits : Nat) (opened : State → State) : State :=
  let s := if (w &&& maskBits) == w then s else s.hbWrerr
  let v := w &&& maskBits
  let old := s.hb off
  if old.testBit 0 && !(v / 2 == old / 2) then (s.setHb off (old / 2 * 2 + v % 2)).hbWrerr
  else
    let s1 := s.setHb off v
    if v.testBit 0 && !old.testBit 0 then opened s1 else s1

/-- A submission ring is enabled: its indexes start again. -/
def State.sqOpened (s : State) (h : Nat) : State :=
  let s1 := s.setHb (hbSqHead h) 0
  { s1 with net := { s1.net with bells := smSet (always []) s1.net.bells h [], cq := smSet (always ⟨0, 0⟩) s1.net.cq h ⟨0, 0⟩ } }

/-- A delivery ring is enabled: its indexes start again. -/
def State.drOpened (s : State) (r : Nat) : State :=
  let s1 := s.setHb (hbDrTail r) 0
  { s1 with net := { s1.net with dr := smSet (always ⟨0, 0⟩) s1.net.dr r ⟨0, 0⟩ } }

/-- Offset within a group of sixteen, where it lies in one: group base, index, offset. -/
def hbGroup (off : Nat) : Option (Bool × Nat × Nat) :=
  if 0x1000 ≤ off && decide (off < 0x1400) then some (true, (off - 0x1000) / 0x40, (off - 0x1000) % 0x40)
  else if 0x2000 ≤ off && decide (off < 0x2400) then some (false, (off - 0x2000) / 0x40, (off - 0x2000) % 0x40)
  else none

/-- A base register: bits below its alignment are reserved as zero. -/
def State.hbBase (s : State) (off v al : Nat) : State :=
  let s1 := s.setHb off (v / al * al)
  if v % al = 0 then s1 else s1.hbWrerr

/-! ## Submission (R495, R498, R499) -/

/-- The entries that a submission or completion ring has. -/
def State.sqSize (s : State) (h : Nat) : Nat := bitsAt (s.hb (hbSqCfg h)) 4 12 + 1
/-- The completion ring of a submission ring. -/
def State.cqRing (s : State) (h : Nat) : HostRing := smGet (always ⟨0, 0⟩) s.net.cq h
/-- The doorbells of a ring that wait. -/
def State.bells (s : State) (h : Nat) : List Doorbell := smGet (always []) s.net.bells h
/-- They are replaced. -/
def State.setBells (s : State) (h : Nat) (l : List Doorbell) : State :=
  { s with net := { s.net with bells := smSet (always []) s.net.bells h l } }

/-- A completion is written at the next index of the ring (R499). -/
def State.complete (s : State) (h tag status stampTime : Nat) : State :=
  let r := s.cqRing h
  let n := s.sqSize h
  let s1 := { s with net := { s.net with cq := smSet (always ⟨0, 0⟩) s.net.cq h ⟨r.written + 1, r.consumed⟩ } }
  s1.emitMore (.hostWrite (s.hb (hbCqBase h) + 16 * (r.written % n))
    (natBytes 8 tag ++ natBytes 2 (s.hb (hbSqHead h)) ++ natBytes 1 status ++ natBytes 1 (1 - r.written / n % 2)
      ++ natBytes 4 stampTime))

/-- The status of a delivery's end (R499). -/
def RxEnd.hostStatus : RxEnd → Nat
  | .good => 0
  | .long => 1
  | .nobuf => 2
  | .qdis => 3
  | .rcu => 4
  | .post => 6

/-- One entry is read and its message delivered (R498): the entry's bytes, and the message's bytes or a failed host read. -/
def State.submit (s : State) (h : Nat) (b : Doorbell) (entry : List Byte) (msg : Option (List Byte)) : State :=
  let q := 240 + h
  let len := cellGet entry 8 4
  let s0 := s.setHb (hbSqHead h) ((s.hb (hbSqHead h) + 1) % s.sqSize h)
  let tag := cellGet entry 16 8
  let finish (s : State) (st : Nat) : State := s.complete h tag st b.time
  if entry.length != 32 then (s0.setBit Addr.PCI_ERR 2) |> (fun s => finish s 5)
  else if len = 0 || 9216 < len then finish s0 1
  else
    match msg with
    | none =>
      if s0.fld (Addr.NET_RXQ_CFG q) 0 1 = 0 then finish s0 3
      else if s0.bufSize q < len then finish s0 1
      else if (smGet (always []) s0.rxFree q).isEmpty then finish s0 2
      else finish (s0.setBit Addr.PCI_ERR 2) 5
    | some bytes =>
      let r := s0.rxDeliver 4 q ((bytes ++ List.replicate len 0).take len) (stampCap 0x010 b.time b.unc) (2 ^ 26)
      finish (if r.2 = .rcu then r.1.setBit Addr.PCI_ERR 1 else r.1) r.2.hostStatus

/-- The entries of waiting doorbells are read in order while the completion ring has room; each doorbell whose entries have
all completed sends its vector (R499). -/
def State.serveBells (s : State) (h : Nat) : List (List Byte × Option (List Byte)) → State
  | [] =>
    match s.bells h with
    | b :: bs => if s.hb (hbSqHead h) = b.tail then (s.setBells h bs).vector h else s
    | [] => s
  | m :: ms =>
    match s.bells h with
    | [] => s
    | b :: bs =>
      if s.sqSize h ≤ (s.cqRing h).written - (s.cqRing h).consumed then s
      else
        let s1 := s.submit h b m.1 m.2
        let s2 := if s1.hb (hbSqHead h) = b.tail then (s1.setBells h bs).vector h else s1
        s2.serveBells h ms

/-- HB_SQ_DB (R498): a doorbell, with what the host memory holds for the entries that the module then reads. -/
def State.doorbell (s : State) (h v : Nat) (msgs : List (List Byte × Option (List Byte))) : State :=
  if s.fld Addr.PCI_STATUS 0 1 = 0 then s
  else if 4096 ≤ v then s.hbWrerr
  else if s.fld Addr.PCI_CTRL 0 1 = 0 || !(s.hb (hbSqCfg h)).testBit 0 || s.sqSize h ≤ v then s.bump Addr.PCI_CNT_BADW
  else
    let l := s.bells h
    let last := (l.getLast?.map (fun b => b.tail)).getD (s.hb (hbSqHead h))
    if last = v then s
    else ((s.setBells h (l ++ [⟨v, s.time, s.timeUnc⟩])).serveBells h msgs).endTenures 17

/-- A ring's consumed count follows the host's head index: the host consumes entries that the module has written. -/
def HostRing.consume (r : HostRing) (size v : Nat) : HostRing :=
  let outstanding := r.written - r.consumed
  let adv := (v + size - r.consumed % size) % size
  let adv := if adv = 0 && outstanding == size then size else adv
  { r with consumed := r.consumed + min adv outstanding }

/-- HB_CQ_HEAD (R499): the host frees completions, and the module reads entries that waited. -/
def State.cqHead (s : State) (h v : Nat) (msgs : List (List Byte × Option (List Byte))) : State :=
  if s.fld Addr.PCI_STATUS 0 1 = 0 then s
  else if 4096 ≤ v || s.sqSize h ≤ v then s.hbWrerr
  else
    let s1 := { s with net := { s.net with cq := smSet (always ⟨0, 0⟩) s.net.cq h ((s.cqRing h).consume (s.sqSize h) v) } }
    s1.serveBells h msgs

/-! ## Delivery (R500, R501) -/

/-- The slots of a delivery ring. -/
def State.drSlots (s : State) (r : Nat) : Nat := bitsAt (s.hb (hbDrCfg r)) 4 12 + 1
/-- The size of its slots. -/
def State.drSlotSize (s : State) (r : Nat) : Nat := if (s.hb (hbDrCfg r)).testBit 1 then 10240 else 2048
/-- The counts of a delivery ring. -/
def State.drRing (s : State) (r : Nat) : HostRing := smGet (always ⟨0, 0⟩) s.net.dr r

/-- Has a delivery ring no free slot (R500, R501)? -/
def State.drFull (s : State) (r : Nat) : Bool := decide (s.drSlots r ≤ (s.drRing r).written - (s.drRing r).consumed)

/-- HB_DR_HEAD (R500): the host frees slots. -/
def State.drHead (s : State) (r v : Nat) : State :=
  if s.fld Addr.PCI_STATUS 0 1 = 0 then s
  else if 4096 ≤ v || s.drSlots r ≤ v then s.hbWrerr
  else { s with net := { s.net with dr := smSet (always ⟨0, 0⟩) s.net.dr r ((s.drRing r).consume (s.drSlots r) v) } }

/-- HOST_BAR0_WRITE (R497): a host write of a register. A doorbell written so finds nothing of its entries in the command; they wait
for the next command that carries them. -/
def State.bar0Write (s : State) (off v : Nat) : State :=
  if s.fld Addr.PCI_STATUS 0 1 = 0 then s
  else
    match hbGroup off with
    | some (true, _, 0x00) => s.hbBase off v 64
    | some (true, h, 0x08) => s.hbCfg off v 0xFFF1 (fun s => s.sqOpened h)
    | some (true, h, 0x10) => s.doorbell h v []
    | some (true, _, 0x20) => s.hbBase off v 16
    | some (true, h, 0x28) => s.cqHead h v []
    | some (false, _, 0x00) => s.hbBase off v 4096
    | some (false, r, 0x08) => s.hbCfg off v 0xFFF3 (fun s => s.drOpened r)
    | some (false, r, 0x10) => s.drHead r v
    | _ =>
      if off = hbStatusOff then s.setHb off (setBitsAt (s.hb off) 8 1 (bitsAt (s.hb off) 8 1 - bitsAt v 8 1))
      else if 0x8000 ≤ off && decide (off < 0x8400) && off % 8 == 0 then s.msixWrite off v
      else s.bump Addr.PCI_CNT_BADW

/-- Is a 16-byte send descriptor free of reserved values, and its ring enabled (R501)? -/
def State.sendDescOk (s : State) (d : List Byte) : Bool :=
  let r := cellGet d 10 1 % 16
  let len := cellGet d 8 2
  decide (cellGet d 0 8 < 2 ^ 44) && decide (cellGet d 10 1 < 32) && cellGet d 12 4 == 0 && decide (1 ≤ len)
    && (s.hb (hbDrCfg r)).testBit 0 && decide (len + 16 ≤ s.drSlotSize r)

/-- The next posted descriptor of a send queue: its address, where the queue has one. -/
def State.sendNext (s : State) (q : Nat) : Option Nat :=
  let cfg := (s.rd (Addr.PCI_SQ_CFG q)).toNat
  let size := bitsAt cfg 16 13
  let head := smGet (always 0) s.net.sqHead q
  let tail := s.fld (Addr.PCI_SQ_TAIL q) 0 12
  if !cfg.testBit 0 || size ≤ tail || size ≤ head || head = tail then none
  else some (s.fld (Addr.PCI_SQ_BASE q) 4 40 * 16 + 16 * head)

/-- The next descriptor of a send queue completes with a status (R501). -/
def State.sendDone (s : State) (q dpa status : Nat) : State :=
  let size := s.fld (Addr.PCI_SQ_CFG q) 16 13
  let head := smGet (always 0) s.net.sqHead q
  let s1 := { s with net := { s.net with sqHead := smSet (always 0) s.net.sqHead q ((head + 1) % size) } }
  let s2 := (s1.descStatus 4 Addr.PCI_ERR dpa status).endTenures 17
  if s.fld (Addr.PCI_SQ_CFG q) 44 1 = 1 then s2.unitPost (s.fld (Addr.PCI_SQ_CFG q) 32 12) 0x05 else s2

/-- A message written into the next slot of a delivery ring: the message, then its header (R500). -/
def State.slotWrite (s : State) (q r : Nat) (msg : List Byte) (vector : Bool) : State :=
  let g := s.drRing r
  let n := s.drSlots r
  let at_ := s.hb (hbDrBase r) + s.drSlotSize r * (g.written % n)
  let hdr := natBytes 4 msg.length ++ natBytes 2 q ++ natBytes 1 (1 - g.written / n % 2) ++ natBytes 1 0 ++ natBytes 8 s.time
  let s1 := { s with net := { s.net with dr := smSet (always ⟨0, 0⟩) s.net.dr r ⟨g.written + 1, g.consumed⟩ } }
  let s2 := s1.setHb (hbDrTail r) ((g.written + 1) % n)
  let s3 := s2.emit [.hostWrite (at_ + 16) msg, .hostWrite at_ hdr]
  if vector then s3.vector (16 + r) else s3

/-- HOST_DELIVERY (R500, R501): the next descriptor of a send queue is served; it waits while its ring has no free slot. -/
def State.hostDelivery (s : State) (q : Nat) : State :=
  match s.sendNext q with
  | none => s
  | some dpa =>
    if s.fld Addr.PCI_STATUS 0 1 = 0 then s.sendDone q dpa 0x82
    else if s.fld Addr.PCI_CTRL 0 1 = 0 then s
    else
      let x := s.descRead 4 Addr.PCI_ERR dpa
      match x.1 with
      | .error st => x.2.sendDone q dpa st
      | .ok d =>
        let pa := cellGet d 0 8
        let n := cellGet d 8 2
        let r := cellGet d 10 1 % 16
        if !s.sendDescOk d then x.2.sendDone q dpa 0x84
        else if s.drFull r then x.2
        else
          match x.2.dmaCheck 4 pa n .r with
          | some v => ((x.2.dmaViol 4 .r v).setBit Addr.PCI_ERR 1).sendDone q dpa 0x81
          | none =>
            let s1 := if pa < 2 ^ 41 then x.2.dramEnter pa n else x.2
            if s1.dmaPoison pa n then s1.sendDone q dpa 0x83
            else (s1.slotWrite q r (s1.dmaBytes pa n) ((cellGet d 10 1).testBit 4)).sendDone q dpa 0x80

/-- DELIVERY_RING_STALL (R501): a descriptor found no free slot within STALL_MS. -/
def State.deliveryStall (s : State) (q : Nat) : State :=
  match s.sendNext q with
  | none => s
  | some dpa =>
    if s.fld Addr.PCI_STATUS 0 1 = 0 || s.fld Addr.PCI_CTRL 0 1 = 0 then s
    else
      match s.descRead 4 Addr.PCI_ERR dpa with
      | (.error _, s1) => s1
      | (.ok d, s1) =>
        if !s.sendDescOk d || !s.drFull (cellGet d 10 1 % 16) then s1
        else (s1.sendDone q dpa 0x85).evtPost Addr.NET_EVT (0x05 + 3 * 256)

/-- A write to a send queue's base or configuration (R522): base and size change only while EN is clear. -/
def State.sqWrite (s : State) (w : Writer) (q a v : Nat) : State :=
  let cfg := (s.rd (Addr.PCI_SQ_CFG q)).toNat
  if cfg.testBit 0 && a == Addr.PCI_SQ_BASE q then
    if bitsAt v 4 40 = s.fld a 4 40 then s else s.wrerr a
  else if cfg.testBit 0 && a == Addr.PCI_SQ_CFG q && !(bitsAt v 16 13 == bitsAt cfg 16 13) then
    (s.plainWrite w a (setBitsAt v 16 13 (bitsAt cfg 16 13))).wrerr a
  else s.plainWrite w a v

/-! ## The link (R493, R496, R502) -/

/-- Descriptors of a send queue that have not completed end with a status. -/
def State.sendFlush (s : State) (q : Nat) : Nat → State
  | 0 => s
  | n + 1 =>
    match s.sendNext q with
    | none => s
    | some dpa => (s.sendDone q dpa 0x82).sendFlush q n

/-- Submission entries not yet read are discarded without a completion. -/
def State.bellsDrop (s : State) (h : Nat) : State :=
  match (s.bells h).getLast? with
  | none => s
  | some b => (s.setHb (hbSqHead h) b.tail).setBells h []

/-- PCIE_LINK_DOWN (R496, R502). -/
def State.pcieDown (s : State) : State :=
  if s.fld Addr.PCI_STATUS 0 1 = 0 then s
  else
    let s1 := (s.wr Addr.PCI_STATUS 0).setBit Addr.PCI_ERR 3
    let s2 := (List.range 16).foldl (fun s q => s.sendFlush q 4096) s1
    let s3 := (List.range 16).foldl (fun s h => s.bellsDrop h) s2
    s3.evtPost Addr.NET_EVT (0x05 + 2 * 256)

/-- PCIE_LINK_UP (R493): the negotiated width in lanes and the speed code. -/
def State.pcieUp (s : State) (width speed : Nat) : State :=
  if s.ioOff then s
  else s.wr Addr.PCI_STATUS (BitVec.ofNat 64 (1 + width % 32 * 2 + speed % 8 * 64))

end Sys2Proof.Machine
end

