-- ==== Sys2Proof/Machine/Cwl.lean ====
section
/-!
DEFINITION. The Cuwen Link: flits, messages, heartbeats, partner loss, takeover and inbound DMA (R503-R513).
-/
namespace Sys2Proof.Machine

/-! ## Flits out (R504-R506) -/

/-- A link. -/
def State.lnk (s : State) (l : Nat) : Link := smGet (always linkReset) s.cwl.links l
/-- A link replaced. -/
def State.setLnk (s : State) (l : Nat) (k : Link) : State :=
  { s with cwl := { s.cwl with links := smSet (always linkReset) s.cwl.links l k } }
/-- Is a link up? -/
def State.lnkUp (s : State) (l : Nat) : Bool := (s.fld Addr.CWL_STATUS 0 2).testBit l

/-- The class of an opcode (R506). -/
def opClass (op : Nat) : Nat := op / 16 % 4

/-- The links that a message is sent on (R506, R507): TAKEOVER on every link that is up, another message on one. -/
def State.linksFor (s : State) (op : Nat) : List Nat :=
  let up := (List.range 2).filter s.lnkUp
  if op = 0x01 || op = 0x04 then up
  else if opClass op = 3 then (up.reverse).take 1
  else up.take 1

/-- A message as bytes (R506). -/
def msgBytes (op tag operand : Nat) (body : List Byte) : List Byte :=
  natBytes 1 op ++ natBytes 1 0 ++ natBytes 2 body.length ++ natBytes 4 tag ++ natBytes 8 operand ++ body

/-- A message cut into flits (R506). -/
def flitsOf (cls : Nat) (first : Bool) (bs : List Byte) : Nat → List Flit
  | 0 => []
  | n + 1 =>
    let last := decide (bs.length ≤ 112)
    ⟨1, cls + b2n first * 16 + b2n last * 32, bs.take 112⟩ :: (if last then [] else flitsOf cls false (bs.drop 112) n)

/-- The 128 bytes of a flit (R504). -/
def flitBytes (f : Flit) (seq ack : Nat) (credit : List Nat) : List Byte :=
  let h : List Byte := natBytes 1 f.kind ++ natBytes 1 f.flags ++ natBytes 2 seq ++ natBytes 2 ack
    ++ ((credit ++ [0, 0, 0, 0]).take 4).flatMap (natBytes 1) ++ natBytes 2 f.data.length
    ++ (f.data ++ List.replicate 112 0).take 112
  h ++ natBytes 4 (crc32 h)

/-- The highest sequence received in order. -/
def Link.ack (k : Link) : Nat := (k.rxSeq + 0xFFFF) % 0x10000

/-- One flit leaves a link: it is kept for replay, and carries the credits owed. -/
def Link.send (k : Link) (f : Flit) : Link × List Byte :=
  let ret := k.owed.map (fun x => min x 255)
  ({ k with txSeq := (k.txSeq + 1) % 0x10000, kept := k.kept ++ [(k.txSeq, f)],
            owed := k.owed.map (fun x => x - min x 255),
            credit := if f.kind = 1 then k.credit.set (f.flags % 4) (k.credit.getD (f.flags % 4) 0 - 1) else k.credit },
   flitBytes f k.txSeq k.ack ret)

/-- Waiting flits leave a link as credits and the 1,024 kept flits allow, each class in order (R505, R506). -/
def Link.pump (k : Link) (held : List Flit) : List Flit → Link × List (List Byte)
  | [] => ({ k with wait := held }, [])
  | f :: fs =>
    let ok := decide (k.kept.length < 1024) && (f.kind != 1 || decide (0 < k.credit.getD (f.flags % 4) 0))
      && !held.any (fun h => h.kind == 1 && h.flags % 4 == f.flags % 4)
    if ok then
      let r := k.send f
      let r2 := r.1.pump held fs
      (r2.1, r.2 :: r2.2)
    else k.pump (held ++ [f]) fs

/-- The waiting flits of a link that can go are sent. -/
def State.pumpLink (s : State) (l : Nat) : State :=
  if !s.lnkUp l then s
  else
    let r := (s.lnk l).pump [] (s.lnk l).wait
    (s.setLnk l r.1).emit (r.2.map (fun b => Emit.flit l b))

/-- Flits join a link's waiting ones. -/
def State.queueFlits (s : State) (fs : List Flit) : List Nat → State
  | [] => s
  | l :: ls => (s.setLnk l { s.lnk l with wait := (s.lnk l).wait ++ fs }).queueFlits fs ls

/-- One message that the command gave to the link is cut into flits. -/
def State.packOne (s : State) : Emit → State
  | .link op tag operand body =>
    let m := msgBytes op tag operand body
    s.queueFlits (flitsOf (opClass op) true m (m.length / 112 + 1)) (s.linksFor op)
  | _ => s

/-- The messages that a command gave to the link leave as flits. -/
def State.cwlPack (s : State) : State :=
  if s.out.any (fun e => match e with
      | .link _ _ _ _ => true
      | _ => false) then
    ((s.out.foldl State.packOne s).pumpLink 0).pumpLink 1
  else s

/-! ## Roles (R507-R511) -/

/-- The notices of the Cuwen Link on its event channel (R521). -/
def State.cwlEvt (s : State) (code : Nat) : State := s.evtPost Addr.CWL_EVT (0x06 + code * 256)

/-- The takeover generation, in the key store and in its register. -/
def State.setGen (s : State) (g : Nat) : State :=
  { (s.setFld Addr.CWL_STATUS 32 32 g) with keys := { s.keys with takeGen := g % 2 ^ 32 } }

/-- A takeover (R510, R384): the generation rises, TAKEOVER goes out, and the standby becomes primary. -/
def State.takeOver (s : State) (cause : Nat) : State :=
  let s1 := s.setGen (s.keys.takeGen + 1)
  let s2 := if s1.linkUp then s1.emitMore (.link 0x01 0 s1.keys.takeGen []) else s1
  (s2.takeRole cause).cwlEvt 3

/-- The losing module of a dual primary becomes standby and asks to join (R511). -/
def State.yieldRole (s : State) : State :=
  let s1 := (s.setBit Addr.CWL_ERR 2).setFld Addr.JRN_REPL_STATUS 0 1 1
  let s2 := s1.jrnFlush 5 (fun r => match r.issuer with
    | .bank p _ _ _ => isSentinel p
    | _ => true)
  (s2.setRepl 0).askJoin

/-- Both modules claim the primary role: the higher generation, then the lower SLOT_ID, remains (R511). -/
def State.dualPrimary (s : State) (gen slot : Nat) : State :=
  if s.standby then s
  else if s.keys.takeGen < gen || (s.keys.takeGen == gen && decide (slot < s.fld Addr.SEN_STRAP 0 6)) then s.yieldRole
  else s

/-- Forwarded records without a reply are sent again with the same tags (R507). -/
def State.fwdAgain (s : State) : State :=
  s.emit (s.jrn.fwd.map (fun x =>
    Emit.link 0x20 x.1 0 (natBytes 2 x.2.src ++ natBytes 2 x.2.typ ++ natBytes 4 x.2.payload.length ++ x.2.payload)))

/-- The ENTRY class resumes after the last acknowledged entry (R507). -/
def State.entryAgain (s : State) : State :=
  if s.standby then s else (s.updJrn (fun j => { j with sent := min j.sent (s.rd Addr.JRN_PACK_SEQ).toNat })).jrnLag

/-- The partner is lost (R509): the journal engine applies R382. -/
def State.partnerLoss (s : State) : State :=
  if s.fld Addr.CWL_STATUS 2 1 = 0 then s
  else ((s.setFld Addr.CWL_STATUS 2 1 0).cwlEvt 2).partnerSilent

/-- CWL_LINK_UP (R503, R511): a link trains; the partner claims a role, a generation and a slot. -/
def State.cwlUp (s : State) (l : Nat) (primary : Bool) (gen slot : Nat) : State :=
  if s.lnkUp l || s.fld Addr.CWL_CTRL l 1 = 0 || s.ioOff then s
  else
    let s1 := ((s.setFld Addr.CWL_STATUS l 1 1).setLnk l linkReset).setFld Addr.CWL_STATUS 3 1 (b2n !primary)
    let s2 := { s1 with cwl := { s1.cwl with partnerGen := gen, detached := false } }
    let s3 := if primary then s2.dualPrimary gen slot else s2
    let st := s3.fld Addr.JRN_REPL_STATUS 1 3
    if s3.standby then (if s.standby && (st = 0 || st = 3) then s3.askJoin else s3).fwdAgain else s3.entryAgain

/-- The flits of class CTRL that a link has not had acknowledged; a message of that class is one flit (R506). -/
def Link.control (k : Link) : List Flit :=
  (k.kept.map (fun e => e.2) ++ k.wait).filter (fun f => f.kind == 1 && f.flags % 4 == 0)

/-- CWL_LINK_DOWN (R503, R507): the classes of the link move to the other one; messages of class CTRL are sent there again
(DEDUCED, log 93). -/
def State.cwlDown (s : State) (l : Nat) : State :=
  if !s.lnkUp l then s
  else
    let entry := l == 0 || !s.lnkUp 0
    let s1 := ((s.setFld Addr.CWL_STATUS l 1 0).setBit Addr.CWL_ERR 1).setLnk l linkReset
    let s2 := { s1 with cwl := { s1.cwl with
      part := (List.range 4).foldl (fun m c => smSet (always []) m (l * 4 + c) []) s1.cwl.part, lastDone := 1 } }
    let s3 := s2.cwlEvt 1
    let s4 := if entry && s3.linkUp then s3.entryAgain.fwdAgain else s3
    if s4.linkUp then ((s4.queueFlits (s.lnk l).control [1 - l]).pumpLink (1 - l)) else s4.partnerLoss

/-! ## Heartbeats (R508) -/

/-- A heartbeat's payload. -/
def State.heartbeatBytes (s : State) : List Byte :=
  natBytes 8 Config.moduleId.toNat ++ natBytes 1 (b2n s.standby) ++ natBytes 1 (s.fld Addr.JRN_REPL_STATUS 1 3)
    ++ natBytes 1 (b2n (s.pwrState == 3) + b2n s.hold * 2) ++ natBytes 1 0 ++ natBytes 4 s.keys.takeGen
    ++ natBytes 8 (s.rd Addr.JRN_HEAD_SEQ).toNat ++ natBytes 8 (s.rd Addr.JRN_DUR_SEQ).toNat

/-- HEARTBEAT_SEND: a heartbeat flit on each link that is up. -/
def State.heartbeatSend (s : State) : State :=
  ((s.queueFlits [⟨2, 0, s.heartbeatBytes⟩] ((List.range 2).filter s.lnkUp)).pumpLink 0).pumpLink 1

/-- The partner is heard, unless it has said that it leaves (R509). -/
def State.heard (s : State) : State := if s.cwl.detached then s else s.setFld Addr.CWL_STATUS 2 1 1

/-- HEARTBEAT: a heartbeat of the partner is received. -/
def State.heartbeatIn (s : State) (l : Nat) (b : List Byte) : State :=
  if !s.lnkUp l then s
  else
    let s1 := s.heard.setFld Addr.CWL_STATUS 3 1 (cellGet b 8 1)
    { s1 with cwl := { s1.cwl with partnerId := cellGet b 0 8, partnerGen := cellGet b 0x0C 4, partnerHead := cellGet b 0x10 8,
                                   partnerDur := cellGet b 0x18 8 } }

/-- AUTO_TAKEOVER (R510): the partner has been lost for TAKE_MS. -/
def State.autoTakeover (s : State) : State :=
  if s.standby && s.fld Addr.CWL_CTRL 2 1 == 1 && s.fld Addr.CWL_STATUS 2 1 == 0 && s.fld Addr.JRN_REPL_STATUS 1 3 == 2 then
    s.takeOver 1
  else s

/-! ## Messages (R506) -/

/-- CWL_TAKEOVER: the partner is primary at a new generation (R510); a module that still claims the role yields (R511). -/
def State.takeoverIn (s : State) (gen : Nat) : State :=
  let s1 := { (s.setFld Addr.CWL_STATUS 3 1 0) with cwl := { s.cwl with partnerGen := gen } }
  if !s1.standby && decide (s1.keys.takeGen < gen) then s1.yieldRole else s1

/-- JOIN_RESP: a joining module adopts the primary's generation (R510). -/
def State.joinRespIn (s : State) (code : Nat) : State :=
  if !s.standby then s else (if code = 1 then s else s.setGen s.cwl.partnerGen).joinResp code

/-- CWL_DETACH (R509): the partner leaves. -/
def State.detachIn (s : State) : State := { s with cwl := { s.cwl with detached := true } }.partnerLoss

/-- Is the takeover of a standby due whose partner has left: has it acknowledged every entry up to the partner's last durable one
(R510)? -/
def State.detachDue (s : State) : Bool :=
  s.cwl.detached && s.standby && decide (s.cwl.partnerDur ≤ (s.rd Addr.JRN_DUR_SEQ).toNat)

/-- A takeover that is due takes place (R510). -/
def State.settleDetach (s : State) : State := if s.detachDue then s.takeOver 3 else s

/-- WRITE (R513): an inbound DMA write lands in the window or is refused, and is answered; its tenures end (R343). -/
def State.cwlWriteIn (s : State) (tag off : Nat) (data : List Byte) : State :=
  let s := s.endTenures 18
  let base := s.fld Addr.CWL_WIN 12 32 * 4096
  let len := s.fld Addr.CWL_WIN 44 20 * 4096
  if len = 0 || len < off + data.length then (s.setBit Addr.CWL_ERR 3).emitMore (.link 0x31 tag 1 [])
  else
    match s.dmaCheck 5 (base + off) data.length .w with
    | some v => ((s.dmaViol 5 .w v).setBit Addr.CWL_ERR 3).emitMore (.link 0x31 tag 1 [])
    | none => (s.dmaWrite (base + off) data).emitMore (.link 0x31 tag 0 [])

/-- WRITE_DONE (R506): a DMA write to the partner has completed. -/
def State.writeDoneIn (s : State) (st : Nat) : State := { s with cwl := { s.cwl with lastDone := st } }

/-- POST (R513): the partner's notice word, with this unit's number and the POST code. -/
def State.postIn (s : State) (word : Nat) : State := s.evtPost Addr.CWL_EVT (setBitsAt word 0 16 0x0406)

/-- JOIN_REQ's fields in its body (R506). -/
def State.joinReqIn (s : State) (body : List Byte) : State := s.joinReq (cellGet body 0 8) (cellGet body 8 8) (cut 16 32 body)

/-- A message has arrived whole. -/
def State.cwlMsg (s : State) (op tag operand : Nat) (body : List Byte) : State :=
  match op with
  | 0x01 => s.takeoverIn operand
  | 0x02 => s.joinReqIn body
  | 0x03 => s.joinRespIn operand
  | 0x04 => s.detachIn
  | 0x10 => s.entryIn operand body
  | 0x11 => s.entryAck operand
  | 0x20 => s.fwdReq tag body
  | 0x21 => s.fwdReceipt tag operand
  | 0x22 => s.fwdStatus tag operand
  | 0x30 => s.cwlWriteIn tag operand body
  | 0x31 => s.writeDoneIn operand
  | 0x32 => s.postIn operand
  | _ => s

/-- A message's bytes are taken apart (R506). -/
def State.cwlMsgBytes (s : State) (m : List Byte) : State :=
  s.cwlMsg (cellGet m 0 1) (cellGet m 4 4) (cellGet m 8 8) (cut 16 (cellGet m 2 2) m)

/-! ## Flits in (R505) -/

/-- Kept flits up to an acknowledged sequence are released. -/
def Link.acked (k : Link) (ack : Nat) : Link :=
  if k.kept.any (fun e => e.1 == ack) then
    { k with kept := (k.kept.dropWhile (fun e => !(e.1 == ack))).drop 1, replays := 0 }
  else k

/-- Credits returned by the partner, at most those of R506. -/
def Link.credited (k : Link) (c : List Nat) : Link :=
  { k with credit := ((List.range 4).map (fun i => min (k.credit.getD i 0 + c.getD i 0) ([32, 2048, 128, 1024].getD i 0))) }

/-- The payload of a message flit joins the message of its link and class. -/
def State.flitPart (s : State) (l : Nat) (flags : Nat) (data : List Byte) : State :=
  let i := l * 4 + flags % 4
  let m := (if flags.testBit 4 then [] else smGet (always []) s.cwl.part i) ++ data
  if flags.testBit 5 then
    ({ s with cwl := { s.cwl with part := smSet (always []) s.cwl.part i [] } }).cwlMsgBytes m
  else { s with cwl := { s.cwl with part := smSet (always []) s.cwl.part i m } }

/-- FLIT (R504, R505): a flit arrives; one with a bad CRC, or out of order, is discarded. -/
def State.flitIn (s : State) (l : Nat) (b : List Byte) : State :=
  let k := s.lnk l
  let kind := cellGet b 0 1
  if !s.lnkUp l || b.length != 128 || cellGet b 0x7C 4 != crc32 (b.take 0x7C) || 2 < kind || cellGet b 2 2 != k.rxSeq then s
  else
    let flags := cellGet b 1 1
    let data := cut 0x0C (cellGet b 0x0A 2) b
    let k1 := (({ k with rxSeq := (k.rxSeq + 1) % 0x10000 }).acked (cellGet b 4 2)).credited
      [cellGet b 6 1, cellGet b 7 1, cellGet b 8 1, cellGet b 9 1]
    let k2 := if kind = 1 then { k1 with owed := k1.owed.set (flags % 4) (k1.owed.getD (flags % 4) 0 + 1) } else k1
    let s1 := (s.setLnk l k2).heard
    let s2 := if kind = 1 then s1.flitPart l flags data else if kind = 2 then s1.heartbeatIn l data else s1
    s2.pumpLink l

/-- FLIT_REPLAY (R505): the acknowledgement has not advanced for 10 us; the kept flits go again, and the eighth replay of one
flit takes the link down. -/
def State.flitReplay (s : State) (l : Nat) : State :=
  let k := s.lnk l
  if !s.lnkUp l || k.kept.isEmpty then s
  else
    let s1 := s.bumpBy (if l = 0 then Addr.CWL_CNT_REPLAY0 else Addr.CWL_CNT_REPLAY1) k.kept.length
    let s2 := (s1.setLnk l { k with replays := k.replays + 1 }).emit
      (k.kept.map (fun e => Emit.flit l (flitBytes e.2 e.1 k.ack [0, 0, 0, 0])))
    if 8 ≤ k.replays + 1 then s2.cwlDown l else s2

end Sys2Proof.Machine
end

