-- ==== Sys2Proof/Machine/Mc.lean ====
section
/-!
DEFINITION. Decode-table packages: their validation and their installation (R409-R413, R418-R421).
-/
namespace Sys2Proof.Machine

/-- The fields of a micro-op (R410). -/
structure Uop where
  code : Nat
  last : Bool
  d : Nat
  a : Nat
  b : Nat
  fn : Nat
  imm : BitVec 32
deriving DecidableEq, Repr

/-- A micro-op word taken apart. -/
def uopOf (w : Nat) : Uop :=
  ⟨bitsAt w 58 6, w.testBit 57, bitsAt w 52 5, bitsAt w 47 5, bitsAt w 42 5, bitsAt w 32 6, BitVec.ofNat 32 (bitsAt w 0 32)⟩

/-- Does `MAJ` 0x11 assign an operation to `FN` (R139)? -/
def shmdDefined (fn : Nat) : Bool := [0, 1, 2, 4, 5, 6, 7, 8, 0x0C, 0x0D, 0x0E, 0x0F, 0x10].contains fn

/-- Is the function of a micro-op defined (R411)? -/
def Uop.fnOk (u : Uop) : Bool :=
  match u.code with
  | 1 => decide (u.fn ≤ 0x19)
  | 2 => shmdDefined u.fn
  | 3 => decide (u.fn ≤ 0x19)
  | 4 => decide (u.fn < 16)
  | 5 => decide (u.fn ≤ 0x12)
  | 6 => decide (u.fn ≤ 7)
  | 7 => decide (u.fn ≤ 4)
  | 8 => decide (u.fn < 8)
  | _ => false

/-- Is a selector defined, and marked by its entry word (R410, R413)? `src` selectors may be 0x10. -/
def selOk (w sel : Nat) (src : Bool) : Bool :=
  if sel = 0 then true
  else if sel = 1 then w.testBit (if src then 1 else 2)
  else if sel = 2 then w.testBit 3
  else if sel = 3 then w.testBit 4
  else if sel = 0x10 then src
  else decide (8 ≤ sel) && decide (sel ≤ 15)

/-- Does the first field of a micro-op name a source (R410)? -/
def Uop.dIsSrc (u : Uop) : Bool := u.code == 7 || u.code == 8

/-- Is micro-op `i` of an entry of `len` micro-ops valid (R413)? -/
def Uop.ok (w len i word : Nat) : Bool :=
  let u := uopOf word
  bitsAt word 38 4 == 0 && u.fnOk && (u.last == (i + 1 == len))
    && (if u.dIsSrc then selOk w u.d true && u.d != 0x10 else selOk w u.d false)
    && selOk w u.a true && selOk w u.b true
    && (u.code != 8 || (decide (1 ≤ u.imm.toInt) && decide ((i : Int) + 1 + u.imm.toInt < len)))

/-- Is an entry with its 32 store words valid (R409, R413)? -/
def entryOk (w : Nat) (us : List Nat) : Bool :=
  if !w.testBit 0 then w == 0 && us.all (fun x => x == 0)
  else
    let len := bitsAt w 5 6
    let ops := (us.take len).map (fun x => (uopOf x).code)
    decide (w < 2 ^ 11) && decide (1 ≤ len) && decide (len ≤ 32)
      && ((List.range len).all (fun i => Uop.ok w len i (us.getD i 0)))
      && (us.drop len).all (fun x => x == 0)
      && decide ((ops.filter (fun c => c == 6 || c == 7)).length ≤ 8) && decide ((ops.filter (fun c => c == 7)).length ≤ 4)

/-- Entry word n of a package (R418). -/
def pkgWord (b : List Byte) (n : Nat) : Nat := cellGet b (0x20 + 8 * n) 8
/-- Micro-op i of entry n of a package. -/
def pkgUop (b : List Byte) (n i : Nat) : Nat := cellGet b (0x220 + 256 * n + 8 * i) 8
/-- The version of a package. -/
def pkgVersion (b : List Byte) : Nat := cellGet b 8 8
/-- The table hash of a package (R418). -/
def pkgHash (b : List Byte) : List Byte := sha256 (cut 0x20 0x4200 b)

/-- Is every entry of a package valid (R413)? -/
def pkgEntriesOk (b : List Byte) : Bool :=
  (List.range 64).all (fun n => entryOk (pkgWord b n) ((List.range 32).map (pkgUop b n)))

/-- The operator keys of the key store. -/
def State.operKeys (s : State) : List (List Byte) :=
  (List.range 4).filterMap (fun i => smGet (always none) s.keys.oper i)

/-- The vendor keys (R455). -/
def vendorKeyList : List (List Byte) := (List.range (min Config.vendorKeys 4)).map (fun n => (List.range 97).map (Config.vendorKey n))

/-- The key of a list that an identifier names (R366, R418, R434). -/
def keyNamed (ks : List (List Byte)) (ident : List Byte) : Option (List Byte) := ks.find? (fun k => keyId k == ident)

/-- Is a package well formed, addressed to this module, signed by an operator key and valid (R413, R418)? -/
def State.pkgOk (s : State) (b : List Byte) : Bool :=
  (b.length == 0x4280) && cellGet b 0 4 == 0x00014D43 && cellGet b 4 2 == 1 && cellGet b 6 2 == 0
    && (cellGet b 0x10 8 == 0 || cellGet b 0x10 8 == Config.moduleId.toNat)
    && (match keyNamed s.operKeys (cut 0x18 8 b) with
        | none => false
        | some k => verifies k (b.take 0x4220) (b.drop 0x4220))
    && pkgEntriesOk b

/-- The decode table of a package. -/
def pkgTable (b : List Byte) : DecodeTable :=
  { words := (List.range 64).foldl (fun m n => smSet (always 0) m n (BitVec.ofNat 64 (pkgWord b n))) [],
    uops := (List.range 2048).foldl (fun m i => smSet (always 0) m i (BitVec.ofNat 64 (pkgUop b (i / 32) (i % 32)))) [] }

/-- `MC_VERSION` and `MC_HASH` show a package's table. -/
def State.mcShow (s : State) (b : List Byte) : State :=
  let h := pkgHash b
  ((((s.wr Addr.MC_VERSION (BitVec.ofNat 64 (pkgVersion b))).wr Addr.MC_HASH0 (BitVec.ofNat 64 (cellGet h 0 8))).wr Addr.MC_HASH1
    (BitVec.ofNat 64 (cellGet h 8 8))).wr Addr.MC_HASH2 (BitVec.ofNat 64 (cellGet h 16 8))).wr Addr.MC_HASH3
    (BitVec.ofNat 64 (cellGet h 24 8))

/-- The hash that `MC_HASH` holds. -/
def State.mcHash (s : State) : List Byte :=
  [Addr.MC_HASH0, Addr.MC_HASH1, Addr.MC_HASH2, Addr.MC_HASH3].flatMap (fun a => natBytes 8 (s.rd a).toNat)

/-- A function applied to every ledger pair. -/
def State.allLedger (s : State) (f : Pair → Pair) : State := (List.range 96).foldl (fun s p => s.updPair p f) s

/-- A verified package is loaded into every ledger pair at boot (R421); without one, every entry is empty. -/
def State.mcBoot (s : State) (b : Option (List Byte)) : State :=
  match b with
  | none => s.setBit Addr.MC_ERR 1
  | some b => (s.allLedger (fun v => { v with table := pkgTable b })).mcShow b

/-- A committed package goes to the pending copy of every ledger pair (R419, steps 3 and 4). -/
def State.mcInstall (s : State) (b : List Byte) : State :=
  let s1 := (s.allLedger (fun v => { v with pendTable := some (pkgTable b) })).mcShow b
  (s1.wr Addr.MC_PEND0 (BitVec.ofNat 64 (2 ^ 64 - 1))).wr Addr.MC_PEND1 (BitVec.ofNat 64 (2 ^ 32 - 1))

end Sys2Proof.Machine
end

