-- ==== Sys2Proof/Machine/Alarm.lean ====
section
/-!
DEFINITION. Alarms: detection and policies, alarm hold, Umbra erase, and the lock of debug (R457-R464, R472).
-/
namespace Sys2Proof.Machine

/-- The security monitor with a function applied. -/
def State.updSec (s : State) (f : Sec → Sec) : State := { s with sec := f s.sec }
/-- The key store with a function applied. -/
def State.updKeys (s : State) (f : KeyStore → KeyStore) : State := { s with keys := f s.keys }

/-- Is an epoch open? In ALARMED none is (R454). -/
def State.epochUp (s : State) : Bool := s.jrn.isOpen && !(s.lcState == 3)

/-- A security audit record that is appended while an epoch is open (R466). -/
def State.auditOpen (s : State) (kind port result code a v : Nat) (dig : List Byte) : State :=
  if s.epochUp then s.auditRec kind port result code a v dig [] .none else s

/-! ## Debug lock (R471, R472) -/

/-- Is debug unlocked? -/
def State.unlocked (s : State) : Bool := s.fld Addr.SEC_DBG 0 1 == 1
/-- The DBG_ALLOW strap as latched. -/
def State.dbgAllow (s : State) : Bool := s.fld Addr.SEN_STRAP 13 1 == 1

/-- `SEC_STATUS.DBG`: unlocked, or open under DBG_ALLOW in BLANK (R476). -/
def State.dbgShow (s : State) : State :=
  s.setFld Addr.SEC_STATUS 1 1 (b2n (s.unlocked || (s.lcState == 0 && s.dbgAllow)))

/-- The condition for access in the lifecycle state in force (R471). -/
def State.dbgOpen (s : State) : Bool :=
  match s.lcState with
  | 0 => s.dbgAllow || s.unlocked
  | 1 => s.dbgAllow && s.unlocked
  | 2 => s.unlocked
  | _ => false

/-- Where debug has no access any more, the pairs that it had halted run again (DESIGN CHOICE, log 90). -/
def State.dbgRelease (s : State) : State := if s.dbgOpen then s else s.updSec (fun k => { k with dbgHalt := [] })

/-- Debug relocks (R472): an unlock in force ends and is recorded. -/
def State.relock (s : State) (port code : Nat) : State :=
  if s.unlocked then
    ((s.setFld Addr.SEC_DBG 0 1 0).setFld Addr.SEC_DBG 16 16 0).dbgRelease.dbgShow.auditOpen 7 port 0 code 0 0 []
  else s.dbgRelease.dbgShow

/-! ## Replies (R514, R515) -/

/-- The bytes of a segment of a body. -/
def segBytes (i : Nat) (body : List Byte) : List Byte := cut (1472 * i) 1472 body
/-- The number of segments of a body. -/
def segCount (body : List Byte) : Nat := if body.isEmpty then 1 else (body.length + 1471) / 1472

/-- A response: its first segment leaves, and the others wait for acknowledgements. -/
def State.respond (s : State) (port code result tag : Nat) (body : List Byte) : State :=
  let n := segCount body
  let s1 := s.emitMore (.reply port code result tag 0 n (segBytes 0 body))
  if n = 1 then s1
  else s1.updSec (fun k => { k with resp := smSet (always none) k.resp port (some ⟨code, tag, 1, body⟩) })

/-- A staged package or `MC_COMMIT` that is refused shows in `MC_ERR.REJECT` (R424). -/
def State.mcReject (s : State) (code : Nat) : State :=
  if code = 0x0A || code = 0x21 then s.setBit Addr.MC_ERR 2 else s

/-- A rejection (R466): counted, recorded with its body's digest while an epoch is open (R473), and answered. -/
def State.reject (s : State) (port code result tag : Nat) (body : List Byte) : State :=
  (((s.mcReject code).bump Addr.SEC_CNT_REJ).auditOpen 2 port result code 0 0 (sha256 body)).respond port code result tag []

/-- The command that waits for its audit record ends without effect. -/
def State.pendReject (s : State) (result : Nat) : State :=
  match s.sec.pend with
  | none => s
  | some c =>
    let s1 := s.updSec (fun k => { k with pend := none, audit := none })
    let s2 := s1.updJrn (fun j => { j with
      queue := j.queue.filter (fun r => !(r.issuer == .audit)),
      ring := j.ring.map (fun e => { e with issuers := e.issuers.filter (fun i => !(i == .audit)) }) })
    s2.jrnShow.reject c.port c.code result c.tag c.body

/-! ## Alarm hold (R460) -/

/-- The module enters alarm hold: work stops, draws without a receipt return ALARMED, debug relocks, and a "Key" command
that has not committed is rejected with STATE (R403, R460, R472, R475). -/
def State.enterHold (s : State) : State :=
  let s1 := (s.setBit Addr.SEC_STATUS 0).stopPairs workPairs
  (((s1.drawStop 0x06 true).relock 4 0).pendReject 2)

/-- One detection of a class, with its source detail and its reading (R459). -/
structure Hit where
  cls : Nat
  detail : Nat
  reading : Nat
deriving DecidableEq, Repr

/-- The alarm record of a hit as a request (R474). -/
def State.alarmReq (s : State) (h : Hit) (flags : Nat) : JReq :=
  ⟨0xF00C, 0x0203, alarmPayload s h.cls (s.almPol h.cls) flags h.detail h.reading, .none⟩

/-- Every detection is counted, and its source is active (R459, R476). -/
def State.countHits (s : State) : List Hit → State
  | [] => s
  | h :: hs => ((s.setBit Addr.SEC_ALM_RAW h.cls).bumpF (Addr.SEC_ALM_CNT h.cls) 0 32).countHits hs

/-- Classes with a HALT or ERASE policy latch, and ALARM_N is driven (R459, R464). -/
def State.latchHits (s : State) : List Hit → State
  | [] => s
  | h :: hs =>
    (if s.almPol h.cls = 0 then s else (s.setBit Addr.SEC_ALM_ACT h.cls).setBit Addr.SEC_STATUS 3).latchHits hs

/-- The hits in class order. -/
def hitOrder (hs : List Hit) : List Hit := (List.range 8).flatMap (fun c => (hs.filter (fun h => h.cls == c)).take 1)

/-- The GLINT class halts the draw unit, whatever its policy (R403, R459). -/
def State.glintHalt (s : State) : State :=
  if s.drwState = 2 || s.drwState = 3 || s.drwState = 4 then s
  else ((s.setFld Addr.DRW_STATUS 0 3 2).drwEvt 1).drawAbort 0x03 false

/-- Detections of one cycle of the detection oscillator (R459, R462): counted; those of classes not yet latched are recorded
in class order, and the highest of their policies is applied once. -/
def State.detect (s : State) (hits : List Hit) (powerUp : Bool) : State :=
  let hs := hitOrder hits
  let fresh := hs.filter (fun h => !(s.rd Addr.SEC_ALM_ACT).toNat.testBit h.cls)
  let s1 := s.countHits hs
  if s.lcState = 4 then s1.latchHits fresh
  else
    let top := fresh.foldl (fun m h => max m (s.almPol h.cls)) 0
    let s2 := if fresh.any (fun h => h.cls == 6) then s1.glintHalt else s1
    let s3 := s2.latchHits fresh
    let erase := top == 2 && s.lcState != 3 && !s.sec.erase
    let reqs := fresh.map (fun h => s3.alarmReq h (b2n powerUp))
    let s4 := if erase then
        (reqs.reverse.foldl State.jrnAhead s3).updSec (fun k => { k with erase := true })
      else reqs.foldl State.jrnRequest s3
    if top = 0 then s4 else s4.enterHold

/-- The Umbra erase of the key store and the DRBG (R455, R463). -/
def State.umbra (s : State) : State :=
  let s1 := s.updKeys (fun k => { k with devKey := none, jrnKey := none, debugPub := none })
  let s2 := (s1.setFld Addr.DRW_STATUS 0 3 4).updDraw (fun d => { d with drbg := drbgZero })
  ((s2.drawStop 0x06 true).relock 4 0).setBit Addr.SEC_STATUS 4

/-- UMBRA_ERASE (R376, R463): the erase after the record of an ERASE class; the state becomes ALARMED and the journal engine
stops for everything but the security monitor's records. -/
def State.umbraErase (s : State) : State :=
  if !s.sec.erase then s
  else
    let s1 := (s.updSec (fun k => { k with erase := false })).umbra
    ((s1.setFld Addr.SEC_LC 0 3 3).jrnAlarmed).relock 4 0

/-- ALARM_SOURCE_INACTIVE (R465): the source of a class ceases. -/
def State.sourceInactive (s : State) (cls : Nat) : State := s.setFld Addr.SEC_ALM_RAW cls 1 0

/-- HEALTH_FAILURE (R403): the draw unit halts and raises the GLINT class. -/
def State.healthFailure (s : State) (apt : Bool) : State := (s.healthFail apt).detect [⟨6, b2n apt, 0⟩] false

/-- RAIL_EXCURSION (R528): outside +-10 % a class 3 detection and PG_OUT released; within it only a count. -/
def State.railExcursion (s : State) (rail : Nat) (wide : Bool) (reading : Nat) : State :=
  if wide then (s.setFld Addr.PWR_STATUS 7 1 0).detect [⟨3, rail, reading⟩] false else s.bump Addr.PWR_CNT_RAILW

/-- REFCLK_LOSS (R529): a class 4 detection. -/
def State.refclkLoss (s : State) (detail reading : Nat) : State := s.detect [⟨4, detail, reading⟩] false

/-- ALARM_HOLD_BOOT (R461): a boot with a class latched records each of them and stays in alarm hold. -/
def State.alarmHoldBoot (s : State) : State :=
  let act := (s.rd Addr.SEC_ALM_ACT).toNat
  if !s.jrn.isOpen || 3 ≤ s.lcState || act = 0 || !(s.fld Addr.SEN_BOOT 0 4 == 4) then s
  else
    let cs := (List.range 8).filter (fun c => act.testBit c)
    let s1 := cs.foldl (fun s c => s.jrnRequest (s.alarmReq ⟨c, 0, 0⟩ 2)) s
    ((s1.setBit Addr.SEC_STATUS 3).setFld Addr.SEN_BOOT 0 4 7).enterHold

/-- SECURITY_MONITOR_MISCOMPARE (R545): the module enters alarm hold. -/
def State.monitorMiscompare (s : State) : State := s.enterHold

end Sys2Proof.Machine
end

