-- ==== Sys2Proof/Machine/Boot.lean ====
section
/-!
DEFINITION. Boot: straps, self-test, images and grants, the measurement log, the start of sentinel pairs, and the governor's
and health sentinel's duties (R425-R450).
-/
namespace Sys2Proof.Machine

/-- `SEN_BOOT.STAGE`. -/
def State.stage (s : State) : Nat := s.fld Addr.SEN_BOOT 0 4
/-- `SEN_BOOT.STAGE` set. -/
def State.setStage (s : State) (n : Nat) : State := s.setFld Addr.SEN_BOOT 0 4 n
/-- Boot stops in recovery hold with a cause (R441). -/
def State.recoveryHold (s : State) (cause : Nat) : State :=
  let s1 := (s.setStage 6).setFld Addr.SEN_BOOT 4 8 cause
  { s1 with bootSt := { s1.bootSt with images := [] } }
/-- Boot with a function applied. -/
def State.updBoot (s : State) (f : BootUnit → BootUnit) : State := { s with bootSt := f s.bootSt }

/-! ## Straps (R428, R429) -/

/-- The straps in the order of `SEN_STRAP`: lowest bit, width, safe default, invalid value where there is one. -/
def strapTable : List (Nat × Nat × Option Nat × Option Nat) :=
  [(0, 6, none, none), (6, 1, some 1, none), (7, 2, some 0, some 3), (9, 2, some 2, some 3), (11, 1, some 1, none),
   (12, 1, some 1, none), (13, 1, some 0, none)]

/-- The latched straps and their anomalies: a strap not accepted (`ok` clear) or invalid takes its safe default. -/
def latchStraps (raw ok : Nat) : Nat → List (Nat × Nat × Option Nat × Option Nat) → Nat × Nat
  | _, [] => (0, 0)
  | i, (lo, w, dflt, bad) :: ts =>
    let r := latchStraps raw ok (i + 1) ts
    let v := bitsAt raw lo w
    let anom := !ok.testBit i || bad == some v
    (r.1 + (if anom then dflt.getD v else v) * 2 ^ lo, r.2 + b2n anom * 2 ^ i)

/-- STRAP_SAMPLE (R428): the straps are latched; role and replication mode follow them (R381), and an anomaly is a detection
of its class. -/
def State.strapSample (s : State) (raw ok : Nat) : State :=
  if s.bootSt.strapped || s.stage != 0 then s
  else
    let r := latchStraps raw ok 0 strapTable
    let s1 := (s.wr Addr.SEN_STRAP (BitVec.ofNat 64 (r.1 + r.2 * 65536))).updBoot (fun b => { b with strapped := true })
    let s2 := s1.setFld Addr.JRN_REPL_STATUS 0 1 (bitsAt r.1 6 1)
    let mode := if s.keys.policy.isEmpty then 1 + bitsAt r.1 11 1 else s.fld Addr.JRN_REPL 0 2
    let s3 := ((s2.setFld Addr.JRN_REPL 0 2 mode).updJrn (fun j => { j with mode := mode })).dbgShow
    if r.2 = 0 then s3 else s3.detect [⟨7, r.2, 0⟩] false

/-- A record of the health sentinel (R445): a notice, and the time at which it was read. -/
def State.healthRec (s : State) (typ w0 w1 : Nat) : State :=
  s.jrnRequest ⟨typ, 0x0103, natBytes 8 w0 ++ natBytes 8 w1 ++ natBytes 8 s.time, .none⟩

/-- Does a sentinel pair run? -/
def State.sentinelUp (s : State) (p : Nat) : Bool :=
  (s.pair p).started && (s.pair p).halt.isNone && !(s.pair p).stopped && !(s.pair p).failed

/-- STRAP_CHECK (R429): the health sentinel compares the straps with what was latched, and journals a difference. -/
def State.strapCheck (s : State) (raw : Nat) : State :=
  let d := (raw % 2 ^ 14) ^^^ (s.fld Addr.SEN_STRAP 0 14)
  if !s.bootSt.strapped || !s.sentinelUp 99 || d = 0 then s
  else (s.detect [⟨7, d, 0⟩] false).healthRec 0xE013 0 (raw % 2 ^ 14)

/-! ## Self-test and DRAM (R430, R431) -/

/-- Ledger pairs of a list are marked failed and disabled. -/
def State.failPairs (s : State) : List Nat → State
  | [] => s
  | p :: ps =>
    let s1 := s.updPair p (fun v => { v with failed := true })
    (if p < 96 then s1.setBit (Addr.EVD_PAIRCFG p) 8 else s1).failPairs ps

/-- The built-in self-test of pair 0 fails (R427): no pair starts, `FAULT_N` is driven, and the module stays so until its power is
removed. -/
def State.wardenFail (s : State) : State := s.setPair 96 { pairCold with failed := true }

/-- SELFTEST (R427, R430): failed ledger pairs, failed sentinel pairs, and whether some other array is beyond repair. -/
def State.selfTest (s : State) (failL failS : Nat) (failUnit : Bool) : State :=
  if s.stage = 0 && failS.testBit 0 then s.wardenFail
  else if s.stage != 0 || !s.bootSt.strapped || (s.pair 96).failed then s
  else
    let ps := (List.range 96).filter (fun p => failL.testBit p) ++ ((List.range 7).filter (fun k => failS.testBit (k + 1))).map (fun k => k + 97)
    let s1 := (s.failPairs ps).wr Addr.SEN_FAIL0 (BitVec.ofNat 64 failL)
    let s2 := (s1.setFld Addr.SEN_FAIL1 0 32 (failL / 2 ^ 64)).setFld Addr.SEN_FAIL1 32 8 (failS % 256 / 2 * 2)
    if failS.testBit 1 || failS.testBit 2 || failS.testBit 3 then s2.recoveryHold 1
    else if failUnit then s2.recoveryHold 2
    else s2.setStage 1

/-- DRAM_INIT (R431, R452): DRAM, tags and bitmap are cleared; `fail` names channels that fail. -/
def State.dramInit (s : State) (fail : Nat) : State :=
  if s.stage != 1 then s
  else if fail % 65536 != 0 then s.recoveryHold 3
  else
    let s1 := { s with mem := [], tags := [], poison := [], latent := [], bitmap := [] }
    if 3 ≤ s1.lcState then s1.setStage 6 else s1.setStage 2

/-! ## Images (R432-R435) -/

/-- The offset of an image set in the boot store, and the length of its area. -/
def setBase (b : Bool) : Nat := if b then 0x20000000 else 0x40000
/-- The length of a set's area. -/
def setLen (b : Bool) : Nat := if b then 0x20000000 else 0x1FFC0000

/-- The image of a slot of a set: nothing where it is absent or runs out of its area. -/
def State.slotBytes (s : State) (b : Bool) (slot : Nat) : Option (List Byte) :=
  let d := setBase b + 16 * slot
  let off := bytesNat (readBytes s.boot d 8)
  let len := bytesNat (readBytes s.boot (d + 8) 8)
  if len = 0 || setLen b < off + len then none else some (readBytes s.boot (setBase b + off) len)

/-- The number of grants of an image (R433), from its length. -/
def imgGrants (img : List Byte) : Option Nat :=
  let rest := img.length - (0xB0 + cellGet img 0x20 4)
  if img.length < 0xB0 + cellGet img 0x20 4 || rest % 32 != 0 then none else some (rest / 32)

/-- The grant list of an image. -/
def grantList (img : List Byte) (g : Nat) : List Byte := cut 0x50 (32 * g) img
/-- The body of an image. -/
def imgBody (img : List Byte) (g : Nat) : List Byte := cut (0xB0 + 32 * g) (cellGet img 0x20 4) img

/-- Do permissions stay within a mask? -/
def permsIn (perms mask : Nat) : Bool := (perms &&& mask) == perms

/-- The physical bodies of slot 9-14 images of a set: base and length. -/
def State.ledgerBodies (s : State) (b : Bool) : List (Nat × Nat) :=
  ((List.range 6).map (fun i => i + 9)).filterMap (fun n =>
    match s.slotBytes b n with
    | none => none
    | some img =>
      let off := bytesNat (readBytes s.boot (setBase b + 16 * n) 8)
      some (0xF8000000000 + setBase b + off + (img.length - cellGet img 0x20 4), cellGet img 0x20 4))

/-- Whole device blocks that an image's grants may name (R435). -/
def grantBlocks (vendor : Bool) : List Nat :=
  if vendor then [1, 2, 3, 4, 5, 6, 7, 8, 9, 0xA, 0xB, 0xC, 0xF] else [2, 4, 5, 6, 7, 9, 0xA]

/-- Does one grant of an image pass R435? -/
def State.grantOk (s : State) (set : Bool) (slot : Nat) (e : List Byte) : Bool :=
  let kind := cellGet e 0 2
  let perms := cellGet e 2 2
  let base := cellGet e 8 8
  let len := cellGet e 16 8
  let reg := cellGet e 24 1
  let top := base + len
  let vendor := decide (slot < 4)
  let r := encodeBounds base top
  let exact := decide (top ≤ 2 ^ 64) && r.2.2.2.1 == base && r.2.2.2.2 == top
  let kindOk :=
    if kind = 1 then decide (top ≤ 2 ^ 41) && (vendor || decide (0x40000000 ≤ base)) && permsIn perms 0x867F
    else if kind = 2 then
      len == 2 ^ 24 && (grantBlocks vendor).any (fun k => base == 0xF0000000000 + k * 2 ^ 24) && permsIn perms 0x2007
    else if kind = 3 then permsIn perms 0x0803
    else if kind = 4 then decide (top ≤ 2 ^ 32) && permsIn perms 0x1001
    else if kind = 5 then decide (1 ≤ base) && decide (top ≤ 0xFF05) && permsIn perms 0x0181
    else if kind = 6 then (s.ledgerBodies set).contains (base, len) && permsIn perms 0x0003
    else if kind = 7 then
      vendor
        && ((((slot == 1) || (slot == 3)) && base == 0xF0000801000 + 0x100 * slot && len == 256 && permsIn perms 0x0007)
            || (slot == 1 && base == Addr.GOV_PERIOD && len == 8 && permsIn perms 0x0003)
            || (slot == 3 && base == Addr.SEN_CMD && len == 8 && permsIn perms 0x0005))
    else false
  exact && kindOk && cellGet e 4 4 == 0 && decide (4 ≤ reg) && decide (reg ≤ 15) && cellGet e 25 7 == 0

/-- The entries of a grant list. -/
def grantEntries (gl : List Byte) (g : Nat) : List (List Byte) := (List.range g).map (fun i => cut (32 * i) 32 gl)

/-- Do the grants of an image pass R435? -/
def State.grantsOk (s : State) (set : Bool) (slot : Nat) (es : List (List Byte)) : Bool :=
  let regs := es.map (fun e => cellGet e 24 1)
  decide (es.length ≤ 12) && (decide (slot < 9) || es.isEmpty) && es.all (fun e => s.grantOk set slot e)
    && regs.all (fun r => (regs.filter (fun x => x == r)).length == 1)

/-- The result of R434 for the image of a slot, as R438 codes it; 0 is accepted. -/
def State.checkImage (s : State) (set : Bool) (slot : Nat) (img : List Byte) : Nat :=
  let vendor := decide (slot < 4)
  let key := keyNamed (if vendor then vendorKeyList else if s.lcState = 0 then [] else s.operKeys) (cut 0x18 8 img)
  match imgGrants img with
  | none => 2
  | some g =>
    let body := imgBody img g
    let load := cellGet img 0x28 8
    if cellGet img 0 4 != 0x00015349 || cellGet img 4 2 != slot then 2
    else if cellGet img 6 2 != b2n (!vendor) then 5
    else
      match key with
      | none => 5
      | some k =>
        if !verifies k (img.take (0x50 + 32 * g)) (cut (0x50 + 32 * g) 96 img) then 2
        else if sha256 body != cut 0x30 32 img then 3
        else if cellGet img 0x10 8 != 0 && cellGet img 0x10 8 != Config.moduleId.toNat then 7
        else if cellGet img 8 8 < smGet (always 0) s.keys.minVer slot then 4
        else if slot < 8 && (0x80000 < load + body.length || body.length ≤ cellGet img 0x24 4) then 6
        else if 8 < slot && (load < 0x40000000 || 2 ^ 41 < load + body.length) then 6
        else if !s.grantsOk set slot (grantEntries (grantList img g) g) then 6
        else 0

/-- The slots that hold images. -/
def imageSlots : List Nat := [0, 1, 2, 3, 4, 5, 6, 7, 9, 10, 11, 12, 13, 14]

/-- The result of every image slot of a set. -/
def State.checkSet (s : State) (set : Bool) : List (Nat × Nat × List Byte) :=
  imageSlots.map (fun n =>
    match s.slotBytes set n with
    | none => (n, 1, [])
    | some img => (n, s.checkImage set n img, img))

/-- Are slots 0-3 of a set accepted? -/
def setOk (rs : List (Nat × Nat × List Byte)) : Bool := rs.all (fun r => decide (4 ≤ r.1) || r.2.1 == 0)

/-! ## The measurement log (R438) -/

/-- An entry of the log. -/
def logEntry (kind index result value : Nat) (digest : List Byte) : List Byte :=
  natBytes 2 kind ++ natBytes 2 index ++ natBytes 4 result ++ natBytes 8 value ++ (digest ++ List.replicate 32 (0 : Byte)).take 32

/-- The image and grant-list entries of a set; bit 31 marks the fall-back set. -/
def logSet (fall : Bool) (rs : List (Nat × Nat × List Byte)) : List Byte :=
  let f := b2n fall * 2 ^ 31
  rs.flatMap (fun r => logEntry 0x10 r.1 (r.2.1 + f) (cellGet r.2.2 8 8)
      (if r.2.2.isEmpty then [] else sha256 (imgBody r.2.2 ((imgGrants r.2.2).getD 0))))
    ++ (rs.filter (fun r => !r.2.2.isEmpty)).flatMap (fun r =>
      let g := (imgGrants r.2.2).getD 0
      logEntry 0x11 r.1 (r.2.1 + f) g (sha256 (grantList r.2.2 g)))

/-- The SHA-256 of the Lantern ROM. -/
def romDigest : List Byte := sha256 ((List.range 0x40000).map Config.romByte)

/-- The log's entries ahead of the images. -/
def State.logHead (s : State) : List Byte :=
  let fails := natBytes 8 (s.rd Addr.SEN_FAIL0).toNat ++ natBytes 5 (s.rd Addr.SEN_FAIL1).toNat
  let n := popFrom (bytesNat fails) 104
  logEntry 1 0 0 Config.romVersion.toNat romDigest ++ logEntry 2 0 0 (s.rd Addr.SEN_STRAP).toNat [] ++ logEntry 3 0 0 n fails

/-- The identifier of a key as a number. -/
def keyNum (k : List Byte) : Nat := bytesNat (keyId k)

/-- The log's entries after the images. -/
def State.logTail (s : State) (mcRes : Nat) : List Byte :=
  let key (i : Nat) (k : Option (List Byte)) : List Byte := match k with
    | none => []
    | some k => logEntry 0x23 i 0 (keyNum k) []
  logEntry 0x20 0 mcRes (s.rd Addr.MC_VERSION).toNat s.mcHash
    ++ logEntry 0x21 0 0 (s.rd Addr.SEC_POLVER).toNat (if s.keys.policy.isEmpty then [] else sha256 s.keys.policy)
    ++ logEntry 0x22 0 0 s.lcState [] ++ key 0 (s.keys.devKey.map pubKey) ++ key 1 (s.keys.jrnKey.map pubKey)
    ++ key 2 s.operKeys.head? ++ key 3 s.keys.archive

/-- Accepted ledger images are copied to DRAM as data (R437). -/
def State.copyLedger (s : State) : List (Nat × Nat × List Byte) → State
  | [] => s
  | r :: rs =>
    (if r.1 < 9 || r.2.1 != 0 then s
     else s.dataWrite .dram (cellGet r.2.2 0x28 8) (imgBody r.2.2 ((imgGrants r.2.2).getD 0))).copyLedger rs

/-- The accepted images of sentinel pairs, kept for the boot (R448). -/
def acceptedImages (rs : List (Nat × Nat × List Byte)) : List Image :=
  (rs.filter (fun r => decide (r.1 < 8) && r.2.1 == 0)).map (fun r =>
    ⟨r.1, imgBody r.2.2 ((imgGrants r.2.2).getD 0), cellGet r.2.2 0x28 8, cellGet r.2.2 0x24 4⟩)

/-- A global descriptor of the warden written to a register pair: class, rights, last grain, and whether it denies (R327). -/
def State.setGlobal (s : State) (i cls last : Nat) (deny : Bool) : State :=
  (s.wr (Addr.RCU_G_LO i) (BitVec.ofNat 64 (0xF * 2 ^ 48 + b2n deny * (2 ^ 52 + 2 ^ 55) + cls * 2 ^ 56 + 2 ^ 63))).wr
    (Addr.RCU_G_HI i) (BitVec.ofNat 64 last)

/-- The warden denies the system region to every DMA class, seals those descriptors and has the sets checked (R426). What else it
allows the spec leaves to it: here every master everything, in a descriptor that is not sealed (DESIGN CHOICE, log 91). -/
def State.sealSystem (s : State) : State :=
  let s1 := s.setGlobal 28 0 (2 ^ 38 - 1) false
  let s2 := ((s1.setGlobal 29 3 0xFFFFFF true).setGlobal 30 4 0xFFFFFF true).setGlobal 31 5 0xFFFFFF true
  s2.setBit Addr.RCU_CTRL 0

/-- IMAGE_VERIFY (R421, R426, R434, R437, R438): the selected set, else the other one once, else recovery hold. -/
def State.imageVerify (s : State) : State :=
  if s.stage != 2 then s
  else if s.fld Addr.SEN_STRAP 7 2 = 2 then s.recoveryHold 5
  else
    let sel := s.fld Addr.SEN_STRAP 7 2 == 1
    let rs1 := s.checkSet sel
    let rs2 := if setOk rs1 then [] else s.checkSet (!sel)
    let fall := !setOk rs1
    let rs := if fall then rs2 else rs1
    let run := if fall then !sel else sel
    let log0 := s.logHead ++ logSet false rs1 ++ logSet true rs2
    if !setOk rs then (s.recoveryHold 4).updBoot (fun b => { b with log := log0 })
    else
      let pkg := s.slotBytes run 8
      let good := (pkg.map (fun b => s.pkgOk b)).getD false
      let s1 := ((s.setFld Addr.SEN_BOOT 12 1 (b2n run)).copyLedger rs).mcBoot (if good then pkg else none)
      let mcRes := if good then 0 else if pkg.isNone then 1 else 2
      (s1.sealSystem.setStage 3).updBoot (fun b => { b with images := acceptedImages rs, log := log0 ++ s1.logTail mcRes })

/-- MEASUREMENT_LOG_CLOSE (R439). -/
def State.logClose (s : State) : State := if s.stage = 3 then s.updBoot (fun b => { b with closed := true }) else s

/-! ## Starting sentinel pairs (R436, R448) -/

/-- `SEN_STATUS.LASTCMD`. -/
def State.senLast (s : State) (r : Nat) : State := s.setFld Addr.SEN_STATUS 8 2 r

/-- A run of capabilities read from DRAM with the load barrier. -/
def State.loadCaps (s : State) (pa : Nat) : Nat → List Cap × State
  | 0 => ([], s)
  | n + 1 =>
    let s1 := s.dramEnter pa 16
    let r := s1.barrier 96 0 (s1.capAt .dram pa)
    let rest := r.2.loadCaps (pa + 16) n
    (r.1 :: rest.1, rest.2)

/-- SEN_START (R436): a sentinel pair starts from its verified image and its start block; a restart is recorded (R448). In alarm
hold a customer pair does not run (R461). -/
def State.senStart (s : State) (v : Nat) : State :=
  let k := bitsAt v 0 3
  let p := 96 + k
  if k = 0 then (s.wrerr Addr.SEN_START).senLast 3
  else
    match s.bootSt.images.find? (fun i => i.slot == k) with
    | none => s.senLast 1
    | some img =>
      let old := s.pair p
      if old.failed || (old.started && old.halt.isNone) then s.senLast 1
      else
        let blk := bitsAt v 6 24 * 64
        let s1 := { s with tcm := writeBytes s.tcm (k * 0x80000 + img.load) img.data,
                           stale := s.stale.filter (fun e => !(e.1 / 0x20000 == k)),
                           tcmTags := s.tcmTags.filter (fun e => decide (e.1 < k * 0x8000) || decide ((k + 1) * 0x8000 ≤ e.1)) }
        let r := s1.loadCaps blk 4
        let g := r.2.loadCaps (blk + 64) 12
        let c (i : Nat) : Cap := r.1.getD i nullCap
        let bad := (checkTarget (c 0)).isSome || !(c 1).tag || !(c 2).tag || !(c 3).tag
        let b0 : Bank := { bankReset with pcc := c 0, st := .running, regs := [] }
        let b0 := ((b0.setReg 2 (c 1)).setReg 3 (c 2)).setRegs 4 g.1
        let np : Pair := { pairCold with
          banks := [(0, b0)], escc := c 3, run := some 0, started := true, maskFrom := some s.clk,
          gen := old.gen + 1, stopped := s.hold && decide (4 ≤ k) }
        let s2 := (g.2.setPair p np).senLast 0
        let s3 := if bad then s2.setBit Addr.SEN_ERR 1 else s2
        let s4 := s3.setFld Addr.SEN_STATUS k 1 1
        if old.halt.isSome then
          s4.jrnRequest ⟨0xE015, 0x0100, natBytes 8 0 ++ natBytes 8 p ++ natBytes 8 s4.time, .none⟩
        else s4

/-! ## The governor (R442-R445, R556) -/

/-- A governor record's payload (R445). -/
def State.govPayload (s : State) (target eff old new demand : Nat) (bounded : Bool) (cause meas : Nat) : List Byte :=
  natBytes 2 target ++ natBytes 2 0 ++ natBytes 4 s.bootSt.passes ++ natBytes 8 s.time ++ natBytes 8 eff ++ natBytes 8 old
    ++ natBytes 8 new ++ natBytes 8 demand ++ natBytes 1 (b2n bounded) ++ natBytes 1 cause ++ natBytes 6 0 ++ natBytes 8 meas

/-- The power in mW that the governor leaves to the ledger pairs: the limit less 5 %, less the thermal reduction, less the
other loads. -/
def State.govBudget (s : State) (inlet : Int) : Int :=
  (s.fld Addr.PWR_LIMIT 0 32 * 95 / 100 : Nat) - (max 0 (inlet - 35000)) * 20 - 283000

/-- The least n of at most 96 with `have_ - n * step ≤ budget`. -/
def pairsToMove (have_ : Int) (step budget : Int) : Nat := (min 96 (max 0 ((have_ - budget + step - 1) / step))).toNat

/-- The ratio that a pair takes under a budget: 96 pairs at 2.8 W, 1.9 W or 1.2 W, moved in descending pair number. -/
def govRatio (budget : Int) (p : Nat) : Nat :=
  let n4 := pairsToMove 268800 900 budget
  let n6 := if n4 = 96 then pairsToMove 182400 700 budget else 0
  if 96 - n6 ≤ p then 2 else if 96 - n4 ≤ p then 1 else 0

/-- A reduction of a pair's clock is made at once and then recorded; an increase waits for its record's receipt (R443). -/
def State.govClock (s : State) (budget : Int) (cause meas : Nat) (up : Bool) : List Nat → State
  | [] => s
  | p :: ps =>
    let reg := Addr.CLK_RATIO (p / 32)
    let lo := 2 * (p % 32)
    let old := s.fld reg lo 2
    let new := govRatio budget p
    let s1 :=
      if !up && decide (old < new) then
        (s.setFld reg lo 2 new).jrnRequest ⟨0xE002, 0x0101, s.govPayload p s.time old new new false cause meas, .none⟩
      else if up && decide (new < old) then
        s.jrnRequest ⟨0xE002, 0x0101, s.govPayload p 0 old new new false cause meas, .gov reg lo 2 new⟩
      else s
    s1.govClock budget cause meas up ps

/-- A rate that the governor sets, not below its floor (R444); `free` says that zero means no limit. An unmet demand is recorded
whether or not the rate changes (R28). -/
def State.govRate (s : State) (typ reg lo w floor : Nat) (free : Bool) (demand : Option (Nat × Nat × Nat)) : State :=
  match demand with
  | none => s
  | some (v, cause, meas) =>
    let low := decide (v < floor) && !(free && v == 0)
    let new := if low then floor else v
    let old := s.fld reg lo w
    if old = new && !low then s
    else s.jrnRequest ⟨typ, 0x0101, s.govPayload 0 0 old new v low cause meas, .gov reg lo w new⟩

/-- A demanded ticket brought within the bounds of its requester (R28, R444). -/
def State.boundTicket (s : State) (q t : Nat) : Nat := max (s.fld (Addr.ARB_BOUND q) 0 8) (min (s.fld (Addr.ARB_BOUND q) 8 8) t)

/-- A demanded ticket word, of the requesters from q0 on, within their bounds. -/
def State.boundWord (s : State) (q0 : Nat) (w : Word) : Word :=
  BitVec.ofNat 64 ((List.range 8).foldl (fun x i =>
    if q0 + i < 22 then setBitsAt x (8 * i) 8 (s.boundTicket (q0 + i) (bitsAt w.toNat (8 * i) 8)) else x) w.toNat)

/-- A demanded ticket commit: tickets and the wait limit outside a bound yield the bounding value, and the record says so (R28,
R444, R445). -/
def State.govTickets (s : State) (mask : Nat) (t0 t1 t2 l : Word) : State :=
  let b0 := s.boundWord 0 t0
  let b1 := s.boundWord 8 t1
  let b2 := s.boundWord 16 t2
  let lim := BitVec.ofNat 64 (setBitsAt l.toNat 0 10 (min (bitsAt l.toNat 0 10) (s.fld Addr.ARB_BOUND_LIM 0 10)))
  let low := !(b0 == t0 && b1 == t1 && b2 == t2 && lim == l)
  s.jrnRequest ⟨0xE000, 0x0101, s.govPayload mask 0 0 0 0 low 4 0
    ++ natBytes 8 b0.toNat ++ natBytes 8 b1.toNat ++ natBytes 8 b2.toNat ++ natBytes 8 lim.toNat, .tickets mask b0 b1 b2 lim⟩

/-- The governor finds that the policy's bounds have changed since its last pass: it appends a record with cause 7 (R449). The
spec names no type for it: the back-pressure record, with the rate unchanged (DESIGN CHOICE, log 87). -/
def State.govPolicy (s : State) : State :=
  if !s.bootSt.polNew then s
  else
    let r := s.fld Addr.JRN_BP 0 16
    (s.updBoot (fun b => { b with polNew := false })).jrnRequest ⟨0xE001, 0x0101, s.govPayload 0 0 r r r false 7 0, .none⟩

/-- A notice of the fast limit that the governor reads: it records the forced reduction of every pair whose divider is below 6,
with cause 2 and the input current (R525, R443; DESIGN CHOICE, log 98). -/
def State.govForced (s : State) (ma : Nat) : List Nat → State
  | [] => s
  | p :: ps =>
    let old := s.fld (Addr.CLK_RATIO (p / 32)) (2 * (p % 32)) 2
    (if old < 2 then
      s.jrnRequest ⟨0xE002, 0x0101, s.govPayload p s.pwr.forcedAt old 2 2 false 2 ma, .none⟩
    else s).govForced ma ps

/-- The governor acts on the notices of its queue (R442). -/
def State.govNotices (s : State) : List (Word × Word) → State
  | [] => s
  | n :: ns =>
    let w := n.1.toNat
    (if w % 256 = 9 && bitsAt w 16 12 == 2 then s.govForced n.2.toNat (List.range 96).reverse else s).govNotices ns

/-- GOVERNOR_PASS (R442): clocks follow the power limit and the inlet temperature; a demanded back-pressure rate, sweep rate
and ticket commit are recorded and wait for their receipts. The pass reads its notice queue (R442). -/
def State.governorPass (s : State) (inlet : Int) (bp sweep : Option (Nat × Nat × Nat))
    (tkt : Option (Nat × Word × Word × Word × Word)) : State :=
  if !s.sentinelUp 97 then s
  else
    let s0 := { s with notices := smSet (always []) s.notices 1 [] }
    let s1 := ((s0.updBoot (fun b => { b with passes := (b.passes + 1) % 2 ^ 32 })).govNotices (s.queue 1)).govPolicy
    let hot := decide (35000 < inlet)
    let cause := if hot then 3 else 1
    let meas := if hot then (inlet % 2 ^ 64).toNat else s.fld Addr.PWR_VIN 0 32
    let budget := s1.govBudget inlet
    let s2 := s1.govClock budget cause meas false (List.range 96).reverse
    let s3 := s2.govClock budget cause meas true (List.range 96)
    let s4 := s3.govRate 0xE001 Addr.JRN_BP 0 16 (polGet s.keys.policy 0x36 2) true bp
    let s5 := s4.govRate 0xE003 Addr.ECL_CTRL 8 8 (polGet s.keys.policy 0x38 1) true sweep
    match tkt with
    | none => s5
    | some (mask, t0, t1, t2, l) => s5.govTickets mask t0 t1 t2 l

/-! ## Notices and requests (R446, R447) -/

/-- SEN_NQ_HI (R446): word 1 of the oldest notice; the read removes it. -/
def State.nqHi (s : State) (q : Nat) : Word × State :=
  match s.queue q with
  | [] => (0, s)
  | n :: ns => (n.2, { s with notices := smSet (always []) s.notices q ns })

/-- RSTREQ (R446, R447): a reset request is presented to REG and OPS, the warden gets a notice of it, and the health sentinel
journals it (R445). -/
def State.resetRequest (s : State) : State :=
  (((s.updSec (fun k => { k with rstReq := true })).notify 0 0x07 0 3 0).healthRec 0xE014 (0x07 + 3 * 65536) 0).senLast 0

/-- The record type of a notice that the health sentinel reads (R445). -/
def healthType (kind : Nat) : Nat :=
  if kind = 1 then 0xE011 else if kind = 2 then 0xE012 else if kind = 3 then 0xE010 else if kind = 8 then 0xE016
  else if kind = 9 then 0xE017 else 0xE018

/-- What the health sentinel does with a notice that it has read: it journals it, and a lockup of pair 0 makes it ask for a reset
(R341, R447). -/
def State.healthRead (s : State) (n : Word × Word) : State :=
  let w := n.1.toNat
  let s1 := s.healthRec (healthType (w % 256)) w n.2.toNat
  if w % 256 = 2 && bitsAt w 16 12 == 96 then s1.resetRequest else s1

end Sys2Proof.Machine
end

