-- ==== Sys2Proof/Machine/RegIO.lean ====
section
/-!
DEFINITION. Writes and reads of device registers, with the behaviour that the register tables give each of them (R9-R13,
R100, R221, R242, R250, R257, R274-R280, R306, R331, R336, R350, R354, R381, R391, R407, R450, R476, R479, R520-R522, R530,
R547, R563).
-/
namespace Sys2Proof.Machine

/-! ## Clear commands without a unit of their own -/

/-- EXC_CLRCNT (R250). -/
def State.excClrCnt (s : State) : State := s.wr Addr.EXC_ESCCNT 0
/-- TR_CLRCNT (R336). -/
def State.trClrCnt (s : State) : State := ((s.wr Addr.RCU_CNT_VIOL 0).wr Addr.TR_CNT_WALK 0).wr Addr.TR_CNT_CDSET 0
/-- The overrun counts of a list of pairs clear. -/
def State.ptClr (s : State) : List Nat → State
  | [] => s
  | p :: ps => (s.wr (Addr.PT_OVCNT p) 0).ptClr ps
/-- PT_CLRCNT (R306). -/
def State.ptClrCnt (s : State) : State := s.ptClr (List.range 104)

/-! ## Command registers -/

/-- A step taken when a bit of a written value is set. -/
def State.onBit (s : State) (v i : Nat) (f : State → State) : State := if v.testBit i then f s else s

/-- A write of `EVD_CMD` (R252, R274, R275, R280): a reserved OP does nothing. -/
def State.evdCmd (s : State) (v : Nat) : State :=
  let arg := bitsAt v 16 16
  match bitsAt v 0 4 with
  | 0 => s
  | 1 => s.invTask arg
  | 2 => s.evdEnd arg
  | 3 => s.clrCh arg
  | 4 => s.evdClrCnt
  | 5 => s.restart arg
  | _ => (s.wrerr Addr.EVD_CMD).evdLast 3

/-- A write of `TALLY_CMD` (R219, R221): a reserved CORE sets the block's write error whatever the command bits are, and aborts
nothing (R12). ABORT acts before CLRCNT where both are set: the spec gives no order (DESIGN CHOICE, log 39). -/
def State.tallyCmd (s : State) (v : Nat) : State :=
  let core := bitsAt v 8 7
  let s0 := if 96 ≤ core then s.wrerr Addr.TALLY_CMD else s
  let s1 := s0.onBit v 0 (fun s => s.tallyAbort core)
  s1.onBit v 1 State.tallyClrCnt

/-- A write of `JRN_CMD` (R391); the order of two set bits is the model's (log 39). -/
def State.jrnCmd (s : State) (v : Nat) : State := (s.onBit v 0 State.jrnSealCmd).onBit v 1 State.jrnClrCnt

/-- A write of `ECL_CMD` (R95, R96, R100): several bits act lowest first, and with none set `LASTCMD` stays as it was; the spec
orders neither (DESIGN CHOICE, log 39). -/
def State.eclCmd (s : State) (v : Nat) : State :=
  ((s.onBit v 0 State.eclStart).onBit v 1 State.eclAbort).onBit v 2 State.eclClrCnt

/-- PWR_DETACH (R534). -/
def State.pwrDetach (s : State) : State := s.drainStart 4

/-- A write of `PWR_CMD` (R525, R534, R547); the order of set bits is the model's (log 39). -/
def State.pwrCmd (s : State) (v : Nat) : State :=
  ((s.onBit v 0 State.pwrDetach).onBit v 1 State.unforce).onBit v 2 State.pwrClrCnt

/-- A write of `EVD_CTRL`: EN from 0 to 1 enters the init tasks (R275). -/
def State.evdCtrl (s : State) (w : Writer) (v : Nat) : State :=
  if v.testBit 0 then s.evdEnable else s.plainWrite w Addr.EVD_CTRL v

/-- Does R564 refuse a write of the RWL fields of the register at an address? -/
def State.lockRefuses (s : State) (w : Writer) (a : Nat) : Bool :=
  match regFind a with
  | none => false
  | some r => s.rwlRefused w r

/-- A write of `EVD_TASKTAB` while EN is set is ignored with WRERR (R279); one that R564 refuses is audited too (R10). -/
def State.evdTaskTab (s : State) (w : Writer) (v : Nat) : State :=
  if s.fld Addr.EVD_CTRL 0 1 = 0 then s.plainWrite w Addr.EVD_TASKTAB v
  else (if s.lockRefuses w Addr.EVD_TASKTAB then s.plainWrite w Addr.EVD_TASKTAB v else s).wrerr Addr.EVD_TASKTAB

/-- A write of a slot changes its next copy (R257). -/
def State.slotWriteReg (s : State) (w : Writer) (a v : Nat) : State :=
  (s.plainWrite w a v).slotSync ((a - Addr.EVD_SLOT 0) / 8)

/-- A write of `JRN_REPL` (R381): the fields that pass change mode, down policy and timeout, with their record. -/
def State.jrnReplWrite (s : State) (w : Writer) (v : Nat) : State :=
  let old := s.rd Addr.JRN_REPL
  let s1 := s.plainWrite w Addr.JRN_REPL v
  let new := (s1.rd Addr.JRN_REPL).toNat
  (s1.wr Addr.JRN_REPL old).replChange (bitsAt new 0 2) (bitsAt new 2 1) (bitsAt new 8 16) 1

/-- A write of `CWL_CTRL`: a link that is no longer enabled goes down (R521). -/
def State.cwlCtrl (s : State) (w : Writer) (v : Nat) : State :=
  let s1 := s.plainWrite w Addr.CWL_CTRL v
  let s2 := if s1.fld Addr.CWL_CTRL 0 1 = 0 then s1.cwlDown 0 else s1
  if s2.fld Addr.CWL_CTRL 1 1 = 0 then s2.cwlDown 1 else s2

/-- Does an address lie among the registers of an array? -/
def inArr (a base stride count : Nat) : Bool :=
  decide (base ≤ a) && decide (a < base + stride * count) && (a - base) % stride == 0

/-- A write of a register of the security monitor block, its sentinel control part included (R450, R476). -/
def State.secBlockWrite (s : State) (w : Writer) (a v : Nat) : State :=
  if a = Addr.SEN_START then s.senStart v
  else if a = Addr.SEN_CMD then s.onBit v 0 State.resetRequest
  else if a < 0xF0000800000 && !(a == Addr.SEC_ERR) then s.wrerr a
  else s.plainWrite w a v

/-- A write of a register of the event dispatch block (R250, R280). -/
def State.evdBlockWrite (s : State) (w : Writer) (a v : Nat) : State :=
  if a = Addr.EVD_CTRL then s.evdCtrl w v
  else if a = Addr.EVD_TASKTAB then s.evdTaskTab w v
  else if a = Addr.EVD_CMD then s.evdCmd v
  else if a = Addr.EVD_POST then s.softPost (v % 4096)
  else if a = Addr.EXC_LOCKUP0 then s.lockupClear false v
  else if a = Addr.EXC_LOCKUP1 then s.lockupClear true v
  else if a = Addr.EXC_CMD then s.onBit v 0 State.excClrCnt
  else if inArr a (Addr.EVD_SLOT 0) 8 4096 then s.slotWriteReg w a v
  else s.plainWrite w a v

/-- The bits that a sweep root's `ECL_ROOT_B` has: with KIND 1 only 43:4 (R100). -/
def State.rootBits (s : State) (a v : Nat) : Nat :=
  if s.fld (a - 8) 1 1 = 1 then bitsAt v 4 40 * 16 else v

/-- A write of a register of the channels, tally, journal, draw, Eclipse and translation blocks (R100, R221, R336, R354,
R391, R407). -/
def State.coreBlockWrite (s : State) (w : Writer) (a v : Nat) : State :=
  if a = Addr.ARB_COMMIT then s.arbCommit (v % 65536)
  else if a = Addr.MCH_CMD then s.onBit v 0 State.mchClrCnt
  else if inArr a (Addr.MCH_SCRUB 0) 0x10000 16 then (s.plainWrite w a v).cover
  else if a = Addr.TALLY_CMD then s.tallyCmd v
  else if a = Addr.JRN_CMD then s.jrnCmd v
  else if a = Addr.JRN_REPL then s.jrnReplWrite w v
  else if a = Addr.JRN_LOOKUP then s.jrnLookup (BitVec.ofNat 64 v)
  else if a = Addr.DRW_CMD then s.onBit v 0 State.drwClrCnt
  else if a = Addr.ECL_CMD then s.eclCmd v
  else if inArr a (Addr.ECL_ROOT_B 0) 0x10 64 then s.plainWrite w a (s.rootBits a v)
  else if a = Addr.TR_CMD then s.onBit v 0 State.trClrCnt
  else s.plainWrite w a v

/-- A write of a register of the network, PCI Express, Cuwen Link, decode-table and telemetry blocks (R306, R520-R522). -/
def State.linkBlockWrite (s : State) (w : Writer) (a v : Nat) : State :=
  if inArr a (Addr.NET_RXQ_BASE 0) 8 512 then s.rxqWrite ((a - Addr.NET_RXQ_BASE 0) / 16) a v
  else if decide (Addr.PCI_SQ_BASE 0 ≤ a) && decide (a < Addr.PCI_SQ_BASE 16) then s.sqWrite w ((a - Addr.PCI_SQ_BASE 0) / 32) a v
  else if a = Addr.CWL_CTRL then s.cwlCtrl w v
  else if a = Addr.PT_CMD then s.onBit v 0 State.ptClrCnt
  else s.plainWrite w a v

/-- A 64-bit write of a device register by a pair or the debug port. -/
def State.devWrite (s : State) (w : Writer) (a v : Nat) : State :=
  if a < 0xF0001000000 then s.secBlockWrite w a v
  else if a = Addr.PWR_CMD then s.pwrCmd v
  else if a = Addr.FC_CTRL then (s.plainWrite w a v).cover
  else if a < 0xF0002000000 then s.plainWrite w a v
  else if a < 0xF0003000000 then s.evdBlockWrite w a v
  else if a < 0xF0009000000 then s.coreBlockWrite w a v
  else s.linkBlockWrite w a v

/-! ## Reads -/

/-- Contexts recorded below one, by its own record and those of the contexts below it, spilled ones too (R263, R280). -/
def State.chainDepth (s : State) (p : Nat) (o : Option CtxRef) : Nat → Nat
  | 0 => 0
  | n + 1 =>
    match o with
    | none => 0
    | some (.spilled t) => 1 + s.chainDepth p ((s.evd.mid.find? (fun m => m.task == t)).bind (fun m => m.prior)) n
    | some (.bank b) => 1 + s.chainDepth p (s.bank p b).prior n

/-- `EVD_PAIRSTAT[p]` (R280). -/
def State.pairStat (s : State) (p : Nat) : Nat :=
  let v := s.pair p
  let free := (List.range 15).foldl (fun n b => if (v.bank b).st = .free then n + 2 ^ (8 + b) else n) 0
  let depth := match v.run with
    | none => 0
    | some b => min 15 (s.chainDepth p (v.bank b).prior 16)
  v.run.getD 0 + b2n v.run.isNone * 16 + b2n v.halt.isSome * 32 + b2n v.init * 64 + free + depth * 2 ^ 32

/-- Is clock domain d running (R530, R531)? -/
def State.clkOn (s : State) (d : Nat) : Bool :=
  if d < 192 then
    let v := s.pair (d % 96)
    v.run.isSome && v.halt.isNone && !v.failed && !s.ioOff
  else if s.ioOff && ((decide (272 ≤ d) && decide (d < 276)) || (decide (288 ≤ d) && decide (d < 296) && !(d == 292))) then false
  else if d < 288 then true
  else if d < 292 then s.fld Addr.NET_CTRL (d - 288) 1 == 1
  else if d < 293 then true
  else if d < 294 then s.fld Addr.PCI_CTRL 0 1 == 1
  else if d < 296 then s.fld Addr.CWL_CTRL (d - 294) 1 == 1
  else decide (d < 304)

/-- `CLK_ON[k]` (R547). -/
def State.clkOnReg (s : State) (k : Nat) : Nat :=
  (List.range 64).foldl (fun n j => if s.clkOn (64 * k + j) then n + 2 ^ j else n) 0

/-- Is sentinel pair k running (R450)? -/
def State.senRun (s : State) : Nat :=
  (List.range 8).foldl (fun n k => if (s.pair (96 + k)).started && (s.pair (96 + k)).halt.isNone then n + 2 ^ k else n) 0

/-- Is a pass deferred by a pair in DET (R93)? -/
def State.waitDet (s : State) : Bool := s.pairs.any (fun e => e.2.passDue && e.2.halt.isNone && e.2.det)

/-- Is an address one of the channels' `ARB_STAT` registers: the channel and the requester. -/
def arbStatOf (a : Nat) : Option (Nat × Nat) :=
  let ch := (a - Addr.ARB_STAT 0 0) / 0x10000
  if inArr a (Addr.ARB_STAT ch 0) 8 22 && decide (ch < 16) then some (ch, (a - Addr.ARB_STAT ch 0) / 8) else none

/-- Registers whose value follows from the rest of the state; none for the others. -/
def State.computed (s : State) (a : Nat) : Option Nat :=
  if a = Addr.TIME_NOW then some s.time
  else if a = Addr.SEC_DBG then
    some (setBitsAt (s.rd a).toNat 16 16 (s.fld a 16 16 - (s.clk - s.sec.unlockAt) / 1000000000))
  else if a = Addr.SEN_STATUS then some (setBitsAt (s.rd a).toNat 0 8 s.senRun)
  else if inArr a (Addr.ECL_ROOT_B 0) 0x10 64 then some (s.rootBits a (s.rd a).toNat)
  else if a = Addr.ECL_STATUS then some (setBitsAt (s.rd a).toNat 4 1 (b2n s.waitDet))
  else if inArr a (Addr.EVD_PAIRSTAT 0) 8 96 then some (s.pairStat ((a - Addr.EVD_PAIRSTAT 0) / 8))
  else if inArr a (Addr.EVD_SLOT 0) 8 4096 then
    some (setBitsAt (s.rd a).toNat 63 1 (b2n (!(s.slot ((a - Addr.EVD_SLOT 0) / 8) == (s.rd a).toNat))))
  else if inArr a (Addr.SEN_NQ_LO 0) 0x100 8 then
    some (((s.queue ((a - Addr.SEN_NQ_LO 0) / 0x100)).head?.map (fun n => n.1.toNat)).getD 0)
  else if inArr a (Addr.SEN_NQSTAT 0) 0x100 8 then
    some (setBitsAt (s.rd a).toNat 0 9 (s.queue ((a - Addr.SEN_NQSTAT 0) / 0x100)).length)
  else if inArr a (Addr.CLK_ON 0) 8 5 then some (s.clkOnReg ((a - Addr.CLK_ON 0) / 8))
  else
    match arbStatOf a with
    | some (ch, q) => some (setBitsAt (s.rd a).toNat 12 3 (s.arbPendOf ch q))
    | none => none

/-- A 64-bit read of a device register: its value, and what the read changes (R9, R446). -/
def State.devRead (s : State) (a : Nat) : Word × State :=
  if inArr a (Addr.SEN_NQ_HI 0) 0x100 8 then s.nqHi ((a - Addr.SEN_NQ_HI 0) / 0x100)
  else
    match s.computed a with
    | some v => (BitVec.ofNat 64 v, s)
    | none => (s.regLoad a, s)

end Sys2Proof.Machine
end

