-- ==== Sys2Proof/Machine/Mgmt.lean ====
section
/-!
DEFINITION. The management commands: where and when each is accepted, and what it does (R392, R418, R419, R440, R441,
R451-R456, R465-R470, R472, R515-R517).
-/
namespace Sys2Proof.Machine

/-- A management command as it reaches the command path: its port, its tag, its body, and the outcome of a Glint startup test
where the command runs one. -/
structure Req where
  port : Nat
  tag : Nat
  body : List Byte
  pass : Bool
deriving DecidableEq, Repr

/-- A command is answered with OK (R514). -/
def State.okay (s : State) (q : Req) (code : Nat) (body : List Byte) : State := s.respond q.port code 0 q.tag body

/-- A command is rejected (R466). -/
def State.refuse (s : State) (q : Req) (code result : Nat) : State := s.reject q.port code result q.tag q.body

/-! ## Acceptance (R441, R466, R469, R470) -/

/-- Commands marked "Key" (R466). -/
def keyCodes : List Nat := [0x04, 0x05, 0x06, 0x07, 0x08, 0x09, 0x0A, 0x0B, 0x0D, 0x0E, 0x0F, 0x10, 0x11, 0x12]
/-- Commands of the OPS port (R466). -/
def opsCodes : List Nat := [0x20, 0x21, 0x22, 0x23, 0x24]
/-- Commands of the REG port (R466). -/
def regCodes : List Nat := (List.range 18).map (fun i => i + 1)
/-- Commands that the warden serves in recovery hold (R441): LC_QUERY, ATTEST, JEXPORT, ALARM_RECOVER, RESET, IMG_STAGE. -/
def holdCodes : List Nat := [0x01, 0x02, 0x03, 0x0F, 0x10, 0x11]

/-- Is the port one that the table of R466 names for the command? -/
def portServes (port code : Nat) : Bool :=
  if regCodes.contains code then port == 0 || port == 1 else port == 2

/-- The lifecycle states that R466 names for a command. -/
def stateServes (st code : Nat) : Bool :=
  if [0x01, 0x02, 0x03].contains code then true
  else if [0x04, 0x05, 0x06].contains code then st == 0
  else if code = 0x07 then st == 1
  else if [0x08, 0x09, 0x0A, 0x0B].contains code then st == 1 || st == 2
  else if [0x0F, 0x10, 0x11, 0x12].contains code then !(st == 4)
  else st == 0 || st == 1 || st == 2

/-- Is the command accepted as far as port, state, key and concurrency go? The result of the first check that fails. -/
def State.gate (s : State) (q : Req) (code : Nat) : Option Nat :=
  let known := regCodes.contains code || opsCodes.contains code
  let hold := s.stage == 6
  if !known then some 1
  else if !portServes q.port code then some 3
  else if !stateServes s.lcState code || (hold && !holdCodes.contains code) || (code == 0x11 && !hold) then some 2
  else if keyCodes.contains code && s.fld Addr.SEC_STATUS 2 1 == 0 then some 4
  else if keyCodes.contains code && s.sec.pend.isSome then some 5
  else none

/-- Does a port answer at all: the port steward runs, or the warden in recovery hold; the backplane REG lane only while
REGPORT_EN is 1 (R441, R448, R514)? -/
def State.answers (s : State) (port : Nat) : Bool :=
  (s.sentinelUp 98 || (s.stage == 6 && s.sentinelUp 96)) && (!(port == 1) || s.fld Addr.SEN_STRAP 12 1 == 1)

/-- A command served: its acceptance, then what `f` does. -/
def State.serve (s : State) (q : Req) (code : Nat) (f : State → State) : State :=
  if !s.answers q.port then s
  else
    match s.gate q code with
    | some r => s.refuse q code r
    | none => f s

/-- A command marked "Key" that is no transition is recorded and takes effect (R473 kind 1). -/
def State.keyed (s : State) (q : Req) (code : Nat) : State := s.auditOpen 1 q.port 0 code 0 0 (sha256 q.body)

/-! ## Transitions (R453, R454) -/

/-- What a transition adds to its audit record and to the state it records: kind, state after, further bytes. -/
structure Trans where
  kind : Nat
  after : Nat
  extra : List Byte
deriving DecidableEq, Repr

/-- A security audit record of a transition (R473). -/
def State.transRec (s : State) (q : Req) (code : Nat) (t : Trans) : List Byte :=
  auditPayload t.kind q.port 0 code s.lcState t.after 0 0 (if t.kind = 5 then sha256 q.body else []) s.time ++ t.extra

/-- A transition waits for its record's receipt while an epoch is open; otherwise it takes effect now (R454). -/
def State.transit (s : State) (q : Req) (code : Nat) (t : Trans) (now : State → State) : State :=
  if s.epochUp then
    (s.updSec (fun k => { k with pend := some ⟨code, q.port, q.tag, q.body⟩, audit := none })).jrnRequest
      ⟨0xF00B, 0x0203, s.transRec q code t, .audit⟩
  else now s

/-- The monitor generates a private key from a Generate request made for that purpose alone (R455), which is no draw's first
request; how it forms the key from
the request's bytes is free, within the range that the standard gives (log 6). -/
def State.newKey (s : State) : Nat × State :=
  let g := generate s { genStart with ctr0 := some 0 }
  (1 + Config.privateKey (g.2.words.flatMap (fun w => natBytes 8 w.toNat)) % (p384N - 1), g.1)

/-! ## Queries -/

/-- LC_QUERY (R516). -/
def State.lcQuery (s : State) (q : Req) : State :=
  s.serve q 0x01 (fun s =>
    if !q.body.isEmpty then s.refuse q 0x01 1
    else s.okay q 0x01 (natBytes 8 s.lcState ++ natBytes 8 (s.rd Addr.SEC_STATUS).toNat ++ natBytes 8 (s.rd Addr.SEC_ALM_ACT).toNat
      ++ natBytes 8 (s.rd Addr.SEN_BOOT).toNat ++ natBytes 8 Config.moduleId.toNat))

/-- H of the entry that `JRN_DUR_SEQ` names (R440). -/
def State.durHash (s : State) : List Byte :=
  match s.jrn.ring.find? (fun e => e.seq == (s.rd Addr.JRN_DUR_SEQ).toNat) with
  | some e => e.hash
  | none => List.replicate 32 0

/-- A public key's bytes and identifier, zero where the key is absent. -/
def keyOrZero (k : Option Nat) : List Byte × List Byte :=
  match k with
  | none => (List.replicate 97 0, List.replicate 8 0)
  | some n => (pubKey n, keyId (pubKey n))

/-- The attestation report up to its signature (R440). -/
def State.report (s : State) (nonce : List Byte) : List Byte :=
  let j := keyOrZero s.keys.jrnKey
  natBytes 2 1 ++ natBytes 1 s.lcState ++ natBytes 5 0 ++ natBytes 8 Config.moduleId.toNat ++ nonce
    ++ natBytes 8 (s.time % 2 ^ 63 + b2n s.timeUnc * 2 ^ 63) ++ natBytes 8 (s.rd Addr.JRN_EPOCH).toNat
    ++ natBytes 8 (s.rd Addr.JRN_DUR_SEQ).toNat ++ s.durHash ++ j.1 ++ natBytes 7 0 ++ j.2
    ++ (keyOrZero s.keys.devKey).2 ++ sha256 s.bootSt.log ++ s.mcHash ++ natBytes 8 (s.rd Addr.MC_VERSION).toNat
    ++ natBytes 8 (s.rd Addr.MC_PEND0).toNat ++ natBytes 8 (s.rd Addr.MC_PEND1).toNat
    ++ (if s.keys.policy.isEmpty then List.replicate 32 0 else sha256 s.keys.policy)
    ++ natBytes 8 (s.rd Addr.SEN_STRAP).toNat ++ natBytes 8 (s.rd Addr.SEN_FAIL0).toNat ++ natBytes 8 (s.rd Addr.SEN_FAIL1).toNat
    ++ natBytes 4 s.bootSt.log.length ++ natBytes 12 0 ++ s.bootSt.log

/-- ATTEST (R440): without a device identity key the signature bytes are zero. -/
def State.attest (s : State) (q : Req) : State :=
  s.serve q 0x02 (fun s =>
    if q.body.length != 32 then s.refuse q 0x02 1
    else
      let r := s.report q.body
      match s.keys.devKey with
      | none => s.okay q 0x02 (r ++ List.replicate 96 0)
      | some n =>
        let u := s.fresh
        u.2.okay q 0x02 (r ++ signBytes n r u.1))

/-- The unbroken run of durable entries from a sequence, at most n of them (R516). -/
def exportRun (seq n : Nat) : List JEntry → List JEntry
  | [] => []
  | e :: es =>
    if e.seq < seq then exportRun seq n es
    else if n = 0 || !e.dur || !(e.seq == seq) then []
    else e :: exportRun (seq + 1) (n - 1) es

/-- JEXPORT (R516). -/
def State.jexport (s : State) (q : Req) : State :=
  s.serve q 0x03 (fun s =>
    let first := cellGet q.body 0 8
    let n := cellGet q.body 8 4
    let live := s.jrn.ring.filter s.inRing
    if q.body.length != 12 || n = 0 || 1048576 < n || !live.any (fun e => e.seq == first) then s.refuse q 0x03 1
    else s.okay q 0x03 ((exportRun first n live).flatMap (fun e => e.data)))

/-- RAW_CAPTURE (R392, R516). -/
def State.rawCapture (s : State) (q : Req) : State :=
  s.serve q 0x05 (fun s =>
    let n := cellGet q.body 0 4
    if q.body.length != 4 || n < 1024 || 16777216 < n || n % 8 != 0 then s.refuse q 0x05 1
    else
      let u := (s.keyed q 0x05).fresh
      u.2.okay q 0x05 ((List.range (n / 8)).map (Config.glintByte u.1)))

/-! ## Keys and policy -/

/-- KEYGEN's effect (R453). -/
def State.keygenNow (s : State) (q : Req) : State :=
  let k := s.newKey
  (k.2.updKeys (fun y => { y with devKey := some k.1 })).okay q 0x04 (pubKey k.1)

/-- KEYGEN (R453, R455). -/
def State.keygen (s : State) (q : Req) : State :=
  s.serve q 0x04 (fun s =>
    if !q.body.isEmpty then s.refuse q 0x04 1
    else if s.keys.devKey.isSome then s.refuse q 0x04 2
    else if s.drwState != 1 then s.refuse q 0x04 9
    else s.transit q 0x04 ⟨5, 0, []⟩ (fun s => s.keygenNow q))

/-- Is a value one that a register's field may hold (R12, R517)? -/
def fieldTakes (a lo v : Nat) : Bool :=
  match regFind a with
  | none => false
  | some r =>
    match r.fields.find? (fun f => f.lo == lo) with
    | none => false
    | some f => decide (v < 2 ^ f.width) && f.valueOk v

/-- Is no alarm class policy below its class's floor (R456)? -/
def State.floorsOk (s : State) (b : List Byte) : Bool :=
  (List.range 8).all (fun c => decide (s.almFloor c ≤ polGet b 2 2 / 4 ^ c % 4))

/-- Is a policy block well formed and within range (R517)? -/
def State.policyOk (s : State) (b : List Byte) : Bool :=
  let r := polRepl b
  b.length == 208 && polGet b 0 2 == 1 && (List.range 8).all (fun c => decide (polGet b 2 2 / 4 ^ c % 4 < 3))
    && decide (1 ≤ polGet b 4 2) && polGet b 6 2 == 0
    && (List.range 22).all (fun q => decide (polGet b (8 + 2 * q) 1 ≤ polGet b (9 + 2 * q) 1)
      && fieldTakes (Addr.ARB_BOUND q) 0 (polGet b (8 + 2 * q) 1) && fieldTakes (Addr.ARB_BOUND q) 8 (polGet b (9 + 2 * q) 1))
    && decide (32 ≤ polGet b 0x34 2) && decide (polGet b 0x34 2 ≤ 1023)
    && decide (polGet b 0x39 1 < 8) && decide (r.1 < 3) && decide (1 ≤ r.2.2)
    && decide (polGet b 0x3C 1 < polGet b 0x3D 1) && decide (polGet b 0x3D 1 < polGet b 0x3E 1) && decide (polGet b 0x3E 1 ≤ 99)
    && fieldTakes Addr.JRN_THR 0 (polGet b 0x3C 1) && fieldTakes Addr.JRN_THR 8 (polGet b 0x3D 1)
    && fieldTakes Addr.JRN_THR 16 (polGet b 0x3E 1) && polGet b 0x3F 1 == 0
    && fieldTakes Addr.JRN_SEAL 0 (polGet b 0x40 2) && fieldTakes Addr.EXC_MASKLIM 0 (polGet b 0x42 2)
    && fieldTakes Addr.TALLY_GRACE 0 (polGet b 0x44 4) && fieldTakes Addr.DRW_CTRL 0 (polGet b 0x48 1)
    && fieldTakes Addr.DRW_HEALTH 0 (polGet b 0x49 1) && fieldTakes Addr.DRW_HEALTH 16 (polGet b 0x4A 2)
    && fieldTakes Addr.DRW_RESEED 0 (polGet b 0x4C 4) && fieldTakes Addr.DRW_RESEED 32 (polGet b 0x50 2) && polGet b 0x52 6 == 0
    && (List.range 15).all (fun n => decide (smGet (always 0) s.keys.minVer n ≤ polGet b (0x58 + 8 * n) 8))

/-- The policy replaced and applied to its registers (R456); the replication mode changes with its record (R381). -/
def State.takePolicy (s : State) (b : List Byte) : State :=
  let r := polRepl b
  ((s.applyPolicy b).updBoot (fun y => { y with polNew := true })).replChange r.1 r.2.1 r.2.2 2

/-- The operator keys of a PROVISION body, by slot. -/
def provKeys (b : List Byte) (n : Nat) : List (Nat × Option (List Byte)) :=
  (List.range n).map (fun i => (i, some (cut (105 + 97 * i) 97 b)))

/-- PROVISION's effect (R453). -/
def State.provisionNow (s : State) (q : Req) : State :=
  let n := cellGet q.body 97 1
  let k := s.newKey
  let s1 := k.2.updKeys (fun y => { y with
    jrnKey := some k.1, debugPub := some (q.body.take 97), oper := provKeys q.body n,
    archive := some (cut (105 + 97 * n) 97 q.body) })
  let s2 := (s1.takePolicy (cut (202 + 97 * n) 208 q.body)).setFld Addr.SEC_LC 0 3 1
  (s2.relock q.port 0x06).okay q 0x06 (pubKey k.1)

/-- PROVISION (R453, R516). -/
def State.provision (s : State) (q : Req) : State :=
  s.serve q 0x06 (fun s =>
    let n := cellGet q.body 97 1
    if n = 0 || 4 < n || q.body.length != 410 + 97 * n || cellGet q.body 98 7 != 0
        || !s.policyOk (cut (202 + 97 * n) 208 q.body) then s.refuse q 0x06 1
    else if s.keys.devKey.isNone then s.refuse q 0x06 2
    else s.transit q 0x06 ⟨5, 1, []⟩ (fun s => s.provisionNow q))

/-- CERTIFY's effect (R453). -/
def State.certifyNow (s : State) (q : Req) : State :=
  ((s.setFld Addr.SEC_LC 0 3 2).relock q.port 0x07).okay q 0x07 []

/-- CERTIFY (R453, R456): a policy below a floor can never be quoted. -/
def State.certify (s : State) (q : Req) : State :=
  s.serve q 0x07 (fun s =>
    if q.body != sha256 s.keys.policy || s.keys.policy.isEmpty || !s.floorsOk s.keys.policy then s.refuse q 0x07 1
    else s.transit q 0x07 ⟨5, 2, []⟩ (fun s => s.certifyNow q))

/-- POLICY_SET (R456). -/
def State.policySet (s : State) (q : Req) : State :=
  s.serve q 0x08 (fun s =>
    if !s.policyOk q.body || (s.lcState == 2 && !s.floorsOk q.body) then s.refuse q 0x08 1
    else
      let v := (s.rd Addr.SEC_POLVER).toNat + 1
      let s1 := ((s.keyed q 0x08).takePolicy q.body).wr Addr.SEC_POLVER (BitVec.ofNat 64 v)
      s1.okay q 0x08 (sha256 q.body ++ natBytes 8 v))

/-- KEY_SET (R455, R516). -/
def State.keySet (s : State) (q : Req) : State :=
  s.serve q 0x09 (fun s =>
    let item := cellGet q.body 0 1
    let slot := cellGet q.body 1 1
    let op := cellGet q.body 2 1
    let key := q.body.drop 8
    if q.body.length != 105 || item = 0 || 3 < item || 3 < slot || 1 < op || (op == 1 && item != 2) || cellGet q.body 3 5 != 0 then
      s.refuse q 0x09 1
    else
      let s1 := (s.keyed q 0x09).updKeys (fun y =>
        if item = 1 then { y with debugPub := some key }
        else if item = 3 then { y with archive := some key }
        else { y with oper := smSet (always none) y.oper slot (if op = 1 then none else some key) })
      let old := (smGet (always none) s.keys.oper slot).map keyId
      s1.okay q 0x09 (if op = 1 then old.getD (List.replicate 8 0) else keyId key))

/-! ## Decode table -/

/-- The offset of the decode-table package in a set's area of the boot store: its last 32 KiB. -/
def mcPlace (b : Bool) : Nat := setLen b - 0x8000

/-- The package written to slot 8 of the running set in the boot store (R419 step 1). -/
def State.mcStore (s : State) (b : List Byte) : State :=
  let set := s.fld Addr.SEN_BOOT 12 1 == 1
  let m := writeLE (writeBytes s.boot (setBase set + mcPlace set) b) (setBase set + 128) 8 (mcPlace set)
  { s with boot := writeLE m (setBase set + 136) 8 b.length }

/-- MC_COMMIT's steps 3 and 4 (R419). -/
def State.mcCommitNow (s : State) (q : Req) : State :=
  match s.sec.mcStaged with
  | none => s.okay q 0x0A []
  | some b => (s.mcInstall b).okay q 0x0A []

/-- MC_COMMIT (R419): the package goes to the boot store, its record is appended, and the table follows its receipt. -/
def State.mcCommit (s : State) (q : Req) : State :=
  s.serve q 0x0A (fun s =>
    match s.sec.mcStaged with
    | none => s.refuse q 0x0A 1
    | some b =>
      if q.body != pkgHash b then s.refuse q 0x0A 1
      else (s.mcStore b).transit q 0x0A ⟨8, s.lcState, s.mcHash ++ pkgHash b ++ natBytes 8 (s.rd Addr.MC_VERSION).toNat
        ++ natBytes 8 (pkgVersion b)⟩ (fun s => s.mcCommitNow q))

/-- MC_STAGE (R418): a good package whose version exceeds the installed one's. -/
def State.mcStage (s : State) (q : Req) : State :=
  s.serve q 0x21 (fun s =>
    if !s.pkgOk q.body || decide (pkgVersion q.body ≤ (s.rd Addr.MC_VERSION).toNat) then s.refuse q 0x21 1
    else (s.updSec (fun k => { k with mcStaged := some q.body })).okay q 0x21 (pkgHash q.body))

/-! ## Takeover, debug, recovery -/

/-- TAKEOVER (R510). -/
def State.takeoverCmd (s : State) (q : Req) : State :=
  s.serve q 0x0B (fun s =>
    let f := cellGet q.body 0 1
    if q.body.length != 1 || 1 < f then s.refuse q 0x0B 1
    else if !s.standby || s.fld Addr.CWL_STATUS 2 1 == 1 || !(s.fld Addr.JRN_REPL_STATUS 1 3 == 2 || f == 1) then s.refuse q 0x0B 2
    else ((s.keyed q 0x0B).takeOver 2).okay q 0x0B [])

/-- DEBUG_CHALLENGE (R472): 32 bytes of which the spec says no more than that they are a challenge (log 7). -/
def State.debugChallenge (s : State) (q : Req) : State :=
  s.serve q 0x0C (fun s =>
    if !q.body.isEmpty then s.refuse q 0x0C 1
    else
      let u := s.fresh
      let c := (List.range 32).map (Config.challengeByte u.1)
      (u.2.updSec (fun k => { k with challenge := some (c, s.clk) })).okay q 0x0C c)

/-- The message that an unlock signs (R472). -/
def unlockMsg (challenge body : List Byte) : List Byte := challenge ++ natBytes 8 Config.moduleId.toNat ++ body.take 4

/-- DEBUG_UNLOCK (R472). -/
def State.debugUnlock (s : State) (q : Req) : State :=
  s.serve q 0x0D (fun s =>
    let d := cellGet q.body 0 4
    let fails := s.fld Addr.SEC_STATUS 8 4
    if q.body.length != 104 || d = 0 || 65535 < d || cellGet q.body 4 4 != 0 then s.refuse q 0x0D 1
    else if 8 ≤ fails then s.refuse q 0x0D 7
    else
      let good := match s.sec.challenge, s.keys.debugPub with
        | some c, some k => verifies k (unlockMsg c.1 q.body) (q.body.drop 8)
        | _, _ => false
      let s1 := s.updSec (fun k => { k with challenge := none })
      if good then
        let s2 := (s1.setFld Addr.SEC_DBG 0 1 1).setFld Addr.SEC_DBG 16 16 (min d (s1.fld Addr.SEC_DBG 32 16))
        let s2 := s2.updSec (fun k => { k with unlockAt := s.clk })
        (s2.dbgShow.auditOpen 6 q.port 0 0x0D 0 0 []).okay q 0x0D []
      else
        (((s1.setFld Addr.SEC_STATUS 8 4 (fails + 1)).bump Addr.SEC_CNT_REJ).auditOpen 9 q.port 6 0x0D 0 0 []).respond
          q.port 0x0D 6 q.tag [])

/-- DEBUG_LOCK (R472). -/
def State.debugLock (s : State) (q : Req) : State :=
  s.serve q 0x0E (fun s => if !q.body.isEmpty then s.refuse q 0x0E 1 else (s.relock q.port 0x0E).okay q 0x0E [])

/-- DEBUG_UNLOCK_EXPIRY (R472). -/
def State.unlockExpiry (s : State) : State := s.relock 4 0

/-- DEBUG_CHALLENGE_EXPIRY (R472). -/
def State.challengeExpiry (s : State) : State := s.updSec (fun k => { k with challenge := none })

/-- Is the source of a latched class still active (R465)? -/
def State.sourceLive (s : State) : Bool := !((s.rd Addr.SEC_ALM_ACT).toNat &&& (s.rd Addr.SEC_ALM_RAW).toNat == 0)

/-- The class counters clear (R465). -/
def State.clearAlmCnt (s : State) : State := (List.range 8).foldl (fun s c => s.wr (Addr.SEC_ALM_CNT c) 0) s

/-- Latches cleared, ALARM_N released. -/
def State.clearLatches (s : State) : State := (s.setFld Addr.SEC_ALM_ACT 0 8 0).setFld Addr.SEC_STATUS 3 1 0

/-- Recovery from ALARMED (R454, R465): new keys, PROVISIONED, module reset; its record follows the next epoch-open record. -/
def State.recoverNow (s : State) (q : Req) : State :=
  let rec' := s.transRec q 0x0F ⟨5, 1, []⟩
  let k1 := (s.instantiate).newKey
  let k2 := k1.2.newKey
  let s1 := k2.2.updKeys (fun y => { y with
    devKey := some k1.1, jrnKey := some k2.1, debugPub := none, keyChanged := true, recovered := some rec' })
  let s2 := ((s1.clearLatches.clearAlmCnt).setFld Addr.SEC_STATUS 4 1 0).setFld Addr.SEC_LC 0 3 1
  (s2.okay q 0x0F (pubKey k1.1 ++ pubKey k2.1)).moduleReset 5

/-- ALARM_RECOVER (R465). -/
def State.alarmRecover (s : State) (q : Req) : State :=
  s.serve q 0x0F (fun s =>
    let act := s.fld Addr.SEC_ALM_ACT 0 8
    match q.body.map BitVec.toNat with
    | [0] =>
      if s.drwState != 2 || act != 0 then s.refuse q 0x0F 2
      else if q.pass then ((s.keyed q 0x0F).startupTest true).okay q 0x0F []
      else (s.startupTest false).refuse q 0x0F 9
    | [1] =>
      if !s.hold || s.lcState == 3 || s.sourceLive then s.refuse q 0x0F 2
      else ((s.clearLatches).okay q 0x0F []).moduleReset 5
    | [2] =>
      if s.lcState != 3 || s.sec.erase || s.sourceLive then s.refuse q 0x0F 2
      else if !q.pass then s.refuse q 0x0F 9
      else s.recoverNow q
    | _ => s.refuse q 0x0F 1)

/-- RESET (R13, R376): the response is sent, then the module resets. -/
def State.resetCmd (s : State) (q : Req) : State :=
  s.serve q 0x10 (fun s => if !q.body.isEmpty then s.refuse q 0x10 1 else (s.okay q 0x10 []).moduleReset 5)

/-- RETIRE's effect (R453, R460). -/
def State.retireNow (s : State) (q : Req) : State :=
  let s1 := (s.umbra.setFld Addr.SEC_LC 0 3 4).setFld Addr.SEC_LC 3 1 1
  (((s1.setFld Addr.SEC_STATUS 0 1 0).stopPairs workPairs).relock q.port 0x12).okay q 0x12 []

/-- RETIRE (R453, R454). -/
def State.retire (s : State) (q : Req) : State :=
  s.serve q 0x12 (fun s =>
    if q.body != natBytes 8 Config.moduleId.toNat then s.refuse q 0x12 1
    else s.transit q 0x12 ⟨5, 4, []⟩ (fun s => s.retireNow q))

/-! ## Images -/

/-- IMG_STAGE (R441, R516). -/
def State.imgStage (s : State) (q : Req) : State :=
  s.serve q 0x11 (fun s =>
    let b := cellGet q.body 0 1 == 1
    if q.body.length < 8 || 1 < cellGet q.body 0 1 || cellGet q.body 1 7 != 0 || setLen b < q.body.length - 8 then s.refuse q 0x11 1
    else
      let s1 := { s with boot := writeBytes s.boot (setBase b) (q.body.drop 8) }
      s1.okay q 0x11 [])

/-- The end of the slots of a set other than one, within the set; at least the directory's end. -/
def State.setEnd (s : State) (b : Bool) (but : Nat) : Nat :=
  ((List.range 16).filter (fun n => !(n == but))).foldl (fun m n =>
    let d := setBase b + 16 * n
    let len := readLE s.boot (d + 8) 8
    if len = 0 then m else max m (readLE s.boot d 8 + len)) 256

/-- FW_STAGE (R434, R516): a good image goes to its slot of the set that is not running. -/
def State.fwStage (s : State) (q : Req) : State :=
  s.serve q 0x20 (fun s =>
    let slot := cellGet q.body 0 2
    let img := q.body.drop 8
    let b := !(s.fld Addr.SEN_BOOT 12 1 == 1)
    let off := (s.setEnd b slot + 63) / 64 * 64
    if q.body.length < 8 || !imageSlots.contains slot || cellGet q.body 2 6 != 0 || s.checkImage b slot img != 0
        || setLen b < off + img.length then s.refuse q 0x20 1
    else
      let d := setBase b + 16 * slot
      let s1 := { s with boot := writeLE (writeLE (writeBytes s.boot (setBase b + off) img) d 8 off) (d + 8) 8 img.length }
      s1.okay q 0x20 (sha256 (imgBody img ((imgGrants img).getD 0))))

/-! ## Configuration and telemetry -/

/-- One entry of a CFG_SET body: address, value, mask. -/
def cfgEntry (b : List Byte) (i : Nat) : Nat × Nat × Nat :=
  (0xF0000000000 + cellGet b (8 + 24 * i) 8, cellGet b (16 + 24 * i) 8, cellGet b (24 + 24 * i) 8)

/-- The value that a CFG_SET entry writes: named bits from the value, other bits of RW and RWL fields as they are. -/
def State.cfgValue (s : State) (e : Nat × Nat × Nat) : Nat :=
  match regFind e.1 with
  | none => 0
  | some r =>
    let keep := r.fields.foldl (fun m f => if f.ty = .rw || f.ty = .rwl then m + (2 ^ f.width - 1) * 2 ^ f.lo else m) 0
    let old := (s.rd e.1).toNat &&& keep
    (old - (old &&& e.2.2)) + (e.2.1 &&& e.2.2)

/-- The result of checking a CFG_SET entry (R468); 0 is accepted. -/
def State.cfgCheck (s : State) (e : Nat × Nat × Nat) : Nat :=
  match regFind e.1 with
  | none => 1
  | some r =>
    let named := r.fields.filter (fun f => !(bitsAt e.2.2 f.lo f.width == 0))
    let v := s.cfgValue e
    if named.any (fun f => f.ty == .rwl) then (if s.lcState = 2 then 2 else 1)
    else if named.any (fun f => f.ty == .ro || f.ty == .rsv || !f.valueOk (bitsAt v f.lo f.width)) then 1
    else 0

/-- The first failed check of several entries. -/
def State.cfgChecks (s : State) : List (Nat × Nat × Nat) → Nat
  | [] => 0
  | e :: es => if s.cfgCheck e = 0 then s.cfgChecks es else s.cfgCheck e

/-- Every entry applied in order. -/
def State.cfgApply (s : State) : List (Nat × Nat × Nat) → State
  | [] => s
  | e :: es => (s.devWrite .cfg e.1 (s.cfgValue e)).cfgApply es

/-- CFG_SET (R468, R516). -/
def State.cfgSet (s : State) (q : Req) : State :=
  s.serve q 0x22 (fun s =>
    let n := cellGet q.body 0 2
    let es := (List.range n).map (cfgEntry q.body)
    if n = 0 || 64 < n || q.body.length != 8 + 24 * n || cellGet q.body 2 6 != 0 then s.refuse q 0x22 1
    else if s.cfgChecks es != 0 then s.refuse q 0x22 (s.cfgChecks es)
    else (s.cfgApply es).okay q 0x22 [])

/-- TELEM_READ (R516). -/
def State.telemRead (s : State) (q : Req) : State :=
  s.serve q 0x23 (fun s =>
    let off := cellGet q.body 0 8
    let n := cellGet q.body 8 4
    if q.body.length != 12 || n = 0 || 184 < n || off % 8 != 0 || 2 ^ 24 < off + 8 * n then s.refuse q 0x23 1
    else s.okay q 0x23 ((List.range n).flatMap (fun i => natBytes 8 (s.devRead (0xF000F000000 + off + 8 * i)).1.toNat)))

/-- DETACH (R534). -/
def State.detachCmd (s : State) (q : Req) : State :=
  s.serve q 0x24 (fun s => if !q.body.isEmpty then s.refuse q 0x24 1 else (s.okay q 0x24 []).drainStart 2)

/-- A management command by its code. -/
def State.mgmt (s : State) (code : Nat) (q : Req) : State :=
  match code with
  | 0x01 => s.lcQuery q
  | 0x02 => s.attest q
  | 0x03 => s.jexport q
  | 0x04 => s.keygen q
  | 0x05 => s.rawCapture q
  | 0x06 => s.provision q
  | 0x07 => s.certify q
  | 0x08 => s.policySet q
  | 0x09 => s.keySet q
  | 0x0A => s.mcCommit q
  | 0x0B => s.takeoverCmd q
  | 0x0C => s.debugChallenge q
  | 0x0D => s.debugUnlock q
  | 0x0E => s.debugLock q
  | 0x0F => s.alarmRecover q
  | 0x10 => s.resetCmd q
  | 0x11 => s.imgStage q
  | 0x12 => s.retire q
  | 0x20 => s.fwStage q
  | 0x21 => s.mcStage q
  | 0x22 => s.cfgSet q
  | 0x23 => s.telemRead q
  | 0x24 => s.detachCmd q
  | _ => if s.answers q.port then s.refuse q code 1 else s

/-- What a transition does when its record holds its receipt (R454, R469). -/
def State.commit (s : State) (c : SecPend) : State :=
  let q : Req := ⟨c.port, c.tag, c.body, true⟩
  let s1 := s.updSec (fun k => { k with pend := none, audit := none })
  if s1.fld Addr.SEC_STATUS 2 1 = 0 then s1.refuse q c.code 4
  else
    match c.code with
    | 0x04 => s1.keygenNow q
    | 0x06 => s1.provisionNow q
    | 0x07 => s1.certifyNow q
    | 0x0A => s1.mcCommitNow q
    | 0x12 => s1.retireNow q
    | _ => s1

/-- The security monitor acts on the journal's answer to the record that a transition waits for (R454). -/
def State.settlePend (s : State) : State :=
  match s.sec.pend, s.sec.audit with
  | some c, some true => s.commit c
  | some _, some false => s.pendReject 8
  | _, _ => s

end Sys2Proof.Machine
end

