-- ==== Sys2Proof/Machine/Sec.lean ====
section
/-!
DEFINITION. Segmented management exchanges (R514, R515), the CMB bus (R518), debug access (R334, R471), the register-key
switch (R469), and what every command does around its own effect.
-/
namespace Sys2Proof.Machine

/-! ## Segments (R514, R515) -/

/-- The segmented request under way at a port. -/
def State.exch (s : State) (port : Nat) : Option Exchange := smGet (always none) s.sec.exch port
/-- It is replaced. -/
def State.setExch (s : State) (port : Nat) (x : Option Exchange) : State :=
  s.updSec (fun k => { k with exch := smSet (always none) k.exch port x })
/-- The response under way at a port. -/
def State.respAt (s : State) (port : Nat) : Option Response := smGet (always none) s.sec.resp port
/-- It is replaced. -/
def State.setResp (s : State) (port : Nat) (x : Option Response) : State :=
  s.updSec (fun k => { k with resp := smSet (always none) k.resp port x })

/-- The header of a segment (R514). -/
structure SegHead where
  kind : Nat
  code : Nat
  tag : Nat
  idx : Nat
  count : Nat
  body : List Byte
deriving DecidableEq, Repr

/-- A segment's fields. -/
def segHead (b : List Byte) : SegHead :=
  ⟨cellGet b 2 1, cellGet b 4 2, cellGet b 8 4, cellGet b 0xC 2, cellGet b 0xE 2, b.drop 0x14⟩

/-- Is the header of a request or of an acknowledgement well formed (R514)? -/
def segOk (b : List Byte) : Bool :=
  let h := segHead b
  decide (0x14 ≤ b.length) && cellGet b 0 2 == 0x5A56 && (h.kind == 1 || h.kind == 2) && cellGet b 6 2 == 0
    && decide (1 ≤ h.count) && decide (h.idx < h.count) && decide (h.body.length ≤ 1472) && cellGet b 0x10 2 == h.body.length
    && cellGet b 0x12 2 == 0

/-- SEGMENT_ACKNOWLEDGEMENT (R515): the next segment of the response at a port is sent. -/
def State.segAckIn (s : State) (port : Nat) : State :=
  match s.respAt port with
  | none => s
  | some r =>
    let n := segCount r.body
    let s1 := s.emitMore (.reply port r.code 0 r.tag r.next n (segBytes r.next r.body))
    s1.setResp port (if r.next + 1 = n then none else some { r with next := r.next + 1 })

/-- Does another REG path carry a segmented command marked "Key" (R470, R519)? -/
def State.keyElsewhere (s : State) (port : Nat) : Bool :=
  [0, 1].any (fun o => !(o == port) && (match s.exch o with
    | none => false
    | some x => keyCodes.contains x.code))

/-- The first segment of a longer request (R515). -/
def State.segFirst (s : State) (port : Nat) (h : SegHead) : State :=
  let q : Req := ⟨port, h.tag, h.body, false⟩
  match s.exch port with
  | some x => if x.tag = h.tag && x.code == h.code then s.emitMore (.segAck port h.code h.tag 0) else s.refuse q h.code 5
  | none =>
    if keyCodes.contains h.code && s.keyElsewhere port then s.refuse q h.code 5
    else (s.setExch port (some ⟨h.code, h.tag, h.count, 1, h.body⟩)).emitMore (.segAck port h.code h.tag 0)

/-- A later segment of a longer request (R515). -/
def State.segNext (s : State) (port : Nat) (h : SegHead) (pass : Bool) : State :=
  let q : Req := ⟨port, h.tag, h.body, false⟩
  match s.exch port with
  | none =>
    if smGet (always none) s.sec.lastSeg port == some (h.code, h.tag, h.count) then s.emitMore (.segAck port h.code h.tag h.idx)
    else s.refuse q h.code 1
  | some x =>
    if !(x.tag == h.tag && x.code == h.code) then s.refuse q h.code 5
    else if h.idx < x.next then s.emitMore (.segAck port h.code h.tag h.idx)
    else if h.idx != x.next || h.count != x.count then (s.setExch port none).refuse q h.code 1
    else
      let s1 := s.emitMore (.segAck port h.code h.tag h.idx)
      let data := x.data ++ h.body
      if h.idx + 1 = h.count then
        let s2 := s1.updSec (fun k => { k with lastSeg := smSet (always none) k.lastSeg port (some (h.code, h.tag, h.count)) })
        (s2.setExch port none).mgmt h.code ⟨port, h.tag, data, pass⟩
      else s1.setExch port (some { x with next := x.next + 1, data := data })

/-- MGMT_SEGMENT (R514, R515): a segment arrives at a port; `pass` is the outcome of a Glint startup test that its command
runs. -/
def State.mgmtSegment (s : State) (port : Nat) (b : List Byte) (pass : Bool) : State :=
  let h := segHead b
  let q : Req := ⟨port, h.tag, h.body, pass⟩
  if !s.answers port then s
  else if !segOk b then s.refuse q h.code 1
  else if h.kind = 2 then s.segAckIn port
  else if h.count = 1 then s.mgmt h.code q
  else if !(regCodes.contains h.code || opsCodes.contains h.code) then s.refuse q h.code 1
  else if !portServes port h.code then s.refuse q h.code 3
  else if h.idx = 0 then s.segFirst port h
  else s.segNext port h pass

/-- A command that waits for its receipt is dropped with its record (R515). -/
def State.dropPend (s : State) : State :=
  let s1 := s.updSec (fun k => { k with pend := none, audit := none })
  let s2 := s1.updJrn (fun j => { j with
    queue := j.queue.filter (fun r => !(r.issuer == .audit)),
    ring := j.ring.map (fun e => { e with issuers := e.issuers.filter (fun i => !(i == .audit)) }) })
  s2.jrnShow

/-- MGMT_TIMEOUT (R515): what a port waits for is abandoned; it is answered with TIMEOUT where a response is possible. -/
def State.mgmtTimeout (s : State) (port : Nat) : State :=
  match s.exch port with
  | some x => (((s.setExch port none).bump Addr.MB_CNT_TMO).respond port x.code 10 x.tag [])
  | none =>
    match s.respAt port with
    | some _ => (s.setResp port none).bump Addr.MB_CNT_TMO
    | none =>
      match s.sec.pend with
      | none => s
      | some c => if c.port = port then (s.dropPend.bump Addr.MB_CNT_TMO).respond port c.code 10 c.tag [] else s

/-! ## CMB (R518) -/

/-- Does CMB answer: the port steward runs, or the module waits without power (R448, R540)? -/
def State.cmbUp (s : State) : Bool := s.sentinelUp 98 || !s.pwr.closed || s.pwrState == 0

/-- A CMB transaction: no answer, NACK of a wrong packet error code, or its command. -/
def State.cmb (s : State) (pecOk : Bool) (f : State → State) : State :=
  if !s.cmbUp then s else if !pecOk then s.emitMore .nack else f s

/-- A rejected CMB command, whose body is one byte (R466, R518). -/
def State.cmbReject (s : State) (code value : Nat) : State :=
  (s.bump Addr.SEC_CNT_REJ).auditOpen 2 3 1 code 0 0 (sha256 (natBytes 1 value))

/-- PRESENCE (R518). -/
def State.presence (s : State) (pecOk : Bool) : State :=
  s.cmb pecOk (fun s =>
    let bits := s.fld Addr.PWR_STATUS 7 1 + b2n (s.pwrState == 4) * 2 + s.fld Addr.SEC_STATUS 3 1 * 4
    s.emitMore (.block (natBytes 8 Config.moduleId.toNat ++ natBytes 1 s.lcState ++ natBytes 1 bits
      ++ natBytes 1 (s.fld Addr.SEN_STRAP 0 6) ++ natBytes 5 0)))

/-- POWER_REQ (R518, R534). -/
def State.powerReq (s : State) (value : Nat) (pecOk : Bool) : State :=
  s.cmb pecOk (fun s => if value = 1 then s.drainStart 3 else s.cmbReject 0x41 value)

/-- SENSOR_READ (R518): indexes 0 to 2 read the power block, the others the sensor. -/
def State.sensorRead (s : State) (idx : Nat) (reading : Int) (pecOk : Bool) : State :=
  s.cmb pecOk (fun s =>
    let v : Int := if idx = 0 then s.fld Addr.PWR_VIN 0 32 else if idx = 1 then s.fld Addr.PWR_IIN 0 32
      else if idx = 2 then s.fld Addr.PWR_PIN 0 32 else reading
    if 20 < idx then (s.cmbReject 0x42 idx).emitMore (.block (List.replicate 8 0))
    else s.emitMore (.block (natBytes 8 (v % 2 ^ 64).toNat)))

/-- LED_SET (R518). -/
def State.ledSet (s : State) (value : Nat) (pecOk : Bool) : State :=
  s.cmb pecOk (fun s => if value < 2 then s.updSec (fun k => { k with locate := value == 1 }) else s.cmbReject 0x43 value)

/-! ## Debug access (R334, R471) -/

/-- The functions of the debug port; a number that names no other selects BYPASS, which always answers (R471). -/
inductive DbgFn where
  | memory | haltPair | stepPair | readReg | extest | idcode | bypass
deriving DecidableEq, Repr

/-- The function that a number selects. -/
def dbgFn (n : Nat) : DbgFn :=
  match n with
  | 0 => .memory
  | 1 => .haltPair
  | 2 => .stepPair
  | 3 => .readReg
  | 4 => .extest
  | 5 => .idcode
  | _ => .bypass

/-- Does a valid global descriptor with LOCK set cover the grain of an address (R334)? -/
def State.lockCovers (s : State) (pa : Nat) : Bool :=
  s.globalSet.any (fun d => d.lo.testBit 63 && d.hi.testBit 63 && decide (bitsAt d.lo 0 38 ≤ pa / 64) && decide (pa / 64 ≤ bitsAt d.hi 0 38))

/-- The security monitor and draw blocks. -/
def dbgSecret (pa : Nat) : Bool := pa / 2 ^ 24 == 0xF0000 || pa / 2 ^ 24 == 0xF0006

/-- The rule that refuses a debug access of 8 bytes (R336): 3 lifecycle, 1 fixed rule, 2 debug set; none where it is allowed. A
misaligned access to a device register is refused (R563). -/
def State.dbgRule (s : State) (pa : Nat) (wr : Bool) : Option Nat :=
  let sp := spaceOf 0 pa
  let k : RKind := if wr then .w else .r
  if !s.dbgOpen then some 3
  else if s.lcState = 2 && (dbgSecret pa || s.lockCovers pa) then some 3
  else if sp = .bitmap || sp = .absent || (wr && (sp = .journal || sp = .boot)) then some 1
  else if sp = .dev && pa % 8 != 0 then some 1
  else if sp = .dev then none
  else if regionOk s.debugSet none pa 8 k then none
  else some 2

/-- A refused debug access (R334): zero with an error status, recorded, and audited in CERTIFIED where R334 and R471 say so. -/
def State.dbgRefuse (s : State) (pa : Nat) (wr : Bool) (rule : Nat) : State :=
  let s1 := (((s.setBit Addr.RCU_ERR 3).wr Addr.RCU_VIOL_ADDR (BitVec.ofNat 64 (pa / 64 * 64 % 2 ^ 44))).wr Addr.RCU_VIOL_INFO
    (BitVec.ofNat 64 (0xF + (if wr then 32 else 16) + rule * 256))).bump Addr.RCU_CNT_VIOL
  let s2 := if s.lcState = 2 && s.dbgOpen && rule == 3 then s1.auditOpen 4 4 0 0 pa (b2n wr) [] else s1
  s2.emitMore (.debug true 0)

/-- A debug memory or register access of 8 bytes that is allowed; at a channel it makes E1 due (R349). -/
def State.dbgAccess (s : State) (pa : Nat) (wr : Bool) (val : Nat) : State :=
  match spaceOf 0 pa with
  | .dev =>
    if wr then (s.devWrite .debug pa val).emitMore (.debug false 0)
    else
      let r := s.devRead pa
      r.2.emitMore (.debug false r.1.toNat)
  | .dram =>
    let c := channelOf pa
    let s1 := (s.setArb c { s.arb c with debugDue := true }).dramEnter pa 8
    if wr then (s1.dataWrite .dram pa (natBytes 8 val)).emitMore (.debug false 0)
    else s1.emitMore (.debug (s1.poisoned pa) (if s1.poisoned pa then 0 else s1.numAt .dram pa 8))
  | sp => s.emitMore (.debug false (s.numAt sp pa 8))

/-- May debug halt, step and read pairs, and run EXTEST (R471)? -/
def State.dbgPairs (s : State) : Bool := s.dbgOpen && !(s.lcState == 2)

/-- Is a pair halted by debug: 0 no, 1 yes, 2 with one step to run. -/
def State.dbgHaltOf (s : State) (p : Nat) : Nat := smGet (always 0) s.sec.dbgHalt p
/-- It is set. -/
def State.setDbgHalt (s : State) (p v : Nat) : State := s.updSec (fun k => { k with dbgHalt := smSet (always 0) k.dbgHalt p v })

/-- A register of the running bank of a pair: c0-c31, then `PCC` as 32. -/
def State.dbgReg (s : State) (p n : Nat) : Nat :=
  let k := s.bank p ((s.pair p).run.getD 0)
  if n = 32 then k.pcc.bits.toNat else (k.reg n).bits.toNat

/-- DEBUG_ACCESS (R334, R335, R471): a function of the debug port, judged by the state in force and performed or refused.
`pa` is a physical address, or the pair; `val` the data written, the halt asked for, or the register number. -/
def State.debugAccess (s : State) (fn pa : Nat) (wr : Bool) (val : Nat) : State :=
  match dbgFn fn with
  | .memory =>
    match s.dbgRule pa wr with
    | some r => s.dbgRefuse pa wr r
    | none => s.dbgAccess pa wr val
  | .haltPair =>
    if s.dbgPairs && decide (pa < 104) then (s.setDbgHalt pa (val % 2)).emitMore (.debug false 0) else s.emitMore (.debug true 0)
  | .stepPair =>
    if s.dbgPairs && s.dbgHaltOf pa == 1 then (s.setDbgHalt pa 2).emitMore (.debug false 0) else s.emitMore (.debug true 0)
  | .readReg =>
    if s.dbgPairs && !(s.dbgHaltOf pa == 0) then s.emitMore (.debug false (s.dbgReg pa val)) else s.emitMore (.debug true 0)
  | .extest => s.emitMore (.debug (!s.dbgPairs) 0)
  | .idcode => s.emitMore (.debug false Config.idcode.toNat)
  | .bypass => s.emitMore (.debug false 0)

/-! ## The L3 scrub -/

/-- L3_SCRUB (R545): the scrub reads every L3 line; what it can correct it corrects, and a line of a list that it cannot
becomes poisoned (R340). -/
def State.l3Scrub (s : State) (bad : List Nat) : State :=
  if s.fld Addr.FC_CTRL 0 1 = 0 then s else (bad.filter (fun l => decide (l < 2 ^ 35))).foldl State.poisonLine s

/-! ## Around every command -/

/-- REG_KEY_CHANGE (R469): `SEC_STATUS.KEY` follows the switch after its filter. -/
def State.regKey (s : State) (isClosed : Bool) : State := s.setFld Addr.SEC_STATUS 2 1 (b2n isClosed)

/-- Boot reaches RUNNING when the epoch is open and no class is latched; an ejector opened before is taken now (R460, R561). -/
def State.settleBoot (s : State) : State :=
  if s.jrn.isOpen && s.stage == 4 && s.fld Addr.SEC_ALM_ACT 0 8 == 0 then (s.setStage 5).takeEject else s

/-- A command of the block: what earlier commands sent is gone; then its effect, the security monitor's answer to a receipt,
the takeover that it lets happen (R510), the change of `HB_STATUS` (R502), and the messages that leave as flits (R504). -/
def State.cmd (f : State → State) (s : State) : State :=
  (s.hbNotice (f { s with out := [] }).settlePend.settleBoot.settleDetach).cwlPack

/-- The outcome of a command that every state takes. -/
def does (f : State → State) (s : State) : Host.Outcome State Fault Refusal := .next (State.cmd f s)

/-- The outcome of a command that names a unit: nothing receives it where the module does not have that unit (log 1). -/
def onUnit (has : Bool) (f : State → State) (s : State) : Host.Outcome State Fault Refusal :=
  does (fun s => if has then f s else s) s

end Sys2Proof.Machine
end

