-- ==== Sys2Proof/Machine/Unit.lean ====
section
/-!
DEFINITION. The small operations that only one command each needs: a signed reading, a drain that takes the links down, a
park, and the read that takes a notice.
-/
namespace Sys2Proof.Machine

/-- A signed reading as 64 bits (R474). -/
def signed64 (x : Int) : Nat := (x % 2 ^ 64).toNat

/-- A detection from its operands: class, source detail, signed reading (R474). -/
def hitOf (h : Nat × Nat × Int) : Hit := ⟨h.1, h.2.1, signed64 h.2.2⟩

/-- SEN_NQ_HI: a sentinel reads word 1 of its oldest notice, which leaves the queue (R446); the health sentinel acts on what it
reads (R447). -/
def State.nqRead (s : State) (q : Nat) : State :=
  let r := s.nqHi q
  let s1 := r.2.emitMore (.read r.1.toNat)
  match s.queue q with
  | [] => s1
  | n :: _ => if q = 3 && s.sentinelUp 99 then s1.healthRead n else s1

/-- PARK (R526): VIN has stayed below the park threshold. -/
def State.parkAt (s : State) (mv : Nat) : State :=
  let s1 := s.setVin mv
  if mv < s1.fld Addr.PWR_CTRL 0 16 then s1.drainStart 5 else s1

/-- READY_TO_REMOVE (R535): DETACH goes out before the links go down; when the drain takes the PCI Express link down, its open
transfers end (R496). -/
def State.removeReady (s0 : State) : State :=
  let s := if s0.saysDetach then (s0.emit [.link 0x04 0 0 []]).cwlPack else s0
  let t := s.readyToRemove
  if s.fld Addr.PCI_STATUS 0 1 = 1 && t.fld Addr.PCI_STATUS 0 1 == 0 then (t.setFld Addr.PCI_STATUS 0 1 1).pcieDown else t

/-- An error arises in a line of the packages, where one does at this instant (R339, R340; log 81). -/
def State.upset (s : State) : State :=
  match Config.upset s.clk with
  | none => s
  | some (n, ue) =>
    let line := n % (2 ^ 35 + 2 ^ 28)
    if s.poisoned (line * 64) then s else { s with latent := smSet (always none) s.latent line (some ue) }

/-- A ledger pair walks ahead of its fetches, where one does at this instant: a leaf that it finds enters its TLBs and its line
the fetch buffer; it raises no fault (R283, R289, R320; log 80). -/
def State.specWalk (s : State) : State :=
  match Config.specWalk s.clk with
  | none => s
  | some (n, va) =>
    let p := n % 96
    match (s.pair p).run with
    | none => s
    | some b =>
      let t := (s.bank p b).ttbc.toNat
      if t % 2 = 0 || (s.pair p).det || (s.pair p).halt.isSome then s
      else
        match s.walk (some p) (some p) va t with
        | .flt _ s1 => s1
        | .ok e s1 => (s1.tlbFill p true e).fetchLine p (leafPa e va / 64)

/-- A nanosecond of the root clock passes; secure time advances by it at the servo's rate (R488, R491). -/
def State.tick (s : State) : State :=
  let n := s.net.frac + (1000000 + s.net.rate).toNat
  { s with clk := s.clk + 1, time := s.time + n / 1000000, net := { s.net with frac := n % 1000000 },
           pwr := { s.pwr with up := s.pwr.up + 1 } }

/-- The power unit measures its input every 100 µs (R524, R547; log 94). -/
def State.measure (s : State) : State :=
  if s.clk % 100000 = 0 then
    let m := Config.powerReading s.pwr.up
    ((s.setVin m.1.toNat).setFld Addr.PWR_IIN 0 32 m.2.1.toNat).setFld Addr.PWR_PIN 0 32 m.2.2.toNat
  else s

/-- The block with nothing to do: a nanosecond passes (log 2), in which an error may arise and a pair may walk ahead. -/
def State.idle (s : State) : State := s.upset.specWalk.measure.tick

end Sys2Proof.Machine
end

