-- ==== Sys2Proof/Machine/Alu.lean ====
section
/-!
DEFINITION. The values that the integer, wide, capability and inspection syllables compute, with their flags (R37-R45,
R57-R63, R139-R144). Micro-ops compute the same values (R411).
-/
namespace Sys2Proof.Machine

/-! ## Integers (R139, R140, R143) -/

/-- Addition modulo 2^w. -/
def opAdd {w : Nat} (a b : BitVec w) : BitVec w × Flags := (a + b, noFlags)
/-- Subtraction modulo 2^w. -/
def opSub {w : Nat} (a b : BitVec w) : BitVec w × Flags := (a - b, noFlags)
/-- Addition with OV. -/
def opAddV {w : Nat} (a b : BitVec w) : BitVec w × Flags := wrapV w (a.toInt + b.toInt) true
/-- Subtraction with OV. -/
def opSubV {w : Nat} (a b : BitVec w) : BitVec w × Flags := wrapV w (a.toInt - b.toInt) true
/-- Addition clamped. -/
def opAddS {w : Nat} (a b : BitVec w) : BitVec w × Flags := clampS w (a.toInt + b.toInt)
/-- Subtraction clamped. -/
def opSubS {w : Nat} (a b : BitVec w) : BitVec w × Flags := clampS w (a.toInt - b.toInt)
/-- Negation modulo 2^w, with OV for the smallest value. -/
def opNeg {w : Nat} (a : BitVec w) : BitVec w × Flags := wrapV w (-a.toInt) true
/-- Negation clamped. -/
def opNegS {w : Nat} (a : BitVec w) : BitVec w × Flags := clampS w (-a.toInt)
/-- AND. -/
def opAnd {w : Nat} (a b : BitVec w) : BitVec w × Flags := (a &&& b, noFlags)
/-- OR. -/
def opOr {w : Nat} (a b : BitVec w) : BitVec w × Flags := (a ||| b, noFlags)
/-- Exclusive OR. -/
def opXor {w : Nat} (a b : BitVec w) : BitVec w × Flags := (a ^^^ b, noFlags)
/-- AND with the complement. -/
def opAndn {w : Nat} (a b : BitVec w) : BitVec w × Flags := (a &&& ~~~b, noFlags)
/-- OR with the complement. -/
def opOrn {w : Nat} (a b : BitVec w) : BitVec w × Flags := (a ||| ~~~b, noFlags)
/-- Smaller, signed. -/
def opMin {w : Nat} (a b : BitVec w) : BitVec w × Flags := (if a.toInt < b.toInt then a else b, noFlags)
/-- Larger, signed. -/
def opMax {w : Nat} (a b : BitVec w) : BitVec w × Flags := (if a.toInt < b.toInt then b else a, noFlags)
/-- Smaller, unsigned. -/
def opMinu {w : Nat} (a b : BitVec w) : BitVec w × Flags := (if a.toNat < b.toNat then a else b, noFlags)
/-- Larger, unsigned. -/
def opMaxu {w : Nat} (a b : BitVec w) : BitVec w × Flags := (if a.toNat < b.toNat then b else a, noFlags)
/-- 1 if less, signed. -/
def opSlt (a b : Word) : Word × Flags := (if a.toInt < b.toInt then 1 else 0, noFlags)
/-- 1 if less, unsigned. -/
def opSltu (a b : Word) : Word × Flags := (if a.toNat < b.toNat then 1 else 0, noFlags)
/-- Leading zeros. -/
def opClz (a : Word) : Word × Flags := (BitVec.ofNat 64 (clzFrom a.toNat 64), noFlags)
/-- Trailing zeros. -/
def opCtz (a : Word) : Word × Flags := (BitVec.ofNat 64 (ctzFrom a.toNat 0 64), noFlags)
/-- Number of ones. -/
def opPopc (a : Word) : Word × Flags := (BitVec.ofNat 64 (popFrom a.toNat 64), noFlags)
/-- Sign extension of the low n bits. -/
def opSext (n : Nat) (a : Word) : Word × Flags := ((a.setWidth n).signExtend 64, noFlags)
/-- The low 32 bits. -/
def opZextw (a : Word) : Word × Flags := ((a.setWidth 32).setWidth 64, noFlags)
/-- Left shift. -/
def opSll {w : Nat} (a : BitVec w) (n : Nat) : BitVec w × Flags := (shlBy a n, noFlags)
/-- Logical right shift. -/
def opSrl {w : Nat} (a : BitVec w) (n : Nat) : BitVec w × Flags := (shrBy a n, noFlags)
/-- Arithmetic right shift. -/
def opSra {w : Nat} (a : BitVec w) (n : Nat) : BitVec w × Flags := (sarBy a n, noFlags)
/-- Product modulo 2^w. -/
def opMul {w : Nat} (a b : BitVec w) : BitVec w × Flags := (a * b, noFlags)
/-- Product modulo 2^w with OV. -/
def opMulV {w : Nat} (a b : BitVec w) : BitVec w × Flags := wrapV w (a.toInt * b.toInt) true
/-- Product clamped. -/
def opMulS {w : Nat} (a b : BitVec w) : BitVec w × Flags := clampS w (a.toInt * b.toInt)
/-- Upper half of the signed product. -/
def opMulh (a b : Word) : Word × Flags := (BitVec.ofInt 64 (a.toInt * b.toInt / 2 ^ 64), noFlags)
/-- Upper half of the unsigned product. -/
def opMulhu (a b : Word) : Word × Flags := (BitVec.ofNat 64 (a.toNat * b.toNat / 2 ^ 64), noFlags)
/-- Signed quotient (R140). -/
def opDiv {w : Nat} (a b : BitVec w) : BitVec w × Flags := sdivE w a.toInt b.toInt
/-- Unsigned quotient (R140). -/
def opDivu (a b : Word) : Word × Flags := if b = 0 then (0, flagDZ true) else (BitVec.ofNat 64 (a.toNat / b.toNat), noFlags)
/-- Signed remainder (R140). -/
def opRem {w : Nat} (a b : BitVec w) : BitVec w × Flags := sremE w a.toInt b.toInt
/-- Unsigned remainder (R140). -/
def opRemu (a b : Word) : Word × Flags := if b = 0 then (a, flagDZ true) else (BitVec.ofNat 64 (a.toNat % b.toNat), noFlags)
/-- Signed quotient, saturating (R140). -/
def opDivS {w : Nat} (a b : BitVec w) : BitVec w × Flags := sdivS w a.toInt b.toInt
/-- Signed 128-bit product of two integers (R143). -/
def opMulx (a b : Word) : Wide × Flags := (BitVec.ofInt 128 (a.toInt * b.toInt), noFlags)
/-- Unsigned 128-bit product of two integers (R143). -/
def opMulxu (a b : Word) : Wide × Flags := (BitVec.ofNat 128 (a.toNat * b.toNat), noFlags)

/-! ## Capabilities (R40, R43-R45, R57-R63, R144) -/

/-- What a capability syllable gives: a value, or CAP_MALFORMED of operand 1 or 2 (R38, R231). -/
inductive CapOut where
  | val (c : Cap)
  | bad (operand : Nat)
deriving DecidableEq, Repr

/-- A derivation from one operand, which must not be malformed (R38). -/
def derive1 (c : Cap) (f : Cap → Cap) : CapOut := if c.malformed then .bad 1 else .val (f c)

/-- The cursor set to x: tag kept for an unsealed source with a representable cursor (R40, R62). -/
def setCursor (x : Nat) (c : Cap) : Cap := c.withAddr x (c.tag && c.otype == 0 && c.representable x)

/-- `CSETADDR` (R40, R144). -/
def opCsetaddr (c : Cap) (x : Word) : CapOut := derive1 c (setCursor x.toNat)
/-- `CINCADDR` (R40, R144). -/
def opCincaddr (c : Cap) (x : Word) : CapOut := derive1 c (fun c => setCursor (addrOf ((c.addr : Int) + x.toNat)) c)

/-- The narrowing of R43; `exact` asks for no rounding (R44). -/
def narrow (len : Nat) (exact : Bool) (c : Cap) : Cap :=
  let b := c.addr
  let req := b + len
  let r := encodeBounds b (min req (2 ^ 64))
  let lo := r.2.2.2.1
  let hi := r.2.2.2.2
  c.withBounds r.1 r.2.1 r.2.2.1
    (c.tag && c.otype == 0 && decide (c.base ≤ lo) && decide (hi ≤ c.top) && decide (req ≤ 2 ^ 64)
      && (!exact || (lo == b && hi == req)))

/-- `CSETBOUNDS` (R43). -/
def opCsetbounds (c : Cap) (x : Word) : CapOut := derive1 c (narrow x.toNat false)
/-- `CSETBOUNDSX` (R44). -/
def opCsetboundsx (c : Cap) (x : Word) : CapOut := derive1 c (narrow x.toNat true)
/-- `CANDPERM` (R62, R144). -/
def opCandperm (c : Cap) (x : Word) : CapOut :=
  derive1 c (fun c => c.withPerms (c.perms &&& (x.toNat % 65536)) (c.tag && c.otype == 0))

/-- Is a type one that `CSEAL` may seal with, and `CUNSEAL` unseal (R56)? -/
def softType (t : Nat) : Bool := (decide (1 ≤ t) && decide (t ≤ 0xFEFF)) || t == 0xFF02 || t == 0xFF04

/-- Is an authority of `CSEAL` or `CUNSEAL` tagged, unsealed, with a permission, and its cursor in bounds (R57, R58)? -/
def sealAuth (a : Cap) (perm : Nat) : Bool :=
  a.tag && a.otype == 0 && a.has perm && decide (a.base ≤ a.addr) && decide (a.addr < a.top)

/-- `CSEAL` (R57). -/
def opCseal (c a : Cap) : CapOut :=
  if c.malformed then .bad 1
  else if a.malformed then .bad 2
  else .val (c.withOtype (a.addr % 65536) (c.tag && c.otype == 0 && sealAuth a permSE && softType a.addr))

/-- `CUNSEAL` (R58). -/
def opCunseal (c a : Cap) : CapOut :=
  if c.malformed then .bad 1
  else if a.malformed then .bad 2
  else
    let ok := c.tag && softType c.otype && sealAuth a permUS && a.addr == c.otype
    let r := c.withOtype 0 ok
    .val (if c.has permGL && a.has permGL then r else r.withPerms (setBitsAt r.perms permGL 1 0) ok)

/-- `CSEALENTRY` (R59). -/
def opCsealentry (c : Cap) : CapOut :=
  derive1 c (fun c => c.withOtype 0xFF01 (c.tag && c.otype == 0 && c.has permEX))

/-- An integer as the value of an inspection (R61). -/
def inspect (n : Nat) : CapOut := .val (intCap (BitVec.ofNat 64 n))

/-- `CGETBASE` (R61). -/
def opCgetbase (c : Cap) : CapOut := if c.malformed then .bad 1 else inspect c.base
/-- `CGETTOP` (R61). Above 2^64, which only an untagged value decodes to, the result is a free value (log 12). -/
def opCgettop (c : Cap) : CapOut :=
  if c.malformed then .bad 1
  else if 2 ^ 64 < c.top then .val (intCap (Config.topOver c.bits))
  else inspect (min c.top (2 ^ 64 - 1))
/-- `CGETLEN` (R61). -/
def opCgetlen (c : Cap) : CapOut := if c.malformed then .bad 1 else inspect (min (c.top - c.base) (2 ^ 64 - 1))

/-- The smallest exponent of a list that holds a length (R45). -/
def repExp (len : Nat) : List Nat → Nat
  | [] => 51
  | e :: es => if (len + 2 ^ e - 1) / 2 ^ e ≤ 8191 then e else repExp len es

/-- `CRRL` (R45). -/
def opCrrl (x : Word) : Word :=
  let e := repExp x.toNat (List.range 51)
  if e = 51 then 0 else BitVec.ofNat 64 (roundUp x.toNat e)

/-- `CRAM` (R45). -/
def opCram (x : Word) : Word :=
  let e := repExp x.toNat (List.range 51)
  if e = 51 then 0 else BitVec.ofNat 64 (2 ^ 64 - 2 ^ e)

end Sys2Proof.Machine
end

