-- ==== Sys2Proof/Machine/SylMeta.lean ====
section
/-!
DEFINITION. What the decoder knows of each syllable: its unit (R103), the registers it reads and writes (R116, R138, R182,
R205), its immediate (R107, R137), and whether it is a load (R133), fixed-point (R191), a sync point (R192, R206), solitary
(R110) or a control transfer (R108).
-/
namespace Sys2Proof.Machine
open Sys2Proof (Instr Imm)

/-- What the decoder knows of a syllable. Registers are numbered as dependencies: c n as n, p n as 32 + n, a n as 40 + n,
`LC`, `LS`, `LE` and `BKQ` as 44 to 47. -/
structure SylInfo where
  unit : Nat
  reads : List Nat
  writes : List Nat
  imm : Option Imm
  load : Bool
  arith : Bool
  sync : Bool
  solitary : Bool
  control : Bool
deriving DecidableEq, Repr

/-- The dependency that a special-register index counts as (R116, R124). -/
def srDep (sr : RegIx) : List Nat :=
  if sr = 3 then [47] else if sr = 4 then [44] else if sr = 5 then [45] else if sr = 6 then [46] else []

/-- What the decoder knows of a command, where it is a syllable. -/
def infoOf (i : Instr) : Option SylInfo :=
  match i with
  | .lb _ cd cs1 imm | .lbu _ cd cs1 imm | .lh _ cd cs1 imm | .lhu _ cd cs1 imm | .lw _ cd cs1 imm
  | .lwu _ cd cs1 imm | .ld _ cd cs1 imm | .clc _ cd cs1 imm =>
    some ⟨0, [cs1.toNat], [cd.toNat], some imm, true, false, false, false, false⟩
  | .sb _ cd cs1 imm | .sh _ cd cs1 imm | .sw _ cd cs1 imm | .sd _ cd cs1 imm | .csc _ cd cs1 imm =>
    some ⟨0, [cd.toNat, cs1.toNat], [], some imm, false, false, false, false, false⟩
  | .lbx _ cd cs1 cs2 | .lbux _ cd cs1 cs2 | .lhx _ cd cs1 cs2 | .lhux _ cd cs1 cs2 | .lwx _ cd cs1 cs2
  | .lwux _ cd cs1 cs2 | .ldx _ cd cs1 cs2 | .clcx _ cd cs1 cs2 =>
    some ⟨0, [cs1.toNat, cs2.toNat], [cd.toNat], none, true, false, false, false, false⟩
  | .sbx _ cd cs1 cs2 | .shx _ cd cs1 cs2 | .swx _ cd cs1 cs2 | .sdx _ cd cs1 cs2 | .cscx _ cd cs1 cs2 =>
    some ⟨0, [cd.toNat, cs1.toNat, cs2.toNat], [], none, false, false, false, false, false⟩
  | .lrcD _ cd cs1 | .lrcC _ cd cs1 =>
    some ⟨0, [cs1.toNat], [cd.toNat], none, true, false, false, false, false⟩
  | .sccD _ cd cs1 cs2 | .sccC _ cd cs1 cs2 | .csetaddr _ cd cs1 cs2 | .cincaddr _ cd cs1 cs2
  | .csetbounds _ cd cs1 cs2 | .csetboundsx _ cd cs1 cs2 | .candperm _ cd cs1 cs2 | .cseal _ cd cs1 cs2
  | .cunseal _ cd cs1 cs2 =>
    some ⟨0, [cs1.toNat, cs2.toNat], [cd.toNat], none, false, false, false, false, false⟩
  | .cmove _ cd cs1 | .ccleartag _ cd cs1 | .csealentry _ cd cs1 | .cgettag _ cd cs1 | .cgetperm _ cd cs1
  | .cgettype _ cd cs1 | .cgetaddr _ cd cs1 | .cgetbase _ cd cs1 | .cgettop _ cd cs1 | .cgetlen _ cd cs1
  | .crrl _ cd cs1 | .cram _ cd cs1 =>
    some ⟨0, [cs1.toNat], [cd.toNat], none, false, false, false, false, false⟩
  | .cincaddri _ cd cs1 imm =>
    some ⟨0, [cs1.toNat], [cd.toNat], some imm, false, false, false, false, false⟩
  | .add _ cd cs1 cs2 | .sub _ cd cs1 cs2 | .addv _ cd cs1 cs2 | .subv _ cd cs1 cs2 | .adds _ cd cs1 cs2
  | .subs _ cd cs1 cs2 | .and _ cd cs1 cs2 | .or _ cd cs1 cs2 | .xor _ cd cs1 cs2 | .andn _ cd cs1 cs2
  | .orn _ cd cs1 cs2 | .min _ cd cs1 cs2 | .max _ cd cs1 cs2 | .minu _ cd cs1 cs2 | .maxu _ cd cs1 cs2
  | .slt _ cd cs1 cs2 | .sltu _ cd cs1 cs2 | .sll _ cd cs1 cs2 | .srl _ cd cs1 cs2 | .sra _ cd cs1 cs2
  | .mul _ cd cs1 cs2 | .mulv _ cd cs1 cs2 | .muls _ cd cs1 cs2 | .mulh _ cd cs1 cs2 | .mulhu _ cd cs1 cs2
  | .div _ cd cs1 cs2 | .divu _ cd cs1 cs2 | .rem _ cd cs1 cs2 | .remu _ cd cs1 cs2 | .divs _ cd cs1 cs2 =>
    some ⟨1, [cs1.toNat, cs2.toNat], [cd.toNat], none, false, false, false, false, false⟩
  | .neg _ cd cs1 | .negs _ cd cs1 | .clz _ cd cs1 | .ctz _ cd cs1 | .popc _ cd cs1 | .sextb _ cd cs1
  | .sexth _ cd cs1 | .sextw _ cd cs1 | .zextw _ cd cs1 =>
    some ⟨1, [cs1.toNat], [cd.toNat], none, false, false, false, false, false⟩
  | .mfs _ cd sr cs2 =>
    some ⟨1, [cs2.toNat] ++ srDep sr, [cd.toNat], none, false, false, false, false, false⟩
  | .mts _ sr cs1 cs2 =>
    some ⟨1, [cs1.toNat, cs2.toNat], srDep sr, none, false, false, false, false, false⟩
  | .pand _ pd ps1 ps2 | .por _ pd ps1 ps2 | .pxor _ pd ps1 ps2 | .pandn _ pd ps1 ps2 =>
    some ⟨1, [32 + ps1.toNat, 32 + ps2.toNat], [32 + pd.toNat], none, false, false, false, false, false⟩
  | .pget _ cd =>
    some ⟨1, [33, 34, 35, 36, 37, 38, 39], [cd.toNat], none, false, false, false, false, false⟩
  | .pput _ cs1 =>
    some ⟨1, [cs1.toNat], [33, 34, 35, 36, 37, 38, 39], none, false, false, false, false, false⟩
  | .addi _ cd cs1 imm | .andi _ cd cs1 imm | .ori _ cd cs1 imm | .xori _ cd cs1 imm =>
    some ⟨1, [cs1.toNat], [cd.toNat], some imm, false, false, false, false, false⟩
  | .slli _ cd cs1 _ | .srli _ cd cs1 _ | .srai _ cd cs1 _ =>
    some ⟨1, [cs1.toNat], [cd.toNat], none, false, false, false, false, false⟩
  | .compare _ pd pc _ cs1 cs2 =>
    some ⟨1, [cs1.toNat, cs2.toNat], [32 + pd.toNat, 32 + pc.toNat], none, false, false, false, false, false⟩
  | .wadd _ cd cs1 cs2 | .wsub _ cd cs1 cs2 | .waddv _ cd cs1 cs2 | .wsubv _ cd cs1 cs2 | .wadds _ cd cs1 cs2
  | .wsubs _ cd cs1 cs2 | .wand _ cd cs1 cs2 | .wor _ cd cs1 cs2 | .wxor _ cd cs1 cs2 | .wsll _ cd cs1 cs2
  | .wsrl _ cd cs1 cs2 | .wsra _ cd cs1 cs2 | .wmul _ cd cs1 cs2 | .wmulv _ cd cs1 cs2 | .wmuls _ cd cs1 cs2
  | .wmulx _ cd cs1 cs2 | .wmulxu _ cd cs1 cs2 | .wdiv _ cd cs1 cs2 | .wrem _ cd cs1 cs2 | .wdivs _ cd cs1 cs2
  | .wpack _ cd cs1 cs2 =>
    some ⟨2, [cs1.toNat, cs2.toNat], [cd.toNat], none, false, false, false, false, false⟩
  | .wneg _ cd cs1 | .wnegs _ cd cs1 | .wsext _ cd cs1 | .wzext _ cd cs1 | .whi _ cd cs1 =>
    some ⟨2, [cs1.toNat], [cd.toNat], none, false, false, false, false, false⟩
  | .wslli _ cd cs1 _ | .wsrli _ cd cs1 _ | .wsrai _ cd cs1 _ =>
    some ⟨2, [cs1.toNat], [cd.toNat], none, false, false, false, false, false⟩
  | .waddi _ cd cs1 imm =>
    some ⟨2, [cs1.toNat], [cd.toNat], some imm, false, false, false, false, false⟩
  | .wideCompare _ pd pc _ cs1 cs2 =>
    some ⟨2, [cs1.toNat, cs2.toNat], [32 + pd.toNat, 32 + pc.toNat], none, false, false, false, false, false⟩
  | .aclr _ ad =>
    some ⟨3, [], [40 + ad.toNat], none, false, true, false, false, false⟩
  | .amova _ ad as_ =>
    some ⟨3, [40 + as_.toNat], [40 + ad.toNat], none, false, true, false, false, false⟩
  | .asetw _ ad cs1 | .asetx _ ad cs1 | .asetm _ ad cs1 =>
    some ⟨3, [cs1.toNat], [40 + ad.toNat], none, false, true, false, false, false⟩
  | .agetg _ cd as_ | .agetr _ cd as_ =>
    some ⟨3, [40 + as_.toNat], [cd.toNat], none, false, true, false, false, false⟩
  | .aneg _ ad =>
    some ⟨3, [40 + ad.toNat], [40 + ad.toNat], none, false, true, false, false, false⟩
  | .asetg _ ad cs1 | .aaddw _ ad cs1 | .asubw _ ad cs1 | .aaddq _ ad cs1 | .asubq _ ad cs1 =>
    some ⟨3, [cs1.toNat, 40 + ad.toNat], [40 + ad.toNat], none, false, true, false, false, false⟩
  | .qmul _ ad cs1 cs2 | .mmul _ ad cs1 cs2 =>
    some ⟨3, [cs1.toNat, cs2.toNat], [40 + ad.toNat], none, false, true, false, false, false⟩
  | .qmac _ ad cs1 cs2 | .qmsu _ ad cs1 cs2 | .mmac _ ad cs1 cs2 | .mmsu _ ad cs1 cs2 =>
    some ⟨3, [cs1.toNat, cs2.toNat, 40 + ad.toNat], [40 + ad.toNat], none, false, true, false, false, false⟩
  | .aadda _ ad as_ =>
    some ⟨3, [40 + as_.toNat, 40 + ad.toNat], [40 + ad.toNat], none, false, true, false, false, false⟩
  | .arndq _ cd as_ | .arndw _ cd as_ | .arndm _ cd as_ =>
    some ⟨3, [40 + as_.toNat, 47], [cd.toNat], none, false, true, false, false, false⟩
  | .ashrq _ cd as_ cs2 | .ashrw _ cd as_ cs2 =>
    some ⟨3, [40 + as_.toNat, cs2.toNat, 47], [cd.toNat], none, false, true, false, false, false⟩
  | .qadd _ cd cs1 cs2 | .qsub _ cd cs1 cs2 | .wqadd _ cd cs1 cs2 | .wqsub _ cd cs1 cs2 =>
    some ⟨3, [cs1.toNat, cs2.toNat], [cd.toNat], none, false, true, false, false, false⟩
  | .qmulr _ cd cs1 cs2 | .wqmulr _ cd cs1 cs2 | .qdiv _ cd cs1 cs2 | .wqdiv _ cd cs1 cs2 | .mdiv _ cd cs1 cs2 =>
    some ⟨3, [cs1.toNat, cs2.toNat, 47], [cd.toNat], none, false, true, false, false, false⟩
  | .qneg _ cd cs1 | .wqneg _ cd cs1 | .qtow _ cd cs1 =>
    some ⟨3, [cs1.toNat], [cd.toNat], none, false, true, false, false, false⟩
  | .wtoq _ cd cs1 | .mrnd _ cd cs1 | .mbrk _ cd cs1 | .mrndx _ cd cs1 =>
    some ⟨3, [cs1.toNat, 47], [cd.toNat], none, false, true, false, false, false⟩
  | .mscale _ cd cs1 cs2 =>
    some ⟨3, [cs1.toNat, cs2.toNat, cd.toNat, 47], [cd.toNat], none, false, true, false, false, false⟩
  | .mmulq _ cd cs1 =>
    some ⟨3, [cs1.toNat, cd.toNat, 47], [cd.toNat], none, false, true, false, false, false⟩
  | .fsync _ =>
    some ⟨3, [], [], none, false, false, true, true, false⟩
  | .tadd _ cd cs1 cs2 ca =>
    some ⟨3, [cs1.toNat, cs2.toNat, ca.toNat], [cd.toNat], none, false, false, false, false, false⟩
  | .tclose _ cd cs1 cs2 | .tread _ cd cs1 cs2 =>
    some ⟨3, [cs1.toNat, cs2.toNat], [cd.toNat], none, false, false, false, false, false⟩
  | .stm _ cs1 cs2 | .tlbinvVa _ cs1 cs2 | .walkinvVa _ cs1 cs2 =>
    some ⟨0, [cs1.toNat, cs2.toNat], [], none, false, false, false, true, false⟩
  | .ldm _ cs1 cs2 =>
    some ⟨0, [cs1.toNat, cs2.toNat], [], none, true, false, false, true, false⟩
  | .svctxU _ cd cs1 | .svctxL _ cd cs1 =>
    some ⟨0, [cd.toNat, cs1.toNat], [cd.toNat], none, false, false, false, true, false⟩
  | .ldctxU _ cd | .ldctxL _ cd =>
    some ⟨0, [cd.toNat], [cd.toNat], none, true, false, false, true, false⟩
  | .br _ imm =>
    some ⟨1, [], [], some imm, false, false, false, false, true⟩
  | .cjr _ cs1 =>
    some ⟨1, [cs1.toNat], [], none, false, false, false, false, true⟩
  | .cjalr _ cd cs1 =>
    some ⟨1, [cs1.toNat], [cd.toNat], none, false, false, false, false, true⟩
  | .callm _ cd cs1 cs2 imm =>
    some ⟨1, [cd.toNat, cs1.toNat, cs2.toNat, 2], [cd.toNat, 1, 2], some imm, false, false, false, true, true⟩
  | .callmR _ cd =>
    some ⟨1, [cd.toNat, 1, 2], [cd.toNat, 2], none, true, false, false, true, true⟩
  | .invoke _ cs1 =>
    some ⟨1, [cs1.toNat, 2, 3, 4, 5, 6, 7, 8, 9, 10, 11], [1, 2, 3, 12, 13, 14, 15, 28, 29, 30, 31], none, false, false, true, true, true⟩
  | .retg _ cs1 =>
    some ⟨1, [cs1.toNat], [1, 2, 3, 12, 13, 14, 15, 28, 29, 30, 31], none, false, false, true, true, true⟩
  | .rete _ =>
    some ⟨1, [], [], none, false, false, true, true, true⟩
  | .loop _ cs1 imm =>
    some ⟨1, [cs1.toNat], [44, 45, 46], some imm, false, false, false, false, true⟩
  | .repi _ cs1 | .repu _ cs1 =>
    some ⟨1, [cs1.toNat], [44], none, false, false, false, true, true⟩
  | .japp _ cd cs1 cs2 =>
    some ⟨0, [cs1.toNat, cs2.toNat], [cd.toNat], none, false, false, true, true, false⟩
  | .jseal _ cd cs1 =>
    some ⟨0, [cs1.toNat], [cd.toNat], none, false, false, true, true, false⟩
  | .draw _ cd cs1 cs2 =>
    some ⟨0, [cs1.toNat, cs2.toNat, 4, 5, 6], [cd.toNat], none, false, false, true, true, false⟩
  | .eclipse _ cd cs1 =>
    some ⟨0, [cs1.toNat], [cd.toNat], none, false, false, false, true, false⟩
  | .eclipseR _ cd cs1 cs2 =>
    some ⟨0, [cs1.toNat, cs2.toNat], [cd.toNat], none, false, false, false, true, false⟩
  | .msync _ | .iflush _ | .tlbinvAll _ | .walkinvAll _ =>
    some ⟨0, [], [], none, false, false, false, true, false⟩
  | .tlbinvAsid _ cs2 =>
    some ⟨0, [cs2.toNat], [], none, false, false, false, true, false⟩
  | .customSyllable _ _ cd cs1 cs2 =>
    some ⟨0, [cd.toNat, cs1.toNat, cs2.toNat], [cd.toNat, cs1.toNat, cs2.toNat], none, false, false, false, true, false⟩
  | _ => none

/-- Is a dependency counted: not c0, not p0 (R117)? -/
def counted (n : Nat) : Bool := !(n == 0) && !(n == 32)

/-- The registers that a syllable reads, c0 and p0 left out. -/
def SylInfo.readSet (i : SylInfo) : List Nat := i.reads.filter counted
/-- The registers that a syllable writes, c0 and p0 left out. -/
def SylInfo.writeSet (i : SylInfo) : List Nat := i.writes.filter counted

end Sys2Proof.Machine
end

