-- ==== Sys2Proof/Machine/Syl.lean ====
section
/-!
DEFINITION. How a pair executes one syllable: the conditions under which it may, its context, its end and its fault
(R15, R113, R133, R192, R206, R228).
-/
namespace Sys2Proof.Machine
open Sys2Proof (Instr)

/-- What a syllable does in its context: true says that it has set `PCC` itself or left the bank. A fault carries the state
that it leaves (R113). -/
abbrev Body := SCtx → State → Res Bool

/-- The bank that a pair's context executes from: it runs a context, is not halted, stopped or held by the debug port, and no
syllable holds it (R368, R471). -/
def State.liveBank (s : State) (p : Nat) : Option Nat :=
  let v := s.pair p
  match v.run with
  | none => none
  | some b =>
    if v.halt.isSome || v.stopped || v.failed || v.returning.isSome || (v.bank b).st == .waiting || s.dbgHaltOf p == 1 then none
    else some b

/-- The bank that a pair issues a syllable alone from: no pass and no enabled event comes first at its boundary (R228). -/
def State.execBank (s : State) (p : Nat) : Option Nat :=
  match s.liveBank p with
  | none => none
  | some b => if !s.apendDue p b && ((s.pair p).passReady || s.entryDue p) then none else some b

/-- The context of a syllable issued alone at the pair's `PCC`: its bundle is 4 bytes, or 8 with an X syllable. -/
def State.ctxFor (s : State) (p b : Nat) (i : SylInfo) : SCtx :=
  let a := (s.bank p b).pcc.addr
  let n := match i.imm with
    | some m => if immExt m then 8 else 4
    | none => 4
  ⟨p, b, a, addrOf ((a : Int) + (n : Nat)), i.unit⟩

/-- Does a syllable wait for a tally status: of a register that it names, or of any syllable at a sync point, with `AMODE.PA`
set or in DET (R194, R206, R297)? -/
def State.sylWaits (s : State) (p b : Nat) (i : SylInfo) : Bool :=
  ((i.sync || (s.bank p b).pa || (s.pair p).det) && s.tallyBusy p b) || (i.reads ++ i.writes).any (fun n => decide (0 < n) && decide (n < 32) && s.tallyHolds p b n)

/-- The running context executes: its delivery has been entered (R257), and it is no longer just resumed (R192). -/
def State.enter (s : State) (p b : Nat) : State :=
  (if (s.pair p).resumed then s.updPair p (fun v => { v with resumed := false }) else s).firstBundle p b

/-- A load's delay ends with the syllable after it (R133). -/
def State.endDelay (s : State) (p : Nat) : State :=
  if (s.pair p).delay.isEmpty then s else s.updPair p (fun v => { v with delay := [] })

/-- A single step of the debug port ends (R471). -/
def State.stepped (s : State) (p : Nat) : State := if s.dbgHaltOf p = 2 then s.setDbgHalt p 1 else s

/-- A fault of a syllable taken at its bundle: LAZY_STACK escalates (R195, R239); an ARITH entry clears `STATUS.APEND` (R192). -/
def State.faultOf (s : State) (p b : Nat) (f : PFault) (slot : Nat) (impr : Bool) : State :=
  if f.cause = lazyStack && !(s.bank p b).escd then
    (s.preempt p b).escalate p (some (.bank b)) ⟨none, none, none⟩
      { faultRec s p b f slot false with cause := escalation, detail := 0, reason := lazyStack }
  else
    (if f.cause = arith then s.updBank p b (fun k => k.stSet 5 1 0) else s).takeFault p b f slot impr

/-- ARITH raised at a resumption (R192): no one syllable raises it, so `SLOT` is free (log 13). -/
def State.apendFault (s : State) (p b : Nat) : State :=
  let u := s.fresh
  (u.2.updPair p (fun v => { v with resumed := false })).takeApend p b (Config.openSlot u.1).toNat

/-- One syllable of a pair, issued alone with its predicate true. True says that it completed. -/
def State.sylRun (s : State) (i : Instr) (p : Nat) (body : Body) : State × Bool :=
  match s.execBank p, infoOf i with
  | some b, some info =>
    if s.apendDue p b then (s.apendFault p b, false)
    else if s.sylWaits p b info then (s, true)
    else
      let s1 := s.enter p b
      match (if isSentinel p && info.unit == 3 then Res.flt (flt0 illegal) s1 else body (s1.ctxFor p b info) s1) with
      | .ok _ s2 => ((if info.load then s2 else s2.endDelay p).stepped p, true)
      | .flt f s2 =>
        if s.tallyBusy p b then (s, true)
        else ((s2.faultOf p b f info.unit (f.cause == arith && !info.arith)).stepped p, false)
  | _, _ => (s, true)

/-- The outcome of a syllable that reaches memory or a unit. -/
def runSyl (i : Instr) (p : Nat) (body : Body) (s : State) : Host.Outcome State Fault Refusal :=
  onUnit (decide (p < 104)) (fun s => (s.sylRun i p body).1) s

/-- The outcome of a syllable that only changes its pair, unless it faults; nothing executes it where the pair is absent
(log 1). -/
def runReg (i : Instr) (p : Nat) (body : Body) (s : State) : Host.Outcome State Fault Refusal :=
  if p < 104 then
    let r := { s with out := [] }.sylRun i p body
    .next (if r.2 then r.1 else State.cmd (fun _ => r.1) s)
  else .next (State.cmd (fun s => s) s)

/-- ILLEGAL raised by a syllable. -/
def illegalAt (s : State) : Res Bool := .flt (flt0 illegal) s

/-- Does the running `PCC` hold SY (R124)? -/
def State.holdsSy (s : State) (c : SCtx) : Bool := (s.bank c.pair c.bank).pcc.has permSY

/-- The failure of the guard SY: CAP_PERM of `PCC` (R124, R231). -/
def syFault (s : State) : Res Bool := .flt (fltD capPerm 4) s

/-- The bank that window syllables act on: the target of the open window, else the running bank (R272). -/
def State.winBank (s : State) (c : SCtx) : Nat :=
  let w := (s.pair c.pair).bankw.toNat
  if w.testBit 8 then bitsAt w 0 4 else c.bank

/-- May a window syllable act on its target bank (R273)? -/
def State.winOk (s : State) (c : SCtx) : Bool :=
  let t := s.winBank c
  t == c.bank
    || (match (s.bank c.pair t).st with
        | .free => false
        | .spilling => false
        | .filling => false
        | _ => true)

/-- `PCC` of a bank moved to a cursor: its tag stays where the cursor is representable (R40, R68). -/
def Bank.moveTo (k : Bank) (x : Nat) : Bank := { k with pcc := k.pcc.withAddr x (k.pcc.tag && k.pcc.representable x) }

/-- The bundle of a syllable retires: `PCC` moves past it, or the loop goes back (R165). `LC`, `LS` and `LE` are those of the
bank `k0` before the bundle; an `LC` that the bundle wrote stands from the next bundle on (R124; log 65). -/
def State.retireBundle (s : State) (c : SCtx) (k0 : Bank) (wroteLc : Bool) : State :=
  s.updBank c.pair c.bank (fun k =>
    let count (n : Word) : Bank := if wroteLc then k else { k with lc := n }
    if k0.le.toNat = c.pc then
      if 2 ≤ k0.lc.toNat then (count (k0.lc - 1)).moveTo k0.ls.toNat else (count 0).moveTo c.next
    else k.moveTo c.next)

/-- `PCC` set to a checked target: its `OTYPE` becomes 0 (R54). -/
def State.jumpTo (s : State) (c : SCtx) (t : Cap) : State :=
  s.updBank c.pair c.bank (fun k => { k with pcc := t.withOtype 0 true })

/-- A return sentry: the running `PCC` at the next bundle (R55). -/
def State.sentry (s : State) (c : SCtx) : Cap :=
  let k := (s.bank c.pair c.bank).pcc
  (k.withAddr c.next (k.tag && k.representable c.next)).withOtype 0xFF01 (k.tag && k.representable c.next)

/-- `PROG` back to 0 at a completion (R156). -/
def State.progDone (s : State) (c : SCtx) : State :=
  if (s.bank c.pair c.bank).prog = 0 then s else s.updBank c.pair c.bank (fun k => k.setProg 0)

/-- `PROG` names the slot at which a syllable stopped (R156). -/
def State.progAt (s : State) (c : SCtx) (n : Nat) : State := s.updBank c.pair c.bank (fun k => k.setProg n)

/-- Bank t as a syllable of the running bank reads its predicates and loop registers (R133, R272). -/
def State.seenOf (s : State) (c : SCtx) (t : Nat) : Bank := if t = c.bank then s.seen c.pair c.bank else s.bank c.pair t

/-- A sentinel's load: the next syllable still sees the old values of the registers loaded (R133). -/
def State.loaded (s : State) (c : SCtx) (olds : List (Nat × Cap)) : State :=
  if isSentinel c.pair then s.updPair c.pair (fun v => { v with delay := olds }) else s

end Sys2Proof.Machine
end

