-- ==== Sys2Proof/Machine/SylInt.lean ====
section
/-!
DEFINITION. Integer and predicate syllables (R138, R139, R141, R142): each syllable's own effect (`syl...`) and its meaning as a command (`exec...`).
-/
namespace Sys2Proof.Machine
open Sys2Proof (Instr Imm)

/-- The low 64 bits of a wide value. -/
def low64 (a : Wide) : Word := a.setWidth 64

/-- A syllable of two integer sources and an integer destination (R119, R139). -/
def intRR (f : Word → Word → Word × Flags) (cd cs1 cs2 : RegIx) : Body := fun c s =>
  let r := f (s.srcX c.pair c.bank cs1.toNat) (s.srcX c.pair c.bank cs2.toNat)
  .ok false ((s.setX c.pair c.bank cd.toNat r.1).addFlags c.pair c.bank r.2)

/-- A syllable of one integer source and an integer destination (R119, R139). -/
def intR (f : Word → Word × Flags) (cd cs1 : RegIx) : Body := fun c s =>
  let r := f (s.srcX c.pair c.bank cs1.toNat)
  .ok false ((s.setX c.pair c.bank cd.toNat r.1).addFlags c.pair c.bank r.2)

/-- A syllable of an integer source and an immediate (R137, R141). -/
def intRI (f : Word → Word → Word × Flags) (cd cs1 : RegIx) (imm : Imm) : Body :=
  intR (fun a => f a (BitVec.ofInt 64 (immVal imm))) cd cs1

/-- A syllable of two predicates and a predicate destination (R139). -/
def predRR (f : Bool → Bool → Bool) (pd ps1 ps2 : PredIx) : Body := fun c s =>
  let k := s.seen c.pair c.bank
  .ok false (s.updBank c.pair c.bank (fun k1 => k1.setPred pd.toNat (f (k.pred ps1.toNat) (k.pred ps2.toNat))))

/-- p0-p7 as an integer (R139). -/
def getPreds (cd : RegIx) : Body := fun c s =>
  .ok false (s.setX c.pair c.bank cd.toNat (((s.seen c.pair c.bank).preds ||| 1#8).setWidth 64))

/-- p1-p7 from an integer (R139). -/
def putPreds (cs1 : RegIx) : Body := fun c s =>
  let x := s.srcX c.pair c.bank cs1.toNat
  .ok false (s.updBank c.pair c.bank (fun k => { k with preds := x.setWidth 8 &&& 0xFE#8 }))

/-- A compare of the low w bits of two sources: the condition to pd, its complement to pc (R142). -/
def compareW (w : Nat) (pd pc : PredIx) (cond : BitVec 3) (cs1 cs2 : RegIx) : Body := fun c s =>
  let v := condHolds cond.toNat ((s.srcW c.pair c.bank cs1.toNat).setWidth w) ((s.srcW c.pair c.bank cs2.toNat).setWidth w)
  if pd = pc && !(pc == 0) then illegalAt s
  else .ok false (s.updBank c.pair c.bank (fun k => (k.setPred pd.toNat v).setPred pc.toNat (!v)))

/-- The effect of `ADD` (R139). -/
def sylAdd (cd : RegIx) (cs1 : RegIx) (cs2 : RegIx) : Body := intRR opAdd cd cs1 cs2

/-- ADD (R139). -/
def execAdd (p : Nat) (cd : RegIx) (cs1 : RegIx) (cs2 : RegIx) (s : State) : Host.Outcome State Fault Refusal :=
  runReg (.add p cd cs1 cs2) p (sylAdd cd cs1 cs2) s

/-- The effect of `SUB` (R139). -/
def sylSub (cd : RegIx) (cs1 : RegIx) (cs2 : RegIx) : Body := intRR opSub cd cs1 cs2

/-- SUB (R139). -/
def execSub (p : Nat) (cd : RegIx) (cs1 : RegIx) (cs2 : RegIx) (s : State) : Host.Outcome State Fault Refusal :=
  runReg (.sub p cd cs1 cs2) p (sylSub cd cs1 cs2) s

/-- The effect of `ADDV` (R139). -/
def sylAddv (cd : RegIx) (cs1 : RegIx) (cs2 : RegIx) : Body := intRR opAddV cd cs1 cs2

/-- ADDV (R139). -/
def execAddv (p : Nat) (cd : RegIx) (cs1 : RegIx) (cs2 : RegIx) (s : State) : Host.Outcome State Fault Refusal :=
  runReg (.addv p cd cs1 cs2) p (sylAddv cd cs1 cs2) s

/-- The effect of `SUBV` (R139). -/
def sylSubv (cd : RegIx) (cs1 : RegIx) (cs2 : RegIx) : Body := intRR opSubV cd cs1 cs2

/-- SUBV (R139). -/
def execSubv (p : Nat) (cd : RegIx) (cs1 : RegIx) (cs2 : RegIx) (s : State) : Host.Outcome State Fault Refusal :=
  runReg (.subv p cd cs1 cs2) p (sylSubv cd cs1 cs2) s

/-- The effect of `ADDS` (R139). -/
def sylAdds (cd : RegIx) (cs1 : RegIx) (cs2 : RegIx) : Body := intRR opAddS cd cs1 cs2

/-- ADDS (R139). -/
def execAdds (p : Nat) (cd : RegIx) (cs1 : RegIx) (cs2 : RegIx) (s : State) : Host.Outcome State Fault Refusal :=
  runReg (.adds p cd cs1 cs2) p (sylAdds cd cs1 cs2) s

/-- The effect of `SUBS` (R139). -/
def sylSubs (cd : RegIx) (cs1 : RegIx) (cs2 : RegIx) : Body := intRR opSubS cd cs1 cs2

/-- SUBS (R139). -/
def execSubs (p : Nat) (cd : RegIx) (cs1 : RegIx) (cs2 : RegIx) (s : State) : Host.Outcome State Fault Refusal :=
  runReg (.subs p cd cs1 cs2) p (sylSubs cd cs1 cs2) s

/-- The effect of `NEG` (R139). -/
def sylNeg (cd : RegIx) (cs1 : RegIx) : Body := intR opNeg cd cs1

/-- NEG (R139). -/
def execNeg (p : Nat) (cd : RegIx) (cs1 : RegIx) (s : State) : Host.Outcome State Fault Refusal :=
  runReg (.neg p cd cs1) p (sylNeg cd cs1) s

/-- The effect of `NEGS` (R139). -/
def sylNegs (cd : RegIx) (cs1 : RegIx) : Body := intR opNegS cd cs1

/-- NEGS (R139). -/
def execNegs (p : Nat) (cd : RegIx) (cs1 : RegIx) (s : State) : Host.Outcome State Fault Refusal :=
  runReg (.negs p cd cs1) p (sylNegs cd cs1) s

/-- The effect of `AND` (R139). -/
def sylAnd (cd : RegIx) (cs1 : RegIx) (cs2 : RegIx) : Body := intRR opAnd cd cs1 cs2

/-- AND (R139). -/
def execAnd (p : Nat) (cd : RegIx) (cs1 : RegIx) (cs2 : RegIx) (s : State) : Host.Outcome State Fault Refusal :=
  runReg (.and p cd cs1 cs2) p (sylAnd cd cs1 cs2) s

/-- The effect of `OR` (R139). -/
def sylOr (cd : RegIx) (cs1 : RegIx) (cs2 : RegIx) : Body := intRR opOr cd cs1 cs2

/-- OR (R139). -/
def execOr (p : Nat) (cd : RegIx) (cs1 : RegIx) (cs2 : RegIx) (s : State) : Host.Outcome State Fault Refusal :=
  runReg (.or p cd cs1 cs2) p (sylOr cd cs1 cs2) s

/-- The effect of `XOR` (R139). -/
def sylXor (cd : RegIx) (cs1 : RegIx) (cs2 : RegIx) : Body := intRR opXor cd cs1 cs2

/-- XOR (R139). -/
def execXor (p : Nat) (cd : RegIx) (cs1 : RegIx) (cs2 : RegIx) (s : State) : Host.Outcome State Fault Refusal :=
  runReg (.xor p cd cs1 cs2) p (sylXor cd cs1 cs2) s

/-- The effect of `ANDN` (R139). -/
def sylAndn (cd : RegIx) (cs1 : RegIx) (cs2 : RegIx) : Body := intRR opAndn cd cs1 cs2

/-- ANDN (R139). -/
def execAndn (p : Nat) (cd : RegIx) (cs1 : RegIx) (cs2 : RegIx) (s : State) : Host.Outcome State Fault Refusal :=
  runReg (.andn p cd cs1 cs2) p (sylAndn cd cs1 cs2) s

/-- The effect of `ORN` (R139). -/
def sylOrn (cd : RegIx) (cs1 : RegIx) (cs2 : RegIx) : Body := intRR opOrn cd cs1 cs2

/-- ORN (R139). -/
def execOrn (p : Nat) (cd : RegIx) (cs1 : RegIx) (cs2 : RegIx) (s : State) : Host.Outcome State Fault Refusal :=
  runReg (.orn p cd cs1 cs2) p (sylOrn cd cs1 cs2) s

/-- The effect of `MIN` (R139). -/
def sylMin (cd : RegIx) (cs1 : RegIx) (cs2 : RegIx) : Body := intRR opMin cd cs1 cs2

/-- MIN (R139). -/
def execMin (p : Nat) (cd : RegIx) (cs1 : RegIx) (cs2 : RegIx) (s : State) : Host.Outcome State Fault Refusal :=
  runReg (.min p cd cs1 cs2) p (sylMin cd cs1 cs2) s

/-- The effect of `MAX` (R139). -/
def sylMax (cd : RegIx) (cs1 : RegIx) (cs2 : RegIx) : Body := intRR opMax cd cs1 cs2

/-- MAX (R139). -/
def execMax (p : Nat) (cd : RegIx) (cs1 : RegIx) (cs2 : RegIx) (s : State) : Host.Outcome State Fault Refusal :=
  runReg (.max p cd cs1 cs2) p (sylMax cd cs1 cs2) s

/-- The effect of `MINU` (R139). -/
def sylMinu (cd : RegIx) (cs1 : RegIx) (cs2 : RegIx) : Body := intRR opMinu cd cs1 cs2

/-- MINU (R139). -/
def execMinu (p : Nat) (cd : RegIx) (cs1 : RegIx) (cs2 : RegIx) (s : State) : Host.Outcome State Fault Refusal :=
  runReg (.minu p cd cs1 cs2) p (sylMinu cd cs1 cs2) s

/-- The effect of `MAXU` (R139). -/
def sylMaxu (cd : RegIx) (cs1 : RegIx) (cs2 : RegIx) : Body := intRR opMaxu cd cs1 cs2

/-- MAXU (R139). -/
def execMaxu (p : Nat) (cd : RegIx) (cs1 : RegIx) (cs2 : RegIx) (s : State) : Host.Outcome State Fault Refusal :=
  runReg (.maxu p cd cs1 cs2) p (sylMaxu cd cs1 cs2) s

/-- The effect of `SLT` (R139). -/
def sylSlt (cd : RegIx) (cs1 : RegIx) (cs2 : RegIx) : Body := intRR opSlt cd cs1 cs2

/-- SLT (R139). -/
def execSlt (p : Nat) (cd : RegIx) (cs1 : RegIx) (cs2 : RegIx) (s : State) : Host.Outcome State Fault Refusal :=
  runReg (.slt p cd cs1 cs2) p (sylSlt cd cs1 cs2) s

/-- The effect of `SLTU` (R139). -/
def sylSltu (cd : RegIx) (cs1 : RegIx) (cs2 : RegIx) : Body := intRR opSltu cd cs1 cs2

/-- SLTU (R139). -/
def execSltu (p : Nat) (cd : RegIx) (cs1 : RegIx) (cs2 : RegIx) (s : State) : Host.Outcome State Fault Refusal :=
  runReg (.sltu p cd cs1 cs2) p (sylSltu cd cs1 cs2) s

/-- The effect of `CLZ` (R139). -/
def sylClz (cd : RegIx) (cs1 : RegIx) : Body := intR opClz cd cs1

/-- CLZ (R139). -/
def execClz (p : Nat) (cd : RegIx) (cs1 : RegIx) (s : State) : Host.Outcome State Fault Refusal :=
  runReg (.clz p cd cs1) p (sylClz cd cs1) s

/-- The effect of `CTZ` (R139). -/
def sylCtz (cd : RegIx) (cs1 : RegIx) : Body := intR opCtz cd cs1

/-- CTZ (R139). -/
def execCtz (p : Nat) (cd : RegIx) (cs1 : RegIx) (s : State) : Host.Outcome State Fault Refusal :=
  runReg (.ctz p cd cs1) p (sylCtz cd cs1) s

/-- The effect of `POPC` (R139). -/
def sylPopc (cd : RegIx) (cs1 : RegIx) : Body := intR opPopc cd cs1

/-- POPC (R139). -/
def execPopc (p : Nat) (cd : RegIx) (cs1 : RegIx) (s : State) : Host.Outcome State Fault Refusal :=
  runReg (.popc p cd cs1) p (sylPopc cd cs1) s

/-- The effect of `SEXTB` (R139). -/
def sylSextb (cd : RegIx) (cs1 : RegIx) : Body := intR (opSext 8) cd cs1

/-- SEXTB (R139). -/
def execSextb (p : Nat) (cd : RegIx) (cs1 : RegIx) (s : State) : Host.Outcome State Fault Refusal :=
  runReg (.sextb p cd cs1) p (sylSextb cd cs1) s

/-- The effect of `SEXTH` (R139). -/
def sylSexth (cd : RegIx) (cs1 : RegIx) : Body := intR (opSext 16) cd cs1

/-- SEXTH (R139). -/
def execSexth (p : Nat) (cd : RegIx) (cs1 : RegIx) (s : State) : Host.Outcome State Fault Refusal :=
  runReg (.sexth p cd cs1) p (sylSexth cd cs1) s

/-- The effect of `SEXTW` (R139). -/
def sylSextw (cd : RegIx) (cs1 : RegIx) : Body := intR (opSext 32) cd cs1

/-- SEXTW (R139). -/
def execSextw (p : Nat) (cd : RegIx) (cs1 : RegIx) (s : State) : Host.Outcome State Fault Refusal :=
  runReg (.sextw p cd cs1) p (sylSextw cd cs1) s

/-- The effect of `ZEXTW` (R139). -/
def sylZextw (cd : RegIx) (cs1 : RegIx) : Body := intR opZextw cd cs1

/-- ZEXTW (R139). -/
def execZextw (p : Nat) (cd : RegIx) (cs1 : RegIx) (s : State) : Host.Outcome State Fault Refusal :=
  runReg (.zextw p cd cs1) p (sylZextw cd cs1) s

/-- The effect of `PAND` (R139). -/
def sylPand (pd : PredIx) (ps1 : PredIx) (ps2 : PredIx) : Body := predRR (fun a b => a && b) pd ps1 ps2

/-- PAND (R139). -/
def execPand (p : Nat) (pd : PredIx) (ps1 : PredIx) (ps2 : PredIx) (s : State) : Host.Outcome State Fault Refusal :=
  runReg (.pand p pd ps1 ps2) p (sylPand pd ps1 ps2) s

/-- The effect of `POR` (R139). -/
def sylPor (pd : PredIx) (ps1 : PredIx) (ps2 : PredIx) : Body := predRR (fun a b => a || b) pd ps1 ps2

/-- POR (R139). -/
def execPor (p : Nat) (pd : PredIx) (ps1 : PredIx) (ps2 : PredIx) (s : State) : Host.Outcome State Fault Refusal :=
  runReg (.por p pd ps1 ps2) p (sylPor pd ps1 ps2) s

/-- The effect of `PXOR` (R139). -/
def sylPxor (pd : PredIx) (ps1 : PredIx) (ps2 : PredIx) : Body := predRR (fun a b => a != b) pd ps1 ps2

/-- PXOR (R139). -/
def execPxor (p : Nat) (pd : PredIx) (ps1 : PredIx) (ps2 : PredIx) (s : State) : Host.Outcome State Fault Refusal :=
  runReg (.pxor p pd ps1 ps2) p (sylPxor pd ps1 ps2) s

/-- The effect of `PANDN` (R139). -/
def sylPandn (pd : PredIx) (ps1 : PredIx) (ps2 : PredIx) : Body := predRR (fun a b => a && !b) pd ps1 ps2

/-- PANDN (R139). -/
def execPandn (p : Nat) (pd : PredIx) (ps1 : PredIx) (ps2 : PredIx) (s : State) : Host.Outcome State Fault Refusal :=
  runReg (.pandn p pd ps1 ps2) p (sylPandn pd ps1 ps2) s

/-- The effect of `PGET` (R139). -/
def sylPget (cd : RegIx) : Body := getPreds cd

/-- PGET (R139). -/
def execPget (p : Nat) (cd : RegIx) (s : State) : Host.Outcome State Fault Refusal :=
  runReg (.pget p cd) p (sylPget cd) s

/-- The effect of `PPUT` (R139). -/
def sylPput (cs1 : RegIx) : Body := putPreds cs1

/-- PPUT (R139). -/
def execPput (p : Nat) (cs1 : RegIx) (s : State) : Host.Outcome State Fault Refusal :=
  runReg (.pput p cs1) p (sylPput cs1) s

/-- The effect of `SLL` (R139). -/
def sylSll (cd : RegIx) (cs1 : RegIx) (cs2 : RegIx) : Body := intRR (fun a b => opSll a b.toNat) cd cs1 cs2

/-- SLL (R139). -/
def execSll (p : Nat) (cd : RegIx) (cs1 : RegIx) (cs2 : RegIx) (s : State) : Host.Outcome State Fault Refusal :=
  runReg (.sll p cd cs1 cs2) p (sylSll cd cs1 cs2) s

/-- The effect of `SRL` (R139). -/
def sylSrl (cd : RegIx) (cs1 : RegIx) (cs2 : RegIx) : Body := intRR (fun a b => opSrl a b.toNat) cd cs1 cs2

/-- SRL (R139). -/
def execSrl (p : Nat) (cd : RegIx) (cs1 : RegIx) (cs2 : RegIx) (s : State) : Host.Outcome State Fault Refusal :=
  runReg (.srl p cd cs1 cs2) p (sylSrl cd cs1 cs2) s

/-- The effect of `SRA` (R139). -/
def sylSra (cd : RegIx) (cs1 : RegIx) (cs2 : RegIx) : Body := intRR (fun a b => opSra a b.toNat) cd cs1 cs2

/-- SRA (R139). -/
def execSra (p : Nat) (cd : RegIx) (cs1 : RegIx) (cs2 : RegIx) (s : State) : Host.Outcome State Fault Refusal :=
  runReg (.sra p cd cs1 cs2) p (sylSra cd cs1 cs2) s

/-- The effect of `MUL` (R139). -/
def sylMul (cd : RegIx) (cs1 : RegIx) (cs2 : RegIx) : Body := intRR opMul cd cs1 cs2

/-- MUL (R139). -/
def execMul (p : Nat) (cd : RegIx) (cs1 : RegIx) (cs2 : RegIx) (s : State) : Host.Outcome State Fault Refusal :=
  runReg (.mul p cd cs1 cs2) p (sylMul cd cs1 cs2) s

/-- The effect of `MULV` (R139). -/
def sylMulv (cd : RegIx) (cs1 : RegIx) (cs2 : RegIx) : Body := intRR opMulV cd cs1 cs2

/-- MULV (R139). -/
def execMulv (p : Nat) (cd : RegIx) (cs1 : RegIx) (cs2 : RegIx) (s : State) : Host.Outcome State Fault Refusal :=
  runReg (.mulv p cd cs1 cs2) p (sylMulv cd cs1 cs2) s

/-- The effect of `MULS` (R139). -/
def sylMuls (cd : RegIx) (cs1 : RegIx) (cs2 : RegIx) : Body := intRR opMulS cd cs1 cs2

/-- MULS (R139). -/
def execMuls (p : Nat) (cd : RegIx) (cs1 : RegIx) (cs2 : RegIx) (s : State) : Host.Outcome State Fault Refusal :=
  runReg (.muls p cd cs1 cs2) p (sylMuls cd cs1 cs2) s

/-- The effect of `MULH` (R139). -/
def sylMulh (cd : RegIx) (cs1 : RegIx) (cs2 : RegIx) : Body := intRR opMulh cd cs1 cs2

/-- MULH (R139). -/
def execMulh (p : Nat) (cd : RegIx) (cs1 : RegIx) (cs2 : RegIx) (s : State) : Host.Outcome State Fault Refusal :=
  runReg (.mulh p cd cs1 cs2) p (sylMulh cd cs1 cs2) s

/-- The effect of `MULHU` (R139). -/
def sylMulhu (cd : RegIx) (cs1 : RegIx) (cs2 : RegIx) : Body := intRR opMulhu cd cs1 cs2

/-- MULHU (R139). -/
def execMulhu (p : Nat) (cd : RegIx) (cs1 : RegIx) (cs2 : RegIx) (s : State) : Host.Outcome State Fault Refusal :=
  runReg (.mulhu p cd cs1 cs2) p (sylMulhu cd cs1 cs2) s

/-- The effect of `DIV` (R140). -/
def sylDiv (cd : RegIx) (cs1 : RegIx) (cs2 : RegIx) : Body := intRR opDiv cd cs1 cs2

/-- DIV (R140). -/
def execDiv (p : Nat) (cd : RegIx) (cs1 : RegIx) (cs2 : RegIx) (s : State) : Host.Outcome State Fault Refusal :=
  runReg (.div p cd cs1 cs2) p (sylDiv cd cs1 cs2) s

/-- The effect of `DIVU` (R140). -/
def sylDivu (cd : RegIx) (cs1 : RegIx) (cs2 : RegIx) : Body := intRR opDivu cd cs1 cs2

/-- DIVU (R140). -/
def execDivu (p : Nat) (cd : RegIx) (cs1 : RegIx) (cs2 : RegIx) (s : State) : Host.Outcome State Fault Refusal :=
  runReg (.divu p cd cs1 cs2) p (sylDivu cd cs1 cs2) s

/-- The effect of `REM` (R140). -/
def sylRem (cd : RegIx) (cs1 : RegIx) (cs2 : RegIx) : Body := intRR opRem cd cs1 cs2

/-- REM (R140). -/
def execRem (p : Nat) (cd : RegIx) (cs1 : RegIx) (cs2 : RegIx) (s : State) : Host.Outcome State Fault Refusal :=
  runReg (.rem p cd cs1 cs2) p (sylRem cd cs1 cs2) s

/-- The effect of `REMU` (R140). -/
def sylRemu (cd : RegIx) (cs1 : RegIx) (cs2 : RegIx) : Body := intRR opRemu cd cs1 cs2

/-- REMU (R140). -/
def execRemu (p : Nat) (cd : RegIx) (cs1 : RegIx) (cs2 : RegIx) (s : State) : Host.Outcome State Fault Refusal :=
  runReg (.remu p cd cs1 cs2) p (sylRemu cd cs1 cs2) s

/-- The effect of `DIVS` (R140). -/
def sylDivs (cd : RegIx) (cs1 : RegIx) (cs2 : RegIx) : Body := intRR opDivS cd cs1 cs2

/-- DIVS (R140). -/
def execDivs (p : Nat) (cd : RegIx) (cs1 : RegIx) (cs2 : RegIx) (s : State) : Host.Outcome State Fault Refusal :=
  runReg (.divs p cd cs1 cs2) p (sylDivs cd cs1 cs2) s

/-- The effect of `ADDI` (R141). -/
def sylAddi (cd : RegIx) (cs1 : RegIx) (imm : Imm) : Body := intRI opAdd cd cs1 imm

/-- ADDI (R141). -/
def execAddi (p : Nat) (cd : RegIx) (cs1 : RegIx) (imm : Imm) (s : State) : Host.Outcome State Fault Refusal :=
  runReg (.addi p cd cs1 imm) p (sylAddi cd cs1 imm) s

/-- The effect of `ANDI` (R141). -/
def sylAndi (cd : RegIx) (cs1 : RegIx) (imm : Imm) : Body := intRI opAnd cd cs1 imm

/-- ANDI (R141). -/
def execAndi (p : Nat) (cd : RegIx) (cs1 : RegIx) (imm : Imm) (s : State) : Host.Outcome State Fault Refusal :=
  runReg (.andi p cd cs1 imm) p (sylAndi cd cs1 imm) s

/-- The effect of `ORI` (R141). -/
def sylOri (cd : RegIx) (cs1 : RegIx) (imm : Imm) : Body := intRI opOr cd cs1 imm

/-- ORI (R141). -/
def execOri (p : Nat) (cd : RegIx) (cs1 : RegIx) (imm : Imm) (s : State) : Host.Outcome State Fault Refusal :=
  runReg (.ori p cd cs1 imm) p (sylOri cd cs1 imm) s

/-- The effect of `XORI` (R141). -/
def sylXori (cd : RegIx) (cs1 : RegIx) (imm : Imm) : Body := intRI opXor cd cs1 imm

/-- XORI (R141). -/
def execXori (p : Nat) (cd : RegIx) (cs1 : RegIx) (imm : Imm) (s : State) : Host.Outcome State Fault Refusal :=
  runReg (.xori p cd cs1 imm) p (sylXori cd cs1 imm) s

/-- The effect of `SLLI` (R141). -/
def sylSlli (cd : RegIx) (cs1 : RegIx) (amt : BitVec 6) : Body := intR (fun a => opSll a amt.toNat) cd cs1

/-- SLLI (R141). -/
def execSlli (p : Nat) (cd : RegIx) (cs1 : RegIx) (amt : BitVec 6) (s : State) : Host.Outcome State Fault Refusal :=
  runReg (.slli p cd cs1 amt) p (sylSlli cd cs1 amt) s

/-- The effect of `SRLI` (R141). -/
def sylSrli (cd : RegIx) (cs1 : RegIx) (amt : BitVec 6) : Body := intR (fun a => opSrl a amt.toNat) cd cs1

/-- SRLI (R141). -/
def execSrli (p : Nat) (cd : RegIx) (cs1 : RegIx) (amt : BitVec 6) (s : State) : Host.Outcome State Fault Refusal :=
  runReg (.srli p cd cs1 amt) p (sylSrli cd cs1 amt) s

/-- The effect of `SRAI` (R141). -/
def sylSrai (cd : RegIx) (cs1 : RegIx) (amt : BitVec 6) : Body := intR (fun a => opSra a amt.toNat) cd cs1

/-- SRAI (R141). -/
def execSrai (p : Nat) (cd : RegIx) (cs1 : RegIx) (amt : BitVec 6) (s : State) : Host.Outcome State Fault Refusal :=
  runReg (.srai p cd cs1 amt) p (sylSrai cd cs1 amt) s

/-- The effect of `COMPARE` (R142). -/
def sylCompare (pd : PredIx) (pc : PredIx) (cond : BitVec 3) (cs1 : RegIx) (cs2 : RegIx) : Body := compareW 64 pd pc cond cs1 cs2

/-- COMPARE (R142). -/
def execCompare (p : Nat) (pd : PredIx) (pc : PredIx) (cond : BitVec 3) (cs1 : RegIx) (cs2 : RegIx) (s : State) : Host.Outcome State Fault Refusal :=
  runReg (.compare p pd pc cond cs1 cs2) p (sylCompare pd pc cond cs1 cs2) s

end Sys2Proof.Machine
end

