-- ==== Sys2Proof/Machine/SylSpecial.lean ====
section
/-!
DEFINITION. Special-register syllables (R124-R132): each syllable's own effect (`syl...`) and its meaning as a command (`exec...`).
-/
namespace Sys2Proof.Machine
open Sys2Proof (Instr Imm)

/-- Is a special-register index absent or reserved for a pair (R124, R132)? -/
def srAbsent (p : Nat) (sr : RegIx) : Bool := decide (12 < sr.toNat) || (isSentinel p && (sr == 3 || sr == 11))

/-- The special registers that an open window redirects (R272). -/
def srWindowed (sr : RegIx) : Bool := decide (sr.toNat ≤ 6) || sr == 8 || sr == 12

/-- The bank whose special register a syllable names (R272). -/
def State.srBank (s : State) (c : SCtx) (sr : RegIx) : Nat := if srWindowed sr then s.winBank c else c.bank

/-- The value of a special register (R124, R125); bank t is the one named. -/
def State.srRead (s : State) (c : SCtx) (t : Nat) (sr : RegIx) : Cap :=
  let v := s.pair c.pair
  let k := s.seenOf c t
  match sr.toNat with
  | 0 => k.pcc
  | 1 => intCap (s.statusOf c.pair t)
  | 2 => intCap k.amode
  | 3 => intCap k.bkq
  | 4 => intCap k.lc
  | 5 => intCap k.ls
  | 6 => intCap k.le
  | 7 => intCap v.ctxcfg
  | 8 => k.tsbc
  | 9 => v.escc
  | 10 => v.essc
  | 11 => intCap v.bankw
  | _ => intCap k.ttbc

/-- The special registers whose read needs SY (R124). -/
def srReadGuard (sr : RegIx) : Bool := sr == 8 || sr == 9 || sr == 10 || sr == 12
/-- The special registers whose write needs SY (R124). -/
def srWriteGuard (sr : RegIx) : Bool := srReadGuard sr || sr == 7
/-- The special registers whose write needs the authority BW in cs2 (R124). -/
def srBwGuard (sr : RegIx) : Bool := sr == 0 || sr == 11

/-- `MFS` (R124, R125): ILLEGAL for an absent register or a non-zero cs2, then the guard, then the value. -/
def mfs (cd sr cs2 : RegIx) : Body := fun c s =>
  if srAbsent c.pair sr || !(cs2 == 0) || (srWindowed sr && !s.winOk c) then illegalAt s
  else if srReadGuard sr && !s.holdsSy c then syFault s
  else .ok false (s.setReg c.pair c.bank cd.toNat (s.srRead c (s.srBank c sr) sr))

/-- The guard BW on an authority in cs2 (R124); a malformed one fails its first use (R38). -/
def bwCheck (a : Cap) : Option Nat :=
  if a.malformed then some capMalformed else if !a.tag then some capTag else if !(a.otype == 0) then some capSeal else if !a.has permBW then some capPerm else none

/-- The bits of `STATUS` that a write reaches (R126, R225): a sentinel's DET reads 0 (R132). -/
def statusMask (p : Nat) (sy : Bool) : Word :=
  if !sy then 1 else if isSentinel p then 0xFFFFFFFFFF000001 else 0xFFFFFFFFFF000003

/-- The bits of `AMODE` that a write reaches (R129, R132): a reserved RM leaves RM unchanged. -/
def amodeMask (p : Nat) (x : Word) : Word :=
  if isSentinel p then 0x900 else if 6 ≤ bitsAt x.toNat 0 3 then 0x1F18 else 0x1F1F

/-- A mode write: after the mode shadow (R286), or from the next syllable on a sentinel (R132). -/
def State.modeWrite (s : State) (p : Nat) (w : ShadowWrite) : State :=
  if isSentinel p then s.updPair p (fun v => maskUpdate s.clk (applyShadow v w))
  else s.updPair p (fun v => { v with shadow := v.shadow ++ [w] })

/-- A write of `STATUS` (R126, R225): the bank's part through the shadow, or at once into a window bank (R272); DET is the
pair's and always takes the shadow (R297; log 15). -/
def State.writeStatus (s : State) (c : SCtx) (t : Nat) (x mask : Word) : State :=
  if t = c.bank then s.modeWrite c.pair ⟨.status, t, x, mask, 3⟩
  else
    let s1 := s.updBank c.pair t (fun k => { k with status := merge k.status x (mask &&& ~~~(2#64)) })
    if mask.getLsbD 1 then s1.modeWrite c.pair ⟨.status, t, x, 2, 3⟩ else s1

/-- A write of another register that R286 shadows. -/
def State.writeMode (s : State) (c : SCtx) (t : Nat) (r : ShadowReg) (x mask : Word) : State :=
  if t = c.bank then s.modeWrite c.pair ⟨r, t, x, mask, 3⟩
  else s.updPair c.pair (fun v => applyShadow v ⟨r, t, x, mask, 0⟩)

/-- A special register written from x[cs1], or from c[cs1] for a capability register (R125, R129). -/
def State.srWrite (s : State) (c : SCtx) (t : Nat) (sr : RegIx) (v : Cap) : State :=
  let x := low64 v.bits
  match sr.toNat with
  | 0 => s.updBank c.pair t (fun k => (({ k with pcc := v.withOtype 0 true }).setProg 0).stSet 6 2 0)
  | 1 => s.writeStatus c t x (statusMask c.pair (s.holdsSy c))
  | 2 => s.writeMode c t .amode x (amodeMask c.pair x)
  | 3 => if x = 0 then s else s.updBank c.pair t (fun k => { k with bkq := x })
  | 4 => s.updBank c.pair t (fun k => { k with lc := x })
  | 5 => s.updBank c.pair t (fun k => { k with ls := x })
  | 6 => s.updBank c.pair t (fun k => { k with le := x })
  | 7 => s.writeMode c c.bank .ctxcfg x 1
  | 8 => s.updBank c.pair t (fun k => { k with tsbc := v })
  | 9 => s.updPair c.pair (fun q => { q with escc := v })
  | 10 => s.updPair c.pair (fun q => { q with essc := v })
  | 11 => s.writeMode c c.bank .bankw x 0x10F
  | _ => s.writeMode c t .ttbc x 0x0FFFFFFFFFFFF001

/-- `MTS` (R124-R127): ILLEGAL, the guard, for `PCC` the target checks, then the write. -/
def mts (sr cs1 cs2 : RegIx) : Body := fun c s =>
  let v := s.src c.pair c.bank cs1.toNat
  let a := s.src c.pair c.bank cs2.toNat
  let t := s.srBank c sr
  if srAbsent c.pair sr || (!srBwGuard sr && !(cs2 == 0)) || (sr == 0 && t == c.bank) || (srWindowed sr && !s.winOk c) then
    illegalAt s
  else if srWriteGuard sr && !s.holdsSy c then syFault s
  else
    match (if srBwGuard sr then bwCheck a else none) with
    | some k => .flt (fltD k 2) s
    | none =>
      match (if sr = 0 then checkTarget v else none) with
      | some k => .flt (targetFault k 1 v.addr) s
      | none => .ok false (s.srWrite c t sr v)

/-- The effect of `MFS` (R125). -/
def sylMfs (cd : RegIx) (sr : RegIx) (cs2 : RegIx) : Body := mfs cd sr cs2

/-- MFS (R125). -/
def execMfs (p : Nat) (cd : RegIx) (sr : RegIx) (cs2 : RegIx) (s : State) : Host.Outcome State Fault Refusal :=
  runReg (.mfs p cd sr cs2) p (sylMfs cd sr cs2) s

/-- The effect of `MTS` (R125). -/
def sylMts (sr : RegIx) (cs1 : RegIx) (cs2 : RegIx) : Body := mts sr cs1 cs2

/-- MTS (R125). -/
def execMts (p : Nat) (sr : RegIx) (cs1 : RegIx) (cs2 : RegIx) (s : State) : Host.Outcome State Fault Refusal :=
  runSyl (.mts p sr cs1 cs2) p (sylMts sr cs1 cs2) s

end Sys2Proof.Machine
end

