-- ==== Sys2Proof/Machine/SylWide.lean ====
section
/-!
DEFINITION. Wide syllables (R120, R143): each syllable's own effect (`syl...`) and its meaning as a command (`exec...`).
-/
namespace Sys2Proof.Machine
open Sys2Proof (Instr Imm)

/-- A syllable of two wide sources and a wide destination (R120, R143). -/
def wideRR (f : Wide → Wide → Wide × Flags) (cd cs1 cs2 : RegIx) : Body := fun c s =>
  let r := f (s.srcW c.pair c.bank cs1.toNat) (s.srcW c.pair c.bank cs2.toNat)
  .ok false ((s.setW c.pair c.bank cd.toNat r.1).addFlags c.pair c.bank r.2)

/-- A syllable of one wide source and a wide destination (R120, R143). -/
def wideR (f : Wide → Wide × Flags) (cd cs1 : RegIx) : Body := fun c s =>
  let r := f (s.srcW c.pair c.bank cs1.toNat)
  .ok false ((s.setW c.pair c.bank cd.toNat r.1).addFlags c.pair c.bank r.2)

/-- The upper half of a wide value as an integer (R143). -/
def wideHi (cd cs1 : RegIx) : Body := fun c s =>
  .ok false (s.setX c.pair c.bank cd.toNat ((s.srcW c.pair c.bank cs1.toNat >>> 64).setWidth 64))

/-- The effect of `WADD` (R143). -/
def sylWadd (cd : RegIx) (cs1 : RegIx) (cs2 : RegIx) : Body := wideRR opAdd cd cs1 cs2

/-- WADD (R143). -/
def execWadd (p : Nat) (cd : RegIx) (cs1 : RegIx) (cs2 : RegIx) (s : State) : Host.Outcome State Fault Refusal :=
  runReg (.wadd p cd cs1 cs2) p (sylWadd cd cs1 cs2) s

/-- The effect of `WSUB` (R143). -/
def sylWsub (cd : RegIx) (cs1 : RegIx) (cs2 : RegIx) : Body := wideRR opSub cd cs1 cs2

/-- WSUB (R143). -/
def execWsub (p : Nat) (cd : RegIx) (cs1 : RegIx) (cs2 : RegIx) (s : State) : Host.Outcome State Fault Refusal :=
  runReg (.wsub p cd cs1 cs2) p (sylWsub cd cs1 cs2) s

/-- The effect of `WADDV` (R143). -/
def sylWaddv (cd : RegIx) (cs1 : RegIx) (cs2 : RegIx) : Body := wideRR opAddV cd cs1 cs2

/-- WADDV (R143). -/
def execWaddv (p : Nat) (cd : RegIx) (cs1 : RegIx) (cs2 : RegIx) (s : State) : Host.Outcome State Fault Refusal :=
  runReg (.waddv p cd cs1 cs2) p (sylWaddv cd cs1 cs2) s

/-- The effect of `WSUBV` (R143). -/
def sylWsubv (cd : RegIx) (cs1 : RegIx) (cs2 : RegIx) : Body := wideRR opSubV cd cs1 cs2

/-- WSUBV (R143). -/
def execWsubv (p : Nat) (cd : RegIx) (cs1 : RegIx) (cs2 : RegIx) (s : State) : Host.Outcome State Fault Refusal :=
  runReg (.wsubv p cd cs1 cs2) p (sylWsubv cd cs1 cs2) s

/-- The effect of `WADDS` (R143). -/
def sylWadds (cd : RegIx) (cs1 : RegIx) (cs2 : RegIx) : Body := wideRR opAddS cd cs1 cs2

/-- WADDS (R143). -/
def execWadds (p : Nat) (cd : RegIx) (cs1 : RegIx) (cs2 : RegIx) (s : State) : Host.Outcome State Fault Refusal :=
  runReg (.wadds p cd cs1 cs2) p (sylWadds cd cs1 cs2) s

/-- The effect of `WSUBS` (R143). -/
def sylWsubs (cd : RegIx) (cs1 : RegIx) (cs2 : RegIx) : Body := wideRR opSubS cd cs1 cs2

/-- WSUBS (R143). -/
def execWsubs (p : Nat) (cd : RegIx) (cs1 : RegIx) (cs2 : RegIx) (s : State) : Host.Outcome State Fault Refusal :=
  runReg (.wsubs p cd cs1 cs2) p (sylWsubs cd cs1 cs2) s

/-- The effect of `WNEG` (R143). -/
def sylWneg (cd : RegIx) (cs1 : RegIx) : Body := wideR opNeg cd cs1

/-- WNEG (R143). -/
def execWneg (p : Nat) (cd : RegIx) (cs1 : RegIx) (s : State) : Host.Outcome State Fault Refusal :=
  runReg (.wneg p cd cs1) p (sylWneg cd cs1) s

/-- The effect of `WNEGS` (R143). -/
def sylWnegs (cd : RegIx) (cs1 : RegIx) : Body := wideR opNegS cd cs1

/-- WNEGS (R143). -/
def execWnegs (p : Nat) (cd : RegIx) (cs1 : RegIx) (s : State) : Host.Outcome State Fault Refusal :=
  runReg (.wnegs p cd cs1) p (sylWnegs cd cs1) s

/-- The effect of `WAND` (R143). -/
def sylWand (cd : RegIx) (cs1 : RegIx) (cs2 : RegIx) : Body := wideRR opAnd cd cs1 cs2

/-- WAND (R143). -/
def execWand (p : Nat) (cd : RegIx) (cs1 : RegIx) (cs2 : RegIx) (s : State) : Host.Outcome State Fault Refusal :=
  runReg (.wand p cd cs1 cs2) p (sylWand cd cs1 cs2) s

/-- The effect of `WOR` (R143). -/
def sylWor (cd : RegIx) (cs1 : RegIx) (cs2 : RegIx) : Body := wideRR opOr cd cs1 cs2

/-- WOR (R143). -/
def execWor (p : Nat) (cd : RegIx) (cs1 : RegIx) (cs2 : RegIx) (s : State) : Host.Outcome State Fault Refusal :=
  runReg (.wor p cd cs1 cs2) p (sylWor cd cs1 cs2) s

/-- The effect of `WXOR` (R143). -/
def sylWxor (cd : RegIx) (cs1 : RegIx) (cs2 : RegIx) : Body := wideRR opXor cd cs1 cs2

/-- WXOR (R143). -/
def execWxor (p : Nat) (cd : RegIx) (cs1 : RegIx) (cs2 : RegIx) (s : State) : Host.Outcome State Fault Refusal :=
  runReg (.wxor p cd cs1 cs2) p (sylWxor cd cs1 cs2) s

/-- The effect of `WSLL` (R143). -/
def sylWsll (cd : RegIx) (cs1 : RegIx) (cs2 : RegIx) : Body := wideRR (fun a b => opSll a (low64 b).toNat) cd cs1 cs2

/-- WSLL (R143). -/
def execWsll (p : Nat) (cd : RegIx) (cs1 : RegIx) (cs2 : RegIx) (s : State) : Host.Outcome State Fault Refusal :=
  runReg (.wsll p cd cs1 cs2) p (sylWsll cd cs1 cs2) s

/-- The effect of `WSRL` (R143). -/
def sylWsrl (cd : RegIx) (cs1 : RegIx) (cs2 : RegIx) : Body := wideRR (fun a b => opSrl a (low64 b).toNat) cd cs1 cs2

/-- WSRL (R143). -/
def execWsrl (p : Nat) (cd : RegIx) (cs1 : RegIx) (cs2 : RegIx) (s : State) : Host.Outcome State Fault Refusal :=
  runReg (.wsrl p cd cs1 cs2) p (sylWsrl cd cs1 cs2) s

/-- The effect of `WSRA` (R143). -/
def sylWsra (cd : RegIx) (cs1 : RegIx) (cs2 : RegIx) : Body := wideRR (fun a b => opSra a (low64 b).toNat) cd cs1 cs2

/-- WSRA (R143). -/
def execWsra (p : Nat) (cd : RegIx) (cs1 : RegIx) (cs2 : RegIx) (s : State) : Host.Outcome State Fault Refusal :=
  runReg (.wsra p cd cs1 cs2) p (sylWsra cd cs1 cs2) s

/-- The effect of `WMUL` (R143). -/
def sylWmul (cd : RegIx) (cs1 : RegIx) (cs2 : RegIx) : Body := wideRR opMul cd cs1 cs2

/-- WMUL (R143). -/
def execWmul (p : Nat) (cd : RegIx) (cs1 : RegIx) (cs2 : RegIx) (s : State) : Host.Outcome State Fault Refusal :=
  runReg (.wmul p cd cs1 cs2) p (sylWmul cd cs1 cs2) s

/-- The effect of `WMULV` (R143). -/
def sylWmulv (cd : RegIx) (cs1 : RegIx) (cs2 : RegIx) : Body := wideRR opMulV cd cs1 cs2

/-- WMULV (R143). -/
def execWmulv (p : Nat) (cd : RegIx) (cs1 : RegIx) (cs2 : RegIx) (s : State) : Host.Outcome State Fault Refusal :=
  runReg (.wmulv p cd cs1 cs2) p (sylWmulv cd cs1 cs2) s

/-- The effect of `WMULS` (R143). -/
def sylWmuls (cd : RegIx) (cs1 : RegIx) (cs2 : RegIx) : Body := wideRR opMulS cd cs1 cs2

/-- WMULS (R143). -/
def execWmuls (p : Nat) (cd : RegIx) (cs1 : RegIx) (cs2 : RegIx) (s : State) : Host.Outcome State Fault Refusal :=
  runReg (.wmuls p cd cs1 cs2) p (sylWmuls cd cs1 cs2) s

/-- The effect of `WMULX` (R143). -/
def sylWmulx (cd : RegIx) (cs1 : RegIx) (cs2 : RegIx) : Body := wideRR (fun a b => opMulx (low64 a) (low64 b)) cd cs1 cs2

/-- WMULX (R143). -/
def execWmulx (p : Nat) (cd : RegIx) (cs1 : RegIx) (cs2 : RegIx) (s : State) : Host.Outcome State Fault Refusal :=
  runReg (.wmulx p cd cs1 cs2) p (sylWmulx cd cs1 cs2) s

/-- The effect of `WMULXU` (R143). -/
def sylWmulxu (cd : RegIx) (cs1 : RegIx) (cs2 : RegIx) : Body := wideRR (fun a b => opMulxu (low64 a) (low64 b)) cd cs1 cs2

/-- WMULXU (R143). -/
def execWmulxu (p : Nat) (cd : RegIx) (cs1 : RegIx) (cs2 : RegIx) (s : State) : Host.Outcome State Fault Refusal :=
  runReg (.wmulxu p cd cs1 cs2) p (sylWmulxu cd cs1 cs2) s

/-- The effect of `WDIV` (R143). -/
def sylWdiv (cd : RegIx) (cs1 : RegIx) (cs2 : RegIx) : Body := wideRR opDiv cd cs1 cs2

/-- WDIV (R143). -/
def execWdiv (p : Nat) (cd : RegIx) (cs1 : RegIx) (cs2 : RegIx) (s : State) : Host.Outcome State Fault Refusal :=
  runReg (.wdiv p cd cs1 cs2) p (sylWdiv cd cs1 cs2) s

/-- The effect of `WREM` (R143). -/
def sylWrem (cd : RegIx) (cs1 : RegIx) (cs2 : RegIx) : Body := wideRR opRem cd cs1 cs2

/-- WREM (R143). -/
def execWrem (p : Nat) (cd : RegIx) (cs1 : RegIx) (cs2 : RegIx) (s : State) : Host.Outcome State Fault Refusal :=
  runReg (.wrem p cd cs1 cs2) p (sylWrem cd cs1 cs2) s

/-- The effect of `WDIVS` (R143). -/
def sylWdivs (cd : RegIx) (cs1 : RegIx) (cs2 : RegIx) : Body := wideRR opDivS cd cs1 cs2

/-- WDIVS (R143). -/
def execWdivs (p : Nat) (cd : RegIx) (cs1 : RegIx) (cs2 : RegIx) (s : State) : Host.Outcome State Fault Refusal :=
  runReg (.wdivs p cd cs1 cs2) p (sylWdivs cd cs1 cs2) s

/-- The effect of `WSEXT` (R143). -/
def sylWsext (cd : RegIx) (cs1 : RegIx) : Body := wideR (fun a => ((low64 a).signExtend 128, noFlags)) cd cs1

/-- WSEXT (R143). -/
def execWsext (p : Nat) (cd : RegIx) (cs1 : RegIx) (s : State) : Host.Outcome State Fault Refusal :=
  runReg (.wsext p cd cs1) p (sylWsext cd cs1) s

/-- The effect of `WZEXT` (R143). -/
def sylWzext (cd : RegIx) (cs1 : RegIx) : Body := wideR (fun a => ((low64 a).setWidth 128, noFlags)) cd cs1

/-- WZEXT (R143). -/
def execWzext (p : Nat) (cd : RegIx) (cs1 : RegIx) (s : State) : Host.Outcome State Fault Refusal :=
  runReg (.wzext p cd cs1) p (sylWzext cd cs1) s

/-- The effect of `WPACK` (R143). -/
def sylWpack (cd : RegIx) (cs1 : RegIx) (cs2 : RegIx) : Body := wideRR (fun a b => (low64 b ++ low64 a, noFlags)) cd cs1 cs2

/-- WPACK (R143). -/
def execWpack (p : Nat) (cd : RegIx) (cs1 : RegIx) (cs2 : RegIx) (s : State) : Host.Outcome State Fault Refusal :=
  runReg (.wpack p cd cs1 cs2) p (sylWpack cd cs1 cs2) s

/-- The effect of `WHI` (R143). -/
def sylWhi (cd : RegIx) (cs1 : RegIx) : Body := wideHi cd cs1

/-- WHI (R143). -/
def execWhi (p : Nat) (cd : RegIx) (cs1 : RegIx) (s : State) : Host.Outcome State Fault Refusal :=
  runReg (.whi p cd cs1) p (sylWhi cd cs1) s

/-- The effect of `WSLLI` (R143). -/
def sylWslli (cd : RegIx) (cs1 : RegIx) (amt : BitVec 7) : Body := wideR (fun a => opSll a amt.toNat) cd cs1

/-- WSLLI (R143). -/
def execWslli (p : Nat) (cd : RegIx) (cs1 : RegIx) (amt : BitVec 7) (s : State) : Host.Outcome State Fault Refusal :=
  runReg (.wslli p cd cs1 amt) p (sylWslli cd cs1 amt) s

/-- The effect of `WSRLI` (R143). -/
def sylWsrli (cd : RegIx) (cs1 : RegIx) (amt : BitVec 7) : Body := wideR (fun a => opSrl a amt.toNat) cd cs1

/-- WSRLI (R143). -/
def execWsrli (p : Nat) (cd : RegIx) (cs1 : RegIx) (amt : BitVec 7) (s : State) : Host.Outcome State Fault Refusal :=
  runReg (.wsrli p cd cs1 amt) p (sylWsrli cd cs1 amt) s

/-- The effect of `WSRAI` (R143). -/
def sylWsrai (cd : RegIx) (cs1 : RegIx) (amt : BitVec 7) : Body := wideR (fun a => opSra a amt.toNat) cd cs1

/-- WSRAI (R143). -/
def execWsrai (p : Nat) (cd : RegIx) (cs1 : RegIx) (amt : BitVec 7) (s : State) : Host.Outcome State Fault Refusal :=
  runReg (.wsrai p cd cs1 amt) p (sylWsrai cd cs1 amt) s

/-- The effect of `WADDI` (R143). -/
def sylWaddi (cd : RegIx) (cs1 : RegIx) (imm : Imm) : Body := wideR (fun a => opAdd a (BitVec.ofInt 128 (immVal imm))) cd cs1

/-- WADDI (R143). -/
def execWaddi (p : Nat) (cd : RegIx) (cs1 : RegIx) (imm : Imm) (s : State) : Host.Outcome State Fault Refusal :=
  runReg (.waddi p cd cs1 imm) p (sylWaddi cd cs1 imm) s

/-- The effect of `WIDE_COMPARE` (R142). -/
def sylWideCompare (pd : PredIx) (pc : PredIx) (cond : BitVec 3) (cs1 : RegIx) (cs2 : RegIx) : Body := compareW 128 pd pc cond cs1 cs2

/-- WIDE_COMPARE (R142). -/
def execWideCompare (p : Nat) (pd : PredIx) (pc : PredIx) (cond : BitVec 3) (cs1 : RegIx) (cs2 : RegIx) (s : State) : Host.Outcome State Fault Refusal :=
  runReg (.wideCompare p pd pc cond cs1 cs2) p (sylWideCompare pd pc cond cs1 cs2) s

end Sys2Proof.Machine
end

