-- ==== Sys2Proof/Machine/SylCap.lean ====
section
/-!
DEFINITION. Capability syllables (R144, R46-R56): each syllable's own effect (`syl...`) and its meaning as a command (`exec...`).
-/
namespace Sys2Proof.Machine
open Sys2Proof (Instr Imm)

/-- The end of a capability syllable: its value, or CAP_MALFORMED of an operand (R144, R231). -/
def CapOut.finish (o : CapOut) (cd : RegIx) : Body := fun c s =>
  match o with
  | .val v => .ok false (s.setReg c.pair c.bank cd.toNat v)
  | .bad n => .flt (fltD capMalformed n) s

/-- A capability syllable of one source (R144). -/
def capR (f : Cap → CapOut) (cd cs1 : RegIx) : Body := fun c s => (f (s.src c.pair c.bank cs1.toNat)).finish cd c s

/-- A capability syllable of two sources (R144). -/
def capRR (f : Cap → Cap → CapOut) (cd cs1 cs2 : RegIx) : Body := fun c s =>
  (f (s.src c.pair c.bank cs1.toNat) (s.src c.pair c.bank cs2.toNat)).finish cd c s

/-- The effect of `CMOVE` (R144). -/
def sylCmove (cd : RegIx) (cs1 : RegIx) : Body := capR (fun c => .val c) cd cs1

/-- CMOVE (R144). -/
def execCmove (p : Nat) (cd : RegIx) (cs1 : RegIx) (s : State) : Host.Outcome State Fault Refusal :=
  runReg (.cmove p cd cs1) p (sylCmove cd cs1) s

/-- The effect of `CSETADDR` (R40). -/
def sylCsetaddr (cd : RegIx) (cs1 : RegIx) (cs2 : RegIx) : Body := capRR (fun c a => opCsetaddr c (low64 a.bits)) cd cs1 cs2

/-- CSETADDR (R40). -/
def execCsetaddr (p : Nat) (cd : RegIx) (cs1 : RegIx) (cs2 : RegIx) (s : State) : Host.Outcome State Fault Refusal :=
  runReg (.csetaddr p cd cs1 cs2) p (sylCsetaddr cd cs1 cs2) s

/-- The effect of `CINCADDR` (R40). -/
def sylCincaddr (cd : RegIx) (cs1 : RegIx) (cs2 : RegIx) : Body := capRR (fun c a => opCincaddr c (low64 a.bits)) cd cs1 cs2

/-- CINCADDR (R40). -/
def execCincaddr (p : Nat) (cd : RegIx) (cs1 : RegIx) (cs2 : RegIx) (s : State) : Host.Outcome State Fault Refusal :=
  runReg (.cincaddr p cd cs1 cs2) p (sylCincaddr cd cs1 cs2) s

/-- The effect of `CINCADDRI` (R144). -/
def sylCincaddri (cd : RegIx) (cs1 : RegIx) (imm : Imm) : Body := capR (fun c => opCincaddr c (BitVec.ofInt 64 (immVal imm))) cd cs1

/-- CINCADDRI (R144). -/
def execCincaddri (p : Nat) (cd : RegIx) (cs1 : RegIx) (imm : Imm) (s : State) : Host.Outcome State Fault Refusal :=
  runReg (.cincaddri p cd cs1 imm) p (sylCincaddri cd cs1 imm) s

/-- The effect of `CSETBOUNDS` (R43). -/
def sylCsetbounds (cd : RegIx) (cs1 : RegIx) (cs2 : RegIx) : Body := capRR (fun c a => opCsetbounds c (low64 a.bits)) cd cs1 cs2

/-- CSETBOUNDS (R43). -/
def execCsetbounds (p : Nat) (cd : RegIx) (cs1 : RegIx) (cs2 : RegIx) (s : State) : Host.Outcome State Fault Refusal :=
  runReg (.csetbounds p cd cs1 cs2) p (sylCsetbounds cd cs1 cs2) s

/-- The effect of `CSETBOUNDSX` (R44). -/
def sylCsetboundsx (cd : RegIx) (cs1 : RegIx) (cs2 : RegIx) : Body := capRR (fun c a => opCsetboundsx c (low64 a.bits)) cd cs1 cs2

/-- CSETBOUNDSX (R44). -/
def execCsetboundsx (p : Nat) (cd : RegIx) (cs1 : RegIx) (cs2 : RegIx) (s : State) : Host.Outcome State Fault Refusal :=
  runReg (.csetboundsx p cd cs1 cs2) p (sylCsetboundsx cd cs1 cs2) s

/-- The effect of `CANDPERM` (R62). -/
def sylCandperm (cd : RegIx) (cs1 : RegIx) (cs2 : RegIx) : Body := capRR (fun c a => opCandperm c (low64 a.bits)) cd cs1 cs2

/-- CANDPERM (R62). -/
def execCandperm (p : Nat) (cd : RegIx) (cs1 : RegIx) (cs2 : RegIx) (s : State) : Host.Outcome State Fault Refusal :=
  runReg (.candperm p cd cs1 cs2) p (sylCandperm cd cs1 cs2) s

/-- The effect of `CCLEARTAG` (R144). -/
def sylCcleartag (cd : RegIx) (cs1 : RegIx) : Body := capR (fun c => .val c.untag) cd cs1

/-- CCLEARTAG (R144). -/
def execCcleartag (p : Nat) (cd : RegIx) (cs1 : RegIx) (s : State) : Host.Outcome State Fault Refusal :=
  runReg (.ccleartag p cd cs1) p (sylCcleartag cd cs1) s

/-- The effect of `CSEAL` (R57). -/
def sylCseal (cd : RegIx) (cs1 : RegIx) (cs2 : RegIx) : Body := capRR opCseal cd cs1 cs2

/-- CSEAL (R57). -/
def execCseal (p : Nat) (cd : RegIx) (cs1 : RegIx) (cs2 : RegIx) (s : State) : Host.Outcome State Fault Refusal :=
  runReg (.cseal p cd cs1 cs2) p (sylCseal cd cs1 cs2) s

/-- The effect of `CUNSEAL` (R58). -/
def sylCunseal (cd : RegIx) (cs1 : RegIx) (cs2 : RegIx) : Body := capRR opCunseal cd cs1 cs2

/-- CUNSEAL (R58). -/
def execCunseal (p : Nat) (cd : RegIx) (cs1 : RegIx) (cs2 : RegIx) (s : State) : Host.Outcome State Fault Refusal :=
  runReg (.cunseal p cd cs1 cs2) p (sylCunseal cd cs1 cs2) s

/-- The effect of `CSEALENTRY` (R59). -/
def sylCsealentry (cd : RegIx) (cs1 : RegIx) : Body := capR opCsealentry cd cs1

/-- CSEALENTRY (R59). -/
def execCsealentry (p : Nat) (cd : RegIx) (cs1 : RegIx) (s : State) : Host.Outcome State Fault Refusal :=
  runReg (.csealentry p cd cs1) p (sylCsealentry cd cs1) s

/-- The effect of `CGETTAG` (R61). -/
def sylCgettag (cd : RegIx) (cs1 : RegIx) : Body := capR (fun c => inspect (b2n c.tag)) cd cs1

/-- CGETTAG (R61). -/
def execCgettag (p : Nat) (cd : RegIx) (cs1 : RegIx) (s : State) : Host.Outcome State Fault Refusal :=
  runReg (.cgettag p cd cs1) p (sylCgettag cd cs1) s

/-- The effect of `CGETPERM` (R61). -/
def sylCgetperm (cd : RegIx) (cs1 : RegIx) : Body := capR (fun c => inspect c.perms) cd cs1

/-- CGETPERM (R61). -/
def execCgetperm (p : Nat) (cd : RegIx) (cs1 : RegIx) (s : State) : Host.Outcome State Fault Refusal :=
  runReg (.cgetperm p cd cs1) p (sylCgetperm cd cs1) s

/-- The effect of `CGETTYPE` (R61). -/
def sylCgettype (cd : RegIx) (cs1 : RegIx) : Body := capR (fun c => inspect c.otype) cd cs1

/-- CGETTYPE (R61). -/
def execCgettype (p : Nat) (cd : RegIx) (cs1 : RegIx) (s : State) : Host.Outcome State Fault Refusal :=
  runReg (.cgettype p cd cs1) p (sylCgettype cd cs1) s

/-- The effect of `CGETADDR` (R61). -/
def sylCgetaddr (cd : RegIx) (cs1 : RegIx) : Body := capR (fun c => inspect c.addr) cd cs1

/-- CGETADDR (R61). -/
def execCgetaddr (p : Nat) (cd : RegIx) (cs1 : RegIx) (s : State) : Host.Outcome State Fault Refusal :=
  runReg (.cgetaddr p cd cs1) p (sylCgetaddr cd cs1) s

/-- The effect of `CGETBASE` (R61). -/
def sylCgetbase (cd : RegIx) (cs1 : RegIx) : Body := capR (fun c => opCgetbase c) cd cs1

/-- CGETBASE (R61). -/
def execCgetbase (p : Nat) (cd : RegIx) (cs1 : RegIx) (s : State) : Host.Outcome State Fault Refusal :=
  runReg (.cgetbase p cd cs1) p (sylCgetbase cd cs1) s

/-- The effect of `CGETTOP` (R61). -/
def sylCgettop (cd : RegIx) (cs1 : RegIx) : Body := capR (fun c => opCgettop c) cd cs1

/-- CGETTOP (R61). -/
def execCgettop (p : Nat) (cd : RegIx) (cs1 : RegIx) (s : State) : Host.Outcome State Fault Refusal :=
  runReg (.cgettop p cd cs1) p (sylCgettop cd cs1) s

/-- The effect of `CGETLEN` (R61). -/
def sylCgetlen (cd : RegIx) (cs1 : RegIx) : Body := capR (fun c => opCgetlen c) cd cs1

/-- CGETLEN (R61). -/
def execCgetlen (p : Nat) (cd : RegIx) (cs1 : RegIx) (s : State) : Host.Outcome State Fault Refusal :=
  runReg (.cgetlen p cd cs1) p (sylCgetlen cd cs1) s

/-- The effect of `CRRL` (R45). -/
def sylCrrl (cd : RegIx) (cs1 : RegIx) : Body := intR (fun x => (opCrrl x, noFlags)) cd cs1

/-- CRRL (R45). -/
def execCrrl (p : Nat) (cd : RegIx) (cs1 : RegIx) (s : State) : Host.Outcome State Fault Refusal :=
  runReg (.crrl p cd cs1) p (sylCrrl cd cs1) s

/-- The effect of `CRAM` (R45). -/
def sylCram (cd : RegIx) (cs1 : RegIx) : Body := intR (fun x => (opCram x, noFlags)) cd cs1

/-- CRAM (R45). -/
def execCram (p : Nat) (cd : RegIx) (cs1 : RegIx) (s : State) : Host.Outcome State Fault Refusal :=
  runReg (.cram p cd cs1) p (sylCram cd cs1) s

end Sys2Proof.Machine
end

