-- ==== Sys2Proof/Machine/SylMem.lean ====
section
/-!
DEFINITION. Single-piece loads and stores (R145-R154): each syllable's own effect (`syl...`) and its meaning as a command (`exec...`).
-/
namespace Sys2Proof.Machine
open Sys2Proof (Instr Imm)

/-- A displacement of an indexed form (R145). -/
def dispX (cs2 : RegIx) (c : SCtx) (s : State) : Int := (s.srcX c.pair c.bank cs2.toNat).toNat

/-- A checked data load performed: of a device register as a register read, else of bytes (R149, R563). -/
def State.doLoad (s : State) (ps : List Piece) : Nat × State :=
  match ps with
  | [x] => if x.sp = .dev then ((s.devRead x.pa).1.toNat, (s.devRead x.pa).2) else (bytesNat (s.readPieces ps).1, (s.readPieces ps).2)
  | _ => (bytesNat (s.readPieces ps).1, (s.readPieces ps).2)

/-- A data load of 1 to 8 bytes through a capability: items 1 to 6 of R147, then the access. -/
def memLoad (c : SCtx) (a : Cap) (operand ea size : Nat) (s : State) : Res Nat :=
  match checkAccess a ea size [permLD] with
  | some k => .flt (fltA k operand ea) s
  | none =>
    (planAccess s (s.via c.pair c.bank) .load false ea size).bind (fun ps s1 => .ok (s1.doLoad ps).1 (s1.doLoad ps).2)

/-- A data store of 1 to 8 bytes translated and checked (R147). -/
def planStore (c : SCtx) (a : Cap) (operand ea size : Nat) (s : State) : Res (List Piece) :=
  match checkAccess a ea size [permST] with
  | some k => .flt (fltA k operand ea) s
  | none => planAccess s (s.via c.pair c.bank) .store false ea size

/-- A checked data store performed: to a device register as a register write, else as bytes (R149, R563). -/
def State.doStore (s : State) (c : SCtx) (ps : List Piece) (size val : Nat) : State :=
  match ps with
  | [x] => if x.sp = .dev then s.devWrite (.pair c.pair) x.pa val else s.writePieces ps (natBytes size val)
  | _ => s.writePieces ps (natBytes size val)

/-- A capability load through a capability (R48, R73, R87, R147). -/
def memLoadCap (c : SCtx) (a : Cap) (operand ea : Nat) (s : State) : Res Cap :=
  match checkAccess a ea 16 [permLD] with
  | some k => .flt (fltA k operand ea) s
  | none =>
    if !(ea % 16 == 0) then .flt (fltA align 0 ea) s
    else
      (planCap s (s.via c.pair c.bank) .load ea).bind (fun x s1 =>
        let r := s1.capLoad (s1.via c.pair c.bank) (a.has permLC) x
        .ok r.1 r.2)

/-- A capability store translated and checked (R49, R76, R147). -/
def planStoreCap (c : SCtx) (a : Cap) (operand ea : Nat) (v : Cap) (s : State) : Res Piece :=
  match checkAccess a ea 16 (storeNeed v) with
  | some k => .flt (fltA k operand ea) s
  | none =>
    if !(ea % 16 == 0) then .flt (fltA align 0 ea) s
    else planCap s (s.via c.pair c.bank) (storeKind v) ea

/-- A load of `size` bytes, sign-extended or zero-extended, into x[cd] (R145). -/
def loadData (size : Nat) (signed : Bool) (cd cs1 : RegIx) (d : SCtx → State → Int) : Body := fun c s =>
  let a := s.src c.pair c.bank cs1.toNat
  (memLoad c a 1 (effAddr a (d c s)) size s).bind (fun v s1 =>
    let x : Word := if signed then (BitVec.ofNat (8 * size) v).signExtend 64 else BitVec.ofNat 64 v
    .ok false ((s1.setX c.pair c.bank cd.toNat x).loaded c [(cd.toNat, (s.bank c.pair c.bank).reg cd.toNat)]))

/-- A capability load into c[cd] (R145). -/
def loadCap (cd cs1 : RegIx) (d : SCtx → State → Int) : Body := fun c s =>
  let a := s.src c.pair c.bank cs1.toNat
  (memLoadCap c a 1 (effAddr a (d c s)) s).bind (fun v s1 =>
    .ok false ((s1.setReg c.pair c.bank cd.toNat v).loaded c [(cd.toNat, (s.bank c.pair c.bank).reg cd.toNat)]))

/-- A store of the low `size` bytes of x[cd] (R145). -/
def storeData (size : Nat) (cd cs1 : RegIx) (d : SCtx → State → Int) : Body := fun c s =>
  let a := s.src c.pair c.bank cs1.toNat
  (planStore c a 1 (effAddr a (d c s)) size s).bind (fun ps s1 =>
    .ok false (s1.doStore c ps size (s.srcX c.pair c.bank cd.toNat).toNat))

/-- A store of c[cd] (R145). -/
def storeCap (cd cs1 : RegIx) (d : SCtx → State → Int) : Body := fun c s =>
  let a := s.src c.pair c.bank cs1.toNat
  let v := s.src c.pair c.bank cd.toNat
  (planStoreCap c a 1 (effAddr a (d c s)) v s).bind (fun x s1 =>
    .ok false (s1.capStore (s1.via c.pair c.bank) v x))

/-- The pages that reservations need: Normal-WB (R147 item 7). -/
def normalWb (ps : List Piece) (ea : Nat) : Option PFault :=
  if ps.all (fun x => x.mt == 0) then none else some (xfault pageFault 0 ea)

/-- The pair's reservation set to the line of a piece (R152). -/
def State.reserve (s : State) (p : Nat) (ps : List Piece) : State :=
  match ps with
  | x :: _ => s.updPair p (fun v => { v with resv := some (resvLine x.sp x.pa) })
  | [] => s

/-- Does the pair hold a reservation on the line of a piece (R153)? -/
def State.reserved (s : State) (p : Nat) (ps : List Piece) : Bool :=
  match ps with
  | x :: _ => (s.pair p).resv == some (resvLine x.sp x.pa)
  | [] => false

/-- `LRC.D` (R152). -/
def loadResD (cd cs1 : RegIx) : Body := fun c s =>
  let a := s.src c.pair c.bank cs1.toNat
  let ea := a.addr
  match checkAccess a ea 8 [permLD] with
  | some k => .flt (fltA k 1 ea) s
  | none =>
    if !(ea % 8 == 0) then .flt (fltA align 0 ea) s
    else
      (planAccess s (s.via c.pair c.bank) .load false ea 8).bind (fun ps s1 =>
        match normalWb ps ea with
        | some f => .flt f s1
        | none =>
          let r := s1.doLoad ps
          let s2 := (r.2.reserve c.pair ps).setX c.pair c.bank cd.toNat (BitVec.ofNat 64 r.1)
          .ok false (s2.loaded c [(cd.toNat, (s.bank c.pair c.bank).reg cd.toNat)]))

/-- `LRC.C` (R152). -/
def loadResC (cd cs1 : RegIx) : Body := fun c s =>
  let a := s.src c.pair c.bank cs1.toNat
  let ea := a.addr
  match checkAccess a ea 16 [permLD] with
  | some k => .flt (fltA k 1 ea) s
  | none =>
    if !(ea % 16 == 0) then .flt (fltA align 0 ea) s
    else
      (planCap s (s.via c.pair c.bank) .load ea).bind (fun x s1 =>
        match normalWb [x] ea with
        | some f => .flt f s1
        | none =>
          let r := s1.capLoad (s1.via c.pair c.bank) (a.has permLC) x
          let s2 := (r.2.reserve c.pair [x]).setReg c.pair c.bank cd.toNat r.1
          .ok false (s2.loaded c [(cd.toNat, (s.bank c.pair c.bank).reg cd.toNat)]))

/-- The end of an `SCC`: the status in x[cd], and no reservation (R153). -/
def State.condEnd (s : State) (c : SCtx) (cd : RegIx) (stored : Bool) : State :=
  (s.updPair c.pair (fun v => { v with resv := none })).setX c.pair c.bank cd.toNat (if stored then 0 else 1)

/-- `SCC.D` (R153). -/
def storeCondD (cd cs1 cs2 : RegIx) : Body := fun c s =>
  let a := s.src c.pair c.bank cs1.toNat
  let ea := a.addr
  let x := s.srcX c.pair c.bank cs2.toNat
  match checkAccess a ea 8 [permST] with
  | some k => .flt (fltA k 1 ea) s
  | none =>
    if !(ea % 8 == 0) then .flt (fltA align 0 ea) s
    else
      (planAccess s (s.via c.pair c.bank) .store false ea 8).bind (fun ps s1 =>
        match normalWb ps ea with
        | some f => .flt f s1
        | none =>
          let held := s1.reserved c.pair ps
          .ok false ((if held then s1.doStore c ps 8 x.toNat else s1).condEnd c cd held))

/-- `SCC.C` (R153). -/
def storeCondC (cd cs1 cs2 : RegIx) : Body := fun c s =>
  let a := s.src c.pair c.bank cs1.toNat
  let ea := a.addr
  let v := s.src c.pair c.bank cs2.toNat
  match checkAccess a ea 16 (storeNeed v) with
  | some k => .flt (fltA k 1 ea) s
  | none =>
    if !(ea % 16 == 0) then .flt (fltA align 0 ea) s
    else
      (planCap s (s.via c.pair c.bank) (storeKind v) ea).bind (fun x s1 =>
        match normalWb [x] ea with
        | some f => .flt f s1
        | none =>
          let held := s1.reserved c.pair [x]
          .ok false ((if held then s1.capStore (s1.via c.pair c.bank) v x else s1).condEnd c cd held))

/-- The effect of `LB` (R145). -/
def sylLb (cd : RegIx) (cs1 : RegIx) (imm : Imm) : Body := loadData 1 true cd cs1 (fun _ _ => immDisp imm 1)

/-- LB (R145). -/
def execLb (p : Nat) (cd : RegIx) (cs1 : RegIx) (imm : Imm) (s : State) : Host.Outcome State Fault Refusal :=
  runSyl (.lb p cd cs1 imm) p (sylLb cd cs1 imm) s

/-- The effect of `LBU` (R145). -/
def sylLbu (cd : RegIx) (cs1 : RegIx) (imm : Imm) : Body := loadData 1 false cd cs1 (fun _ _ => immDisp imm 1)

/-- LBU (R145). -/
def execLbu (p : Nat) (cd : RegIx) (cs1 : RegIx) (imm : Imm) (s : State) : Host.Outcome State Fault Refusal :=
  runSyl (.lbu p cd cs1 imm) p (sylLbu cd cs1 imm) s

/-- The effect of `LH` (R145). -/
def sylLh (cd : RegIx) (cs1 : RegIx) (imm : Imm) : Body := loadData 2 true cd cs1 (fun _ _ => immDisp imm 2)

/-- LH (R145). -/
def execLh (p : Nat) (cd : RegIx) (cs1 : RegIx) (imm : Imm) (s : State) : Host.Outcome State Fault Refusal :=
  runSyl (.lh p cd cs1 imm) p (sylLh cd cs1 imm) s

/-- The effect of `LHU` (R145). -/
def sylLhu (cd : RegIx) (cs1 : RegIx) (imm : Imm) : Body := loadData 2 false cd cs1 (fun _ _ => immDisp imm 2)

/-- LHU (R145). -/
def execLhu (p : Nat) (cd : RegIx) (cs1 : RegIx) (imm : Imm) (s : State) : Host.Outcome State Fault Refusal :=
  runSyl (.lhu p cd cs1 imm) p (sylLhu cd cs1 imm) s

/-- The effect of `LW` (R145). -/
def sylLw (cd : RegIx) (cs1 : RegIx) (imm : Imm) : Body := loadData 4 true cd cs1 (fun _ _ => immDisp imm 4)

/-- LW (R145). -/
def execLw (p : Nat) (cd : RegIx) (cs1 : RegIx) (imm : Imm) (s : State) : Host.Outcome State Fault Refusal :=
  runSyl (.lw p cd cs1 imm) p (sylLw cd cs1 imm) s

/-- The effect of `LWU` (R145). -/
def sylLwu (cd : RegIx) (cs1 : RegIx) (imm : Imm) : Body := loadData 4 false cd cs1 (fun _ _ => immDisp imm 4)

/-- LWU (R145). -/
def execLwu (p : Nat) (cd : RegIx) (cs1 : RegIx) (imm : Imm) (s : State) : Host.Outcome State Fault Refusal :=
  runSyl (.lwu p cd cs1 imm) p (sylLwu cd cs1 imm) s

/-- The effect of `LD` (R145). -/
def sylLd (cd : RegIx) (cs1 : RegIx) (imm : Imm) : Body := loadData 8 false cd cs1 (fun _ _ => immDisp imm 8)

/-- LD (R145). -/
def execLd (p : Nat) (cd : RegIx) (cs1 : RegIx) (imm : Imm) (s : State) : Host.Outcome State Fault Refusal :=
  runSyl (.ld p cd cs1 imm) p (sylLd cd cs1 imm) s

/-- The effect of `CLC` (R48). -/
def sylClc (cd : RegIx) (cs1 : RegIx) (imm : Imm) : Body := loadCap cd cs1 (fun _ _ => immDisp imm 16)

/-- CLC (R48). -/
def execClc (p : Nat) (cd : RegIx) (cs1 : RegIx) (imm : Imm) (s : State) : Host.Outcome State Fault Refusal :=
  runSyl (.clc p cd cs1 imm) p (sylClc cd cs1 imm) s

/-- The effect of `SB` (R147). -/
def sylSb (cd : RegIx) (cs1 : RegIx) (imm : Imm) : Body := storeData 1 cd cs1 (fun _ _ => immDisp imm 1)

/-- SB (R147). -/
def execSb (p : Nat) (cd : RegIx) (cs1 : RegIx) (imm : Imm) (s : State) : Host.Outcome State Fault Refusal :=
  runSyl (.sb p cd cs1 imm) p (sylSb cd cs1 imm) s

/-- The effect of `SH` (R147). -/
def sylSh (cd : RegIx) (cs1 : RegIx) (imm : Imm) : Body := storeData 2 cd cs1 (fun _ _ => immDisp imm 2)

/-- SH (R147). -/
def execSh (p : Nat) (cd : RegIx) (cs1 : RegIx) (imm : Imm) (s : State) : Host.Outcome State Fault Refusal :=
  runSyl (.sh p cd cs1 imm) p (sylSh cd cs1 imm) s

/-- The effect of `SW` (R147). -/
def sylSw (cd : RegIx) (cs1 : RegIx) (imm : Imm) : Body := storeData 4 cd cs1 (fun _ _ => immDisp imm 4)

/-- SW (R147). -/
def execSw (p : Nat) (cd : RegIx) (cs1 : RegIx) (imm : Imm) (s : State) : Host.Outcome State Fault Refusal :=
  runSyl (.sw p cd cs1 imm) p (sylSw cd cs1 imm) s

/-- The effect of `SD` (R147). -/
def sylSd (cd : RegIx) (cs1 : RegIx) (imm : Imm) : Body := storeData 8 cd cs1 (fun _ _ => immDisp imm 8)

/-- SD (R147). -/
def execSd (p : Nat) (cd : RegIx) (cs1 : RegIx) (imm : Imm) (s : State) : Host.Outcome State Fault Refusal :=
  runSyl (.sd p cd cs1 imm) p (sylSd cd cs1 imm) s

/-- The effect of `CSC` (R49). -/
def sylCsc (cd : RegIx) (cs1 : RegIx) (imm : Imm) : Body := storeCap cd cs1 (fun _ _ => immDisp imm 16)

/-- CSC (R49). -/
def execCsc (p : Nat) (cd : RegIx) (cs1 : RegIx) (imm : Imm) (s : State) : Host.Outcome State Fault Refusal :=
  runSyl (.csc p cd cs1 imm) p (sylCsc cd cs1 imm) s

/-- The effect of `LBX` (R146). -/
def sylLbx (cd : RegIx) (cs1 : RegIx) (cs2 : RegIx) : Body := loadData 1 true cd cs1 (dispX cs2)

/-- LBX (R146). -/
def execLbx (p : Nat) (cd : RegIx) (cs1 : RegIx) (cs2 : RegIx) (s : State) : Host.Outcome State Fault Refusal :=
  runSyl (.lbx p cd cs1 cs2) p (sylLbx cd cs1 cs2) s

/-- The effect of `LBUX` (R146). -/
def sylLbux (cd : RegIx) (cs1 : RegIx) (cs2 : RegIx) : Body := loadData 1 false cd cs1 (dispX cs2)

/-- LBUX (R146). -/
def execLbux (p : Nat) (cd : RegIx) (cs1 : RegIx) (cs2 : RegIx) (s : State) : Host.Outcome State Fault Refusal :=
  runSyl (.lbux p cd cs1 cs2) p (sylLbux cd cs1 cs2) s

/-- The effect of `LHX` (R146). -/
def sylLhx (cd : RegIx) (cs1 : RegIx) (cs2 : RegIx) : Body := loadData 2 true cd cs1 (dispX cs2)

/-- LHX (R146). -/
def execLhx (p : Nat) (cd : RegIx) (cs1 : RegIx) (cs2 : RegIx) (s : State) : Host.Outcome State Fault Refusal :=
  runSyl (.lhx p cd cs1 cs2) p (sylLhx cd cs1 cs2) s

/-- The effect of `LHUX` (R146). -/
def sylLhux (cd : RegIx) (cs1 : RegIx) (cs2 : RegIx) : Body := loadData 2 false cd cs1 (dispX cs2)

/-- LHUX (R146). -/
def execLhux (p : Nat) (cd : RegIx) (cs1 : RegIx) (cs2 : RegIx) (s : State) : Host.Outcome State Fault Refusal :=
  runSyl (.lhux p cd cs1 cs2) p (sylLhux cd cs1 cs2) s

/-- The effect of `LWX` (R146). -/
def sylLwx (cd : RegIx) (cs1 : RegIx) (cs2 : RegIx) : Body := loadData 4 true cd cs1 (dispX cs2)

/-- LWX (R146). -/
def execLwx (p : Nat) (cd : RegIx) (cs1 : RegIx) (cs2 : RegIx) (s : State) : Host.Outcome State Fault Refusal :=
  runSyl (.lwx p cd cs1 cs2) p (sylLwx cd cs1 cs2) s

/-- The effect of `LWUX` (R146). -/
def sylLwux (cd : RegIx) (cs1 : RegIx) (cs2 : RegIx) : Body := loadData 4 false cd cs1 (dispX cs2)

/-- LWUX (R146). -/
def execLwux (p : Nat) (cd : RegIx) (cs1 : RegIx) (cs2 : RegIx) (s : State) : Host.Outcome State Fault Refusal :=
  runSyl (.lwux p cd cs1 cs2) p (sylLwux cd cs1 cs2) s

/-- The effect of `LDX` (R146). -/
def sylLdx (cd : RegIx) (cs1 : RegIx) (cs2 : RegIx) : Body := loadData 8 false cd cs1 (dispX cs2)

/-- LDX (R146). -/
def execLdx (p : Nat) (cd : RegIx) (cs1 : RegIx) (cs2 : RegIx) (s : State) : Host.Outcome State Fault Refusal :=
  runSyl (.ldx p cd cs1 cs2) p (sylLdx cd cs1 cs2) s

/-- The effect of `CLCX` (R146). -/
def sylClcx (cd : RegIx) (cs1 : RegIx) (cs2 : RegIx) : Body := loadCap cd cs1 (dispX cs2)

/-- CLCX (R146). -/
def execClcx (p : Nat) (cd : RegIx) (cs1 : RegIx) (cs2 : RegIx) (s : State) : Host.Outcome State Fault Refusal :=
  runSyl (.clcx p cd cs1 cs2) p (sylClcx cd cs1 cs2) s

/-- The effect of `SBX` (R146). -/
def sylSbx (cd : RegIx) (cs1 : RegIx) (cs2 : RegIx) : Body := storeData 1 cd cs1 (dispX cs2)

/-- SBX (R146). -/
def execSbx (p : Nat) (cd : RegIx) (cs1 : RegIx) (cs2 : RegIx) (s : State) : Host.Outcome State Fault Refusal :=
  runSyl (.sbx p cd cs1 cs2) p (sylSbx cd cs1 cs2) s

/-- The effect of `SHX` (R146). -/
def sylShx (cd : RegIx) (cs1 : RegIx) (cs2 : RegIx) : Body := storeData 2 cd cs1 (dispX cs2)

/-- SHX (R146). -/
def execShx (p : Nat) (cd : RegIx) (cs1 : RegIx) (cs2 : RegIx) (s : State) : Host.Outcome State Fault Refusal :=
  runSyl (.shx p cd cs1 cs2) p (sylShx cd cs1 cs2) s

/-- The effect of `SWX` (R146). -/
def sylSwx (cd : RegIx) (cs1 : RegIx) (cs2 : RegIx) : Body := storeData 4 cd cs1 (dispX cs2)

/-- SWX (R146). -/
def execSwx (p : Nat) (cd : RegIx) (cs1 : RegIx) (cs2 : RegIx) (s : State) : Host.Outcome State Fault Refusal :=
  runSyl (.swx p cd cs1 cs2) p (sylSwx cd cs1 cs2) s

/-- The effect of `SDX` (R146). -/
def sylSdx (cd : RegIx) (cs1 : RegIx) (cs2 : RegIx) : Body := storeData 8 cd cs1 (dispX cs2)

/-- SDX (R146). -/
def execSdx (p : Nat) (cd : RegIx) (cs1 : RegIx) (cs2 : RegIx) (s : State) : Host.Outcome State Fault Refusal :=
  runSyl (.sdx p cd cs1 cs2) p (sylSdx cd cs1 cs2) s

/-- The effect of `CSCX` (R146). -/
def sylCscx (cd : RegIx) (cs1 : RegIx) (cs2 : RegIx) : Body := storeCap cd cs1 (dispX cs2)

/-- CSCX (R146). -/
def execCscx (p : Nat) (cd : RegIx) (cs1 : RegIx) (cs2 : RegIx) (s : State) : Host.Outcome State Fault Refusal :=
  runSyl (.cscx p cd cs1 cs2) p (sylCscx cd cs1 cs2) s

/-- The effect of `LRC_D` (R152). -/
def sylLrcD (cd : RegIx) (cs1 : RegIx) : Body := loadResD cd cs1

/-- LRC_D (R152). -/
def execLrcD (p : Nat) (cd : RegIx) (cs1 : RegIx) (s : State) : Host.Outcome State Fault Refusal :=
  runSyl (.lrcD p cd cs1) p (sylLrcD cd cs1) s

/-- The effect of `LRC_C` (R152). -/
def sylLrcC (cd : RegIx) (cs1 : RegIx) : Body := loadResC cd cs1

/-- LRC_C (R152). -/
def execLrcC (p : Nat) (cd : RegIx) (cs1 : RegIx) (s : State) : Host.Outcome State Fault Refusal :=
  runSyl (.lrcC p cd cs1) p (sylLrcC cd cs1) s

/-- The effect of `SCC_D` (R153). -/
def sylSccD (cd : RegIx) (cs1 : RegIx) (cs2 : RegIx) : Body := storeCondD cd cs1 cs2

/-- SCC_D (R153). -/
def execSccD (p : Nat) (cd : RegIx) (cs1 : RegIx) (cs2 : RegIx) (s : State) : Host.Outcome State Fault Refusal :=
  runSyl (.sccD p cd cs1 cs2) p (sylSccD cd cs1 cs2) s

/-- The effect of `SCC_C` (R153). -/
def sylSccC (cd : RegIx) (cs1 : RegIx) (cs2 : RegIx) : Body := storeCondC cd cs1 cs2

/-- SCC_C (R153). -/
def execSccC (p : Nat) (cd : RegIx) (cs1 : RegIx) (cs2 : RegIx) (s : State) : Host.Outcome State Fault Refusal :=
  runSyl (.sccC p cd cs1 cs2) p (sylSccC cd cs1 cs2) s

end Sys2Proof.Machine
end

