-- ==== Sys2Proof/Machine/SylFix.lean ====
section
/-!
DEFINITION. Fixed-point syllables (R176-R192): each syllable's own effect (`syl...`) and its meaning as a command (`exec...`).
-/
namespace Sys2Proof.Machine
open Sys2Proof (Instr Imm)

/-- An integer view as a signed number (R176). -/
def xI (c : SCtx) (s : State) (n : RegIx) : Int := (s.srcX c.pair c.bank n.toNat).toInt
/-- A wide value as a signed number (R176). -/
def wI (c : SCtx) (s : State) (n : RegIx) : Int := (s.srcW c.pair c.bank n.toNat).toInt
/-- An accumulator as a signed number (R177). -/
def accI (c : SCtx) (s : State) (n : AccIx) : Int := ((s.pair c.pair).acc n.toNat).toInt

/-- A fixed-point syllable: the lazy save first (R197), then the value; OV or DZ raise ARITH with PA set, leaving only the
flags, and set `STATUS.APEND` otherwise (R191). -/
def fixed {α : Type} (f : SCtx → State → α × Flags) (put : SCtx → α → State → State) : Body := fun c s =>
  (s.lazySave c.pair c.bank).bind (fun _ s1 =>
    let r := f c s1
    let s2 := s1.addFlags c.pair c.bank r.2
    if r.2.ov || r.2.dz then
      if (s1.bank c.pair c.bank).pa then .flt (flt0 arith) s2
      else .ok false ((put c r.1 s2).updBank c.pair c.bank (fun k => k.stSet 5 1 1))
    else .ok false (put c r.1 s2))

/-- A fixed-point syllable with an integer destination (R183). -/
def fixX (cd : RegIx) (f : SCtx → State → Word × Flags) : Body :=
  fixed f (fun c x s => s.setX c.pair c.bank cd.toNat x)

/-- A fixed-point syllable with a wide destination (R183). -/
def fixW (cd : RegIx) (f : SCtx → State → Wide × Flags) : Body :=
  fixed f (fun c x s => s.setW c.pair c.bank cd.toNat x)

/-- An accumulator written (R183). -/
def putAcc (ad : AccIx) (c : SCtx) (a : AccWord) (s : State) : State := s.updPair c.pair (fun v => v.setAcc ad.toNat a)

/-- A move into an accumulator (R184). -/
def accSet (ad : AccIx) (f : SCtx → State → AccWord) : Body := fixed (fun c s => (f c s, noFlags)) (putAcc ad)

/-- An exact value fitted to an accumulator (R179, R185). -/
def accFit (ad : AccIx) (f : SCtx → State → Int) : Body :=
  fixed (fun c s => fitOnly (s.bank c.pair c.bank) (f c s) 144) (putAcc ad)

/-- An accumulator with its guard bits replaced (R184). -/
def setGuard (a : AccWord) (x : Word) : AccWord := x.setWidth 16 ++ a.setWidth 128
/-- The guard bits of an accumulator, sign-extended (R184). -/
def accGuard (a : AccWord) : Word := ((a >>> 128).setWidth 16).signExtend 64

/-- An exact ratio rounded once with the quantum of R178, and fitted (R186, R187). -/
def rounded {w : Nat} (num : SCtx → State → Int) (den : SCtx → State → Nat) (c : SCtx) (s : State) : BitVec w × Flags :=
  let k := s.bank c.pair c.bank
  rndFit k (num c s) (den c s) w k.qr

/-- The denominator of a right shift: a shift beyond every value's width rounds as one of 160 places does (R186). -/
def shiftDen (n : Nat) : Nat := 2 ^ min n 300

/-- An exact integer fitted without rounding (R187). -/
def fitted {w : Nat} (f : SCtx → State → Int) (c : SCtx) (s : State) : BitVec w × Flags :=
  fitOnly (s.bank c.pair c.bank) (f c s) w

/-- A division (R180, R188). -/
def divided {w : Nat} (num den : SCtx → State → Int) (c : SCtx) (s : State) : BitVec w × Flags :=
  divFit (s.bank c.pair c.bank) (num c s) (den c s) w

/-- A value rounded to a multiple of `BKQ` (R189). -/
def quantum {w : Nat} (f : SCtx → State → Int) (c : SCtx) (s : State) : BitVec w × Flags :=
  let k := s.bank c.pair c.bank
  rndFit k (f c s) 1 w k.bkq.toNat

/-- What `MRND` discards (R189). -/
def breakage (f : SCtx → State → Int) (c : SCtx) (s : State) : Wide × Flags :=
  let k := s.bank c.pair c.bank
  let r := rnd (f c s) 1 k.bkq.toNat k.rm
  (BitVec.ofInt 128 (f c s - r.1), ⟨false, false, r.2.1, false, r.2.2⟩)

/-- `FSYNC` (R192): ARITH in place of its own operation while `STATUS.APEND` is set. -/
def fsync : Body := fun c s =>
  if (s.bank c.pair c.bank).apend then .flt (flt0 arith) s else .ok false s

/-- The effect of `ACLR` (R184). -/
def sylAclr (ad : AccIx) : Body := accSet ad (fun _ _ => 0)

/-- ACLR (R184). -/
def execAclr (p : Nat) (ad : AccIx) (s : State) : Host.Outcome State Fault Refusal :=
  runSyl (.aclr p ad) p (sylAclr ad) s

/-- The effect of `AMOVA` (R184). -/
def sylAmova (ad : AccIx) (as_ : AccIx) : Body := accSet ad (fun c s => (s.pair c.pair).acc as_.toNat)

/-- AMOVA (R184). -/
def execAmova (p : Nat) (ad : AccIx) (as_ : AccIx) (s : State) : Host.Outcome State Fault Refusal :=
  runSyl (.amova p ad as_) p (sylAmova ad as_) s

/-- The effect of `ASETW` (R184). -/
def sylAsetw (ad : AccIx) (cs1 : RegIx) : Body := accSet ad (fun c s => (s.srcW c.pair c.bank cs1.toNat).signExtend 144)

/-- ASETW (R184). -/
def execAsetw (p : Nat) (ad : AccIx) (cs1 : RegIx) (s : State) : Host.Outcome State Fault Refusal :=
  runSyl (.asetw p ad cs1) p (sylAsetw ad cs1) s

/-- The effect of `ASETX` (R184). -/
def sylAsetx (ad : AccIx) (cs1 : RegIx) : Body := accSet ad (fun c s => (s.srcX c.pair c.bank cs1.toNat).signExtend 144 <<< 64)

/-- ASETX (R184). -/
def execAsetx (p : Nat) (ad : AccIx) (cs1 : RegIx) (s : State) : Host.Outcome State Fault Refusal :=
  runSyl (.asetx p ad cs1) p (sylAsetx ad cs1) s

/-- The effect of `ASETM` (R184). -/
def sylAsetm (ad : AccIx) (cs1 : RegIx) : Body := accSet ad (fun c s => (s.srcX c.pair c.bank cs1.toNat).signExtend 144)

/-- ASETM (R184). -/
def execAsetm (p : Nat) (ad : AccIx) (cs1 : RegIx) (s : State) : Host.Outcome State Fault Refusal :=
  runSyl (.asetm p ad cs1) p (sylAsetm ad cs1) s

/-- The effect of `AGETG` (R184). -/
def sylAgetg (cd : RegIx) (as_ : AccIx) : Body := fixX cd (fun c s => (accGuard ((s.pair c.pair).acc as_.toNat), noFlags))

/-- AGETG (R184). -/
def execAgetg (p : Nat) (cd : RegIx) (as_ : AccIx) (s : State) : Host.Outcome State Fault Refusal :=
  runSyl (.agetg p cd as_) p (sylAgetg cd as_) s

/-- The effect of `ANEG` (R184). -/
def sylAneg (ad : AccIx) : Body := accFit ad (fun c s => -(accI c s ad))

/-- ANEG (R184). -/
def execAneg (p : Nat) (ad : AccIx) (s : State) : Host.Outcome State Fault Refusal :=
  runSyl (.aneg p ad) p (sylAneg ad) s

/-- The effect of `AGETR` (R184). -/
def sylAgetr (cd : RegIx) (as_ : AccIx) : Body := fixW cd (fun c s => (((s.pair c.pair).acc as_.toNat).setWidth 128, noFlags))

/-- AGETR (R184). -/
def execAgetr (p : Nat) (cd : RegIx) (as_ : AccIx) (s : State) : Host.Outcome State Fault Refusal :=
  runSyl (.agetr p cd as_) p (sylAgetr cd as_) s

/-- The effect of `ASETG` (R184). -/
def sylAsetg (ad : AccIx) (cs1 : RegIx) : Body := accSet ad (fun c s => setGuard ((s.pair c.pair).acc ad.toNat) (s.srcX c.pair c.bank cs1.toNat))

/-- ASETG (R184). -/
def execAsetg (p : Nat) (ad : AccIx) (cs1 : RegIx) (s : State) : Host.Outcome State Fault Refusal :=
  runSyl (.asetg p ad cs1) p (sylAsetg ad cs1) s

/-- The effect of `QMUL` (R185). -/
def sylQmul (ad : AccIx) (cs1 : RegIx) (cs2 : RegIx) : Body := accFit ad (fun c s => 2 * (xI c s cs1 * xI c s cs2))

/-- QMUL (R185). -/
def execQmul (p : Nat) (ad : AccIx) (cs1 : RegIx) (cs2 : RegIx) (s : State) : Host.Outcome State Fault Refusal :=
  runSyl (.qmul p ad cs1 cs2) p (sylQmul ad cs1 cs2) s

/-- The effect of `QMAC` (R185). -/
def sylQmac (ad : AccIx) (cs1 : RegIx) (cs2 : RegIx) : Body := accFit ad (fun c s => accI c s ad + 2 * (xI c s cs1 * xI c s cs2))

/-- QMAC (R185). -/
def execQmac (p : Nat) (ad : AccIx) (cs1 : RegIx) (cs2 : RegIx) (s : State) : Host.Outcome State Fault Refusal :=
  runSyl (.qmac p ad cs1 cs2) p (sylQmac ad cs1 cs2) s

/-- The effect of `QMSU` (R185). -/
def sylQmsu (ad : AccIx) (cs1 : RegIx) (cs2 : RegIx) : Body := accFit ad (fun c s => accI c s ad - 2 * (xI c s cs1 * xI c s cs2))

/-- QMSU (R185). -/
def execQmsu (p : Nat) (ad : AccIx) (cs1 : RegIx) (cs2 : RegIx) (s : State) : Host.Outcome State Fault Refusal :=
  runSyl (.qmsu p ad cs1 cs2) p (sylQmsu ad cs1 cs2) s

/-- The effect of `MMUL` (R185). -/
def sylMmul (ad : AccIx) (cs1 : RegIx) (cs2 : RegIx) : Body := accFit ad (fun c s => xI c s cs1 * xI c s cs2)

/-- MMUL (R185). -/
def execMmul (p : Nat) (ad : AccIx) (cs1 : RegIx) (cs2 : RegIx) (s : State) : Host.Outcome State Fault Refusal :=
  runSyl (.mmul p ad cs1 cs2) p (sylMmul ad cs1 cs2) s

/-- The effect of `MMAC` (R185). -/
def sylMmac (ad : AccIx) (cs1 : RegIx) (cs2 : RegIx) : Body := accFit ad (fun c s => accI c s ad + xI c s cs1 * xI c s cs2)

/-- MMAC (R185). -/
def execMmac (p : Nat) (ad : AccIx) (cs1 : RegIx) (cs2 : RegIx) (s : State) : Host.Outcome State Fault Refusal :=
  runSyl (.mmac p ad cs1 cs2) p (sylMmac ad cs1 cs2) s

/-- The effect of `MMSU` (R185). -/
def sylMmsu (ad : AccIx) (cs1 : RegIx) (cs2 : RegIx) : Body := accFit ad (fun c s => accI c s ad - xI c s cs1 * xI c s cs2)

/-- MMSU (R185). -/
def execMmsu (p : Nat) (ad : AccIx) (cs1 : RegIx) (cs2 : RegIx) (s : State) : Host.Outcome State Fault Refusal :=
  runSyl (.mmsu p ad cs1 cs2) p (sylMmsu ad cs1 cs2) s

/-- The effect of `AADDW` (R185). -/
def sylAaddw (ad : AccIx) (cs1 : RegIx) : Body := accFit ad (fun c s => accI c s ad + wI c s cs1)

/-- AADDW (R185). -/
def execAaddw (p : Nat) (ad : AccIx) (cs1 : RegIx) (s : State) : Host.Outcome State Fault Refusal :=
  runSyl (.aaddw p ad cs1) p (sylAaddw ad cs1) s

/-- The effect of `ASUBW` (R185). -/
def sylAsubw (ad : AccIx) (cs1 : RegIx) : Body := accFit ad (fun c s => accI c s ad - wI c s cs1)

/-- ASUBW (R185). -/
def execAsubw (p : Nat) (ad : AccIx) (cs1 : RegIx) (s : State) : Host.Outcome State Fault Refusal :=
  runSyl (.asubw p ad cs1) p (sylAsubw ad cs1) s

/-- The effect of `AADDQ` (R185). -/
def sylAaddq (ad : AccIx) (cs1 : RegIx) : Body := accFit ad (fun c s => accI c s ad + xI c s cs1 * 2 ^ 64)

/-- AADDQ (R185). -/
def execAaddq (p : Nat) (ad : AccIx) (cs1 : RegIx) (s : State) : Host.Outcome State Fault Refusal :=
  runSyl (.aaddq p ad cs1) p (sylAaddq ad cs1) s

/-- The effect of `ASUBQ` (R185). -/
def sylAsubq (ad : AccIx) (cs1 : RegIx) : Body := accFit ad (fun c s => accI c s ad - xI c s cs1 * 2 ^ 64)

/-- ASUBQ (R185). -/
def execAsubq (p : Nat) (ad : AccIx) (cs1 : RegIx) (s : State) : Host.Outcome State Fault Refusal :=
  runSyl (.asubq p ad cs1) p (sylAsubq ad cs1) s

/-- The effect of `AADDA` (R185). -/
def sylAadda (ad : AccIx) (as_ : AccIx) : Body := accFit ad (fun c s => accI c s ad + accI c s as_)

/-- AADDA (R185). -/
def execAadda (p : Nat) (ad : AccIx) (as_ : AccIx) (s : State) : Host.Outcome State Fault Refusal :=
  runSyl (.aadda p ad as_) p (sylAadda ad as_) s

/-- The effect of `ARNDQ` (R186). -/
def sylArndq (cd : RegIx) (as_ : AccIx) : Body := fixX cd (rounded (fun c s => accI c s as_) (fun _ _ => 2 ^ 64))

/-- ARNDQ (R186). -/
def execArndq (p : Nat) (cd : RegIx) (as_ : AccIx) (s : State) : Host.Outcome State Fault Refusal :=
  runSyl (.arndq p cd as_) p (sylArndq cd as_) s

/-- The effect of `ARNDW` (R186). -/
def sylArndw (cd : RegIx) (as_ : AccIx) : Body := fixW cd (rounded (fun c s => accI c s as_) (fun _ _ => 1))

/-- ARNDW (R186). -/
def execArndw (p : Nat) (cd : RegIx) (as_ : AccIx) (s : State) : Host.Outcome State Fault Refusal :=
  runSyl (.arndw p cd as_) p (sylArndw cd as_) s

/-- The effect of `ASHRQ` (R186). -/
def sylAshrq (cd : RegIx) (as_ : AccIx) (cs2 : RegIx) : Body := fixX cd (rounded (fun c s => accI c s as_) (fun c s => shiftDen (s.srcX c.pair c.bank cs2.toNat).toNat))

/-- ASHRQ (R186). -/
def execAshrq (p : Nat) (cd : RegIx) (as_ : AccIx) (cs2 : RegIx) (s : State) : Host.Outcome State Fault Refusal :=
  runSyl (.ashrq p cd as_ cs2) p (sylAshrq cd as_ cs2) s

/-- The effect of `ASHRW` (R186). -/
def sylAshrw (cd : RegIx) (as_ : AccIx) (cs2 : RegIx) : Body := fixW cd (rounded (fun c s => accI c s as_) (fun c s => shiftDen (s.srcX c.pair c.bank cs2.toNat).toNat))

/-- ASHRW (R186). -/
def execAshrw (p : Nat) (cd : RegIx) (as_ : AccIx) (cs2 : RegIx) (s : State) : Host.Outcome State Fault Refusal :=
  runSyl (.ashrw p cd as_ cs2) p (sylAshrw cd as_ cs2) s

/-- The effect of `ARNDM` (R186). -/
def sylArndm (cd : RegIx) (as_ : AccIx) : Body := fixX cd (rounded (fun c s => accI c s as_) (fun _ _ => 1))

/-- ARNDM (R186). -/
def execArndm (p : Nat) (cd : RegIx) (as_ : AccIx) (s : State) : Host.Outcome State Fault Refusal :=
  runSyl (.arndm p cd as_) p (sylArndm cd as_) s

/-- The effect of `QADD` (R187). -/
def sylQadd (cd : RegIx) (cs1 : RegIx) (cs2 : RegIx) : Body := fixX cd (fitted (fun c s => xI c s cs1 + xI c s cs2))

/-- QADD (R187). -/
def execQadd (p : Nat) (cd : RegIx) (cs1 : RegIx) (cs2 : RegIx) (s : State) : Host.Outcome State Fault Refusal :=
  runSyl (.qadd p cd cs1 cs2) p (sylQadd cd cs1 cs2) s

/-- The effect of `QSUB` (R187). -/
def sylQsub (cd : RegIx) (cs1 : RegIx) (cs2 : RegIx) : Body := fixX cd (fitted (fun c s => xI c s cs1 - xI c s cs2))

/-- QSUB (R187). -/
def execQsub (p : Nat) (cd : RegIx) (cs1 : RegIx) (cs2 : RegIx) (s : State) : Host.Outcome State Fault Refusal :=
  runSyl (.qsub p cd cs1 cs2) p (sylQsub cd cs1 cs2) s

/-- The effect of `QMULR` (R187). -/
def sylQmulr (cd : RegIx) (cs1 : RegIx) (cs2 : RegIx) : Body := fixX cd (rounded (fun c s => xI c s cs1 * xI c s cs2) (fun _ _ => 2 ^ 63))

/-- QMULR (R187). -/
def execQmulr (p : Nat) (cd : RegIx) (cs1 : RegIx) (cs2 : RegIx) (s : State) : Host.Outcome State Fault Refusal :=
  runSyl (.qmulr p cd cs1 cs2) p (sylQmulr cd cs1 cs2) s

/-- The effect of `QNEG` (R187). -/
def sylQneg (cd : RegIx) (cs1 : RegIx) : Body := fixX cd (fitted (fun c s => -(xI c s cs1)))

/-- QNEG (R187). -/
def execQneg (p : Nat) (cd : RegIx) (cs1 : RegIx) (s : State) : Host.Outcome State Fault Refusal :=
  runSyl (.qneg p cd cs1) p (sylQneg cd cs1) s

/-- The effect of `WQADD` (R187). -/
def sylWqadd (cd : RegIx) (cs1 : RegIx) (cs2 : RegIx) : Body := fixW cd (fitted (fun c s => wI c s cs1 + wI c s cs2))

/-- WQADD (R187). -/
def execWqadd (p : Nat) (cd : RegIx) (cs1 : RegIx) (cs2 : RegIx) (s : State) : Host.Outcome State Fault Refusal :=
  runSyl (.wqadd p cd cs1 cs2) p (sylWqadd cd cs1 cs2) s

/-- The effect of `WQSUB` (R187). -/
def sylWqsub (cd : RegIx) (cs1 : RegIx) (cs2 : RegIx) : Body := fixW cd (fitted (fun c s => wI c s cs1 - wI c s cs2))

/-- WQSUB (R187). -/
def execWqsub (p : Nat) (cd : RegIx) (cs1 : RegIx) (cs2 : RegIx) (s : State) : Host.Outcome State Fault Refusal :=
  runSyl (.wqsub p cd cs1 cs2) p (sylWqsub cd cs1 cs2) s

/-- The effect of `WQMULR` (R187). -/
def sylWqmulr (cd : RegIx) (cs1 : RegIx) (cs2 : RegIx) : Body := fixW cd (rounded (fun c s => wI c s cs1 * wI c s cs2) (fun _ _ => 2 ^ 127))

/-- WQMULR (R187). -/
def execWqmulr (p : Nat) (cd : RegIx) (cs1 : RegIx) (cs2 : RegIx) (s : State) : Host.Outcome State Fault Refusal :=
  runSyl (.wqmulr p cd cs1 cs2) p (sylWqmulr cd cs1 cs2) s

/-- The effect of `WQNEG` (R187). -/
def sylWqneg (cd : RegIx) (cs1 : RegIx) : Body := fixW cd (fitted (fun c s => -(wI c s cs1)))

/-- WQNEG (R187). -/
def execWqneg (p : Nat) (cd : RegIx) (cs1 : RegIx) (s : State) : Host.Outcome State Fault Refusal :=
  runSyl (.wqneg p cd cs1) p (sylWqneg cd cs1) s

/-- The effect of `QTOW` (R187). -/
def sylQtow (cd : RegIx) (cs1 : RegIx) : Body := fixW cd (fun c s => ((s.srcX c.pair c.bank cs1.toNat).setWidth 128 <<< 64, noFlags))

/-- QTOW (R187). -/
def execQtow (p : Nat) (cd : RegIx) (cs1 : RegIx) (s : State) : Host.Outcome State Fault Refusal :=
  runSyl (.qtow p cd cs1) p (sylQtow cd cs1) s

/-- The effect of `WTOQ` (R187). -/
def sylWtoq (cd : RegIx) (cs1 : RegIx) : Body := fixX cd (rounded (fun c s => wI c s cs1) (fun _ _ => 2 ^ 64))

/-- WTOQ (R187). -/
def execWtoq (p : Nat) (cd : RegIx) (cs1 : RegIx) (s : State) : Host.Outcome State Fault Refusal :=
  runSyl (.wtoq p cd cs1) p (sylWtoq cd cs1) s

/-- The effect of `QDIV` (R188). -/
def sylQdiv (cd : RegIx) (cs1 : RegIx) (cs2 : RegIx) : Body := fixX cd (divided (fun c s => xI c s cs1 * 2 ^ 63) (fun c s => xI c s cs2))

/-- QDIV (R188). -/
def execQdiv (p : Nat) (cd : RegIx) (cs1 : RegIx) (cs2 : RegIx) (s : State) : Host.Outcome State Fault Refusal :=
  runSyl (.qdiv p cd cs1 cs2) p (sylQdiv cd cs1 cs2) s

/-- The effect of `WQDIV` (R188). -/
def sylWqdiv (cd : RegIx) (cs1 : RegIx) (cs2 : RegIx) : Body := fixW cd (divided (fun c s => wI c s cs1 * 2 ^ 127) (fun c s => wI c s cs2))

/-- WQDIV (R188). -/
def execWqdiv (p : Nat) (cd : RegIx) (cs1 : RegIx) (cs2 : RegIx) (s : State) : Host.Outcome State Fault Refusal :=
  runSyl (.wqdiv p cd cs1 cs2) p (sylWqdiv cd cs1 cs2) s

/-- The effect of `MDIV` (R188). -/
def sylMdiv (cd : RegIx) (cs1 : RegIx) (cs2 : RegIx) : Body := fixW cd (divided (fun c s => wI c s cs1) (fun c s => wI c s cs2))

/-- MDIV (R188). -/
def execMdiv (p : Nat) (cd : RegIx) (cs1 : RegIx) (cs2 : RegIx) (s : State) : Host.Outcome State Fault Refusal :=
  runSyl (.mdiv p cd cs1 cs2) p (sylMdiv cd cs1 cs2) s

/-- The effect of `MSCALE` (R188). -/
def sylMscale (cd : RegIx) (cs1 : RegIx) (cs2 : RegIx) : Body := fixW cd (divided (fun c s => wI c s cd * wI c s cs1) (fun c s => wI c s cs2))

/-- MSCALE (R188). -/
def execMscale (p : Nat) (cd : RegIx) (cs1 : RegIx) (cs2 : RegIx) (s : State) : Host.Outcome State Fault Refusal :=
  runSyl (.mscale p cd cs1 cs2) p (sylMscale cd cs1 cs2) s

/-- The effect of `MMULQ` (R188). -/
def sylMmulq (cd : RegIx) (cs1 : RegIx) : Body := fixW cd (rounded (fun c s => wI c s cd * xI c s cs1) (fun _ _ => 2 ^ 63))

/-- MMULQ (R188). -/
def execMmulq (p : Nat) (cd : RegIx) (cs1 : RegIx) (s : State) : Host.Outcome State Fault Refusal :=
  runSyl (.mmulq p cd cs1) p (sylMmulq cd cs1) s

/-- The effect of `MRND` (R189). -/
def sylMrnd (cd : RegIx) (cs1 : RegIx) : Body := fixW cd (quantum (fun c s => wI c s cs1))

/-- MRND (R189). -/
def execMrnd (p : Nat) (cd : RegIx) (cs1 : RegIx) (s : State) : Host.Outcome State Fault Refusal :=
  runSyl (.mrnd p cd cs1) p (sylMrnd cd cs1) s

/-- The effect of `MBRK` (R189). -/
def sylMbrk (cd : RegIx) (cs1 : RegIx) : Body := fixW cd (breakage (fun c s => wI c s cs1))

/-- MBRK (R189). -/
def execMbrk (p : Nat) (cd : RegIx) (cs1 : RegIx) (s : State) : Host.Outcome State Fault Refusal :=
  runSyl (.mbrk p cd cs1) p (sylMbrk cd cs1) s

/-- The effect of `MRNDX` (R189). -/
def sylMrndx (cd : RegIx) (cs1 : RegIx) : Body := fixX cd (quantum (fun c s => xI c s cs1))

/-- MRNDX (R189). -/
def execMrndx (p : Nat) (cd : RegIx) (cs1 : RegIx) (s : State) : Host.Outcome State Fault Refusal :=
  runSyl (.mrndx p cd cs1) p (sylMrndx cd cs1) s

/-- The effect of `FSYNC` (R192). -/
def sylFsync : Body := fsync

/-- FSYNC (R192). -/
def execFsync (p : Nat) (s : State) : Host.Outcome State Fault Refusal :=
  runSyl (.fsync p) p sylFsync s

end Sys2Proof.Machine
end

