-- ==== Sys2Proof/Machine/SylTally.lean ====
section
/-!
DEFINITION. Tally syllables (R205-R213): each syllable's own effect (`syl...`) and its meaning as a command (`exec...`).
-/
namespace Sys2Proof.Machine
open Sys2Proof (Instr Imm)

/-- A cell or snapshot access as one piece: its translation, then the checks after it (R208). -/
def cellPiece (c : SCtx) (k : AKind) (needW : Bool) (va : Nat) (s : State) : Res Piece :=
  (xlate s { (s.via c.pair c.bank) with noW := !needW, noA := true, noD := true } k va 64).bind (fun x s1 =>
    if !s1.pairOk c.pair (s1.via c.pair c.bank).task x.sp x.pa 64 k.rkind || !(x.sp = .dram) then .flt (xfault region 0 va) s1
    else if !(x.mt == 0) then .flt (xfault pageFault 0 va) s1
    else .ok x s1)

/-- The cell operand of a tally syllable (R208). -/
def cellOperand (c : SCtx) (a : Cap) (need : List Nat) (k : AKind) (needW : Bool) (s : State) : Res Piece :=
  match checkAccess a a.addr 64 need with
  | some q => .flt (fltA q 1 a.addr) s
  | none =>
    if !(a.addr % 64 == 0) then .flt (fltA align 0 a.addr) s else cellPiece c k needW a.addr s

/-- A tally request leaves the pair (R206). -/
def State.tallySend (s : State) (op : TallyOp) : State :=
  { s with tally := { s.tally with transit := s.tally.transit ++ [op], nextId := s.tally.nextId + 1 } }

/-- A tally request of a bank for a cell. -/
def State.tallyReq (s : State) (c : SCtx) (kind : TallyKind) (cell : Nat) (cd : RegIx) : TallyOp :=
  let k := s.bank c.pair c.bank
  { id := s.tally.nextId, pair := c.pair, bank := c.bank, task := k.task, kind := kind, cell := cell, amount := 0,
    stampTime := 0, stampUnc := false, stampPort := 0, sat := k.sat, reqT := 0, cd := cd.toNat, dst := [] }

/-- `TADD` (R205, R208, R211). -/
def tadd (cd cs1 cs2 ca : RegIx) : Body := fun c s =>
  let st := s.src c.pair c.bank cs2.toNat
  match checkTyped st 0xFF06 with
  | some q => .flt (fltD q 2) s
  | none =>
    (cellOperand c (s.src c.pair c.bank cs1.toNat) [permTA] .store false s).bind (fun x s1 =>
      .ok false (s1.tallySend { s1.tallyReq c .add x.pa cd with
        amount := s.srcW c.pair c.bank ca.toNat, stampTime := st.addr % 2 ^ 62, stampUnc := st.addr.testBit 62,
        stampPort := st.basem }))

/-- `TCLOSE` (R205, R208, R212). -/
def tclose (cd cs1 cs2 : RegIx) : Body := fun c s =>
  (cellOperand c (s.src c.pair c.bank cs1.toNat) [permTA, permST] .store true s).bind (fun x s1 =>
    .ok false (s1.tallySend { s1.tallyReq c .close x.pa cd with reqT := (s.srcX c.pair c.bank cs2.toNat).toNat }))

/-- `TREAD` (R205, R208, R213). -/
def tread (cd cs1 cs2 : RegIx) : Body := fun c s =>
  let d := s.src c.pair c.bank cs2.toNat
  (cellOperand c (s.src c.pair c.bank cs1.toNat) [permTA, permLD] .load true s).bind (fun x s1 =>
    match checkAccess d d.addr 64 [permST] with
    | some q => .flt (fltA q 2 d.addr) s1
    | none =>
      if !(d.addr % 16 == 0) then .flt (fltA align 0 d.addr) s1
      else
        (planRange s1 (s1.via c.pair c.bank) .store d.addr 64).bind (fun ps s2 =>
          .ok false (s2.tallySend { s2.tallyReq c .read x.pa cd with dst := ps.map (fun y => (y.pa, y.len)) })))

/-- The effect of `TADD` (R211). -/
def sylTadd (cd : RegIx) (cs1 : RegIx) (cs2 : RegIx) (ca : RegIx) : Body := tadd cd cs1 cs2 ca

/-- TADD (R211). -/
def execTadd (p : Nat) (cd : RegIx) (cs1 : RegIx) (cs2 : RegIx) (ca : RegIx) (s : State) : Host.Outcome State Fault Refusal :=
  runSyl (.tadd p cd cs1 cs2 ca) p (sylTadd cd cs1 cs2 ca) s

/-- The effect of `TCLOSE` (R212). -/
def sylTclose (cd : RegIx) (cs1 : RegIx) (cs2 : RegIx) : Body := tclose cd cs1 cs2

/-- TCLOSE (R212). -/
def execTclose (p : Nat) (cd : RegIx) (cs1 : RegIx) (cs2 : RegIx) (s : State) : Host.Outcome State Fault Refusal :=
  runSyl (.tclose p cd cs1 cs2) p (sylTclose cd cs1 cs2) s

/-- The effect of `TREAD` (R213). -/
def sylTread (cd : RegIx) (cs1 : RegIx) (cs2 : RegIx) : Body := tread cd cs1 cs2

/-- TREAD (R213). -/
def execTread (p : Nat) (cd : RegIx) (cs1 : RegIx) (cs2 : RegIx) (s : State) : Host.Outcome State Fault Refusal :=
  runSyl (.tread p cd cs1 cs2) p (sylTread cd cs1 cs2) s

end Sys2Proof.Machine
end

