-- ==== Sys2Proof/Machine/SylMulti.lean ====
section
/-!
DEFINITION. Multi-slot syllables (R155-R163, R170-R173): each syllable's own effect (`syl...`) and its meaning as a command (`exec...`).
-/
namespace Sys2Proof.Machine
open Sys2Proof (Instr Imm)

/-! ## Slots (R156) -/

/-- The slots from number n on: a fault leaves `PROG` naming the slot that raised it (R156). -/
def slotsFrom (c : SCtx) (n : Nat) (s : State) : List (State → Res Unit) → Res Unit
  | [] => .ok () s
  | a :: as =>
    match a s with
    | .flt f s1 => .flt f (s1.progAt c n)
    | .ok _ s1 => slotsFrom c (n + 1) s1 as

/-- How many of `r` slots or pages a syllable performs now: all of them, unless an event may come between two of them; then how
many is free, and the syllable stays at its bundle with `PROG` naming the next (R83, R156, R175; log 17). -/
def State.slotsNow (s : State) (c : SCtx) (r : Nat) : Nat × State :=
  if r ≤ 1 || !s.eventMayCome c.pair then (r, s)
  else
    let u := s.fresh
    let n := Config.slotsDone u.1 % r
    (if n = 0 then r else n, u.2)

/-- The slots of a progress-keeping syllable from the one that `PROG` names (R156); the completion is the last of them,
and a fault in it names the slot after the others. -/
def runSlots (c : SCtx) (slots : List (State → Res Unit)) (done : State → Res Bool) (s : State) : Res Bool :=
  let n := (s.bank c.pair c.bank).prog
  let rest := slots.drop n
  let q := s.slotsNow c rest.length
  (slotsFrom c n q.2 (rest.take q.1)).bind (fun _ s1 =>
    if q.1 < rest.length then .ok true (s1.progAt c (n + q.1))
    else
      match done s1 with
      | .flt f s2 => .flt f (s2.progAt c slots.length)
      | .ok v s2 => .ok v (s2.progDone c))

/-- Is the list style selected (R129)? -/
def State.listStyle (s : State) (c : SCtx) : Bool := (s.pair c.pair).ctxcfg.getLsbD 0

/-- c n of bank t as a syllable of the running bank reads it (R133, R272). -/
def State.srcOf (s : State) (c : SCtx) (t n : Nat) : Cap :=
  if t = c.bank then s.src c.pair c.bank n else (s.bank c.pair t).reg n

/-- A capability stored to one granule (R157, R158). -/
def putGranule (c : SCtx) (va : Nat) (v : Cap) (s : State) : Res Unit :=
  (planCap s (s.via c.pair c.bank) (storeKind v) va).bind (fun x s1 => .ok () (s1.capStore (s1.via c.pair c.bank) v x))

/-- Data bytes stored at the start of one granule, checked as a 16-byte access (R147, R158). -/
def putBytes (c : SCtx) (va : Nat) (bs : List Byte) (s : State) : Res Unit :=
  (planAccess s (s.via c.pair c.bank) .store false va 16).bind (fun ps s1 => .ok () (s1.writePieces ps bs))

/-- A capability loaded from one granule; `lc` says that the authority holds LC (R48, R73, R87). -/
def getGranule (c : SCtx) (lc : Bool) (va : Nat) (s : State) : Res Cap :=
  (planCap s (s.via c.pair c.bank) .load va).bind (fun x s1 =>
    let r := s1.capLoad (s1.via c.pair c.bank) lc x
    .ok r.1 r.2)

/-- The sixteen bytes of one granule, as data. -/
def getBytes (c : SCtx) (va : Nat) (s : State) : Res (List Byte) :=
  (planAccess s (s.via c.pair c.bank) .load false va 16).bind (fun ps s1 =>
    let r := s1.readPieces ps
    .ok r.1 r.2)

/-- A register restored from one granule into bank t. -/
def restoreReg (c : SCtx) (t : Nat) (lc : Bool) (va n : Nat) (s : State) : Res Unit :=
  (getGranule c lc va s).bind (fun v s1 => .ok () (s1.setReg c.pair t n v))

/-- The registers that a mask names, from register `lo` on, in ascending order. -/
def namedRegs (m lo n : Nat) : List Nat := ((List.range n).filter (fun i => m.testBit i)).map (fun i => lo + i)

/-- Each item of a list with its granule's address. -/
def granulesFrom {α : Type} (va : Nat) : List α → List (Nat × α)
  | [] => []
  | a :: as => (va, a) :: granulesFrom (addrOf ((va : Int) + 16)) as

/-- The permissions that a multi-register store of some values needs (R157). -/
def storesNeed (vs : List Cap) : List Nat :=
  [permST] ++ (if vs.any (fun v => v.tag) then [permSC] else [])
    ++ (if vs.any (fun v => v.tag && !v.has permGL) then [permSL] else [])

/-- The old values of registers that a sentinel's load writes: the delay syllable still reads them (R133). -/
def State.oldRegs (s : State) (c : SCtx) (t : Nat) (regs : List Nat) : List (Nat × Cap) :=
  if t = c.bank then regs.map (fun n => (n, (s.bank c.pair c.bank).reg n)) else []

/-- The old p1-p7 for the delay syllable (R133). -/
def State.oldPreds (s : State) (c : SCtx) (t : Nat) : List (Nat × Cap) :=
  if t = c.bank then [(32, intCap ((s.bank c.pair c.bank).preds.setWidth 64))] else []

/-- The old `LC`, `LS` and `LE` for the delay syllable (R133). -/
def State.oldLoop (s : State) (c : SCtx) (t : Nat) : List (Nat × Cap) :=
  let k := s.bank c.pair c.bank
  if t = c.bank then [(44, intCap k.lc), (45, intCap k.ls), (46, intCap k.le)] else []

/-! ## STM and LDM (R157) -/

/-- The mask of `STM` and `LDM` and the bank they act on are legal (R157, R272, R273). -/
def multiIllegal (c : SCtx) (s : State) (m : Nat) : Bool :=
  s.listStyle c || m.testBit 0 || decide (2 ^ 32 ≤ m) || !s.winOk c

/-- `STM` (R157). -/
def storeMulti (cs1 cs2 : RegIx) : Body := fun c s =>
  let a := s.src c.pair c.bank cs1.toNat
  let m := (s.srcX c.pair c.bank cs2.toNat).toNat
  let t := s.winBank c
  let vs := (namedRegs m 0 32).map (fun n => s.srcOf c t n)
  if multiIllegal c s m then illegalAt s
  else
    match checkAccess a a.addr (16 * vs.length) (storesNeed vs) with
    | some k => .flt (fltA k 1 a.addr) s
    | none =>
      if !(a.addr % 16 == 0) then .flt (fltA align 0 a.addr) s
      else runSlots c ((granulesFrom a.addr vs).map (fun g => putGranule c g.1 g.2)) (fun s1 => .ok false s1) s

/-- `LDM` (R157). -/
def loadMulti (cs1 cs2 : RegIx) : Body := fun c s =>
  let a := s.src c.pair c.bank cs1.toNat
  let m := (s.srcX c.pair c.bank cs2.toNat).toNat
  let t := s.winBank c
  let regs := namedRegs m 0 32
  if multiIllegal c s m || m.testBit cs1.toNat || m.testBit cs2.toNat then illegalAt s
  else
    match checkAccess a a.addr (16 * regs.length) [permLD] with
    | some k => .flt (fltA k 1 a.addr) s
    | none =>
      if !(a.addr % 16 == 0) then .flt (fltA align 0 a.addr) s
      else
        runSlots c ((granulesFrom a.addr regs).map (fun g => restoreReg c t (a.has permLC) g.1 g.2))
          (fun s1 => .ok false (s1.loaded c (s.oldRegs c t regs))) s

/-! ## SVCTX and LDCTX (R158, R159) -/

/-- The breach of R158 or R273 of a save-area syllable: `lower` says that the list head is to lie in c16-c31. -/
def areaIllegal (c : SCtx) (s : State) (cd : RegIx) (lower : Bool) : Bool :=
  !s.listStyle c || (if lower then decide (cd.toNat < 16) else decide (cd.toNat = 0 || 16 ≤ cd.toNat)) || !s.winOk c

/-- The checks of R159 on a save area. -/
def areaCheck (a : Cap) (operand : Nat) (need : List Nat) : Option PFault :=
  match checkAccess a a.addr 512 need with
  | some k => some (fltA k operand a.addr)
  | none => if !(a.addr % 16 == 0) then some (fltA align 0 a.addr) else none

/-- p1-p7 as a 64-bit word (R158). -/
def predBytes (k : Bank) : List Byte := natBytes 8 (bitsAt k.preds.toNat 1 7 * 2)

/-- `SVCTX.U` (R158, R159). -/
def saveUpper (cd cs1 : RegIx) : Body := fun c s =>
  let a := s.src c.pair c.bank cs1.toNat
  let t := s.winBank c
  let head := s.src c.pair c.bank cd.toNat
  if areaIllegal c s cd false then illegalAt s
  else
    match areaCheck a 1 [permST, permSC, permSL] with
    | some f => .flt f s
    | none =>
      runSlots c
        ([putGranule c a.addr head, fun s1 => putBytes c (a.addr + 16) (predBytes (s1.seenOf c t)) s1]
          ++ (granulesFrom (a.addr + 32) ((List.range 16).map (fun i => s.srcOf c t (16 + i)))).map
              (fun g => putGranule c g.1 g.2))
        (fun s1 => .ok false (s1.setReg c.pair c.bank cd.toNat a)) s

/-- The `PCC` that `SVCTX.L` stores: of the running bank with its cursor at the next bundle, of a window bank its resume
point (R158, R272). -/
def savedPcc (c : SCtx) (t : Nat) (s : State) : Cap :=
  let k := (s.bank c.pair t).pcc
  if t = c.bank then k.withAddr c.next (k.tag && k.representable c.next) else k

/-- `SVCTX.L` (R158, R159). -/
def saveLower (cd cs1 : RegIx) : Body := fun c s =>
  let a := s.src c.pair c.bank cs1.toNat
  let t := s.winBank c
  let head := s.src c.pair c.bank cd.toNat
  if areaIllegal c s cd true then illegalAt s
  else
    match areaCheck a 1 [permST, permSC, permSL] with
    | some f => .flt f s
    | none =>
      runSlots c
        ([putGranule c a.addr head, fun s1 => putGranule c (a.addr + 0x10) (savedPcc c t s1) s1,
          fun s1 =>
            let st := if t = c.bank then (s1.progAt c 2).statusOf c.pair t else s1.statusOf c.pair t
            putBytes c (a.addr + 0x20) (natBytes 8 st.toNat ++ natBytes 8 (s1.seenOf c t).lc.toNat) s1,
          fun s1 =>
            putBytes c (a.addr + 0x30)
              (natBytes 8 (s1.seenOf c t).ls.toNat ++ natBytes 8 (s1.seenOf c t).le.toNat) s1]
          ++ (granulesFrom (a.addr + 0x40) ((List.range 15).map (fun i => s.srcOf c t (1 + i)))).map
              (fun g => putGranule c g.1 g.2))
        (fun s1 => .ok false (s1.setReg c.pair c.bank cd.toNat a)) s

/-- The link of a save area, checked in its place among the slots and loaded at completion (R158, R159). -/
def linkSlot (c : SCtx) (va : Nat) (s : State) : Res Unit :=
  (planCap s (s.via c.pair c.bank) .load va).bind (fun _ s1 => .ok () s1)

/-- `LDCTX.U` (R158, R159). -/
def restoreUpper (cd : RegIx) : Body := fun c s =>
  let a := s.src c.pair c.bank cd.toNat
  let t := s.winBank c
  if areaIllegal c s cd false then illegalAt s
  else
    match areaCheck a 3 [permLD, permLC] with
    | some f => .flt f s
    | none =>
      runSlots c
        ([linkSlot c a.addr,
          fun s1 => (getBytes c (a.addr + 16) s1).bind (fun bs s2 =>
            .ok () (s2.updBank c.pair t (fun k => { k with preds := BitVec.ofNat 8 (cellGet bs 0 1) &&& 0xFE#8 })))]
          ++ (granulesFrom (a.addr + 32) ((List.range 16).map (fun i => 16 + i))).map
              (fun g => restoreReg c t true g.1 g.2))
        (fun s1 => (getGranule c true a.addr s1).bind (fun l s2 =>
          .ok false ((s2.setReg c.pair c.bank cd.toNat l).loaded c
            (s.oldRegs c t ((List.range 16).map (fun i => 16 + i)) ++ [(cd.toNat, (s.bank c.pair c.bank).reg cd.toNat)]
              ++ s.oldPreds c t)))) s

/-- The end of `LDCTX.L` (R159, R272): the head from the link, the restored `STATUS` with `PROG` 0 after the mode shadow,
and the restored `PCC`. -/
def restoreEnd (c : SCtx) (t : Nat) (cd : RegIx) (target link : Cap) (st : Word) (olds : List (Nat × Cap)) (s : State) :
    Res Bool :=
  let sy := s.holdsSy c
  let x := BitVec.ofNat 64 (setBitsAt st.toNat 24 40 0)
  let s1 := (s.setReg c.pair c.bank cd.toNat link).loaded c olds
  let s2 := (s1.writeStatus c t x (statusMask c.pair sy)).progDone c
  if t = c.bank then .ok true (s2.jumpTo c target)
  else .ok false (s2.updBank c.pair t (fun k => { k.setProg 0 with pcc := target.withOtype 0 true }))

/-- `LDCTX.L` (R158, R159): the `PCC` value is loaded and checked first. -/
def restoreLower (cd : RegIx) : Body := fun c s =>
  let a := s.src c.pair c.bank cd.toNat
  let t := s.winBank c
  let regs := (List.range 15).map (fun i => 1 + i)
  if areaIllegal c s cd true then illegalAt s
  else
    match areaCheck a 3 [permLD, permLC] with
    | some f => .flt f s
    | none =>
      (getGranule c true (a.addr + 0x10) s).bind (fun target s0 =>
        match checkTarget target with
        | some k => .flt (targetFault k 4 target.addr) s0
        | none =>
          runSlots c
            ([linkSlot c a.addr, fun s1 => linkSlot c (a.addr + 0x10) s1,
              fun s1 => (getBytes c (a.addr + 0x20) s1).bind (fun bs s2 =>
                .ok () (s2.updBank c.pair t (fun k => { k with lc := BitVec.ofNat 64 (cellGet bs 8 8) }))),
              fun s1 => (getBytes c (a.addr + 0x30) s1).bind (fun bs s2 =>
                .ok () (s2.updBank c.pair t (fun k =>
                  { k with ls := BitVec.ofNat 64 (cellGet bs 0 8), le := BitVec.ofNat 64 (cellGet bs 8 8) })))]
              ++ (granulesFrom (a.addr + 0x40) regs).map (fun g => restoreReg c t true g.1 g.2))
            (fun s1 => (getBytes c (a.addr + 0x20) s1).bind (fun bs s2 => (getGranule c true a.addr s2).bind (fun l s3 =>
              restoreEnd c t cd target l (BitVec.ofNat 64 (cellGet bs 0 8))
                (s.oldRegs c t regs ++ [(cd.toNat, (s.bank c.pair c.bank).reg cd.toNat)] ++ s.oldLoop c t) s3))) s0)

/-! ## CALLM and CALLM.R (R162, R163) -/

/-- ILLEGAL under R162: the mask's range, the fields of the style, the list head named. -/
def callIllegal (list : Bool) (cd cs2 : RegIx) (imm : Imm) : Bool :=
  decide (immVal imm < 0) || decide (0xFFFF < immVal imm)
    || (if list then decide (16 ≤ cd.toNat) && (immVal imm).toNat.testBit (cd.toNat - 16)
        else !(cd == 0) || !(cs2 == 0))

/-- The completion of `CALLM`: the stack or the list head, then c1 and `PCC` (R162). -/
def callEnd (c : SCtx) (list : Bool) (cd : RegIx) (area target : Cap) (s : State) : Res Bool :=
  let s1 := if list then s.setReg c.pair c.bank cd.toNat area else s.setReg c.pair c.bank 2 area
  .ok true ((s1.setReg c.pair c.bank 1 (s.sentry c)).jumpTo c target)

/-- `CALLM` (R162). In list style the link is one of the values that the area's permissions must cover. -/
def callMulti (cd cs1 cs2 : RegIx) (imm : Imm) : Body := fun c s =>
  let list := s.listStyle c
  let target := s.src c.pair c.bank cs1.toNat
  let m := (immVal imm).toNat
  let vs := (namedRegs m 16 16).map (fun n => s.src c.pair c.bank n)
  let mask := intCap (BitVec.ofNat 64 m)
  let c2 := s.src c.pair c.bank 2
  let head := s.src c.pair c.bank cd.toNat
  let area := if list then s.src c.pair c.bank cs2.toNat
    else c2.withAddr (addrOf ((c2.addr : Int) - 16 * ((vs.length : Int) + 1))) c2.tag
  let granules := if list then head :: mask :: vs else mask :: vs
  if callIllegal list cd cs2 imm then illegalAt s
  else
    match checkTarget target with
    | some k => .flt (targetFault k 1 target.addr) s
    | none =>
      match checkAccess (if list then area else c2) area.addr (if list then 512 else 16 * granules.length) (storesNeed granules) with
      | some k => .flt (fltA k (if list then 2 else 5) area.addr) s
      | none =>
        if !(area.addr % 16 == 0) then .flt (fltA align 0 area.addr) s
        else
          runSlots c ((granulesFrom area.addr granules).map (fun g => putGranule c g.1 g.2))
            (callEnd c list cd area target) s

/-- The completion of `CALLM.R`: the stack or the list head, then `PCC` (R163). -/
def callBack (c : SCtx) (list : Bool) (cd : RegIx) (a target : Cap) (regs : List Nat) (s0 s : State) : Res Bool :=
  if list then
    (getGranule c true a.addr s).bind (fun l s1 =>
      .ok true (((s1.setReg c.pair c.bank cd.toNat l).loaded c (s0.oldRegs c c.bank (cd.toNat :: regs))).jumpTo c target))
  else
    .ok true (((s.setReg c.pair c.bank 2
        (setCursor (addrOf ((a.addr : Int) + 16 * ((regs.length : Int) + 1))) a)).loaded c
          (s0.oldRegs c c.bank regs)).jumpTo c target)

/-- `CALLM.R` (R163): the mask word is read on every execution; its granule and the link's are slots like the others. -/
def callReturn (cd : RegIx) : Body := fun c s =>
  let list := s.listStyle c
  let target := s.src c.pair c.bank 1
  let a := if list then s.src c.pair c.bank cd.toNat else s.src c.pair c.bank 2
  let operand := if list then 3 else 5
  let maskAt := if list then addrOf ((a.addr : Int) + 16) else a.addr
  if !list && !(cd == 0) then illegalAt s
  else
    match checkTarget target with
    | some k => .flt (targetFault k 5 target.addr) s
    | none =>
      (memLoad c a operand maskAt 8 s).bind (fun m s1 =>
        let regs := namedRegs m 16 16
        let regAt := addrOf ((maskAt : Int) + 16)
        if decide (2 ^ 16 ≤ m) || (list && regs.contains cd.toNat) then illegalAt s1
        else
          match (if list then checkAccess a a.addr (32 + 16 * regs.length) [permLD, permLC]
              else checkAccess a regAt (16 * regs.length) [permLD, permLC]) with
          | some k => .flt (fltA k operand (if list then a.addr else regAt)) s1
          | none =>
            if !(a.addr % 16 == 0) then .flt (fltA align 0 a.addr) s1
            else
              runSlots c
                ((if list then [linkSlot c a.addr, linkSlot c maskAt] else [linkSlot c maskAt])
                  ++ (granulesFrom regAt regs).map (fun g => restoreReg c c.bank true g.1 g.2))
                (callBack c list cd a target regs s) s1)

/-- The effect of `STM` (R157). -/
def sylStm (cs1 : RegIx) (cs2 : RegIx) : Body := storeMulti cs1 cs2

/-- STM (R157). -/
def execStm (p : Nat) (cs1 : RegIx) (cs2 : RegIx) (s : State) : Host.Outcome State Fault Refusal :=
  runSyl (.stm p cs1 cs2) p (sylStm cs1 cs2) s

/-- The effect of `LDM` (R157). -/
def sylLdm (cs1 : RegIx) (cs2 : RegIx) : Body := loadMulti cs1 cs2

/-- LDM (R157). -/
def execLdm (p : Nat) (cs1 : RegIx) (cs2 : RegIx) (s : State) : Host.Outcome State Fault Refusal :=
  runSyl (.ldm p cs1 cs2) p (sylLdm cs1 cs2) s

/-- The effect of `SVCTX_U` (R158). -/
def sylSvctxU (cd : RegIx) (cs1 : RegIx) : Body := saveUpper cd cs1

/-- SVCTX_U (R158). -/
def execSvctxU (p : Nat) (cd : RegIx) (cs1 : RegIx) (s : State) : Host.Outcome State Fault Refusal :=
  runSyl (.svctxU p cd cs1) p (sylSvctxU cd cs1) s

/-- The effect of `SVCTX_L` (R158). -/
def sylSvctxL (cd : RegIx) (cs1 : RegIx) : Body := saveLower cd cs1

/-- SVCTX_L (R158). -/
def execSvctxL (p : Nat) (cd : RegIx) (cs1 : RegIx) (s : State) : Host.Outcome State Fault Refusal :=
  runSyl (.svctxL p cd cs1) p (sylSvctxL cd cs1) s

/-- The effect of `LDCTX_U` (R158). -/
def sylLdctxU (cd : RegIx) : Body := restoreUpper cd

/-- LDCTX_U (R158). -/
def execLdctxU (p : Nat) (cd : RegIx) (s : State) : Host.Outcome State Fault Refusal :=
  runSyl (.ldctxU p cd) p (sylLdctxU cd) s

/-- The effect of `LDCTX_L` (R159). -/
def sylLdctxL (cd : RegIx) : Body := restoreLower cd

/-- LDCTX_L (R159). -/
def execLdctxL (p : Nat) (cd : RegIx) (s : State) : Host.Outcome State Fault Refusal :=
  runSyl (.ldctxL p cd) p (sylLdctxL cd) s

/-- The effect of `CALLM` (R162). -/
def sylCallm (cd : RegIx) (cs1 : RegIx) (cs2 : RegIx) (imm : Imm) : Body := callMulti cd cs1 cs2 imm

/-- CALLM (R162). -/
def execCallm (p : Nat) (cd : RegIx) (cs1 : RegIx) (cs2 : RegIx) (imm : Imm) (s : State) : Host.Outcome State Fault Refusal :=
  runSyl (.callm p cd cs1 cs2 imm) p (sylCallm cd cs1 cs2 imm) s

/-- The effect of `CALLM_R` (R163). -/
def sylCallmR (cd : RegIx) : Body := callReturn cd

/-- CALLM_R (R163). -/
def execCallmR (p : Nat) (cd : RegIx) (s : State) : Host.Outcome State Fault Refusal :=
  runSyl (.callmR p cd) p (sylCallmR cd) s

end Sys2Proof.Machine
end

