-- ==== Sys2Proof/Machine/SylUnits.lean ====
section
/-!
DEFINITION. Syllables of the journal engine, the draw unit and the Eclipse sweeper: each syllable's own effect (`syl...`) and its meaning as a command (`exec...`).
-/
namespace Sys2Proof.Machine
open Sys2Proof (Instr Imm)

/-! ## JAPP, JSEAL and DRAW (R169, R170) -/

/-- A status in cd: an untagged integer (R170, R370). -/
def State.unitStatus (s : State) (c : SCtx) (cd : RegIx) (n : Nat) : State := s.setX c.pair c.bank cd.toNat (BitVec.ofNat 64 n)

/-- The bank waits for a unit's answer: its bundle retires, and a ledger pair goes on with another context (R23, R264);
a sentinel is held (R368). -/
def State.unitWait (s : State) (c : SCtx) (cd : RegIx) : State :=
  let s1 := (s.retireBundle c (s.bank c.pair c.bank) false).updBank c.pair c.bank (fun k => { k with waitCd := some cd.toNat, ready := false })
  if isSentinel c.pair then s1.updBank c.pair c.bank (fun k => { k with st := .waiting })
  else s1.leaveChain c.pair c.bank .waiting

/-- The issuer of a bank's request. -/
def State.issuer (s : State) (c : SCtx) : JIssuer := .bank c.pair c.bank ((s.bank c.pair c.bank).task.getD 0) (s.pair c.pair).gen

/-- The lazy state completed before a request leaves a ledger pair (R199). -/
def State.lazyLeave (s : State) (c : SCtx) : Res Unit :=
  if isSentinel c.pair then .ok () s else s.lazyComplete c.pair c.bank

/-- The status that `JRN_STATUS.STATE` gives (R368, R369): DETACHING, STOPPED or ALARMED. -/
def State.jStatus (s : State) : Option Nat :=
  let st := s.jState
  if st = 2 then some 7 else if st = 3 then some 8 else if st = 4 then some 6 else none

/-- The status that `JAPP` returns at once (R362, R368). -/
def State.jappStatus (s : State) (p len typ : Nat) : Option Nat :=
  if 4032 < len then some 3
  else if (if isSentinel p then 0xF000 else 0xE000) ≤ typ then some 4
  else if s.standby && !isSentinel p then some 5
  else s.jStatus

/-- The payload read, the lazy state completed, the request made and the bank left waiting (R199, R368). A full queue holds
the request at its pair (R373). -/
def jappAsk (c : SCtx) (cd : RegIx) (typ : Nat) (ps : List Piece) (s : State) : Res Bool :=
  if 1024 ≤ s.jrn.queue.length then .ok true s
  else
    (s.lazyLeave c).bind (fun _ s1 =>
      let r := s1.readPieces ps
      .ok true ((r.2.jrnRequest ⟨typ, pairCode c.pair, r.1, r.2.issuer c⟩).unitWait c cd))

/-- `JAPP` (R368). -/
def japp (cd cs1 cs2 : RegIx) : Body := fun c s =>
  let a := s.src c.pair c.bank cs1.toNat
  let x := (s.srcX c.pair c.bank cs2.toNat).toNat
  let len := bitsAt x 0 16
  let typ := bitsAt x 16 16
  match checkAccess a a.addr len [permJA, permLD] with
  | some k => .flt (fltA k 1 a.addr) s
  | none =>
    if !(bitsAt x 32 32 == 0) then illegalAt s
    else
      (if len = 0 then .ok [] s else planRange s (s.via c.pair c.bank) .load a.addr len).bind (fun ps s1 =>
        match s1.jappStatus c.pair len typ with
        | some n => .ok false (s1.unitStatus c cd n)
        | none => jappAsk c cd typ ps s1)

/-- The checks of R369 on the operand of `JSEAL`. -/
def jsealCheck (a : Cap) : Option Nat :=
  if a.malformed then some capMalformed
  else if !a.tag then some capTag
  else if !(a.otype == 0) then some capSeal
  else if !a.has permJA then some capPerm
  else none

/-- The status that `JSEAL` returns at once (R369, R370). -/
def State.jsealStatus (s : State) : Option Nat :=
  if s.standby then some 5
  else
    match s.jStatus with
    | some n => some n
    | none => if s.jState = 5 then some 2 else none

/-- `JSEAL` (R369). -/
def jseal (cd cs1 : RegIx) : Body := fun c s =>
  match jsealCheck (s.src c.pair c.bank cs1.toNat) with
  | some k => .flt (fltD k 1) s
  | none =>
    match s.jsealStatus with
    | some n => .ok false (s.unitStatus c cd n)
    | none =>
      (s.lazyLeave c).bind (fun _ s1 => .ok true ((s1.sealRequest (s1.issuer c)).unitWait c cd))

/-- The checks of R395 on the operand of `DRAW` that holds DR. -/
def drawCheck (a : Cap) (id : Nat) : Option Nat :=
  if a.malformed then some capMalformed
  else if !a.tag then some capTag
  else if !(a.otype == 0) then some capSeal
  else if !a.has permDR then some capPerm
  else if id < a.base || a.top ≤ id then some capBounds
  else none

/-- The destination of a `DRAW` page by page: translation, REGION, then PAGE_FAULT (R395 item 5). -/
def drawPages (c : SCtx) (s : State) : List (Nat × Nat) → Res (List (Nat × Nat))
  | [] => .ok [] s
  | h :: hs =>
    match xlate s (s.via c.pair c.bank) .store h.1 h.2 with
    | .flt f s1 => .flt f s1
    | .ok x s1 =>
      if !(x.sp = .dram) || !s1.pairOk c.pair (s1.via c.pair c.bank).task x.sp x.pa x.len .w then .flt (xfault region 0 h.1) s1
      else if !(x.mt == 0) then .flt (xfault pageFault 0 h.1) s1
      else
        match drawPages c s1 hs with
        | .flt f s2 => .flt f s2
        | .ok ps s2 => .ok ((x.pa, x.len) :: ps) s2

/-- `DRAW` (R169, R395, R397): a full queue holds the request at its pair. -/
def drawSyl (cd cs1 cs2 : RegIx) : Body := fun c s =>
  let a := s.src c.pair c.bank cs1.toNat
  let d := s.src c.pair c.bank cs2.toNat
  let id := (s.srcX c.pair c.bank 4).toNat
  let n := (s.srcX c.pair c.bank 5).toNat
  let x := (s.srcX c.pair c.bank 6).toNat
  let k := bitsAt x 0 16
  match drawCheck a id with
  | some q => .flt (fltA q 1 (if q = capBounds then id else 0)) s
  | none =>
    match checkAccess d d.addr (8 * k) [permST] with
    | some q => .flt (fltA q 2 d.addr) s
    | none =>
      if !(bitsAt x 17 47 == 0) then illegalAt s
      else if !(d.addr % 8 == 0) then .flt (fltA align 0 d.addr) s
      else
        (drawPages c s (if k = 0 then [] else splitPages d.addr (8 * k) (8 * k / 4096 + 2))).bind (fun ps s1 =>
          if 64 ≤ s1.draw.queue.length then .ok true s1
          else
            (s1.lazyLeave c).bind (fun _ s2 =>
              .ok true ((s2.drawAsk ⟨c.pair, c.bank, (s2.bank c.pair c.bank).task.getD 0, (s2.pair c.pair).gen, cd.toNat, id, n, k,
                x.testBit 16, ps⟩).unitWait c cd)))

/-! ## ECLIPSE and ECLIPSE.R (R82, R85) -/

/-- The bitmap bits of `n` granules from granule g set or cleared (R79). -/
def State.markGranules (s : State) (g : Nat) (v : Bool) : Nat → State
  | 0 => s
  | n + 1 => ({ s with bitmap := smSet (always false) s.bitmap g v }).markGranules (g + 1) v n

/-- The pages of a region from page `n` of it on: the bits of one page lie in one line of the bitmap, at `g`; a fault leaves `PROG` naming its page (R82, R83). -/
def eclPages (c : SCtx) (v : Bool) (t : Nat) (n g : Nat) (s : State) : Nat → Res Unit
  | 0 => .ok () s
  | fuel + 1 =>
    if t ≤ g then .ok () s
    else
      let e := min ((g / 4096 + 1) * 4096) t
      let via := { (s.via c.pair c.bank) with noW := true, noA := true, noD := true }
      match xlate s via .store g (e - g) with
      | .flt f s1 => .flt f (s1.progAt c n)
      | .ok x s1 =>
        if !(x.sp = .dram) then .flt (xfault region 0 g) (s1.progAt c n)
        else eclPages c v t (n + 1) e ((s1.bitmapRead x.pa).2.markGranules (x.pa / 16) v ((e - g) / 16)) fuel

/-- The checks of R82 before any page: the access is the whole of [base, top). -/
def eclCheck (a : Cap) : Option PFault :=
  match checkAccess a a.base (a.top - a.base) [permRV] with
  | some k => some (fltA k 1 a.base)
  | none => if a.base % 16 == 0 && a.top % 16 == 0 then none else some (fltA align 0 a.base)

/-- Every page of the region of a capability from the one that `PROG` names, then its completion; an event that may come
between two pages may be taken there (R83; log 17). -/
def eclRegion (c : SCtx) (a : Cap) (v : Bool) (done : State → Res Bool) (s : State) : Res Bool :=
  let n := (s.bank c.pair c.bank).prog
  let g := if n = 0 then a.base else (a.base / 4096 + n) * 4096
  let r := (a.top + 4095) / 4096 - g / 4096
  let q := s.slotsNow c r
  (eclPages c v a.top n g q.2 q.1).bind (fun _ s1 =>
    if q.1 < r then .ok true (s1.progAt c (n + q.1)) else done (s1.progDone c))

/-- `ECLIPSE` (R82-R84). -/
def eclipse (cd cs1 : RegIx) : Body := fun c s =>
  let a := s.src c.pair c.bank cs1.toNat
  match eclCheck a with
  | some f => .flt f s
  | none =>
    eclRegion c a true (fun s1 =>
      .ok false ((s1.setX c.pair c.bank cd.toNat (s1.rd Addr.ECL_EPOCH_STARTED + 1)).eclRetired)) s

/-- `ECLIPSE.R` (R85): the ticket is tested only at the start. -/
def eclipseRelease (cd cs1 cs2 : RegIx) : Body := fun c s =>
  let a := s.src c.pair c.bank cs1.toNat
  let x := s.srcX c.pair c.bank cs2.toNat
  match eclCheck a with
  | some f => .flt f s
  | none =>
    if (s.bank c.pair c.bank).prog = 0 && !(decide (1 ≤ x.toNat) && decide (x.toNat ≤ (s.rd Addr.ECL_EPOCH_DONE).toNat)) then
      .ok false (s.setX c.pair c.bank cd.toNat 1)
    else
      eclRegion c a false (fun s1 => .ok false (s1.setX c.pair c.bank cd.toNat 0)) s

/-- The effect of `JAPP` (R368). -/
def sylJapp (cd : RegIx) (cs1 : RegIx) (cs2 : RegIx) : Body := japp cd cs1 cs2

/-- JAPP (R368). -/
def execJapp (p : Nat) (cd : RegIx) (cs1 : RegIx) (cs2 : RegIx) (s : State) : Host.Outcome State Fault Refusal :=
  runSyl (.japp p cd cs1 cs2) p (sylJapp cd cs1 cs2) s

/-- The effect of `JSEAL` (R369). -/
def sylJseal (cd : RegIx) (cs1 : RegIx) : Body := jseal cd cs1

/-- JSEAL (R369). -/
def execJseal (p : Nat) (cd : RegIx) (cs1 : RegIx) (s : State) : Host.Outcome State Fault Refusal :=
  runSyl (.jseal p cd cs1) p (sylJseal cd cs1) s

/-- The effect of `DRAW` (R395). -/
def sylDraw (cd : RegIx) (cs1 : RegIx) (cs2 : RegIx) : Body := drawSyl cd cs1 cs2

/-- DRAW (R395). -/
def execDraw (p : Nat) (cd : RegIx) (cs1 : RegIx) (cs2 : RegIx) (s : State) : Host.Outcome State Fault Refusal :=
  runSyl (.draw p cd cs1 cs2) p (sylDraw cd cs1 cs2) s

/-- The effect of `ECLIPSE` (R82). -/
def sylEclipse (cd : RegIx) (cs1 : RegIx) : Body := eclipse cd cs1

/-- ECLIPSE (R82). -/
def execEclipse (p : Nat) (cd : RegIx) (cs1 : RegIx) (s : State) : Host.Outcome State Fault Refusal :=
  runSyl (.eclipse p cd cs1) p (sylEclipse cd cs1) s

/-- The effect of `ECLIPSE_R` (R85). -/
def sylEclipseR (cd : RegIx) (cs1 : RegIx) (cs2 : RegIx) : Body := eclipseRelease cd cs1 cs2

/-- ECLIPSE_R (R85). -/
def execEclipseR (p : Nat) (cd : RegIx) (cs1 : RegIx) (cs2 : RegIx) (s : State) : Host.Outcome State Fault Refusal :=
  runSyl (.eclipseR p cd cs1 cs2) p (sylEclipseR cd cs1 cs2) s

end Sys2Proof.Machine
end

