-- ==== Sys2Proof/Machine/SylBarrier.lean ====
section
/-!
DEFINITION. Barrier and translation-maintenance syllables: each syllable's own effect (`syl...`) and its meaning as a command (`exec...`).
-/
namespace Sys2Proof.Machine
open Sys2Proof (Instr Imm)

/-- `MSYNC` (R171, R289, R420): every earlier access is already performed; the pair fetches only the new bytes of code from here
on, and takes its ready decode table. -/
def msync : Body := fun c s => .ok false ((s.dropCode c.pair).switchTable c.pair)

/-- `IFLUSH` (R172): on a sentinel, the old values of stored syllables are gone (R134). -/
def iflush : Body := fun c s => .ok false (s.dropStale c.pair)

/-- Does a TLB entry hold the 4 KiB page of an address, a run counted whole (R173)? -/
def TlbEntry.covers (t : TlbEntry) (va : Nat) : Bool :=
  let n := if t.level = 3 && t.e.toNat.testBit 14 then 65536 else leafSize t.level
  t.va / n == va / n

/-- A pair in DET that loses a TLB entry to another's invalidation is disturbed (R301). -/
def State.disturb (s : State) (p : Nat) : State :=
  let r := pairBit Addr.PT_DIST0 Addr.PT_DIST1 p
  s.setBit r.1 r.2

/-- Entries leave the TLBs of one pair; `issuer` is the invalidating pair (R173, R301). -/
def State.dropTlb (s : State) (issuer : Nat) (f : TlbEntry → Bool) (p : Nat) : State :=
  let v := s.pair p
  if v.tlb.any f || v.itlb.any f || v.dtlb.any f then
    let s1 := s.updPair p (fun v => v.mapTlbs (fun l => l.filter (fun t => !f t)))
    if v.det && !(p == issuer) then s1.disturb p else s1
  else s

/-- Entries leave the walk caches of one pair (R173). -/
def State.dropWalk (s : State) (f : WalkEntry → Bool) (p : Nat) : State :=
  if (s.pair p).walkc.any f then s.updPair p (fun v => { v with walkc := v.walkc.filter (fun w => !f w) }) else s

/-- Entries leave every TLB of the module. -/
def State.dropTlbs (s : State) (issuer : Nat) (f : TlbEntry → Bool) : State :=
  (List.range 104).foldl (fun s p => s.dropTlb issuer f p) s

/-- Entries leave every walk cache of the module. -/
def State.dropWalks (s : State) (f : WalkEntry → Bool) : State := (List.range 104).foldl (fun s p => s.dropWalk f p) s

/-- The guard SY, then ILLEGAL for a bit marked zero (R173, R174). -/
def invGuard (c : SCtx) (s : State) (bad : Bool) (act : State) : Res Bool :=
  if !s.holdsSy c then syFault s else if bad then illegalAt s else .ok false act

/-- `TLBINV.VA` (R173). -/
def tlbinvVa (cs1 cs2 : RegIx) : Body := fun c s =>
  let va := (s.srcX c.pair c.bank cs1.toNat).toNat
  let x := (s.srcX c.pair c.bank cs2.toNat).toNat
  invGuard c s (decide (2 ^ 16 ≤ x)) (s.dropTlbs c.pair (fun t => t.covers va && (t.asid == x || t.e.toNat.testBit 9)))

/-- `TLBINV.ASID` (R173). -/
def tlbinvAsid (cs2 : RegIx) : Body := fun c s =>
  let x := (s.srcX c.pair c.bank cs2.toNat).toNat
  invGuard c s (decide (2 ^ 16 ≤ x)) (s.dropTlbs c.pair (fun t => t.asid == x && !t.e.toNat.testBit 9))

/-- `TLBINV.ALL` (R173). -/
def tlbinvAll : Body := fun c s => invGuard c s false (s.dropTlbs c.pair (fun _ => true))

/-- `WALKINV.VA` (R173, R321). -/
def walkinvVa (cs1 cs2 : RegIx) : Body := fun c s =>
  let va := (s.srcX c.pair c.bank cs1.toNat).toNat
  let x := (s.srcX c.pair c.bank cs2.toNat).toNat
  invGuard c s (decide (2 ^ 4 ≤ x)) (s.dropWalks (fun w => x.testBit w.level && w.idx == vaIndex va w.level))

/-- `WALKINV.ALL` (R173). -/
def walkinvAll : Body := fun c s => invGuard c s false (s.dropWalks (fun _ => true))

/-- The effect of `MSYNC` (R171). -/
def sylMsync : Body := msync

/-- MSYNC (R171). -/
def execMsync (p : Nat) (s : State) : Host.Outcome State Fault Refusal :=
  runSyl (.msync p) p sylMsync s

/-- The effect of `IFLUSH` (R172). -/
def sylIflush : Body := iflush

/-- IFLUSH (R172). -/
def execIflush (p : Nat) (s : State) : Host.Outcome State Fault Refusal :=
  runReg (.iflush p) p sylIflush s

/-- The effect of `TLBINV_VA` (R173). -/
def sylTlbinvVa (cs1 : RegIx) (cs2 : RegIx) : Body := tlbinvVa cs1 cs2

/-- TLBINV_VA (R173). -/
def execTlbinvVa (p : Nat) (cs1 : RegIx) (cs2 : RegIx) (s : State) : Host.Outcome State Fault Refusal :=
  runSyl (.tlbinvVa p cs1 cs2) p (sylTlbinvVa cs1 cs2) s

/-- The effect of `TLBINV_ASID` (R173). -/
def sylTlbinvAsid (cs2 : RegIx) : Body := tlbinvAsid cs2

/-- TLBINV_ASID (R173). -/
def execTlbinvAsid (p : Nat) (cs2 : RegIx) (s : State) : Host.Outcome State Fault Refusal :=
  runSyl (.tlbinvAsid p cs2) p (sylTlbinvAsid cs2) s

/-- The effect of `TLBINV_ALL` (R173). -/
def sylTlbinvAll : Body := tlbinvAll

/-- TLBINV_ALL (R173). -/
def execTlbinvAll (p : Nat) (s : State) : Host.Outcome State Fault Refusal :=
  runSyl (.tlbinvAll p) p sylTlbinvAll s

/-- The effect of `WALKINV_VA` (R173). -/
def sylWalkinvVa (cs1 : RegIx) (cs2 : RegIx) : Body := walkinvVa cs1 cs2

/-- WALKINV_VA (R173). -/
def execWalkinvVa (p : Nat) (cs1 : RegIx) (cs2 : RegIx) (s : State) : Host.Outcome State Fault Refusal :=
  runSyl (.walkinvVa p cs1 cs2) p (sylWalkinvVa cs1 cs2) s

/-- The effect of `WALKINV_ALL` (R173). -/
def sylWalkinvAll : Body := walkinvAll

/-- WALKINV_ALL (R173). -/
def execWalkinvAll (p : Nat) (s : State) : Host.Outcome State Fault Refusal :=
  runSyl (.walkinvAll p) p sylWalkinvAll s

end Sys2Proof.Machine
end

