-- ==== Sys2Proof/Machine/SylDecode.lean ====
section
/-!
DEFINITION. Instruction fetch and the decoding of a bundle: syllables, bundle rules and dependencies (R53, R102-R117,
R132, R138, R166, R408).
-/
namespace Sys2Proof.Machine
open Sys2Proof (Instr Imm)

/-! ## One syllable -/

/-- Does a register field hold a value below n, its upper bits zero (R138, R182)? -/
def small (f : RegIx) (n : Nat) : Bool := decide (f.toNat < n)

/-- The immediate of a syllable: `MIN`, or the 29 bits that an X syllable makes of it (R106). -/
def immOf (mn : Nat) (x : Option (BitVec 23)) : Imm :=
  match x with
  | none => .short (BitVec.ofNat 6 mn)
  | some v => .ext (v ++ BitVec.ofNat 6 mn)

/-- Has a major opcode an immediate form (R137)? -/
def immForm (maj : Nat) : Bool :=
  decide (maj ≤ 0x0C) || maj == 0x0F || (decide (0x12 ≤ maj) && decide (maj ≤ 0x15)) || maj == 0x18 || maj == 0x1B
    || maj == 0x1D || maj == 0x2B

/-- The shift-immediate syllables (R141). -/
def decodeShift (p : Nat) (cd cs1 cs2 : RegIx) (mn : Nat) : Option Instr :=
  match cs2.toNat with
  | 0 => some (.slli p cd cs1 (BitVec.ofNat 6 mn))
  | 1 => some (.srli p cd cs1 (BitVec.ofNat 6 mn))
  | 2 => some (.srai p cd cs1 (BitVec.ofNat 6 mn))
  | _ => none

/-- The wide shift-immediate syllables (R143). -/
def decodeWideShift (p : Nat) (cd cs1 cs2 : RegIx) (mn : Nat) : Option Instr :=
  let a := BitVec.ofNat 7 (bitsAt cs2.toNat 2 1 * 64 + mn)
  if !small cs2 8 then none
  else
    match bitsAt cs2.toNat 0 2 with
    | 0 => some (.wslli p cd cs1 a)
    | 1 => some (.wsrli p cd cs1 a)
    | 2 => some (.wsrai p cd cs1 a)
    | _ => none

/-- May a compare write pd and pc (R142)? -/
def compareOk (cd : RegIx) (mn : Nat) : Bool := small cd 8 && (!(cd.toNat == mn / 8) || mn / 8 == 0)

/-- The compare group (R142). -/
def decodeCompare (p : Nat) (cd cs1 cs2 : RegIx) (mn : Nat) : Option Instr :=
  if compareOk cd mn then some (.compare p (cd.setWidth 3) (BitVec.ofNat 3 (mn / 8)) (BitVec.ofNat 3 mn) cs1 cs2) else none

/-- The wide compare group (R142). -/
def decodeWideCompare (p : Nat) (cd cs1 cs2 : RegIx) (mn : Nat) : Option Instr :=
  if compareOk cd mn then some (.wideCompare p (cd.setWidth 3) (BitVec.ofNat 3 (mn / 8)) (BitVec.ofNat 3 mn) cs1 cs2) else none

/-- `MAJ` 0x0D by `MIN`. -/
def decodeGroup0D (p : Nat) (cd cs1 cs2 : RegIx) (mn : Nat) : Option Instr :=
  match mn with
  | 0x00 => some (.lbx p cd cs1 cs2)
  | 0x01 => some (.lbux p cd cs1 cs2)
  | 0x02 => some (.lhx p cd cs1 cs2)
  | 0x03 => some (.lhux p cd cs1 cs2)
  | 0x04 => some (.lwx p cd cs1 cs2)
  | 0x05 => some (.lwux p cd cs1 cs2)
  | 0x06 => some (.ldx p cd cs1 cs2)
  | 0x07 => some (.clcx p cd cs1 cs2)
  | 0x08 => some (.sbx p cd cs1 cs2)
  | 0x09 => some (.shx p cd cs1 cs2)
  | 0x0A => some (.swx p cd cs1 cs2)
  | 0x0B => some (.sdx p cd cs1 cs2)
  | 0x0C => some (.cscx p cd cs1 cs2)
  | 0x10 => if cs2 == 0 then some (.lrcD p cd cs1) else none
  | 0x11 => if cs2 == 0 then some (.lrcC p cd cs1) else none
  | 0x12 => some (.sccD p cd cs1 cs2)
  | 0x13 => some (.sccC p cd cs1 cs2)
  | _ => none

/-- `MAJ` 0x0E by `MIN`. -/
def decodeGroup0E (p : Nat) (cd cs1 cs2 : RegIx) (mn : Nat) : Option Instr :=
  match mn with
  | 0x00 => if cs2 == 0 then some (.cmove p cd cs1) else none
  | 0x01 => some (.csetaddr p cd cs1 cs2)
  | 0x02 => some (.cincaddr p cd cs1 cs2)
  | 0x03 => some (.csetbounds p cd cs1 cs2)
  | 0x04 => some (.csetboundsx p cd cs1 cs2)
  | 0x05 => some (.candperm p cd cs1 cs2)
  | 0x06 => if cs2 == 0 then some (.ccleartag p cd cs1) else none
  | 0x07 => some (.cseal p cd cs1 cs2)
  | 0x08 => some (.cunseal p cd cs1 cs2)
  | 0x09 => if cs2 == 0 then some (.csealentry p cd cs1) else none
  | 0x0A => if cs2 == 0 then some (.cgettag p cd cs1) else none
  | 0x0B => if cs2 == 0 then some (.cgetperm p cd cs1) else none
  | 0x0C => if cs2 == 0 then some (.cgettype p cd cs1) else none
  | 0x0D => if cs2 == 0 then some (.cgetaddr p cd cs1) else none
  | 0x0E => if cs2 == 0 then some (.cgetbase p cd cs1) else none
  | 0x0F => if cs2 == 0 then some (.cgettop p cd cs1) else none
  | 0x10 => if cs2 == 0 then some (.cgetlen p cd cs1) else none
  | 0x11 => if cs2 == 0 then some (.crrl p cd cs1) else none
  | 0x12 => if cs2 == 0 then some (.cram p cd cs1) else none
  | 0x20 => if cd == 0 then some (.stm p cs1 cs2) else none
  | 0x21 => if cd == 0 then some (.ldm p cs1 cs2) else none
  | 0x22 => if cs2 == 0 then some (.svctxU p cd cs1) else none
  | 0x23 => if cs2 == 0 then some (.svctxL p cd cs1) else none
  | 0x24 => if cs1 == 0 && cs2 == 0 then some (.ldctxU p cd) else none
  | 0x25 => if cs1 == 0 && cs2 == 0 then some (.ldctxL p cd) else none
  | 0x28 => some (.japp p cd cs1 cs2)
  | 0x29 => if cs2 == 0 then some (.jseal p cd cs1) else none
  | 0x2A => some (.draw p cd cs1 cs2)
  | 0x2C => if cs2 == 0 then some (.eclipse p cd cs1) else none
  | 0x2D => some (.eclipseR p cd cs1 cs2)
  | 0x30 => if cd == 0 && cs1 == 0 && cs2 == 0 then some (.msync p) else none
  | 0x31 => if cd == 0 && cs1 == 0 && cs2 == 0 then some (.iflush p) else none
  | 0x32 => if cd == 0 then some (.tlbinvVa p cs1 cs2) else none
  | 0x33 => if cd == 0 && cs1 == 0 then some (.tlbinvAsid p cs2) else none
  | 0x34 => if cd == 0 && cs1 == 0 && cs2 == 0 then some (.tlbinvAll p) else none
  | 0x35 => if cd == 0 then some (.walkinvVa p cs1 cs2) else none
  | 0x36 => if cd == 0 && cs1 == 0 && cs2 == 0 then some (.walkinvAll p) else none
  | _ => none

/-- `MAJ` 0x10 by `MIN`. -/
def decodeGroup10 (p : Nat) (cd cs1 cs2 : RegIx) (mn : Nat) : Option Instr :=
  match mn with
  | 0x00 => some (.add p cd cs1 cs2)
  | 0x01 => some (.sub p cd cs1 cs2)
  | 0x02 => some (.addv p cd cs1 cs2)
  | 0x03 => some (.subv p cd cs1 cs2)
  | 0x04 => some (.adds p cd cs1 cs2)
  | 0x05 => some (.subs p cd cs1 cs2)
  | 0x06 => if cs2 == 0 then some (.neg p cd cs1) else none
  | 0x07 => if cs2 == 0 then some (.negs p cd cs1) else none
  | 0x08 => some (.and p cd cs1 cs2)
  | 0x09 => some (.or p cd cs1 cs2)
  | 0x0A => some (.xor p cd cs1 cs2)
  | 0x0B => some (.andn p cd cs1 cs2)
  | 0x0C => some (.orn p cd cs1 cs2)
  | 0x0D => some (.min p cd cs1 cs2)
  | 0x0E => some (.max p cd cs1 cs2)
  | 0x0F => some (.minu p cd cs1 cs2)
  | 0x10 => some (.maxu p cd cs1 cs2)
  | 0x11 => some (.slt p cd cs1 cs2)
  | 0x12 => some (.sltu p cd cs1 cs2)
  | 0x13 => if cs2 == 0 then some (.clz p cd cs1) else none
  | 0x14 => if cs2 == 0 then some (.ctz p cd cs1) else none
  | 0x15 => if cs2 == 0 then some (.popc p cd cs1) else none
  | 0x16 => if cs2 == 0 then some (.sextb p cd cs1) else none
  | 0x17 => if cs2 == 0 then some (.sexth p cd cs1) else none
  | 0x18 => if cs2 == 0 then some (.sextw p cd cs1) else none
  | 0x19 => if cs2 == 0 then some (.zextw p cd cs1) else none
  | 0x30 => if !srAbsent p cs1 && cs2 == 0 then some (.mfs p cd cs1 cs2) else none
  | 0x31 => if !srAbsent p cd && (srBwGuard cd || cs2 == 0) then some (.mts p cd cs1 cs2) else none
  | 0x38 => if small cd 8 && small cs1 8 && small cs2 8 then some (.pand p (cd.setWidth 3) (cs1.setWidth 3) (cs2.setWidth 3)) else none
  | 0x39 => if small cd 8 && small cs1 8 && small cs2 8 then some (.por p (cd.setWidth 3) (cs1.setWidth 3) (cs2.setWidth 3)) else none
  | 0x3A => if small cd 8 && small cs1 8 && small cs2 8 then some (.pxor p (cd.setWidth 3) (cs1.setWidth 3) (cs2.setWidth 3)) else none
  | 0x3B => if small cd 8 && small cs1 8 && small cs2 8 then some (.pandn p (cd.setWidth 3) (cs1.setWidth 3) (cs2.setWidth 3)) else none
  | 0x3C => if cs1 == 0 && cs2 == 0 then some (.pget p cd) else none
  | 0x3D => if cd == 0 && cs2 == 0 then some (.pput p cs1) else none
  | _ => none

/-- `MAJ` 0x11 by `MIN`. -/
def decodeGroup11 (p : Nat) (cd cs1 cs2 : RegIx) (mn : Nat) : Option Instr :=
  match mn with
  | 0x00 => some (.sll p cd cs1 cs2)
  | 0x01 => some (.srl p cd cs1 cs2)
  | 0x02 => some (.sra p cd cs1 cs2)
  | 0x04 => some (.mul p cd cs1 cs2)
  | 0x05 => some (.mulv p cd cs1 cs2)
  | 0x06 => some (.muls p cd cs1 cs2)
  | 0x07 => some (.mulh p cd cs1 cs2)
  | 0x08 => some (.mulhu p cd cs1 cs2)
  | 0x0C => some (.div p cd cs1 cs2)
  | 0x0D => some (.divu p cd cs1 cs2)
  | 0x0E => some (.rem p cd cs1 cs2)
  | 0x0F => some (.remu p cd cs1 cs2)
  | 0x10 => some (.divs p cd cs1 cs2)
  | _ => none

/-- `MAJ` 0x19 by `MIN`. -/
def decodeGroup19 (p : Nat) (cd cs1 cs2 : RegIx) (mn : Nat) : Option Instr :=
  match mn with
  | 0x00 => if cd == 0 && cs2 == 0 then some (.cjr p cs1) else none
  | 0x01 => if cs2 == 0 then some (.cjalr p cd cs1) else none
  | 0x02 => if cs1 == 0 && cs2 == 0 then some (.callmR p cd) else none
  | _ => none

/-- `MAJ` 0x1C by `MIN`. -/
def decodeGroup1C (p : Nat) (cd cs1 cs2 : RegIx) (mn : Nat) : Option Instr :=
  match mn with
  | 0x00 => if cd == 0 && cs2 == 0 then some (.invoke p cs1) else none
  | 0x01 => if cd == 0 && cs2 == 0 then some (.retg p cs1) else none
  | 0x02 => if cd == 0 && cs1 == 0 && cs2 == 0 then some (.rete p) else none
  | _ => none

/-- `MAJ` 0x1E by `MIN`. -/
def decodeGroup1E (p : Nat) (cd cs1 cs2 : RegIx) (mn : Nat) : Option Instr :=
  match mn with
  | 0x00 => if cd == 0 && cs2 == 0 then some (.repi p cs1) else none
  | 0x01 => if cd == 0 && cs2 == 0 then some (.repu p cs1) else none
  | _ => none

/-- `MAJ` 0x28 by `MIN`. -/
def decodeGroup28 (p : Nat) (cd cs1 cs2 : RegIx) (mn : Nat) : Option Instr :=
  match mn with
  | 0x00 => some (.wadd p cd cs1 cs2)
  | 0x01 => some (.wsub p cd cs1 cs2)
  | 0x02 => some (.waddv p cd cs1 cs2)
  | 0x03 => some (.wsubv p cd cs1 cs2)
  | 0x04 => some (.wadds p cd cs1 cs2)
  | 0x05 => some (.wsubs p cd cs1 cs2)
  | 0x06 => if cs2 == 0 then some (.wneg p cd cs1) else none
  | 0x07 => if cs2 == 0 then some (.wnegs p cd cs1) else none
  | 0x08 => some (.wand p cd cs1 cs2)
  | 0x09 => some (.wor p cd cs1 cs2)
  | 0x0A => some (.wxor p cd cs1 cs2)
  | 0x0B => some (.wsll p cd cs1 cs2)
  | 0x0C => some (.wsrl p cd cs1 cs2)
  | 0x0D => some (.wsra p cd cs1 cs2)
  | 0x0E => some (.wmul p cd cs1 cs2)
  | 0x0F => some (.wmulv p cd cs1 cs2)
  | 0x10 => some (.wmuls p cd cs1 cs2)
  | 0x11 => some (.wmulx p cd cs1 cs2)
  | 0x12 => some (.wmulxu p cd cs1 cs2)
  | 0x13 => some (.wdiv p cd cs1 cs2)
  | 0x14 => some (.wrem p cd cs1 cs2)
  | 0x15 => some (.wdivs p cd cs1 cs2)
  | 0x16 => if cs2 == 0 then some (.wsext p cd cs1) else none
  | 0x17 => if cs2 == 0 then some (.wzext p cd cs1) else none
  | 0x18 => some (.wpack p cd cs1 cs2)
  | 0x19 => if cs2 == 0 then some (.whi p cd cs1) else none
  | _ => none

/-- `MAJ` 0x30 by `MIN`. -/
def decodeGroup30 (p : Nat) (cd cs1 cs2 : RegIx) (mn : Nat) : Option Instr :=
  match mn with
  | 0x00 => if cs1 == 0 && cs2 == 0 && small cd 4 then some (.aclr p (cd.setWidth 2)) else none
  | 0x01 => if cs2 == 0 && small cd 4 && small cs1 4 then some (.amova p (cd.setWidth 2) (cs1.setWidth 2)) else none
  | 0x02 => if cs2 == 0 && small cd 4 then some (.asetw p (cd.setWidth 2) cs1) else none
  | 0x03 => if cs2 == 0 && small cd 4 then some (.asetx p (cd.setWidth 2) cs1) else none
  | 0x04 => if cs2 == 0 && small cd 4 then some (.asetm p (cd.setWidth 2) cs1) else none
  | 0x05 => if cs2 == 0 && small cs1 4 then some (.agetg p cd (cs1.setWidth 2)) else none
  | 0x06 => if cs1 == 0 && cs2 == 0 && small cd 4 then some (.aneg p (cd.setWidth 2)) else none
  | 0x07 => if cs2 == 0 && small cs1 4 then some (.agetr p cd (cs1.setWidth 2)) else none
  | 0x08 => if cs2 == 0 && small cd 4 then some (.asetg p (cd.setWidth 2) cs1) else none
  | _ => none

/-- `MAJ` 0x31 by `MIN`. -/
def decodeGroup31 (p : Nat) (cd cs1 cs2 : RegIx) (mn : Nat) : Option Instr :=
  match mn with
  | 0x00 => if small cd 4 then some (.qmul p (cd.setWidth 2) cs1 cs2) else none
  | 0x01 => if small cd 4 then some (.qmac p (cd.setWidth 2) cs1 cs2) else none
  | 0x02 => if small cd 4 then some (.qmsu p (cd.setWidth 2) cs1 cs2) else none
  | 0x03 => if small cd 4 then some (.mmul p (cd.setWidth 2) cs1 cs2) else none
  | 0x04 => if small cd 4 then some (.mmac p (cd.setWidth 2) cs1 cs2) else none
  | 0x05 => if small cd 4 then some (.mmsu p (cd.setWidth 2) cs1 cs2) else none
  | 0x06 => if cs2 == 0 && small cd 4 then some (.aaddw p (cd.setWidth 2) cs1) else none
  | 0x07 => if cs2 == 0 && small cd 4 then some (.asubw p (cd.setWidth 2) cs1) else none
  | 0x08 => if cs2 == 0 && small cd 4 then some (.aaddq p (cd.setWidth 2) cs1) else none
  | 0x09 => if cs2 == 0 && small cd 4 then some (.asubq p (cd.setWidth 2) cs1) else none
  | 0x0A => if cs2 == 0 && small cd 4 && small cs1 4 then some (.aadda p (cd.setWidth 2) (cs1.setWidth 2)) else none
  | _ => none

/-- `MAJ` 0x32 by `MIN`. -/
def decodeGroup32 (p : Nat) (cd cs1 cs2 : RegIx) (mn : Nat) : Option Instr :=
  match mn with
  | 0x00 => if cs2 == 0 && small cs1 4 then some (.arndq p cd (cs1.setWidth 2)) else none
  | 0x01 => if cs2 == 0 && small cs1 4 then some (.arndw p cd (cs1.setWidth 2)) else none
  | 0x02 => if small cs1 4 then some (.ashrq p cd (cs1.setWidth 2) cs2) else none
  | 0x03 => if small cs1 4 then some (.ashrw p cd (cs1.setWidth 2) cs2) else none
  | 0x04 => if cs2 == 0 && small cs1 4 then some (.arndm p cd (cs1.setWidth 2)) else none
  | _ => none

/-- `MAJ` 0x33 by `MIN`. -/
def decodeGroup33 (p : Nat) (cd cs1 cs2 : RegIx) (mn : Nat) : Option Instr :=
  match mn with
  | 0x00 => some (.qadd p cd cs1 cs2)
  | 0x01 => some (.qsub p cd cs1 cs2)
  | 0x02 => some (.qmulr p cd cs1 cs2)
  | 0x03 => if cs2 == 0 then some (.qneg p cd cs1) else none
  | 0x04 => some (.wqadd p cd cs1 cs2)
  | 0x05 => some (.wqsub p cd cs1 cs2)
  | 0x06 => some (.wqmulr p cd cs1 cs2)
  | 0x07 => if cs2 == 0 then some (.wqneg p cd cs1) else none
  | 0x08 => if cs2 == 0 then some (.qtow p cd cs1) else none
  | 0x09 => if cs2 == 0 then some (.wtoq p cd cs1) else none
  | _ => none

/-- `MAJ` 0x34 by `MIN`. -/
def decodeGroup34 (p : Nat) (cd cs1 cs2 : RegIx) (mn : Nat) : Option Instr :=
  match mn with
  | 0x00 => some (.qdiv p cd cs1 cs2)
  | 0x01 => some (.wqdiv p cd cs1 cs2)
  | 0x02 => some (.mdiv p cd cs1 cs2)
  | 0x03 => some (.mscale p cd cs1 cs2)
  | 0x04 => if cs2 == 0 then some (.mmulq p cd cs1) else none
  | _ => none

/-- `MAJ` 0x35 by `MIN`. -/
def decodeGroup35 (p : Nat) (cd cs1 cs2 : RegIx) (mn : Nat) : Option Instr :=
  match mn with
  | 0x00 => if cs2 == 0 then some (.mrnd p cd cs1) else none
  | 0x01 => if cs2 == 0 then some (.mbrk p cd cs1) else none
  | 0x02 => if cs2 == 0 then some (.mrndx p cd cs1) else none
  | _ => none

/-- `MAJ` 0x36 by `MIN`. -/
def decodeGroup36 (p : Nat) (cd cs1 cs2 : RegIx) (mn : Nat) : Option Instr :=
  match mn with
  | 0x00 => if cd == 0 && cs1 == 0 && cs2 == 0 then some (.fsync p) else none
  | _ => none

/-- `MAJ` 0x39 by `MIN`. -/
def decodeGroup39 (p : Nat) (cd cs1 cs2 : RegIx) (mn : Nat) : Option Instr :=
  match mn with
  | 0x00 => some (.tclose p cd cs1 cs2)
  | _ => none

/-- `MAJ` 0x3A by `MIN`. -/
def decodeGroup3A (p : Nat) (cd cs1 cs2 : RegIx) (mn : Nat) : Option Instr :=
  match mn with
  | 0x00 => some (.tread p cd cs1 cs2)
  | _ => none

/-- A syllable by its `MAJ` (R103, R136, R181, R205), B majors 0x20-0x27 at their A counterparts. -/
def decodeMaj (p maj : Nat) (cd cs1 cs2 : RegIx) (mn : Nat) (x : Option (BitVec 23)) : Option Instr :=
  match maj with
  | 0x00 => if cs2 == 0 then some (.lb p cd cs1 (immOf mn x)) else none
  | 0x01 => if cs2 == 0 then some (.lbu p cd cs1 (immOf mn x)) else none
  | 0x02 => if cs2 == 0 then some (.lh p cd cs1 (immOf mn x)) else none
  | 0x03 => if cs2 == 0 then some (.lhu p cd cs1 (immOf mn x)) else none
  | 0x04 => if cs2 == 0 then some (.lw p cd cs1 (immOf mn x)) else none
  | 0x05 => if cs2 == 0 then some (.lwu p cd cs1 (immOf mn x)) else none
  | 0x06 => if cs2 == 0 then some (.ld p cd cs1 (immOf mn x)) else none
  | 0x07 => if cs2 == 0 then some (.clc p cd cs1 (immOf mn x)) else none
  | 0x08 => if cs2 == 0 then some (.sb p cd cs1 (immOf mn x)) else none
  | 0x09 => if cs2 == 0 then some (.sh p cd cs1 (immOf mn x)) else none
  | 0x0A => if cs2 == 0 then some (.sw p cd cs1 (immOf mn x)) else none
  | 0x0B => if cs2 == 0 then some (.sd p cd cs1 (immOf mn x)) else none
  | 0x0C => if cs2 == 0 then some (.csc p cd cs1 (immOf mn x)) else none
  | 0x0D => decodeGroup0D p cd cs1 cs2 mn
  | 0x0E => decodeGroup0E p cd cs1 cs2 mn
  | 0x0F => if cs2 == 0 then some (.cincaddri p cd cs1 (immOf mn x)) else none
  | 0x10 => decodeGroup10 p cd cs1 cs2 mn
  | 0x11 => decodeGroup11 p cd cs1 cs2 mn
  | 0x12 => if cs2 == 0 then some (.addi p cd cs1 (immOf mn x)) else none
  | 0x13 => if cs2 == 0 then some (.andi p cd cs1 (immOf mn x)) else none
  | 0x14 => if cs2 == 0 then some (.ori p cd cs1 (immOf mn x)) else none
  | 0x15 => if cs2 == 0 then some (.xori p cd cs1 (immOf mn x)) else none
  | 0x16 => decodeShift p cd cs1 cs2 mn
  | 0x17 => decodeCompare p cd cs1 cs2 mn
  | 0x18 => if cd == 0 && cs1 == 0 && cs2 == 0 then some (.br p (immOf mn x)) else none
  | 0x19 => decodeGroup19 p cd cs1 cs2 mn
  | 0x1B => some (.callm p cd cs1 cs2 (immOf mn x))
  | 0x1C => decodeGroup1C p cd cs1 cs2 mn
  | 0x1D => if cd == 0 && cs2 == 0 then some (.loop p cs1 (immOf mn x)) else none
  | 0x1E => decodeGroup1E p cd cs1 cs2 mn
  | 0x28 => decodeGroup28 p cd cs1 cs2 mn
  | 0x29 => decodeWideCompare p cd cs1 cs2 mn
  | 0x2A => decodeWideShift p cd cs1 cs2 mn
  | 0x2B => if cs2 == 0 then some (.waddi p cd cs1 (immOf mn x)) else none
  | 0x30 => decodeGroup30 p cd cs1 cs2 mn
  | 0x31 => decodeGroup31 p cd cs1 cs2 mn
  | 0x32 => decodeGroup32 p cd cs1 cs2 mn
  | 0x33 => decodeGroup33 p cd cs1 cs2 mn
  | 0x34 => decodeGroup34 p cd cs1 cs2 mn
  | 0x35 => decodeGroup35 p cd cs1 cs2 mn
  | 0x36 => decodeGroup36 p cd cs1 cs2 mn
  | 0x38 => if mn < 32 then some (.tadd p cd cs1 cs2 (BitVec.ofNat 5 mn)) else none
  | 0x39 => decodeGroup39 p cd cs1 cs2 mn
  | 0x3A => decodeGroup3A p cd cs1 cs2 mn
  | 0x3F => some (.customSyllable p (BitVec.ofNat 6 mn) cd cs1 cs2)
  | _ => none

/-- Is a syllable A-only, its B counterpart reserved (R139)? -/
def aOnly (maj mn : Nat) : Bool := maj == 0x10 && decide (0x30 ≤ mn)

/-- The unit of a major opcode in slot order: 0 M and custom, 1 A, 2 B, 3 T (R103). -/
def unitOf (maj : Nat) : Nat := if maj = 0x3F then 0 else if maj < 0x10 then 0 else if maj < 0x20 then 1 else if maj < 0x30 then 2 else 3

/-- A syllable word decoded for pair p, with the extension that an X syllable gives it (R102, R103, R107, R132). -/
def decodeSyl (p w : Nat) (x : Option (BitVec 23)) : Option Instr :=
  let maj := bitsAt w 21 6
  let mn := bitsAt w 0 6
  let base := if 0x20 ≤ maj && maj < 0x28 then maj - 0x10 else maj
  let cd := BitVec.ofNat 5 (bitsAt w 16 5)
  let cs1 := BitVec.ofNat 5 (bitsAt w 11 5)
  let cs2 := BitVec.ofNat 5 (bitsAt w 6 5)
  if x.isSome && !immForm base then none
  else if !(base == maj) && aOnly base mn then none
  else if isSentinel p && (decide (0x30 ≤ maj)) then none
  else decodeMaj p base cd cs1 cs2 mn x

/-- A syllable of a decoded bundle. -/
structure DSyl where
  ins : Instr
  info : SylInfo
  unit : Nat
  ps : Nat
  pi : Bool
deriving DecidableEq, Repr

/-- A bundle that has been fetched and decoded: its syllables and its length in bytes. -/
structure Bundle where
  syls : List DSyl
  len : Nat
deriving DecidableEq, Repr

/-! ## Bundle rules (R104-R111) -/

/-- Does an instruction belong to the style that is not selected (R112, R129)? -/
def otherStyle (list : Bool) (i : Instr) : Bool :=
  match i with
  | .stm _ _ _ => list
  | .ldm _ _ _ => list
  | .svctxU _ _ _ => !list
  | .svctxL _ _ _ => !list
  | .ldctxU _ _ => !list
  | .ldctxL _ _ => !list
  | _ => false

/-- The entry word of a custom syllable. -/
def DecodeTable.word (t : DecodeTable) (n : Nat) : Word := smGet (always 0) t.words n
/-- The micro-op i of entry n. -/
def DecodeTable.uop (t : DecodeTable) (n i : Nat) : Word := smGet (always 0) t.uops (n * 32 + i)

/-- Is a custom syllable's entry defined, and every field that it does not use zero (R408, R409)? -/
def customDefined (t : DecodeTable) (n : Nat) (cd cs1 cs2 : RegIx) : Bool :=
  let w := (t.word n).toNat
  w.testBit 0 && (w.testBit 1 || w.testBit 2 || cd == 0) && (w.testBit 3 || cs1 == 0) && (w.testBit 4 || cs2 == 0)

/-- Is an instruction legal under the pair's table? -/
def tableOk (t : DecodeTable) (i : Instr) : Bool :=
  match i with
  | .customSyllable _ n cd cs1 cs2 => customDefined t n.toNat cd cs1 cs2
  | _ => true

/-- The syllables of a bundle decoded in order; a failure gives the index of the syllable concerned (R105, R108, R110,
R112). `x` is the extension with its target unit; `prev` the unit and kind of the syllable before. -/
def decodeWords (p : Nat) (list : Bool) (t : DecodeTable) (x : Option (Nat × BitVec 23)) (prev : Option DSyl) (k : Nat) :
    List Nat → List DSyl ⊕ Nat
  | [] => .inl []
  | w :: ws =>
    let u := unitOf (bitsAt w 21 6)
    let ext := match x with
      | some (tgt, v) => if tgt = u then some v else none
      | none => none
    match decodeSyl p w ext with
    | none => .inr k
    | some i =>
      match infoOf i with
      | none => .inr k
      | some info =>
        let d : DSyl := ⟨i, info, u, bitsAt w 28 3, w.testBit 27⟩
        let after := match prev with
          | none => true
          | some q => decide (q.unit < u) && !q.info.control && !q.info.solitary && !info.solitary
        if !after || otherStyle list i || !tableOk t i then .inr k
        else
          match decodeWords p list t x (some d) (k + 1) ws with
          | .inl ds => .inl (d :: ds)
          | .inr n => .inr n

/-- The words of a bundle decoded: the syllables, or the index of the one that makes it ILLEGAL (R104-R110, R112). -/
def decodeBundle (p : Nat) (list : Bool) (t : DecodeTable) (ws : List Nat) : List DSyl ⊕ Nat :=
  match ws.reverse with
  | [] => .inr 0
  | z :: rest =>
    if bitsAt z 21 6 = 0x3C then
      let tgt := bitsAt z 19 2
      let v := BitVec.ofNat 23 (bitsAt z 27 4 * 2 ^ 19 + bitsAt z 0 19)
      let ms := rest.reverse
      if ms.isEmpty || (isSentinel p && tgt == 3) || !(ms.any (fun w => unitOf (bitsAt w 21 6) == tgt)) then .inr (ws.length - 1)
      else decodeWords p list t (some (tgt, v)) none 0 ms
    else decodeWords p list t none none 0 ws

/-- Does a syllable read or write a register that an earlier one writes (R116)? -/
def depWith (a b : DSyl) : Bool :=
  a.info.writeSet.any (fun n => b.info.readSet.contains n || b.info.writeSet.contains n || (n == 32 + b.ps && !(b.ps == 0)))

/-- BUNDLE_DEP (R116). -/
def hasDep : List DSyl → Bool
  | [] => false
  | d :: ds => ds.any (depWith d) || hasDep ds

/-! ## Fetch -/

/-- One syllable fetched: the check of `PCC` (R53), then the translation and REGION (R112); an old value
may be fetched (R134, R289). -/
def fetchWord (p b a : Nat) (s : State) : Res Nat :=
  match checkAccess (s.bank p b).pcc a 4 [permEX] with
  | some k => .flt (fltA k 4 a) s
  | none =>
    (planAccess s (s.via p b) .fetch false a 4).bind (fun ps s1 =>
      let r := s1.readPieces ps
      match ps with
      | [c] =>
        let w := r.2.staleWord p c.sp c.pa (bytesNat r.1)
        .ok w.1 (if c.sp = .dram then w.2.fetchLine p (c.pa / 64) else w.2)
      | _ => .ok (bytesNat r.1) r.2)

/-- The syllables of the bundle at an address: up to and with the first one whose `S` is 1; none where none of the first
five has it (R104). -/
def fetchWords (p b a : Nat) (s : State) : Nat → Res (Option (List Nat))
  | 0 => .ok none s
  | n + 1 =>
    (fetchWord p b a s).bind (fun w s1 =>
      if w.testBit 31 then .ok (some [w]) s1
      else (fetchWords p b (a + 4) s1 n).bind (fun r s2 => .ok (r.map (fun ws => w :: ws)) s2))

/-- The bundle at an address fetched and decoded: the faults of items 1 to 4 of R112. ILLEGAL and BUNDLE_DEP carry the address
of the syllable concerned where `named` asks for it (R166). -/
def fetchBundle (p b a : Nat) (named : Bool) (s : State) : Res Bundle :=
  let at_ := fun (c n : Nat) => if named then fltA c 0 (addrOf ((a : Int) + 4 * (n : Int))) else flt0 c
  (fetchWords p b a s 5).bind (fun o s1 =>
    match o with
    | none => .flt (at_ illegal 0) s1
    | some ws =>
      match decodeBundle p ((s1.pair p).ctxcfg.getLsbD 0) (s1.pair p).table ws with
      | .inr n => .flt (at_ illegal n) s1
      | .inl ds => if hasDep ds then .flt (at_ bundleDep 0) s1 else .ok ⟨ds, 4 * ws.length⟩ s1)

/-- Is a bundle one that may be repeated (R111, R166)? -/
def repeatable (u : Bundle) : Bool :=
  match u.syls with
  | [d] =>
    !d.info.solitary && !d.info.control && !(d.info.writes.any (fun n => n == 44 || n == 45 || n == 46))
      && (match d.ins with
          | .mts _ sr _ _ => !(sr == 1)
          | _ => true)
  | _ => false

end Sys2Proof.Machine
end

