-- ==== Sys2Proof/Machine/SylControl.lean ====
section
/-!
DEFINITION. Branches, jumps, loops and repeats (R164-R169): each syllable's own effect (`syl...`) and its meaning as a command (`exec...`).
-/
namespace Sys2Proof.Machine
open Sys2Proof (Instr Imm)

/-- The running `PCC` moved to another bundle. -/
def State.goTo (s : State) (c : SCtx) (a : Nat) : State := s.updBank c.pair c.bank (fun k => k.moveTo a)

/-- The cursor of a bundle at an offset of imm × 4 from this one (R137). -/
def targetOf (c : SCtx) (imm : Imm) : Nat := addrOf ((c.pc : Int) + 4 * immVal imm)

/-- `BR` (R161). -/
def branch (imm : Imm) : Body := fun c s =>
  let k := (s.bank c.pair c.bank).pcc
  let t := targetOf c imm
  if t < k.base || k.top < t + 4 then .flt (fltA capBounds 4 t) s else .ok true (s.goTo c t)

/-- `CJR` (R160). -/
def jump (cs1 : RegIx) : Body := fun c s =>
  let t := s.src c.pair c.bank cs1.toNat
  match checkTarget t with
  | some k => .flt (targetFault k 1 t.addr) s
  | none => .ok true (s.jumpTo c t)

/-- `CJALR` (R55, R160). -/
def jumpLink (cd cs1 : RegIx) : Body := fun c s =>
  let t := s.src c.pair c.bank cs1.toNat
  match checkTarget t with
  | some k => .flt (targetFault k 1 t.addr) s
  | none => .ok true ((s.setReg c.pair c.bank cd.toNat (s.sentry c)).jumpTo c t)

/-- A fault of the fetch that a prefix makes: ILLEGAL there carries the address of its bundle (R164). -/
def endFetch (c : SCtx) (a : Nat) (s : State) : Res (List Nat) :=
  (fetchWords c.pair c.bank a s 5).bind (fun o s1 =>
    match o with
    | none => .flt (fltA illegal 0 a) s1
    | some ws => .ok ws s1)

/-- `LOOP` (R164). -/
def loop (cs1 : RegIx) (imm : Imm) : Body := fun c s =>
  let x := s.srcX c.pair c.bank cs1.toNat
  let le := targetOf c imm
  if le < c.next then illegalAt s
  else
    (endFetch c le s).bind (fun ws s1 =>
      let s2 := s1.updBank c.pair c.bank (fun k => { k with lc := x, ls := BitVec.ofNat 64 c.next, le := BitVec.ofNat 64 le })
      .ok true (s2.goTo c (if x = 0 then addrOf ((le : Int) + 4 * (ws.length : Int)) else c.next)))

/-- `REPI` and `REPU` (R166, R167). -/
def repeatWith (unint : Bool) (cs1 : RegIx) : Body := fun c s =>
  let x := s.srcX c.pair c.bank cs1.toNat
  (fetchBundle c.pair c.bank c.next true s).bind (fun u s1 =>
    if !repeatable u then .flt (flt0 illegal) s1
    else if unint && decide (64 < x.toNat) then .flt (flt0 repLimit) s1
    else
      let s2 := s1.updBank c.pair c.bank (fun k => (({ k with lc := x }).stSet 6 2 (if x = 0 then 0 else if unint then 2 else 1)))
      .ok true (s2.goTo c (if x = 0 then addrOf ((c.next : Int) + u.len) else c.next)))

/-- The effect of `BR` (R161). -/
def sylBr (imm : Imm) : Body := branch imm

/-- BR (R161). -/
def execBr (p : Nat) (imm : Imm) (s : State) : Host.Outcome State Fault Refusal :=
  runSyl (.br p imm) p (sylBr imm) s

/-- The effect of `CJR` (R54). -/
def sylCjr (cs1 : RegIx) : Body := jump cs1

/-- CJR (R54). -/
def execCjr (p : Nat) (cs1 : RegIx) (s : State) : Host.Outcome State Fault Refusal :=
  runSyl (.cjr p cs1) p (sylCjr cs1) s

/-- The effect of `CJALR` (R55). -/
def sylCjalr (cd : RegIx) (cs1 : RegIx) : Body := jumpLink cd cs1

/-- CJALR (R55). -/
def execCjalr (p : Nat) (cd : RegIx) (cs1 : RegIx) (s : State) : Host.Outcome State Fault Refusal :=
  runSyl (.cjalr p cd cs1) p (sylCjalr cd cs1) s

/-- The effect of `LOOP` (R164). -/
def sylLoop (cs1 : RegIx) (imm : Imm) : Body := loop cs1 imm

/-- LOOP (R164). -/
def execLoop (p : Nat) (cs1 : RegIx) (imm : Imm) (s : State) : Host.Outcome State Fault Refusal :=
  runSyl (.loop p cs1 imm) p (sylLoop cs1 imm) s

/-- The effect of `REPI` (R166). -/
def sylRepi (cs1 : RegIx) : Body := repeatWith false cs1

/-- REPI (R166). -/
def execRepi (p : Nat) (cs1 : RegIx) (s : State) : Host.Outcome State Fault Refusal :=
  runSyl (.repi p cs1) p (sylRepi cs1) s

/-- The effect of `REPU` (R166). -/
def sylRepu (cs1 : RegIx) : Body := repeatWith true cs1

/-- REPU (R166). -/
def execRepu (p : Nat) (cs1 : RegIx) (s : State) : Host.Outcome State Fault Refusal :=
  runSyl (.repu p cs1) p (sylRepu cs1) s

end Sys2Proof.Machine
end

