-- ==== Sys2Proof/Machine/SylGate.lean ====
section
/-!
DEFINITION. Gates and the return from an event (R244-R249): each syllable's own effect (`syl...`) and its meaning as a command (`exec...`).
-/
namespace Sys2Proof.Machine
open Sys2Proof (Instr Imm)

/-! ## INVOKE (R243-R247) -/

/-- A field of an argument-check word (R244). -/
def argReserved (ctl : Nat) : Bool := bitsAt ctl 16 2 == 3 || bitsAt ctl 18 2 == 3 || !(bitsAt ctl 36 28 == 0)

/-- Does an argument meet its check (R244)? A malformed argument has no length, and fails a length limit. -/
def argOk (a : Cap) (ctl maxLen : Nat) : Bool :=
  let tag := bitsAt ctl 16 2
  let sl := bitsAt ctl 18 2
  if !a.tag then !(tag == 1)
  else
    !(tag == 2) && (a.perms &&& bitsAt ctl 0 16) == bitsAt ctl 0 16
      && (sl == 0 || (sl == 1 && a.otype == 0) || (sl == 2 && a.otype == bitsAt ctl 20 16))
      && (maxLen == 0 || (!a.malformed && decide (min (a.top - a.base) (2 ^ 64 - 1) ≤ maxLen)))

/-- The first argument register whose check fails (R245). -/
def firstBadArg (c : SCtx) (s : State) (bs : List Byte) : List Nat → Option Nat
  | [] => none
  | i :: is =>
    if argOk (s.src c.pair c.bank (4 + i)) (cellGet bs (0x40 + 16 * i) 8) (cellGet bs (0x48 + 16 * i) 8) then
      firstBadArg c s bs is
    else some i

/-- Does a descriptor hold a reserved value (R243-R245)? -/
def descReserved (bs : List Byte) : Bool :=
  !(bitsAt (cellGet bs 0x30 8) 17 47 == 0) || !(cellGet bs 0x38 8 == 0)
    || (List.range 8).any (fun i => argReserved (cellGet bs (0x40 + 16 * i) 8))

/-- The callee stack's test (R245). -/
def calleeStackOk (k : Cap) (minStk : Nat) : Bool :=
  k.tag && !k.malformed && k.otype == 0 && k.hasAll [permLD, permST] && k.addr % 16 == 0
    && decide (k.base + 16 * minStk ≤ k.addr) && decide (k.addr ≤ k.top)

/-- The frame's address below the caller's cursor (R245). -/
def frameAt (p : Nat) (c2 : Cap) : Int := (c2.addr : Int) - (if isSentinel p then 96 else 192)

/-- Can the caller's frame be written there (R245)? -/
def frameOk (p : Nat) (c2 : Cap) (f : Int) : Bool :=
  c2.hasAll [permSC, permSL] && decide ((c2.base : Int) ≤ f) && decide (f + 96 ≤ (c2.top : Int))
    && (!isSentinel p || (c2.tag && !c2.malformed && c2.otype == 0 && c2.hasAll [permLD, permST] && c2.addr % 16 == 0))

/-- The six granules of a gate frame (R246). -/
def frameGranules (s : State) (c : SCtx) (c2 c3 : Cap) : List Cap :=
  let k := s.bank c.pair c.bank
  let flags := b2n k.evm + b2n k.lazy * 2 + b2n k.lzs * 4 + (k.gdepth + 1) * 256
  [k.pcc.withAddr c.next (k.pcc.tag && k.pcc.representable c.next), c2, c3, k.lazyCap,
    ⟨BitVec.ofNat 128 (k.gateLink.toNat + flags * 2 ^ 64), false⟩, nullCap]

/-- Each granule of a frame translated and checked in ascending order; a fault gives the pieces before it too. -/
def planFrame (c : SCtx) (s : State) : List (Nat × Cap) → List (Piece × Cap) × Res Unit
  | [] => ([], .ok () s)
  | g :: gs =>
    match planCap s (s.via c.pair c.bank) (storeKind g.2) g.1 with
    | .flt f s1 => ([], .flt f s1)
    | .ok x s1 =>
      let r := planFrame c s1 gs
      ((x, g.2) :: r.1, r.2)

/-- The granules of a list written, those whose bit of `m` is clear left out. -/
def writeFrame (c : SCtx) (m i : Nat) (s : State) : List (Piece × Cap) → State
  | [] => s
  | x :: xs =>
    writeFrame c m (i + 1) (if m.testBit i then s.capStore (s.via c.pair c.bank) x.2 x.1 else s) xs

/-- The gate frame written; on a fault each granule before the faulting one is written or not (R246; log 14). -/
def putFrame (c : SCtx) (gs : List (Nat × Cap)) (s : State) : Res Unit :=
  let r := planFrame c s gs
  match r.2 with
  | .ok _ s1 => .ok () (writeFrame c 63 0 s1 r.1)
  | .flt f s1 =>
    let u := s1.fresh
    .flt f (writeFrame c (Config.frameWritten u.1).toNat 0 u.2 r.1)

/-- The registers that a gate entry or return makes null (R247, R248). -/
def clearGateRegs (k : Bank) : Bank :=
  [12, 13, 14, 15, 28, 29, 30, 31].foldl (fun k n => k.setReg n nullCap) k

/-- The commit of `INVOKE` (R247). -/
def gateCommit (c : SCtx) (entry data stack c2 : Cap) (f ctl : Nat) (s : State) : State :=
  let lz := !isSentinel c.pair
  let s1 := s.updBank c.pair c.bank (fun k =>
    let k1 := ((clearGateRegs k).setReg 1 (mintCap 0 0xFF03 f (f + 96))).setReg 2 stack
    let k2 := (((k1.setReg 3 data).stSet 8 8 (k.gdepth + 1)).stSet 3 1 (b2n lz)).stSet 4 1 0
    { (if ctl.testBit 16 then k2.stSet 0 1 1 else k2) with
      pcc := entry.withOtype 0 true, gateLink := BitVec.ofNat 64 f, lazyCap := if lz then lazyCapOf c2 else nullCap })
  s1.updPair c.pair (maskUpdate s1.clk)

/-- `INVOKE` from its descriptor on (R245). -/
def gateCheck (c : SCtx) (g entry data stack : Cap) (bs : List Byte) (s : State) : Res Bool :=
  let k := s.bank c.pair c.bank
  let c2 := s.src c.pair c.bank 2
  let f := frameAt c.pair c2
  let ctl := cellGet bs 0x30 8
  if descReserved bs then .flt (fltA gateArg 9 g.addr) s
  else if (checkTarget entry).isSome then .flt (fltA gateArg 8 g.addr) s
  else
    match firstBadArg c s bs (List.range 8) with
    | some i => .flt (fltA gateArg i g.addr) s
    | none =>
      if k.gdepth = 255 then .flt (fltA gateStack 2 g.addr) s
      else if !calleeStackOk stack (bitsAt ctl 0 16) then .flt (fltA gateStack 0 g.addr) s
      else if !isSentinel c.pair && !lazyOk c2 then .flt (flt0 lazyStack) s
      else if !frameOk c.pair c2 f then .flt (fltA gateStack 1 (addrOf f)) s
      else
        (putFrame c (granulesFrom (addrOf f) (frameGranules s c c2 (s.src c.pair c.bank 3))) s).bind (fun _ s1 =>
          .ok true (gateCommit c entry data stack c2 (addrOf f) ctl s1))

/-- `INVOKE` (R245): the operand, the descriptor with its three capabilities, then the checks. -/
def gateCall (cs1 : RegIx) : Body := fun c s =>
  let g := s.src c.pair c.bank cs1.toNat
  match checkTyped g 0xFF02 with
  | some q => .flt (fltA q 1 g.addr) s
  | none =>
    if !g.hasAll [permIV, permLD, permLC] then .flt (fltA capPerm 1 g.addr) s
    else if (s.bank c.pair c.bank).apend then .flt (flt0 arith) s
    else if g.addr < g.base || g.top < g.addr + 192 then .flt (fltA capBounds 1 g.addr) s
    else if !(g.addr % 64 == 0) then .flt (fltA align 0 g.addr) s
    else
      (planRange s (s.via c.pair c.bank) .load g.addr 192).bind (fun ps s1 =>
        (getGranule c true g.addr s1).bind (fun entry s2 =>
          (getGranule c true (g.addr + 16) s2).bind (fun data s3 =>
            (getGranule c true (g.addr + 32) s3).bind (fun stack s4 =>
              let r := s4.readPieces ps
              gateCheck c g entry data stack r.1 r.2))))

/-! ## RETG (R248) -/

/-- The commit of `RETG`: word is the frame's flags, link the previous link. R248's faults name no check of the loaded PCC's
cursor, and R109 has returns fault with ALIGN: the model makes no check here (DEDUCED, log 71). -/
def gateBack (c : SCtx) (pcc c2 c3 lz : Cap) (link word : Nat) (s : State) : State :=
  let s1 := s.updBank c.pair c.bank (fun k =>
    let k1 := (((clearGateRegs k).setReg 1 nullCap).setReg 2 c2).setReg 3 c3
    let k2 := (((k1.stSet 0 1 (bitsAt word 0 1)).stSet 3 1 (bitsAt word 1 1)).stSet 4 1 (bitsAt word 2 1)).stSet 8 8 (k.gdepth - 1)
    { k2 with pcc := pcc, lazyCap := lz, gateLink := BitVec.ofNat 64 link })
  s1.updPair c.pair (maskUpdate s1.clk)

/-- `RETG` (R248). -/
def gateReturn (cs1 : RegIx) : Body := fun c s =>
  let g := s.src c.pair c.bank cs1.toNat
  let k := s.bank c.pair c.bank
  match checkTyped g 0xFF03 with
  | some q => .flt (fltA q 1 g.addr) s
  | none =>
    if k.apend then .flt (flt0 arith) s
    else if k.gdepth = 0 || !(g.addr == k.gateLink.toNat) then .flt (fltA gateStack 3 g.addr) s
    else
      (getGranule c true g.addr s).bind (fun pcc s1 =>
        (getGranule c true (g.addr + 16) s1).bind (fun c2 s2 =>
          (getGranule c true (g.addr + 32) s2).bind (fun c3 s3 =>
            (getGranule c true (g.addr + 48) s3).bind (fun lz s4 =>
              (getGranule c true (g.addr + 64) s4).bind (fun w s5 =>
                let word := bitsAt w.bits.toNat 64 64
                if !(bitsAt word 8 8 == k.gdepth) then .flt (fltA gateStack 3 g.addr) s5
                else
                  (s5.lazyReload c.pair c.bank).bind (fun _ s6 =>
                    .ok true (gateBack c pcc c2 c3 lz (bitsAt w.bits.toNat 0 64) word s6)))))))

/-! ## RETE (R237) -/

/-- `RETE`: its faults, then the end of the event. -/
def eventReturn : Body := fun c s =>
  let k := s.bank c.pair c.bank
  if !(k.gdepth == 0) then illegalAt s
  else if k.apend then .flt (flt0 arith) s
  else (s.lazyReload c.pair c.bank).bind (fun _ s1 => .ok true (s1.rete c.pair c.bank))

/-- The effect of `INVOKE` (R245). -/
def sylInvoke (cs1 : RegIx) : Body := gateCall cs1

/-- INVOKE (R245). -/
def execInvoke (p : Nat) (cs1 : RegIx) (s : State) : Host.Outcome State Fault Refusal :=
  runSyl (.invoke p cs1) p (sylInvoke cs1) s

/-- The effect of `RETG` (R248). -/
def sylRetg (cs1 : RegIx) : Body := gateReturn cs1

/-- RETG (R248). -/
def execRetg (p : Nat) (cs1 : RegIx) (s : State) : Host.Outcome State Fault Refusal :=
  runSyl (.retg p cs1) p (sylRetg cs1) s

/-- The effect of `RETE` (R237). -/
def sylRete : Body := eventReturn

/-- RETE (R237). -/
def execRete (p : Nat) (s : State) : Host.Outcome State Fault Refusal :=
  runSyl (.rete p) p sylRete s

end Sys2Proof.Machine
end

