-- ==== Sys2Proof/Machine/Custom.lean ====
section
/-!
DEFINITION. The custom syllables: decode-table microcode (R402-R421): each syllable's own effect (`syl...`) and its meaning as a command (`exec...`).
-/
namespace Sys2Proof.Machine
open Sys2Proof (Instr Imm)

/-! ## Operands (R410, R412) -/

/-- The working values of a custom syllable: temporaries, held register writes, flags and held stores. -/
structure Work8 where
  temps : List (Nat × Cap)
  held : List (Nat × Cap)
  flags : Flags
  stores : List (List Piece × Nat × Nat × Option Cap)
deriving DecidableEq, Repr

/-- The three register fields of the syllable. -/
structure CustomRegs where
  cd : RegIx
  cs1 : RegIx
  cs2 : RegIx
deriving DecidableEq, Repr

/-- The register that a selector of a field names. -/
def CustomRegs.field (r : CustomRegs) (sel : Nat) : Nat :=
  if sel = 1 then r.cd.toNat else if sel = 2 then r.cs1.toNat else r.cs2.toNat

/-- The value that a selector reads (R410, R412): registers as they stood before the syllable. -/
def readSel (c : SCtx) (s : State) (r : CustomRegs) (w : Work8) (imm : Word) (sel : Nat) : Cap :=
  if sel = 0 then nullCap
  else if sel ≤ 3 then s.src c.pair c.bank (r.field sel)
  else if sel = 16 then intCap imm
  else smGet (always nullCap) w.temps sel

/-- A value written to a selector: a temporary at once, a register held to the end (R412). -/
def writeSel (r : CustomRegs) (w : Work8) (sel : Nat) (v : Cap) : Work8 :=
  if sel = 0 then w
  else if sel ≤ 3 then { w with held := w.held ++ [(r.field sel, v)] }
  else { w with temps := smSet (always nullCap) w.temps sel v }

/-- The operand number of a selector in a fault's DETAIL (R415). -/
def selDetail (sel : Nat) : Nat := if sel = 1 then 3 else if sel = 2 then 1 else if sel = 3 then 2 else 5

/-! ## The micro-operations (R411) -/

/-- The result of a `UALU` or `USHMD` on integer views. -/
def microInt (group fn : Nat) (a b : Word) : Word × Flags :=
  if group = 1 then
    match fn with
    | 0x00 => opAdd a b
    | 0x01 => opSub a b
    | 0x02 => opAddV a b
    | 0x03 => opSubV a b
    | 0x04 => opAddS a b
    | 0x05 => opSubS a b
    | 0x06 => opNeg a
    | 0x07 => opNegS a
    | 0x08 => opAnd a b
    | 0x09 => opOr a b
    | 0x0A => opXor a b
    | 0x0B => opAndn a b
    | 0x0C => opOrn a b
    | 0x0D => opMin a b
    | 0x0E => opMax a b
    | 0x0F => opMinu a b
    | 0x10 => opMaxu a b
    | 0x11 => opSlt a b
    | 0x12 => opSltu a b
    | 0x13 => opClz a
    | 0x14 => opCtz a
    | 0x15 => opPopc a
    | 0x16 => opSext 8 a
    | 0x17 => opSext 16 a
    | 0x18 => opSext 32 a
    | _ => opZextw a
  else
    match fn with
    | 0x00 => opSll a b.toNat
    | 0x01 => opSrl a b.toNat
    | 0x02 => opSra a b.toNat
    | 0x04 => opMul a b
    | 0x05 => opMulV a b
    | 0x06 => opMulS a b
    | 0x07 => opMulh a b
    | 0x08 => opMulhu a b
    | 0x0C => opDiv a b
    | 0x0D => opDivu a b
    | 0x0E => opRem a b
    | 0x0F => opRemu a b
    | _ => opDivS a b

/-- The result of a `UWIDE`; `WHI` gives an integer. -/
def microWide (fn : Nat) (a b : Wide) : Wide × Flags :=
  match fn with
  | 0x00 => opAdd a b
  | 0x01 => opSub a b
  | 0x02 => opAddV a b
  | 0x03 => opSubV a b
  | 0x04 => opAddS a b
  | 0x05 => opSubS a b
  | 0x06 => opNeg a
  | 0x07 => opNegS a
  | 0x08 => opAnd a b
  | 0x09 => opOr a b
  | 0x0A => opXor a b
  | 0x0B => opSll a (low64 b).toNat
  | 0x0C => opSrl a (low64 b).toNat
  | 0x0D => opSra a (low64 b).toNat
  | 0x0E => opMul a b
  | 0x0F => opMulV a b
  | 0x10 => opMulS a b
  | 0x11 => opMulx (low64 a) (low64 b)
  | 0x12 => opMulxu (low64 a) (low64 b)
  | 0x13 => opDiv a b
  | 0x14 => opRem a b
  | 0x15 => opDivS a b
  | 0x16 => ((low64 a).signExtend 128, noFlags)
  | 0x17 => ((low64 a).setWidth 128, noFlags)
  | 0x18 => (low64 b ++ low64 a, noFlags)
  | _ => ((a >>> 64).setWidth 64 |>.setWidth 128, noFlags)

/-- The result of a `UCAP`. -/
def microCap (fn : Nat) (a b : Cap) : CapOut :=
  match fn with
  | 0x00 => .val a
  | 0x01 => opCsetaddr a (low64 b.bits)
  | 0x02 => opCincaddr a (low64 b.bits)
  | 0x03 => opCsetbounds a (low64 b.bits)
  | 0x04 => opCsetboundsx a (low64 b.bits)
  | 0x05 => opCandperm a (low64 b.bits)
  | 0x06 => .val a.untag
  | 0x07 => opCseal a b
  | 0x08 => opCunseal a b
  | 0x09 => opCsealentry a
  | 0x0A => inspect (b2n a.tag)
  | 0x0B => inspect a.perms
  | 0x0C => inspect a.otype
  | 0x0D => inspect a.addr
  | 0x0E => opCgetbase a
  | 0x0F => opCgettop a
  | 0x10 => opCgetlen a
  | 0x11 => .val (intCap (opCrrl (low64 a.bits)))
  | _ => .val (intCap (opCram (low64 a.bits)))

/-- Is the condition of a `UCMP` or `USKIP` true of two values? -/
def microCond (cond : Nat) (wide : Bool) (a b : Cap) : Bool :=
  if wide then condHolds cond a.bits b.bits else condHolds cond (low64 a.bits) (low64 b.bits)

/-- The pages that a memory micro-op touches are Normal-WB (R414). -/
def microPages (ps : List Piece) (ea : Nat) (s : State) : Res Unit :=
  match normalWb ps ea with
  | some f => .flt f s
  | none => .ok () s

/-- The value that a `ULOAD` loads (R411, R414). -/
def microLoad (c : SCtx) (fn : Nat) (a : Cap) (operand ea : Nat) (s : State) : Res Cap :=
  if fn = 7 then
    match checkAccess a ea 16 [permLD] with
    | some k => .flt (fltA k operand ea) s
    | none =>
      if !(ea % 16 == 0) then .flt (fltA align 0 ea) s
      else
        (planCap s (s.via c.pair c.bank) .load ea).bind (fun x s1 =>
          (microPages [x] ea s1).bind (fun _ s2 =>
            let r := s2.capLoad (s2.via c.pair c.bank) (a.has permLC) x
            .ok r.1 r.2))
  else
    let size := if fn ≤ 1 then 1 else if fn ≤ 3 then 2 else if fn ≤ 5 then 4 else 8
    match checkAccess a ea size [permLD] with
    | some k => .flt (fltA k operand ea) s
    | none =>
      (planAccess s (s.via c.pair c.bank) .load false ea size).bind (fun ps s1 =>
        (microPages ps ea s1).bind (fun _ s2 =>
          let r := s2.readPieces ps
          let v := bytesNat r.1
          let x : Word := if fn % 2 = 0 then (BitVec.ofNat (8 * size) v).signExtend 64 else BitVec.ofNat 64 v
          .ok (intCap x) r.2))

/-- A `USTORE` checked, translated and held (R414, R416). -/
def microStore (c : SCtx) (fn : Nat) (a v : Cap) (operand ea : Nat) (w : Work8) (s : State) : Res Work8 :=
  if fn = 4 then
    (planStoreCap c a operand ea v s).bind (fun x s1 =>
      (microPages [x] ea s1).bind (fun _ s2 => .ok { w with stores := w.stores ++ [([x], 16, 0, some v)] } s2))
  else
    let size := 2 ^ fn
    (planStore c a operand ea size s).bind (fun ps s1 =>
      (microPages ps ea s1).bind (fun _ s2 =>
        .ok { w with stores := w.stores ++ [(ps, size, (low64 v.bits).toNat, none)] } s2))

/-- Held stores performed in order (R416). -/
def State.heldStores (s : State) (c : SCtx) : List (List Piece × Nat × Nat × Option Cap) → State
  | [] => s
  | (ps, size, val, v) :: rest =>
    let s1 := match v, ps with
      | some x, y :: _ => s.capStore (s.via c.pair c.bank) x y
      | _, _ => s.doStore c ps size val
    s1.heldStores c rest

/-- One micro-op (R411): the working values after it, and how many micro-ops it skips. -/
def microOp (c : SCtx) (r : CustomRegs) (u : Uop) (w : Work8) (s : State) : Res (Work8 × Nat) :=
  let rd := readSel c s r w (u.imm.signExtend 64)
  let a := rd u.a
  let b := rd u.b
  let fin := fun (v : Cap) (f : Flags) => Res.ok ({ writeSel r w u.d v with flags := w.flags.or f }, 0) s
  match u.code with
  | 1 => let x := microInt 1 u.fn (low64 a.bits) (low64 b.bits); fin (intCap x.1) x.2
  | 2 => let x := microInt 2 u.fn (low64 a.bits) (low64 b.bits); fin (intCap x.1) x.2
  | 3 => let x := microWide u.fn a.bits b.bits; fin (wideCap x.1) x.2
  | 4 => fin (intCap (if microCond (u.fn % 8) (u.fn.testBit 3) a b then 1 else 0)) noFlags
  | 5 =>
    match microCap u.fn a b with
    | .val v => fin v noFlags
    | .bad n => .flt (fltD capMalformed (selDetail (if n = 2 then u.b else u.a))) s
  | 6 =>
    let ea := addrOf ((a.addr : Int) + ((low64 b.bits).toNat : Int) + u.imm.toInt)
    (microLoad c u.fn a (selDetail u.a) ea s).bind (fun v s1 => .ok (writeSel r w u.d v, 0) s1)
  | 7 =>
    let ea := addrOf ((a.addr : Int) + ((low64 b.bits).toNat : Int) + u.imm.toInt)
    (microStore c u.fn a (rd u.d) (selDetail u.a) ea w s).bind (fun w1 s1 => .ok (w1, 0) s1)
  | _ => .ok (w, if microCond (u.fn % 8) false (rd u.d) a then u.imm.toNat else 0) s

/-- The micro-ops of an entry from index i on, at most `fuel` of them; a fault gives the index of the micro-op (R415). -/
def microRun (c : SCtx) (r : CustomRegs) (t : DecodeTable) (n len i : Nat) (w : Work8) (s : State) : Nat → Res Work8 × Nat
  | 0 => (.ok w s, i)
  | fuel + 1 =>
    if len ≤ i then (.ok w s, i)
    else
      match microOp c r (uopOf (t.uop n i).toNat) w s with
      | .flt f s1 => (.flt f s1, i)
      | .ok (w1, k) s1 => microRun c r t n len (i + 1 + k) w1 s1 fuel

/-- Held register writes take effect in order, so the last one stands (R412). -/
def State.heldRegs (s : State) (c : SCtx) (l : List (Nat × Cap)) : State :=
  l.foldl (fun s e => s.setReg c.pair c.bank e.1 e.2) s

/-- `MC_FLT` records a microcoded fault (R415). -/
def State.mcFault (s : State) (p n i cause : Nat) : State :=
  s.wr Addr.MC_FLT (BitVec.ofNat 64 (p % 128 + n % 64 * 2 ^ 8 + i % 32 * 2 ^ 16 + cause % 256 * 2 ^ 24))

/-- A custom syllable (R408-R416): ILLEGAL on a sentinel, for an empty entry or an unused field that is not zero. -/
def custom (n : BitVec 6) (cd cs1 cs2 : RegIx) : Body := fun c s =>
  let t := (s.pair c.pair).table
  if isSentinel c.pair || !customDefined t n.toNat cd cs1 cs2 then illegalAt s
  else
    let len := bitsAt (t.word n.toNat).toNat 5 6
    match microRun c ⟨cd, cs1, cs2⟩ t n.toNat len 0 ⟨[], [], noFlags, []⟩ s 32 with
    | (.flt f s1, i) => .flt f (s1.mcFault c.pair n.toNat i f.cause)
    | (.ok w s1, _) => .ok false (((s1.heldStores c w.stores).heldRegs c w.held).addFlags c.pair c.bank w.flags)

/-- The effect of `CUSTOM_SYLLABLE` (R416). -/
def sylCustomSyllable (n : BitVec 6) (cd : RegIx) (cs1 : RegIx) (cs2 : RegIx) : Body := custom n cd cs1 cs2

/-- CUSTOM_SYLLABLE (R416). -/
def execCustomSyllable (p : Nat) (n : BitVec 6) (cd : RegIx) (cs1 : RegIx) (cs2 : RegIx) (s : State) : Host.Outcome State Fault Refusal :=
  runSyl (.customSyllable p n cd cs1 cs2) p (sylCustomSyllable n cd cs1 cs2) s

end Sys2Proof.Machine
end

