-- ==== Sys2Proof/Machine/Bundle.lean ====
section
/-!
DEFINITION. The execution of a whole bundle at `PCC`, of a run of a repeated bundle, and the end of a mode shadow (R104,
R112-R117, R133, R165-R167, R286).
-/
namespace Sys2Proof.Machine
open Sys2Proof (Instr Imm)

/-- The effect of a syllable in a bundle; none for a command that is no syllable. -/
def bodyOf (i : Instr) : Option Body :=
  match i with
  | .lb _ cd cs1 imm => some (sylLb cd cs1 imm)
  | .lbu _ cd cs1 imm => some (sylLbu cd cs1 imm)
  | .lh _ cd cs1 imm => some (sylLh cd cs1 imm)
  | .lhu _ cd cs1 imm => some (sylLhu cd cs1 imm)
  | .lw _ cd cs1 imm => some (sylLw cd cs1 imm)
  | .lwu _ cd cs1 imm => some (sylLwu cd cs1 imm)
  | .ld _ cd cs1 imm => some (sylLd cd cs1 imm)
  | .clc _ cd cs1 imm => some (sylClc cd cs1 imm)
  | .sb _ cd cs1 imm => some (sylSb cd cs1 imm)
  | .sh _ cd cs1 imm => some (sylSh cd cs1 imm)
  | .sw _ cd cs1 imm => some (sylSw cd cs1 imm)
  | .sd _ cd cs1 imm => some (sylSd cd cs1 imm)
  | .csc _ cd cs1 imm => some (sylCsc cd cs1 imm)
  | .lbx _ cd cs1 cs2 => some (sylLbx cd cs1 cs2)
  | .lbux _ cd cs1 cs2 => some (sylLbux cd cs1 cs2)
  | .lhx _ cd cs1 cs2 => some (sylLhx cd cs1 cs2)
  | .lhux _ cd cs1 cs2 => some (sylLhux cd cs1 cs2)
  | .lwx _ cd cs1 cs2 => some (sylLwx cd cs1 cs2)
  | .lwux _ cd cs1 cs2 => some (sylLwux cd cs1 cs2)
  | .ldx _ cd cs1 cs2 => some (sylLdx cd cs1 cs2)
  | .clcx _ cd cs1 cs2 => some (sylClcx cd cs1 cs2)
  | .sbx _ cd cs1 cs2 => some (sylSbx cd cs1 cs2)
  | .shx _ cd cs1 cs2 => some (sylShx cd cs1 cs2)
  | .swx _ cd cs1 cs2 => some (sylSwx cd cs1 cs2)
  | .sdx _ cd cs1 cs2 => some (sylSdx cd cs1 cs2)
  | .cscx _ cd cs1 cs2 => some (sylCscx cd cs1 cs2)
  | .lrcD _ cd cs1 => some (sylLrcD cd cs1)
  | .lrcC _ cd cs1 => some (sylLrcC cd cs1)
  | .sccD _ cd cs1 cs2 => some (sylSccD cd cs1 cs2)
  | .sccC _ cd cs1 cs2 => some (sylSccC cd cs1 cs2)
  | .cmove _ cd cs1 => some (sylCmove cd cs1)
  | .csetaddr _ cd cs1 cs2 => some (sylCsetaddr cd cs1 cs2)
  | .cincaddr _ cd cs1 cs2 => some (sylCincaddr cd cs1 cs2)
  | .cincaddri _ cd cs1 imm => some (sylCincaddri cd cs1 imm)
  | .csetbounds _ cd cs1 cs2 => some (sylCsetbounds cd cs1 cs2)
  | .csetboundsx _ cd cs1 cs2 => some (sylCsetboundsx cd cs1 cs2)
  | .candperm _ cd cs1 cs2 => some (sylCandperm cd cs1 cs2)
  | .ccleartag _ cd cs1 => some (sylCcleartag cd cs1)
  | .cseal _ cd cs1 cs2 => some (sylCseal cd cs1 cs2)
  | .cunseal _ cd cs1 cs2 => some (sylCunseal cd cs1 cs2)
  | .csealentry _ cd cs1 => some (sylCsealentry cd cs1)
  | .cgettag _ cd cs1 => some (sylCgettag cd cs1)
  | .cgetperm _ cd cs1 => some (sylCgetperm cd cs1)
  | .cgettype _ cd cs1 => some (sylCgettype cd cs1)
  | .cgetaddr _ cd cs1 => some (sylCgetaddr cd cs1)
  | .cgetbase _ cd cs1 => some (sylCgetbase cd cs1)
  | .cgettop _ cd cs1 => some (sylCgettop cd cs1)
  | .cgetlen _ cd cs1 => some (sylCgetlen cd cs1)
  | .crrl _ cd cs1 => some (sylCrrl cd cs1)
  | .cram _ cd cs1 => some (sylCram cd cs1)
  | .add _ cd cs1 cs2 => some (sylAdd cd cs1 cs2)
  | .sub _ cd cs1 cs2 => some (sylSub cd cs1 cs2)
  | .addv _ cd cs1 cs2 => some (sylAddv cd cs1 cs2)
  | .subv _ cd cs1 cs2 => some (sylSubv cd cs1 cs2)
  | .adds _ cd cs1 cs2 => some (sylAdds cd cs1 cs2)
  | .subs _ cd cs1 cs2 => some (sylSubs cd cs1 cs2)
  | .neg _ cd cs1 => some (sylNeg cd cs1)
  | .negs _ cd cs1 => some (sylNegs cd cs1)
  | .and _ cd cs1 cs2 => some (sylAnd cd cs1 cs2)
  | .or _ cd cs1 cs2 => some (sylOr cd cs1 cs2)
  | .xor _ cd cs1 cs2 => some (sylXor cd cs1 cs2)
  | .andn _ cd cs1 cs2 => some (sylAndn cd cs1 cs2)
  | .orn _ cd cs1 cs2 => some (sylOrn cd cs1 cs2)
  | .min _ cd cs1 cs2 => some (sylMin cd cs1 cs2)
  | .max _ cd cs1 cs2 => some (sylMax cd cs1 cs2)
  | .minu _ cd cs1 cs2 => some (sylMinu cd cs1 cs2)
  | .maxu _ cd cs1 cs2 => some (sylMaxu cd cs1 cs2)
  | .slt _ cd cs1 cs2 => some (sylSlt cd cs1 cs2)
  | .sltu _ cd cs1 cs2 => some (sylSltu cd cs1 cs2)
  | .clz _ cd cs1 => some (sylClz cd cs1)
  | .ctz _ cd cs1 => some (sylCtz cd cs1)
  | .popc _ cd cs1 => some (sylPopc cd cs1)
  | .sextb _ cd cs1 => some (sylSextb cd cs1)
  | .sexth _ cd cs1 => some (sylSexth cd cs1)
  | .sextw _ cd cs1 => some (sylSextw cd cs1)
  | .zextw _ cd cs1 => some (sylZextw cd cs1)
  | .mfs _ cd sr cs2 => some (sylMfs cd sr cs2)
  | .mts _ sr cs1 cs2 => some (sylMts sr cs1 cs2)
  | .pand _ pd ps1 ps2 => some (sylPand pd ps1 ps2)
  | .por _ pd ps1 ps2 => some (sylPor pd ps1 ps2)
  | .pxor _ pd ps1 ps2 => some (sylPxor pd ps1 ps2)
  | .pandn _ pd ps1 ps2 => some (sylPandn pd ps1 ps2)
  | .pget _ cd => some (sylPget cd)
  | .pput _ cs1 => some (sylPput cs1)
  | .sll _ cd cs1 cs2 => some (sylSll cd cs1 cs2)
  | .srl _ cd cs1 cs2 => some (sylSrl cd cs1 cs2)
  | .sra _ cd cs1 cs2 => some (sylSra cd cs1 cs2)
  | .mul _ cd cs1 cs2 => some (sylMul cd cs1 cs2)
  | .mulv _ cd cs1 cs2 => some (sylMulv cd cs1 cs2)
  | .muls _ cd cs1 cs2 => some (sylMuls cd cs1 cs2)
  | .mulh _ cd cs1 cs2 => some (sylMulh cd cs1 cs2)
  | .mulhu _ cd cs1 cs2 => some (sylMulhu cd cs1 cs2)
  | .div _ cd cs1 cs2 => some (sylDiv cd cs1 cs2)
  | .divu _ cd cs1 cs2 => some (sylDivu cd cs1 cs2)
  | .rem _ cd cs1 cs2 => some (sylRem cd cs1 cs2)
  | .remu _ cd cs1 cs2 => some (sylRemu cd cs1 cs2)
  | .divs _ cd cs1 cs2 => some (sylDivs cd cs1 cs2)
  | .addi _ cd cs1 imm => some (sylAddi cd cs1 imm)
  | .andi _ cd cs1 imm => some (sylAndi cd cs1 imm)
  | .ori _ cd cs1 imm => some (sylOri cd cs1 imm)
  | .xori _ cd cs1 imm => some (sylXori cd cs1 imm)
  | .slli _ cd cs1 amt => some (sylSlli cd cs1 amt)
  | .srli _ cd cs1 amt => some (sylSrli cd cs1 amt)
  | .srai _ cd cs1 amt => some (sylSrai cd cs1 amt)
  | .compare _ pd pc cond cs1 cs2 => some (sylCompare pd pc cond cs1 cs2)
  | .wadd _ cd cs1 cs2 => some (sylWadd cd cs1 cs2)
  | .wsub _ cd cs1 cs2 => some (sylWsub cd cs1 cs2)
  | .waddv _ cd cs1 cs2 => some (sylWaddv cd cs1 cs2)
  | .wsubv _ cd cs1 cs2 => some (sylWsubv cd cs1 cs2)
  | .wadds _ cd cs1 cs2 => some (sylWadds cd cs1 cs2)
  | .wsubs _ cd cs1 cs2 => some (sylWsubs cd cs1 cs2)
  | .wneg _ cd cs1 => some (sylWneg cd cs1)
  | .wnegs _ cd cs1 => some (sylWnegs cd cs1)
  | .wand _ cd cs1 cs2 => some (sylWand cd cs1 cs2)
  | .wor _ cd cs1 cs2 => some (sylWor cd cs1 cs2)
  | .wxor _ cd cs1 cs2 => some (sylWxor cd cs1 cs2)
  | .wsll _ cd cs1 cs2 => some (sylWsll cd cs1 cs2)
  | .wsrl _ cd cs1 cs2 => some (sylWsrl cd cs1 cs2)
  | .wsra _ cd cs1 cs2 => some (sylWsra cd cs1 cs2)
  | .wmul _ cd cs1 cs2 => some (sylWmul cd cs1 cs2)
  | .wmulv _ cd cs1 cs2 => some (sylWmulv cd cs1 cs2)
  | .wmuls _ cd cs1 cs2 => some (sylWmuls cd cs1 cs2)
  | .wmulx _ cd cs1 cs2 => some (sylWmulx cd cs1 cs2)
  | .wmulxu _ cd cs1 cs2 => some (sylWmulxu cd cs1 cs2)
  | .wdiv _ cd cs1 cs2 => some (sylWdiv cd cs1 cs2)
  | .wrem _ cd cs1 cs2 => some (sylWrem cd cs1 cs2)
  | .wdivs _ cd cs1 cs2 => some (sylWdivs cd cs1 cs2)
  | .wsext _ cd cs1 => some (sylWsext cd cs1)
  | .wzext _ cd cs1 => some (sylWzext cd cs1)
  | .wpack _ cd cs1 cs2 => some (sylWpack cd cs1 cs2)
  | .whi _ cd cs1 => some (sylWhi cd cs1)
  | .wslli _ cd cs1 amt => some (sylWslli cd cs1 amt)
  | .wsrli _ cd cs1 amt => some (sylWsrli cd cs1 amt)
  | .wsrai _ cd cs1 amt => some (sylWsrai cd cs1 amt)
  | .waddi _ cd cs1 imm => some (sylWaddi cd cs1 imm)
  | .wideCompare _ pd pc cond cs1 cs2 => some (sylWideCompare pd pc cond cs1 cs2)
  | .aclr _ ad => some (sylAclr ad)
  | .amova _ ad as_ => some (sylAmova ad as_)
  | .asetw _ ad cs1 => some (sylAsetw ad cs1)
  | .asetx _ ad cs1 => some (sylAsetx ad cs1)
  | .asetm _ ad cs1 => some (sylAsetm ad cs1)
  | .agetg _ cd as_ => some (sylAgetg cd as_)
  | .aneg _ ad => some (sylAneg ad)
  | .agetr _ cd as_ => some (sylAgetr cd as_)
  | .asetg _ ad cs1 => some (sylAsetg ad cs1)
  | .qmul _ ad cs1 cs2 => some (sylQmul ad cs1 cs2)
  | .qmac _ ad cs1 cs2 => some (sylQmac ad cs1 cs2)
  | .qmsu _ ad cs1 cs2 => some (sylQmsu ad cs1 cs2)
  | .mmul _ ad cs1 cs2 => some (sylMmul ad cs1 cs2)
  | .mmac _ ad cs1 cs2 => some (sylMmac ad cs1 cs2)
  | .mmsu _ ad cs1 cs2 => some (sylMmsu ad cs1 cs2)
  | .aaddw _ ad cs1 => some (sylAaddw ad cs1)
  | .asubw _ ad cs1 => some (sylAsubw ad cs1)
  | .aaddq _ ad cs1 => some (sylAaddq ad cs1)
  | .asubq _ ad cs1 => some (sylAsubq ad cs1)
  | .aadda _ ad as_ => some (sylAadda ad as_)
  | .arndq _ cd as_ => some (sylArndq cd as_)
  | .arndw _ cd as_ => some (sylArndw cd as_)
  | .ashrq _ cd as_ cs2 => some (sylAshrq cd as_ cs2)
  | .ashrw _ cd as_ cs2 => some (sylAshrw cd as_ cs2)
  | .arndm _ cd as_ => some (sylArndm cd as_)
  | .qadd _ cd cs1 cs2 => some (sylQadd cd cs1 cs2)
  | .qsub _ cd cs1 cs2 => some (sylQsub cd cs1 cs2)
  | .qmulr _ cd cs1 cs2 => some (sylQmulr cd cs1 cs2)
  | .qneg _ cd cs1 => some (sylQneg cd cs1)
  | .wqadd _ cd cs1 cs2 => some (sylWqadd cd cs1 cs2)
  | .wqsub _ cd cs1 cs2 => some (sylWqsub cd cs1 cs2)
  | .wqmulr _ cd cs1 cs2 => some (sylWqmulr cd cs1 cs2)
  | .wqneg _ cd cs1 => some (sylWqneg cd cs1)
  | .qtow _ cd cs1 => some (sylQtow cd cs1)
  | .wtoq _ cd cs1 => some (sylWtoq cd cs1)
  | .qdiv _ cd cs1 cs2 => some (sylQdiv cd cs1 cs2)
  | .wqdiv _ cd cs1 cs2 => some (sylWqdiv cd cs1 cs2)
  | .mdiv _ cd cs1 cs2 => some (sylMdiv cd cs1 cs2)
  | .mscale _ cd cs1 cs2 => some (sylMscale cd cs1 cs2)
  | .mmulq _ cd cs1 => some (sylMmulq cd cs1)
  | .mrnd _ cd cs1 => some (sylMrnd cd cs1)
  | .mbrk _ cd cs1 => some (sylMbrk cd cs1)
  | .mrndx _ cd cs1 => some (sylMrndx cd cs1)
  | .fsync _ => some sylFsync
  | .tadd _ cd cs1 cs2 ca => some (sylTadd cd cs1 cs2 ca)
  | .tclose _ cd cs1 cs2 => some (sylTclose cd cs1 cs2)
  | .tread _ cd cs1 cs2 => some (sylTread cd cs1 cs2)
  | .stm _ cs1 cs2 => some (sylStm cs1 cs2)
  | .ldm _ cs1 cs2 => some (sylLdm cs1 cs2)
  | .svctxU _ cd cs1 => some (sylSvctxU cd cs1)
  | .svctxL _ cd cs1 => some (sylSvctxL cd cs1)
  | .ldctxU _ cd => some (sylLdctxU cd)
  | .ldctxL _ cd => some (sylLdctxL cd)
  | .br _ imm => some (sylBr imm)
  | .cjr _ cs1 => some (sylCjr cs1)
  | .cjalr _ cd cs1 => some (sylCjalr cd cs1)
  | .callm _ cd cs1 cs2 imm => some (sylCallm cd cs1 cs2 imm)
  | .callmR _ cd => some (sylCallmR cd)
  | .invoke _ cs1 => some (sylInvoke cs1)
  | .retg _ cs1 => some (sylRetg cs1)
  | .rete _ => some sylRete
  | .loop _ cs1 imm => some (sylLoop cs1 imm)
  | .repi _ cs1 => some (sylRepi cs1)
  | .repu _ cs1 => some (sylRepu cs1)
  | .japp _ cd cs1 cs2 => some (sylJapp cd cs1 cs2)
  | .jseal _ cd cs1 => some (sylJseal cd cs1)
  | .draw _ cd cs1 cs2 => some (sylDraw cd cs1 cs2)
  | .eclipse _ cd cs1 => some (sylEclipse cd cs1)
  | .eclipseR _ cd cs1 cs2 => some (sylEclipseR cd cs1 cs2)
  | .msync _ => some sylMsync
  | .iflush _ => some sylIflush
  | .tlbinvVa _ cs1 cs2 => some (sylTlbinvVa cs1 cs2)
  | .tlbinvAsid _ cs2 => some (sylTlbinvAsid cs2)
  | .tlbinvAll _ => some sylTlbinvAll
  | .walkinvVa _ cs1 cs2 => some (sylWalkinvVa cs1 cs2)
  | .walkinvAll _ => some sylWalkinvAll
  | .customSyllable _ n cd cs1 cs2 => some (sylCustomSyllable n cd cs1 cs2)
  | _ => none

/-- Does a syllable execute: p[`PS`] XOR `PI`, as the predicates stood before the bundle (R114)? -/
def DSyl.executes (d : DSyl) (k : Bank) : Bool := k.pred d.ps != d.pi

/-- The bank whose predicates decide a syllable of a bundle by its index: the first of a sentinel's is the delay syllable of a
load (R133). -/
def State.bankFor (s : State) (p b k : Nat) : Bank := if k = 0 then s.seen p b else s.bank p b

/-- The syllables of a bundle, from index `k` on, that execute. -/
def executed (s : State) (p b k : Nat) : List DSyl → List DSyl
  | [] => []
  | d :: ds => if d.executes (s.bankFor p b k) then d :: executed s p b (k + 1) ds else executed s p b (k + 1) ds

/-- Does a syllable write the running bank's `LC` by `MTS` (R124)? -/
def writesLc (c : SCtx) (s : State) (d : DSyl) : Bool :=
  match d.ins with
  | .mts _ sr _ _ => sr == 4 && s.winBank c == c.bank
  | _ => false

/-- The syllables of a bundle in slot order from index `k` on, `left` saying that one has set `PCC` or left the bank. A fault
of a later syllable leaves what that syllable alone leaves of the state `s0` before the bundle (R113, R197); it comes with the
syllable. The delay of a sentinel's load ends with the first syllable (R133). -/
def runSyls (c : SCtx) (s0 : State) (left : Bool) (k : Nat) (s : State) : List DSyl → Res Bool × Option DSyl
  | [] => (.ok left s, none)
  | d :: ds =>
    if !d.executes (s0.bankFor c.pair c.bank k) then
      runSyls c s0 left (k + 1) (if k = 0 then s.endDelay c.pair else s) ds
    else
      let cd := { c with unit := d.unit }
      match bodyOf d.ins with
      | none => (.flt (flt0 illegal) s0, some d)
      | some body =>
        match body cd s with
        | .ok l s1 =>
          runSyls c s0 (left || l) (k + 1) (if k = 0 && !d.info.load then s1.endDelay c.pair else s1) ds
        | .flt f s1 =>
          if k = 0 then (.flt f s1, some d)
          else
            match body cd s0 with
            | .flt _ s2 => (.flt f s2, some d)
            | .ok _ _ => (.flt f s0, some d)

/-- Does a bundle wait for a tally status (R206)? With `AMODE.PA` set or in DET no later bundle issues before it, whether its
syllables execute or not (R194, R285, R297). -/
def State.bundleWaits (s : State) (p b : Nat) (u : Bundle) : Bool :=
  (((s.bank p b).pa || (s.pair p).det) && s.tallyBusy p b)
    || (executed s p b 0 u.syls).any (fun d => s.sylWaits p b d.info)

/-- A run of a bundle ends: the fault of a syllable, or its retirement. `wait` is the state where the fault must wait for a
tally status (R192, R206). -/
def State.bundleEnd (s : State) (c : SCtx) (u : Bundle) (wait : State) (retire : State → State) : State :=
  match runSyls c s false 0 s u.syls with
  | (.ok left s1, _) => (if left then s1 else retire s1).stepped c.pair
  | (.flt f s1, d) =>
    if s.tallyBusy c.pair c.bank then wait
    else
      let arithSyl := match d with
        | some x => x.info.arith
        | none => false
      let slot := match d with
        | some x => x.unit
        | none => 0
      (s1.faultOf c.pair c.bank f slot (f.cause == arith && !arithSyl)).stepped c.pair

/-- A fault that no one syllable raises: `SLOT` is free (R112, R230; log 13). -/
def State.openFault (s : State) (p b : Nat) (f : PFault) : State :=
  let u := s.fresh
  (u.2.faultOf p b f (Config.openSlot u.1).toNat false).stepped p

/-- The end of a repeat: `STATUS.REP` 0 and `PCC` past the repeated bundle (R167). -/
def State.repeatDone (s : State) (c : SCtx) : State :=
  (s.updBank c.pair c.bank (fun k => k.stSet 6 2 0)).goTo c c.next

/-- One run of a repeated bundle has ended (R166, R167). -/
def State.repeatNext (s : State) (c : SCtx) : State :=
  let s1 := s.updBank c.pair c.bank (fun k => { k with lc := k.lc - 1 })
  if (s1.bank c.pair c.bank).lc = 0 then s1.repeatDone c else s1

/-- A bundle fetched with `STATUS.REP` non-zero: it completes at once with `LC` 0, is checked again, and runs once (R167). -/
def State.repeatRun (s : State) (c : SCtx) (u : Bundle) (wait : State) : State :=
  if (s.bank c.pair c.bank).lc = 0 then (s.repeatDone c).stepped c.pair
  else if !repeatable u then
    (if s.tallyBusy c.pair c.bank then wait else s.openFault c.pair c.bank (flt0 illegal))
  else s.bundleEnd c u wait (fun s1 => s1.repeatNext c)

/-- The boundary of the bundle at `PCC` of the running bank b (R228): the pending ARITH of a resumption, a pass that is due, an
enabled event, for which the bundle waits; then the mode shadow (R286), fetch and decode (R112), and its run. -/
def State.bundleOn (s : State) (p b : Nat) : State :=
  let s0 := s.eclPass p
  if s.apendDue p b then s.apendFault p b
  else if s0.entryDue p then s0
  else
    let s1 := (s0.updPair p (fun v => maskUpdate s.clk (tickShadow v))).enter p b
    let pc := (s1.bank p b).pcc.addr
    match fetchBundle p b pc false s1 with
    | .flt f s2 => if s2.tallyBusy p b then s0 else s2.openFault p b f
    | .ok u s2 =>
      if s2.bundleWaits p b u then s0
      else
        let c : SCtx := ⟨p, b, pc, addrOf ((pc : Int) + u.len), 0⟩
        let wroteLc := (executed s2 p b 0 u.syls).any (writesLc c s2)
        if (s2.bank p b).rep = 0 then s2.bundleEnd c u s0 (fun s3 => s3.retireBundle c (s2.bank p b) wroteLc)
        else s2.repeatRun c u s0

/-- A pair executes its next bundle, where it may execute. -/
def State.bundleCmd (s : State) (p : Nat) : State :=
  match s.liveBank p with
  | none => s
  | some b => s.bundleOn p b

/-- The oldest mode write of a pair takes effect at the end of its shadow (R286). -/
def State.shadowEnd (s : State) (p : Nat) : State :=
  match (s.pair p).shadow with
  | [] => s
  | w :: ws => s.updPair p (fun v => maskUpdate s.clk { applyShadow v w with shadow := ws })

/-- BUNDLE (R104): a pair fetches, decodes and executes the bundle at its `PCC`. -/
def execBundle (p : Nat) (s : State) : Host.Outcome State Fault Refusal :=
  onUnit (decide (p < 104)) (fun s => s.bundleCmd p) s

/-- MODE_SHADOW_END (R286). -/
def execModeShadowEnd (p : Nat) (s : State) : Host.Outcome State Fault Refusal :=
  onUnit (decide (p < 104)) (fun s => s.shadowEnd p) s

end Sys2Proof.Machine
end

