-- ==== Sys2Proof/Machine/EvtDispatch.lean ====
section
/-!
DEFINITION. Event dispatch and exception supervision: the meaning of each command of this family, one definition each.
-/
namespace Sys2Proof.Machine

/-- DIVERGENCE (R282). -/
def execDivergence (p : Nat) (s : State) : Host.Outcome State Fault Refusal :=
  onUnit (decide (p < 104)) (fun s => s.diverge p) s

/-- DIVERGENCE_RECORD (R380). -/
def execDivergenceRecord (p : Nat) (s : State) : Host.Outcome State Fault Refusal :=
  onUnit (decide (p < 104)) (fun s => s.haltRecord p .divergence) s

/-- HALT_RECORD (R380). -/
def execHaltRecord (p : Nat) (s : State) : Host.Outcome State Fault Refusal :=
  onUnit (decide (p < 104)) (fun s => s.haltRecord p .lockup) s

/-- REDISPATCH (R276). -/
def execRedispatch (p : Nat) (s : State) : Host.Outcome State Fault Refusal :=
  onUnit (decide (p < 96)) (fun s => s.redispatch p) s

/-- EVENT_SELECT (R262). -/
def execEventSelect (p : Nat) (s : State) : Host.Outcome State Fault Refusal :=
  onUnit (decide (p < 96)) (fun s => s.evdSelect p) s

/-- EVENT_ENTRY (R235). -/
def execEventEntry (p : Nat) (s : State) : Host.Outcome State Fault Refusal :=
  onUnit (decide (p < 96)) (fun s => s.evdEntry p) s

/-- BANK_RESUMPTION (R264). -/
def execBankResumption (p : Nat) (s : State) : Host.Outcome State Fault Refusal :=
  onUnit (decide (p < 96)) (fun s => s.evdResume p) s

/-- SPILL (R267). -/
def execSpill (p : Nat) (s : State) : Host.Outcome State Fault Refusal :=
  onUnit (decide (p < 96)) (fun s => s.spill p) s

/-- SPILL_WRITE_COMPLETE (R267). -/
def execSpillWriteComplete (p : Nat) (s : State) : Host.Outcome State Fault Refusal :=
  onUnit (decide (p < 96)) (fun s => s.spillComplete p) s

/-- BACKGROUND_SPILL (R266). -/
def execBackgroundSpill (p : Nat) (s : State) : Host.Outcome State Fault Refusal :=
  onUnit (decide (p < 96)) (fun s => s.backSpill p) s

/-- FILL (R268). -/
def execFill (p : Nat) (s : State) : Host.Outcome State Fault Refusal :=
  onUnit (decide (p < 96)) (fun s => s.fill p) s

/-- MASK_OVERSTAY (R227). -/
def execMaskOverstay (p : Nat) (s : State) : Host.Outcome State Fault Refusal :=
  onUnit (decide (p < 104)) (fun s => s.maskOverstay p) s

/-- FAULT_TIMEOUT (R229). -/
def execFaultTimeout (p : Nat) (b : Nat) (s : State) : Host.Outcome State Fault Refusal :=
  onUnit (decide (p < 96) && decide (b < 16)) (fun s => s.faultTimeout p b) s

/-- EVD_POST (R258). -/
def execEvdPost (ch : BitVec 12) (s : State) : Host.Outcome State Fault Refusal :=
  does (fun s => s.softPost ch.toNat) s

/-- EVD_ENABLE (R275). -/
def execEvdEnable (s : State) : Host.Outcome State Fault Refusal :=
  does (fun s => s.evdEnable) s

/-- INVTASK (R252). -/
def execInvtask (t : BitVec 16) (s : State) : Host.Outcome State Fault Refusal :=
  does (fun s => s.invTask t.toNat) s

/-- END (R274). -/
def execEvdEnd (t : BitVec 16) (s : State) : Host.Outcome State Fault Refusal :=
  does (fun s => s.evdEnd t.toNat) s

/-- CLRCH (R280). -/
def execClrch (ch : BitVec 16) (s : State) : Host.Outcome State Fault Refusal :=
  does (fun s => s.clrCh ch.toNat) s

/-- EVD_CLRCNT (R280). -/
def execEvdClrcnt (s : State) : Host.Outcome State Fault Refusal :=
  does (fun s => s.evdClrCnt) s

/-- RESTART (R275). -/
def execRestart (pair : BitVec 16) (s : State) : Host.Outcome State Fault Refusal :=
  does (fun s => s.restart pair.toNat) s

/-- EXC_CLRCNT (R250). -/
def execExcClrcnt (s : State) : Host.Outcome State Fault Refusal :=
  does (fun s => s.excClrCnt) s

/-- LOCKUP_CLEAR (R242). -/
def execLockupClear (second : Bool) (mask : BitVec 64) (s : State) : Host.Outcome State Fault Refusal :=
  does (fun s => s.lockupClear second mask.toNat) s

/-- LOCK_POINT (R564). -/
def execLockPoint (s : State) : Host.Outcome State Fault Refusal :=
  does (fun s => s.lockPoint) s

end Sys2Proof.Machine
end

