-- ==== Sys2Proof/Machine/EvtEclipse.lean ====
section
/-!
DEFINITION. The Eclipse sweeper: the meaning of each command of this family, one definition each.
-/
namespace Sys2Proof.Machine

/-- ECL_START (R95). -/
def execEclStart (s : State) : Host.Outcome State Fault Refusal :=
  does (fun s => s.eclStart) s

/-- ECL_AUTO_START (R95). -/
def execEclAutoStart (s : State) : Host.Outcome State Fault Refusal :=
  does (fun s => s.eclAuto) s

/-- ECL_ABORT (R96). -/
def execEclAbort (s : State) : Host.Outcome State Fault Refusal :=
  does (fun s => s.eclAbort) s

/-- ECL_CLRCNT (R100). -/
def execEclClrcnt (s : State) : Host.Outcome State Fault Refusal :=
  does (fun s => s.eclClrCnt) s

/-- ECLIPSE_PASS (R93). -/
def execEclipsePass (p : Nat) (s : State) : Host.Outcome State Fault Refusal :=
  onUnit (decide (p < 104)) (fun s => s.eclPass p) s

/-- SWEEP_GRANULE (R90). -/
def execSweepGranule (s : State) : Host.Outcome State Fault Refusal :=
  does (fun s => s.sweepGranule) s

/-- ECL_PHASE_ADVANCE (R89). -/
def execEclPhaseAdvance (s : State) : Host.Outcome State Fault Refusal :=
  does (fun s => s.eclAdvance) s

/-- EPOCH_COMPLETION (R89). -/
def execEpochCompletion (s : State) : Host.Outcome State Fault Refusal :=
  does (fun s => s.eclComplete) s

end Sys2Proof.Machine
end

