-- ==== Sys2Proof/Machine/EvtTally.lean ====
section
/-!
DEFINITION. Tally units: the meaning of each command of this family, one definition each.
-/
namespace Sys2Proof.Machine

/-- TALLY_DECISION_ARRIVAL (R215). -/
def execTallyDecisionArrival (id : Nat) (s : State) : Host.Outcome State Fault Refusal :=
  does (fun s => s.tallyArrive id) s

/-- COMB_LOAD_COMPLETE (R214). -/
def execCombLoadComplete (cell : Nat) (s : State) : Host.Outcome State Fault Refusal :=
  does (fun s => s.combLoaded cell) s

/-- COMB_WINDOW_EXPIRY (R214). -/
def execCombWindowExpiry (cell : Nat) (s : State) : Host.Outcome State Fault Refusal :=
  does (fun s => s.combWindow cell) s

/-- COMB_WRITEBACK_COMPLETE (R214). -/
def execCombWritebackComplete (cell : Nat) (s : State) : Host.Outcome State Fault Refusal :=
  does (fun s => s.combFlushed cell) s

/-- UNPARK (R215). -/
def execUnpark (id : Nat) (s : State) : Host.Outcome State Fault Refusal :=
  does (fun s => s.unpark id) s

/-- PARK_TIMEOUT (R215). -/
def execParkTimeout (id : Nat) (s : State) : Host.Outcome State Fault Refusal :=
  does (fun s => s.parkTimeout id) s

/-- TALLY_STATUS_RETURN (R206). -/
def execTallyStatusReturn (id : Nat) (s : State) : Host.Outcome State Fault Refusal :=
  does (fun s => s.tallyStatusReturn id) s

/-- TALLY_ABORT (R219). -/
def execTallyAbort (core : BitVec 7) (s : State) : Host.Outcome State Fault Refusal :=
  does (fun s => s.tallyAbort core.toNat) s

/-- TALLY_CLRCNT (R221). -/
def execTallyClrcnt (s : State) : Host.Outcome State Fault Refusal :=
  does (fun s => s.tallyClrCnt) s

/-- CELL_LINE_ACCESS (R217). -/
def execCellLineAccess (pa : Nat) (s : State) : Host.Outcome State Fault Refusal :=
  onUnit (decide (pa < 2 ^ 41)) (fun s => s.cellAccess pa) s

end Sys2Proof.Machine
end

