-- ==== Sys2Proof/Machine/EvtJournal.lean ====
section
/-!
DEFINITION. The journal engine: the meaning of each command of this family, one definition each.
-/
namespace Sys2Proof.Machine

/-- JOURNAL_SEQUENCING (R372). -/
def execJournalSequencing (s : State) : Host.Outcome State Fault Refusal :=
  does (fun s => s.jrnSequence) s

/-- SEAL_RECORD (R366). -/
def execSealRecord (s : State) : Host.Outcome State Fault Refusal :=
  does (fun s => s.sealRecord) s

/-- DURABILITY_POINT (R374). -/
def execDurabilityPoint (s : State) : Host.Outcome State Fault Refusal :=
  does (fun s => s.jrnDurable) s

/-- JOURNAL_DUPCMP (R375). -/
def execJournalDupcmp (s : State) : Host.Outcome State Fault Refusal :=
  does (fun s => s.jrnDupcmp) s

/-- EPOCH_OPEN (R377). -/
def execEpochOpen (s : State) : Host.Outcome State Fault Refusal :=
  does (fun s => s.epochOpen) s

/-- JRN_SEAL_CMD (R365). -/
def execJrnSealCmd (s : State) : Host.Outcome State Fault Refusal :=
  does (fun s => s.jrnSealCmd) s

/-- JRN_CLRCNT (R391). -/
def execJrnClrcnt (s : State) : Host.Outcome State Fault Refusal :=
  does (fun s => s.jrnClrCnt) s

/-- JRN_REPL_WRITE (R381). -/
def execJrnReplWrite (p : Nat) (val : BitVec 64) (s : State) : Host.Outcome State Fault Refusal :=
  onUnit (decide (p < 104)) (fun s => s.jrnReplWrite (.pair p) val.toNat) s

/-- JRN_LOOKUP (R391). -/
def execJrnLookup (seq : BitVec 64) (s : State) : Host.Outcome State Fault Refusal :=
  does (fun s => s.jrnLookup seq) s

/-- LOOKUP_COMPLETE (R391). -/
def execLookupComplete (s : State) : Host.Outcome State Fault Refusal :=
  does (fun s => s.lookupDone) s

/-- ENTRY_SEND (R382). -/
def execEntrySend (s : State) : Host.Outcome State Fault Refusal :=
  does (fun s => s.entrySend) s

/-- ENTRY (R383). -/
def execEntry (seq : BitVec 64) (body : List Byte) (s : State) : Host.Outcome State Fault Refusal :=
  does (fun s => s.entryIn seq.toNat body) s

/-- ENTRY_ACK (R382). -/
def execEntryAck (seq : BitVec 64) (s : State) : Host.Outcome State Fault Refusal :=
  does (fun s => s.entryAck seq.toNat) s

/-- ACK_TIMEOUT (R382). -/
def execAckTimeout (s : State) : Host.Outcome State Fault Refusal :=
  does (fun s => s.ackTimeout) s

/-- DRAIN_FRAME (R386). -/
def execDrainFrame (s : State) : Host.Outcome State Fault Refusal :=
  does (fun s => s.drainFrame) s

/-- ARCHIVE_ACK (R387). -/
def execArchiveAck (body : List Byte) (s : State) : Host.Outcome State Fault Refusal :=
  does (fun s => s.archiveAck body) s

/-- ARCHIVE_RETRANSMIT (R388). -/
def execArchiveRetransmit (s : State) : Host.Outcome State Fault Refusal :=
  does (fun s => s.archiveRetx) s

end Sys2Proof.Machine
end

