-- ==== Sys2Proof/Machine/EvtDraw.lean ====
section
/-!
DEFINITION. The draw unit: the meaning of each command of this family, one definition each.
-/
namespace Sys2Proof.Machine

/-- DRAW_REQUEST (R397). -/
def execDrawRequest (s : State) : Host.Outcome State Fault Refusal :=
  does (fun s => s.drawRequest) s

/-- DRAW_COMPLETE (R397). -/
def execDrawComplete (s : State) : Host.Outcome State Fault Refusal :=
  does (fun s => s.drawComplete) s

/-- GLINT_STARTUP_TEST (R393). -/
def execGlintStartupTest (pass : Bool) (s : State) : Host.Outcome State Fault Refusal :=
  does (fun s => s.glintStartup pass) s

/-- HEALTH_FAILURE (R403). -/
def execHealthFailure (apt : Bool) (s : State) : Host.Outcome State Fault Refusal :=
  does (fun s => s.healthFailure apt) s

/-- DRAW_DUPCMP (R403). -/
def execDrawDupcmp (s : State) : Host.Outcome State Fault Refusal :=
  does (fun s => s.drawDupcmp) s

/-- DRW_CLRCNT (R407). -/
def execDrwClrcnt (s : State) : Host.Outcome State Fault Refusal :=
  does (fun s => s.drwClrCnt) s

end Sys2Proof.Machine
end

