-- ==== Sys2Proof/Machine/EvtMemory.lean ====
section
/-!
DEFINITION. Memory channels, arbitration and device registers: the meaning of each command of this family, one definition each.
-/
namespace Sys2Proof.Machine

/-- ARB_DECISION (R345). -/
def execArbDecision (ch : Nat) (cand : BitVec 22) (cyc : Nat) (s : State) : Host.Outcome State Fault Refusal :=
  onUnit (decide (ch < 16)) (fun s => s.arbDecide ch cand.toNat cyc) s

/-- ARB_COMMIT (R350). -/
def execArbCommit (mask : BitVec 16) (s : State) : Host.Outcome State Fault Refusal :=
  does (fun s => s.arbCommit mask.toNat) s

/-- COMMIT_ARRIVAL (R351). -/
def execCommitArrival (ch : Nat) (s : State) : Host.Outcome State Fault Refusal :=
  onUnit (decide (ch < 16)) (fun s => s.commitArrive ch) s

/-- HOLD_MONITOR (R348). -/
def execHoldMonitor (ch : Nat) (s : State) : Host.Outcome State Fault Refusal :=
  onUnit (decide (ch < 16)) (fun s => s.holdMonitor ch) s

/-- REFRESH (R349). -/
def execRefresh (ch : Nat) (s : State) : Host.Outcome State Fault Refusal :=
  onUnit (decide (ch < 16)) (fun s => s.refreshDue ch) s

/-- PATROL_SCRUB (R342). -/
def execPatrolScrub (ch : Nat) (found : Option Bool) (s : State) : Host.Outcome State Fault Refusal :=
  onUnit (decide (ch < 16)) (fun s => s.patrol ch found) s

/-- MCH_CLRCNT (R354). -/
def execMchClrcnt (s : State) : Host.Outcome State Fault Refusal :=
  does (fun s => s.mchClrCnt) s

/-- PT_CLRCNT (R306). -/
def execPtClrcnt (s : State) : Host.Outcome State Fault Refusal :=
  does (fun s => s.ptClrCnt) s

/-- TR_CLRCNT (R336). -/
def execTrClrcnt (s : State) : Host.Outcome State Fault Refusal :=
  does (fun s => s.trClrCnt) s

/-- REGISTER_WRITE (R9). -/
def execRegisterWrite (src : Nat) (pa : Nat) (val : BitVec 64) (s : State) : Host.Outcome State Fault Refusal :=
  onUnit (decide (src < 105) && (decide (0xF0000000000 ≤ pa) && decide (pa < 0xF0010000000) && pa % 8 == 0)) (fun s => s.devWrite (if src = 104 then .debug else .pair src) pa val.toNat) s

/-- FABRIC_TIMEOUT (R543). -/
def execFabricTimeout (unit : BitVec 8) (pa : Nat) (va : Nat) (store : Bool) (crc : Bool) (s : State) : Host.Outcome State Fault Refusal :=
  does (fun s => s.fabricTimeout unit.toNat pa va store crc) s

/-- L3_SCRUB (R545). -/
def execL3Scrub (bad : List Nat) (s : State) : Host.Outcome State Fault Refusal :=
  does (fun s => s.l3Scrub bad) s

end Sys2Proof.Machine
end

