-- ==== Sys2Proof/Machine/EvtBoot.lean ====
section
/-!
DEFINITION. Boot and supervision: the meaning of each command of this family, one definition each.
-/
namespace Sys2Proof.Machine

/-- POWER_GOOD (R527). -/
def execPowerGood (s : State) : Host.Outcome State Fault Refusal :=
  does (fun s => s.powerGood) s

/-- STRAP_SAMPLE (R428). -/
def execStrapSample (straps : BitVec 14) (ok : BitVec 7) (s : State) : Host.Outcome State Fault Refusal :=
  does (fun s => s.strapSample straps.toNat ok.toNat) s

/-- SELFTEST (R430). -/
def execSelftest (failL : BitVec 96) (failS : BitVec 8) (failUnit : Bool) (s : State) : Host.Outcome State Fault Refusal :=
  does (fun s => s.selfTest failL.toNat failS.toNat failUnit) s

/-- DRAM_INIT (R431). -/
def execDramInit (fail : BitVec 16) (s : State) : Host.Outcome State Fault Refusal :=
  does (fun s => s.dramInit fail.toNat) s

/-- IMAGE_VERIFY (R434). -/
def execImageVerify (s : State) : Host.Outcome State Fault Refusal :=
  does (fun s => s.imageVerify) s

/-- SEN_START (R436). -/
def execSenStart (val : BitVec 64) (s : State) : Host.Outcome State Fault Refusal :=
  does (fun s => s.senStart val.toNat) s

/-- MEASUREMENT_LOG_CLOSE (R439). -/
def execMeasurementLogClose (s : State) : Host.Outcome State Fault Refusal :=
  does (fun s => s.logClose) s

/-- STRAP_CHECK (R429). -/
def execStrapCheck (straps : BitVec 14) (s : State) : Host.Outcome State Fault Refusal :=
  does (fun s => s.strapCheck straps.toNat) s

/-- GOVERNOR_PASS (R442). -/
def execGovernorPass (inlet : Int) (bp : Option (Nat × Nat × Nat)) (sweep : Option (Nat × Nat × Nat)) (tkt : Option (Nat × Word × Word × Word × Word)) (s : State) : Host.Outcome State Fault Refusal :=
  does (fun s => s.governorPass inlet bp sweep tkt) s

/-- SEN_NQ_HI (R446). -/
def execSenNqHi (q : Nat) (s : State) : Host.Outcome State Fault Refusal :=
  onUnit (decide (q < 8)) (fun s => s.nqRead q) s

/-- RSTREQ (R447). -/
def execRstreq (s : State) : Host.Outcome State Fault Refusal :=
  does (fun s => s.resetRequest) s

end Sys2Proof.Machine
end

