-- ==== Sys2Proof/Machine/EvtMgmt.lean ====
section
/-!
DEFINITION. The management ports: the meaning of each command of this family, one definition each.
-/
namespace Sys2Proof.Machine

/-- LC_QUERY (R516). -/
def execLcQuery (port : Nat) (tag : BitVec 32) (body : List Byte) (s : State) : Host.Outcome State Fault Refusal :=
  onUnit (decide (port < 3)) (fun s => s.lcQuery ⟨port, tag.toNat, body, true⟩) s

/-- ATTEST (R440). -/
def execAttest (port : Nat) (tag : BitVec 32) (body : List Byte) (s : State) : Host.Outcome State Fault Refusal :=
  onUnit (decide (port < 3)) (fun s => s.attest ⟨port, tag.toNat, body, true⟩) s

/-- JEXPORT (R516). -/
def execJexport (port : Nat) (tag : BitVec 32) (body : List Byte) (s : State) : Host.Outcome State Fault Refusal :=
  onUnit (decide (port < 3)) (fun s => s.jexport ⟨port, tag.toNat, body, true⟩) s

/-- KEYGEN (R453). -/
def execKeygen (port : Nat) (tag : BitVec 32) (body : List Byte) (s : State) : Host.Outcome State Fault Refusal :=
  onUnit (decide (port < 3)) (fun s => s.keygen ⟨port, tag.toNat, body, true⟩) s

/-- RAW_CAPTURE (R392). -/
def execRawCapture (port : Nat) (tag : BitVec 32) (body : List Byte) (s : State) : Host.Outcome State Fault Refusal :=
  onUnit (decide (port < 3)) (fun s => s.rawCapture ⟨port, tag.toNat, body, true⟩) s

/-- PROVISION (R453). -/
def execProvision (port : Nat) (tag : BitVec 32) (body : List Byte) (s : State) : Host.Outcome State Fault Refusal :=
  onUnit (decide (port < 3)) (fun s => s.provision ⟨port, tag.toNat, body, true⟩) s

/-- CERTIFY (R453). -/
def execCertify (port : Nat) (tag : BitVec 32) (body : List Byte) (s : State) : Host.Outcome State Fault Refusal :=
  onUnit (decide (port < 3)) (fun s => s.certify ⟨port, tag.toNat, body, true⟩) s

/-- POLICY_SET (R456). -/
def execPolicySet (port : Nat) (tag : BitVec 32) (body : List Byte) (s : State) : Host.Outcome State Fault Refusal :=
  onUnit (decide (port < 3)) (fun s => s.policySet ⟨port, tag.toNat, body, true⟩) s

/-- KEY_SET (R516). -/
def execKeySet (port : Nat) (tag : BitVec 32) (body : List Byte) (s : State) : Host.Outcome State Fault Refusal :=
  onUnit (decide (port < 3)) (fun s => s.keySet ⟨port, tag.toNat, body, true⟩) s

/-- MC_COMMIT (R419). -/
def execMcCommit (port : Nat) (tag : BitVec 32) (body : List Byte) (s : State) : Host.Outcome State Fault Refusal :=
  onUnit (decide (port < 3)) (fun s => s.mcCommit ⟨port, tag.toNat, body, true⟩) s

/-- TAKEOVER (R510). -/
def execTakeover (port : Nat) (tag : BitVec 32) (body : List Byte) (s : State) : Host.Outcome State Fault Refusal :=
  onUnit (decide (port < 3)) (fun s => s.takeoverCmd ⟨port, tag.toNat, body, true⟩) s

/-- DEBUG_CHALLENGE (R472). -/
def execDebugChallenge (port : Nat) (tag : BitVec 32) (body : List Byte) (s : State) : Host.Outcome State Fault Refusal :=
  onUnit (decide (port < 3)) (fun s => s.debugChallenge ⟨port, tag.toNat, body, true⟩) s

/-- DEBUG_UNLOCK (R472). -/
def execDebugUnlock (port : Nat) (tag : BitVec 32) (body : List Byte) (s : State) : Host.Outcome State Fault Refusal :=
  onUnit (decide (port < 3)) (fun s => s.debugUnlock ⟨port, tag.toNat, body, true⟩) s

/-- DEBUG_LOCK (R472). -/
def execDebugLock (port : Nat) (tag : BitVec 32) (body : List Byte) (s : State) : Host.Outcome State Fault Refusal :=
  onUnit (decide (port < 3)) (fun s => s.debugLock ⟨port, tag.toNat, body, true⟩) s

/-- ALARM_RECOVER (R465). -/
def execAlarmRecover (port : Nat) (tag : BitVec 32) (body : List Byte) (pass : Bool) (s : State) : Host.Outcome State Fault Refusal :=
  onUnit (decide (port < 3)) (fun s => s.alarmRecover ⟨port, tag.toNat, body, pass⟩) s

/-- RESET (R376). -/
def execReset (port : Nat) (tag : BitVec 32) (body : List Byte) (s : State) : Host.Outcome State Fault Refusal :=
  onUnit (decide (port < 3)) (fun s => s.resetCmd ⟨port, tag.toNat, body, true⟩) s

/-- IMG_STAGE (R516). -/
def execImgStage (port : Nat) (tag : BitVec 32) (body : List Byte) (s : State) : Host.Outcome State Fault Refusal :=
  onUnit (decide (port < 3)) (fun s => s.imgStage ⟨port, tag.toNat, body, true⟩) s

/-- RETIRE (R453). -/
def execRetire (port : Nat) (tag : BitVec 32) (body : List Byte) (s : State) : Host.Outcome State Fault Refusal :=
  onUnit (decide (port < 3)) (fun s => s.retire ⟨port, tag.toNat, body, true⟩) s

/-- FW_STAGE (R516). -/
def execFwStage (port : Nat) (tag : BitVec 32) (body : List Byte) (s : State) : Host.Outcome State Fault Refusal :=
  onUnit (decide (port < 3)) (fun s => s.fwStage ⟨port, tag.toNat, body, true⟩) s

/-- MC_STAGE (R418). -/
def execMcStage (port : Nat) (tag : BitVec 32) (body : List Byte) (s : State) : Host.Outcome State Fault Refusal :=
  onUnit (decide (port < 3)) (fun s => s.mcStage ⟨port, tag.toNat, body, true⟩) s

/-- CFG_SET (R468). -/
def execCfgSet (port : Nat) (tag : BitVec 32) (body : List Byte) (s : State) : Host.Outcome State Fault Refusal :=
  onUnit (decide (port < 3)) (fun s => s.cfgSet ⟨port, tag.toNat, body, true⟩) s

/-- TELEM_READ (R516). -/
def execTelemRead (port : Nat) (tag : BitVec 32) (body : List Byte) (s : State) : Host.Outcome State Fault Refusal :=
  onUnit (decide (port < 3)) (fun s => s.telemRead ⟨port, tag.toNat, body, true⟩) s

/-- DETACH (R534). -/
def execDetach (port : Nat) (tag : BitVec 32) (body : List Byte) (s : State) : Host.Outcome State Fault Refusal :=
  onUnit (decide (port < 3)) (fun s => s.detachCmd ⟨port, tag.toNat, body, true⟩) s

/-- PRESENCE (R518). -/
def execPresence (pecOk : Bool) (s : State) : Host.Outcome State Fault Refusal :=
  does (fun s => s.presence pecOk) s

/-- POWER_REQ (R518). -/
def execPowerReq (value : BitVec 8) (pecOk : Bool) (s : State) : Host.Outcome State Fault Refusal :=
  does (fun s => s.powerReq value.toNat pecOk) s

/-- SENSOR_READ (R518). -/
def execSensorRead (idx : BitVec 8) (reading : Int) (pecOk : Bool) (s : State) : Host.Outcome State Fault Refusal :=
  does (fun s => s.sensorRead idx.toNat reading pecOk) s

/-- LED_SET (R518). -/
def execLedSet (value : BitVec 8) (pecOk : Bool) (s : State) : Host.Outcome State Fault Refusal :=
  does (fun s => s.ledSet value.toNat pecOk) s

/-- MGMT_SEGMENT (R515). -/
def execMgmtSegment (port : Nat) (seg : List Byte) (pass : Bool) (s : State) : Host.Outcome State Fault Refusal :=
  onUnit (decide (port < 3)) (fun s => s.mgmtSegment port seg pass) s

/-- MGMT_TIMEOUT (R515). -/
def execMgmtTimeout (port : Nat) (s : State) : Host.Outcome State Fault Refusal :=
  onUnit (decide (port < 3)) (fun s => s.mgmtTimeout port) s

/-- CLOCK_LOW_TIMEOUT (R518). -/
def execClockLowTimeout (s : State) : Host.Outcome State Fault Refusal :=
  does (fun s => s) s

/-- SEGMENT_ACKNOWLEDGEMENT (R515). -/
def execSegmentAcknowledgement (port : Nat) (s : State) : Host.Outcome State Fault Refusal :=
  onUnit (decide (port < 3)) (fun s => s.segAckIn port) s

end Sys2Proof.Machine
end

