-- ==== Sys2Proof/Machine/EvtSecurity.lean ====
section
/-!
DEFINITION. Security, alarms and debug: the meaning of each command of this family, one definition each.
-/
namespace Sys2Proof.Machine

/-- DEBUG_UNLOCK_EXPIRY (R472). -/
def execDebugUnlockExpiry (s : State) : Host.Outcome State Fault Refusal :=
  does (fun s => s.unlockExpiry) s

/-- DEBUG_CHALLENGE_EXPIRY (R472). -/
def execDebugChallengeExpiry (s : State) : Host.Outcome State Fault Refusal :=
  does (fun s => s.challengeExpiry) s

/-- DEBUG_ACCESS (R471). -/
def execDebugAccess (fn : Nat) (pa : Nat) (wr : Bool) (val : BitVec 64) (s : State) : Host.Outcome State Fault Refusal :=
  does (fun s => s.debugAccess fn pa wr val.toNat) s

/-- ALARM_DETECTION (R459). -/
def execAlarmDetection (hits : List (Nat × Nat × Int)) (powerUp : Bool) (s : State) : Host.Outcome State Fault Refusal :=
  onUnit (hits.all (fun h => decide (h.1 < 8))) (fun s => s.detect (hits.map hitOf) powerUp) s

/-- UMBRA_ERASE (R463). -/
def execUmbraErase (s : State) : Host.Outcome State Fault Refusal :=
  does (fun s => s.umbraErase) s

/-- ALARM_HOLD_BOOT (R461). -/
def execAlarmHoldBoot (s : State) : Host.Outcome State Fault Refusal :=
  does (fun s => s.alarmHoldBoot) s

/-- REG_KEY_CHANGE (R469). -/
def execRegKeyChange (isClosed : Bool) (s : State) : Host.Outcome State Fault Refusal :=
  does (fun s => s.regKey isClosed) s

/-- SECURITY_MONITOR_MISCOMPARE (R545). -/
def execSecurityMonitorMiscompare (s : State) : Host.Outcome State Fault Refusal :=
  does (fun s => s.monitorMiscompare) s

/-- ALARM_SOURCE_INACTIVE (R465). -/
def execAlarmSourceInactive (cls : Nat) (s : State) : Host.Outcome State Fault Refusal :=
  onUnit (decide (cls < 8)) (fun s => s.sourceInactive cls) s

end Sys2Proof.Machine
end

