-- ==== Sys2Proof/Machine/EvtNet.lean ====
section
/-!
DEFINITION. Network and time: the meaning of each command of this family, one definition each.
-/
namespace Sys2Proof.Machine

/-- FRAME_RECEIVE (R481). -/
def execFrameReceive (port : Nat) (bytes : List Byte) (fcsOk : Bool) (s : State) : Host.Outcome State Fault Refusal :=
  onUnit (decide (port < 4)) (fun s => s.frameIn port bytes fcsOk) s

/-- PORT_LINK_DOWN (R478). -/
def execPortLinkDown (port : Nat) (s : State) : Host.Outcome State Fault Refusal :=
  onUnit (decide (port < 4)) (fun s => s.portDown port) s

/-- NET_RXQ_CFG_WRITE (R479). -/
def execNetRxqCfgWrite (q : Nat) (val : BitVec 64) (s : State) : Host.Outcome State Fault Refusal :=
  onUnit (decide (q < 256)) (fun s => s.rxqWrite q (Addr.NET_RXQ_CFG q) val.toNat) s

/-- NET_TXQ_TAIL (R484). -/
def execNetTxqTail (t : Nat) (val : BitVec 64) (s : State) : Host.Outcome State Fault Refusal :=
  onUnit (decide (t < 256)) (fun s => s.plainWrite (.pair 0) (Addr.NET_TXQ_TAIL t) val.toNat) s

/-- TX_FRAME_SENT (R484). -/
def execTxFrameSent (t : Nat) (s : State) : Host.Outcome State Fault Refusal :=
  onUnit (decide (t < 256)) (fun s => s.txSent t) s

/-- SYNC (R491). -/
def execSync (port : Nat) (domain : BitVec 8) (ident : BitVec 64) (origin : Nat) (twoStep : Bool) (s : State) : Host.Outcome State Fault Refusal :=
  onUnit (decide (port < 4)) (fun s => s.timeSync port domain.toNat ident.toNat origin twoStep) s

/-- FOLLOW_UP (R490). -/
def execFollowUp (port : Nat) (domain : BitVec 8) (ident : BitVec 64) (origin : Nat) (s : State) : Host.Outcome State Fault Refusal :=
  onUnit (decide (port < 4)) (fun s => s.followUp port domain.toNat ident.toNat origin) s

/-- DELAY_RESP (R490). -/
def execDelayResp (port : Nat) (domain : BitVec 8) (ident : BitVec 64) (sent : Nat) (recv : Nat) (s : State) : Host.Outcome State Fault Refusal :=
  onUnit (decide (port < 4)) (fun s => s.delayResp port domain.toNat ident.toNat sent recv) s

/-- HOLDOVER (R492). -/
def execHoldover (s : State) : Host.Outcome State Fault Refusal :=
  does (fun s => s.holdover) s

/-- PORT_LINK_UP (R478). -/
def execPortLinkUp (port : Nat) (s : State) : Host.Outcome State Fault Refusal :=
  onUnit (decide (port < 4)) (fun s => s.portUp port) s

/-- TIME_UNCERTAIN (R492). -/
def execTimeUncertain (s : State) : Host.Outcome State Fault Refusal :=
  does (fun s => s.timeUncertain) s

end Sys2Proof.Machine
end

