-- ==== Sys2Proof/Machine/EvtHost.lean ====
section
/-!
DEFINITION. The host interface: the meaning of each command of this family, one definition each.
-/
namespace Sys2Proof.Machine

/-- HB_SQ_DB (R498). -/
def execHbSqDb (h : Nat) (val : BitVec 64) (msgs : List (List Byte × Option (List Byte))) (s : State) : Host.Outcome State Fault Refusal :=
  onUnit (decide (h < 16)) (fun s => s.doorbell h val.toNat msgs) s

/-- HB_CQ_HEAD (R499). -/
def execHbCqHead (h : Nat) (val : BitVec 64) (msgs : List (List Byte × Option (List Byte))) (s : State) : Host.Outcome State Fault Refusal :=
  onUnit (decide (h < 16)) (fun s => s.cqHead h val.toNat msgs) s

/-- HB_DR_HEAD (R500). -/
def execHbDrHead (r : Nat) (val : BitVec 64) (s : State) : Host.Outcome State Fault Refusal :=
  onUnit (decide (r < 16)) (fun s => s.drHead r val.toNat) s

/-- HOST_BAR0_WRITE (R497). -/
def execHostBar0Write (off : Nat) (val : BitVec 64) (s : State) : Host.Outcome State Fault Refusal :=
  does (fun s => s.bar0Write off val.toNat) s

/-- PCI_SQ_TAIL (R501). -/
def execPciSqTail (q : Nat) (val : BitVec 64) (s : State) : Host.Outcome State Fault Refusal :=
  onUnit (decide (q < 16)) (fun s => s.sqWrite (.pair 0) q (Addr.PCI_SQ_TAIL q) val.toNat) s

/-- HOST_DELIVERY (R500). -/
def execHostDelivery (q : Nat) (s : State) : Host.Outcome State Fault Refusal :=
  onUnit (decide (q < 16)) (fun s => s.hostDelivery q) s

/-- DELIVERY_RING_STALL (R501). -/
def execDeliveryRingStall (q : Nat) (s : State) : Host.Outcome State Fault Refusal :=
  onUnit (decide (q < 16)) (fun s => s.deliveryStall q) s

/-- PCIE_LINK_DOWN (R496). -/
def execPcieLinkDown (s : State) : Host.Outcome State Fault Refusal :=
  does (fun s => s.pcieDown) s

/-- PCIE_LINK_UP (R493). -/
def execPcieLinkUp (width : BitVec 6) (speed : BitVec 4) (s : State) : Host.Outcome State Fault Refusal :=
  does (fun s => s.pcieUp width.toNat speed.toNat) s

end Sys2Proof.Machine
end

