-- ==== Sys2Proof/Machine/EvtLink.lean ====
section
/-!
DEFINITION. The Cuwen Link: the meaning of each command of this family, one definition each.
-/
namespace Sys2Proof.Machine

/-- FLIT (R505). -/
def execFlit (link : Nat) (bytes : List Byte) (s : State) : Host.Outcome State Fault Refusal :=
  onUnit (decide (link < 2)) (fun s => s.flitIn link bytes) s

/-- FLIT_REPLAY (R505). -/
def execFlitReplay (link : Nat) (s : State) : Host.Outcome State Fault Refusal :=
  onUnit (decide (link < 2)) (fun s => s.flitReplay link) s

/-- CWL_LINK_UP (R511). -/
def execCwlLinkUp (link : Nat) (primary : Bool) (gen : BitVec 32) (slot : BitVec 6) (s : State) : Host.Outcome State Fault Refusal :=
  onUnit (decide (link < 2)) (fun s => s.cwlUp link primary gen.toNat slot.toNat) s

/-- CWL_LINK_DOWN (R507). -/
def execCwlLinkDown (link : Nat) (s : State) : Host.Outcome State Fault Refusal :=
  onUnit (decide (link < 2)) (fun s => s.cwlDown link) s

/-- HEARTBEAT_SEND (R508). -/
def execHeartbeatSend (s : State) : Host.Outcome State Fault Refusal :=
  does (fun s => s.heartbeatSend) s

/-- HEARTBEAT (R508). -/
def execHeartbeat (link : Nat) (body : List Byte) (s : State) : Host.Outcome State Fault Refusal :=
  onUnit (decide (link < 2)) (fun s => s.heartbeatIn link body) s

/-- PARTNER_LOSS (R509). -/
def execPartnerLoss (s : State) : Host.Outcome State Fault Refusal :=
  does (fun s => s.partnerLoss) s

/-- AUTO_TAKEOVER (R510). -/
def execAutoTakeover (s : State) : Host.Outcome State Fault Refusal :=
  does (fun s => s.autoTakeover) s

/-- CWL_TAKEOVER (R510). -/
def execCwlTakeover (gen : BitVec 32) (s : State) : Host.Outcome State Fault Refusal :=
  does (fun s => s.takeoverIn gen.toNat) s

/-- JOIN_REQ (R385). -/
def execJoinReq (ident : BitVec 64) (head : BitVec 64) (hash : List Byte) (s : State) : Host.Outcome State Fault Refusal :=
  does (fun s => s.joinReq ident.toNat head.toNat hash) s

/-- JOIN_RESP (R385). -/
def execJoinResp (code : Nat) (s : State) : Host.Outcome State Fault Refusal :=
  does (fun s => s.joinRespIn code) s

/-- CWL_DETACH (R510). -/
def execCwlDetach (s : State) : Host.Outcome State Fault Refusal :=
  does (fun s => s.detachIn) s

/-- FWD_REQ (R383). -/
def execFwdReq (tag : BitVec 32) (body : List Byte) (s : State) : Host.Outcome State Fault Refusal :=
  does (fun s => s.fwdReq tag.toNat body) s

/-- FWD_RECEIPT (R383). -/
def execFwdReceipt (tag : BitVec 32) (seq : BitVec 64) (s : State) : Host.Outcome State Fault Refusal :=
  does (fun s => s.fwdReceipt tag.toNat seq.toNat) s

/-- FWD_STATUS (R383). -/
def execFwdStatus (tag : BitVec 32) (st : BitVec 8) (s : State) : Host.Outcome State Fault Refusal :=
  does (fun s => s.fwdStatus tag.toNat st.toNat) s

/-- WRITE (R513). -/
def execCwlWrite (tag : BitVec 32) (off : Nat) (data : List Byte) (s : State) : Host.Outcome State Fault Refusal :=
  does (fun s => s.cwlWriteIn tag.toNat off data) s

/-- WRITE_DONE (R506). -/
def execWriteDone (st : Nat) (s : State) : Host.Outcome State Fault Refusal :=
  does (fun s => s.writeDoneIn st) s

/-- POST (R513). -/
def execCwlPost (word : BitVec 64) (s : State) : Host.Outcome State Fault Refusal :=
  does (fun s => s.postIn word.toNat) s

end Sys2Proof.Machine
end

