-- ==== Sys2Proof/Machine/EvtPower.lean ====
section
/-!
DEFINITION. Power, clocks and hot-plug: the meaning of each command of this family, one definition each.
-/
namespace Sys2Proof.Machine

/-- INSERTION (R532). -/
def execInsertion (s : State) : Host.Outcome State Fault Refusal :=
  does (fun s => s.insertion) s

/-- RAMP_TIMEOUT (R532). -/
def execRampTimeout (s : State) : Host.Outcome State Fault Refusal :=
  does (fun s => s.rampFail) s

/-- PRES_N_RELEASE (R538). -/
def execPresNRelease (s : State) : Host.Outcome State Fault Refusal :=
  does (fun s => s.presRelease) s

/-- VIN_UNDERVOLTAGE (R538). -/
def execVinUndervoltage (mv : Nat) (s : State) : Host.Outcome State Fault Refusal :=
  does (fun s => (s.setVin mv).powerLoss 2) s

/-- VIN_OVERVOLTAGE (R538). -/
def execVinOvervoltage (mv : Nat) (s : State) : Host.Outcome State Fault Refusal :=
  does (fun s => (s.setVin mv).powerLoss 3) s

/-- OVER_CURRENT_TRIP (R525). -/
def execOverCurrentTrip (s : State) : Host.Outcome State Fault Refusal :=
  does (fun s => s.powerLoss 4) s

/-- THERMAL_TRIP (R538). -/
def execThermalTrip (s : State) : Host.Outcome State Fault Refusal :=
  does (fun s => s.powerLoss 5) s

/-- SHUTDOWN_RECORD (R539). -/
def execShutdownRecord (s : State) : Host.Outcome State Fault Refusal :=
  does (fun s => s.shutdownRecord) s

/-- AUTO_RESTART (R540). -/
def execAutoRestart (s : State) : Host.Outcome State Fault Refusal :=
  does (fun s => s.autoRestart) s

/-- FAST_LIMIT (R525). -/
def execFastLimit (ma : Nat) (s : State) : Host.Outcome State Fault Refusal :=
  does (fun s => s.fastLimit ma) s

/-- PARK (R526). -/
def execPark (mv : Nat) (s : State) : Host.Outcome State Fault Refusal :=
  does (fun s => s.parkAt mv) s

/-- EJECT (R534). -/
def execEject (isOpen : Bool) (s : State) : Host.Outcome State Fault Refusal :=
  does (fun s => s.eject isOpen) s

/-- PWR_DETACH (R534). -/
def execPwrDetach (s : State) : Host.Outcome State Fault Refusal :=
  does (fun s => s.pwrDetach) s

/-- UNFORCE (R525). -/
def execUnforce (s : State) : Host.Outcome State Fault Refusal :=
  does (fun s => s.unforce) s

/-- PWR_CLRCNT (R547). -/
def execPwrClrcnt (s : State) : Host.Outcome State Fault Refusal :=
  does (fun s => s.pwrClrCnt) s

/-- DRAIN_LIMIT (R535). -/
def execDrainLimit (s : State) : Host.Outcome State Fault Refusal :=
  does (fun s => s.drainLimit) s

/-- READY_TO_REMOVE (R535). -/
def execReadyToRemove (s : State) : Host.Outcome State Fault Refusal :=
  does (fun s => s.removeReady) s

/-- HOLDUP_MEASURE (R533). -/
def execHoldupMeasure (mj : Nat) (s : State) : Host.Outcome State Fault Refusal :=
  does (fun s => s.holdup mj) s

/-- RAIL_EXCURSION (R528). -/
def execRailExcursion (rail : Nat) (wide : Bool) (reading : Int) (s : State) : Host.Outcome State Fault Refusal :=
  onUnit (decide (rail < 16)) (fun s => s.railExcursion rail wide (signed64 reading)) s

/-- REFCLK_LOSS (R529). -/
def execRefclkLoss (detail : Nat) (reading : Int) (s : State) : Host.Outcome State Fault Refusal :=
  does (fun s => s.refclkLoss detail (signed64 reading)) s

/-- CLK_RATIO (R531). -/
def execClkRatio (k : Nat) (val : BitVec 64) (s : State) : Host.Outcome State Fault Refusal :=
  onUnit (decide (k < 3)) (fun s => s.plainWrite (.pair 97) (Addr.CLK_RATIO k) val.toNat) s

/-- POWER_GOOD_TIMEOUT (R527). -/
def execPowerGoodTimeout (s : State) : Host.Outcome State Fault Refusal :=
  does (fun s => s.rampFail) s

/-- RAMP_RETRY (R532). -/
def execRampRetry (s : State) : Host.Outcome State Fault Refusal :=
  does (fun s => s.rampRetry) s

/-- OUTSIDE_RECOMMENDED_CONDITIONS (R544). -/
def execOutsideRecommendedConditions (env : Bool) (s : State) : Host.Outcome State Fault Refusal :=
  does (fun s => s.outsideEnv env) s

end Sys2Proof.Machine
end

