-- ==== Sys2Proof/Machine/Dispatch.lean ====
section
/-!
DEFINITION. The dispatch of every command to its meaning.
-/
namespace Sys2Proof.Machine

/-- The effect of a command on everything but the queue. -/
def exec (i : Instr) (s : State) : Host.Outcome State Fault Refusal :=
  match i with
  | .bundle p => Sys2Proof.Machine.execBundle p s
  | .modeShadowEnd p => Sys2Proof.Machine.execModeShadowEnd p s
  | .lb p cd cs1 imm => Sys2Proof.Machine.execLb p cd cs1 imm s
  | .lbu p cd cs1 imm => Sys2Proof.Machine.execLbu p cd cs1 imm s
  | .lh p cd cs1 imm => Sys2Proof.Machine.execLh p cd cs1 imm s
  | .lhu p cd cs1 imm => Sys2Proof.Machine.execLhu p cd cs1 imm s
  | .lw p cd cs1 imm => Sys2Proof.Machine.execLw p cd cs1 imm s
  | .lwu p cd cs1 imm => Sys2Proof.Machine.execLwu p cd cs1 imm s
  | .ld p cd cs1 imm => Sys2Proof.Machine.execLd p cd cs1 imm s
  | .clc p cd cs1 imm => Sys2Proof.Machine.execClc p cd cs1 imm s
  | .sb p cd cs1 imm => Sys2Proof.Machine.execSb p cd cs1 imm s
  | .sh p cd cs1 imm => Sys2Proof.Machine.execSh p cd cs1 imm s
  | .sw p cd cs1 imm => Sys2Proof.Machine.execSw p cd cs1 imm s
  | .sd p cd cs1 imm => Sys2Proof.Machine.execSd p cd cs1 imm s
  | .csc p cd cs1 imm => Sys2Proof.Machine.execCsc p cd cs1 imm s
  | .lbx p cd cs1 cs2 => Sys2Proof.Machine.execLbx p cd cs1 cs2 s
  | .lbux p cd cs1 cs2 => Sys2Proof.Machine.execLbux p cd cs1 cs2 s
  | .lhx p cd cs1 cs2 => Sys2Proof.Machine.execLhx p cd cs1 cs2 s
  | .lhux p cd cs1 cs2 => Sys2Proof.Machine.execLhux p cd cs1 cs2 s
  | .lwx p cd cs1 cs2 => Sys2Proof.Machine.execLwx p cd cs1 cs2 s
  | .lwux p cd cs1 cs2 => Sys2Proof.Machine.execLwux p cd cs1 cs2 s
  | .ldx p cd cs1 cs2 => Sys2Proof.Machine.execLdx p cd cs1 cs2 s
  | .clcx p cd cs1 cs2 => Sys2Proof.Machine.execClcx p cd cs1 cs2 s
  | .sbx p cd cs1 cs2 => Sys2Proof.Machine.execSbx p cd cs1 cs2 s
  | .shx p cd cs1 cs2 => Sys2Proof.Machine.execShx p cd cs1 cs2 s
  | .swx p cd cs1 cs2 => Sys2Proof.Machine.execSwx p cd cs1 cs2 s
  | .sdx p cd cs1 cs2 => Sys2Proof.Machine.execSdx p cd cs1 cs2 s
  | .cscx p cd cs1 cs2 => Sys2Proof.Machine.execCscx p cd cs1 cs2 s
  | .lrcD p cd cs1 => Sys2Proof.Machine.execLrcD p cd cs1 s
  | .lrcC p cd cs1 => Sys2Proof.Machine.execLrcC p cd cs1 s
  | .sccD p cd cs1 cs2 => Sys2Proof.Machine.execSccD p cd cs1 cs2 s
  | .sccC p cd cs1 cs2 => Sys2Proof.Machine.execSccC p cd cs1 cs2 s
  | .cmove p cd cs1 => Sys2Proof.Machine.execCmove p cd cs1 s
  | .csetaddr p cd cs1 cs2 => Sys2Proof.Machine.execCsetaddr p cd cs1 cs2 s
  | .cincaddr p cd cs1 cs2 => Sys2Proof.Machine.execCincaddr p cd cs1 cs2 s
  | .cincaddri p cd cs1 imm => Sys2Proof.Machine.execCincaddri p cd cs1 imm s
  | .csetbounds p cd cs1 cs2 => Sys2Proof.Machine.execCsetbounds p cd cs1 cs2 s
  | .csetboundsx p cd cs1 cs2 => Sys2Proof.Machine.execCsetboundsx p cd cs1 cs2 s
  | .candperm p cd cs1 cs2 => Sys2Proof.Machine.execCandperm p cd cs1 cs2 s
  | .ccleartag p cd cs1 => Sys2Proof.Machine.execCcleartag p cd cs1 s
  | .cseal p cd cs1 cs2 => Sys2Proof.Machine.execCseal p cd cs1 cs2 s
  | .cunseal p cd cs1 cs2 => Sys2Proof.Machine.execCunseal p cd cs1 cs2 s
  | .csealentry p cd cs1 => Sys2Proof.Machine.execCsealentry p cd cs1 s
  | .cgettag p cd cs1 => Sys2Proof.Machine.execCgettag p cd cs1 s
  | .cgetperm p cd cs1 => Sys2Proof.Machine.execCgetperm p cd cs1 s
  | .cgettype p cd cs1 => Sys2Proof.Machine.execCgettype p cd cs1 s
  | .cgetaddr p cd cs1 => Sys2Proof.Machine.execCgetaddr p cd cs1 s
  | .cgetbase p cd cs1 => Sys2Proof.Machine.execCgetbase p cd cs1 s
  | .cgettop p cd cs1 => Sys2Proof.Machine.execCgettop p cd cs1 s
  | .cgetlen p cd cs1 => Sys2Proof.Machine.execCgetlen p cd cs1 s
  | .crrl p cd cs1 => Sys2Proof.Machine.execCrrl p cd cs1 s
  | .cram p cd cs1 => Sys2Proof.Machine.execCram p cd cs1 s
  | .add p cd cs1 cs2 => Sys2Proof.Machine.execAdd p cd cs1 cs2 s
  | .sub p cd cs1 cs2 => Sys2Proof.Machine.execSub p cd cs1 cs2 s
  | .addv p cd cs1 cs2 => Sys2Proof.Machine.execAddv p cd cs1 cs2 s
  | .subv p cd cs1 cs2 => Sys2Proof.Machine.execSubv p cd cs1 cs2 s
  | .adds p cd cs1 cs2 => Sys2Proof.Machine.execAdds p cd cs1 cs2 s
  | .subs p cd cs1 cs2 => Sys2Proof.Machine.execSubs p cd cs1 cs2 s
  | .neg p cd cs1 => Sys2Proof.Machine.execNeg p cd cs1 s
  | .negs p cd cs1 => Sys2Proof.Machine.execNegs p cd cs1 s
  | .and p cd cs1 cs2 => Sys2Proof.Machine.execAnd p cd cs1 cs2 s
  | .or p cd cs1 cs2 => Sys2Proof.Machine.execOr p cd cs1 cs2 s
  | .xor p cd cs1 cs2 => Sys2Proof.Machine.execXor p cd cs1 cs2 s
  | .andn p cd cs1 cs2 => Sys2Proof.Machine.execAndn p cd cs1 cs2 s
  | .orn p cd cs1 cs2 => Sys2Proof.Machine.execOrn p cd cs1 cs2 s
  | .min p cd cs1 cs2 => Sys2Proof.Machine.execMin p cd cs1 cs2 s
  | .max p cd cs1 cs2 => Sys2Proof.Machine.execMax p cd cs1 cs2 s
  | .minu p cd cs1 cs2 => Sys2Proof.Machine.execMinu p cd cs1 cs2 s
  | .maxu p cd cs1 cs2 => Sys2Proof.Machine.execMaxu p cd cs1 cs2 s
  | .slt p cd cs1 cs2 => Sys2Proof.Machine.execSlt p cd cs1 cs2 s
  | .sltu p cd cs1 cs2 => Sys2Proof.Machine.execSltu p cd cs1 cs2 s
  | .clz p cd cs1 => Sys2Proof.Machine.execClz p cd cs1 s
  | .ctz p cd cs1 => Sys2Proof.Machine.execCtz p cd cs1 s
  | .popc p cd cs1 => Sys2Proof.Machine.execPopc p cd cs1 s
  | .sextb p cd cs1 => Sys2Proof.Machine.execSextb p cd cs1 s
  | .sexth p cd cs1 => Sys2Proof.Machine.execSexth p cd cs1 s
  | .sextw p cd cs1 => Sys2Proof.Machine.execSextw p cd cs1 s
  | .zextw p cd cs1 => Sys2Proof.Machine.execZextw p cd cs1 s
  | .mfs p cd sr cs2 => Sys2Proof.Machine.execMfs p cd sr cs2 s
  | .mts p sr cs1 cs2 => Sys2Proof.Machine.execMts p sr cs1 cs2 s
  | .pand p pd ps1 ps2 => Sys2Proof.Machine.execPand p pd ps1 ps2 s
  | .por p pd ps1 ps2 => Sys2Proof.Machine.execPor p pd ps1 ps2 s
  | .pxor p pd ps1 ps2 => Sys2Proof.Machine.execPxor p pd ps1 ps2 s
  | .pandn p pd ps1 ps2 => Sys2Proof.Machine.execPandn p pd ps1 ps2 s
  | .pget p cd => Sys2Proof.Machine.execPget p cd s
  | .pput p cs1 => Sys2Proof.Machine.execPput p cs1 s
  | .sll p cd cs1 cs2 => Sys2Proof.Machine.execSll p cd cs1 cs2 s
  | .srl p cd cs1 cs2 => Sys2Proof.Machine.execSrl p cd cs1 cs2 s
  | .sra p cd cs1 cs2 => Sys2Proof.Machine.execSra p cd cs1 cs2 s
  | .mul p cd cs1 cs2 => Sys2Proof.Machine.execMul p cd cs1 cs2 s
  | .mulv p cd cs1 cs2 => Sys2Proof.Machine.execMulv p cd cs1 cs2 s
  | .muls p cd cs1 cs2 => Sys2Proof.Machine.execMuls p cd cs1 cs2 s
  | .mulh p cd cs1 cs2 => Sys2Proof.Machine.execMulh p cd cs1 cs2 s
  | .mulhu p cd cs1 cs2 => Sys2Proof.Machine.execMulhu p cd cs1 cs2 s
  | .div p cd cs1 cs2 => Sys2Proof.Machine.execDiv p cd cs1 cs2 s
  | .divu p cd cs1 cs2 => Sys2Proof.Machine.execDivu p cd cs1 cs2 s
  | .rem p cd cs1 cs2 => Sys2Proof.Machine.execRem p cd cs1 cs2 s
  | .remu p cd cs1 cs2 => Sys2Proof.Machine.execRemu p cd cs1 cs2 s
  | .divs p cd cs1 cs2 => Sys2Proof.Machine.execDivs p cd cs1 cs2 s
  | .addi p cd cs1 imm => Sys2Proof.Machine.execAddi p cd cs1 imm s
  | .andi p cd cs1 imm => Sys2Proof.Machine.execAndi p cd cs1 imm s
  | .ori p cd cs1 imm => Sys2Proof.Machine.execOri p cd cs1 imm s
  | .xori p cd cs1 imm => Sys2Proof.Machine.execXori p cd cs1 imm s
  | .slli p cd cs1 amt => Sys2Proof.Machine.execSlli p cd cs1 amt s
  | .srli p cd cs1 amt => Sys2Proof.Machine.execSrli p cd cs1 amt s
  | .srai p cd cs1 amt => Sys2Proof.Machine.execSrai p cd cs1 amt s
  | .compare p pd pc cond cs1 cs2 => Sys2Proof.Machine.execCompare p pd pc cond cs1 cs2 s
  | .wadd p cd cs1 cs2 => Sys2Proof.Machine.execWadd p cd cs1 cs2 s
  | .wsub p cd cs1 cs2 => Sys2Proof.Machine.execWsub p cd cs1 cs2 s
  | .waddv p cd cs1 cs2 => Sys2Proof.Machine.execWaddv p cd cs1 cs2 s
  | .wsubv p cd cs1 cs2 => Sys2Proof.Machine.execWsubv p cd cs1 cs2 s
  | .wadds p cd cs1 cs2 => Sys2Proof.Machine.execWadds p cd cs1 cs2 s
  | .wsubs p cd cs1 cs2 => Sys2Proof.Machine.execWsubs p cd cs1 cs2 s
  | .wneg p cd cs1 => Sys2Proof.Machine.execWneg p cd cs1 s
  | .wnegs p cd cs1 => Sys2Proof.Machine.execWnegs p cd cs1 s
  | .wand p cd cs1 cs2 => Sys2Proof.Machine.execWand p cd cs1 cs2 s
  | .wor p cd cs1 cs2 => Sys2Proof.Machine.execWor p cd cs1 cs2 s
  | .wxor p cd cs1 cs2 => Sys2Proof.Machine.execWxor p cd cs1 cs2 s
  | .wsll p cd cs1 cs2 => Sys2Proof.Machine.execWsll p cd cs1 cs2 s
  | .wsrl p cd cs1 cs2 => Sys2Proof.Machine.execWsrl p cd cs1 cs2 s
  | .wsra p cd cs1 cs2 => Sys2Proof.Machine.execWsra p cd cs1 cs2 s
  | .wmul p cd cs1 cs2 => Sys2Proof.Machine.execWmul p cd cs1 cs2 s
  | .wmulv p cd cs1 cs2 => Sys2Proof.Machine.execWmulv p cd cs1 cs2 s
  | .wmuls p cd cs1 cs2 => Sys2Proof.Machine.execWmuls p cd cs1 cs2 s
  | .wmulx p cd cs1 cs2 => Sys2Proof.Machine.execWmulx p cd cs1 cs2 s
  | .wmulxu p cd cs1 cs2 => Sys2Proof.Machine.execWmulxu p cd cs1 cs2 s
  | .wdiv p cd cs1 cs2 => Sys2Proof.Machine.execWdiv p cd cs1 cs2 s
  | .wrem p cd cs1 cs2 => Sys2Proof.Machine.execWrem p cd cs1 cs2 s
  | .wdivs p cd cs1 cs2 => Sys2Proof.Machine.execWdivs p cd cs1 cs2 s
  | .wsext p cd cs1 => Sys2Proof.Machine.execWsext p cd cs1 s
  | .wzext p cd cs1 => Sys2Proof.Machine.execWzext p cd cs1 s
  | .wpack p cd cs1 cs2 => Sys2Proof.Machine.execWpack p cd cs1 cs2 s
  | .whi p cd cs1 => Sys2Proof.Machine.execWhi p cd cs1 s
  | .wslli p cd cs1 amt => Sys2Proof.Machine.execWslli p cd cs1 amt s
  | .wsrli p cd cs1 amt => Sys2Proof.Machine.execWsrli p cd cs1 amt s
  | .wsrai p cd cs1 amt => Sys2Proof.Machine.execWsrai p cd cs1 amt s
  | .waddi p cd cs1 imm => Sys2Proof.Machine.execWaddi p cd cs1 imm s
  | .wideCompare p pd pc cond cs1 cs2 => Sys2Proof.Machine.execWideCompare p pd pc cond cs1 cs2 s
  | .aclr p ad => Sys2Proof.Machine.execAclr p ad s
  | .amova p ad as_ => Sys2Proof.Machine.execAmova p ad as_ s
  | .asetw p ad cs1 => Sys2Proof.Machine.execAsetw p ad cs1 s
  | .asetx p ad cs1 => Sys2Proof.Machine.execAsetx p ad cs1 s
  | .asetm p ad cs1 => Sys2Proof.Machine.execAsetm p ad cs1 s
  | .agetg p cd as_ => Sys2Proof.Machine.execAgetg p cd as_ s
  | .aneg p ad => Sys2Proof.Machine.execAneg p ad s
  | .agetr p cd as_ => Sys2Proof.Machine.execAgetr p cd as_ s
  | .asetg p ad cs1 => Sys2Proof.Machine.execAsetg p ad cs1 s
  | .qmul p ad cs1 cs2 => Sys2Proof.Machine.execQmul p ad cs1 cs2 s
  | .qmac p ad cs1 cs2 => Sys2Proof.Machine.execQmac p ad cs1 cs2 s
  | .qmsu p ad cs1 cs2 => Sys2Proof.Machine.execQmsu p ad cs1 cs2 s
  | .mmul p ad cs1 cs2 => Sys2Proof.Machine.execMmul p ad cs1 cs2 s
  | .mmac p ad cs1 cs2 => Sys2Proof.Machine.execMmac p ad cs1 cs2 s
  | .mmsu p ad cs1 cs2 => Sys2Proof.Machine.execMmsu p ad cs1 cs2 s
  | .aaddw p ad cs1 => Sys2Proof.Machine.execAaddw p ad cs1 s
  | .asubw p ad cs1 => Sys2Proof.Machine.execAsubw p ad cs1 s
  | .aaddq p ad cs1 => Sys2Proof.Machine.execAaddq p ad cs1 s
  | .asubq p ad cs1 => Sys2Proof.Machine.execAsubq p ad cs1 s
  | .aadda p ad as_ => Sys2Proof.Machine.execAadda p ad as_ s
  | .arndq p cd as_ => Sys2Proof.Machine.execArndq p cd as_ s
  | .arndw p cd as_ => Sys2Proof.Machine.execArndw p cd as_ s
  | .ashrq p cd as_ cs2 => Sys2Proof.Machine.execAshrq p cd as_ cs2 s
  | .ashrw p cd as_ cs2 => Sys2Proof.Machine.execAshrw p cd as_ cs2 s
  | .arndm p cd as_ => Sys2Proof.Machine.execArndm p cd as_ s
  | .qadd p cd cs1 cs2 => Sys2Proof.Machine.execQadd p cd cs1 cs2 s
  | .qsub p cd cs1 cs2 => Sys2Proof.Machine.execQsub p cd cs1 cs2 s
  | .qmulr p cd cs1 cs2 => Sys2Proof.Machine.execQmulr p cd cs1 cs2 s
  | .qneg p cd cs1 => Sys2Proof.Machine.execQneg p cd cs1 s
  | .wqadd p cd cs1 cs2 => Sys2Proof.Machine.execWqadd p cd cs1 cs2 s
  | .wqsub p cd cs1 cs2 => Sys2Proof.Machine.execWqsub p cd cs1 cs2 s
  | .wqmulr p cd cs1 cs2 => Sys2Proof.Machine.execWqmulr p cd cs1 cs2 s
  | .wqneg p cd cs1 => Sys2Proof.Machine.execWqneg p cd cs1 s
  | .qtow p cd cs1 => Sys2Proof.Machine.execQtow p cd cs1 s
  | .wtoq p cd cs1 => Sys2Proof.Machine.execWtoq p cd cs1 s
  | .qdiv p cd cs1 cs2 => Sys2Proof.Machine.execQdiv p cd cs1 cs2 s
  | .wqdiv p cd cs1 cs2 => Sys2Proof.Machine.execWqdiv p cd cs1 cs2 s
  | .mdiv p cd cs1 cs2 => Sys2Proof.Machine.execMdiv p cd cs1 cs2 s
  | .mscale p cd cs1 cs2 => Sys2Proof.Machine.execMscale p cd cs1 cs2 s
  | .mmulq p cd cs1 => Sys2Proof.Machine.execMmulq p cd cs1 s
  | .mrnd p cd cs1 => Sys2Proof.Machine.execMrnd p cd cs1 s
  | .mbrk p cd cs1 => Sys2Proof.Machine.execMbrk p cd cs1 s
  | .mrndx p cd cs1 => Sys2Proof.Machine.execMrndx p cd cs1 s
  | .fsync p => Sys2Proof.Machine.execFsync p s
  | .tadd p cd cs1 cs2 ca => Sys2Proof.Machine.execTadd p cd cs1 cs2 ca s
  | .tclose p cd cs1 cs2 => Sys2Proof.Machine.execTclose p cd cs1 cs2 s
  | .tread p cd cs1 cs2 => Sys2Proof.Machine.execTread p cd cs1 cs2 s
  | .stm p cs1 cs2 => Sys2Proof.Machine.execStm p cs1 cs2 s
  | .ldm p cs1 cs2 => Sys2Proof.Machine.execLdm p cs1 cs2 s
  | .svctxU p cd cs1 => Sys2Proof.Machine.execSvctxU p cd cs1 s
  | .svctxL p cd cs1 => Sys2Proof.Machine.execSvctxL p cd cs1 s
  | .ldctxU p cd => Sys2Proof.Machine.execLdctxU p cd s
  | .ldctxL p cd => Sys2Proof.Machine.execLdctxL p cd s
  | .br p imm => Sys2Proof.Machine.execBr p imm s
  | .cjr p cs1 => Sys2Proof.Machine.execCjr p cs1 s
  | .cjalr p cd cs1 => Sys2Proof.Machine.execCjalr p cd cs1 s
  | .callm p cd cs1 cs2 imm => Sys2Proof.Machine.execCallm p cd cs1 cs2 imm s
  | .callmR p cd => Sys2Proof.Machine.execCallmR p cd s
  | .invoke p cs1 => Sys2Proof.Machine.execInvoke p cs1 s
  | .retg p cs1 => Sys2Proof.Machine.execRetg p cs1 s
  | .rete p => Sys2Proof.Machine.execRete p s
  | .loop p cs1 imm => Sys2Proof.Machine.execLoop p cs1 imm s
  | .repi p cs1 => Sys2Proof.Machine.execRepi p cs1 s
  | .repu p cs1 => Sys2Proof.Machine.execRepu p cs1 s
  | .japp p cd cs1 cs2 => Sys2Proof.Machine.execJapp p cd cs1 cs2 s
  | .jseal p cd cs1 => Sys2Proof.Machine.execJseal p cd cs1 s
  | .draw p cd cs1 cs2 => Sys2Proof.Machine.execDraw p cd cs1 cs2 s
  | .eclipse p cd cs1 => Sys2Proof.Machine.execEclipse p cd cs1 s
  | .eclipseR p cd cs1 cs2 => Sys2Proof.Machine.execEclipseR p cd cs1 cs2 s
  | .msync p => Sys2Proof.Machine.execMsync p s
  | .iflush p => Sys2Proof.Machine.execIflush p s
  | .tlbinvVa p cs1 cs2 => Sys2Proof.Machine.execTlbinvVa p cs1 cs2 s
  | .tlbinvAsid p cs2 => Sys2Proof.Machine.execTlbinvAsid p cs2 s
  | .tlbinvAll p => Sys2Proof.Machine.execTlbinvAll p s
  | .walkinvVa p cs1 cs2 => Sys2Proof.Machine.execWalkinvVa p cs1 cs2 s
  | .walkinvAll p => Sys2Proof.Machine.execWalkinvAll p s
  | .customSyllable p n cd cs1 cs2 => Sys2Proof.Machine.execCustomSyllable p n cd cs1 cs2 s
  | .divergence p => Sys2Proof.Machine.execDivergence p s
  | .divergenceRecord p => Sys2Proof.Machine.execDivergenceRecord p s
  | .haltRecord p => Sys2Proof.Machine.execHaltRecord p s
  | .redispatch p => Sys2Proof.Machine.execRedispatch p s
  | .eventSelect p => Sys2Proof.Machine.execEventSelect p s
  | .eventEntry p => Sys2Proof.Machine.execEventEntry p s
  | .bankResumption p => Sys2Proof.Machine.execBankResumption p s
  | .spill p => Sys2Proof.Machine.execSpill p s
  | .spillWriteComplete p => Sys2Proof.Machine.execSpillWriteComplete p s
  | .backgroundSpill p => Sys2Proof.Machine.execBackgroundSpill p s
  | .fill p => Sys2Proof.Machine.execFill p s
  | .maskOverstay p => Sys2Proof.Machine.execMaskOverstay p s
  | .faultTimeout p b => Sys2Proof.Machine.execFaultTimeout p b s
  | .evdPost ch => Sys2Proof.Machine.execEvdPost ch s
  | .evdEnable => Sys2Proof.Machine.execEvdEnable s
  | .invtask t => Sys2Proof.Machine.execInvtask t s
  | .evdEnd t => Sys2Proof.Machine.execEvdEnd t s
  | .clrch ch => Sys2Proof.Machine.execClrch ch s
  | .evdClrcnt => Sys2Proof.Machine.execEvdClrcnt s
  | .restart pair => Sys2Proof.Machine.execRestart pair s
  | .excClrcnt => Sys2Proof.Machine.execExcClrcnt s
  | .lockupClear second mask => Sys2Proof.Machine.execLockupClear second mask s
  | .lockPoint => Sys2Proof.Machine.execLockPoint s
  | .eclStart => Sys2Proof.Machine.execEclStart s
  | .eclAutoStart => Sys2Proof.Machine.execEclAutoStart s
  | .eclAbort => Sys2Proof.Machine.execEclAbort s
  | .eclClrcnt => Sys2Proof.Machine.execEclClrcnt s
  | .eclipsePass p => Sys2Proof.Machine.execEclipsePass p s
  | .sweepGranule => Sys2Proof.Machine.execSweepGranule s
  | .eclPhaseAdvance => Sys2Proof.Machine.execEclPhaseAdvance s
  | .epochCompletion => Sys2Proof.Machine.execEpochCompletion s
  | .tallyDecisionArrival id => Sys2Proof.Machine.execTallyDecisionArrival id s
  | .combLoadComplete cell => Sys2Proof.Machine.execCombLoadComplete cell s
  | .combWindowExpiry cell => Sys2Proof.Machine.execCombWindowExpiry cell s
  | .combWritebackComplete cell => Sys2Proof.Machine.execCombWritebackComplete cell s
  | .unpark id => Sys2Proof.Machine.execUnpark id s
  | .parkTimeout id => Sys2Proof.Machine.execParkTimeout id s
  | .tallyStatusReturn id => Sys2Proof.Machine.execTallyStatusReturn id s
  | .tallyAbort core => Sys2Proof.Machine.execTallyAbort core s
  | .tallyClrcnt => Sys2Proof.Machine.execTallyClrcnt s
  | .cellLineAccess pa => Sys2Proof.Machine.execCellLineAccess pa s
  | .journalSequencing => Sys2Proof.Machine.execJournalSequencing s
  | .sealRecord => Sys2Proof.Machine.execSealRecord s
  | .durabilityPoint => Sys2Proof.Machine.execDurabilityPoint s
  | .journalDupcmp => Sys2Proof.Machine.execJournalDupcmp s
  | .epochOpen => Sys2Proof.Machine.execEpochOpen s
  | .jrnSealCmd => Sys2Proof.Machine.execJrnSealCmd s
  | .jrnClrcnt => Sys2Proof.Machine.execJrnClrcnt s
  | .jrnReplWrite p val => Sys2Proof.Machine.execJrnReplWrite p val s
  | .jrnLookup seq => Sys2Proof.Machine.execJrnLookup seq s
  | .lookupComplete => Sys2Proof.Machine.execLookupComplete s
  | .entrySend => Sys2Proof.Machine.execEntrySend s
  | .entry seq body => Sys2Proof.Machine.execEntry seq body s
  | .entryAck seq => Sys2Proof.Machine.execEntryAck seq s
  | .ackTimeout => Sys2Proof.Machine.execAckTimeout s
  | .drainFrame => Sys2Proof.Machine.execDrainFrame s
  | .archiveAck body => Sys2Proof.Machine.execArchiveAck body s
  | .archiveRetransmit => Sys2Proof.Machine.execArchiveRetransmit s
  | .drawRequest => Sys2Proof.Machine.execDrawRequest s
  | .drawComplete => Sys2Proof.Machine.execDrawComplete s
  | .glintStartupTest pass => Sys2Proof.Machine.execGlintStartupTest pass s
  | .healthFailure apt => Sys2Proof.Machine.execHealthFailure apt s
  | .drawDupcmp => Sys2Proof.Machine.execDrawDupcmp s
  | .drwClrcnt => Sys2Proof.Machine.execDrwClrcnt s
  | .arbDecision ch cand cyc => Sys2Proof.Machine.execArbDecision ch cand cyc s
  | .arbCommit mask => Sys2Proof.Machine.execArbCommit mask s
  | .commitArrival ch => Sys2Proof.Machine.execCommitArrival ch s
  | .holdMonitor ch => Sys2Proof.Machine.execHoldMonitor ch s
  | .refresh ch => Sys2Proof.Machine.execRefresh ch s
  | .patrolScrub ch found => Sys2Proof.Machine.execPatrolScrub ch found s
  | .mchClrcnt => Sys2Proof.Machine.execMchClrcnt s
  | .ptClrcnt => Sys2Proof.Machine.execPtClrcnt s
  | .trClrcnt => Sys2Proof.Machine.execTrClrcnt s
  | .registerWrite src pa val => Sys2Proof.Machine.execRegisterWrite src pa val s
  | .fabricTimeout unit pa va store crc => Sys2Proof.Machine.execFabricTimeout unit pa va store crc s
  | .powerGood => Sys2Proof.Machine.execPowerGood s
  | .strapSample straps ok => Sys2Proof.Machine.execStrapSample straps ok s
  | .selftest failL failS failUnit => Sys2Proof.Machine.execSelftest failL failS failUnit s
  | .dramInit fail => Sys2Proof.Machine.execDramInit fail s
  | .imageVerify => Sys2Proof.Machine.execImageVerify s
  | .senStart val => Sys2Proof.Machine.execSenStart val s
  | .measurementLogClose => Sys2Proof.Machine.execMeasurementLogClose s
  | .strapCheck straps => Sys2Proof.Machine.execStrapCheck straps s
  | .governorPass inlet bp sweep tkt => Sys2Proof.Machine.execGovernorPass inlet bp sweep tkt s
  | .senNqHi q => Sys2Proof.Machine.execSenNqHi q s
  | .rstreq => Sys2Proof.Machine.execRstreq s
  | .lcQuery port tag body => Sys2Proof.Machine.execLcQuery port tag body s
  | .attest port tag body => Sys2Proof.Machine.execAttest port tag body s
  | .jexport port tag body => Sys2Proof.Machine.execJexport port tag body s
  | .keygen port tag body => Sys2Proof.Machine.execKeygen port tag body s
  | .rawCapture port tag body => Sys2Proof.Machine.execRawCapture port tag body s
  | .provision port tag body => Sys2Proof.Machine.execProvision port tag body s
  | .certify port tag body => Sys2Proof.Machine.execCertify port tag body s
  | .policySet port tag body => Sys2Proof.Machine.execPolicySet port tag body s
  | .keySet port tag body => Sys2Proof.Machine.execKeySet port tag body s
  | .mcCommit port tag body => Sys2Proof.Machine.execMcCommit port tag body s
  | .takeover port tag body => Sys2Proof.Machine.execTakeover port tag body s
  | .debugChallenge port tag body => Sys2Proof.Machine.execDebugChallenge port tag body s
  | .debugUnlock port tag body => Sys2Proof.Machine.execDebugUnlock port tag body s
  | .debugLock port tag body => Sys2Proof.Machine.execDebugLock port tag body s
  | .debugUnlockExpiry => Sys2Proof.Machine.execDebugUnlockExpiry s
  | .debugChallengeExpiry => Sys2Proof.Machine.execDebugChallengeExpiry s
  | .alarmRecover port tag body pass => Sys2Proof.Machine.execAlarmRecover port tag body pass s
  | .reset port tag body => Sys2Proof.Machine.execReset port tag body s
  | .imgStage port tag body => Sys2Proof.Machine.execImgStage port tag body s
  | .retire port tag body => Sys2Proof.Machine.execRetire port tag body s
  | .fwStage port tag body => Sys2Proof.Machine.execFwStage port tag body s
  | .mcStage port tag body => Sys2Proof.Machine.execMcStage port tag body s
  | .cfgSet port tag body => Sys2Proof.Machine.execCfgSet port tag body s
  | .telemRead port tag body => Sys2Proof.Machine.execTelemRead port tag body s
  | .detach port tag body => Sys2Proof.Machine.execDetach port tag body s
  | .presence pecOk => Sys2Proof.Machine.execPresence pecOk s
  | .powerReq value pecOk => Sys2Proof.Machine.execPowerReq value pecOk s
  | .sensorRead idx reading pecOk => Sys2Proof.Machine.execSensorRead idx reading pecOk s
  | .ledSet value pecOk => Sys2Proof.Machine.execLedSet value pecOk s
  | .mgmtSegment port seg pass => Sys2Proof.Machine.execMgmtSegment port seg pass s
  | .mgmtTimeout port => Sys2Proof.Machine.execMgmtTimeout port s
  | .debugAccess fn pa wr val => Sys2Proof.Machine.execDebugAccess fn pa wr val s
  | .alarmDetection hits powerUp => Sys2Proof.Machine.execAlarmDetection hits powerUp s
  | .umbraErase => Sys2Proof.Machine.execUmbraErase s
  | .alarmHoldBoot => Sys2Proof.Machine.execAlarmHoldBoot s
  | .frameReceive port bytes fcsOk => Sys2Proof.Machine.execFrameReceive port bytes fcsOk s
  | .portLinkDown port => Sys2Proof.Machine.execPortLinkDown port s
  | .netRxqCfgWrite q val => Sys2Proof.Machine.execNetRxqCfgWrite q val s
  | .netTxqTail t val => Sys2Proof.Machine.execNetTxqTail t val s
  | .txFrameSent t => Sys2Proof.Machine.execTxFrameSent t s
  | .sync port domain ident origin twoStep => Sys2Proof.Machine.execSync port domain ident origin twoStep s
  | .followUp port domain ident origin => Sys2Proof.Machine.execFollowUp port domain ident origin s
  | .delayResp port domain ident sent recv => Sys2Proof.Machine.execDelayResp port domain ident sent recv s
  | .holdover => Sys2Proof.Machine.execHoldover s
  | .hbSqDb h val msgs => Sys2Proof.Machine.execHbSqDb h val msgs s
  | .hbCqHead h val msgs => Sys2Proof.Machine.execHbCqHead h val msgs s
  | .hbDrHead r val => Sys2Proof.Machine.execHbDrHead r val s
  | .hostBar0Write off val => Sys2Proof.Machine.execHostBar0Write off val s
  | .pciSqTail q val => Sys2Proof.Machine.execPciSqTail q val s
  | .hostDelivery q => Sys2Proof.Machine.execHostDelivery q s
  | .deliveryRingStall q => Sys2Proof.Machine.execDeliveryRingStall q s
  | .pcieLinkDown => Sys2Proof.Machine.execPcieLinkDown s
  | .flit link bytes => Sys2Proof.Machine.execFlit link bytes s
  | .flitReplay link => Sys2Proof.Machine.execFlitReplay link s
  | .cwlLinkUp link primary gen slot => Sys2Proof.Machine.execCwlLinkUp link primary gen slot s
  | .cwlLinkDown link => Sys2Proof.Machine.execCwlLinkDown link s
  | .heartbeatSend => Sys2Proof.Machine.execHeartbeatSend s
  | .heartbeat link body => Sys2Proof.Machine.execHeartbeat link body s
  | .partnerLoss => Sys2Proof.Machine.execPartnerLoss s
  | .autoTakeover => Sys2Proof.Machine.execAutoTakeover s
  | .cwlTakeover gen => Sys2Proof.Machine.execCwlTakeover gen s
  | .joinReq ident head hash => Sys2Proof.Machine.execJoinReq ident head hash s
  | .joinResp code => Sys2Proof.Machine.execJoinResp code s
  | .cwlDetach => Sys2Proof.Machine.execCwlDetach s
  | .fwdReq tag body => Sys2Proof.Machine.execFwdReq tag body s
  | .fwdReceipt tag seq => Sys2Proof.Machine.execFwdReceipt tag seq s
  | .fwdStatus tag st => Sys2Proof.Machine.execFwdStatus tag st s
  | .cwlWrite tag off data => Sys2Proof.Machine.execCwlWrite tag off data s
  | .writeDone st => Sys2Proof.Machine.execWriteDone st s
  | .cwlPost word => Sys2Proof.Machine.execCwlPost word s
  | .insertion => Sys2Proof.Machine.execInsertion s
  | .rampTimeout => Sys2Proof.Machine.execRampTimeout s
  | .presNRelease => Sys2Proof.Machine.execPresNRelease s
  | .vinUndervoltage mv => Sys2Proof.Machine.execVinUndervoltage mv s
  | .vinOvervoltage mv => Sys2Proof.Machine.execVinOvervoltage mv s
  | .overCurrentTrip => Sys2Proof.Machine.execOverCurrentTrip s
  | .thermalTrip => Sys2Proof.Machine.execThermalTrip s
  | .shutdownRecord => Sys2Proof.Machine.execShutdownRecord s
  | .autoRestart => Sys2Proof.Machine.execAutoRestart s
  | .fastLimit ma => Sys2Proof.Machine.execFastLimit ma s
  | .park mv => Sys2Proof.Machine.execPark mv s
  | .eject isOpen => Sys2Proof.Machine.execEject isOpen s
  | .pwrDetach => Sys2Proof.Machine.execPwrDetach s
  | .unforce => Sys2Proof.Machine.execUnforce s
  | .pwrClrcnt => Sys2Proof.Machine.execPwrClrcnt s
  | .drainLimit => Sys2Proof.Machine.execDrainLimit s
  | .readyToRemove => Sys2Proof.Machine.execReadyToRemove s
  | .holdupMeasure mj => Sys2Proof.Machine.execHoldupMeasure mj s
  | .railExcursion rail wide reading => Sys2Proof.Machine.execRailExcursion rail wide reading s
  | .refclkLoss detail reading => Sys2Proof.Machine.execRefclkLoss detail reading s
  | .clkRatio k val => Sys2Proof.Machine.execClkRatio k val s
  | .portLinkUp port => Sys2Proof.Machine.execPortLinkUp port s
  | .pcieLinkUp width speed => Sys2Proof.Machine.execPcieLinkUp width speed s
  | .regKeyChange isClosed => Sys2Proof.Machine.execRegKeyChange isClosed s
  | .timeUncertain => Sys2Proof.Machine.execTimeUncertain s
  | .l3Scrub bad => Sys2Proof.Machine.execL3Scrub bad s
  | .securityMonitorMiscompare => Sys2Proof.Machine.execSecurityMonitorMiscompare s
  | .alarmSourceInactive cls => Sys2Proof.Machine.execAlarmSourceInactive cls s
  | .powerGoodTimeout => Sys2Proof.Machine.execPowerGoodTimeout s
  | .rampRetry => Sys2Proof.Machine.execRampRetry s
  | .clockLowTimeout => Sys2Proof.Machine.execClockLowTimeout s
  | .segmentAcknowledgement port => Sys2Proof.Machine.execSegmentAcknowledgement port s
  | .outsideRecommendedConditions env => Sys2Proof.Machine.execOutsideRecommendedConditions env s

end Sys2Proof.Machine
end

