-- ==== Sys2Proof/Machine/SylEncode.lean ====
section
/-!
DEFINITION. The words of a syllable (R102, R106, R136-R144, R181-R189, R205, R408): the encoding that `SylDecode` reads back.
-/
namespace Sys2Proof.Machine
open Sys2Proof (Instr Imm)

/-- The fields of a syllable word (R102) with the pair that it is encoded for, and the extension of an X syllable (R106). -/
structure SylFields where
  pair : Nat
  maj : Nat
  cd : Nat
  cs1 : Nat
  cs2 : Nat
  mn : Nat
  ext : Option (BitVec 23)
deriving DecidableEq, Repr

/-- `MIN` of an immediate: its low six bits (R106, R137). -/
def immLow : Imm → Nat
  | .short v => v.toNat
  | .ext v => (v.setWidth 6).toNat

/-- The extension of an immediate: bits 28:6 (R106). -/
def immHigh : Imm → Option (BitVec 23)
  | .short _ => none
  | .ext v => some ((v >>> 6).setWidth 23)

/-- The fields of a syllable; none for a command that is no syllable, and for operands that no word spells. An A or B syllable
has the A encoding. -/
def fieldsOf (i : Instr) : Option SylFields :=
  match i with
  | .lbx p cd cs1 cs2 => some ⟨p, 0x0D, cd.toNat, cs1.toNat, cs2.toNat, 0x00, none⟩
  | .lbux p cd cs1 cs2 => some ⟨p, 0x0D, cd.toNat, cs1.toNat, cs2.toNat, 0x01, none⟩
  | .lhx p cd cs1 cs2 => some ⟨p, 0x0D, cd.toNat, cs1.toNat, cs2.toNat, 0x02, none⟩
  | .lhux p cd cs1 cs2 => some ⟨p, 0x0D, cd.toNat, cs1.toNat, cs2.toNat, 0x03, none⟩
  | .lwx p cd cs1 cs2 => some ⟨p, 0x0D, cd.toNat, cs1.toNat, cs2.toNat, 0x04, none⟩
  | .lwux p cd cs1 cs2 => some ⟨p, 0x0D, cd.toNat, cs1.toNat, cs2.toNat, 0x05, none⟩
  | .ldx p cd cs1 cs2 => some ⟨p, 0x0D, cd.toNat, cs1.toNat, cs2.toNat, 0x06, none⟩
  | .clcx p cd cs1 cs2 => some ⟨p, 0x0D, cd.toNat, cs1.toNat, cs2.toNat, 0x07, none⟩
  | .sbx p cd cs1 cs2 => some ⟨p, 0x0D, cd.toNat, cs1.toNat, cs2.toNat, 0x08, none⟩
  | .shx p cd cs1 cs2 => some ⟨p, 0x0D, cd.toNat, cs1.toNat, cs2.toNat, 0x09, none⟩
  | .swx p cd cs1 cs2 => some ⟨p, 0x0D, cd.toNat, cs1.toNat, cs2.toNat, 0x0A, none⟩
  | .sdx p cd cs1 cs2 => some ⟨p, 0x0D, cd.toNat, cs1.toNat, cs2.toNat, 0x0B, none⟩
  | .cscx p cd cs1 cs2 => some ⟨p, 0x0D, cd.toNat, cs1.toNat, cs2.toNat, 0x0C, none⟩
  | .lrcD p cd cs1 => some ⟨p, 0x0D, cd.toNat, cs1.toNat, 0, 0x10, none⟩
  | .lrcC p cd cs1 => some ⟨p, 0x0D, cd.toNat, cs1.toNat, 0, 0x11, none⟩
  | .sccD p cd cs1 cs2 => some ⟨p, 0x0D, cd.toNat, cs1.toNat, cs2.toNat, 0x12, none⟩
  | .sccC p cd cs1 cs2 => some ⟨p, 0x0D, cd.toNat, cs1.toNat, cs2.toNat, 0x13, none⟩
  | .cmove p cd cs1 => some ⟨p, 0x0E, cd.toNat, cs1.toNat, 0, 0x00, none⟩
  | .csetaddr p cd cs1 cs2 => some ⟨p, 0x0E, cd.toNat, cs1.toNat, cs2.toNat, 0x01, none⟩
  | .cincaddr p cd cs1 cs2 => some ⟨p, 0x0E, cd.toNat, cs1.toNat, cs2.toNat, 0x02, none⟩
  | .csetbounds p cd cs1 cs2 => some ⟨p, 0x0E, cd.toNat, cs1.toNat, cs2.toNat, 0x03, none⟩
  | .csetboundsx p cd cs1 cs2 => some ⟨p, 0x0E, cd.toNat, cs1.toNat, cs2.toNat, 0x04, none⟩
  | .candperm p cd cs1 cs2 => some ⟨p, 0x0E, cd.toNat, cs1.toNat, cs2.toNat, 0x05, none⟩
  | .ccleartag p cd cs1 => some ⟨p, 0x0E, cd.toNat, cs1.toNat, 0, 0x06, none⟩
  | .cseal p cd cs1 cs2 => some ⟨p, 0x0E, cd.toNat, cs1.toNat, cs2.toNat, 0x07, none⟩
  | .cunseal p cd cs1 cs2 => some ⟨p, 0x0E, cd.toNat, cs1.toNat, cs2.toNat, 0x08, none⟩
  | .csealentry p cd cs1 => some ⟨p, 0x0E, cd.toNat, cs1.toNat, 0, 0x09, none⟩
  | .cgettag p cd cs1 => some ⟨p, 0x0E, cd.toNat, cs1.toNat, 0, 0x0A, none⟩
  | .cgetperm p cd cs1 => some ⟨p, 0x0E, cd.toNat, cs1.toNat, 0, 0x0B, none⟩
  | .cgettype p cd cs1 => some ⟨p, 0x0E, cd.toNat, cs1.toNat, 0, 0x0C, none⟩
  | .cgetaddr p cd cs1 => some ⟨p, 0x0E, cd.toNat, cs1.toNat, 0, 0x0D, none⟩
  | .cgetbase p cd cs1 => some ⟨p, 0x0E, cd.toNat, cs1.toNat, 0, 0x0E, none⟩
  | .cgettop p cd cs1 => some ⟨p, 0x0E, cd.toNat, cs1.toNat, 0, 0x0F, none⟩
  | .cgetlen p cd cs1 => some ⟨p, 0x0E, cd.toNat, cs1.toNat, 0, 0x10, none⟩
  | .crrl p cd cs1 => some ⟨p, 0x0E, cd.toNat, cs1.toNat, 0, 0x11, none⟩
  | .cram p cd cs1 => some ⟨p, 0x0E, cd.toNat, cs1.toNat, 0, 0x12, none⟩
  | .stm p cs1 cs2 => some ⟨p, 0x0E, 0, cs1.toNat, cs2.toNat, 0x20, none⟩
  | .ldm p cs1 cs2 => some ⟨p, 0x0E, 0, cs1.toNat, cs2.toNat, 0x21, none⟩
  | .svctxU p cd cs1 => some ⟨p, 0x0E, cd.toNat, cs1.toNat, 0, 0x22, none⟩
  | .svctxL p cd cs1 => some ⟨p, 0x0E, cd.toNat, cs1.toNat, 0, 0x23, none⟩
  | .ldctxU p cd => some ⟨p, 0x0E, cd.toNat, 0, 0, 0x24, none⟩
  | .ldctxL p cd => some ⟨p, 0x0E, cd.toNat, 0, 0, 0x25, none⟩
  | .japp p cd cs1 cs2 => some ⟨p, 0x0E, cd.toNat, cs1.toNat, cs2.toNat, 0x28, none⟩
  | .jseal p cd cs1 => some ⟨p, 0x0E, cd.toNat, cs1.toNat, 0, 0x29, none⟩
  | .draw p cd cs1 cs2 => some ⟨p, 0x0E, cd.toNat, cs1.toNat, cs2.toNat, 0x2A, none⟩
  | .eclipse p cd cs1 => some ⟨p, 0x0E, cd.toNat, cs1.toNat, 0, 0x2C, none⟩
  | .eclipseR p cd cs1 cs2 => some ⟨p, 0x0E, cd.toNat, cs1.toNat, cs2.toNat, 0x2D, none⟩
  | .msync p => some ⟨p, 0x0E, 0, 0, 0, 0x30, none⟩
  | .iflush p => some ⟨p, 0x0E, 0, 0, 0, 0x31, none⟩
  | .tlbinvVa p cs1 cs2 => some ⟨p, 0x0E, 0, cs1.toNat, cs2.toNat, 0x32, none⟩
  | .tlbinvAsid p cs2 => some ⟨p, 0x0E, 0, 0, cs2.toNat, 0x33, none⟩
  | .tlbinvAll p => some ⟨p, 0x0E, 0, 0, 0, 0x34, none⟩
  | .walkinvVa p cs1 cs2 => some ⟨p, 0x0E, 0, cs1.toNat, cs2.toNat, 0x35, none⟩
  | .walkinvAll p => some ⟨p, 0x0E, 0, 0, 0, 0x36, none⟩
  | .add p cd cs1 cs2 => some ⟨p, 0x10, cd.toNat, cs1.toNat, cs2.toNat, 0x00, none⟩
  | .sub p cd cs1 cs2 => some ⟨p, 0x10, cd.toNat, cs1.toNat, cs2.toNat, 0x01, none⟩
  | .addv p cd cs1 cs2 => some ⟨p, 0x10, cd.toNat, cs1.toNat, cs2.toNat, 0x02, none⟩
  | .subv p cd cs1 cs2 => some ⟨p, 0x10, cd.toNat, cs1.toNat, cs2.toNat, 0x03, none⟩
  | .adds p cd cs1 cs2 => some ⟨p, 0x10, cd.toNat, cs1.toNat, cs2.toNat, 0x04, none⟩
  | .subs p cd cs1 cs2 => some ⟨p, 0x10, cd.toNat, cs1.toNat, cs2.toNat, 0x05, none⟩
  | .neg p cd cs1 => some ⟨p, 0x10, cd.toNat, cs1.toNat, 0, 0x06, none⟩
  | .negs p cd cs1 => some ⟨p, 0x10, cd.toNat, cs1.toNat, 0, 0x07, none⟩
  | .and p cd cs1 cs2 => some ⟨p, 0x10, cd.toNat, cs1.toNat, cs2.toNat, 0x08, none⟩
  | .or p cd cs1 cs2 => some ⟨p, 0x10, cd.toNat, cs1.toNat, cs2.toNat, 0x09, none⟩
  | .xor p cd cs1 cs2 => some ⟨p, 0x10, cd.toNat, cs1.toNat, cs2.toNat, 0x0A, none⟩
  | .andn p cd cs1 cs2 => some ⟨p, 0x10, cd.toNat, cs1.toNat, cs2.toNat, 0x0B, none⟩
  | .orn p cd cs1 cs2 => some ⟨p, 0x10, cd.toNat, cs1.toNat, cs2.toNat, 0x0C, none⟩
  | .min p cd cs1 cs2 => some ⟨p, 0x10, cd.toNat, cs1.toNat, cs2.toNat, 0x0D, none⟩
  | .max p cd cs1 cs2 => some ⟨p, 0x10, cd.toNat, cs1.toNat, cs2.toNat, 0x0E, none⟩
  | .minu p cd cs1 cs2 => some ⟨p, 0x10, cd.toNat, cs1.toNat, cs2.toNat, 0x0F, none⟩
  | .maxu p cd cs1 cs2 => some ⟨p, 0x10, cd.toNat, cs1.toNat, cs2.toNat, 0x10, none⟩
  | .slt p cd cs1 cs2 => some ⟨p, 0x10, cd.toNat, cs1.toNat, cs2.toNat, 0x11, none⟩
  | .sltu p cd cs1 cs2 => some ⟨p, 0x10, cd.toNat, cs1.toNat, cs2.toNat, 0x12, none⟩
  | .clz p cd cs1 => some ⟨p, 0x10, cd.toNat, cs1.toNat, 0, 0x13, none⟩
  | .ctz p cd cs1 => some ⟨p, 0x10, cd.toNat, cs1.toNat, 0, 0x14, none⟩
  | .popc p cd cs1 => some ⟨p, 0x10, cd.toNat, cs1.toNat, 0, 0x15, none⟩
  | .sextb p cd cs1 => some ⟨p, 0x10, cd.toNat, cs1.toNat, 0, 0x16, none⟩
  | .sexth p cd cs1 => some ⟨p, 0x10, cd.toNat, cs1.toNat, 0, 0x17, none⟩
  | .sextw p cd cs1 => some ⟨p, 0x10, cd.toNat, cs1.toNat, 0, 0x18, none⟩
  | .zextw p cd cs1 => some ⟨p, 0x10, cd.toNat, cs1.toNat, 0, 0x19, none⟩
  | .pand p cd cs1 cs2 => some ⟨p, 0x10, cd.toNat, cs1.toNat, cs2.toNat, 0x38, none⟩
  | .por p cd cs1 cs2 => some ⟨p, 0x10, cd.toNat, cs1.toNat, cs2.toNat, 0x39, none⟩
  | .pxor p cd cs1 cs2 => some ⟨p, 0x10, cd.toNat, cs1.toNat, cs2.toNat, 0x3A, none⟩
  | .pandn p cd cs1 cs2 => some ⟨p, 0x10, cd.toNat, cs1.toNat, cs2.toNat, 0x3B, none⟩
  | .pget p cd => some ⟨p, 0x10, cd.toNat, 0, 0, 0x3C, none⟩
  | .pput p cs1 => some ⟨p, 0x10, 0, cs1.toNat, 0, 0x3D, none⟩
  | .sll p cd cs1 cs2 => some ⟨p, 0x11, cd.toNat, cs1.toNat, cs2.toNat, 0x00, none⟩
  | .srl p cd cs1 cs2 => some ⟨p, 0x11, cd.toNat, cs1.toNat, cs2.toNat, 0x01, none⟩
  | .sra p cd cs1 cs2 => some ⟨p, 0x11, cd.toNat, cs1.toNat, cs2.toNat, 0x02, none⟩
  | .mul p cd cs1 cs2 => some ⟨p, 0x11, cd.toNat, cs1.toNat, cs2.toNat, 0x04, none⟩
  | .mulv p cd cs1 cs2 => some ⟨p, 0x11, cd.toNat, cs1.toNat, cs2.toNat, 0x05, none⟩
  | .muls p cd cs1 cs2 => some ⟨p, 0x11, cd.toNat, cs1.toNat, cs2.toNat, 0x06, none⟩
  | .mulh p cd cs1 cs2 => some ⟨p, 0x11, cd.toNat, cs1.toNat, cs2.toNat, 0x07, none⟩
  | .mulhu p cd cs1 cs2 => some ⟨p, 0x11, cd.toNat, cs1.toNat, cs2.toNat, 0x08, none⟩
  | .div p cd cs1 cs2 => some ⟨p, 0x11, cd.toNat, cs1.toNat, cs2.toNat, 0x0C, none⟩
  | .divu p cd cs1 cs2 => some ⟨p, 0x11, cd.toNat, cs1.toNat, cs2.toNat, 0x0D, none⟩
  | .rem p cd cs1 cs2 => some ⟨p, 0x11, cd.toNat, cs1.toNat, cs2.toNat, 0x0E, none⟩
  | .remu p cd cs1 cs2 => some ⟨p, 0x11, cd.toNat, cs1.toNat, cs2.toNat, 0x0F, none⟩
  | .divs p cd cs1 cs2 => some ⟨p, 0x11, cd.toNat, cs1.toNat, cs2.toNat, 0x10, none⟩
  | .cjr p cs1 => some ⟨p, 0x19, 0, cs1.toNat, 0, 0x00, none⟩
  | .cjalr p cd cs1 => some ⟨p, 0x19, cd.toNat, cs1.toNat, 0, 0x01, none⟩
  | .callmR p cd => some ⟨p, 0x19, cd.toNat, 0, 0, 0x02, none⟩
  | .invoke p cs1 => some ⟨p, 0x1C, 0, cs1.toNat, 0, 0x00, none⟩
  | .retg p cs1 => some ⟨p, 0x1C, 0, cs1.toNat, 0, 0x01, none⟩
  | .rete p => some ⟨p, 0x1C, 0, 0, 0, 0x02, none⟩
  | .repi p cs1 => some ⟨p, 0x1E, 0, cs1.toNat, 0, 0x00, none⟩
  | .repu p cs1 => some ⟨p, 0x1E, 0, cs1.toNat, 0, 0x01, none⟩
  | .wadd p cd cs1 cs2 => some ⟨p, 0x28, cd.toNat, cs1.toNat, cs2.toNat, 0x00, none⟩
  | .wsub p cd cs1 cs2 => some ⟨p, 0x28, cd.toNat, cs1.toNat, cs2.toNat, 0x01, none⟩
  | .waddv p cd cs1 cs2 => some ⟨p, 0x28, cd.toNat, cs1.toNat, cs2.toNat, 0x02, none⟩
  | .wsubv p cd cs1 cs2 => some ⟨p, 0x28, cd.toNat, cs1.toNat, cs2.toNat, 0x03, none⟩
  | .wadds p cd cs1 cs2 => some ⟨p, 0x28, cd.toNat, cs1.toNat, cs2.toNat, 0x04, none⟩
  | .wsubs p cd cs1 cs2 => some ⟨p, 0x28, cd.toNat, cs1.toNat, cs2.toNat, 0x05, none⟩
  | .wneg p cd cs1 => some ⟨p, 0x28, cd.toNat, cs1.toNat, 0, 0x06, none⟩
  | .wnegs p cd cs1 => some ⟨p, 0x28, cd.toNat, cs1.toNat, 0, 0x07, none⟩
  | .wand p cd cs1 cs2 => some ⟨p, 0x28, cd.toNat, cs1.toNat, cs2.toNat, 0x08, none⟩
  | .wor p cd cs1 cs2 => some ⟨p, 0x28, cd.toNat, cs1.toNat, cs2.toNat, 0x09, none⟩
  | .wxor p cd cs1 cs2 => some ⟨p, 0x28, cd.toNat, cs1.toNat, cs2.toNat, 0x0A, none⟩
  | .wsll p cd cs1 cs2 => some ⟨p, 0x28, cd.toNat, cs1.toNat, cs2.toNat, 0x0B, none⟩
  | .wsrl p cd cs1 cs2 => some ⟨p, 0x28, cd.toNat, cs1.toNat, cs2.toNat, 0x0C, none⟩
  | .wsra p cd cs1 cs2 => some ⟨p, 0x28, cd.toNat, cs1.toNat, cs2.toNat, 0x0D, none⟩
  | .wmul p cd cs1 cs2 => some ⟨p, 0x28, cd.toNat, cs1.toNat, cs2.toNat, 0x0E, none⟩
  | .wmulv p cd cs1 cs2 => some ⟨p, 0x28, cd.toNat, cs1.toNat, cs2.toNat, 0x0F, none⟩
  | .wmuls p cd cs1 cs2 => some ⟨p, 0x28, cd.toNat, cs1.toNat, cs2.toNat, 0x10, none⟩
  | .wmulx p cd cs1 cs2 => some ⟨p, 0x28, cd.toNat, cs1.toNat, cs2.toNat, 0x11, none⟩
  | .wmulxu p cd cs1 cs2 => some ⟨p, 0x28, cd.toNat, cs1.toNat, cs2.toNat, 0x12, none⟩
  | .wdiv p cd cs1 cs2 => some ⟨p, 0x28, cd.toNat, cs1.toNat, cs2.toNat, 0x13, none⟩
  | .wrem p cd cs1 cs2 => some ⟨p, 0x28, cd.toNat, cs1.toNat, cs2.toNat, 0x14, none⟩
  | .wdivs p cd cs1 cs2 => some ⟨p, 0x28, cd.toNat, cs1.toNat, cs2.toNat, 0x15, none⟩
  | .wsext p cd cs1 => some ⟨p, 0x28, cd.toNat, cs1.toNat, 0, 0x16, none⟩
  | .wzext p cd cs1 => some ⟨p, 0x28, cd.toNat, cs1.toNat, 0, 0x17, none⟩
  | .wpack p cd cs1 cs2 => some ⟨p, 0x28, cd.toNat, cs1.toNat, cs2.toNat, 0x18, none⟩
  | .whi p cd cs1 => some ⟨p, 0x28, cd.toNat, cs1.toNat, 0, 0x19, none⟩
  | .aclr p cd => some ⟨p, 0x30, cd.toNat, 0, 0, 0x00, none⟩
  | .amova p cd cs1 => some ⟨p, 0x30, cd.toNat, cs1.toNat, 0, 0x01, none⟩
  | .asetw p cd cs1 => some ⟨p, 0x30, cd.toNat, cs1.toNat, 0, 0x02, none⟩
  | .asetx p cd cs1 => some ⟨p, 0x30, cd.toNat, cs1.toNat, 0, 0x03, none⟩
  | .asetm p cd cs1 => some ⟨p, 0x30, cd.toNat, cs1.toNat, 0, 0x04, none⟩
  | .agetg p cd cs1 => some ⟨p, 0x30, cd.toNat, cs1.toNat, 0, 0x05, none⟩
  | .aneg p cd => some ⟨p, 0x30, cd.toNat, 0, 0, 0x06, none⟩
  | .agetr p cd cs1 => some ⟨p, 0x30, cd.toNat, cs1.toNat, 0, 0x07, none⟩
  | .asetg p cd cs1 => some ⟨p, 0x30, cd.toNat, cs1.toNat, 0, 0x08, none⟩
  | .qmul p cd cs1 cs2 => some ⟨p, 0x31, cd.toNat, cs1.toNat, cs2.toNat, 0x00, none⟩
  | .qmac p cd cs1 cs2 => some ⟨p, 0x31, cd.toNat, cs1.toNat, cs2.toNat, 0x01, none⟩
  | .qmsu p cd cs1 cs2 => some ⟨p, 0x31, cd.toNat, cs1.toNat, cs2.toNat, 0x02, none⟩
  | .mmul p cd cs1 cs2 => some ⟨p, 0x31, cd.toNat, cs1.toNat, cs2.toNat, 0x03, none⟩
  | .mmac p cd cs1 cs2 => some ⟨p, 0x31, cd.toNat, cs1.toNat, cs2.toNat, 0x04, none⟩
  | .mmsu p cd cs1 cs2 => some ⟨p, 0x31, cd.toNat, cs1.toNat, cs2.toNat, 0x05, none⟩
  | .aaddw p cd cs1 => some ⟨p, 0x31, cd.toNat, cs1.toNat, 0, 0x06, none⟩
  | .asubw p cd cs1 => some ⟨p, 0x31, cd.toNat, cs1.toNat, 0, 0x07, none⟩
  | .aaddq p cd cs1 => some ⟨p, 0x31, cd.toNat, cs1.toNat, 0, 0x08, none⟩
  | .asubq p cd cs1 => some ⟨p, 0x31, cd.toNat, cs1.toNat, 0, 0x09, none⟩
  | .aadda p cd cs1 => some ⟨p, 0x31, cd.toNat, cs1.toNat, 0, 0x0A, none⟩
  | .arndq p cd cs1 => some ⟨p, 0x32, cd.toNat, cs1.toNat, 0, 0x00, none⟩
  | .arndw p cd cs1 => some ⟨p, 0x32, cd.toNat, cs1.toNat, 0, 0x01, none⟩
  | .ashrq p cd cs1 cs2 => some ⟨p, 0x32, cd.toNat, cs1.toNat, cs2.toNat, 0x02, none⟩
  | .ashrw p cd cs1 cs2 => some ⟨p, 0x32, cd.toNat, cs1.toNat, cs2.toNat, 0x03, none⟩
  | .arndm p cd cs1 => some ⟨p, 0x32, cd.toNat, cs1.toNat, 0, 0x04, none⟩
  | .qadd p cd cs1 cs2 => some ⟨p, 0x33, cd.toNat, cs1.toNat, cs2.toNat, 0x00, none⟩
  | .qsub p cd cs1 cs2 => some ⟨p, 0x33, cd.toNat, cs1.toNat, cs2.toNat, 0x01, none⟩
  | .qmulr p cd cs1 cs2 => some ⟨p, 0x33, cd.toNat, cs1.toNat, cs2.toNat, 0x02, none⟩
  | .qneg p cd cs1 => some ⟨p, 0x33, cd.toNat, cs1.toNat, 0, 0x03, none⟩
  | .wqadd p cd cs1 cs2 => some ⟨p, 0x33, cd.toNat, cs1.toNat, cs2.toNat, 0x04, none⟩
  | .wqsub p cd cs1 cs2 => some ⟨p, 0x33, cd.toNat, cs1.toNat, cs2.toNat, 0x05, none⟩
  | .wqmulr p cd cs1 cs2 => some ⟨p, 0x33, cd.toNat, cs1.toNat, cs2.toNat, 0x06, none⟩
  | .wqneg p cd cs1 => some ⟨p, 0x33, cd.toNat, cs1.toNat, 0, 0x07, none⟩
  | .qtow p cd cs1 => some ⟨p, 0x33, cd.toNat, cs1.toNat, 0, 0x08, none⟩
  | .wtoq p cd cs1 => some ⟨p, 0x33, cd.toNat, cs1.toNat, 0, 0x09, none⟩
  | .qdiv p cd cs1 cs2 => some ⟨p, 0x34, cd.toNat, cs1.toNat, cs2.toNat, 0x00, none⟩
  | .wqdiv p cd cs1 cs2 => some ⟨p, 0x34, cd.toNat, cs1.toNat, cs2.toNat, 0x01, none⟩
  | .mdiv p cd cs1 cs2 => some ⟨p, 0x34, cd.toNat, cs1.toNat, cs2.toNat, 0x02, none⟩
  | .mscale p cd cs1 cs2 => some ⟨p, 0x34, cd.toNat, cs1.toNat, cs2.toNat, 0x03, none⟩
  | .mmulq p cd cs1 => some ⟨p, 0x34, cd.toNat, cs1.toNat, 0, 0x04, none⟩
  | .mrnd p cd cs1 => some ⟨p, 0x35, cd.toNat, cs1.toNat, 0, 0x00, none⟩
  | .mbrk p cd cs1 => some ⟨p, 0x35, cd.toNat, cs1.toNat, 0, 0x01, none⟩
  | .mrndx p cd cs1 => some ⟨p, 0x35, cd.toNat, cs1.toNat, 0, 0x02, none⟩
  | .fsync p => some ⟨p, 0x36, 0, 0, 0, 0x00, none⟩
  | .tclose p cd cs1 cs2 => some ⟨p, 0x39, cd.toNat, cs1.toNat, cs2.toNat, 0x00, none⟩
  | .tread p cd cs1 cs2 => some ⟨p, 0x3A, cd.toNat, cs1.toNat, cs2.toNat, 0x00, none⟩
  | .lb p cd cs1 imm => some ⟨p, 0x00, cd.toNat, cs1.toNat, 0, immLow imm, immHigh imm⟩
  | .lbu p cd cs1 imm => some ⟨p, 0x01, cd.toNat, cs1.toNat, 0, immLow imm, immHigh imm⟩
  | .lh p cd cs1 imm => some ⟨p, 0x02, cd.toNat, cs1.toNat, 0, immLow imm, immHigh imm⟩
  | .lhu p cd cs1 imm => some ⟨p, 0x03, cd.toNat, cs1.toNat, 0, immLow imm, immHigh imm⟩
  | .lw p cd cs1 imm => some ⟨p, 0x04, cd.toNat, cs1.toNat, 0, immLow imm, immHigh imm⟩
  | .lwu p cd cs1 imm => some ⟨p, 0x05, cd.toNat, cs1.toNat, 0, immLow imm, immHigh imm⟩
  | .ld p cd cs1 imm => some ⟨p, 0x06, cd.toNat, cs1.toNat, 0, immLow imm, immHigh imm⟩
  | .clc p cd cs1 imm => some ⟨p, 0x07, cd.toNat, cs1.toNat, 0, immLow imm, immHigh imm⟩
  | .sb p cd cs1 imm => some ⟨p, 0x08, cd.toNat, cs1.toNat, 0, immLow imm, immHigh imm⟩
  | .sh p cd cs1 imm => some ⟨p, 0x09, cd.toNat, cs1.toNat, 0, immLow imm, immHigh imm⟩
  | .sw p cd cs1 imm => some ⟨p, 0x0A, cd.toNat, cs1.toNat, 0, immLow imm, immHigh imm⟩
  | .sd p cd cs1 imm => some ⟨p, 0x0B, cd.toNat, cs1.toNat, 0, immLow imm, immHigh imm⟩
  | .csc p cd cs1 imm => some ⟨p, 0x0C, cd.toNat, cs1.toNat, 0, immLow imm, immHigh imm⟩
  | .cincaddri p cd cs1 imm => some ⟨p, 0x0F, cd.toNat, cs1.toNat, 0, immLow imm, immHigh imm⟩
  | .addi p cd cs1 imm => some ⟨p, 0x12, cd.toNat, cs1.toNat, 0, immLow imm, immHigh imm⟩
  | .andi p cd cs1 imm => some ⟨p, 0x13, cd.toNat, cs1.toNat, 0, immLow imm, immHigh imm⟩
  | .ori p cd cs1 imm => some ⟨p, 0x14, cd.toNat, cs1.toNat, 0, immLow imm, immHigh imm⟩
  | .xori p cd cs1 imm => some ⟨p, 0x15, cd.toNat, cs1.toNat, 0, immLow imm, immHigh imm⟩
  | .br p imm => some ⟨p, 0x18, 0, 0, 0, immLow imm, immHigh imm⟩
  | .callm p cd cs1 cs2 imm => some ⟨p, 0x1B, cd.toNat, cs1.toNat, cs2.toNat, immLow imm, immHigh imm⟩
  | .loop p cs1 imm => some ⟨p, 0x1D, 0, cs1.toNat, 0, immLow imm, immHigh imm⟩
  | .waddi p cd cs1 imm => some ⟨p, 0x2B, cd.toNat, cs1.toNat, 0, immLow imm, immHigh imm⟩
  | .slli p cd cs1 amt => some ⟨p, 0x16, cd.toNat, cs1.toNat, 0, amt.toNat, none⟩
  | .srli p cd cs1 amt => some ⟨p, 0x16, cd.toNat, cs1.toNat, 1, amt.toNat, none⟩
  | .srai p cd cs1 amt => some ⟨p, 0x16, cd.toNat, cs1.toNat, 2, amt.toNat, none⟩
  | .wslli p cd cs1 amt => some ⟨p, 0x2A, cd.toNat, cs1.toNat, amt.toNat / 64 * 4, amt.toNat % 64, none⟩
  | .wsrli p cd cs1 amt => some ⟨p, 0x2A, cd.toNat, cs1.toNat, amt.toNat / 64 * 4 + 1, amt.toNat % 64, none⟩
  | .wsrai p cd cs1 amt => some ⟨p, 0x2A, cd.toNat, cs1.toNat, amt.toNat / 64 * 4 + 2, amt.toNat % 64, none⟩
  | .compare p pd pc cond cs1 cs2 =>
    if pd = pc ∧ pc ≠ 0 then none else some ⟨p, 0x17, pd.toNat, cs1.toNat, cs2.toNat, pc.toNat * 8 + cond.toNat, none⟩
  | .wideCompare p pd pc cond cs1 cs2 =>
    if pd = pc ∧ pc ≠ 0 then none else some ⟨p, 0x29, pd.toNat, cs1.toNat, cs2.toNat, pc.toNat * 8 + cond.toNat, none⟩
  | .mfs p cd sr cs2 =>
    if srAbsent p sr || !(cs2 == 0) then none else some ⟨p, 0x10, cd.toNat, sr.toNat, cs2.toNat, 0x30, none⟩
  | .mts p sr cs1 cs2 =>
    if srAbsent p sr || !(srBwGuard sr || cs2 == 0) then none
    else some ⟨p, 0x10, sr.toNat, cs1.toNat, cs2.toNat, 0x31, none⟩
  | .tadd p cd cs1 cs2 ca => some ⟨p, 0x38, cd.toNat, cs1.toNat, cs2.toNat, ca.toNat, none⟩
  | .customSyllable p n cd cs1 cs2 => some ⟨p, 0x3F, cd.toNat, cs1.toNat, cs2.toNat, n.toNat, none⟩
  | _ => none

/-- A syllable word from its fields, with `S`, `PS` and `PI` (R102). -/
def sylWord (f : SylFields) (last : Bool) (ps : PredIx) (inv : Bool) : Nat :=
  b2n last * 2 ^ 31 + ps.toNat * 2 ^ 28 + b2n inv * 2 ^ 27 + f.maj * 2 ^ 21 + f.cd * 2 ^ 16 + f.cs1 * 2 ^ 11 + f.cs2 * 2 ^ 6
    + f.mn

/-- The word of an X syllable that extends the syllable of a unit by 23 bits (R106). -/
def xWord (tgt : Nat) (v : BitVec 23) (last : Bool) : Nat :=
  b2n last * 2 ^ 31 + v.toNat / 2 ^ 19 * 2 ^ 27 + 0x3C * 2 ^ 21 + tgt * 2 ^ 19 + v.toNat % 2 ^ 19

/-- May a pair's words hold the fields: a sentinel has no T syllables and no custom ones (R132)? -/
def SylFields.legal (f : SylFields) : Bool := !(isSentinel f.pair && decide (0x30 ≤ f.maj))

/-- A syllable encoded: its word, and the extension that its immediate needs. -/
def encodeSyl (i : Instr) (last : Bool) (ps : PredIx) (inv : Bool) : Option (Nat × Option (BitVec 23)) :=
  match fieldsOf i with
  | some f => if f.legal then some (sylWord f last ps inv, f.ext) else none
  | none => none

/-- The pair that a syllable is encoded for. -/
def sylPair (i : Instr) : Nat :=
  match fieldsOf i with
  | some f => f.pair
  | none => 0

/-- The pair that a syllable command names; none for another command. -/
def pairOf (i : Instr) : Option Nat :=
  match i with
  | .lb p _ _ _ => some p
  | .lbu p _ _ _ => some p
  | .lh p _ _ _ => some p
  | .lhu p _ _ _ => some p
  | .lw p _ _ _ => some p
  | .lwu p _ _ _ => some p
  | .ld p _ _ _ => some p
  | .clc p _ _ _ => some p
  | .sb p _ _ _ => some p
  | .sh p _ _ _ => some p
  | .sw p _ _ _ => some p
  | .sd p _ _ _ => some p
  | .csc p _ _ _ => some p
  | .lbx p _ _ _ => some p
  | .lbux p _ _ _ => some p
  | .lhx p _ _ _ => some p
  | .lhux p _ _ _ => some p
  | .lwx p _ _ _ => some p
  | .lwux p _ _ _ => some p
  | .ldx p _ _ _ => some p
  | .clcx p _ _ _ => some p
  | .sbx p _ _ _ => some p
  | .shx p _ _ _ => some p
  | .swx p _ _ _ => some p
  | .sdx p _ _ _ => some p
  | .cscx p _ _ _ => some p
  | .lrcD p _ _ => some p
  | .lrcC p _ _ => some p
  | .sccD p _ _ _ => some p
  | .sccC p _ _ _ => some p
  | .cmove p _ _ => some p
  | .csetaddr p _ _ _ => some p
  | .cincaddr p _ _ _ => some p
  | .cincaddri p _ _ _ => some p
  | .csetbounds p _ _ _ => some p
  | .csetboundsx p _ _ _ => some p
  | .candperm p _ _ _ => some p
  | .ccleartag p _ _ => some p
  | .cseal p _ _ _ => some p
  | .cunseal p _ _ _ => some p
  | .csealentry p _ _ => some p
  | .cgettag p _ _ => some p
  | .cgetperm p _ _ => some p
  | .cgettype p _ _ => some p
  | .cgetaddr p _ _ => some p
  | .cgetbase p _ _ => some p
  | .cgettop p _ _ => some p
  | .cgetlen p _ _ => some p
  | .crrl p _ _ => some p
  | .cram p _ _ => some p
  | .add p _ _ _ => some p
  | .sub p _ _ _ => some p
  | .addv p _ _ _ => some p
  | .subv p _ _ _ => some p
  | .adds p _ _ _ => some p
  | .subs p _ _ _ => some p
  | .neg p _ _ => some p
  | .negs p _ _ => some p
  | .and p _ _ _ => some p
  | .or p _ _ _ => some p
  | .xor p _ _ _ => some p
  | .andn p _ _ _ => some p
  | .orn p _ _ _ => some p
  | .min p _ _ _ => some p
  | .max p _ _ _ => some p
  | .minu p _ _ _ => some p
  | .maxu p _ _ _ => some p
  | .slt p _ _ _ => some p
  | .sltu p _ _ _ => some p
  | .clz p _ _ => some p
  | .ctz p _ _ => some p
  | .popc p _ _ => some p
  | .sextb p _ _ => some p
  | .sexth p _ _ => some p
  | .sextw p _ _ => some p
  | .zextw p _ _ => some p
  | .mfs p _ _ _ => some p
  | .mts p _ _ _ => some p
  | .pand p _ _ _ => some p
  | .por p _ _ _ => some p
  | .pxor p _ _ _ => some p
  | .pandn p _ _ _ => some p
  | .pget p _ => some p
  | .pput p _ => some p
  | .sll p _ _ _ => some p
  | .srl p _ _ _ => some p
  | .sra p _ _ _ => some p
  | .mul p _ _ _ => some p
  | .mulv p _ _ _ => some p
  | .muls p _ _ _ => some p
  | .mulh p _ _ _ => some p
  | .mulhu p _ _ _ => some p
  | .div p _ _ _ => some p
  | .divu p _ _ _ => some p
  | .rem p _ _ _ => some p
  | .remu p _ _ _ => some p
  | .divs p _ _ _ => some p
  | .addi p _ _ _ => some p
  | .andi p _ _ _ => some p
  | .ori p _ _ _ => some p
  | .xori p _ _ _ => some p
  | .slli p _ _ _ => some p
  | .srli p _ _ _ => some p
  | .srai p _ _ _ => some p
  | .compare p _ _ _ _ _ => some p
  | .wadd p _ _ _ => some p
  | .wsub p _ _ _ => some p
  | .waddv p _ _ _ => some p
  | .wsubv p _ _ _ => some p
  | .wadds p _ _ _ => some p
  | .wsubs p _ _ _ => some p
  | .wneg p _ _ => some p
  | .wnegs p _ _ => some p
  | .wand p _ _ _ => some p
  | .wor p _ _ _ => some p
  | .wxor p _ _ _ => some p
  | .wsll p _ _ _ => some p
  | .wsrl p _ _ _ => some p
  | .wsra p _ _ _ => some p
  | .wmul p _ _ _ => some p
  | .wmulv p _ _ _ => some p
  | .wmuls p _ _ _ => some p
  | .wmulx p _ _ _ => some p
  | .wmulxu p _ _ _ => some p
  | .wdiv p _ _ _ => some p
  | .wrem p _ _ _ => some p
  | .wdivs p _ _ _ => some p
  | .wsext p _ _ => some p
  | .wzext p _ _ => some p
  | .wpack p _ _ _ => some p
  | .whi p _ _ => some p
  | .wslli p _ _ _ => some p
  | .wsrli p _ _ _ => some p
  | .wsrai p _ _ _ => some p
  | .waddi p _ _ _ => some p
  | .wideCompare p _ _ _ _ _ => some p
  | .aclr p _ => some p
  | .amova p _ _ => some p
  | .asetw p _ _ => some p
  | .asetx p _ _ => some p
  | .asetm p _ _ => some p
  | .agetg p _ _ => some p
  | .aneg p _ => some p
  | .agetr p _ _ => some p
  | .asetg p _ _ => some p
  | .qmul p _ _ _ => some p
  | .qmac p _ _ _ => some p
  | .qmsu p _ _ _ => some p
  | .mmul p _ _ _ => some p
  | .mmac p _ _ _ => some p
  | .mmsu p _ _ _ => some p
  | .aaddw p _ _ => some p
  | .asubw p _ _ => some p
  | .aaddq p _ _ => some p
  | .asubq p _ _ => some p
  | .aadda p _ _ => some p
  | .arndq p _ _ => some p
  | .arndw p _ _ => some p
  | .ashrq p _ _ _ => some p
  | .ashrw p _ _ _ => some p
  | .arndm p _ _ => some p
  | .qadd p _ _ _ => some p
  | .qsub p _ _ _ => some p
  | .qmulr p _ _ _ => some p
  | .qneg p _ _ => some p
  | .wqadd p _ _ _ => some p
  | .wqsub p _ _ _ => some p
  | .wqmulr p _ _ _ => some p
  | .wqneg p _ _ => some p
  | .qtow p _ _ => some p
  | .wtoq p _ _ => some p
  | .qdiv p _ _ _ => some p
  | .wqdiv p _ _ _ => some p
  | .mdiv p _ _ _ => some p
  | .mscale p _ _ _ => some p
  | .mmulq p _ _ => some p
  | .mrnd p _ _ => some p
  | .mbrk p _ _ => some p
  | .mrndx p _ _ => some p
  | .fsync p => some p
  | .tadd p _ _ _ _ => some p
  | .tclose p _ _ _ => some p
  | .tread p _ _ _ => some p
  | .stm p _ _ => some p
  | .ldm p _ _ => some p
  | .svctxU p _ _ => some p
  | .svctxL p _ _ => some p
  | .ldctxU p _ => some p
  | .ldctxL p _ => some p
  | .br p _ => some p
  | .cjr p _ => some p
  | .cjalr p _ _ => some p
  | .callm p _ _ _ _ => some p
  | .callmR p _ => some p
  | .invoke p _ => some p
  | .retg p _ => some p
  | .rete p => some p
  | .loop p _ _ => some p
  | .repi p _ => some p
  | .repu p _ => some p
  | .japp p _ _ _ => some p
  | .jseal p _ _ => some p
  | .draw p _ _ _ => some p
  | .eclipse p _ _ => some p
  | .eclipseR p _ _ _ => some p
  | .msync p => some p
  | .iflush p => some p
  | .tlbinvVa p _ _ => some p
  | .tlbinvAsid p _ => some p
  | .tlbinvAll p => some p
  | .walkinvVa p _ _ => some p
  | .walkinvAll p => some p
  | .customSyllable p _ _ _ _ => some p
  | _ => none

end Sys2Proof.Machine
end

