-- ==== Sys2Proof/Safety.lean ====
section
/-!
DEFINITION. The terms that claims use: what completes, when a syllable issues, what a command's end leaves alone, an access to
plain memory, what stays the same, the canonical forms of the memory.
-/
namespace Sys2Proof
open Machine

/-- A command completes in a state. -/
def Completes (i : Instr) (s : State) : Prop := ∃ t, exec i s = .next t

/-- A run of steps that all answer next states leads from one state to another. -/
inductive Reaches : State → State → Prop
  | refl (s : State) : Reaches s s
  | step {s t u : State} (h : Machine.step s = .next t) (r : Reaches t u) : Reaches s u

/-! ## Syllables -/

/-- The syllable i, issued alone, executes from bank b of pair p: the pair runs that bank and is not halted, stopped or held
(R113, R264, R368, R471); no pass, no enabled event and no ARITH of a resumption comes first at the boundary (R192, R228); it
waits for no tally status (R206); and a sentinel, which has no T unit, is given no T syllable (R132). -/
def Issues (i : Instr) (p b : Nat) (s : State) : Prop :=
  p < 104 ∧ ({ s with out := [] } : State).execBank p = some b ∧ s.apendDue p b = false ∧
    ∃ n, infoOf i = some n ∧ s.sylWaits p b n = false ∧ (isSentinel p = true → n.unit ≠ 3)

/-- The state in which an issued syllable acts: what the last command sent out is gone, and the event's delivery is entered
(R257). -/
def issued (s : State) (p b : Nat) : State := ({ s with out := [] } : State).enter p b

/-- The state after an issued syllable that is no load, from the state that its effect leaves: a sentinel's load delay is over
(R133), and so is a debug step (R471). -/
def retired (p : Nat) (u : State) : State := (u.endDelay p).stepped p

/-- The same after a load, whose delay begins (R133). -/
def retiredLoad (p : Nat) (u : State) : State := u.stepped p

/-- The state after a syllable whose result is the integer x in c cd, with flags (R119, R190). -/
def intDone (s : State) (p b : Nat) (cd : RegIx) (x : Word) (f : Flags) : State :=
  retired p (((issued s p b).setX p b cd.toNat x).addFlags p b f)

/-- The state after a syllable whose result is the wide value x in c cd, with flags (R120, R190). -/
def wideDone (s : State) (p b : Nat) (cd : RegIx) (x : Wide) (f : Flags) : State :=
  retired p (((issued s p b).setW p b cd.toNat x).addFlags p b f)

/-- The state after a syllable whose result is the value v in c cd (R144). -/
def capDone (s : State) (p b : Nat) (cd : RegIx) (v : Cap) : State := retired p ((issued s p b).setReg p b cd.toNat v)

/-- The state after a syllable that changes its bank by f. -/
def bankDone (s : State) (p b : Nat) (f : Bank → Bank) : State := retired p ((issued s p b).updBank p b f)

/-- A result that sets OV or DZ with PA clear sets STATUS.APEND (R191). -/
def withApend (p b : Nat) (f : Flags) (u : State) : State := if f.ov || f.dz then u.updBank p b (fun k => k.stSet 5 1 1) else u

/-- The state after a fixed-point syllable whose result is the integer x in c cd, with flags (R183, R190, R191). -/
def fixDoneX (s : State) (p b : Nat) (cd : RegIx) (x : Word) (f : Flags) : State :=
  retired p (withApend p b f (((issued s p b).addFlags p b f).setX p b cd.toNat x))

/-- The same with a wide result. -/
def fixDoneW (s : State) (p b : Nat) (cd : RegIx) (x : Wide) (f : Flags) : State :=
  retired p (withApend p b f (((issued s p b).addFlags p b f).setW p b cd.toNat x))

/-- The same with a result in an accumulator. -/
def accDone (s : State) (p b : Nat) (ad : AccIx) (x : AccWord) (f : Flags) : State :=
  retired p (withApend p b f (((issued s p b).addFlags p b f).updPair p (fun v => v.setAcc ad.toNat x)))

/-- The rounding of R178: the exact value n / d rounds, with quantum q under mode m, to r; inx and bkr are the flags. -/
def RoundedTo (n : Int) (d q m : Nat) (r : Int) (inx bkr : Bool) : Prop :=
  ∃ k f : Int, n = k * (d * q) + f ∧ 0 ≤ f ∧ f < d * q ∧
    (f = 0 → r = k * q ∧ inx = false ∧ bkr = false) ∧
    (f ≠ 0 → inx = true ∧ bkr = decide (m = 5) ∧
      (m = 0 → r = (if 2 * f < d * q ∨ (2 * f = d * q ∧ k % 2 = 0) then k else k + 1) * q) ∧
      (m = 1 → r = (if 2 * f < d * q ∨ (2 * f = d * q ∧ n < 0) then k else k + 1) * q) ∧
      (m = 2 ∨ m = 5 → r = (if 0 ≤ n then k else k + 1) * q) ∧ (m = 3 → r = k * q) ∧ (m = 4 → r = (k + 1) * q))

/-- The range stage of R179: r fits w bits as v, with OV and SATF. -/
def FitsAs {w : Nat} (r : Int) (q : Nat) (sat : Bool) (v : BitVec w) (ov satf : Bool) : Prop :=
  (-2 ^ (w - 1) ≤ r ∧ r ≤ 2 ^ (w - 1) - 1 → v = BitVec.ofInt w r ∧ ov = false ∧ satf = false) ∧
    (¬ (-2 ^ (w - 1) ≤ r ∧ r ≤ 2 ^ (w - 1) - 1) → sat = true →
      v.toInt = (if 2 ^ (w - 1) - 1 < r then (2 ^ (w - 1) - 1) / (q : Int) * q else -(2 ^ (w - 1) / (q : Int) * q)) ∧
        ov = false ∧ satf = true) ∧
    (¬ (-2 ^ (w - 1) ≤ r ∧ r ≤ 2 ^ (w - 1) - 1) → sat = false → v = BitVec.ofInt w r ∧ ov = true ∧ satf = false)

/-- The syllables whose effect is on registers, predicates and flags of their bank alone (R139-R144). -/
def registerOnly (i : Instr) : Bool :=
  match infoOf i with
  | some n => decide (n.unit ≠ 3) && n.imm.isNone && !n.load && !n.sync && !n.solitary && !n.control
      && (match fieldsOf i with
          | some f => f.maj == 0x10 && !(f.mn == 0x30 || f.mn == 0x31) || f.maj == 0x11 || f.maj == 0x16 || f.maj == 0x17
              || f.maj == 0x28 || f.maj == 0x29 || f.maj == 0x2A || (f.maj == 0x0E && decide (f.mn < 0x20))
          | none => false)
  | none => false

/-! ## The end of a command -/

/-- Nothing outlasts a command: no accepted security command waits for its receipt (R454), boot is not at the stage that ends by
itself (R441), and no takeover after a partner's detach is due (R510). -/
def Quiet (s : State) : Prop := s.sec.pend = none ∧ s.stage ≠ 4 ∧ s.detachDue = false

/-- The effect of a command, which took s to u, leaves nothing for the command's end to do: nothing sent, nothing that outlasts
it, and HB_STATUS as before (R502). -/
def AtRest (s u : State) : Prop := u.out = [] ∧ Quiet u ∧ u.hbStatus = s.hbStatus

/-! ## Accesses to plain memory -/

/-- An access of n bytes at ea through a, from bank b of pair p, that the capability permits (R51) and that meets nothing but
DRAM: bare mode (R309), inside one line, no region checks (R331), no combining entry (R217), no error in memory (R339). -/
def PlainAccess (s : State) (p b : Nat) (a : Cap) (ea n : Nat) (need : List Nat) : Prop :=
  checkAccess a ea n need = none ∧ 0 < n ∧ ea % 64 + n ≤ 64 ∧ ea + n ≤ 2 ^ 41 ∧ (isSentinel p = true → 0x80000 ≤ ea) ∧
    (s.bank p b).ttbc.toNat % 2 = 0 ∧ s.rcuOn = false ∧ s.tally.chans = [] ∧ s.latent = []

/-- The cell operand of a tally syllable, from bank b of pair p: permitted (R208), aligned, in DRAM in bare mode, no region
checks. -/
def PlainCell (s : State) (p b : Nat) (a : Cap) (need : List Nat) : Prop :=
  checkAccess a a.addr 64 need = none ∧ a.addr % 64 = 0 ∧ a.addr + 64 ≤ 2 ^ 41 ∧ (isSentinel p = true → 0x80000 ≤ a.addr) ∧
    (s.bank p b).ttbc.toNat % 2 = 0 ∧ s.rcuOn = false

/-- Every byte of DRAM outside [ea, ea + n) reads the same in two states. -/
def SameBytesOutside (s t : State) (ea n : Nat) : Prop :=
  ∀ a, (a < ea ∨ ea + n ≤ a) → t.byteAt .dram a = s.byteAt .dram a

/-- Every tag of DRAM outside the granules that [ea, ea + n) touches reads the same in two states. -/
def SameTagsOutside (s t : State) (ea n : Nat) : Prop :=
  ∀ a, (a / 16 < ea / 16 ∨ (ea + n - 1) / 16 < a / 16) → t.tagAt .dram a = s.tagAt .dram a

/-- Memory and what is stored with it are the same in two states: DRAM, tags, poison, the bitmap, the TCMs, the journal
array, the boot store. -/
def SameMaps (s t : State) : Prop :=
  t.mem = s.mem ∧ t.tags = s.tags ∧ t.poison = s.poison ∧ t.latent = s.latent ∧ t.bitmap = s.bitmap ∧ t.tcm = s.tcm ∧
    t.tcmTags = s.tcmTags ∧ t.jarr = s.jarr ∧ t.boot = s.boot

/-- Memory is the same in two states, and so are the old words that fetches of stored code may still return (R134, R289). -/
def SameMemory (s t : State) : Prop := SameMaps s t ∧ t.stale = s.stale

/-- Device registers and the units other than the dispatch unit are the same in two states. -/
def SameUnits (s t : State) : Prop :=
  t.dev = s.dev ∧ t.tally = s.tally ∧ t.sweep = s.sweep ∧ t.arbs = s.arbs ∧ t.notices = s.notices ∧ t.rxFree = s.rxFree ∧
    t.jrn = s.jrn ∧ t.draw = s.draw ∧ t.keys = s.keys ∧ t.bootSt = s.bootSt ∧ t.net = s.net ∧ t.cwl = s.cwl ∧
    t.pwr = s.pwr ∧ t.clk = s.clk ∧ t.time = s.time ∧ t.free = s.free ∧ t.locked = s.locked

/-- The registers of every pair but what a store takes from others, their reservations (R152): banks, accumulators, modes. -/
def SameRegisters (s t : State) : Prop :=
  ∀ q, (t.pair q).banks = (s.pair q).banks ∧ (t.pair q).accs = (s.pair q).accs ∧ (t.pair q).ctxcfg = (s.pair q).ctxcfg ∧
    (t.pair q).bankw = (s.pair q).bankw ∧ (t.pair q).escc = (s.pair q).escc ∧ (t.pair q).essc = (s.pair q).essc ∧
    (t.pair q).det = (s.pair q).det ∧ (t.pair q).run = (s.pair q).run

/-- Every register of every pair but c cd of bank b of pair p is the same in two states, and that one holds v (c0 stays null):
the registers, predicates, special registers and accumulators. -/
def OnlyRegister (s t : State) (p b : Nat) (cd : RegIx) (v : Cap) : Prop :=
  (t.bank p b).reg cd.toNat = (if cd = 0 then nullCap else v) ∧ (∀ n, n ≠ cd.toNat → (t.bank p b).reg n = (s.bank p b).reg n) ∧
    { t.bank p b with regs := [] } = { s.bank p b with regs := [] } ∧ (∀ e, e ≠ b → t.bank p e = s.bank p e) ∧
    (t.pair p).accs = (s.pair p).accs ∧ (t.pair p).ctxcfg = (s.pair p).ctxcfg ∧ (t.pair p).bankw = (s.pair p).bankw ∧
    (t.pair p).escc = (s.pair p).escc ∧ (t.pair p).essc = (s.pair p).essc ∧ (t.pair p).det = (s.pair p).det ∧
    (t.pair p).run = (s.pair p).run ∧ (∀ q, q ≠ p → t.pair q = s.pair q)

/-- An access of n bytes at ea through a to plain memory as PlainAccess, but over as many lines as it takes. -/
def PlainSpan (s : State) (p b : Nat) (a : Cap) (ea n : Nat) (need : List Nat) : Prop :=
  checkAccess a ea n need = none ∧ ea + n ≤ 2 ^ 41 ∧ (isSentinel p = true → 0x80000 ≤ ea) ∧ (s.bank p b).ttbc.toNat % 2 = 0 ∧
    s.rcuOn = false ∧ s.tally.chans = [] ∧ s.latent = []

/-- An access of whole granules to plain memory for a syllable of several slots (R156): the slots start at the first (PROG 0),
the window is closed (R272), and no event may come between two slots (R175, log 17). -/
def PlainRange (s : State) (p b : Nat) (a : Cap) (ea n : Nat) (need : List Nat) : Prop :=
  PlainSpan s p b a ea n need ∧ ea % 16 = 0 ∧ (s.bank p b).prog = 0 ∧ (s.pair p).bankw.getLsbD 8 = false ∧
    s.eventMayCome p = false

/-- The word w at `PCC` of bank b of pair p is fetched plainly: permitted (R53), aligned, from DRAM in bare mode (R309), with no
region checks (R331), no combining entry (R217), no error or poison in memory (R339, R340), no old code left (R134, R289). -/
def PlainFetch (s : State) (p b w : Nat) : Prop :=
  checkAccess (s.bank p b).pcc (s.bank p b).pcc.addr 4 [permEX] = none ∧ (s.bank p b).pcc.addr % 4 = 0 ∧
    (s.bank p b).pcc.addr + 4 ≤ 2 ^ 41 ∧ (isSentinel p = true → 0x80000 ≤ (s.bank p b).pcc.addr) ∧
    (s.bank p b).ttbc.toNat % 2 = 0 ∧ s.rcuOn = false ∧ s.tally.chans = [] ∧ s.latent = [] ∧ s.poison = [] ∧ s.stale = [] ∧
    s.numAt .dram (s.bank p b).pcc.addr 4 = w

/-- Bank o of pair p resumes plainly: it runs no task, or its task's region set (R270) lies in plain DRAM and breaks no rule of
R327. -/
def ResumesPlainly (s : State) (p o : Nat) : Prop :=
  (s.bank p o).task = none ∨
    ((s.bank p o).entry.any (fun e => e.ttbc.toNat % 2 == 0 && decide (e.tsb.addr + 0x500 ≤ 2 ^ 41) && e.tsb.addr % 16 == 0
        && (!isSentinel p || decide (0x80000 ≤ e.tsb.addr))
        && !(regionOfBytes (s.bytesAt .dram (e.tsb.addr + 0x400) 256)).any taskDescBad) = true ∧
      s.rcuOn = false ∧ s.tally.chans = [] ∧ s.latent = [] ∧ s.poison = [])

/-- What a pair goes on with when bank b leaves it (R264): nothing, a spilled context, or another bank that resumes plainly. -/
def ResumesNext (s : State) (p b : Nat) : Prop :=
  match (s.bank p b).prior with
  | some (.bank o) => o ≠ b ∧ ResumesPlainly s p o
  | _ => True

/-! ## Canonical forms -/

/-- No bank holds a zero quantum (R178: BKQ is never 0). -/
def QuantumNonzero (s : State) : Prop := ∀ p b, (s.bank p b).bkq ≠ 0

/-- Every map of the memory is in its one canonical form. -/
def MemoryCanonical (s : State) : Prop :=
  Memory.wf s.mem = true ∧ Memory.wf s.tcm = true ∧ Memory.wf s.jarr = true ∧ Memory.wf s.boot = true ∧
    smWf (always false) s.tags = true ∧ smWf (always false) s.tcmTags = true ∧ smWf (always false) s.poison = true ∧
    smWf (always false) s.bitmap = true ∧ smWf (always (none : Option Bool)) s.latent = true

end Sys2Proof
end

