-- ==== Sys2Proof/Certificates/Slice0/Obligations.lean ====
section
/-!
DEFINITION. The statements for the provers.
-/
open Sys2Proof Sys2Proof.Machine

/-- A step runs the front command; on an empty queue one nanosecond passes (the model's choice, log 2) (95_what_each_step_holds.md, 19_power_clocks_hotplug.md, 18_external_interfaces.md). -/
def Obligations.StepRunsFrontCommand : Prop :=
  (∀ (c : Instr) (rest : List Instr) (s : State), step { s with pending := c :: rest } = exec c { s with pending := rest }) ∧
  ((∀ s : State, s.pending = [] → step s = .next s.upset.specWalk.measure.tick) ∧
    (∀ s : State, s.tick = { s with clk := s.clk + 1, time := s.time + (s.net.frac + (1000000 + s.net.rate).toNat) / 1000000, net := { s.net with frac := (s.net.frac + (1000000 + s.net.rate).toNat) % 1000000 }, pwr := { s.pwr with up := s.pwr.up + 1 } }) ∧
    (∀ s : State, { s.upset with latent := s.latent } = s) ∧
    (∀ s : State, (∀ p, p < 96 → (s.pair p).run = none) → s.specWalk = s) ∧
    (∀ s : State, { s.measure with dev := s.dev } = s) ∧ (∀ s : State, s.clk % 100000 ≠ 0 → s.measure = s))

/-- exec answers a next state for every command; one that names an absent unit has no effect (the model's choice, log 1) (95_what_each_step_holds.md). -/
def Obligations.WellFormedCommandsComplete : Prop :=
  ∀ (i : Instr) (s : State),
    (∃ t, exec i s = .next t) ∧ (i.wellFormed = false → exec i s = .next (State.cmd (fun s => s) s))

/-- Reset leaves the warden running the Lantern ROM with the primordial capabilities, and every map of memory canonical and empty (R65, R66, R427, R178, R431, 03_tagged_memory_and_eclipse.md). -/
def Obligations.ResetLeavesWarden : Prop :=
  ((State.reset.pair 96).run = some 0 ∧ (State.reset.bank 96 0).pcc.tag = true ∧
    (State.reset.bank 96 0).pcc.addr = 0xF8000000000 ∧ (State.reset.bank 96 0).pcc.base = 0xF8000000000 ∧
    (State.reset.bank 96 0).pcc.top = 0xF8000040000 ∧ (State.reset.bank 96 0).pcc.perms = 0x400B ∧
    (State.reset.bank 96 0).evm = true ∧
    (∀ e ∈ ([(4, 0xC67F, 0, 2 ^ 64, 0), (5, 0x0181, 0, 0x10000, 0), (6, 0x0803, 0, 2 ^ 64, 0), (7, 0x1001, 0, 2 ^ 32, 0),
        (8, 0x2007, 0xF0000000000, 0xF0100000000, 0xF0000000000)] : List (Nat × Nat × Nat × Nat × Nat)),
      ∃ c, (State.reset.bank 96 0).reg e.1 = c ∧ c.tag = true ∧ c.perms = e.2.1 ∧ c.otype = 0 ∧ c.base = e.2.2.1 ∧
        c.top = e.2.2.2.1 ∧ c.addr = e.2.2.2.2) ∧
    (∀ n, n < 32 → n ∉ [4, 5, 6, 7, 8] → (State.reset.bank 96 0).reg n = nullCap) ∧
    (∀ p, p < 104 → p ≠ 96 → (State.reset.pair p).run = none ∧ ∀ b, b < 16 → (State.reset.pair p).bank b = bankReset) ∧
    State.reset.pending = []) ∧
  (MemoryCanonical State.reset ∧ QuantumNonzero State.reset ∧ (∀ a, State.reset.byteAt .dram a = 0) ∧
    (∀ a, State.reset.tagAt .dram a = false) ∧ State.reset.mem = [] ∧ State.reset.tags = [])

/-- c0 reads null and discards writes; p0 reads 1 and discards writes (R35). -/
def Obligations.HardwiredRegisters : Prop :=
  (∀ (k : Bank) (c : Cap), k.reg 0 = nullCap ∧ k.setReg 0 c = k) ∧
    (∀ (k : Bank) (v : Bool), k.pred 0 = true ∧ k.setPred 0 v = k) ∧
    (∀ i, i < 128 → nullCap.bits.getLsbD i = false) ∧ nullCap.tag = false ∧ nullCap.base = 0 ∧ nullCap.top = 0 ∧
    (∀ (p b : Nat) (s : State), (s.setReg p b 0 nullCap).bank p b = s.bank p b ∧ (s.bank p b).reg 0 = nullCap)

/-- A register of a bank reads what was last written to it (R35, R119). -/
def Obligations.RegisterReadAfterWrite : Prop :=
  ∀ (s : State) (p b n : Nat) (c : Cap),
    ((s.setReg p b n c).bank p b).reg n = (if n = 0 then nullCap else c) ∧
    (∀ m, m ≠ n → ((s.setReg p b n c).bank p b).reg m = (s.bank p b).reg m) ∧
    (∀ e, e ≠ b → (s.setReg p b n c).bank p e = s.bank p e) ∧
    (∀ q, q ≠ p → (s.setReg p b n c).pair q = s.pair q) ∧ SameMemory s (s.setReg p b n c) ∧ SameUnits s (s.setReg p b n c)

/-- Integer add, subtract, logic, compare, shift, multiply and divide write their results (R119, R139, R190, R140). -/
def Obligations.IntegerArithmetic : Prop :=
  (∀ (p b : Nat) (cd cs1 cs2 : RegIx) (s : State) (x y : Word), x = s.srcX p b cs1.toNat → y = s.srcX p b cs2.toNat →
    (Issues (.add p cd cs1 cs2) p b s → exec (.add p cd cs1 cs2) s = .next (intDone s p b cd (x + y) noFlags)) ∧
    (Issues (.sub p cd cs1 cs2) p b s → exec (.sub p cd cs1 cs2) s = .next (intDone s p b cd (x - y) noFlags)) ∧
    (Issues (.addv p cd cs1 cs2) p b s → exec (.addv p cd cs1 cs2) s = .next (intDone s p b cd (x + y) (flagOV (decide (x.toInt + y.toInt < -2 ^ 63 ∨ 2 ^ 63 ≤ x.toInt + y.toInt))))) ∧
    (Issues (.subv p cd cs1 cs2) p b s → exec (.subv p cd cs1 cs2) s = .next (intDone s p b cd (x - y) (flagOV (decide (x.toInt - y.toInt < -2 ^ 63 ∨ 2 ^ 63 ≤ x.toInt - y.toInt))))) ∧
    (Issues (.adds p cd cs1 cs2) p b s → exec (.adds p cd cs1 cs2) s = .next (intDone s p b cd (BitVec.ofInt 64 (max (-2 ^ 63) (min (2 ^ 63 - 1) (x.toInt + y.toInt)))) (flagSATF (decide (x.toInt + y.toInt < -2 ^ 63 ∨ 2 ^ 63 ≤ x.toInt + y.toInt))))) ∧
    (Issues (.subs p cd cs1 cs2) p b s → exec (.subs p cd cs1 cs2) s = .next (intDone s p b cd (BitVec.ofInt 64 (max (-2 ^ 63) (min (2 ^ 63 - 1) (x.toInt - y.toInt)))) (flagSATF (decide (x.toInt - y.toInt < -2 ^ 63 ∨ 2 ^ 63 ≤ x.toInt - y.toInt))))) ∧
    (Issues (.and p cd cs1 cs2) p b s → exec (.and p cd cs1 cs2) s = .next (intDone s p b cd (x &&& y) noFlags)) ∧
    (Issues (.or p cd cs1 cs2) p b s → exec (.or p cd cs1 cs2) s = .next (intDone s p b cd (x ||| y) noFlags)) ∧
    (Issues (.xor p cd cs1 cs2) p b s → exec (.xor p cd cs1 cs2) s = .next (intDone s p b cd (x ^^^ y) noFlags)) ∧
    (Issues (.andn p cd cs1 cs2) p b s → exec (.andn p cd cs1 cs2) s = .next (intDone s p b cd (x &&& ~~~y) noFlags)) ∧
    (Issues (.orn p cd cs1 cs2) p b s → exec (.orn p cd cs1 cs2) s = .next (intDone s p b cd (x ||| ~~~y) noFlags)) ∧
    (Issues (.min p cd cs1 cs2) p b s → exec (.min p cd cs1 cs2) s = .next (intDone s p b cd (if x.slt y then x else y) noFlags)) ∧
    (Issues (.max p cd cs1 cs2) p b s → exec (.max p cd cs1 cs2) s = .next (intDone s p b cd (if x.slt y then y else x) noFlags)) ∧
    (Issues (.minu p cd cs1 cs2) p b s → exec (.minu p cd cs1 cs2) s = .next (intDone s p b cd (if x < y then x else y) noFlags)) ∧
    (Issues (.maxu p cd cs1 cs2) p b s → exec (.maxu p cd cs1 cs2) s = .next (intDone s p b cd (if x < y then y else x) noFlags)) ∧
    (Issues (.slt p cd cs1 cs2) p b s → exec (.slt p cd cs1 cs2) s = .next (intDone s p b cd (if x.slt y then 1 else 0) noFlags)) ∧
    (Issues (.sltu p cd cs1 cs2) p b s → exec (.sltu p cd cs1 cs2) s = .next (intDone s p b cd (if x < y then 1 else 0) noFlags)) ∧
    (Issues (.sll p cd cs1 cs2) p b s → exec (.sll p cd cs1 cs2) s = .next (intDone s p b cd (x <<< y.toNat) noFlags)) ∧
    (Issues (.srl p cd cs1 cs2) p b s → exec (.srl p cd cs1 cs2) s = .next (intDone s p b cd (x >>> y.toNat) noFlags)) ∧
    (Issues (.sra p cd cs1 cs2) p b s → exec (.sra p cd cs1 cs2) s = .next (intDone s p b cd (x.sshiftRight y.toNat) noFlags))) ∧
  (∀ (p b : Nat) (cd cs1 cs2 : RegIx) (s : State) (x y : Word), x = s.srcX p b cs1.toNat → y = s.srcX p b cs2.toNat →
    (Issues (.mul p cd cs1 cs2) p b s → exec (.mul p cd cs1 cs2) s = .next (intDone s p b cd (x * y) noFlags)) ∧
    (Issues (.mulv p cd cs1 cs2) p b s → exec (.mulv p cd cs1 cs2) s = .next (intDone s p b cd (x * y) (flagOV (decide (x.toInt * y.toInt < -2 ^ 63 ∨ 2 ^ 63 ≤ x.toInt * y.toInt))))) ∧
    (Issues (.muls p cd cs1 cs2) p b s → exec (.muls p cd cs1 cs2) s = .next (intDone s p b cd (BitVec.ofInt 64 (max (-2 ^ 63) (min (2 ^ 63 - 1) (x.toInt * y.toInt)))) (flagSATF (decide (x.toInt * y.toInt < -2 ^ 63 ∨ 2 ^ 63 ≤ x.toInt * y.toInt))))) ∧
    (Issues (.mulh p cd cs1 cs2) p b s → exec (.mulh p cd cs1 cs2) s = .next (intDone s p b cd (((x.signExtend 128 * y.signExtend 128) >>> 64).setWidth 64) noFlags)) ∧
    (Issues (.mulhu p cd cs1 cs2) p b s → exec (.mulhu p cd cs1 cs2) s = .next (intDone s p b cd (((x.setWidth 128 * y.setWidth 128) >>> 64).setWidth 64) noFlags)) ∧
    (Issues (.div p cd cs1 cs2) p b s → exec (.div p cd cs1 cs2) s = .next (intDone s p b cd (x.sdiv y) ⟨decide (x = BitVec.intMin 64 ∧ y = -1), false, false, decide (y = 0), false⟩)) ∧
    (Issues (.divu p cd cs1 cs2) p b s → exec (.divu p cd cs1 cs2) s = .next (intDone s p b cd (x / y) (flagDZ (decide (y = 0))))) ∧
    (Issues (.rem p cd cs1 cs2) p b s → exec (.rem p cd cs1 cs2) s = .next (intDone s p b cd (x.srem y) ⟨decide (x = BitVec.intMin 64 ∧ y = -1), false, false, decide (y = 0), false⟩)) ∧
    (Issues (.remu p cd cs1 cs2) p b s → exec (.remu p cd cs1 cs2) s = .next (intDone s p b cd (x % y) (flagDZ (decide (y = 0))))) ∧
    (Issues (.divs p cd cs1 cs2) p b s → exec (.divs p cd cs1 cs2) s = .next (intDone s p b cd (if x = BitVec.intMin 64 ∧ y = -1 then BitVec.intMax 64 else x.sdiv y) ⟨false, decide (x = BitVec.intMin 64 ∧ y = -1), false, decide (y = 0), false⟩)))

/-- Integer unary syllables and integer syllables with immediates write their results (R119, R139, R106, R137, R141). -/
def Obligations.IntegerUnaryAndImmediate : Prop :=
  (∀ (p b : Nat) (cd cs1 : RegIx) (s : State) (x : Word), x = s.srcX p b cs1.toNat →
    (Issues (.neg p cd cs1) p b s → exec (.neg p cd cs1) s = .next (intDone s p b cd (-x) (flagOV (decide (x = BitVec.intMin 64))))) ∧
    (Issues (.negs p cd cs1) p b s → exec (.negs p cd cs1) s = .next (intDone s p b cd (if x = BitVec.intMin 64 then BitVec.intMax 64 else -x) (flagSATF (decide (x = BitVec.intMin 64))))) ∧
    (Issues (.sextb p cd cs1) p b s → exec (.sextb p cd cs1) s = .next (intDone s p b cd ((x.setWidth 8).signExtend 64) noFlags)) ∧
    (Issues (.sexth p cd cs1) p b s → exec (.sexth p cd cs1) s = .next (intDone s p b cd ((x.setWidth 16).signExtend 64) noFlags)) ∧
    (Issues (.sextw p cd cs1) p b s → exec (.sextw p cd cs1) s = .next (intDone s p b cd ((x.setWidth 32).signExtend 64) noFlags)) ∧
    (Issues (.zextw p cd cs1) p b s → exec (.zextw p cd cs1) s = .next (intDone s p b cd ((x.setWidth 32).setWidth 64) noFlags)) ∧
    (Issues (.popc p cd cs1) p b s →
      exec (.popc p cd cs1) s = .next (intDone s p b cd (BitVec.ofNat 64 ((List.range 64).countP (fun j => x.getLsbD j))) noFlags)) ∧
    (Issues (.clz p cd cs1) p b s → ∃ n, n ≤ 64 ∧ (∀ j, 64 - n ≤ j → j < 64 → x.getLsbD j = false) ∧
      (n < 64 → x.getLsbD (63 - n) = true) ∧ exec (.clz p cd cs1) s = .next (intDone s p b cd (BitVec.ofNat 64 n) noFlags)) ∧
    (Issues (.ctz p cd cs1) p b s → ∃ n, n ≤ 64 ∧ (∀ j, j < n → x.getLsbD j = false) ∧
      (n < 64 → x.getLsbD n = true) ∧ exec (.ctz p cd cs1) s = .next (intDone s p b cd (BitVec.ofNat 64 n) noFlags))) ∧
  (∀ (p b : Nat) (cd cs1 : RegIx) (imm : Imm) (amt : BitVec 6) (s : State) (x : Word), x = s.srcX p b cs1.toNat →
    (Issues (.addi p cd cs1 imm) p b s → exec (.addi p cd cs1 imm) s = .next (intDone s p b cd (x + BitVec.ofInt 64 (immVal imm)) noFlags)) ∧
    (Issues (.andi p cd cs1 imm) p b s → exec (.andi p cd cs1 imm) s = .next (intDone s p b cd (x &&& BitVec.ofInt 64 (immVal imm)) noFlags)) ∧
    (Issues (.ori p cd cs1 imm) p b s → exec (.ori p cd cs1 imm) s = .next (intDone s p b cd (x ||| BitVec.ofInt 64 (immVal imm)) noFlags)) ∧
    (Issues (.xori p cd cs1 imm) p b s → exec (.xori p cd cs1 imm) s = .next (intDone s p b cd (x ^^^ BitVec.ofInt 64 (immVal imm)) noFlags)) ∧
    (Issues (.slli p cd cs1 amt) p b s → exec (.slli p cd cs1 amt) s = .next (intDone s p b cd (x <<< amt.toNat) noFlags)) ∧
    (Issues (.srli p cd cs1 amt) p b s → exec (.srli p cd cs1 amt) s = .next (intDone s p b cd (x >>> amt.toNat) noFlags)) ∧
    (Issues (.srai p cd cs1 amt) p b s → exec (.srai p cd cs1 amt) s = .next (intDone s p b cd (x.sshiftRight amt.toNat) noFlags)))

/-- Predicate syllables combine and move predicates; compares write a condition and its complement (R121, R139, R120, R142). -/
def Obligations.PredicatesAndCompares : Prop :=
  (∀ (p b : Nat) (pd q1 q2 : PredIx) (cd : RegIx) (s : State),
    (Issues (.pand p pd q1 q2) p b s → exec (.pand p pd q1 q2) s = .next (bankDone s p b (fun k => k.setPred pd.toNat ((s.bank p b).pred q1.toNat && (s.bank p b).pred q2.toNat)))) ∧
    (Issues (.por p pd q1 q2) p b s → exec (.por p pd q1 q2) s = .next (bankDone s p b (fun k => k.setPred pd.toNat ((s.bank p b).pred q1.toNat || (s.bank p b).pred q2.toNat)))) ∧
    (Issues (.pxor p pd q1 q2) p b s → exec (.pxor p pd q1 q2) s = .next (bankDone s p b (fun k => k.setPred pd.toNat ((s.bank p b).pred q1.toNat != (s.bank p b).pred q2.toNat)))) ∧
    (Issues (.pandn p pd q1 q2) p b s → exec (.pandn p pd q1 q2) s = .next (bankDone s p b (fun k => k.setPred pd.toNat ((s.bank p b).pred q1.toNat && !(s.bank p b).pred q2.toNat)))) ∧
    (Issues (.pget p cd) p b s → ∃ x : Word, (∀ j, x.getLsbD j = (decide (j < 8) && (s.bank p b).pred j)) ∧ exec (.pget p cd) s = .next (intDone s p b cd x noFlags)) ∧
    (Issues (.pput p cd) p b s → ∃ t, exec (.pput p cd) s = .next t ∧ (∀ j, 0 < j → j < 8 → (t.bank p b).pred j = (s.srcX p b cd.toNat).getLsbD j) ∧ (t.bank p b).pred 0 = true ∧ (∀ n, (t.bank p b).reg n = (s.bank p b).reg n))) ∧
  (∀ (p b : Nat) (pd pc : PredIx) (cond : BitVec 3) (cs1 cs2 : RegIx) (s : State),
    (∀ x y : BitVec 64, x = s.srcX p b cs1.toNat → y = s.srcX p b cs2.toNat → (pd ≠ pc ∨ pc = 0) →
      Issues (.compare p pd pc cond cs1 cs2) p b s → ∃ v : Bool,
        (v = true ↔ (cond = 0 ∧ x = y) ∨ (cond = 1 ∧ x ≠ y) ∨ (cond = 2 ∧ x.slt y = true) ∨ (cond = 3 ∧ y.sle x = true) ∨
          (cond = 4 ∧ x < y) ∨ (cond = 5 ∧ y ≤ x) ∨ (cond = 6 ∧ x &&& y ≠ 0) ∨ (cond = 7 ∧ x &&& y = 0)) ∧
        exec (.compare p pd pc cond cs1 cs2) s =
          .next (bankDone s p b (fun k => (k.setPred pd.toNat v).setPred pc.toNat (!v)))) ∧
    (∀ x y : BitVec 128, x = s.srcW p b cs1.toNat → y = s.srcW p b cs2.toNat → (pd ≠ pc ∨ pc = 0) →
      Issues (.wideCompare p pd pc cond cs1 cs2) p b s → ∃ v : Bool,
        (v = true ↔ (cond = 0 ∧ x = y) ∨ (cond = 1 ∧ x ≠ y) ∨ (cond = 2 ∧ x.slt y = true) ∨ (cond = 3 ∧ y.sle x = true) ∨
          (cond = 4 ∧ x < y) ∨ (cond = 5 ∧ y ≤ x) ∨ (cond = 6 ∧ x &&& y ≠ 0) ∨ (cond = 7 ∧ x &&& y = 0)) ∧
        exec (.wideCompare p pd pc cond cs1 cs2) s =
          .next (bankDone s p b (fun k => (k.setPred pd.toNat v).setPred pc.toNat (!v)))))

/-- Wide arithmetic, unary, pack and immediate syllables write their results (R120, R140, R143, R119, R137). -/
def Obligations.WideSyllables : Prop :=
  (∀ (p b : Nat) (cd cs1 cs2 : RegIx) (s : State) (x y : Wide), x = s.srcW p b cs1.toNat → y = s.srcW p b cs2.toNat →
    (Issues (.wadd p cd cs1 cs2) p b s → exec (.wadd p cd cs1 cs2) s = .next (wideDone s p b cd (x + y) noFlags)) ∧
    (Issues (.wsub p cd cs1 cs2) p b s → exec (.wsub p cd cs1 cs2) s = .next (wideDone s p b cd (x - y) noFlags)) ∧
    (Issues (.waddv p cd cs1 cs2) p b s → exec (.waddv p cd cs1 cs2) s = .next (wideDone s p b cd (x + y) (flagOV (decide (x.toInt + y.toInt < -2 ^ 127 ∨ 2 ^ 127 ≤ x.toInt + y.toInt))))) ∧
    (Issues (.wsubv p cd cs1 cs2) p b s → exec (.wsubv p cd cs1 cs2) s = .next (wideDone s p b cd (x - y) (flagOV (decide (x.toInt - y.toInt < -2 ^ 127 ∨ 2 ^ 127 ≤ x.toInt - y.toInt))))) ∧
    (Issues (.wadds p cd cs1 cs2) p b s → exec (.wadds p cd cs1 cs2) s = .next (wideDone s p b cd (BitVec.ofInt 128 (max (-2 ^ 127) (min (2 ^ 127 - 1) (x.toInt + y.toInt)))) (flagSATF (decide (x.toInt + y.toInt < -2 ^ 127 ∨ 2 ^ 127 ≤ x.toInt + y.toInt))))) ∧
    (Issues (.wsubs p cd cs1 cs2) p b s → exec (.wsubs p cd cs1 cs2) s = .next (wideDone s p b cd (BitVec.ofInt 128 (max (-2 ^ 127) (min (2 ^ 127 - 1) (x.toInt - y.toInt)))) (flagSATF (decide (x.toInt - y.toInt < -2 ^ 127 ∨ 2 ^ 127 ≤ x.toInt - y.toInt))))) ∧
    (Issues (.wand p cd cs1 cs2) p b s → exec (.wand p cd cs1 cs2) s = .next (wideDone s p b cd (x &&& y) noFlags)) ∧
    (Issues (.wor p cd cs1 cs2) p b s → exec (.wor p cd cs1 cs2) s = .next (wideDone s p b cd (x ||| y) noFlags)) ∧
    (Issues (.wxor p cd cs1 cs2) p b s → exec (.wxor p cd cs1 cs2) s = .next (wideDone s p b cd (x ^^^ y) noFlags)) ∧
    (Issues (.wmul p cd cs1 cs2) p b s → exec (.wmul p cd cs1 cs2) s = .next (wideDone s p b cd (x * y) noFlags)) ∧
    (Issues (.wmulv p cd cs1 cs2) p b s → exec (.wmulv p cd cs1 cs2) s = .next (wideDone s p b cd (x * y) (flagOV (decide (x.toInt * y.toInt < -2 ^ 127 ∨ 2 ^ 127 ≤ x.toInt * y.toInt))))) ∧
    (Issues (.wmuls p cd cs1 cs2) p b s → exec (.wmuls p cd cs1 cs2) s = .next (wideDone s p b cd (BitVec.ofInt 128 (max (-2 ^ 127) (min (2 ^ 127 - 1) (x.toInt * y.toInt)))) (flagSATF (decide (x.toInt * y.toInt < -2 ^ 127 ∨ 2 ^ 127 ≤ x.toInt * y.toInt))))) ∧
    (Issues (.wdiv p cd cs1 cs2) p b s → exec (.wdiv p cd cs1 cs2) s = .next (wideDone s p b cd (x.sdiv y) ⟨decide (x = BitVec.intMin 128 ∧ y = -1), false, false, decide (y = 0), false⟩)) ∧
    (Issues (.wrem p cd cs1 cs2) p b s → exec (.wrem p cd cs1 cs2) s = .next (wideDone s p b cd (x.srem y) ⟨decide (x = BitVec.intMin 128 ∧ y = -1), false, false, decide (y = 0), false⟩)) ∧
    (Issues (.wdivs p cd cs1 cs2) p b s → exec (.wdivs p cd cs1 cs2) s = .next (wideDone s p b cd (if x = BitVec.intMin 128 ∧ y = -1 then BitVec.intMax 128 else x.sdiv y) ⟨false, decide (x = BitVec.intMin 128 ∧ y = -1), false, decide (y = 0), false⟩)) ∧
    (Issues (.wsll p cd cs1 cs2) p b s → exec (.wsll p cd cs1 cs2) s = .next (wideDone s p b cd (x <<< (s.srcX p b cs2.toNat).toNat) noFlags)) ∧
    (Issues (.wsrl p cd cs1 cs2) p b s → exec (.wsrl p cd cs1 cs2) s = .next (wideDone s p b cd (x >>> (s.srcX p b cs2.toNat).toNat) noFlags)) ∧
    (Issues (.wsra p cd cs1 cs2) p b s → exec (.wsra p cd cs1 cs2) s = .next (wideDone s p b cd (x.sshiftRight (s.srcX p b cs2.toNat).toNat) noFlags)) ∧
    (Issues (.wmulx p cd cs1 cs2) p b s → exec (.wmulx p cd cs1 cs2) s = .next (wideDone s p b cd ((s.srcX p b cs1.toNat).signExtend 128 * (s.srcX p b cs2.toNat).signExtend 128) noFlags)) ∧
    (Issues (.wmulxu p cd cs1 cs2) p b s → exec (.wmulxu p cd cs1 cs2) s = .next (wideDone s p b cd ((s.srcX p b cs1.toNat).setWidth 128 * (s.srcX p b cs2.toNat).setWidth 128) noFlags)) ∧
    (Issues (.wpack p cd cs1 cs2) p b s → exec (.wpack p cd cs1 cs2) s = .next (wideDone s p b cd ((s.srcX p b cs2.toNat) ++ (s.srcX p b cs1.toNat)) noFlags))) ∧
  (∀ (p b : Nat) (cd cs1 : RegIx) (imm : Imm) (amt : BitVec 7) (s : State) (x : Wide), x = s.srcW p b cs1.toNat →
    (Issues (.wneg p cd cs1) p b s → exec (.wneg p cd cs1) s = .next (wideDone s p b cd (-x) (flagOV (decide (x = BitVec.intMin 128))))) ∧
    (Issues (.wnegs p cd cs1) p b s → exec (.wnegs p cd cs1) s = .next (wideDone s p b cd (if x = BitVec.intMin 128 then BitVec.intMax 128 else -x) (flagSATF (decide (x = BitVec.intMin 128))))) ∧
    (Issues (.wsext p cd cs1) p b s → exec (.wsext p cd cs1) s = .next (wideDone s p b cd ((x.setWidth 64).signExtend 128) noFlags)) ∧
    (Issues (.wzext p cd cs1) p b s → exec (.wzext p cd cs1) s = .next (wideDone s p b cd ((x.setWidth 64).setWidth 128) noFlags)) ∧
    (Issues (.whi p cd cs1) p b s → exec (.whi p cd cs1) s = .next (intDone s p b cd ((x >>> 64).setWidth 64) noFlags)) ∧
    (Issues (.wslli p cd cs1 amt) p b s → exec (.wslli p cd cs1 amt) s = .next (wideDone s p b cd (x <<< amt.toNat) noFlags)) ∧
    (Issues (.wsrli p cd cs1 amt) p b s → exec (.wsrli p cd cs1 amt) s = .next (wideDone s p b cd (x >>> amt.toNat) noFlags)) ∧
    (Issues (.wsrai p cd cs1 amt) p b s → exec (.wsrai p cd cs1 amt) s = .next (wideDone s p b cd (x.sshiftRight amt.toNat) noFlags)) ∧
    (Issues (.waddi p cd cs1 imm) p b s → exec (.waddi p cd cs1 imm) s = .next (wideDone s p b cd (x + BitVec.ofInt 128 (immVal imm)) noFlags)))

/-- Capability inspection writes the fields; CRRL and CRAM give representable lengths and masks (R37, R38, R61, R45). -/
def Obligations.CapabilityInspectionAndLengths : Prop :=
  (∀ (p b : Nat) (cd cs1 : RegIx) (s : State) (c : Cap), c = s.src p b cs1.toNat →
    (Issues (.cgettag p cd cs1) p b s → exec (.cgettag p cd cs1) s = .next (intDone s p b cd (if c.tag then 1 else 0) noFlags)) ∧
    (Issues (.cgetperm p cd cs1) p b s → exec (.cgetperm p cd cs1) s = .next (intDone s p b cd ((c.bits >>> 112).setWidth 64) noFlags)) ∧
    (Issues (.cgettype p cd cs1) p b s → exec (.cgettype p cd cs1) s = .next (intDone s p b cd (((c.bits >>> 96).setWidth 16).setWidth 64) noFlags)) ∧
    (Issues (.cgetaddr p cd cs1) p b s → exec (.cgetaddr p cd cs1) s = .next (intDone s p b cd (c.bits.setWidth 64) noFlags)) ∧
    (c.malformed = false → (Issues (.cgetbase p cd cs1) p b s → exec (.cgetbase p cd cs1) s = .next (intDone s p b cd (BitVec.ofNat 64 c.base) noFlags))) ∧
    (c.malformed = false → c.top ≤ 2 ^ 64 → (Issues (.cgettop p cd cs1) p b s → exec (.cgettop p cd cs1) s = .next (intDone s p b cd (if c.top = 2 ^ 64 then BitVec.allOnes 64 else BitVec.ofNat 64 c.top) noFlags))) ∧
    (c.malformed = false → (Issues (.cgetlen p cd cs1) p b s → exec (.cgetlen p cd cs1) s = .next (intDone s p b cd (BitVec.ofNat 64 (min (c.top - c.base) (2 ^ 64 - 1))) noFlags))) ∧
    (c.malformed = false → 2 ^ 64 < c.top → Issues (.cgettop p cd cs1) p b s → ∃ x, exec (.cgettop p cd cs1) s = .next (intDone s p b cd x noFlags))) ∧
  (∀ (p b : Nat) (cd cs1 : RegIx) (s : State) (x : Word), x = s.srcX p b cs1.toNat →
    (Issues (.crrl p cd cs1) p b s → ∃ y : Nat, exec (.crrl p cd cs1) s = .next (intDone s p b cd (BitVec.ofNat 64 y) noFlags) ∧
      (∀ e, e ≤ 50 → (x.toNat + 2 ^ e - 1) / 2 ^ e ≤ 8191 → (∀ d, d < e → 8191 < (x.toNat + 2 ^ d - 1) / 2 ^ d) →
        y = (x.toNat + 2 ^ e - 1) / 2 ^ e * 2 ^ e) ∧
      ((∀ e, e ≤ 50 → 8191 < (x.toNat + 2 ^ e - 1) / 2 ^ e) → y = 0)) ∧
    (Issues (.cram p cd cs1) p b s → ∃ y : Nat, exec (.cram p cd cs1) s = .next (intDone s p b cd (BitVec.ofNat 64 y) noFlags) ∧
      (∀ e, e ≤ 50 → (x.toNat + 2 ^ e - 1) / 2 ^ e ≤ 8191 → (∀ d, d < e → 8191 < (x.toNat + 2 ^ d - 1) / 2 ^ d) →
        y = 2 ^ 64 - 2 ^ e) ∧
      ((∀ e, e ≤ 50 → 8191 < (x.toNat + 2 ^ e - 1) / 2 ^ e) → y = 0)))

/-- Capability derivation, sealing and unsealing, and narrowing of bounds (R40, R59, R62, R144, R56, R57, R58, R37, R42, R43, R44). -/
def Obligations.CapabilityChanges : Prop :=
  (∀ (p b : Nat) (cd cs1 cs2 : RegIx) (imm : Imm) (s : State) (c a : Cap), c = s.src p b cs1.toNat → a = s.src p b cs2.toNat →
    (Issues (.cmove p cd cs1) p b s → exec (.cmove p cd cs1) s = .next (capDone s p b cd c)) ∧
    (Issues (.ccleartag p cd cs1) p b s → exec (.ccleartag p cd cs1) s = .next (capDone s p b cd ⟨c.bits, false⟩)) ∧
    (c.malformed = false → (Issues (.csetaddr p cd cs1 cs2) p b s → ∃ v : Cap, exec (.csetaddr p cd cs1 cs2) s = .next (capDone s p b cd v) ∧ v.addr = a.addr ∧ v.perms = c.perms ∧ v.otype = c.otype ∧ v.exp = c.exp ∧ v.basem = c.basem ∧ v.topm = c.topm ∧ v.tag = (c.tag && c.otype == 0 && c.representable (a.addr)))) ∧
    (c.malformed = false → (Issues (.cincaddr p cd cs1 cs2) p b s → ∃ v : Cap, exec (.cincaddr p cd cs1 cs2) s = .next (capDone s p b cd v) ∧ v.addr = (c.addr + a.addr) % 2 ^ 64 ∧ v.perms = c.perms ∧ v.otype = c.otype ∧ v.exp = c.exp ∧ v.basem = c.basem ∧ v.topm = c.topm ∧ v.tag = (c.tag && c.otype == 0 && c.representable ((c.addr + a.addr) % 2 ^ 64)))) ∧
    (c.malformed = false → (Issues (.cincaddri p cd cs1 imm) p b s → ∃ v : Cap, exec (.cincaddri p cd cs1 imm) s = .next (capDone s p b cd v) ∧ v.addr = (((c.addr : Int) + immVal imm) % 2 ^ 64).toNat ∧ v.perms = c.perms ∧ v.otype = c.otype ∧ v.exp = c.exp ∧ v.basem = c.basem ∧ v.topm = c.topm ∧ v.tag = (c.tag && c.otype == 0 && c.representable (((c.addr : Int) + immVal imm) % 2 ^ 64).toNat))) ∧
    (c.malformed = false → (Issues (.candperm p cd cs1 cs2) p b s → ∃ v : Cap, exec (.candperm p cd cs1 cs2) s = .next (capDone s p b cd v) ∧ v.perms = c.perms &&& (a.addr % 2 ^ 16) ∧ v.addr = c.addr ∧ v.otype = c.otype ∧ v.exp = c.exp ∧ v.basem = c.basem ∧ v.topm = c.topm ∧ v.tag = (c.tag && c.otype == 0))) ∧
    (c.malformed = false → (Issues (.csealentry p cd cs1) p b s → ∃ v : Cap, exec (.csealentry p cd cs1) s = .next (capDone s p b cd v) ∧ v.otype = 0xFF01 ∧ v.addr = c.addr ∧ v.perms = c.perms ∧ v.exp = c.exp ∧ v.basem = c.basem ∧ v.topm = c.topm ∧ v.tag = (c.tag && c.otype == 0 && c.has permEX)))) ∧
  (∀ (p b : Nat) (cd cs1 cs2 : RegIx) (s : State) (c a : Cap), c = s.src p b cs1.toNat → a = s.src p b cs2.toNat →
    c.malformed = false → a.malformed = false →
    (Issues (.cseal p cd cs1 cs2) p b s → ∃ v : Cap, exec (.cseal p cd cs1 cs2) s = .next (capDone s p b cd v) ∧
      v.otype = a.addr % 2 ^ 16 ∧ v.perms = c.perms ∧ v.addr = c.addr ∧ v.exp = c.exp ∧ v.basem = c.basem ∧ v.topm = c.topm ∧
      (v.tag = true ↔ c.tag = true ∧ c.otype = 0 ∧ a.tag = true ∧ a.otype = 0 ∧ a.has permSE = true ∧ a.base ≤ a.addr ∧
        a.addr < a.top ∧ ((1 ≤ a.addr ∧ a.addr ≤ 0xFEFF) ∨ a.addr = 0xFF02 ∨ a.addr = 0xFF04))) ∧
    (Issues (.cunseal p cd cs1 cs2) p b s → ∃ v : Cap, exec (.cunseal p cd cs1 cs2) s = .next (capDone s p b cd v) ∧
      v.otype = 0 ∧ v.addr = c.addr ∧ v.exp = c.exp ∧ v.basem = c.basem ∧ v.topm = c.topm ∧
      (∀ j, 0 < j → v.has j = c.has j) ∧ v.has permGL = (c.has permGL && a.has permGL) ∧
      (v.tag = true ↔ c.tag = true ∧ ((1 ≤ c.otype ∧ c.otype ≤ 0xFEFF) ∨ c.otype = 0xFF02 ∨ c.otype = 0xFF04) ∧
        a.tag = true ∧ a.otype = 0 ∧ a.has permUS = true ∧ a.base ≤ a.addr ∧ a.addr < a.top ∧ a.addr = c.otype))) ∧
  (∀ (p b : Nat) (cd cs1 cs2 : RegIx) (s : State) (c : Cap) (x : Word), c = s.src p b cs1.toNat → x = s.srcX p b cs2.toNat →
    c.malformed = false →
    (Issues (.csetbounds p cd cs1 cs2) p b s → ∃ v : Cap, exec (.csetbounds p cd cs1 cs2) s = .next (capDone s p b cd v) ∧
      v.perms = c.perms ∧ v.otype = c.otype ∧ v.addr = c.addr ∧
      (c.addr + x.toNat ≤ 2 ^ 64 → v.base ≤ c.addr ∧ c.addr + x.toNat ≤ v.top ∧ v.top ≤ 2 ^ 64) ∧
      (v.tag = true ↔ c.tag = true ∧ c.otype = 0 ∧ c.addr + x.toNat ≤ 2 ^ 64 ∧ c.base ≤ v.base ∧ v.top ≤ c.top)) ∧
    (Issues (.csetboundsx p cd cs1 cs2) p b s → ∃ v : Cap, exec (.csetboundsx p cd cs1 cs2) s = .next (capDone s p b cd v) ∧
      v.perms = c.perms ∧ v.otype = c.otype ∧ v.addr = c.addr ∧
      (c.addr + x.toNat ≤ 2 ^ 64 → v.base ≤ c.addr ∧ c.addr + x.toNat ≤ v.top ∧ v.top ≤ 2 ^ 64) ∧
      (v.tag = true ↔ c.tag = true ∧ c.otype = 0 ∧ c.addr + x.toNat ≤ 2 ^ 64 ∧ c.base ≤ v.base ∧ v.top ≤ c.top ∧ v.base = c.addr ∧ v.top = c.addr + x.toNat)))

/-- What a register syllable leaves unchanged (R117, R119, R120, R121, R144). -/
def Obligations.RegisterSyllableFrame : Prop :=
  ∀ (i : Instr) (p b : Nat) (s t u : State) (n : SylInfo) (f : Body) (v : Bool), registerOnly i = true → sylPair i = p →
    infoOf i = some n → bodyOf i = some f → Issues i p b s → f ((issued s p b).ctxFor p b n) (issued s p b) = .ok v u →
    exec i s = .next t →
      (∀ r, r < 32 → r ∉ n.writes → (t.bank p b).reg r = (s.bank p b).reg r) ∧
      (∀ r, r < 8 → 32 + r ∉ n.writes → (t.bank p b).pred r = (s.bank p b).pred r) ∧
      (∀ j, (j < 8 ∨ 12 < j) → (t.bank p b).amode.getLsbD j = (s.bank p b).amode.getLsbD j) ∧
      (∀ j, (s.bank p b).amode.getLsbD j = true → (t.bank p b).amode.getLsbD j = true) ∧
      (t.bank p b).status = (s.bank p b).status ∧ (t.bank p b).pcc = (s.bank p b).pcc ∧ (t.bank p b).lc = (s.bank p b).lc ∧
      (t.bank p b).ls = (s.bank p b).ls ∧ (t.bank p b).le = (s.bank p b).le ∧ (t.bank p b).bkq = (s.bank p b).bkq ∧
      (t.bank p b).tsbc = (s.bank p b).tsbc ∧ (t.bank p b).ttbc = (s.bank p b).ttbc ∧
      (∀ e, e ≠ b → t.bank p e = s.bank p e) ∧ (t.pair p).accs = (s.pair p).accs ∧ (t.pair p).ctxcfg = (s.pair p).ctxcfg ∧
      (t.pair p).bankw = (s.pair p).bankw ∧ (t.pair p).escc = (s.pair p).escc ∧ (t.pair p).essc = (s.pair p).essc ∧
      (t.pair p).det = (s.pair p).det ∧ (∀ q, q ≠ p → t.pair q = s.pair q) ∧ SameMemory s t ∧ SameUnits s t

/-- Data loads write the little-endian bytes of memory, extended, and change nothing else (R5, R137, R145, R147). -/
def Obligations.DataLoadsReadMemory : Prop :=
  ∀ (p b : Nat) (cd cs1 cs2 : RegIx) (imm : Imm) (s : State) (a : Cap), a = s.src p b cs1.toNat → Quiet s →
    (∀ ea, ea = effAddr a (immDisp imm 1) → PlainAccess s p b a ea 1 [permLD] → Issues (.lb p cd cs1 imm) p b s →
      ∃ t, exec (.lb p cd cs1 imm) s = .next t ∧ OnlyRegister s t p b cd (intCap ((BitVec.ofNat 8 (s.numAt .dram ea 1)).signExtend 64)) ∧
      SameMemory s t ∧ SameUnits s t) ∧
    (∀ ea, ea = effAddr a (immDisp imm 1) → PlainAccess s p b a ea 1 [permLD] → Issues (.lbu p cd cs1 imm) p b s →
      ∃ t, exec (.lbu p cd cs1 imm) s = .next t ∧ OnlyRegister s t p b cd (intCap (BitVec.ofNat 64 (s.numAt .dram ea 1))) ∧
      SameMemory s t ∧ SameUnits s t) ∧
    (∀ ea, ea = effAddr a (immDisp imm 2) → PlainAccess s p b a ea 2 [permLD] → Issues (.lh p cd cs1 imm) p b s →
      ∃ t, exec (.lh p cd cs1 imm) s = .next t ∧ OnlyRegister s t p b cd (intCap ((BitVec.ofNat 16 (s.numAt .dram ea 2)).signExtend 64)) ∧
      SameMemory s t ∧ SameUnits s t) ∧
    (∀ ea, ea = effAddr a (immDisp imm 2) → PlainAccess s p b a ea 2 [permLD] → Issues (.lhu p cd cs1 imm) p b s →
      ∃ t, exec (.lhu p cd cs1 imm) s = .next t ∧ OnlyRegister s t p b cd (intCap (BitVec.ofNat 64 (s.numAt .dram ea 2))) ∧
      SameMemory s t ∧ SameUnits s t) ∧
    (∀ ea, ea = effAddr a (immDisp imm 4) → PlainAccess s p b a ea 4 [permLD] → Issues (.lw p cd cs1 imm) p b s →
      ∃ t, exec (.lw p cd cs1 imm) s = .next t ∧ OnlyRegister s t p b cd (intCap ((BitVec.ofNat 32 (s.numAt .dram ea 4)).signExtend 64)) ∧
      SameMemory s t ∧ SameUnits s t) ∧
    (∀ ea, ea = effAddr a (immDisp imm 4) → PlainAccess s p b a ea 4 [permLD] → Issues (.lwu p cd cs1 imm) p b s →
      ∃ t, exec (.lwu p cd cs1 imm) s = .next t ∧ OnlyRegister s t p b cd (intCap (BitVec.ofNat 64 (s.numAt .dram ea 4))) ∧
      SameMemory s t ∧ SameUnits s t) ∧
    (∀ ea, ea = effAddr a (immDisp imm 8) → PlainAccess s p b a ea 8 [permLD] → Issues (.ld p cd cs1 imm) p b s →
      ∃ t, exec (.ld p cd cs1 imm) s = .next t ∧ OnlyRegister s t p b cd (intCap (BitVec.ofNat 64 (s.numAt .dram ea 8))) ∧
      SameMemory s t ∧ SameUnits s t) ∧
    (∀ ea, ea = effAddr a (((s.srcX p b cs2.toNat).toNat : Int)) → PlainAccess s p b a ea 1 [permLD] → Issues (.lbx p cd cs1 cs2) p b s →
      ∃ t, exec (.lbx p cd cs1 cs2) s = .next t ∧ OnlyRegister s t p b cd (intCap ((BitVec.ofNat 8 (s.numAt .dram ea 1)).signExtend 64)) ∧
      SameMemory s t ∧ SameUnits s t) ∧
    (∀ ea, ea = effAddr a (((s.srcX p b cs2.toNat).toNat : Int)) → PlainAccess s p b a ea 1 [permLD] → Issues (.lbux p cd cs1 cs2) p b s →
      ∃ t, exec (.lbux p cd cs1 cs2) s = .next t ∧ OnlyRegister s t p b cd (intCap (BitVec.ofNat 64 (s.numAt .dram ea 1))) ∧
      SameMemory s t ∧ SameUnits s t) ∧
    (∀ ea, ea = effAddr a (((s.srcX p b cs2.toNat).toNat : Int)) → PlainAccess s p b a ea 2 [permLD] → Issues (.lhx p cd cs1 cs2) p b s →
      ∃ t, exec (.lhx p cd cs1 cs2) s = .next t ∧ OnlyRegister s t p b cd (intCap ((BitVec.ofNat 16 (s.numAt .dram ea 2)).signExtend 64)) ∧
      SameMemory s t ∧ SameUnits s t) ∧
    (∀ ea, ea = effAddr a (((s.srcX p b cs2.toNat).toNat : Int)) → PlainAccess s p b a ea 2 [permLD] → Issues (.lhux p cd cs1 cs2) p b s →
      ∃ t, exec (.lhux p cd cs1 cs2) s = .next t ∧ OnlyRegister s t p b cd (intCap (BitVec.ofNat 64 (s.numAt .dram ea 2))) ∧
      SameMemory s t ∧ SameUnits s t) ∧
    (∀ ea, ea = effAddr a (((s.srcX p b cs2.toNat).toNat : Int)) → PlainAccess s p b a ea 4 [permLD] → Issues (.lwx p cd cs1 cs2) p b s →
      ∃ t, exec (.lwx p cd cs1 cs2) s = .next t ∧ OnlyRegister s t p b cd (intCap ((BitVec.ofNat 32 (s.numAt .dram ea 4)).signExtend 64)) ∧
      SameMemory s t ∧ SameUnits s t) ∧
    (∀ ea, ea = effAddr a (((s.srcX p b cs2.toNat).toNat : Int)) → PlainAccess s p b a ea 4 [permLD] → Issues (.lwux p cd cs1 cs2) p b s →
      ∃ t, exec (.lwux p cd cs1 cs2) s = .next t ∧ OnlyRegister s t p b cd (intCap (BitVec.ofNat 64 (s.numAt .dram ea 4))) ∧
      SameMemory s t ∧ SameUnits s t) ∧
    (∀ ea, ea = effAddr a (((s.srcX p b cs2.toNat).toNat : Int)) → PlainAccess s p b a ea 8 [permLD] → Issues (.ldx p cd cs1 cs2) p b s →
      ∃ t, exec (.ldx p cd cs1 cs2) s = .next t ∧ OnlyRegister s t p b cd (intCap (BitVec.ofNat 64 (s.numAt .dram ea 8))) ∧
      SameMemory s t ∧ SameUnits s t)

/-- Data stores write their bytes, clear the tags of the granules touched, and change nothing else (R5, R72, R145, R149). -/
def Obligations.DataStoresWriteMemory : Prop :=
  ∀ (p b : Nat) (cd cs1 cs2 : RegIx) (imm : Imm) (s : State) (a : Cap), a = s.src p b cs1.toNat → Quiet s →
    (∀ ea, ea = effAddr a (immDisp imm 1) → PlainAccess s p b a ea 1 [permST] → Issues (.sb p cd cs1 imm) p b s →
      ∃ t, exec (.sb p cd cs1 imm) s = .next t ∧ t.numAt .dram ea 1 = (s.srcX p b cd.toNat).toNat % 2 ^ 8 ∧
        SameBytesOutside s t ea 1 ∧ (∀ j, j < 1 → t.tagAt .dram (ea + j) = false) ∧ SameTagsOutside s t ea 1 ∧
        SameRegisters s t ∧ SameUnits s t ∧ t.tcm = s.tcm ∧ t.jarr = s.jarr ∧ t.boot = s.boot ∧ t.bitmap = s.bitmap) ∧
    (∀ ea, ea = effAddr a (immDisp imm 2) → PlainAccess s p b a ea 2 [permST] → Issues (.sh p cd cs1 imm) p b s →
      ∃ t, exec (.sh p cd cs1 imm) s = .next t ∧ t.numAt .dram ea 2 = (s.srcX p b cd.toNat).toNat % 2 ^ 16 ∧
        SameBytesOutside s t ea 2 ∧ (∀ j, j < 2 → t.tagAt .dram (ea + j) = false) ∧ SameTagsOutside s t ea 2 ∧
        SameRegisters s t ∧ SameUnits s t ∧ t.tcm = s.tcm ∧ t.jarr = s.jarr ∧ t.boot = s.boot ∧ t.bitmap = s.bitmap) ∧
    (∀ ea, ea = effAddr a (immDisp imm 4) → PlainAccess s p b a ea 4 [permST] → Issues (.sw p cd cs1 imm) p b s →
      ∃ t, exec (.sw p cd cs1 imm) s = .next t ∧ t.numAt .dram ea 4 = (s.srcX p b cd.toNat).toNat % 2 ^ 32 ∧
        SameBytesOutside s t ea 4 ∧ (∀ j, j < 4 → t.tagAt .dram (ea + j) = false) ∧ SameTagsOutside s t ea 4 ∧
        SameRegisters s t ∧ SameUnits s t ∧ t.tcm = s.tcm ∧ t.jarr = s.jarr ∧ t.boot = s.boot ∧ t.bitmap = s.bitmap) ∧
    (∀ ea, ea = effAddr a (immDisp imm 8) → PlainAccess s p b a ea 8 [permST] → Issues (.sd p cd cs1 imm) p b s →
      ∃ t, exec (.sd p cd cs1 imm) s = .next t ∧ t.numAt .dram ea 8 = (s.srcX p b cd.toNat).toNat % 2 ^ 64 ∧
        SameBytesOutside s t ea 8 ∧ (∀ j, j < 8 → t.tagAt .dram (ea + j) = false) ∧ SameTagsOutside s t ea 8 ∧
        SameRegisters s t ∧ SameUnits s t ∧ t.tcm = s.tcm ∧ t.jarr = s.jarr ∧ t.boot = s.boot ∧ t.bitmap = s.bitmap) ∧
    (∀ ea, ea = effAddr a (((s.srcX p b cs2.toNat).toNat : Int)) → PlainAccess s p b a ea 1 [permST] → Issues (.sbx p cd cs1 cs2) p b s →
      ∃ t, exec (.sbx p cd cs1 cs2) s = .next t ∧ t.numAt .dram ea 1 = (s.srcX p b cd.toNat).toNat % 2 ^ 8 ∧
        SameBytesOutside s t ea 1 ∧ (∀ j, j < 1 → t.tagAt .dram (ea + j) = false) ∧ SameTagsOutside s t ea 1 ∧
        SameRegisters s t ∧ SameUnits s t ∧ t.tcm = s.tcm ∧ t.jarr = s.jarr ∧ t.boot = s.boot ∧ t.bitmap = s.bitmap) ∧
    (∀ ea, ea = effAddr a (((s.srcX p b cs2.toNat).toNat : Int)) → PlainAccess s p b a ea 2 [permST] → Issues (.shx p cd cs1 cs2) p b s →
      ∃ t, exec (.shx p cd cs1 cs2) s = .next t ∧ t.numAt .dram ea 2 = (s.srcX p b cd.toNat).toNat % 2 ^ 16 ∧
        SameBytesOutside s t ea 2 ∧ (∀ j, j < 2 → t.tagAt .dram (ea + j) = false) ∧ SameTagsOutside s t ea 2 ∧
        SameRegisters s t ∧ SameUnits s t ∧ t.tcm = s.tcm ∧ t.jarr = s.jarr ∧ t.boot = s.boot ∧ t.bitmap = s.bitmap) ∧
    (∀ ea, ea = effAddr a (((s.srcX p b cs2.toNat).toNat : Int)) → PlainAccess s p b a ea 4 [permST] → Issues (.swx p cd cs1 cs2) p b s →
      ∃ t, exec (.swx p cd cs1 cs2) s = .next t ∧ t.numAt .dram ea 4 = (s.srcX p b cd.toNat).toNat % 2 ^ 32 ∧
        SameBytesOutside s t ea 4 ∧ (∀ j, j < 4 → t.tagAt .dram (ea + j) = false) ∧ SameTagsOutside s t ea 4 ∧
        SameRegisters s t ∧ SameUnits s t ∧ t.tcm = s.tcm ∧ t.jarr = s.jarr ∧ t.boot = s.boot ∧ t.bitmap = s.bitmap) ∧
    (∀ ea, ea = effAddr a (((s.srcX p b cs2.toNat).toNat : Int)) → PlainAccess s p b a ea 8 [permST] → Issues (.sdx p cd cs1 cs2) p b s →
      ∃ t, exec (.sdx p cd cs1 cs2) s = .next t ∧ t.numAt .dram ea 8 = (s.srcX p b cd.toNat).toNat % 2 ^ 64 ∧
        SameBytesOutside s t ea 8 ∧ (∀ j, j < 8 → t.tagAt .dram (ea + j) = false) ∧ SameTagsOutside s t ea 8 ∧
        SameRegisters s t ∧ SameUnits s t ∧ t.tcm = s.tcm ∧ t.jarr = s.jarr ∧ t.boot = s.boot ∧ t.bitmap = s.bitmap)

/-- Capability loads and stores; a loaded capability whose base is eclipsed loses its tag (R48, R49, R67, R72, R73, R145, R79, R81, R87). -/
def Obligations.CapabilityMemory : Prop :=
  (∀ (p b : Nat) (cd cs1 cs2 : RegIx) (imm : Imm) (s : State) (a : Cap), a = s.src p b cs1.toNat → Quiet s →
    (∀ ea v, ea = effAddr a (immDisp imm 16) → ea % 16 = 0 → v = s.capAt .dram ea → PlainAccess s p b a ea 16 [permLD] →
      Issues (.clc p cd cs1 imm) p b s →
      (v.tag = true → a.has permLC = true → ¬ (v.malformed = false ∧ neverRevoked v = false ∧ spaceOf p v.base = .dram ∧ s.eclipsed v.base = true)) →
      ∃ t, exec (.clc p cd cs1 imm) s = .next t ∧ OnlyRegister s t p b cd ⟨v.bits, v.tag && a.has permLC⟩ ∧
        SameMemory s t ∧ SameUnits s t) ∧
    (∀ ea v, ea = effAddr a (((s.srcX p b cs2.toNat).toNat : Int)) → ea % 16 = 0 → v = s.capAt .dram ea → PlainAccess s p b a ea 16 [permLD] →
      Issues (.clcx p cd cs1 cs2) p b s →
      (v.tag = true → a.has permLC = true → ¬ (v.malformed = false ∧ neverRevoked v = false ∧ spaceOf p v.base = .dram ∧ s.eclipsed v.base = true)) →
      ∃ t, exec (.clcx p cd cs1 cs2) s = .next t ∧ OnlyRegister s t p b cd ⟨v.bits, v.tag && a.has permLC⟩ ∧
        SameMemory s t ∧ SameUnits s t) ∧
    (∀ ea v, ea = effAddr a (immDisp imm 16) → ea % 16 = 0 → v = s.src p b cd.toNat →
      PlainAccess s p b a ea 16 (if !v.tag then [permST] else if v.has permGL then [permST, permSC] else [permST, permSC, permSL]) →
      Issues (.csc p cd cs1 imm) p b s →
      ∃ t, exec (.csc p cd cs1 imm) s = .next t ∧ t.capAt .dram ea = v ∧ SameBytesOutside s t ea 16 ∧ SameTagsOutside s t ea 16 ∧
        SameRegisters s t ∧ SameUnits s t ∧ t.tcm = s.tcm ∧ t.jarr = s.jarr ∧ t.boot = s.boot ∧ t.bitmap = s.bitmap) ∧
    (∀ ea v, ea = effAddr a (((s.srcX p b cs2.toNat).toNat : Int)) → ea % 16 = 0 → v = s.src p b cd.toNat →
      PlainAccess s p b a ea 16 (if !v.tag then [permST] else if v.has permGL then [permST, permSC] else [permST, permSC, permSL]) →
      Issues (.cscx p cd cs1 cs2) p b s →
      ∃ t, exec (.cscx p cd cs1 cs2) s = .next t ∧ t.capAt .dram ea = v ∧ SameBytesOutside s t ea 16 ∧ SameTagsOutside s t ea 16 ∧
        SameRegisters s t ∧ SameUnits s t ∧ t.tcm = s.tcm ∧ t.jarr = s.jarr ∧ t.boot = s.boot ∧ t.bitmap = s.bitmap)) ∧
  (∀ (p b : Nat) (cd cs1 : RegIx) (imm : Imm) (s : State) (a v : Cap) (ea : Nat), a = s.src p b cs1.toNat → Quiet s →
    ea = effAddr a (immDisp imm 16) → ea % 16 = 0 → v = s.capAt .dram ea → PlainAccess s p b a ea 16 [permLD] →
    Issues (.clc p cd cs1 imm) p b s → a.has permLC = true → v.tag = true → v.malformed = false → neverRevoked v = false →
    v.base < 2 ^ 41 → (isSentinel p = true → 0x80000 ≤ v.base) → s.eclipsed v.base = true →
      ∃ t, exec (.clc p cd cs1 imm) s = .next t ∧ OnlyRegister s t p b cd ⟨v.bits, false⟩ ∧ SameMemory s t ∧
        t.rd Addr.ECL_CNT_LBCLR = (if s.rd Addr.ECL_CNT_LBCLR = BitVec.allOnes 64 then BitVec.allOnes 64
          else s.rd Addr.ECL_CNT_LBCLR + 1))

/-- LRC reserves a line; SCC stores only while the reservation holds (R152, R153). -/
def Obligations.ReservationPair : Prop :=
  ∀ (p b : Nat) (cd cs1 cs2 : RegIx) (s : State) (a v : Cap) (x : Word), a = s.src p b cs1.toNat → x = s.srcX p b cs2.toNat →
    v = s.src p b cs2.toNat → Quiet s →
    (PlainAccess s p b a a.addr 8 [permLD] → a.addr % 8 = 0 → Issues (.lrcD p cd cs1) p b s →
      ∃ t, exec (.lrcD p cd cs1) s = .next t ∧ OnlyRegister s t p b cd (intCap (BitVec.ofNat 64 (s.numAt .dram a.addr 8))) ∧
        (t.pair p).resv = some (a.addr / 64) ∧ SameMemory s t ∧ SameUnits s t) ∧
    (PlainAccess s p b a a.addr 16 [permLD] → a.addr % 16 = 0 → (s.tagAt .dram a.addr = false ∨ a.has permLC = false) →
      Issues (.lrcC p cd cs1) p b s →
      ∃ t, exec (.lrcC p cd cs1) s = .next t ∧ OnlyRegister s t p b cd ⟨(s.capAt .dram a.addr).bits, false⟩ ∧
        (t.pair p).resv = some (a.addr / 64) ∧ SameMemory s t ∧ SameUnits s t) ∧
    (PlainAccess s p b a a.addr 8 [permST] → a.addr % 8 = 0 → Issues (.sccD p cd cs1 cs2) p b s →
      ∃ t, exec (.sccD p cd cs1 cs2) s = .next t ∧ (t.pair p).resv = none ∧ SameUnits s t ∧
        ((s.pair p).resv = some (a.addr / 64) →
          (t.bank p b).reg cd.toNat = nullCap ∧ t.numAt .dram a.addr 8 = x.toNat ∧ SameBytesOutside s t a.addr 8 ∧
            SameTagsOutside s t a.addr 8) ∧
        ((s.pair p).resv ≠ some (a.addr / 64) →
          (t.bank p b).reg cd.toNat = (if cd = 0 then nullCap else intCap 1) ∧ SameMemory s t)) ∧
    (PlainAccess s p b a a.addr 16 (storeNeed v) → a.addr % 16 = 0 → Issues (.sccC p cd cs1 cs2) p b s →
      ∃ t, exec (.sccC p cd cs1 cs2) s = .next t ∧ (t.pair p).resv = none ∧ SameUnits s t ∧
        ((s.pair p).resv = some (a.addr / 64) →
          (t.bank p b).reg cd.toNat = nullCap ∧ t.capAt .dram a.addr = v ∧ SameBytesOutside s t a.addr 16 ∧
            SameTagsOutside s t a.addr 16) ∧
        ((s.pair p).resv ≠ some (a.addr / 64) →
          (t.bank p b).reg cd.toNat = (if cd = 0 then nullCap else intCap 1) ∧ SameMemory s t))

/-- Accumulator moves; FSYNC ends when no ARITH is pending (R122, R184, R192). -/
def Obligations.AccumulatorMovesAndFsync : Prop :=
  (∀ (p b : Nat) (ad as_ : AccIx) (cd cs1 cs2 : RegIx) (s : State) (A B : AccWord) (x y : Word) (w : Wide), A = (s.pair p).acc ad.toNat → B = (s.pair p).acc as_.toNat →
    x = s.srcX p b cs1.toNat → y = s.srcX p b cs2.toNat → w = s.srcW p b cs1.toNat → Quiet s → (s.bank p b).lazy = false →
    (Issues (.aclr p ad) p b s → exec (.aclr p ad) s = .next (accDone s p b ad (0) noFlags)) ∧
    (Issues (.amova p ad as_) p b s → exec (.amova p ad as_) s = .next (accDone s p b ad (B) noFlags)) ∧
    (Issues (.asetw p ad cs1) p b s → exec (.asetw p ad cs1) s = .next (accDone s p b ad (w.signExtend 144) noFlags)) ∧
    (Issues (.asetx p ad cs1) p b s → exec (.asetx p ad cs1) s = .next (accDone s p b ad (x.signExtend 144 <<< 64) noFlags)) ∧
    (Issues (.asetm p ad cs1) p b s → exec (.asetm p ad cs1) s = .next (accDone s p b ad (x.signExtend 144) noFlags)) ∧
    (Issues (.asetg p ad cs1) p b s → exec (.asetg p ad cs1) s = .next (accDone s p b ad (x.setWidth 16 ++ A.setWidth 128) noFlags)) ∧
    (Issues (.agetg p cd as_) p b s → exec (.agetg p cd as_) s = .next (fixDoneX s p b cd (((B >>> 128).setWidth 16).signExtend 64) noFlags)) ∧
    (Issues (.agetr p cd as_) p b s → exec (.agetr p cd as_) s = .next (fixDoneW s p b cd (B.setWidth 128) noFlags))) ∧
  (∀ (p b : Nat) (s : State), Quiet s → (s.bank p b).apend = false → Issues (.fsync p) p b s →
    exec (.fsync p) s = .next (retired p (issued s p b)))

/-- Multiply, multiply-accumulate and accumulator sums are exact, and are fitted once (R122, R179, R185, R191). -/
def Obligations.MultiplyAccumulate : Prop :=
  ∀ (p b : Nat) (ad as_ : AccIx) (cd cs1 cs2 : RegIx) (s : State) (A B : AccWord) (x y : Word) (w : Wide), A = (s.pair p).acc ad.toNat → B = (s.pair p).acc as_.toNat →
    x = s.srcX p b cs1.toNat → y = s.srcX p b cs2.toNat → w = s.srcW p b cs1.toNat → Quiet s → (s.bank p b).lazy = false →
    (Issues (.qmul p ad cs1 cs2) p b s → ∃ (v : AccWord) (ov satf : Bool), FitsAs (2 * (x.toInt * y.toInt)) 1 (s.bank p b).sat v ov satf ∧
      (ov = false ∨ (s.bank p b).pa = false → exec (.qmul p ad cs1 cs2) s = .next (accDone s p b ad v ⟨ov, satf, false, false, false⟩))) ∧
    (Issues (.qmac p ad cs1 cs2) p b s → ∃ (v : AccWord) (ov satf : Bool), FitsAs (A.toInt + 2 * (x.toInt * y.toInt)) 1 (s.bank p b).sat v ov satf ∧
      (ov = false ∨ (s.bank p b).pa = false → exec (.qmac p ad cs1 cs2) s = .next (accDone s p b ad v ⟨ov, satf, false, false, false⟩))) ∧
    (Issues (.qmsu p ad cs1 cs2) p b s → ∃ (v : AccWord) (ov satf : Bool), FitsAs (A.toInt - 2 * (x.toInt * y.toInt)) 1 (s.bank p b).sat v ov satf ∧
      (ov = false ∨ (s.bank p b).pa = false → exec (.qmsu p ad cs1 cs2) s = .next (accDone s p b ad v ⟨ov, satf, false, false, false⟩))) ∧
    (Issues (.mmul p ad cs1 cs2) p b s → ∃ (v : AccWord) (ov satf : Bool), FitsAs (x.toInt * y.toInt) 1 (s.bank p b).sat v ov satf ∧
      (ov = false ∨ (s.bank p b).pa = false → exec (.mmul p ad cs1 cs2) s = .next (accDone s p b ad v ⟨ov, satf, false, false, false⟩))) ∧
    (Issues (.mmac p ad cs1 cs2) p b s → ∃ (v : AccWord) (ov satf : Bool), FitsAs (A.toInt + x.toInt * y.toInt) 1 (s.bank p b).sat v ov satf ∧
      (ov = false ∨ (s.bank p b).pa = false → exec (.mmac p ad cs1 cs2) s = .next (accDone s p b ad v ⟨ov, satf, false, false, false⟩))) ∧
    (Issues (.mmsu p ad cs1 cs2) p b s → ∃ (v : AccWord) (ov satf : Bool), FitsAs (A.toInt - x.toInt * y.toInt) 1 (s.bank p b).sat v ov satf ∧
      (ov = false ∨ (s.bank p b).pa = false → exec (.mmsu p ad cs1 cs2) s = .next (accDone s p b ad v ⟨ov, satf, false, false, false⟩))) ∧
    (Issues (.aaddw p ad cs1) p b s → ∃ (v : AccWord) (ov satf : Bool), FitsAs (A.toInt + w.toInt) 1 (s.bank p b).sat v ov satf ∧
      (ov = false ∨ (s.bank p b).pa = false → exec (.aaddw p ad cs1) s = .next (accDone s p b ad v ⟨ov, satf, false, false, false⟩))) ∧
    (Issues (.asubw p ad cs1) p b s → ∃ (v : AccWord) (ov satf : Bool), FitsAs (A.toInt - w.toInt) 1 (s.bank p b).sat v ov satf ∧
      (ov = false ∨ (s.bank p b).pa = false → exec (.asubw p ad cs1) s = .next (accDone s p b ad v ⟨ov, satf, false, false, false⟩))) ∧
    (Issues (.aaddq p ad cs1) p b s → ∃ (v : AccWord) (ov satf : Bool), FitsAs (A.toInt + x.toInt * 2 ^ 64) 1 (s.bank p b).sat v ov satf ∧
      (ov = false ∨ (s.bank p b).pa = false → exec (.aaddq p ad cs1) s = .next (accDone s p b ad v ⟨ov, satf, false, false, false⟩))) ∧
    (Issues (.asubq p ad cs1) p b s → ∃ (v : AccWord) (ov satf : Bool), FitsAs (A.toInt - x.toInt * 2 ^ 64) 1 (s.bank p b).sat v ov satf ∧
      (ov = false ∨ (s.bank p b).pa = false → exec (.asubq p ad cs1) s = .next (accDone s p b ad v ⟨ov, satf, false, false, false⟩))) ∧
    (Issues (.aadda p ad as_) p b s → ∃ (v : AccWord) (ov satf : Bool), FitsAs (A.toInt + B.toInt) 1 (s.bank p b).sat v ov satf ∧
      (ov = false ∨ (s.bank p b).pa = false → exec (.aadda p ad as_) s = .next (accDone s p b ad v ⟨ov, satf, false, false, false⟩))) ∧
    (Issues (.aneg p ad) p b s → ∃ (v : AccWord) (ov satf : Bool), FitsAs (-A.toInt) 1 (s.bank p b).sat v ov satf ∧
      (ov = false ∨ (s.bank p b).pa = false → exec (.aneg p ad) s = .next (accDone s p b ad v ⟨ov, satf, false, false, false⟩)))

/-- Fixed-point add, subtract and negate; a first overflow sets APEND (R176, R179, R187, R191). -/
def Obligations.FixedAddSubtractAndPendingOverflow : Prop :=
  (∀ (p b : Nat) (as_ : AccIx) (cd cs1 cs2 : RegIx) (s : State) (B : AccWord) (x y : Word) (u w : Wide), B = (s.pair p).acc as_.toNat → x = s.srcX p b cs1.toNat →
    y = s.srcX p b cs2.toNat → u = s.srcW p b cs1.toNat → w = s.srcW p b cs2.toNat → Quiet s → (s.bank p b).lazy = false →
    (s.bank p b).rm ≤ 5 → (s.bank p b).bkq ≠ 0 →
    (Issues (.qadd p cd cs1 cs2) p b s → ∃ (v : Word) (ov satf : Bool), FitsAs (x.toInt + y.toInt) 1 (s.bank p b).sat v ov satf ∧
      (ov = false ∨ (s.bank p b).pa = false → exec (.qadd p cd cs1 cs2) s = .next (fixDoneX s p b cd v ⟨ov, satf, false, false, false⟩))) ∧
    (Issues (.qsub p cd cs1 cs2) p b s → ∃ (v : Word) (ov satf : Bool), FitsAs (x.toInt - y.toInt) 1 (s.bank p b).sat v ov satf ∧
      (ov = false ∨ (s.bank p b).pa = false → exec (.qsub p cd cs1 cs2) s = .next (fixDoneX s p b cd v ⟨ov, satf, false, false, false⟩))) ∧
    (Issues (.qneg p cd cs1) p b s → ∃ (v : Word) (ov satf : Bool), FitsAs (-x.toInt) 1 (s.bank p b).sat v ov satf ∧
      (ov = false ∨ (s.bank p b).pa = false → exec (.qneg p cd cs1) s = .next (fixDoneX s p b cd v ⟨ov, satf, false, false, false⟩))) ∧
    (Issues (.wqadd p cd cs1 cs2) p b s → ∃ (v : Wide) (ov satf : Bool), FitsAs (u.toInt + w.toInt) 1 (s.bank p b).sat v ov satf ∧
      (ov = false ∨ (s.bank p b).pa = false → exec (.wqadd p cd cs1 cs2) s = .next (fixDoneW s p b cd v ⟨ov, satf, false, false, false⟩))) ∧
    (Issues (.wqsub p cd cs1 cs2) p b s → ∃ (v : Wide) (ov satf : Bool), FitsAs (u.toInt - w.toInt) 1 (s.bank p b).sat v ov satf ∧
      (ov = false ∨ (s.bank p b).pa = false → exec (.wqsub p cd cs1 cs2) s = .next (fixDoneW s p b cd v ⟨ov, satf, false, false, false⟩))) ∧
    (Issues (.wqneg p cd cs1) p b s → ∃ (v : Wide) (ov satf : Bool), FitsAs (-u.toInt) 1 (s.bank p b).sat v ov satf ∧
      (ov = false ∨ (s.bank p b).pa = false → exec (.wqneg p cd cs1) s = .next (fixDoneW s p b cd v ⟨ov, satf, false, false, false⟩))) ∧
    (Issues (.qtow p cd cs1) p b s → exec (.qtow p cd cs1) s = .next (fixDoneW s p b cd (x ++ (0 : Word)) noFlags))) ∧
  (∀ (p b : Nat) (cd cs1 cs2 : RegIx) (s : State) (e : Int), e = (s.srcX p b cs1.toNat).toInt + (s.srcX p b cs2.toNat).toInt →
    Quiet s → (s.bank p b).lazy = false → (s.bank p b).sat = false → ¬ (-2 ^ 63 ≤ e ∧ e ≤ 2 ^ 63 - 1) →
    Issues (.qadd p cd cs1 cs2) p b s →
      ((s.bank p b).pa = false → ∃ t, exec (.qadd p cd cs1 cs2) s = .next t ∧
        (t.bank p b).reg cd.toNat = (if cd = 0 then nullCap else intCap (BitVec.ofInt 64 e)) ∧ (t.bank p b).apend = true ∧
        (t.bank p b).amode.getLsbD 8 = true) ∧
      ((s.bank p b).pa = true → (∃ u, (sylQadd cd cs1 cs2) ((issued s p b).ctxFor p b ⟨3, [cs1.toNat, cs2.toNat], [cd.toNat], none, false, true, false, false, false⟩) (issued s p b)
        = .flt (flt0 arith) u ∧ u = (issued s p b).addFlags p b (flagOV true))))

/-- Rounding syllables round the exact value once, by AMODE.RM, and fit it (R178, R179, R186, R187). -/
def Obligations.RoundingSyllables : Prop :=
  ∀ (p b : Nat) (as_ : AccIx) (cd cs1 cs2 : RegIx) (s : State) (B : AccWord) (x y : Word) (u w : Wide), B = (s.pair p).acc as_.toNat → x = s.srcX p b cs1.toNat →
    y = s.srcX p b cs2.toNat → u = s.srcW p b cs1.toNat → w = s.srcW p b cs2.toNat → Quiet s → (s.bank p b).lazy = false →
    (s.bank p b).rm ≤ 5 → (s.bank p b).bkq ≠ 0 →
    (Issues (.arndq p cd as_) p b s → ∃ (r : Int) (inx bkr : Bool) (v : Word) (ov satf : Bool),
      RoundedTo (B.toInt) (2 ^ 64) (s.bank p b).qr (s.bank p b).rm r inx bkr ∧ FitsAs r (s.bank p b).qr (s.bank p b).sat v ov satf ∧
      (ov = false ∨ (s.bank p b).pa = false → exec (.arndq p cd as_) s = .next (fixDoneX s p b cd v ⟨ov, satf, inx, false, bkr⟩))) ∧
    (Issues (.arndw p cd as_) p b s → ∃ (r : Int) (inx bkr : Bool) (v : Wide) (ov satf : Bool),
      RoundedTo (B.toInt) (1) (s.bank p b).qr (s.bank p b).rm r inx bkr ∧ FitsAs r (s.bank p b).qr (s.bank p b).sat v ov satf ∧
      (ov = false ∨ (s.bank p b).pa = false → exec (.arndw p cd as_) s = .next (fixDoneW s p b cd v ⟨ov, satf, inx, false, bkr⟩))) ∧
    (Issues (.arndm p cd as_) p b s → ∃ (r : Int) (inx bkr : Bool) (v : Word) (ov satf : Bool),
      RoundedTo (B.toInt) (1) (s.bank p b).qr (s.bank p b).rm r inx bkr ∧ FitsAs r (s.bank p b).qr (s.bank p b).sat v ov satf ∧
      (ov = false ∨ (s.bank p b).pa = false → exec (.arndm p cd as_) s = .next (fixDoneX s p b cd v ⟨ov, satf, inx, false, bkr⟩))) ∧
    (Issues (.ashrq p cd as_ cs2) p b s → ∃ (r : Int) (inx bkr : Bool) (v : Word) (ov satf : Bool),
      RoundedTo (B.toInt) (2 ^ y.toNat) (s.bank p b).qr (s.bank p b).rm r inx bkr ∧ FitsAs r (s.bank p b).qr (s.bank p b).sat v ov satf ∧
      (ov = false ∨ (s.bank p b).pa = false → exec (.ashrq p cd as_ cs2) s = .next (fixDoneX s p b cd v ⟨ov, satf, inx, false, bkr⟩))) ∧
    (Issues (.ashrw p cd as_ cs2) p b s → ∃ (r : Int) (inx bkr : Bool) (v : Wide) (ov satf : Bool),
      RoundedTo (B.toInt) (2 ^ y.toNat) (s.bank p b).qr (s.bank p b).rm r inx bkr ∧ FitsAs r (s.bank p b).qr (s.bank p b).sat v ov satf ∧
      (ov = false ∨ (s.bank p b).pa = false → exec (.ashrw p cd as_ cs2) s = .next (fixDoneW s p b cd v ⟨ov, satf, inx, false, bkr⟩))) ∧
    (Issues (.qmulr p cd cs1 cs2) p b s → ∃ (r : Int) (inx bkr : Bool) (v : Word) (ov satf : Bool),
      RoundedTo (x.toInt * y.toInt) (2 ^ 63) (s.bank p b).qr (s.bank p b).rm r inx bkr ∧ FitsAs r (s.bank p b).qr (s.bank p b).sat v ov satf ∧
      (ov = false ∨ (s.bank p b).pa = false → exec (.qmulr p cd cs1 cs2) s = .next (fixDoneX s p b cd v ⟨ov, satf, inx, false, bkr⟩))) ∧
    (Issues (.wqmulr p cd cs1 cs2) p b s → ∃ (r : Int) (inx bkr : Bool) (v : Wide) (ov satf : Bool),
      RoundedTo (u.toInt * w.toInt) (2 ^ 127) (s.bank p b).qr (s.bank p b).rm r inx bkr ∧ FitsAs r (s.bank p b).qr (s.bank p b).sat v ov satf ∧
      (ov = false ∨ (s.bank p b).pa = false → exec (.wqmulr p cd cs1 cs2) s = .next (fixDoneW s p b cd v ⟨ov, satf, inx, false, bkr⟩))) ∧
    (Issues (.wtoq p cd cs1) p b s → ∃ (r : Int) (inx bkr : Bool) (v : Word) (ov satf : Bool),
      RoundedTo (u.toInt) (2 ^ 64) (s.bank p b).qr (s.bank p b).rm r inx bkr ∧ FitsAs r (s.bank p b).qr (s.bank p b).sat v ov satf ∧
      (ov = false ∨ (s.bank p b).pa = false → exec (.wtoq p cd cs1) s = .next (fixDoneX s p b cd v ⟨ov, satf, inx, false, bkr⟩))) ∧
    (Issues (.mmulq p cd cs1) p b s → ∃ (r : Int) (inx bkr : Bool) (v : Wide) (ov satf : Bool),
      RoundedTo ((s.srcW p b cd.toNat).toInt * x.toInt) (2 ^ 63) (s.bank p b).qr (s.bank p b).rm r inx bkr ∧ FitsAs r (s.bank p b).qr (s.bank p b).sat v ov satf ∧
      (ov = false ∨ (s.bank p b).pa = false → exec (.mmulq p cd cs1) s = .next (fixDoneW s p b cd v ⟨ov, satf, inx, false, bkr⟩)))

/-- Fixed-point division rounds once, answers a zero divisor, and breakage rounds to BKQ (R178, R179, R180, R188, R189, R191). -/
def Obligations.DivisionAndBreakage : Prop :=
  ∀ (p b : Nat) (as_ : AccIx) (cd cs1 cs2 : RegIx) (s : State) (B : AccWord) (x y : Word) (u w : Wide), B = (s.pair p).acc as_.toNat → x = s.srcX p b cs1.toNat →
    y = s.srcX p b cs2.toNat → u = s.srcW p b cs1.toNat → w = s.srcW p b cs2.toNat → Quiet s → (s.bank p b).lazy = false →
    (s.bank p b).rm ≤ 5 → (s.bank p b).bkq ≠ 0 →
    (∀ n d : Int, n = x.toInt * 2 ^ 63 → d = y.toInt → Issues (.qdiv p cd cs1 cs2) p b s →
      (d ≠ 0 → ∃ (r : Int) (inx bkr : Bool) (v : Word) (ov satf : Bool),
        RoundedTo (if d < 0 then -n else n) d.natAbs (s.bank p b).qr (s.bank p b).rm r inx bkr ∧ FitsAs r (s.bank p b).qr (s.bank p b).sat v ov satf ∧
        (ov = false ∨ (s.bank p b).pa = false → exec (.qdiv p cd cs1 cs2) s = .next (fixDoneX s p b cd v ⟨ov, satf, inx, false, bkr⟩))) ∧
      (d = 0 → (s.bank p b).pa = false → exec (.qdiv p cd cs1 cs2) s = .next (fixDoneX s p b cd
        (if 0 < n then BitVec.intMax 64 else if n < 0 then BitVec.intMin 64 else 0) (flagDZ true)))) ∧
    (∀ n d : Int, n = u.toInt * 2 ^ 127 → d = w.toInt → Issues (.wqdiv p cd cs1 cs2) p b s →
      (d ≠ 0 → ∃ (r : Int) (inx bkr : Bool) (v : Wide) (ov satf : Bool),
        RoundedTo (if d < 0 then -n else n) d.natAbs (s.bank p b).qr (s.bank p b).rm r inx bkr ∧ FitsAs r (s.bank p b).qr (s.bank p b).sat v ov satf ∧
        (ov = false ∨ (s.bank p b).pa = false → exec (.wqdiv p cd cs1 cs2) s = .next (fixDoneW s p b cd v ⟨ov, satf, inx, false, bkr⟩))) ∧
      (d = 0 → (s.bank p b).pa = false → exec (.wqdiv p cd cs1 cs2) s = .next (fixDoneW s p b cd
        (if 0 < n then BitVec.intMax 128 else if n < 0 then BitVec.intMin 128 else 0) (flagDZ true)))) ∧
    (∀ n d : Int, n = u.toInt → d = w.toInt → Issues (.mdiv p cd cs1 cs2) p b s →
      (d ≠ 0 → ∃ (r : Int) (inx bkr : Bool) (v : Wide) (ov satf : Bool),
        RoundedTo (if d < 0 then -n else n) d.natAbs (s.bank p b).qr (s.bank p b).rm r inx bkr ∧ FitsAs r (s.bank p b).qr (s.bank p b).sat v ov satf ∧
        (ov = false ∨ (s.bank p b).pa = false → exec (.mdiv p cd cs1 cs2) s = .next (fixDoneW s p b cd v ⟨ov, satf, inx, false, bkr⟩))) ∧
      (d = 0 → (s.bank p b).pa = false → exec (.mdiv p cd cs1 cs2) s = .next (fixDoneW s p b cd
        (if 0 < n then BitVec.intMax 128 else if n < 0 then BitVec.intMin 128 else 0) (flagDZ true)))) ∧
    (∀ n d : Int, n = (s.srcW p b cd.toNat).toInt * u.toInt → d = w.toInt → Issues (.mscale p cd cs1 cs2) p b s →
      (d ≠ 0 → ∃ (r : Int) (inx bkr : Bool) (v : Wide) (ov satf : Bool),
        RoundedTo (if d < 0 then -n else n) d.natAbs (s.bank p b).qr (s.bank p b).rm r inx bkr ∧ FitsAs r (s.bank p b).qr (s.bank p b).sat v ov satf ∧
        (ov = false ∨ (s.bank p b).pa = false → exec (.mscale p cd cs1 cs2) s = .next (fixDoneW s p b cd v ⟨ov, satf, inx, false, bkr⟩))) ∧
      (d = 0 → (s.bank p b).pa = false → exec (.mscale p cd cs1 cs2) s = .next (fixDoneW s p b cd
        (if 0 < n then BitVec.intMax 128 else if n < 0 then BitVec.intMin 128 else 0) (flagDZ true)))) ∧
    (Issues (.mrnd p cd cs1) p b s → ∃ (r : Int) (inx bkr : Bool) (v : Wide) (ov satf : Bool),
      RoundedTo (u.toInt) (1) (s.bank p b).bkq.toNat (s.bank p b).rm r inx bkr ∧ FitsAs r (s.bank p b).bkq.toNat (s.bank p b).sat v ov satf ∧
      (ov = false ∨ (s.bank p b).pa = false → exec (.mrnd p cd cs1) s = .next (fixDoneW s p b cd v ⟨ov, satf, inx, false, bkr⟩))) ∧
    (Issues (.mrndx p cd cs1) p b s → ∃ (r : Int) (inx bkr : Bool) (v : Word) (ov satf : Bool),
      RoundedTo (x.toInt) (1) (s.bank p b).bkq.toNat (s.bank p b).rm r inx bkr ∧ FitsAs r (s.bank p b).bkq.toNat (s.bank p b).sat v ov satf ∧
      (ov = false ∨ (s.bank p b).pa = false → exec (.mrndx p cd cs1) s = .next (fixDoneX s p b cd v ⟨ov, satf, inx, false, bkr⟩))) ∧
    (Issues (.mbrk p cd cs1) p b s → ∃ (r : Int) (inx bkr : Bool), RoundedTo u.toInt 1 (s.bank p b).bkq.toNat (s.bank p b).rm r inx bkr ∧
      exec (.mbrk p cd cs1) s = .next (fixDoneW s p b cd (BitVec.ofInt 128 (u.toInt - r)) ⟨false, false, inx, false, bkr⟩))

/-- A syllable that its body completes takes effect as its body says, and nothing else (R15, R113, R133). -/
def Obligations.SyllableCompletes : Prop :=
  ∀ (i : Instr) (p b : Nat) (s u : State) (n : SylInfo) (f : Body) (l : Bool), pairOf i = some p → Issues i p b s →
    infoOf i = some n → bodyOf i = some f → f ((issued s p b).ctxFor p b n) (issued s p b) = .ok l u → AtRest s u →
    exec i s = .next (if n.load then retiredLoad p u else retired p u)

/-- A fault of a syllable is taken from the state that the syllable leaves (R113, R206, R230). -/
def Obligations.SyllableFaultsAreTaken : Prop :=
  ∀ (i : Instr) (p b : Nat) (s u : State) (n : SylInfo) (f : Body) (g : PFault), pairOf i = some p → Issues i p b s →
    infoOf i = some n → bodyOf i = some f → f ((issued s p b).ctxFor p b n) (issued s p b) = .flt g u →
    (s.tallyBusy p b = false → AtRest s ((u.faultOf p b g n.unit (g.cause == arith && !n.arith)).stepped p) →
      exec i s = .next ((u.faultOf p b g n.unit (g.cause == arith && !n.arith)).stepped p)) ∧
    (s.tallyBusy p b = true → Quiet s → exec i s = .next { s with out := [] })

/-- A sentinel fault enters bank 1; a second fault locks the sentinel up (R229, R230, R231, R239, R241). -/
def Obligations.SentinelFaults : Prop :=
  (∀ (p : Nat) (cd cs1 : RegIx) (imm : Imm) (s : State) (a : Cap), 96 ≤ p → p < 104 → Quiet s → a = s.src p 0 cs1.toNat →
    a.malformed = false → a.tag = false → (s.bank p 0).escd = false → (s.pair p).shadow = [] → s.tallyBusy p 0 = false →
    esccOk (s.pair p).escc = true → esscOk (s.pair p).essc = true → (s.bank p 0).task = none → Issues (.ld p cd cs1 imm) p 0 s →
    ∃ t, exec (.ld p cd cs1 imm) s = .next t ∧ (t.pair p).run = some 1 ∧ (t.pair p).resv = none ∧
      (t.bank p 1).pcc = (s.pair p).escc.withOtype 0 true ∧ (t.bank p 1).status = 5 ∧ (t.bank p 1).prior = some (.bank 0) ∧
      (t.bank p 1).reg 2 = (s.pair p).essc ∧ (t.bank p 1).reg 28 = intCap (BitVec.ofNat 64 (0x01 + 1 * 2 ^ 8)) ∧
      (t.bank p 1).reg 29 = intCap (BitVec.ofNat 64 (effAddr a (immDisp imm 8))) ∧
      (t.bank p 1).reg 30 = intCap (BitVec.ofNat 64 (s.bank p 0).pcc.addr) ∧ (t.bank p 1).reg 31 = nullCap ∧
      (t.bank p 0).st = .preempted ∧ (∀ n, (t.bank p 0).reg n = (s.bank p 0).reg n) ∧ SameMemory s t) ∧
  (∀ (p b : Nat) (cd cs1 : RegIx) (imm : Imm) (s : State) (a : Cap), Quiet s → a = s.src p b cs1.toNat → a.malformed = false →
    a.tag = false → s.tallyBusy p b = false → Issues (.ld p cd cs1 imm) p b s →
    ((s.bank p b).escd = true ∨ (96 ≤ p ∧ (esccOk (s.pair p).escc = false ∨ esscOk (s.pair p).essc = false))) →
    ∃ t, exec (.ld p cd cs1 imm) s = .next t ∧ (t.pair p).halt = some .lockup ∧ (t.pair p).run = none ∧
      (t.pair p).resv = none ∧ SameMemory s t ∧
      (if p < 64 then (t.rd Addr.EXC_LOCKUP0).getLsbD p = true else (t.rd Addr.EXC_LOCKUP1).getLsbD (p - 64) = true))

/-- Branches and jumps set the PCC; LOOP, REPI and REPU repeat (R54, R55, R161, R160, R164, R166). -/
def Obligations.ControlTransfersAndLoops : Prop :=
  (∀ (p b : Nat) (cd cs1 : RegIx) (imm : Imm) (s : State) (c k : Cap) (x : Nat), c = s.src p b cs1.toNat → k = (s.bank p b).pcc →
    x = addrOf ((k.addr : Int) + 4 * immVal imm) → Quiet s →
    (k.base ≤ x → x + 4 ≤ k.top → Issues (.br p imm) p b s →
      exec (.br p imm) s = .next (bankDone s p b (fun k => { k with pcc := k.pcc.withAddr x (k.pcc.tag && k.pcc.representable x) }))) ∧
    (checkTarget c = none → Issues (.cjr p cs1) p b s →
      exec (.cjr p cs1) s = .next (bankDone s p b (fun k => { k with pcc := c.withOtype 0 true }))) ∧
    (checkTarget c = none → k.addr + 4 < 2 ^ 64 → Issues (.cjalr p cd cs1) p b s →
      ∃ t, exec (.cjalr p cd cs1) s = .next t ∧ (t.bank p b).pcc = c.withOtype 0 true ∧
        (t.bank p b).reg cd.toNat = (if cd = 0 then nullCap
          else (k.withAddr (k.addr + 4) (k.tag && k.representable (k.addr + 4))).withOtype 0xFF01
            (k.tag && k.representable (k.addr + 4))) ∧
        (∀ n, n ≠ cd.toNat → (t.bank p b).reg n = (s.bank p b).reg n) ∧ SameMemory s t ∧ SameUnits s t)) ∧
  (∀ (p b : Nat) (cs1 : RegIx) (imm : Imm) (s u : State) (x : Word) (k : Cap), x = s.srcX p b cs1.toNat → k = (s.bank p b).pcc →
    AtRest s u →
    (∀ (le nx : Nat) (ws : List Nat), le = addrOf ((k.addr : Int) + 4 * immVal imm) →
      nx = addrOf ((k.addr : Int) + (if immExt imm then 8 else 4)) → nx ≤ le →
      fetchWords p b le (issued s p b) 5 = .ok (some ws) u → Issues (.loop p cs1 imm) p b s →
      ∃ t, exec (.loop p cs1 imm) s = .next t ∧ (t.bank p b).lc = x ∧ (t.bank p b).ls = BitVec.ofNat 64 nx ∧
        (t.bank p b).le = BitVec.ofNat 64 le ∧
        (t.bank p b).pcc = ((u.bank p b).moveTo (if x = 0 then addrOf ((le : Int) + 4 * (ws.length : Int)) else nx)).pcc ∧
        (∀ n, (t.bank p b).reg n = (u.bank p b).reg n) ∧ SameMemory u t ∧ SameUnits u t) ∧
    (∀ (nx : Nat) (v : Bundle), nx = addrOf ((k.addr : Int) + 4) → fetchBundle p b nx true (issued s p b) = .ok v u →
      repeatable v = true →
      (Issues (.repi p cs1) p b s → ∃ t, exec (.repi p cs1) s = .next t ∧ (t.bank p b).lc = x ∧
        (t.bank p b).rep = (if x = 0 then 0 else 1) ∧
        (t.bank p b).pcc = ((u.bank p b).moveTo (if x = 0 then addrOf ((nx : Int) + v.len) else nx)).pcc ∧
        (∀ n, (t.bank p b).reg n = (u.bank p b).reg n) ∧ SameMemory u t ∧ SameUnits u t) ∧
      (x ≤ 64 → Issues (.repu p cs1) p b s → ∃ t, exec (.repu p cs1) s = .next t ∧ (t.bank p b).lc = x ∧
        (t.bank p b).rep = (if x = 0 then 0 else 2) ∧
        (t.bank p b).pcc = ((u.bank p b).moveTo (if x = 0 then addrOf ((nx : Int) + v.len) else nx)).pcc ∧
        (∀ n, (t.bank p b).reg n = (u.bank p b).reg n) ∧ SameMemory u t ∧ SameUnits u t)))

/-- MFS and MTS read and write the special registers; those with a guard fault without it (R124, R125, R129, R132, R286, R231). -/
def Obligations.SpecialRegisterAccess : Prop :=
  (∀ (p b : Nat) (cd cs1 : RegIx) (s : State) (c : Cap) (x : Word) (k : Bank) (v : Pair), c = s.src p b cs1.toNat → x = s.srcX p b cs1.toNat →
    k = s.bank p b → v = s.pair p → Quiet s → v.bankw.getLsbD 8 = false →
    (Issues (.mfs p cd 0 0) p b s → exec (.mfs p cd 0 0) s = .next (capDone s p b cd (k.pcc))) ∧
    (Issues (.mfs p cd 1 0) p b s → exec (.mfs p cd 1 0) s = .next (capDone s p b cd (intCap (BitVec.ofNat 64 (setBitsAt k.status.toNat 1 1 (b2n v.det)))))) ∧
    (Issues (.mfs p cd 2 0) p b s → exec (.mfs p cd 2 0) s = .next (capDone s p b cd (intCap k.amode))) ∧
    (p < 96 → Issues (.mfs p cd 3 0) p b s → exec (.mfs p cd 3 0) s = .next (capDone s p b cd (intCap k.bkq))) ∧
    (Issues (.mfs p cd 4 0) p b s → exec (.mfs p cd 4 0) s = .next (capDone s p b cd (intCap k.lc))) ∧
    (Issues (.mfs p cd 5 0) p b s → exec (.mfs p cd 5 0) s = .next (capDone s p b cd (intCap k.ls))) ∧
    (Issues (.mfs p cd 6 0) p b s → exec (.mfs p cd 6 0) s = .next (capDone s p b cd (intCap k.le))) ∧
    (Issues (.mfs p cd 7 0) p b s → exec (.mfs p cd 7 0) s = .next (capDone s p b cd (intCap v.ctxcfg))) ∧
    (k.pcc.has permSY = true → Issues (.mfs p cd 8 0) p b s → exec (.mfs p cd 8 0) s = .next (capDone s p b cd (k.tsbc))) ∧
    (k.pcc.has permSY = true → Issues (.mfs p cd 9 0) p b s → exec (.mfs p cd 9 0) s = .next (capDone s p b cd (v.escc))) ∧
    (k.pcc.has permSY = true → Issues (.mfs p cd 10 0) p b s → exec (.mfs p cd 10 0) s = .next (capDone s p b cd (v.essc))) ∧
    (p < 96 → Issues (.mfs p cd 11 0) p b s → exec (.mfs p cd 11 0) s = .next (capDone s p b cd (intCap v.bankw))) ∧
    (k.pcc.has permSY = true → Issues (.mfs p cd 12 0) p b s → exec (.mfs p cd 12 0) s = .next (capDone s p b cd (intCap k.ttbc))) ∧
    (p < 96 → Issues (.mts p 3 cs1 0) p b s → exec (.mts p 3 cs1 0) s = .next (retired p (if x = 0 then issued s p b else (issued s p b).updBank p b (fun k => { k with bkq := x })))) ∧
    (Issues (.mts p 4 cs1 0) p b s → exec (.mts p 4 cs1 0) s = .next (bankDone s p b (fun k => { k with lc := x }))) ∧
    (Issues (.mts p 5 cs1 0) p b s → exec (.mts p 5 cs1 0) s = .next (bankDone s p b (fun k => { k with ls := x }))) ∧
    (Issues (.mts p 6 cs1 0) p b s → exec (.mts p 6 cs1 0) s = .next (bankDone s p b (fun k => { k with le := x }))) ∧
    (k.pcc.has permSY = true → Issues (.mts p 8 cs1 0) p b s → exec (.mts p 8 cs1 0) s = .next (bankDone s p b (fun k => { k with tsbc := c }))) ∧
    (k.pcc.has permSY = true → Issues (.mts p 9 cs1 0) p b s → exec (.mts p 9 cs1 0) s = .next (retired p ((issued s p b).updPair p (fun v => { v with escc := c })))) ∧
    (k.pcc.has permSY = true → Issues (.mts p 10 cs1 0) p b s → exec (.mts p 10 cs1 0) s = .next (retired p ((issued s p b).updPair p (fun v => { v with essc := c })))) ∧
    (p < 96 → Issues (.mts p 1 cs1 0) p b s → exec (.mts p 1 cs1 0) s = .next (retired p ((issued s p b).updPair p (fun v => { v with shadow := v.shadow ++ [⟨.status, b, x, (if k.pcc.has permSY then 0xFFFFFFFFFF000003 else 1), 3⟩] })))) ∧
    (p < 96 → Issues (.mts p 2 cs1 0) p b s → exec (.mts p 2 cs1 0) s = .next (retired p ((issued s p b).updPair p (fun v => { v with shadow := v.shadow ++ [⟨.amode, b, x, (if x &&& 6 = 6 then 0x1F18 else 0x1F1F), 3⟩] })))) ∧
    (p < 96 → k.pcc.has permSY = true → Issues (.mts p 7 cs1 0) p b s → exec (.mts p 7 cs1 0) s = .next (retired p ((issued s p b).updPair p (fun v => { v with shadow := v.shadow ++ [⟨.ctxcfg, b, x, 1, 3⟩] })))) ∧
    (p < 96 → k.pcc.has permSY = true → Issues (.mts p 12 cs1 0) p b s → exec (.mts p 12 cs1 0) s = .next (retired p ((issued s p b).updPair p (fun v => { v with shadow := v.shadow ++ [⟨.ttbc, b, x, 0x0FFFFFFFFFFFF001, 3⟩] }))))) ∧
  (∀ (c : SCtx) (cd sr cs1 : RegIx) (s : State), (s.pair c.pair).bankw.getLsbD 8 = false →
    ((12 < sr.toNat ∨ (96 ≤ c.pair ∧ (sr = 3 ∨ sr = 11))) →
      sylMfs cd sr 0 c s = .flt (flt0 illegal) s ∧ sylMts sr cs1 0 c s = .flt (flt0 illegal) s) ∧
    (sr ∈ [8, 9, 10, 12] → (s.bank c.pair c.bank).pcc.has permSY = false →
      sylMfs cd sr 0 c s = .flt (fltD capPerm 4) s ∧ sylMts sr cs1 0 c s = .flt (fltD capPerm 4) s) ∧
    (sr = 7 → (s.bank c.pair c.bank).pcc.has permSY = false → sylMts sr cs1 0 c s = .flt (fltD capPerm 4) s))

/-- TADD, TCLOSE and TREAD send their operation to the tally unit (R205, R206, R208). -/
def Obligations.TallySyllablesSendRequests : Prop :=
  ∀ (p b : Nat) (cd cs1 cs2 ca : RegIx) (s : State) (a c : Cap) (op : TallyOp), a = s.src p b cs1.toNat → c = s.src p b cs2.toNat →
    Quiet s → op = ⟨s.tally.nextId, p, b, (s.bank p b).task, .add, a.addr, 0, 0, false, 0, (s.bank p b).sat, 0, cd.toNat, []⟩ →
    (PlainCell s p b a [permTA] → checkTyped c 0xFF06 = none → Issues (.tadd p cd cs1 cs2 ca) p b s →
      exec (.tadd p cd cs1 cs2 ca) s = .next (retired p ((issued s p b).tallySend
        { op with amount := s.srcW p b ca.toNat, stampTime := c.addr % 2 ^ 62, stampUnc := c.addr.testBit 62, stampPort := c.basem }))) ∧
    (PlainCell s p b a [permTA, permST] → Issues (.tclose p cd cs1 cs2) p b s →
      exec (.tclose p cd cs1 cs2) s = .next (retired p ((issued s p b).tallySend
        { op with kind := .close, reqT := (s.srcX p b cs2.toNat).toNat }))) ∧
    (PlainCell s p b a [permTA, permLD] → checkAccess c c.addr 64 [permST] = none → c.addr % 16 = 0 →
      c.addr % 4096 + 64 ≤ 4096 → c.addr + 64 ≤ 2 ^ 41 → (isSentinel p = true → 0x80000 ≤ c.addr) → Issues (.tread p cd cs1 cs2) p b s →
      exec (.tread p cd cs1 cs2) s = .next (retired p ((issued s p b).tallySend
        { op with kind := .read, dst := [(c.addr, 64)] }))) ∧
    (∀ o : TallyOp, ({ s.tallySend o with tally := s.tally } = s) ∧ (s.tallySend o).tally.transit = s.tally.transit ++ [o] ∧
      (s.tallySend o).tally.nextId = s.tally.nextId + 1 ∧ (s.tallySend o).tally.chans = s.tally.chans)

/-- STM, LDM, SVCTX, LDCTX and CALLM move their registers, one slot each (R156, R157, R158, R159, R162, R163). -/
def Obligations.SeveralSlotSyllables : Prop :=
  (∀ (p b : Nat) (cs1 cs2 : RegIx) (s : State) (a : Cap) (m : Nat) (L : List Nat), a = s.src p b cs1.toNat → m = (s.srcX p b cs2.toNat).toNat →
    L = (List.range 32).filter (fun i => m.testBit i) → m < 2 ^ 32 → m.testBit 0 = false → (s.pair p).ctxcfg.getLsbD 0 = false → Quiet s →
    (PlainRange s p b a a.addr (16 * L.length) [permST, permSC, permSL] → Issues (.stm p cs1 cs2) p b s →
      ∃ t, exec (.stm p cs1 cs2) s = .next t ∧ (∀ j n, L[j]? = some n → t.capAt .dram (a.addr + 16 * j) = s.src p b n) ∧
        SameBytesOutside s t a.addr (16 * L.length) ∧ SameTagsOutside s t a.addr (16 * L.length) ∧ SameRegisters s t ∧ SameUnits s t) ∧
    (PlainRange s p b a a.addr (16 * L.length) [permLD] → s.bitmap = [] → m.testBit cs1.toNat = false → m.testBit cs2.toNat = false →
      Issues (.ldm p cs1 cs2) p b s →
      ∃ t, exec (.ldm p cs1 cs2) s = .next t ∧
        (∀ j n, L[j]? = some n → (t.bank p b).reg n = ⟨(s.capAt .dram (a.addr + 16 * j)).bits,
          s.tagAt .dram (a.addr + 16 * j) && a.has permLC⟩) ∧
        (∀ n, n ∉ L → (t.bank p b).reg n = (s.bank p b).reg n) ∧ SameMemory s t ∧ SameUnits s t)) ∧
  (∀ (p b : Nat) (cd cs1 : RegIx) (s : State) (a d k : Cap) (nx : Nat), a = s.src p b cs1.toNat → d = s.src p b cd.toNat →
    k = (s.bank p b).pcc → nx = addrOf ((k.addr : Int) + 4) → (s.pair p).ctxcfg.getLsbD 0 = true → Quiet s →
    (PlainRange s p b a a.addr 512 [permST, permSC, permSL] → 1 ≤ cd.toNat → cd.toNat < 16 → Issues (.svctxU p cd cs1) p b s →
      ∃ t, exec (.svctxU p cd cs1) s = .next t ∧ t.capAt .dram a.addr = d ∧
        (∀ j, 0 < j → j < 8 → (t.numAt .dram (a.addr + 16) 8).testBit j = (s.bank p b).pred j) ∧
        (∀ i, i < 16 → t.capAt .dram (a.addr + 32 + 16 * i) = s.src p b (16 + i)) ∧ (t.bank p b).reg cd.toNat = a ∧
        (∀ n, n ≠ cd.toNat → (t.bank p b).reg n = (s.bank p b).reg n) ∧ SameBytesOutside s t a.addr 288 ∧
        SameTagsOutside s t a.addr 288 ∧ SameUnits s t) ∧
    (PlainRange s p b a a.addr 512 [permST, permSC, permSL] → 16 ≤ cd.toNat → Issues (.svctxL p cd cs1) p b s →
      ∃ t, exec (.svctxL p cd cs1) s = .next t ∧ t.capAt .dram a.addr = d ∧
        t.capAt .dram (a.addr + 0x10) = k.withAddr nx (k.tag && k.representable nx) ∧
        t.numAt .dram (a.addr + 0x20) 3 = setBitsAt (s.bank p b).status.toNat 1 1 (b2n (s.pair p).det) % 2 ^ 24 ∧
        t.numAt .dram (a.addr + 0x28) 8 = (s.bank p b).lc.toNat ∧ t.numAt .dram (a.addr + 0x30) 8 = (s.bank p b).ls.toNat ∧
        t.numAt .dram (a.addr + 0x38) 8 = (s.bank p b).le.toNat ∧
        (∀ i, i < 15 → t.capAt .dram (a.addr + 0x40 + 16 * i) = s.src p b (1 + i)) ∧ (t.bank p b).reg cd.toNat = a ∧
        (∀ n, n ≠ cd.toNat → (t.bank p b).reg n = (s.bank p b).reg n) ∧ SameBytesOutside s t a.addr 304 ∧
        SameTagsOutside s t a.addr 304 ∧ SameUnits s t) ∧
    (PlainRange s p b d d.addr 512 [permLD, permLC] → s.bitmap = [] → 1 ≤ cd.toNat → cd.toNat < 16 → Issues (.ldctxU p cd) p b s →
      ∃ t, exec (.ldctxU p cd) s = .next t ∧ (t.bank p b).reg cd.toNat = s.capAt .dram d.addr ∧
        (∀ j, 0 < j → j < 8 → (t.bank p b).pred j = (s.numAt .dram (d.addr + 16) 1).testBit j) ∧
        (∀ i, i < 16 → (t.bank p b).reg (16 + i) = s.capAt .dram (d.addr + 32 + 16 * i)) ∧
        (∀ n, n < 16 → n ≠ cd.toNat → (t.bank p b).reg n = (s.bank p b).reg n) ∧ SameMemory s t ∧ SameUnits s t) ∧
    (PlainRange s p b d d.addr 512 [permLD, permLC] → s.bitmap = [] → 16 ≤ cd.toNat →
      checkTarget (s.capAt .dram (d.addr + 0x10)) = none → Issues (.ldctxL p cd) p b s →
      ∃ t, exec (.ldctxL p cd) s = .next t ∧ (t.bank p b).reg cd.toNat = s.capAt .dram d.addr ∧
        (t.bank p b).pcc = (s.capAt .dram (d.addr + 0x10)).withOtype 0 true ∧
        (t.bank p b).lc.toNat = s.numAt .dram (d.addr + 0x28) 8 ∧ (t.bank p b).ls.toNat = s.numAt .dram (d.addr + 0x30) 8 ∧
        (t.bank p b).le.toNat = s.numAt .dram (d.addr + 0x38) 8 ∧
        (∀ i, i < 15 → (t.bank p b).reg (1 + i) = s.capAt .dram (d.addr + 0x40 + 16 * i)) ∧
        (∀ n, 16 ≤ n → n ≠ cd.toNat → (t.bank p b).reg n = (s.bank p b).reg n) ∧ SameMemory s t ∧ SameUnits s t)) ∧
  (∀ (p b : Nat) (cd cs1 cs2 : RegIx) (imm : Imm) (s : State) (c2 tg k ar : Cap) (L : List Nat) (nx f : Nat), c2 = s.src p b 2 →
    tg = s.src p b cs1.toNat → ar = s.src p b cs2.toNat → k = (s.bank p b).pcc → nx = addrOf ((k.addr : Int) + (if immExt imm then 8 else 4)) →
    L = ((List.range 16).filter (fun i => (immVal imm).toNat.testBit i)).map (fun i => 16 + i) → 0 ≤ immVal imm → immVal imm ≤ 0xFFFF →
    Quiet s →
    ((s.pair p).ctxcfg.getLsbD 0 = false → c2.addr = f + 16 * (L.length + 1) →
      PlainRange s p b c2 f (16 * (L.length + 1)) [permST, permSC, permSL] → checkTarget tg = none →
      Issues (.callm p 0 cs1 0 imm) p b s →
      ∃ t, exec (.callm p 0 cs1 0 imm) s = .next t ∧ t.capAt .dram f = intCap (BitVec.ofNat 64 (immVal imm).toNat) ∧
        (∀ j n, L[j]? = some n → t.capAt .dram (f + 16 * (j + 1)) = s.src p b n) ∧ (t.bank p b).reg 2 = c2.withAddr f c2.tag ∧
        (t.bank p b).reg 1 = (k.withAddr nx (k.tag && k.representable nx)).withOtype 0xFF01 (k.tag && k.representable nx) ∧
        (t.bank p b).pcc = tg.withOtype 0 true ∧ (∀ n, 3 ≤ n → (t.bank p b).reg n = (s.bank p b).reg n) ∧
        SameBytesOutside s t f (16 * (L.length + 1)) ∧ SameTagsOutside s t f (16 * (L.length + 1)) ∧ SameUnits s t) ∧
    ((s.pair p).ctxcfg.getLsbD 0 = true → (∀ n ∈ L, n ≠ cd.toNat) → 2 ≤ cd.toNat →
      PlainRange s p b ar ar.addr 512 [permST, permSC, permSL] → checkTarget tg = none → Issues (.callm p cd cs1 cs2 imm) p b s →
      ∃ t, exec (.callm p cd cs1 cs2 imm) s = .next t ∧ t.capAt .dram ar.addr = s.src p b cd.toNat ∧
        t.capAt .dram (ar.addr + 16) = intCap (BitVec.ofNat 64 (immVal imm).toNat) ∧
        (∀ j n, L[j]? = some n → t.capAt .dram (ar.addr + 16 * (j + 2)) = s.src p b n) ∧ (t.bank p b).reg cd.toNat = ar ∧
        (t.bank p b).reg 1 = (k.withAddr nx (k.tag && k.representable nx)).withOtype 0xFF01 (k.tag && k.representable nx) ∧
        (t.bank p b).pcc = tg.withOtype 0 true ∧ SameBytesOutside s t ar.addr 288 ∧ SameTagsOutside s t ar.addr 288 ∧ SameUnits s t) ∧
    ((s.pair p).ctxcfg.getLsbD 0 = false → s.numAt .dram c2.addr 8 = (immVal imm).toNat →
      PlainRange s p b c2 c2.addr (16 * (L.length + 1)) [permLD, permLC] → s.bitmap = [] → checkTarget (s.src p b 1) = none →
      c2.addr + 16 * (L.length + 1) < 2 ^ 64 → Issues (.callmR p 0) p b s →
      ∃ t, exec (.callmR p 0) s = .next t ∧
        (∀ j n, L[j]? = some n → (t.bank p b).reg n = s.capAt .dram (c2.addr + 16 * (j + 1))) ∧
        (t.bank p b).reg 2 = c2.withAddr (c2.addr + 16 * (L.length + 1)) (c2.tag && c2.representable (c2.addr + 16 * (L.length + 1))) ∧
        (t.bank p b).pcc = (s.src p b 1).withOtype 0 true ∧ SameMemory s t ∧ SameUnits s t))

/-- INVOKE writes the caller's frame and enters the gate (R243, R245, R246, R247). -/
def Obligations.GateCallEntersTheCallee : Prop :=
  ∀ (p b : Nat) (cs1 : RegIx) (s : State) (g c2 k : Cap) (f nx : Nat), g = s.src p b cs1.toNat → c2 = s.src p b 2 → k = (s.bank p b).pcc →
    nx = addrOf ((k.addr : Int) + 4) → Quiet s → checkTyped g 0xFF02 = none → g.hasAll [permIV, permLD, permLC] = true →
    (s.bank p b).apend = false → g.base ≤ g.addr → g.addr + 192 ≤ g.top → g.addr % 64 = 0 → g.addr + 192 ≤ 2 ^ 41 →
    (isSentinel p = true → 0x80000 ≤ g.addr ∧ 0x80000 ≤ f) → (s.bank p b).ttbc.toNat % 2 = 0 → s.rcuOn = false → s.tally.chans = [] →
    s.latent = [] → s.bitmap = [] → descReserved (s.bytesAt .dram g.addr 192) = false → checkTarget (s.capAt .dram g.addr) = none →
    (∀ i, i < 8 → argOk (s.src p b (4 + i)) (s.numAt .dram (g.addr + 0x40 + 16 * i) 8) (s.numAt .dram (g.addr + 0x48 + 16 * i) 8) = true) →
    (s.bank p b).gdepth < 255 → calleeStackOk (s.capAt .dram (g.addr + 32)) (s.numAt .dram (g.addr + 0x30) 2) = true →
    (isSentinel p = false → lazyOk c2 = true) → (f : Int) = frameAt p c2 → frameOk p c2 f = true → f + 96 ≤ 2 ^ 41 →
    Issues (.invoke p cs1) p b s →
    ∃ t, exec (.invoke p cs1) s = .next t ∧ (t.bank p b).pcc = (s.capAt .dram g.addr).withOtype 0 true ∧
      (t.bank p b).reg 1 = mintCap 0 0xFF03 f (f + 96) ∧ (t.bank p b).reg 2 = s.capAt .dram (g.addr + 32) ∧
      (t.bank p b).reg 3 = s.capAt .dram (g.addr + 16) ∧
      (∀ n ∈ [12, 13, 14, 15, 28, 29, 30, 31], (t.bank p b).reg n = nullCap) ∧
      (∀ n, (4 ≤ n ∧ n < 12) ∨ (16 ≤ n ∧ n < 28) → (t.bank p b).reg n = (s.bank p b).reg n) ∧
      (t.bank p b).gdepth = (s.bank p b).gdepth + 1 ∧ (t.bank p b).gateLink = BitVec.ofNat 64 f ∧
      t.capAt .dram f = k.withAddr nx (k.tag && k.representable nx) ∧ t.capAt .dram (f + 16) = c2 ∧
      t.capAt .dram (f + 32) = s.src p b 3 ∧ t.numAt .dram (f + 64) 8 = (s.bank p b).gateLink.toNat ∧
      SameBytesOutside s t f 96 ∧ SameTagsOutside s t f 96 ∧ SameUnits s t

/-- RETG restores the caller from the frame; RETE ends the event and resumes the recorded context (R237, R248). -/
def Obligations.GateAndEventReturns : Prop :=
  ∀ (p b : Nat) (cs1 : RegIx) (s : State) (g : Cap), g = s.src p b cs1.toNat → Quiet s →
    (checkTyped g 0xFF03 = none → (s.bank p b).apend = false → (s.bank p b).lzs = false → 0 < (s.bank p b).gdepth →
      g.addr = (s.bank p b).gateLink.toNat → g.addr % 16 = 0 → g.addr + 96 ≤ 2 ^ 41 → (isSentinel p = true → 0x80000 ≤ g.addr) →
      (s.bank p b).ttbc.toNat % 2 = 0 → s.rcuOn = false → s.tally.chans = [] → s.latent = [] → s.bitmap = [] →
      s.numAt .dram (g.addr + 73) 1 = (s.bank p b).gdepth → Issues (.retg p cs1) p b s →
      ∃ t, exec (.retg p cs1) s = .next t ∧ (t.bank p b).pcc = s.capAt .dram g.addr ∧
        (t.bank p b).reg 2 = s.capAt .dram (g.addr + 16) ∧ (t.bank p b).reg 3 = s.capAt .dram (g.addr + 32) ∧
        (∀ n ∈ [1, 12, 13, 14, 15, 28, 29, 30, 31], (t.bank p b).reg n = nullCap) ∧
        (∀ n, (4 ≤ n ∧ n < 12) ∨ (16 ≤ n ∧ n < 28) → (t.bank p b).reg n = (s.bank p b).reg n) ∧
        (t.bank p b).gdepth = (s.bank p b).gdepth - 1 ∧ (t.bank p b).evm = (s.numAt .dram (g.addr + 72) 1).testBit 0 ∧
        (t.bank p b).gateLink.toNat = s.numAt .dram (g.addr + 64) 8 ∧ SameMemory s t ∧ SameUnits s t) ∧
    (∀ o, (s.bank p b).prior = some (.bank o) → o ≠ b → ResumesPlainly s p o → b ≠ escBank p → (s.bank p b).deliv = none → (s.bank p b).gdepth = 0 →
      (s.bank p b).apend = false → (s.bank p b).lazy = false → (s.bank p b).lzs = false → (s.pair p).shadow = [] →
      Issues (.rete p) p b s →
      ∃ t, exec (.rete p) s = .next t ∧ (t.pair p).run = some o ∧ (t.bank p o).st = .running ∧ (t.bank p b).st = .idle ∧
        (∀ n, 28 ≤ n → n < 32 → ((t.bank p b).reg n).tag = false) ∧
        (∀ n, n < 28 → ((s.bank p b).reg n).has permGL = false → ((t.bank p b).reg n).tag = false) ∧
        (∀ n, ((t.bank p b).reg n).bits = ((s.bank p b).reg n).bits) ∧
        (∀ n, (t.bank p o).reg n = (s.bank p o).reg n) ∧ (t.pair p).resv = none ∧ SameMemory s t ∧ SameUnits s t)

/-- JAPP, JSEAL and DRAW give their request to the unit and leave the bank waiting (R169, R170, R368, R369, R395, R397). -/
def Obligations.JournalAndDrawSyllables : Prop :=
  ∀ (p b : Nat) (cd cs1 cs2 : RegIx) (s : State) (a d : Cap) (x id n y : Nat), a = s.src p b cs1.toNat → d = s.src p b cs2.toNat →
    x = (s.srcX p b cs2.toNat).toNat → id = (s.srcX p b 4).toNat → n = (s.srcX p b 5).toNat → y = (s.srcX p b 6).toNat → Quiet s →
    (s.bank p b).lazy = false → (s.bank p b).lzs = false → ResumesNext s p b →
    (PlainSpan s p b a a.addr (x % 65536) [permJA, permLD] → x < 2 ^ 32 → x % 65536 ≤ 4032 →
      x / 65536 < (if isSentinel p then 0xF000 else 0xE000) → (s.standby = false ∨ isSentinel p = true) → s.jStatus = none →
      s.jrn.queue.length < 1024 → Issues (.japp p cd cs1 cs2) p b s →
      ∃ t, exec (.japp p cd cs1 cs2) s = .next t ∧
        t.jrn.queue = s.jrn.queue ++ [⟨x / 65536, pairCode p, s.bytesAt .dram a.addr (x % 65536), .bank p b ((s.bank p b).task.getD 0) (s.pair p).gen⟩] ∧
        (t.bank p b).st = .waiting ∧ (t.bank p b).waitCd = some cd.toNat ∧ SameMemory s t) ∧
    (PlainSpan s p b a a.addr (x % 65536) [permJA, permLD] → x < 2 ^ 32 → 4032 < x % 65536 → Issues (.japp p cd cs1 cs2) p b s →
      exec (.japp p cd cs1 cs2) s = .next (intDone s p b cd 3 noFlags)) ∧
    (jsealCheck a = none → s.jsealStatus = none → Issues (.jseal p cd cs1) p b s →
      ∃ t, exec (.jseal p cd cs1) s = .next t ∧ (t.bank p b).st = .waiting ∧ (t.bank p b).waitCd = some cd.toNat ∧
        t.jrn.queue = s.jrn.queue ∧ t.jrn.ring = s.jrn.ring ∧ SameMemory s t) ∧
    (drawCheck a id = none → checkAccess d d.addr (8 * (y % 65536)) [permST] = none → y < 2 ^ 17 → 0 < y % 65536 → d.addr % 8 = 0 →
      d.addr % 4096 + 8 * (y % 65536) ≤ 4096 → d.addr + 8 * (y % 65536) ≤ 2 ^ 41 → (isSentinel p = true → 0x80000 ≤ d.addr) →
      (s.bank p b).ttbc.toNat % 2 = 0 → s.rcuOn = false → s.draw.queue.length < 64 → Issues (.draw p cd cs1 cs2) p b s →
      ∃ t, exec (.draw p cd cs1 cs2) s = .next t ∧
        t.draw.queue = s.draw.queue ++ [⟨p, b, (s.bank p b).task.getD 0, (s.pair p).gen, cd.toNat, id, n, y % 65536, y.testBit 16,
          [(d.addr, 8 * (y % 65536))]⟩] ∧
        (t.bank p b).st = .waiting ∧ (t.bank p b).waitCd = some cd.toNat ∧ SameMemory s t)

/-- ECLIPSE sets the bitmap bits of its region and gives the ticket; ECLIPSE.R clears them once the ticket is done (R79, R82, R83, R85). -/
def Obligations.EclipseSyllables : Prop :=
  ∀ (p b : Nat) (cd cs1 cs2 : RegIx) (s : State) (a : Cap) (x : Word), a = s.src p b cs1.toNat → x = s.srcX p b cs2.toNat → Quiet s →
    eclCheck a = none → a.top ≤ 2 ^ 41 → (isSentinel p = true → 0x80000 ≤ a.base) → (s.bank p b).ttbc.toNat % 2 = 0 → (s.bank p b).prog = 0 →
    s.latent = [] → s.eventMayCome p = false → (Issues (.eclipse p cd cs1) p b s → ∃ t, exec (.eclipse p cd cs1) s = .next t ∧
      (∀ pa, t.eclipsed pa = (s.eclipsed pa || decide (a.base / 16 ≤ pa / 16 ∧ pa / 16 < a.top / 16))) ∧
      (t.bank p b).reg cd.toNat = (if cd = 0 then nullCap else intCap (s.rd Addr.ECL_EPOCH_STARTED + 1)) ∧
      (∀ n, n ≠ cd.toNat → (t.bank p b).reg n = (s.bank p b).reg n) ∧ t.sweep.fresh = true ∧ t.sweep.freshRun = true ∧
      t.mem = s.mem ∧ t.tags = s.tags ∧ t.dev = s.dev) ∧
    (1 ≤ x.toNat → x.toNat ≤ (s.rd Addr.ECL_EPOCH_DONE).toNat → Issues (.eclipseR p cd cs1 cs2) p b s →
      ∃ t, exec (.eclipseR p cd cs1 cs2) s = .next t ∧
      (∀ pa, t.eclipsed pa = (s.eclipsed pa && !decide (a.base / 16 ≤ pa / 16 ∧ pa / 16 < a.top / 16))) ∧
      (t.bank p b).reg cd.toNat = nullCap ∧ (∀ n, n ≠ cd.toNat → (t.bank p b).reg n = (s.bank p b).reg n) ∧
      t.mem = s.mem ∧ t.tags = s.tags ∧ SameUnits s t) ∧
    (¬ (1 ≤ x.toNat ∧ x.toNat ≤ (s.rd Addr.ECL_EPOCH_DONE).toNat) → Issues (.eclipseR p cd cs1 cs2) p b s →
      exec (.eclipseR p cd cs1 cs2) s = .next (intDone s p b cd 1 noFlags))

/-- Barriers complete; the invalidations remove exactly the cached translations they name from every pair (R134, R171, R172, R173, R174, R420). -/
def Obligations.BarriersAndInvalidations : Prop :=
  ∀ (p b : Nat) (cs1 cs2 : RegIx) (s : State) (va x : Nat), va = (s.srcX p b cs1.toNat).toNat → x = (s.srcX p b cs2.toNat).toNat → Quiet s →
    ((s.pair p).pendTable = none → Issues (.msync p) p b s → exec (.msync p) s = .next (retired p ((issued s p b).dropCode p))) ∧
    (∀ d, (s.pair p).pendTable = some d → Issues (.msync p) p b s →
      ∃ t, exec (.msync p) s = .next t ∧ (t.pair p).table = d ∧ (t.pair p).pendTable = none ∧
        (t.rd (if p < 64 then Addr.MC_PEND0 else Addr.MC_PEND1)).getLsbD (if p < 64 then p else p - 64) = false ∧
        SameMaps s t ∧ t.stale = ((issued s p b).dropCode p).stale ∧ SameRegisters s t) ∧
    (Issues (.iflush p) p b s → exec (.iflush p) s = .next (retired p ((issued s p b).dropStale p))) ∧
    ((s.bank p b).pcc.has permSY = true → x < 2 ^ 16 → Issues (.tlbinvVa p cs1 cs2) p b s → ∃ t, exec (.tlbinvVa p cs1 cs2) s = .next t ∧
      (∀ q, q < 104 → (t.pair q).tlb = (s.pair q).tlb.filter (fun e => !(e.covers va && (e.asid == x || e.e.toNat.testBit 9))) ∧
        (t.pair q).itlb = (s.pair q).itlb.filter (fun e => !(e.covers va && (e.asid == x || e.e.toNat.testBit 9))) ∧ (t.pair q).dtlb = (s.pair q).dtlb.filter (fun e => !(e.covers va && (e.asid == x || e.e.toNat.testBit 9)))) ∧ SameMemory s t ∧
      (∀ q, (t.pair q).banks = (s.pair q).banks)) ∧
    ((s.bank p b).pcc.has permSY = true → x < 2 ^ 16 → Issues (.tlbinvAsid p cs2) p b s → ∃ t, exec (.tlbinvAsid p cs2) s = .next t ∧
      (∀ q, q < 104 → (t.pair q).tlb = (s.pair q).tlb.filter (fun e => !(e.asid == x && !e.e.toNat.testBit 9)) ∧
        (t.pair q).itlb = (s.pair q).itlb.filter (fun e => !(e.asid == x && !e.e.toNat.testBit 9)) ∧ (t.pair q).dtlb = (s.pair q).dtlb.filter (fun e => !(e.asid == x && !e.e.toNat.testBit 9))) ∧ SameMemory s t ∧
      (∀ q, (t.pair q).banks = (s.pair q).banks)) ∧
    ((s.bank p b).pcc.has permSY = true → Issues (.tlbinvAll p) p b s → ∃ t, exec (.tlbinvAll p) s = .next t ∧
      (∀ q, q < 104 → (t.pair q).tlb = (s.pair q).tlb.filter (fun e => !(true)) ∧
        (t.pair q).itlb = (s.pair q).itlb.filter (fun e => !(true)) ∧ (t.pair q).dtlb = (s.pair q).dtlb.filter (fun e => !(true))) ∧ SameMemory s t ∧
      (∀ q, (t.pair q).banks = (s.pair q).banks)) ∧
    ((s.bank p b).pcc.has permSY = true → x < 2 ^ 4 → Issues (.walkinvVa p cs1 cs2) p b s → ∃ t, exec (.walkinvVa p cs1 cs2) s = .next t ∧
      (∀ q, q < 104 → (t.pair q).walkc = (s.pair q).walkc.filter (fun w => !(x.testBit w.level && w.idx == vaIndex va w.level))) ∧ SameMemory s t ∧ SameUnits s t ∧ SameRegisters s t) ∧
    ((s.bank p b).pcc.has permSY = true → Issues (.walkinvAll p) p b s → ∃ t, exec (.walkinvAll p) s = .next t ∧
      (∀ q, q < 104 → (t.pair q).walkc = (s.pair q).walkc.filter (fun w => !(true))) ∧ SameMemory s t ∧ SameUnits s t ∧ SameRegisters s t)

/-- A custom syllable runs the micro-program of its decode-table entry (R408, R409, R410, R411, R412, R414, R416). -/
def Obligations.CustomSyllables : Prop :=
  ∀ (p b : Nat) (n : BitVec 6) (cd cs1 cs2 : RegIx) (s : State) (d : DecodeTable) (u v : Uop) (a : Cap) (len : Nat), d = (s.pair p).table → u = uopOf (d.uop n.toNat 0).toNat →
    v = uopOf (d.uop n.toNat 1).toNat → a = s.src p b cs1.toNat → len = bitsAt (d.word n.toNat).toNat 5 6 →
    (p < 96 → Quiet s → customDefined d n.toNat cd cs1 cs2 = true → len = 1 → (u.code = 1 ∨ u.code = 2) →
      u.d = 1 → u.a = 2 → u.b = 3 → Issues (.customSyllable p n cd cs1 cs2) p b s →
      exec (.customSyllable p n cd cs1 cs2) s = .next (intDone s p b cd (microInt u.code u.fn (s.srcX p b cs1.toNat) (s.srcX p b cs2.toNat)).1 (microInt u.code u.fn (s.srcX p b cs1.toNat) (s.srcX p b cs2.toNat)).2)) ∧
    (∀ (c : SCtx), c.pair = p → (96 ≤ p ∨ customDefined d n.toNat cd cs1 cs2 = false) →
      sylCustomSyllable n cd cs1 cs2 c s = .flt (flt0 illegal) s) ∧
    (p < 96 → Quiet s → customDefined d n.toNat cd cs1 cs2 = true → len = 2 → (u.code = 1 ∨ u.code = 2) → (v.code = 1 ∨ v.code = 2) →
      u.d = 8 → u.a = 2 → u.b = 3 → v.d = 1 → v.a = 8 → v.b = 2 → Issues (.customSyllable p n cd cs1 cs2) p b s →
      exec (.customSyllable p n cd cs1 cs2) s = .next (intDone s p b cd (microInt v.code v.fn ((microInt u.code u.fn (s.srcX p b cs1.toNat) (s.srcX p b cs2.toNat)).1) (s.srcX p b cs1.toNat)).1
        ((noFlags.or (microInt u.code u.fn (s.srcX p b cs1.toNat) (s.srcX p b cs2.toNat)).2).or (microInt v.code v.fn ((microInt u.code u.fn (s.srcX p b cs1.toNat) (s.srcX p b cs2.toNat)).1) (s.srcX p b cs1.toNat)).2))) ∧
    (p < 96 → Quiet s → customDefined d n.toNat cd cs1 cs2 = true → len = 1 → u.code = 4 → u.fn < 8 → u.d = 1 → u.a = 2 → u.b = 3 → Issues (.customSyllable p n cd cs1 cs2) p b s →
      exec (.customSyllable p n cd cs1 cs2) s = .next (intDone s p b cd (if condHolds u.fn (s.srcX p b cs1.toNat) (s.srcX p b cs2.toNat) then 1 else 0) noFlags)) ∧
    (p < 96 → Quiet s → customDefined d n.toNat cd cs1 cs2 = true → len = 1 → u.code = 6 → u.fn = 6 → u.d = 1 → u.a = 2 → u.b = 0 → u.imm = 0 →
      PlainAccess s p b a a.addr 8 [permLD] → Issues (.customSyllable p n cd cs1 cs2) p b s →
      exec (.customSyllable p n cd cs1 cs2) s = .next (intDone s p b cd (BitVec.ofNat 64 (s.numAt .dram a.addr 8)) noFlags)) ∧
    (p < 96 → Quiet s → customDefined d n.toNat cd cs1 cs2 = true → len = 1 → u.code = 7 → u.fn = 3 → u.d = 3 → u.a = 2 → u.b = 0 → u.imm = 0 →
      PlainAccess s p b a a.addr 8 [permST] → Issues (.customSyllable p n cd cs1 cs2) p b s →
      ∃ t, exec (.customSyllable p n cd cs1 cs2) s = .next t ∧ t.numAt .dram a.addr 8 = (s.srcX p b cs2.toNat).toNat ∧ SameBytesOutside s t a.addr 8 ∧
        SameTagsOutside s t a.addr 8 ∧ SameRegisters s t ∧ SameUnits s t) ∧
    (p < 96 → Quiet s → customDefined d n.toNat cd cs1 cs2 = true → len ≤ 32 →
      (∀ i, i < len → (uopOf (d.uop n.toNat i).toNat).code ∈ [1, 2, 3, 4, 8]) → Issues (.customSyllable p n cd cs1 cs2) p b s →
      ∃ t, exec (.customSyllable p n cd cs1 cs2) s = .next t ∧ (∀ m, m ≠ cd.toNat → m ≠ cs1.toNat → m ≠ cs2.toNat → (t.bank p b).reg m = (s.bank p b).reg m) ∧
        (∀ e, e ≠ b → t.bank p e = s.bank p e) ∧ (t.bank p b).pcc = (s.bank p b).pcc ∧ SameMemory s t ∧ SameUnits s t)

/-- BUNDLE runs the syllables at PCC and retires; MODE_SHADOW_END lets the oldest mode write take effect (R102, R104, R113, R114, R115, R139, R165, R286). -/
def Obligations.BundlesRunAndRetire : Prop :=
  ∀ (p b : Nat) (s : State), p < 104 → Quiet s →
    (∀ (s1 s2 u : State) (v : Bundle) (l : Bool) (x : Option DSyl) (c : SCtx), ({ s with out := [] } : State).execBank p = some b → s.apendDue p b = false → (s.pair p).shadow = [] →
      maskUpdate s.clk (s.pair p) = s.pair p → (s.bank p b).rep = 0 → issued (s.setPair p (s.pair p)) p b = s1 →
      fetchBundle p b (s.bank p b).pcc.addr false s1 = .ok v s2 → s2.bundleWaits p b v = false → c = ⟨p, b, (s.bank p b).pcc.addr, addrOf (((s.bank p b).pcc.addr : Int) + v.len), 0⟩ →
      runSyls c s2 false 0 s2 v.syls = (.ok l u, x) → AtRest s u →
      exec (.bundle p) s = .next ((if l then u
        else u.retireBundle c (s2.bank p b) ((executed s2 p b 0 v.syls).any (writesLc c s2))).stepped p)) ∧
    (∀ (cd cs1 cs2 : RegIx) (ps : PredIx) (pi go : Bool) (w pc : Nat), ({ s with out := [] } : State).execBank p = some b → s.apendDue p b = false → (s.pair p).shadow = [] →
      maskUpdate s.clk (s.pair p) = s.pair p → (s.bank p b).rep = 0 → s.tallyBusy p b = false → (s.pair p).delay = [] →
      pc = (s.bank p b).pcc.addr → PlainFetch s p b w →
      w = 2 ^ 31 + ps.toNat * 2 ^ 28 + b2n pi * 2 ^ 27 + 0x10 * 2 ^ 21 + cd.toNat * 2 ^ 16 + cs1.toNat * 2 ^ 11 + cs2.toNat * 2 ^ 6 →
      go = ((s.bank p b).pred ps.toNat != pi) → ∃ t, exec (.bundle p) s = .next t ∧
        (t.bank p b).reg cd.toNat = (if go = true ∧ cd ≠ 0 then intCap (s.srcX p b cs1.toNat + s.srcX p b cs2.toNat) else (s.bank p b).reg cd.toNat) ∧
        (∀ m, m ≠ cd.toNat → (t.bank p b).reg m = (s.bank p b).reg m) ∧
        ((s.bank p b).le.toNat ≠ pc → (t.bank p b).pcc.addr = pc + 4 ∧ (t.bank p b).lc = (s.bank p b).lc) ∧
        ((s.bank p b).le.toNat = pc → 2 ≤ (s.bank p b).lc.toNat → (t.bank p b).pcc.addr = (s.bank p b).ls.toNat ∧ (t.bank p b).lc = (s.bank p b).lc - 1) ∧
        ((s.bank p b).le.toNat = pc → (s.bank p b).lc.toNat < 2 → (t.bank p b).pcc.addr = pc + 4 ∧ (t.bank p b).lc = 0) ∧
        (∀ e, e ≠ b → t.bank p e = s.bank p e) ∧ (∀ q, q ≠ p → t.pair q = s.pair q) ∧ SameMemory s t ∧ SameUnits s t) ∧
    (∀ (w : ShadowWrite) (ws : List ShadowWrite), (s.pair p).shadow = w :: ws →
      ∃ t, exec (.modeShadowEnd p) s = .next t ∧ (t.pair p).shadow = ws ∧
        (w.reg = .amode → (t.bank p w.bank).amode = ((s.bank p w.bank).amode &&& ~~~w.mask) ||| (w.value &&& w.mask)) ∧
        (w.reg = .ttbc → (t.bank p w.bank).ttbc = ((s.bank p w.bank).ttbc &&& ~~~w.mask) ||| (w.value &&& w.mask)) ∧
        (w.reg = .ctxcfg → (t.pair p).ctxcfg = ((s.pair p).ctxcfg &&& ~~~w.mask) ||| (w.value &&& w.mask)) ∧
        (w.reg = .bankw → (t.pair p).bankw = ((s.pair p).bankw &&& ~~~w.mask) ||| (w.value &&& w.mask)) ∧
        (w.reg = .status → (t.bank p w.bank).status = ((s.bank p w.bank).status &&& ~~~(w.mask &&& ~~~2)) ||| (w.value &&& (w.mask &&& ~~~2)) ∧
          (w.mask.getLsbD 1 = true → (t.pair p).det = w.value.getLsbD 1)) ∧
        (∀ e n, (t.bank p e).reg n = (s.bank p e).reg n) ∧ (∀ q, q ≠ p → t.pair q = s.pair q) ∧ SameMemory s t ∧ SameUnits s t)

/-- The dispatch unit's commands: post, enable, INVTASK, END, CLRCH, CLRCNT, RESTART, LOCKUP clear, lock point (R242, R250, R252, R258, R274, R275, R280, R564). -/
def Obligations.DispatchCommands : Prop :=
  ∀ (ch : BitVec 12) (c16 tn : BitVec 16) (p b : Nat) (second : Bool) (mask : Word) (e : TaskEntry) (x : Post) (pay : List Cap) (s s0 : State), Quiet s → s0 = { s with out := [] } →
    (bitsAt (s.slot ch.toNat) 20 3 = 0 → (s.slot ch.toNat).testBit 23 = true → s0.task (bitsAt (s.slot ch.toNat) 0 16) = (some e, s0) → s.fld (Addr.EVD_CHSTAT ch.toNat) 0 16 < 0xFFFF → ∃ u, exec (.evdPost ch) s = .next u ∧ u.evd.posts = s.evd.posts ++ [⟨ch.toNat, [], none, s.evd.nextId, none, s.clk⟩] ∧
        u.fld (Addr.EVD_CHSTAT ch.toNat) 0 16 = s.fld (Addr.EVD_CHSTAT ch.toNat) 0 16 + 1 ∧
        u.fld (Addr.EVD_CHSTAT ch.toNat) 32 32 = min (s.fld (Addr.EVD_CHSTAT ch.toNat) 32 32 + 1) (2 ^ 32 - 1) ∧
        u.fld Addr.EVD_STATUS 1 2 = 0 ∧
        u.evd.delivs = s.evd.delivs ∧
        (∀ a, a ∉ [Addr.EVD_CHSTAT ch.toNat, Addr.EVD_STATUS] → u.rd a = s.rd a) ∧
        { u with dev := s.dev, evd := s.evd, out := s.out } = s) ∧
    (bitsAt (s.slot ch.toNat) 20 3 ≠ 0 → ∃ u, exec (.evdPost ch) s = .next u ∧ u.fld Addr.EVD_STATUS 1 2 = 1 ∧
        (∀ a, a ∉ [Addr.EVD_STATUS] → u.rd a = s.rd a) ∧
        { u with dev := s.dev, out := s.out } = s) ∧
    (s.fld Addr.EVD_CTRL 0 1 = 0 → s.tally.chans = [] → s.latent = [] → ∃ u, exec (.evdEnable) s = .next u ∧ u.fld Addr.EVD_CTRL 0 1 = 1 ∧
        u.locked = true ∧
        (∀ q, q < 96 → s.usable q = true →
          (u.pair q).init = true ∧ ∃ d ∈ u.evd.delivs, (u.pair q).selected = some (.event d.id) ∧ d.chan = 4096 ∧ d.entry = 0 ∧
            d.pair = q ∧ d.task = s.fld (Addr.EVD_PAIRCFG q) 16 16) ∧
        (∀ q e, u.bank q e = s.bank q e) ∧
        SameMemory s u) ∧
    (s.fld Addr.EVD_CTRL 0 1 = 1 → exec (.evdEnable) s = .next { s with out := [] }) ∧
    (s.tally.chans = [] → s.latent = [] → ∃ u, exec (.invtask tn) s = .next u ∧ (u.task tn.toNat).1 = (s0.readTask tn.toNat).1 ∧
        u.fld Addr.EVD_STATUS 1 2 = 0 ∧
        { u with dev := s.dev, evd := s.evd, out := s.out } = s) ∧
    (s.residentOn tn.toNat = some p → (s.pair p).bankOf tn.toNat = some b → (s.bank p b).st = .suspended ∨ (s.bank p b).st = .idle → ∃ u, exec (.evdEnd tn) s = .next u ∧ u.bank p b = bankReset ∧
        u.fld Addr.EVD_STATUS 1 2 = 0 ∧
        (∀ q e, (q, e) ≠ (p, b) → u.bank q e = s.bank q e) ∧
        (∀ d ∈ u.evd.delivs, d.task ≠ tn.toNat) ∧
        (u.pair p).selected ≠ some (.bank b) ∧
        SameMemory s u) ∧
    (s.residentOn tn.toNat = none → ∃ u, exec (.evdEnd tn) s = .next u ∧ u.fld Addr.EVD_STATUS 1 2 = 1 ∧
        (∀ a, a ∉ [Addr.EVD_STATUS] → u.rd a = s.rd a) ∧
        { u with dev := s.dev, out := s.out } = s) ∧
    (c16.toNat < 4096 → ∃ u, exec (.clrch c16) s = .next u ∧ u.rd (Addr.EVD_CHSTAT c16.toNat) = BitVec.ofNat 64 (s.fld (Addr.EVD_CHSTAT c16.toNat) 0 16) ∧
        u.fld Addr.EVD_STATUS 1 2 = 0 ∧
        (∀ a, a ∉ [Addr.EVD_CHSTAT c16.toNat, Addr.EVD_STATUS] → u.rd a = s.rd a) ∧
        { u with dev := s.dev, out := s.out } = s) ∧
    (4096 ≤ c16.toNat → ∃ u, exec (.clrch c16) s = .next u ∧ u.fld Addr.EVD_STATUS 1 2 = 3 ∧
        u.fld Addr.EVD_ERR 0 1 = 1 ∧
        (∀ a, a ∉ [Addr.EVD_ERR, Addr.EVD_STATUS] → u.rd a = s.rd a) ∧
        { u with dev := s.dev, out := s.out } = s) ∧
    (∃ u, exec (.evdClrcnt) s = .next u ∧ (∀ a ∈ [Addr.EVD_CNT_RES, Addr.EVD_CNT_FILL, Addr.EVD_CNT_SPILL, Addr.EVD_CNT_STALL, Addr.EVD_CNT_REDISP], u.rd a = 0) ∧
        u.fld Addr.EVD_STATUS 1 2 = 0 ∧
        (∀ a, a ∉ [Addr.EVD_CNT_RES, Addr.EVD_CNT_FILL, Addr.EVD_CNT_SPILL, Addr.EVD_CNT_STALL, Addr.EVD_CNT_REDISP, Addr.EVD_STATUS] → u.rd a = s.rd a) ∧
        { u with dev := s.dev, out := s.out } = s) ∧
    (c16.toNat < 96 → (s.pair c16.toNat).halt.isSome = true → (s.pair c16.toNat).redispDone = true → s.tally.chans = [] → s.latent = [] → ∃ u, exec (.restart c16) s = .next u ∧ (u.pair c16.toNat).halt = none ∧
        (u.pair c16.toNat).run = none ∧
        (∀ e, u.bank c16.toNat e = bankReset) ∧
        (u.pair c16.toNat).init = true ∧
        u.fld Addr.EVD_STATUS 1 2 = 0 ∧
        (∃ d ∈ u.evd.delivs, (u.pair c16.toNat).selected = some (.event d.id) ∧ d.chan = 4096 ∧ d.pair = c16.toNat ∧
          d.payload = [intCap (BitVec.ofNat 64 (c16.toNat + 256))]) ∧
        (∀ q, q ≠ c16.toNat → u.pair q = s.pair q) ∧
        SameMemory s u) ∧
    (c16.toNat < 96 → (s.pair c16.toNat).halt = none → ∃ u, exec (.restart c16) s = .next u ∧ u.fld Addr.EVD_STATUS 1 2 = 1 ∧
        (∀ a, a ∉ [Addr.EVD_STATUS] → u.rd a = s.rd a) ∧
        { u with dev := s.dev, out := s.out } = s) ∧
    (∃ u, exec (.excClrcnt) s = .next u ∧ u.rd Addr.EXC_ESCCNT = 0 ∧
        (∀ a, a ∉ [Addr.EXC_ESCCNT] → u.rd a = s.rd a) ∧
        { u with dev := s.dev, out := s.out } = s) ∧
    (∃ u, exec (.lockupClear second mask) s = .next u ∧ (∀ i, i < 64 → (u.rd (if second then Addr.EXC_LOCKUP1 else Addr.EXC_LOCKUP0)).getLsbD i =
          ((s.rd (if second then Addr.EXC_LOCKUP1 else Addr.EXC_LOCKUP0)).getLsbD i &&
            !(mask.getLsbD i && (s.pair ((if second then 64 else 0) + i)).halt.isNone))) ∧
        (∀ a, a ∉ [Addr.EXC_LOCKUP0, Addr.EXC_LOCKUP1, Addr.EXC_ERR] → u.rd a = s.rd a) ∧
        { u with dev := s.dev, out := s.out } = s) ∧
    (exec .lockPoint s = .next { s with locked := true, out := [] }) ∧
    (c16.toNat < 96 → (s.pair c16.toNat).halt.isSome = true → (s.pair c16.toNat).redispDone = false → ∃ u, exec (.restart c16) s = .next u ∧ (u.pair c16.toNat).restartWait = true ∧
        (u.pair c16.toNat).halt = (s.pair c16.toNat).halt ∧
        u.fld Addr.EVD_STATUS 0 1 = 1 ∧
        (∀ a, a ∉ [Addr.EVD_STATUS] → u.rd a = s.rd a) ∧
        { u with dev := s.dev, pairs := s.pairs, out := s.out } = s)

/-- Divergence halts a pair, its record goes to the journal, an overstay and a fault timeout are noted (R227, R229, R239, R276, R282, R380). -/
def Obligations.HaltsAndSupervision : Prop :=
  ∀ (ch : BitVec 12) (c16 tn : BitVec 16) (p b : Nat) (second : Bool) (mask : Word) (e : TaskEntry) (x : Post) (pay : List Cap) (s s0 : State), Quiet s → s0 = { s with out := [] } →
    (p < 104 → (s.pair p).maskFrom.isSome = true → (s.pair p).maskNoted = false → ∃ u, exec (.maskOverstay p) s = .next u ∧ (u.pair p).maskNoted = true ∧
        (u.rd (if p < 64 then Addr.EXC_OVERSTAY0 else Addr.EXC_OVERSTAY1)).getLsbD (if p < 64 then p else p - 64) = true ∧
        ((s.queue 3).length < 256 → ∃ w, u.queue 3 = s.queue 3 ++ [w] ∧ w.1 = BitVec.ofNat 64 (1 + p * 65536)) ∧
        { u with dev := s.dev, notices := s.notices, pairs := s.pairs, out := s.out } = s) ∧
    (p < 96 → b < 15 → (s.bank p b).st = .suspended → (s.bank p b).ready = false → (s.bank p b).fault = some (ch.toNat, pay) → (s.pair p).run = none → (s.pair p).returning = none → (s.pair p).halt = none → (s.pair p).shadow = [] → (∀ d ∈ s.evd.delivs, d.fault ≠ some (p, b)) → s.evd.posts.find? (fun x => x.fault == some (p, b)) = some x → esccOk (s.pair p).escc = true → esscOk (s.pair p).essc = true → ∃ u, exec (.faultTimeout p b) s = .next u ∧ (u.pair p).run = some 15 ∧
        (u.bank p 15).pcc = (s.pair p).escc.withOtype 0 true ∧
        (u.bank p 15).prior = some (.bank b) ∧
        ((u.bank p 15).reg 28).bits.toNat % 256 = 0x3F ∧
        ((u.bank p 15).reg 31).bits.toNat % 256 = 0x43 ∧
        (u.bank p 15).reg 29 = intCap (BitVec.ofNat 64 ((pay.getD 1 nullCap).addr)) ∧
        x ∉ u.evd.posts ∧
        SameMemory s u) ∧
    (p < 96 → (s.pair p).halt = none → (s.pair p).failed = false → s.fld Addr.FC_CTRL 1 1 = 0 ∨ s.fld Addr.SEC_LC 0 3 ≠ 0 → ∃ u, exec (.divergence p) s = .next u ∧ (u.pair p).halt = some .divergence ∧
        (u.pair p).run = none ∧
        (u.pair p).resv = none ∧
        (u.pair p).selected = none ∧
        (∀ e n, (u.bank p e).reg n = (s.bank p e).reg n) ∧
        ((s.queue 3).length < 256 → u.queue 3 = s.queue 3 ++ [(BitVec.ofNat 64 (6 + p * 65536), 0)]) ∧
        (∀ o ∈ u.tally.transit, o.pair ≠ p) ∧
        (∀ d ∈ u.tally.done, d.op.pair ≠ p) ∧
        { u with dev := s.dev, notices := s.notices, pairs := s.pairs, tally := s.tally, out := s.out } = s) ∧
    (p < 104 → (s.pair p).halt.isSome = true → exec (.divergence p) s = .next { s with out := [] }) ∧
    (p < 104 → (s.pair p).halt = some .divergence → s.tallySettled p = true → s.haltAsked p = false → s.unsequenced p = false → ∃ u, exec (.divergenceRecord p) s = .next u ∧ (∃ r, u.jrn.queue = s.jrn.queue ++ [r] ∧ r.typ = 0xF004 ∧ r.issuer = .halt p ∧ r.payload.take 4 = natBytes 2 p ++ [BitVec.ofNat 8 (b2n (s.unjList p).ovf), BitVec.ofNat 8 (s.unjList p).adds.length]) ∧
        (∀ e ∈ u.jrn.ring, ∀ i ∈ e.issuers, i.ofPair p = false) ∧
        (∀ x ∈ u.jrn.orphans, x.1 ≠ p) ∧
        { u with dev := s.dev, jrn := s.jrn, out := s.out } = s) ∧
    (p < 104 → (s.pair p).halt = some .lockup → s.tallySettled p = true → s.haltAsked p = false → s.unsequenced p = false → ∃ u, exec (.haltRecord p) s = .next u ∧ (∃ r, u.jrn.queue = s.jrn.queue ++ [r] ∧ r.typ = 0xF005 ∧ r.issuer = .halt p ∧ r.payload.take 4 = natBytes 2 p ++ [BitVec.ofNat 8 (b2n (s.unjList p).ovf), BitVec.ofNat 8 (s.unjList p).adds.length]) ∧
        (∀ e ∈ u.jrn.ring, ∀ i ∈ e.issuers, i.ofPair p = false) ∧
        (∀ x ∈ u.jrn.orphans, x.1 ≠ p) ∧
        { u with dev := s.dev, jrn := s.jrn, out := s.out } = s)

/-- Selection, entry, resumption, spill, fill and re-dispatch of work (R235, R262, R263, R264, R266, R267, R268, R276, R277). -/
def Obligations.DispatchingWork : Prop :=
  ∀ (p b t : Nat) (c : Cand) (x : Post) (d : Delivery) (e : TaskEntry) (ds : List (BitVec 128)) (k : Cap) (img : Bank) (sb : SpillBuf) (sbs : List SpillBuf)
    (cause : HaltCause) (seq : Option Nat) (w s s0 : State), Quiet s → Quiet w → s0 = { s with out := [] } →
    (p < 96 → s.fld Addr.EVD_CTRL 0 1 = 1 → (s.pair p).halt = none → (s.pair p).selected = none → (s.pair p).returning = none → s.noPair = false → s.nextWork p = some ⟨c.prio, c.redisp, c.order, c.what, some x.chan, c.task⟩ → s.runPrio p < c.prio + 1 → s.takePost p c.task = some x → s0.task c.task = (some e, s0) → s.tally.chans = [] → s.latent = [] → ∃ u, exec (.eventSelect p) s = .next u ∧ (∃ d ∈ u.evd.delivs, (u.pair p).selected = some (.event d.id) ∧ d.id = s.evd.nextId ∧ d.chan = x.chan ∧ d.task = c.task ∧ d.entry = bitsAt (s.slot x.chan) 16 4 ∧ d.pair = p ∧ d.fault = x.fault ∧ d.prio = c.prio ∧ d.accepted = false ∧ d.entered = false) ∧
        u.fld (Addr.EVD_CHSTAT x.chan) 0 16 = (s.fld (Addr.EVD_CHSTAT x.chan) 0 16 - 1) % 65536 ∧
        u.evd.posts = s.evd.posts.filter (fun y => !(y.at_ == x.at_)) ∧
        smGet (always 0) u.evd.lastChan c.task = x.chan + 1 ∧
        (∀ q e, u.bank q e = s.bank q e) ∧
        SameMemory s u) ∧
    (p < 96 → s.fld Addr.EVD_CTRL 0 1 = 1 → (s.pair p).halt = none → (s.pair p).selected = none → (s.pair p).returning = none → s.noPair = false → s.nextWork p = some ⟨c.prio, c.redisp, c.order, c.what, none, c.task⟩ → s.runPrio p < c.prio + 1 → s.tally.chans = [] → s.latent = [] → ∃ u, exec (.eventSelect p) s = .next u ∧ (u.pair p).selected = some c.what ∧
        (∀ q e, u.bank q e = s.bank q e) ∧
        SameMemory s u) ∧
    (p < 96 → s.fld Addr.EVD_CTRL 0 1 = 0 ∨ (s.pair p).halt.isSome = true ∨ (s.noPair = false ∧ s.nextWork p = none) → exec (.eventSelect p) s = .next { s with out := [] }) ∧
    (p < 96 → s.selEvent p = some d → (s.pair p).run = none → (s.pair p).bankOf d.task = some b → (s.bank p b).st = .idle → s.mayEnter p d.prio = true → (s.pair p).standby = some ⟨.event d.id, ds, k⟩ → (∀ c ∈ d.regs, c.tag = false) → entryCheck k = none → (s.pair p).shadow = [] → ∃ u, exec (.eventEntry p) s = .next u ∧ (u.pair p).run = some b ∧
        (u.pair p).selected = none ∧
        (u.bank p b).pcc = k.withOtype 0 true ∧
        (u.bank p b).status = 0 ∧
        (u.bank p b).st = .running ∧
        (u.bank p b).prior = none ∧
        (u.bank p b).deliv = some d.id ∧
        (u.bank p b).region = ds ∧
        (∀ n, n < 28 → (u.bank p b).reg n = (s.bank p b).reg n) ∧
        (∀ n, n < 4 → (u.bank p b).reg (28 + n) = d.regs.getD n nullCap) ∧
        u.rd Addr.EVD_CNT_RES = (if d.filled then s.rd Addr.EVD_CNT_RES else BitVec.ofNat 64 (min ((s.rd Addr.EVD_CNT_RES).toNat + 1) (2 ^ 64 - 1))) ∧
        (∀ a, a ∉ [Addr.EVD_CNT_RES] → u.rd a = s.rd a) ∧
        { u with dev := s.dev, evd := s.evd, pairs := s.pairs, out := s.out } = s) ∧
    (p < 96 → (s.pair p).selected = some (.bank b) → (s.pair p).run = none → (s.bank p b).ready = true → s.mayEnter p (s.bankPrio p b) = true → (s.pair p).standby = some ⟨.bank b, ds, k⟩ → (s.pair p).shadow = [] → ∃ u, exec (.bankResumption p) s = .next u ∧ (u.pair p).run = some b ∧
        (u.pair p).selected = none ∧
        (u.bank p b).st = .running ∧
        (u.bank p b).ready = false ∧
        (u.bank p b).region = ds ∧
        (u.bank p b).pcc = (s.bank p b).pcc ∧
        (∀ n, (u.bank p b).reg n = (s.bank p b).reg n) ∧
        (u.pair p).resumed = true ∧
        (∀ a, a ∉ [Addr.EVD_CNT_RES] → u.rd a = s.rd a) ∧
        { u with dev := s.dev, evd := s.evd, pairs := s.pairs, out := s.out } = s) ∧
    (p < 96 → (s.pair p).halt = none → s.inRepu p = false → s.wantedElsewhere p = none → s.needsBank p = true → (s.pair p).freeBank = none → (s.pair p).victim = some b → s0.spillBank p b = .ok () w → ∃ u, exec (.spill p) s = .next u ∧ u.pairs = w.pairs ∧
        u.mem = w.mem ∧
        u.bank p b = bankReset ∧
        (∃ l y, (u.pair p).spillBufs = l ++ [y] ∧ y.bank = s.bank p b ∧ y.task = (s.bank p b).task.getD 0)) ∧
    (p < 96 → (s.pair p).halt = none → s.inRepu p = false → s.wantedElsewhere p = none → s.needsBank p = true → (s.pair p).freeBank = none → (s.pair p).victim = none → (s.pair p).stalled = false → ∃ u, exec (.spill p) s = .next u ∧ (u.pair p).stalled = true ∧
        u.rd Addr.EVD_CNT_STALL = BitVec.ofNat 64 (min ((s.rd Addr.EVD_CNT_STALL).toNat + 1) (2 ^ 64 - 1)) ∧
        (∀ a, a ∉ [Addr.EVD_CNT_STALL] → u.rd a = s.rd a) ∧
        { u with dev := s.dev, pairs := s.pairs, out := s.out } = s) ∧
    (p < 96 → (s.pair p).spillBufs = sb :: sbs → s.tally.chans = [] → s.latent = [] → sb.bank.ttbc.toNat % 2 = 0 → ∃ u, exec (.spillWriteComplete p) s = .next u ∧ (u.pair p).spillBufs = sbs ∧
        smGet (always false) u.evd.spilled sb.task = true ∧
        u.numAt .dram (sb.dst.getLastD 0) 8 = (b2n sb.midEvent + sb.prio * 16) % 2 ^ 64 ∧
        (∀ q e, u.bank q e = s.bank q e)) ∧
    (p < 96 → (s.pair p).spillBufs = [] → exec (.spillWriteComplete p) s = .next { s with out := [] }) ∧
    (p < 96 → (s.pair p).freeCount < s.fld Addr.EVD_SPILLCFG 0 3 → (s.pair p).halt = none → s.inRepu p = false → (s.pair p).victim = some b → s0.spillBank p b = .ok () w → ∃ u, exec (.backgroundSpill p) s = .next u ∧ u.pairs = w.pairs ∧
        u.mem = w.mem ∧
        u.bank p b = bankReset) ∧
    (p < 96 → s.fld Addr.EVD_SPILLCFG 0 3 ≤ (s.pair p).freeCount → exec (.backgroundSpill p) s = .next { s with out := [] }) ∧
    (p < 96 → (s.pair p).halt = none → s.fillTask p = some t → (s.pair p).freeBank = some b → (∀ q, (s.pair q).spillBufs = []) → (s.pair p).returning = none → s0.task t = (some e, s0) → s0.fillImage p t e = .ok img s0 → ∃ u, exec (.fill p) s = .next u ∧ u.bank p b = { img with st := .idle } ∧
        smGet (always false) u.evd.spilled t = false ∧
        u.rd Addr.EVD_CNT_FILL = BitVec.ofNat 64 (min ((s.rd Addr.EVD_CNT_FILL).toNat + 1) (2 ^ 64 - 1)) ∧
        (∀ q e, (q, e) ≠ (p, b) → u.bank q e = s.bank q e) ∧
        (∀ a, a ∉ [Addr.EVD_CNT_FILL] → u.rd a = s.rd a) ∧
        { u with dev := s.dev, evd := s.evd, pairs := s.pairs, out := s.out } = s) ∧
    (p < 96 → (s.pair p).halt = some cause → s.evd.redisp.find? (fun e => e.1 == p) = some (p, seq) → s.tallySettled p = true → (s.pair p).spillBufs = [] → (s.pair p).esc.dropDeliv = none → (s.pair p).restartWait = false → (∀ d ∈ s.evd.delivs, d.fault = none) → ∃ u, exec (.redispatch p) s = .next u ∧ (∀ e, u.bank p e = bankReset) ∧
        (u.pair p).selected = none ∧
        (∀ q, q ≠ p → u.pair q = s.pair q) ∧
        (∀ d ∈ s.evd.delivs, d.pair = p → d.chan ≠ 4096 → d.accepted = true → ∃ d2 ∈ u.evd.delivs, d2.id = d.id ∧ d2.task = d.task ∧ d2.payload = d.payload ∧ d2.accepted = false ∧ d2.entered = false ∧ d2.redisp = some (redispWord p seq (cause == .lockup) (s.unjList p).ovf)) ∧
        (∀ d ∈ s.evd.delivs, d.pair ≠ p ∨ (d.chan ≠ 4096 ∧ d.accepted = false) → d ∈ u.evd.delivs) ∧
        (u.pair p).redispDone = true ∧
        (u.unjList p).adds = [] ∧
        (∀ x ∈ u.evd.redisp, x.1 ≠ p) ∧
        SameMemory s u)

/-- An Eclipse epoch starts, passes over the pairs, scans memory, and completes (R81, R89, R90, R92, R93, R95, R96, R100). -/
def Obligations.EclipseEpochs : Prop :=
  ∀ (p b n : Nat) (c k : Cap) (r : ScanRange) (rs l : List ScanRange) (w s s0 : State), Quiet s → Quiet w → s0 = { s with out := [] } →
    (s.eclMayStart = true → ∃ u, exec (.eclStart) s = .next u ∧ u.rd Addr.ECL_EPOCH_STARTED = s.rd Addr.ECL_EPOCH_STARTED + 1 ∧
        u.fld Addr.ECL_STATUS 0 1 = 1 ∧
        u.eclPhase = 1 ∧
        u.fld Addr.ECL_STATUS 5 2 = 0 ∧
        u.sweep.todo = [] ∧
        u.sweep.freshRun = false ∧
        (∀ a, a ∉ [Addr.ECL_EPOCH_STARTED, Addr.ECL_STATUS, Addr.ECL_ERR] → u.rd a = s.rd a) ∧
        { u with dev := s.dev, sweep := s.sweep, out := s.out } = s) ∧
    (s.eclMayStart = false → ∃ u, exec (.eclStart) s = .next u ∧ u.fld Addr.ECL_STATUS 5 2 = 1 ∧
        (∀ a, a ∉ [Addr.ECL_STATUS] → u.rd a = s.rd a) ∧
        { u with dev := s.dev, out := s.out } = s) ∧
    (s.eclMayStart = true → s.fld Addr.ECL_CTRL 1 1 = 1 → s.fld Addr.ECL_STATUS 7 1 = 0 → s.sweep.fresh = true → ∃ u, exec (.eclAutoStart) s = .next u ∧ u.rd Addr.ECL_EPOCH_STARTED = s.rd Addr.ECL_EPOCH_STARTED + 1 ∧
        u.fld Addr.ECL_STATUS 0 1 = 1 ∧
        u.eclPhase = 1 ∧
        (∀ a, a ∉ [Addr.ECL_EPOCH_STARTED, Addr.ECL_STATUS, Addr.ECL_ERR] → u.rd a = s.rd a) ∧
        { u with dev := s.dev, sweep := s.sweep, out := s.out } = s) ∧
    (s.sweep.fresh = false → exec (.eclAutoStart) s = .next { s with out := [] }) ∧
    (s.fld Addr.ECL_STATUS 0 1 = 1 → s.fld Addr.ECL_EVT 15 1 = 0 → ∃ u, exec (.eclAbort) s = .next u ∧ u.fld Addr.ECL_STATUS 0 4 = 0 ∧
        u.fld Addr.ECL_STATUS 7 1 = 1 ∧
        u.fld Addr.ECL_STATUS 5 2 = 0 ∧
        u.sweep.todo = [] ∧
        (∀ q, (u.pair q).passDue = false) ∧
        u.rd Addr.ECL_EPOCH_DONE = s.rd Addr.ECL_EPOCH_DONE ∧
        (∀ a, a ∉ [Addr.ECL_STATUS] → u.rd a = s.rd a) ∧
        { u with dev := s.dev, sweep := s.sweep, pairs := s.pairs, out := s.out } = s) ∧
    (s.fld Addr.ECL_STATUS 0 1 = 0 → s.sweep.doneAt ≠ some s.clk → ∃ u, exec (.eclAbort) s = .next u ∧ u.fld Addr.ECL_STATUS 5 2 = 1 ∧
        (∀ a, a ∉ [Addr.ECL_STATUS] → u.rd a = s.rd a) ∧
        { u with dev := s.dev, out := s.out } = s) ∧
    (∃ u, exec (.eclClrcnt) s = .next u ∧ (∀ a ∈ [Addr.ECL_CNT_GRAN, Addr.ECL_CNT_PAGES, Addr.ECL_CNT_SKIP, Addr.ECL_CNT_SWCLR, Addr.ECL_CNT_LBCLR], u.rd a = 0) ∧
        (∀ a, a ∉ [Addr.ECL_CNT_GRAN, Addr.ECL_CNT_PAGES, Addr.ECL_CNT_SKIP, Addr.ECL_CNT_SWCLR, Addr.ECL_CNT_LBCLR, Addr.ECL_STATUS] → u.rd a = s.rd a) ∧
        { u with dev := s.dev, out := s.out } = s) ∧
    (p < 104 → (s.pair p).passDue = true → (s.pair p).halt = none → (s.pair p).det = false → (s.pair p).run = none → (∀ b, (s.bank p b).ttbc.toNat % 2 = 0) → b < 16 → c = (s.bank p b).reg n → s.latent = [] → ∃ u, exec (.eclipsePass p) s = .next u ∧ (u.pair p).passDue = false ∧
        ((u.bank p b).reg n).bits = c.bits ∧
        (c.tag = true → c.malformed = false → neverRevoked c = false → spaceOf p c.base = .dram → c.base < 2 ^ 44 → s.eclipsed c.base = true → 1 ≤ n → n < 32 → (s.pair p).banks.any (fun x => x.1 == b) = true → ((u.bank p b).reg n).tag = false) ∧
        (s.eclipsed c.base = false → ((u.bank p b).reg n).tag = c.tag) ∧
        SameMemory s u ∧
        u.rd Addr.ECL_EPOCH_DONE = s.rd Addr.ECL_EPOCH_DONE) ∧
    (p < 104 → (s.pair p).passDue = false ∨ (s.pair p).halt.isSome = true ∨ (s.pair p).det = true → exec (.eclipsePass p) s = .next { s with out := [] }) ∧
    (s.eclPhase = 3 ∨ s.eclPhase = 4 → s.sweep.todo = r :: rs → r.first < r.stop → r.tcm = none → r.xl = .physical → s.tally.chans = [] → s.latent = [] → k = s.capAt .dram (16 * r.first) → ∃ u, exec (.sweepGranule) s = .next u ∧ u.sweep.todo = (if r.first + 1 < r.stop then { r with first := r.first + 1 } :: rs else rs) ∧
        u.tagAt .dram (16 * r.first) = (k.tag && (k.malformed || neverRevoked k || !(decide (k.base < 2 ^ 41) && s.eclipsed k.base))) ∧
        (∀ g, g / 16 ≠ r.first → u.tagAt .dram g = s.tagAt .dram g) ∧
        u.mem = s.mem ∧
        u.bitmap = s.bitmap ∧
        u.rd Addr.ECL_CNT_GRAN = BitVec.ofNat 64 (min ((s.rd Addr.ECL_CNT_GRAN).toNat + 1) (2 ^ 64 - 1))) ∧
    (s.eclPhase ≠ 3 → s.eclPhase ≠ 4 → exec (.sweepGranule) s = .next { s with out := [] }) ∧
    (s.eclPhase = 1 → ∃ u, exec (.eclPhaseAdvance) s = .next u ∧ u.eclPhase = 2 ∧
        (∀ q, q < 104 → (s.pair q).halt = none → (u.pair q).passDue = true) ∧
        (∀ q, q < 104 → (u.pair q).banks = (s.pair q).banks) ∧
        (∀ a, a ∉ [Addr.ECL_STATUS] → u.rd a = s.rd a) ∧
        { u with dev := s.dev, pairs := s.pairs, out := s.out } = s) ∧
    (s.eclPhase = 4 → s.sweep.todo = [] → ∃ u, exec (.eclPhaseAdvance) s = .next u ∧ u.eclPhase = 5 ∧
        (∀ q, q < 104 → (s.pair q).halt = none → (u.pair q).passDue = true) ∧
        (∀ a, a ∉ [Addr.ECL_STATUS] → u.rd a = s.rd a) ∧
        { u with dev := s.dev, pairs := s.pairs, out := s.out } = s) ∧
    (s.eclPhase = 2 → s.passesDue = false → s0.buildRoots [] s.sweep.roots = (w, some l) → ∃ u, exec (.eclPhaseAdvance) s = .next u ∧ u.eclPhase = 3 ∧
        u.sweep.todo = l ++ tcmRanges) ∧
    (s.eclPhase = 5 → s.passesDue = false → s.fld Addr.ECL_EVT 15 1 = 0 → ∃ u, exec (.epochCompletion) s = .next u ∧ u.rd Addr.ECL_EPOCH_DONE = s.rd Addr.ECL_EPOCH_STARTED ∧
        u.fld Addr.ECL_STATUS 0 4 = 0 ∧
        u.sweep.todo = [] ∧
        u.sweep.fresh = s.sweep.freshRun ∧
        u.sweep.waits = true ∧
        u.sweep.doneAt = some s.clk ∧
        (∃ q, u.jrn.queue = s.jrn.queue ++ [q] ∧ q.typ = 0xF009 ∧ q.src = 0x0202 ∧ q.payload.take 8 = natBytes 8 (s.rd Addr.ECL_EPOCH_STARTED).toNat) ∧
        { u with dev := s.dev, sweep := s.sweep, jrn := s.jrn, out := s.out } = s) ∧
    (s.eclPhase ≠ 5 → exec (.epochCompletion) s = .next { s with out := [] }) ∧
    (s.fld Addr.ECL_STATUS 0 1 = 0 → s.sweep.doneAt = some s.clk → ∃ u, exec (.eclAbort) s = .next u ∧ u.fld Addr.ECL_STATUS 5 2 = 2 ∧
        (∀ a, a ∉ [Addr.ECL_STATUS] → u.rd a = s.rd a) ∧
        { u with dev := s.dev, out := s.out } = s)

/-- A tally unit admits, decides, writes back, parks and answers its operations (R206, R211, R213, R214, R215, R217, R219, R221). -/
def Obligations.TallyUnitOperations : Prop :=
  ∀ (id ch cell ea n : Nat) (dc : Decision) (core : BitVec 7) (o : TallyOp) (e : CombEntry) (dn : TallyDone) (bs : List Byte) (s : State), Quiet s →
    (s.tally.transit.find? (fun o => o.id == id) = some o → (s.tch (channelOf o.cell)).entryOf o.cell = none → (s.tch (channelOf o.cell)).entries.length < s.fld Addr.TALLY_COMB 20 10 → s.fld Addr.TALLY_CTRL 0 1 = 0 → ∃ u, exec (.tallyDecisionArrival id) s = .next u ∧ u.tally.transit = s.tally.transit.filter (fun x => !(x.id == id)) ∧
        (u.tch (channelOf o.cell)).entries = (s.tch (channelOf o.cell)).entries ++ [⟨o.cell, .loading, [], [o], 0, false, s.fld Addr.TALLY_COMB 10 7, s.tally.nextId⟩] ∧
        u.tally.done = s.tally.done ∧
        (∀ a, a ∉ [Addr.TCH_OCC (channelOf o.cell)] → u.rd a = s.rd a) ∧
        { u with dev := s.dev, tally := s.tally, out := s.out } = s) ∧
    (s.tally.transit.find? (fun o => o.id == id) = some o → (s.tch (channelOf o.cell)).entryOf o.cell = some e → e.st = .active → ∃ u, exec (.tallyDecisionArrival id) s = .next u ∧ (∃ dn, u.tally.done = s.tally.done ++ [dn] ∧ dn.op = o ∧
          dn.status = BitVec.ofNat 64 (decideOp s.time s.timeUnc (s.fld Addr.TALLY_GRACE 0 20 * 1000) o e.data).status) ∧
        u.tally.transit = s.tally.transit.filter (fun x => !(x.id == id)) ∧
        SameMemory s u ∧
        (∀ q, u.pair q = s.pair q)) ∧
    (s.tally.transit.find? (fun o => o.id == id) = none → exec (.tallyDecisionArrival id) s = .next { s with out := [] }) ∧
    ((s.tch (channelOf cell)).entryOf cell = some e → e.st = .loading → s.latent = [] → s.poisoned e.cell = false → e.waiting = [] → 0 < e.most → ∃ u, exec (.combLoadComplete cell) s = .next u ∧ u.tch (channelOf cell) = (s.tch (channelOf cell)).putEntry { e with st := .active, data := s.bytesAt .dram e.cell 64, waiting := [], changes := 0, used := s.tally.nextId } ∧
        u.mem = s.mem ∧
        (∀ a, a ∉ [Addr.TCH_OCC (channelOf cell)] → u.rd a = s.rd a) ∧
        { u with dev := s.dev, tally := s.tally, arbs := s.arbs, out := s.out } = s) ∧
    ((s.tch (channelOf cell)).entryOf cell = some e → e.st = .active → e.dirty = true → ∃ u, exec (.combWindowExpiry cell) s = .next u ∧ u.tch (channelOf cell) = (s.tch (channelOf cell)).putEntry { e with st := .flushing } ∧
        (∀ a, a ∉ [Addr.TCH_OCC (channelOf cell)] → u.rd a = s.rd a) ∧
        { u with dev := s.dev, tally := s.tally, out := s.out } = s) ∧
    ((s.tch (channelOf cell)).entryOf cell = some e → e.dirty = false → exec (.combWindowExpiry cell) s = .next { s with out := [] }) ∧
    ((s.tch (channelOf cell)).entryOf cell = some e → e.st = .flushing → e.data.length = 64 → cell % 64 = 0 → cell + 64 ≤ 2 ^ 41 → e.cell = cell → ∃ u, exec (.combWritebackComplete cell) s = .next u ∧ u.tch (channelOf cell) = (s.tch (channelOf cell)).putEntry { e with st := .active, changes := 0, marked := false } ∧
        u.bytesAt .dram cell 64 = e.data ∧
        (∀ a, (a < cell ∨ cell + 64 ≤ a) → u.byteAt .dram a = s.byteAt .dram a) ∧
        (∀ a, cell ≤ a → a < cell + 64 → u.tagAt .dram a = false)) ∧
    (s.parkedOp id = some (ch, o) → ((s.tch ch).parked.find? (fun x => x.cell == o.cell)).map (fun x => x.id) = some id → (s.tch ch).entryOf o.cell = none → (s.tch ch).entries.length < s.fld Addr.TALLY_COMB 20 10 → s.fld Addr.TALLY_CTRL 0 1 = 0 → ∃ u, exec (.unpark id) s = .next u ∧ u.tch ch = ⟨(s.tch ch).entries ++ [⟨o.cell, .loading, [], [o], 0, false, s.fld Addr.TALLY_COMB 10 7, s.tally.nextId⟩], (s.tch ch).parked.filter (fun x => !(x.id == id))⟩ ∧
        (∀ a, a ∉ [Addr.TCH_OCC ch] → u.rd a = s.rd a) ∧
        { u with dev := s.dev, tally := s.tally, out := s.out } = s) ∧
    (s.parkedOp id = none → exec (.unpark id) s = .next { s with out := [] }) ∧
    (s.parkedOp id = some (ch, o) → ∃ u, exec (.parkTimeout id) s = .next u ∧ (u.tch ch).parked = (s.tch ch).parked.filter (fun x => !(x.id == id)) ∧
        (u.tch ch).entries = (s.tch ch).entries ∧
        (∃ dn, u.tally.done = s.tally.done ++ [dn] ∧ dn.op = o ∧ dn.status.toNat % 256 = 3 ∧ dn.snapshot = none) ∧
        u.mem = s.mem ∧
        (∀ a, a ∉ [Addr.TCH_OCC ch, Addr.TCH_CNT_RETRY ch] → u.rd a = s.rd a) ∧
        { u with dev := s.dev, tally := s.tally, out := s.out } = s) ∧
    (s.tally.done.find? (fun x => x.op.id == id) = some dn → dn.snapshot = none → ∃ u, exec (.tallyStatusReturn id) s = .next u ∧ u.tally.done = s.tally.done.filter (fun x => !(x.op.id == id)) ∧
        (u.bank dn.op.pair dn.op.bank).reg dn.op.cd = (if dn.op.cd = 0 then nullCap else intCap dn.status) ∧
        (∀ n, n ≠ dn.op.cd → (u.bank dn.op.pair dn.op.bank).reg n = (s.bank dn.op.pair dn.op.bank).reg n) ∧
        { u with tally := s.tally, pairs := s.pairs, out := s.out } = s) ∧
    (s.tally.done.find? (fun x => x.op.id == id) = some dn → dn.snapshot = some bs → dn.op.dst = [(ea, 64)] → bs.length = 64 → ea + 64 ≤ 2 ^ 41 → s.tally.chans = [] → s.latent = [] → ∃ u, exec (.tallyStatusReturn id) s = .next u ∧ u.bytesAt .dram ea 64 = bs ∧
        SameBytesOutside s u ea 64 ∧
        (u.bank dn.op.pair dn.op.bank).reg dn.op.cd = (if dn.op.cd = 0 then nullCap else intCap dn.status)) ∧
    (core.toNat < 96 → (s.pair core.toNat).halt.isSome = true → ∃ u, exec (.tallyAbort core) s = .next u ∧ u.fld Addr.TALLY_STATUS 8 16 = s.undecided core.toNat % 65536 ∧
        (∀ x ∈ u.tally.transit, x.pair ≠ core.toNat) ∧
        (∀ x ∈ u.tally.done, x.op.pair ≠ core.toNat) ∧
        u.fld Addr.TALLY_STATUS 24 16 = (s.tally.done.filter (fun x => x.op.pair == core.toNat)).length % 65536 ∧
        (∀ h, h < 16 → (∀ x ∈ (u.tch h).parked, x.pair ≠ core.toNat) ∧ (∀ y ∈ (u.tch h).entries, ∀ x ∈ y.waiting, x.pair ≠ core.toNat)) ∧
        u.mem = s.mem) ∧
    (core.toNat < 96 → (s.pair core.toNat).halt = none → ∃ u, exec (.tallyAbort core) s = .next u ∧ u.fld Addr.TALLY_STATUS 0 2 = 1 ∧
        (∀ a, a ∉ [Addr.TALLY_STATUS] → u.rd a = s.rd a) ∧
        { u with dev := s.dev, out := s.out } = s) ∧
    (96 ≤ core.toNat → ∃ u, exec (.tallyAbort core) s = .next u ∧ u.fld Addr.TALLY_STATUS 0 2 = 3 ∧
        { u with dev := s.dev, out := s.out } = s) ∧
    (∃ u, exec (.tallyClrcnt) s = .next u ∧ (∀ h, h < 16 → u.rd (Addr.TCH_CNT_ACC h) = 0 ∧ u.rd (Addr.TCH_CNT_LATE h) = 0 ∧ u.rd (Addr.TCH_CNT_SEAL h) = 0 ∧ u.rd (Addr.TCH_CNT_RETRY h) = 0 ∧ u.rd (Addr.TCH_CNT_WB h) = 0 ∧ u.rd (Addr.TCH_CNT_PARK h) = 0) ∧
        u.fld Addr.TALLY_STATUS 0 2 = 0 ∧
        { u with dev := s.dev, out := s.out } = s) ∧
    (cell < 2 ^ 41 → cell % 64 = 0 → (s.tch (channelOf cell)).entryOf cell = some e → e.st = .active → e.dirty = false → s.latent = [] → ∃ u, exec (.cellLineAccess cell) s = .next u ∧ (u.tch (channelOf cell)).entryOf cell = none ∧
        u.mem = s.mem ∧
        u.tally.done = s.tally.done ∧
        (∀ a, a ∉ [Addr.TCH_OCC (channelOf cell)] → u.rd a = s.rd a) ∧
        { u with dev := s.dev, tally := s.tally, out := s.out } = s) ∧
    (cell < 2 ^ 41 → cell % 64 = 0 → (s.tch (channelOf cell)).entryOf cell = some e → e.st ≠ .loading → e.dirty = true ∨ e.st = .flushing → s.latent = [] → e.data.length = 64 → e.cell = cell → ∃ u, exec (.cellLineAccess cell) s = .next u ∧ (u.tch (channelOf cell)).entryOf cell = none ∧
        u.bytesAt .dram cell 64 = e.data ∧
        SameBytesOutside s u cell 64) ∧
    (cell < 2 ^ 41 → (s.tch (channelOf (cell / 64 * 64))).entryOf (cell / 64 * 64) = none → exec (.cellLineAccess cell) s = .next { s with out := [] }) ∧
    ((s.tch (channelOf cell)).entryOf cell = some e → e.st = .loading → s.latent = [] → s.poisoned e.cell = false → e.waiting = [o] → dc = decideOp s.time s.timeUnc (s.fld Addr.TALLY_GRACE 0 20 * 1000) o (s.bytesAt .dram e.cell 64) → n = (if dc.cell = s.bytesAt .dram e.cell 64 then 0 else 1) → ∃ u, exec (.combLoadComplete cell) s = .next u ∧ u.tch (channelOf cell) = (s.tch (channelOf cell)).putEntry { e with st := (if e.most ≤ n then .flushing else .active), data := dc.cell, waiting := [], changes := n, used := s.tally.nextId } ∧
        (∃ dn, u.tally.done = s.tally.done ++ [dn] ∧ dn.op = o ∧ dn.status = BitVec.ofNat 64 dc.status) ∧
        SameMemory s u) ∧
    (s.parkedOp id = some (ch, o) → n = (s.tch ch).parked.length - ((s.tch ch).parked.filter (fun x => x.id == id)).length → ∃ u, exec (.parkTimeout id) s = .next u ∧ (∃ dn, u.tally.done = s.tally.done ++ [dn] ∧ dn.op = o ∧ dn.status.toNat = 3 + 65536 * min (s.fld Addr.TALLY_BOFF 0 16 + s.fld Addr.TALLY_BOFF 16 16 * n) 0xFFFF))

/-- Arbiter decisions, commits, the hold monitor, refresh, and the scrubs (R339, R340, R342, R345, R348, R349, R350, R351, R354, R545). -/
def Obligations.ChannelsArbitersAndScrubs : Prop :=
  ∀ (ch q n a cyc total below : Nat) (cand : BitVec 22) (cs bad : List Nat) (x : BitVec 32) (mask : BitVec 16) (t0 t1 t2 l : Word) (found : Option Bool) (s : State), Quiet s →
    (ch < 16 → (s.arb ch).snap = none → (s.arb ch).refreshDue = true → (s.arb ch).owner = some q → 12 ≤ q ∧ q ≤ 20 ∨ cand.toNat.testBit q = true → ∃ u, exec (.arbDecision ch cand cyc) s = .next u ∧ (∃ l, u.arb ch = { s.arb ch with owner := none, noted := false, refreshDue := false, parked := (s.arb ch).parked ++ l } ∧ ∀ r ∈ l, r < 22 ∧ cand.toNat.testBit r = true) ∧
        u.waitOf ch q = s.fld (Addr.ARB_LIM_ACT ch) 0 10 ∧
        (∀ a, a ∉ [Addr.ARB_STAT ch q] → u.rd a = s.rd a) ∧
        { u with dev := s.dev, arbs := s.arbs, out := s.out } = s) ∧
    (ch < 16 → (s.arb ch).snap = none → (s.arb ch).refreshDue = false → (s.arb ch).debugDue = false → cs = (List.range 22).filter (fun r => cand.toNat.testBit r || (s.arb ch).parked.contains r) → x = lfsrAdvance (BitVec.ofNat 32 (s.fld (Addr.MCH_LFSR ch) 0 32)) 32 → q ∈ cs → s.fld (Addr.ARB_LIM_ACT ch) 0 10 ≤ s.waitOf ch q → (∀ r ∈ cs, s.fld (Addr.ARB_LIM_ACT ch) 0 10 ≤ s.waitOf ch r → s.waitOf ch r ≤ s.waitOf ch q ∧ (s.waitOf ch r = s.waitOf ch q → q ≤ r)) → ∃ u, exec (.arbDecision ch cand cyc) s = .next u ∧ (u.arb ch).owner = some q ∧
        (u.arb ch).noted = false ∧
        u.rd (Addr.MCH_LFSR ch) = x.setWidth 64 ∧
        u.waitOf ch q = 0 ∧
        (∀ r ∈ cs, r ≠ q → u.waitOf ch r = min (s.waitOf ch r + 1) 1023) ∧
        (∀ r, r < 22 → r ∉ cs → u.waitOf ch r = s.waitOf ch r) ∧
        (∀ h, h ≠ ch → u.arb h = (if h < 16 ∧ q ≠ 12 ∧ q ≠ 20 ∧ (s.arb h).owner = some q then { s.arb h with owner := none, noted := false } else s.arb h)) ∧
        (∀ r, r ≠ q → (s.arb ch).parked.contains r = true → (u.arb ch).parked.contains r = true) ∧
        (∀ r ∈ (u.arb ch).parked, r ∈ cs) ∧
        u.rd (Addr.ARB_FORCED ch) = BitVec.ofNat 64 (min ((s.rd (Addr.ARB_FORCED ch)).toNat + 1) (2 ^ 64 - 1)) ∧
        { u with dev := s.dev, arbs := s.arbs, out := s.out } = s) ∧
    (ch < 16 → (s.arb ch).snap = none → (s.arb ch).refreshDue = false → (s.arb ch).debugDue = false → cs = (List.range 22).filter (fun r => cand.toNat.testBit r || (s.arb ch).parked.contains r) → x = lfsrAdvance (BitVec.ofNat 32 (s.fld (Addr.MCH_LFSR ch) 0 32)) 32 → q ∈ cs → (∀ r ∈ cs, s.waitOf ch r < s.fld (Addr.ARB_LIM_ACT ch) 0 10) → total = (cs.map (fun r => s.ticket ch r)).sum → below = ((cs.filter (fun r => decide (r < q))).map (fun r => s.ticket ch r)).sum → below ≤ x.toNat * total / 2 ^ 32 → x.toNat * total / 2 ^ 32 < below + s.ticket ch q → ∃ u, exec (.arbDecision ch cand cyc) s = .next u ∧ (u.arb ch).owner = some q ∧
        (u.arb ch).noted = false ∧
        u.rd (Addr.MCH_LFSR ch) = x.setWidth 64 ∧
        u.waitOf ch q = 0 ∧
        (∀ r ∈ cs, r ≠ q → u.waitOf ch r = min (s.waitOf ch r + 1) 1023) ∧
        (∀ r, r < 22 → r ∉ cs → u.waitOf ch r = s.waitOf ch r) ∧
        (∀ h, h ≠ ch → u.arb h = (if h < 16 ∧ q ≠ 12 ∧ q ≠ 20 ∧ (s.arb h).owner = some q then { s.arb h with owner := none, noted := false } else s.arb h)) ∧
        (∀ r, r ≠ q → (s.arb ch).parked.contains r = true → (u.arb ch).parked.contains r = true) ∧
        (∀ r ∈ (u.arb ch).parked, r ∈ cs) ∧
        u.rd (Addr.ARB_FORCED ch) = s.rd (Addr.ARB_FORCED ch) ∧
        { u with dev := s.dev, arbs := s.arbs, out := s.out } = s) ∧
    (mask ≠ 0 → ∃ u, exec (.arbCommit mask) s = .next u ∧ u.fld Addr.ARB_CSTATUS 16 3 = (if mask.toNat &&& s.fld Addr.ARB_CSTATUS 0 16 = 0 then 0 else 2) ∧
        (∀ h, h < 16 → (u.arb h).transit = (s.arb h).transit + (if mask.getLsbD h then 1 else 0) ∧ (u.rd Addr.ARB_CSTATUS).getLsbD h = ((s.rd Addr.ARB_CSTATUS).getLsbD h || mask.getLsbD h)) ∧
        (∀ a, a ∉ [Addr.ARB_CSTATUS] → u.rd a = s.rd a) ∧
        { u with dev := s.dev, arbs := s.arbs, out := s.out } = s) ∧
    (mask = 0 → ∃ u, exec (.arbCommit mask) s = .next u ∧ u.fld Addr.ARB_CSTATUS 16 3 = 1 ∧
        (∀ a, a ∉ [Addr.ARB_CSTATUS] → u.rd a = s.rd a) ∧
        { u with dev := s.dev, out := s.out } = s) ∧
    (ch < 16 → 0 < (s.arb ch).transit → boundsOk s t0 t1 t2 l = true → t0 = s.rd (Addr.ARB_TKT0 ch) → t1 = s.rd (Addr.ARB_TKT1 ch) → t2 = s.rd (Addr.ARB_TKT2 ch) → l = s.rd (Addr.ARB_LIM ch) → ∃ u, exec (.commitArrival ch) s = .next u ∧ u.arb ch = { s.arb ch with transit := (s.arb ch).transit - 1, snap := some (t0, t1, t2, l) } ∧
        { u with arbs := s.arbs, out := s.out } = s) ∧
    (ch < 16 → 0 < (s.arb ch).transit → boundsOk s t0 t1 t2 l = false → t0 = s.rd (Addr.ARB_TKT0 ch) → t1 = s.rd (Addr.ARB_TKT1 ch) → t2 = s.rd (Addr.ARB_TKT2 ch) → l = s.rd (Addr.ARB_LIM ch) → ∃ u, exec (.commitArrival ch) s = .next u ∧ u.arb ch = { s.arb ch with transit := (s.arb ch).transit - 1 } ∧
        ((s.arb ch).transit = 1 → (u.rd Addr.ARB_CSTATUS).getLsbD ch = false) ∧
        u.fld Addr.ARB_CSTATUS 16 3 = 4 ∧
        u.fld Addr.ARB_CERR 1 1 = 1 ∧
        (∀ a, a ∉ [Addr.ARB_CSTATUS, Addr.ARB_CERR] → u.rd a = s.rd a) ∧
        { u with dev := s.dev, arbs := s.arbs, out := s.out } = s) ∧
    (ch < 16 → (s.arb ch).transit = 0 → exec (.commitArrival ch) s = .next { s with out := [] }) ∧
    (ch < 16 → (s.arb ch).owner = some q → (s.arb ch).noted = false → s.fld (Addr.ARB_LIM_ACT ch) 16 16 ≠ 0 → ∃ u, exec (.holdMonitor ch) s = .next u ∧ u.arb ch = { s.arb ch with noted := true } ∧
        u.fld (Addr.ARB_HOLD ch) 0 5 = q % 32 ∧
        u.fld (Addr.ARB_HOLD ch) 16 16 = min (s.fld (Addr.ARB_HOLD ch) 16 16 + 1) 0xFFFF ∧
        u.fld (Addr.ARB_HOLD ch) 32 32 = s.fld (Addr.ARB_LIM_ACT ch) 16 16 ∧
        (s.fld Addr.ARB_EVT 15 1 = 0 → ((∀ a, a ∉ [Addr.ARB_HOLD ch] → u.rd a = s.rd a) ∧ { u with dev := s.dev, arbs := s.arbs, out := s.out } = s))) ∧
    (ch < 16 → (s.arb ch).owner = none ∨ (s.arb ch).noted = true ∨ s.fld (Addr.ARB_LIM_ACT ch) 16 16 = 0 → exec (.holdMonitor ch) s = .next { s with out := [] }) ∧
    (ch < 16 → ∃ u, exec (.refresh ch) s = .next u ∧ u.arb ch = { s.arb ch with refreshDue := true } ∧
        (∀ h, h ≠ ch → u.arb h = s.arb h) ∧
        { u with arbs := s.arbs, out := s.out } = s) ∧
    (ch < 16 → s.fld (Addr.MCH_SCRUB ch) 0 1 = 1 → s.latent = [] → n = s.fld (Addr.MCH_SCRUB_POS ch) 0 32 → ∃ u, exec (.patrolScrub ch none) s = .next u ∧ u.fld (Addr.MCH_SCRUB_POS ch) 0 32 = (if n + 1 < 2164260864 then n + 1 else 0) ∧
        u.fld (Addr.MCH_SCRUB_POS ch) 32 16 = (if n + 1 < 2164260864 then s.fld (Addr.MCH_SCRUB_POS ch) 32 16 else min (s.fld (Addr.MCH_SCRUB_POS ch) 32 16 + 1) 0xFFFF) ∧
        ((s.arb ch).owner = some 20 → (u.arb ch).owner = none) ∧
        (∀ a, a ∉ [Addr.MCH_SCRUB_POS ch] → u.rd a = s.rd a) ∧
        { u with dev := s.dev, arbs := s.arbs, out := s.out } = s) ∧
    (ch < 16 → s.fld (Addr.MCH_SCRUB ch) 0 1 = 1 → n = s.fld (Addr.MCH_SCRUB_POS ch) 0 32 → n < 2 ^ 31 → a = packageLine ch n → ∃ u, exec (.patrolScrub ch (some true)) s = .next u ∧ u.poisoned a = true ∧
        (∀ i, i < 64 → u.byteAt .dram (a + i) = 0 ∧ u.tagAt .dram (a + i) = false) ∧
        SameBytesOutside s u a 64 ∧
        u.rd (Addr.MCH_UE_ADDR (channelOf a)) = BitVec.ofNat 64 a ∧
        u.fld (Addr.MCH_SCRUB_POS ch) 0 32 = n + 1) ∧
    (ch < 16 → s.fld (Addr.MCH_SCRUB ch) 0 1 = 1 → n = s.fld (Addr.MCH_SCRUB_POS ch) 0 32 → n < 2 ^ 31 → a = packageLine ch n → ∃ u, exec (.patrolScrub ch (some false)) s = .next u ∧ smGet (always none) u.latent (a / 64) = none ∧
        u.mem = s.mem ∧
        u.tags = s.tags ∧
        u.rd (Addr.MCH_CE_CNT (channelOf a)) = BitVec.ofNat 64 (min ((s.rd (Addr.MCH_CE_CNT (channelOf a))).toNat + 1) (2 ^ 64 - 1)) ∧
        u.fld (Addr.MCH_SCRUB_POS ch) 0 32 = n + 1 ∧
        { u with dev := s.dev, latent := s.latent, arbs := s.arbs, out := s.out } = s) ∧
    (ch < 16 → s.fld (Addr.MCH_SCRUB ch) 0 1 = 0 → exec (.patrolScrub ch found) s = .next { s with out := [] }) ∧
    (∃ u, exec (.mchClrcnt) s = .next u ∧ (∀ h, h < 16 → u.rd (Addr.MCH_CE_CNT h) = 0 ∧ u.rd (Addr.ARB_HOLD h) = 0 ∧ u.rd (Addr.ARB_FORCED h) = 0 ∧ (∀ r, r < 22 → u.rd (Addr.ARB_LAT h r) = 0 ∧ u.fld (Addr.ARB_STAT h r) 32 10 = 0 ∧ u.waitOf h r = s.waitOf h r)) ∧
        (∀ h, h < 16 → u.rd (Addr.MCH_UE_CNT h) = s.rd (Addr.MCH_UE_CNT h) ∧ u.rd (Addr.MCH_UE_ADDR h) = s.rd (Addr.MCH_UE_ADDR h)) ∧
        { u with dev := s.dev, out := s.out } = s) ∧
    (s.fld Addr.FC_CTRL 0 1 = 1 → ∃ u, exec (.l3Scrub bad) s = .next u ∧ (∀ l ∈ bad, l < 2 ^ 35 → u.poisoned (l * 64) = true ∧ (∀ i, i < 64 → u.byteAt .dram (l * 64 + i) = 0)) ∧
        (∀ b, b / 64 ∉ bad → u.byteAt .dram b = s.byteAt .dram b) ∧
        { u with dev := s.dev, pairs := s.pairs, mem := s.mem, tags := s.tags, poison := s.poison, latent := s.latent, notices := s.notices, tally := s.tally, stale := s.stale, out := s.out } = s) ∧
    (s.fld Addr.FC_CTRL 0 1 = 0 → exec (.l3Scrub bad) s = .next { s with out := [] })

/-- Register writes by field type, command registers, clear commands, fabric timeouts (R9, R10, R12, R221, R242, R280, R306, R336, R350, R543, R563, R564). -/
def Obligations.RegisterWrites : Prop :=
  ∀ (src a va b : Nat) (val : Word) (unit : BitVec 8) (store crc : Bool) (s : State), Quiet s →
    (src < 105 → val.toNat % 8 ≤ 4 → ∃ u, exec (.registerWrite src Addr.EVD_SPILLCFG val) s = .next u ∧ u.fld Addr.EVD_SPILLCFG 0 3 = val.toNat % 8 ∧
        (∀ a, a ∉ [Addr.EVD_SPILLCFG] → u.rd a = s.rd a) ∧
        { u with dev := s.dev, out := s.out } = s) ∧
    (src < 105 → 4 < val.toNat % 8 → ∃ u, exec (.registerWrite src Addr.EVD_SPILLCFG val) s = .next u ∧ u.fld Addr.EVD_ERR 0 1 = 1 ∧
        (∀ a, a ∉ [Addr.EVD_ERR] → u.rd a = s.rd a) ∧
        { u with dev := s.dev, out := s.out } = s) ∧
    (src < 105 → ∃ u, exec (.registerWrite src Addr.EVD_ERR val) s = .next u ∧ (∀ i, i < 7 → (u.rd Addr.EVD_ERR).getLsbD i = ((s.rd Addr.EVD_ERR).getLsbD i && !val.getLsbD i)) ∧
        (∀ a, a ∉ [Addr.EVD_ERR] → u.rd a = s.rd a) ∧
        { u with dev := s.dev, out := s.out } = s) ∧
    (src < 105 → ∃ u, exec (.registerWrite src Addr.ECL_EPOCH_DONE val) s = .next u ∧ (∀ a, u.rd a = s.rd a) ∧
        { u with dev := s.dev, out := s.out } = s) ∧
    (src < 105 → s.lcState = 2 → ∃ u, exec (.registerWrite src Addr.TALLY_GRACE val) s = .next u ∧ u.fld Addr.TALLY_GRACE 0 20 = s.fld Addr.TALLY_GRACE 0 20 ∧
        (∃ r, u.jrn.queue = s.jrn.queue ++ [r] ∧ r.typ = 0xF00B ∧ r.src = 0x0203 ∧ r.payload.take 2 = [3, 0]) ∧
        (∀ a, a ∉ [Addr.JRN_STATUS] → u.rd a = s.rd a) ∧
        { u with dev := s.dev, jrn := s.jrn, out := s.out } = s) ∧
    (src < 105 → s.lcState ≠ 2 → 100 ≤ val.toNat % 2 ^ 20 → val.toNat % 2 ^ 20 ≤ 1000000 → ∃ u, exec (.registerWrite src Addr.TALLY_GRACE val) s = .next u ∧ u.fld Addr.TALLY_GRACE 0 20 = val.toNat % 2 ^ 20 ∧
        (∀ a, a ∉ [Addr.TALLY_GRACE] → u.rd a = s.rd a) ∧
        { u with dev := s.dev, out := s.out } = s) ∧
    (src < 105 → 0xF0007000000 ≤ a → a < 0xF0008000000 → a % 8 = 0 → regFind a = none → ∃ u, exec (.registerWrite src a val) s = .next u ∧ u.fld Addr.ECL_ERR 4 1 = 1 ∧
        (∀ a, a ∉ [Addr.ECL_ERR] → u.rd a = s.rd a) ∧
        { u with dev := s.dev, out := s.out } = s) ∧
    (src < 105 → exec (.registerWrite src Addr.EVD_POST val) s = exec (.evdPost (val.setWidth 12)) s) ∧
    (src < 105 → val.toNat % 16 = 1 → exec (.registerWrite src Addr.EVD_CMD val) s = exec (.invtask (val.extractLsb' 16 16)) s) ∧
    (src < 105 → val.toNat % 16 = 2 → exec (.registerWrite src Addr.EVD_CMD val) s = exec (.evdEnd (val.extractLsb' 16 16)) s) ∧
    (src < 105 → val.toNat % 16 = 3 → exec (.registerWrite src Addr.EVD_CMD val) s = exec (.clrch (val.extractLsb' 16 16)) s) ∧
    (src < 105 → val.toNat % 16 = 4 → exec (.registerWrite src Addr.EVD_CMD val) s = exec (.evdClrcnt) s) ∧
    (src < 105 → val.toNat % 16 = 5 → exec (.registerWrite src Addr.EVD_CMD val) s = exec (.restart (val.extractLsb' 16 16)) s) ∧
    (src < 105 → exec (.registerWrite src Addr.EXC_LOCKUP0 val) s = exec (.lockupClear false val) s) ∧
    (src < 105 → exec (.registerWrite src Addr.EXC_LOCKUP1 val) s = exec (.lockupClear true val) s) ∧
    (src < 105 → exec (.registerWrite src Addr.ARB_COMMIT val) s = exec (.arbCommit (val.setWidth 16)) s) ∧
    (src < 105 → exec (.registerWrite src Addr.JRN_LOOKUP val) s = exec (.jrnLookup val) s) ∧
    (src < 105 → exec (.registerWrite src Addr.SEN_START val) s = exec (.senStart val) s) ∧
    (src < 105 → val = 1 → exec (.registerWrite src Addr.ECL_CMD val) s = exec (.eclStart) s) ∧
    (src < 105 → val = 2 → exec (.registerWrite src Addr.ECL_CMD val) s = exec (.eclAbort) s) ∧
    (src < 105 → val = 4 → exec (.registerWrite src Addr.ECL_CMD val) s = exec (.eclClrcnt) s) ∧
    (src < 105 → val = 1 → exec (.registerWrite src Addr.PWR_CMD val) s = exec (.pwrDetach) s) ∧
    (src < 105 → val = 2 → exec (.registerWrite src Addr.PWR_CMD val) s = exec (.unforce) s) ∧
    (src < 105 → val = 4 → exec (.registerWrite src Addr.PWR_CMD val) s = exec (.pwrClrcnt) s) ∧
    (∃ u, exec (.ptClrcnt) s = .next u ∧ (∀ p, p < 104 → u.rd (Addr.PT_OVCNT p) = 0) ∧
        (∀ a, (∀ p, p < 104 → a ≠ Addr.PT_OVCNT p) → u.rd a = s.rd a) ∧
        { u with dev := s.dev, out := s.out } = s) ∧
    (∃ u, exec (.trClrcnt) s = .next u ∧ (∀ a ∈ [Addr.RCU_CNT_VIOL, Addr.TR_CNT_WALK, Addr.TR_CNT_CDSET], u.rd a = 0) ∧
        (∀ a, a ∉ [Addr.RCU_CNT_VIOL, Addr.TR_CNT_WALK, Addr.TR_CNT_CDSET] → u.rd a = s.rd a) ∧
        { u with dev := s.dev, out := s.out } = s) ∧
    (104 ≤ unit.toNat → ∃ u, exec (.fabricTimeout unit a va store crc) s = .next u ∧ u.rd Addr.FTO_ADDR = BitVec.ofNat 64 (a % 2 ^ 44 + unit.toNat * 2 ^ 44) ∧
        u.rd Addr.FTO_CNT = BitVec.ofNat 64 (min ((s.rd Addr.FTO_CNT).toNat + 1) (2 ^ 64 - 1)) ∧
        u.fld Addr.PWR_ERR 3 1 = 1 ∧
        (crc = true → u.rd Addr.PWR_CNT_CRC = BitVec.ofNat 64 (min ((s.rd Addr.PWR_CNT_CRC).toNat + 1) (2 ^ 64 - 1))) ∧
        (crc = false → u.rd Addr.PWR_CNT_CRC = s.rd Addr.PWR_CNT_CRC) ∧
        ((s.queue 3).length < 256 → u.queue 3 = s.queue 3 ++ [(BitVec.ofNat 64 (8 + 7 * 256 + unit.toNat * 65536), BitVec.ofNat 64 a)]) ∧
        (∀ a, a ∉ [Addr.FTO_ADDR, Addr.FTO_CNT, Addr.PWR_ERR, Addr.PWR_CNT_CRC, Addr.SEN_NQSTAT 3] → u.rd a = s.rd a) ∧
        { u with dev := s.dev, notices := s.notices, out := s.out } = s) ∧
    (unit.toNat < 104 → (s.pair unit.toNat).run = some b → ∃ u, exec (.fabricTimeout unit a va true crc) s = .next u ∧ (u.pair unit.toNat).halt = some .lockup ∧
        (u.pair unit.toNat).run = none ∧
        u.rd Addr.FTO_ADDR = BitVec.ofNat 64 (a % 2 ^ 44 + unit.toNat * 2 ^ 44) ∧
        (∀ q, q ≠ unit.toNat → u.pair q = s.pair q) ∧
        (unit.toNat < 96 → u.tallySettled unit.toNat = true) ∧
        { u with dev := s.dev, notices := s.notices, pairs := s.pairs, tally := s.tally, out := s.out } = s)

/-- Boot goes from straps to images stage by stage; sentinel pairs start; the governor and notices (R428, R429, R430, R431, R434, R436, R439, R442, R443, R446, R447, R541). -/
def Obligations.BootAndSupervision : Prop :=
  ∀ (straps : BitVec 14) (ok : BitVec 7) (failL : BitVec 96) (failS : BitVec 8) (failU : Bool) (fail : BitVec 16) (val t0 t1 t2 t3 : Word) (k q n v c m : Nat) (img : Image)
    (rs1 rs2 : List (Nat × Nat × List Byte)) (inlet : Int) (bp sweep : Option (Nat × Nat × Nat)) (tkt : Option (Nat × Word × Word × Word × Word)) (w : Word × Word) (ws : List (Word × Word)) (s : State), Quiet s →
    (s.pwr.closed = true → s.pwrState = 0 → ∃ u, exec (.powerGood) s = .next u ∧ u.pairs = [] ∧
        u.mem = [] ∧
        u.tags = [] ∧
        u.bitmap = [] ∧
        u.evd = State.reset.evd ∧
        u.tally = State.reset.tally ∧
        u.notices = [] ∧
        u.stage = 0 ∧
        u.locked = false ∧
        u.clk = 0 ∧
        u.fld Addr.PWR_RSTCAUSE 0 32 = s.keys.shutdown.getD 1 % 2 ^ 32 ∧
        u.fld Addr.SEC_LC 0 3 = s.fld Addr.SEC_LC 0 3 ∧
        u.fld Addr.SEC_ALM_ACT 0 8 = s.fld Addr.SEC_ALM_ACT 0 8 ∧
        u.boot = s.boot ∧
        u.jrn.queue = [] ∧
        u.pwr.failed = 0 ∧
        u.pending = s.pending) ∧
    (s.pwr.closed = false ∨ s.pwrState ≠ 0 → exec (.powerGood) s = .next { s with out := [] }) ∧
    (s.cwl.detached = false → s.bootSt.strapped = false → s.stage = 0 → bitsAt straps.toNat 7 2 ≠ 3 → bitsAt straps.toNat 9 2 ≠ 3 → ∃ u, exec (.strapSample straps 127) s = .next u ∧ u.rd Addr.SEN_STRAP = straps.setWidth 64 ∧
        u.bootSt = { s.bootSt with strapped := true } ∧
        u.fld Addr.JRN_REPL_STATUS 0 1 = bitsAt straps.toNat 6 1 ∧
        (s.keys.policy = [] → u.jrn.mode = 1 + bitsAt straps.toNat 11 1) ∧
        (∀ a, a ∉ [Addr.SEN_STRAP, Addr.JRN_REPL_STATUS, Addr.JRN_REPL, Addr.SEC_STATUS] → u.rd a = s.rd a) ∧
        { u with dev := s.dev, bootSt := s.bootSt, jrn := s.jrn, out := s.out } = s) ∧
    (s.cwl.detached = false → s.bootSt.strapped = false → s.stage = 0 → ok.getLsbD 1 = false → ∃ u, exec (.strapSample straps ok) s = .next u ∧ u.fld Addr.SEN_STRAP 6 1 = 1 ∧
        u.fld Addr.SEN_STRAP 17 1 = 1 ∧
        u.bootSt.strapped = true ∧
        u.fld Addr.SEC_ALM_RAW 7 1 = 1) ∧
    (s.bootSt.strapped = true ∨ s.stage ≠ 0 → exec (.strapSample straps ok) s = .next { s with out := [] }) ∧
    (failS.getLsbD 0 = false → (s.pair 96).failed = false → s.stage = 0 → s.bootSt.strapped = true → failS.toNat / 2 % 8 = 0 → ∃ u, exec (.selftest failL failS false) s = .next u ∧ u.stage = 1 ∧
        u.rd Addr.SEN_FAIL0 = failL.setWidth 64 ∧
        (∀ p, p < 96 → (failL.getLsbD p = true → (u.pair p).failed = true ∧ u.fld (Addr.EVD_PAIRCFG p) 8 1 = 1) ∧ (failL.getLsbD p = false → u.pair p = s.pair p ∧ u.rd (Addr.EVD_PAIRCFG p) = s.rd (Addr.EVD_PAIRCFG p))) ∧
        SameMemory s u ∧
        { u with dev := s.dev, pairs := s.pairs, out := s.out } = s) ∧
    (failS.getLsbD 0 = false → (s.pair 96).failed = false → s.stage = 0 → s.bootSt.strapped = true → failS.toNat / 2 % 8 ≠ 0 → ∃ u, exec (.selftest failL failS failU) s = .next u ∧ u.stage = 6 ∧
        u.fld Addr.SEN_BOOT 4 8 = 1 ∧
        u.bootSt.images = []) ∧
    (failS.getLsbD 0 = false → (s.pair 96).failed = false → s.stage = 0 → s.bootSt.strapped = true → failS.toNat / 2 % 8 = 0 → ∃ u, exec (.selftest failL failS true) s = .next u ∧ u.stage = 6 ∧
        u.fld Addr.SEN_BOOT 4 8 = 2 ∧
        u.bootSt.images = []) ∧
    (s.stage = 1 → s.lcState < 3 → ∃ u, exec (.dramInit 0) s = .next u ∧ u.stage = 2 ∧
        u.mem = [] ∧
        u.tags = [] ∧
        u.poison = [] ∧
        u.bitmap = [] ∧
        u.latent = [] ∧
        (∀ a, a ∉ [Addr.SEN_BOOT] → u.rd a = s.rd a) ∧
        { u with mem := s.mem, tags := s.tags, poison := s.poison, bitmap := s.bitmap, latent := s.latent, dev := s.dev, out := s.out } = s) ∧
    (s.stage = 1 → 3 ≤ s.lcState → ∃ u, exec (.dramInit 0) s = .next u ∧ u.stage = 6 ∧
        u.mem = [] ∧
        (∀ a, a ∉ [Addr.SEN_BOOT] → u.rd a = s.rd a) ∧
        { u with mem := s.mem, tags := s.tags, poison := s.poison, bitmap := s.bitmap, latent := s.latent, dev := s.dev, out := s.out } = s) ∧
    (s.stage = 1 → fail ≠ 0 → ∃ u, exec (.dramInit fail) s = .next u ∧ u.stage = 6 ∧
        u.fld Addr.SEN_BOOT 4 8 = 3 ∧
        u.bootSt.images = [] ∧
        (∀ a, a ∉ [Addr.SEN_BOOT] → u.rd a = s.rd a) ∧
        { u with dev := s.dev, bootSt := s.bootSt, out := s.out } = s) ∧
    (s.stage ≠ 1 → exec (.dramInit fail) s = .next { s with out := [] }) ∧
    (s.stage = 2 → s.fld Addr.SEN_STRAP 7 2 ≠ 2 → rs1 = s.checkSet (s.fld Addr.SEN_STRAP 7 2 == 1) → rs2 = s.checkSet (!(s.fld Addr.SEN_STRAP 7 2 == 1)) → ∃ u, exec (.imageVerify) s = .next u ∧ (setOk rs1 = true → u.stage = 3 ∧ u.bootSt.images = acceptedImages rs1 ∧ u.fld Addr.SEN_BOOT 12 1 = b2n (s.fld Addr.SEN_STRAP 7 2 == 1)) ∧
        (setOk rs1 = false → setOk rs2 = true → u.stage = 3 ∧ u.bootSt.images = acceptedImages rs2 ∧ u.fld Addr.SEN_BOOT 12 1 = b2n (!(s.fld Addr.SEN_STRAP 7 2 == 1))) ∧
        (setOk rs1 = false → setOk rs2 = false → u.stage = 6 ∧ u.fld Addr.SEN_BOOT 4 8 = 4 ∧ u.bootSt.images = []) ∧
        u.boot = s.boot ∧
        u.keys = s.keys) ∧
    (s.stage = 2 → s.fld Addr.SEN_STRAP 7 2 = 2 → ∃ u, exec (.imageVerify) s = .next u ∧ u.stage = 6 ∧
        u.fld Addr.SEN_BOOT 4 8 = 5 ∧
        u.bootSt.images = [] ∧
        (∀ a, a ∉ [Addr.SEN_BOOT] → u.rd a = s.rd a) ∧
        { u with dev := s.dev, bootSt := s.bootSt, out := s.out } = s) ∧
    (k = bitsAt val.toNat 0 3 → k ≠ 0 → s.bootSt.images.find? (fun i => i.slot == k) = some img → (s.pair (96 + k)).failed = false → (s.pair (96 + k)).started = false ∨ (s.pair (96 + k)).halt.isSome = true → s.tally.chans = [] → s.latent = [] → ∃ u, exec (.senStart val) s = .next u ∧ (u.pair (96 + k)).started = true ∧
        (u.pair (96 + k)).run = some 0 ∧
        (u.pair (96 + k)).halt = none ∧
        (u.bank (96 + k) 0).pcc.bits = (s.capAt .dram (bitsAt val.toNat 6 24 * 64)).bits ∧
        ((u.bank (96 + k) 0).reg 2).bits = (s.capAt .dram (bitsAt val.toNat 6 24 * 64 + 16)).bits ∧
        u.bytesAt (.tcm k) img.load img.data.length = img.data ∧
        u.fld Addr.SEN_STATUS k 1 = 1 ∧
        u.fld Addr.SEN_STATUS 8 2 = 0 ∧
        (∀ p, p ≠ 96 + k → u.pair p = s.pair p) ∧
        u.mem = s.mem) ∧
    (bitsAt val.toNat 0 3 = 0 → ∃ u, exec (.senStart val) s = .next u ∧ u.fld Addr.SEN_STATUS 8 2 = 3 ∧
        u.fld Addr.SEN_ERR 0 1 = 1 ∧
        (∀ a, a ∉ [Addr.SEN_STATUS, Addr.SEN_ERR] → u.rd a = s.rd a) ∧
        { u with dev := s.dev, out := s.out } = s) ∧
    (k = bitsAt val.toNat 0 3 → k ≠ 0 → s.bootSt.images.find? (fun i => i.slot == k) = none ∨ (s.pair (96 + k)).failed = true ∨ ((s.pair (96 + k)).started = true ∧ (s.pair (96 + k)).halt = none) → ∃ u, exec (.senStart val) s = .next u ∧ u.fld Addr.SEN_STATUS 8 2 = 1 ∧
        (∀ a, a ∉ [Addr.SEN_STATUS] → u.rd a = s.rd a) ∧
        { u with dev := s.dev, out := s.out } = s) ∧
    (s.stage = 3 → ∃ u, exec (.measurementLogClose) s = .next u ∧ u.bootSt = { s.bootSt with closed := true } ∧
        { u with bootSt := s.bootSt, out := s.out } = s) ∧
    (s.stage ≠ 3 → exec (.measurementLogClose) s = .next { s with out := [] }) ∧
    (s.bootSt.strapped = true → s.sentinelUp 99 = true → straps.toNat ≠ s.fld Addr.SEN_STRAP 0 14 → ∃ u, exec (.strapCheck straps) s = .next u ∧ u.fld Addr.SEC_ALM_RAW 7 1 = 1 ∧
        (∃ l r, u.jrn.queue = l ++ [r] ∧ r.typ = 0xE013 ∧ r.src = 0x0103 ∧ r.payload.take 16 = natBytes 8 0 ++ natBytes 8 straps.toNat)) ∧
    (s.bootSt.strapped = false ∨ s.sentinelUp 99 = false ∨ straps.toNat = s.fld Addr.SEN_STRAP 0 14 → exec (.strapCheck straps) s = .next { s with out := [] }) ∧
    (s.sentinelUp 97 = true → ∃ u, exec (.governorPass inlet none none none) s = .next u ∧ u.bootSt.passes = (s.bootSt.passes + 1) % 2 ^ 32 ∧
        (∀ p, p < 96 → u.fld (Addr.CLK_RATIO (p / 32)) (2 * (p % 32)) 2 = max (s.fld (Addr.CLK_RATIO (p / 32)) (2 * (p % 32)) 2) (govRatio (s.govBudget inlet) p)) ∧
        s.jrn.queue.length ≤ u.jrn.queue.length ∧
        (∀ a, a ∉ [Addr.CLK_RATIO 0, Addr.CLK_RATIO 1, Addr.CLK_RATIO 2, Addr.JRN_STATUS] → u.rd a = s.rd a) ∧
        { u with dev := s.dev, jrn := s.jrn, bootSt := s.bootSt, notices := s.notices, out := s.out } = s) ∧
    (s.sentinelUp 97 = true → ∃ u, exec (.governorPass inlet bp sweep (some (n, t0, t1, t2, t3))) s = .next u ∧ (∃ l r b0 b1 b2 lim, u.jrn.queue = l ++ [r] ∧ r.typ = 0xE000 ∧ r.issuer = .tickets n b0 b1 b2 lim ∧
          (∀ i, i < 8 → bitsAt b0.toNat (8 * i) 8 = s.boundTicket i (bitsAt t0.toNat (8 * i) 8) ∧
            bitsAt b1.toNat (8 * i) 8 = s.boundTicket (8 + i) (bitsAt t1.toNat (8 * i) 8) ∧
            (i < 6 → bitsAt b2.toNat (8 * i) 8 = s.boundTicket (16 + i) (bitsAt t2.toNat (8 * i) 8))) ∧
          bitsAt lim.toNat 0 10 = min (bitsAt t3.toNat 0 10) (s.fld Addr.ARB_BOUND_LIM 0 10))) ∧
    (s.sentinelUp 97 = true → polGet s.keys.policy 0x36 2 ≤ v ∨ v = 0 → v ≠ s.fld Addr.JRN_BP 0 16 → ∃ u, exec (.governorPass inlet (some (v, c, m)) none none) s = .next u ∧ (∃ l r, u.jrn.queue = l ++ [r] ∧ r.typ = 0xE001 ∧ r.issuer = .gov Addr.JRN_BP 0 16 v) ∧
        u.rd Addr.JRN_BP = s.rd Addr.JRN_BP) ∧
    (s.sentinelUp 97 = false → exec (.governorPass inlet bp sweep tkt) s = .next { s with out := [] }) ∧
    (q < 8 → q ≠ 3 ∨ s.sentinelUp 99 = false → s.queue q = w :: ws → ∃ u, exec (.senNqHi q) s = .next u ∧ u.queue q = ws ∧
        u.out = [.read w.2.toNat] ∧
        (∀ r, r ≠ q → u.queue r = s.queue r) ∧
        { u with notices := s.notices, out := s.out } = s) ∧
    (q < 8 → s.queue q = [] → ∃ u, exec (.senNqHi q) s = .next u ∧ u.out = [.read 0] ∧
        { u with out := s.out } = s) ∧
    (∃ u, exec (.rstreq) s = .next u ∧ u.sec = { s.sec with rstReq := true } ∧
        u.fld Addr.SEN_STATUS 8 2 = 0 ∧
        (∃ r, u.jrn.queue = s.jrn.queue ++ [r] ∧ r.typ = 0xE014) ∧
        ((s.queue 0).length < 256 → u.queue 0 = s.queue 0 ++ [(BitVec.ofNat 64 (7 + 3 * 65536), 0)]) ∧
        (∀ a, a ∉ [Addr.SEN_STATUS, Addr.JRN_STATUS, Addr.SEN_NQSTAT 0] → u.rd a = s.rd a) ∧
        { u with sec := s.sec, dev := s.dev, notices := s.notices, jrn := s.jrn, out := s.out } = s) ∧
    (s.stage = 0 → failS.getLsbD 0 = true → ∃ u, exec (.selftest failL failS failU) s = .next u ∧ u.pair 96 = { pairCold with failed := true } ∧
        (∀ p, p ≠ 96 → u.pair p = s.pair p) ∧
        { u with pairs := s.pairs, out := s.out } = s) ∧
    (s.sentinelUp 99 = true → s.queue 3 = w :: ws → ∃ u, exec (.senNqHi 3) s = .next u ∧ u.queue 3 = ws ∧
        u.out = [.read w.2.toNat] ∧
        (∃ l r, u.jrn.queue = s.jrn.queue ++ r :: l ∧ r.typ = healthType (w.1.toNat % 256) ∧ r.src = 0x0103 ∧ r.payload.take 16 = natBytes 8 w.1.toNat ++ natBytes 8 w.2.toNat))

/-- Insertion, power loss, limits, drain and removal, rails and clocks (R524, R525, R526, R528, R531, R532, R533, R534, R535, R538, R539, R544). -/
def Obligations.PowerClocksAndHotPlug : Prop :=
  ∀ (mv ma mj rail k n : Nat) (reading : Int) (val : Word) (env : Bool) (s : State), Quiet s →
    (s.pwr.closed = false → s.pwr.failed < 3 → s.pwrState ≠ 5 ∨ s.pwr.loss = 1 ∨ s.fld Addr.PWR_STATUS 5 1 = 0 → ∃ u, exec (.insertion) s = .next u ∧ u.pwr = { s.pwr with closed := true } ∧
        u.pwrState = 0 ∧
        u.fld Addr.PWR_STATUS 5 1 = 1 ∧
        (∀ a, a ∉ [Addr.PWR_STATUS] → u.rd a = s.rd a) ∧
        { u with pwr := s.pwr, dev := s.dev, out := s.out } = s) ∧
    (s.pwr.closed = true → s.pwrState = 0 → ∃ u, exec (.rampTimeout) s = .next u ∧ u.pwr = { s.pwr with closed := false, failed := s.pwr.failed + 1 } ∧
        { u with pwr := s.pwr, out := s.out } = s) ∧
    (s.pwr.closed = true → s.pwrState = 0 → ∃ u, exec (.powerGoodTimeout) s = .next u ∧ u.pwr = { s.pwr with closed := false, failed := s.pwr.failed + 1 } ∧
        { u with pwr := s.pwr, out := s.out } = s) ∧
    (s.pwr.closed = false ∨ s.pwrState ≠ 0 → exec (.rampTimeout) s = .next { s with out := [] }) ∧
    (s.pwr.closed = false ∨ s.pwrState ≠ 0 → exec (.powerGoodTimeout) s = .next { s with out := [] }) ∧
    (s.pwr.closed = false → s.pwrState = 0 → 0 < s.pwr.failed → s.pwr.failed < 3 → s.fld Addr.PWR_STATUS 5 1 = 1 → ∃ u, exec (.rampRetry) s = .next u ∧ u.pwr = { s.pwr with closed := true } ∧
        u.pwrState = 0 ∧
        (∀ a, a ∉ [Addr.PWR_STATUS] → u.rd a = s.rd a) ∧
        { u with pwr := s.pwr, dev := s.dev, out := s.out } = s) ∧
    (3 ≤ s.pwr.failed → exec (.rampRetry) s = .next { s with out := [] }) ∧
    (s.pwrState = 1 ∨ s.pwrState = 3 → ∃ u, exec (.presNRelease) s = .next u ∧ u.pwrState = 5 ∧
        u.fld Addr.PWR_STATUS 7 1 = 0 ∧
        u.mem = [] ∧
        u.tags = [] ∧
        u.bitmap = [] ∧
        (∀ p ∈ workPairs, (u.pair p).stopped = true) ∧
        u.keys.shutdown = some 260 ∧
        u.pwr.loss = 1 ∧
        u.pwr.closed = false ∧
        u.draw.queue = [] ∧
        u.jrn.queue = [] ∧
        u.fld Addr.NET_STATUS 0 4 = 0 ∧
        u.fld Addr.PCI_STATUS 0 1 = 0 ∧
        u.pwr.failed = 0 ∧
        u.pwr.trips = [] ∧
        u.fld Addr.PWR_STATUS 5 1 = 0) ∧
    (s.pwrState = 5 → ∃ u, exec (.presNRelease) s = .next u ∧ u.pwr = { s.pwr with failed := 0, trips := [] } ∧
        u.fld Addr.PWR_STATUS 5 1 = 0 ∧
        (∀ a, a ∉ [Addr.PWR_STATUS] → u.rd a = s.rd a) ∧
        { u with pwr := s.pwr, dev := s.dev, out := s.out } = s) ∧
    (s.pwrState = 1 ∨ s.pwrState = 3 → ∃ u, exec (.vinUndervoltage mv) s = .next u ∧ u.pwrState = 5 ∧
        u.fld Addr.PWR_STATUS 7 1 = 0 ∧
        u.mem = [] ∧
        u.tags = [] ∧
        u.bitmap = [] ∧
        (∀ p ∈ workPairs, (u.pair p).stopped = true) ∧
        u.keys.shutdown = some 516 ∧
        u.pwr.loss = 2 ∧
        u.pwr.closed = false ∧
        u.draw.queue = [] ∧
        u.jrn.queue = [] ∧
        u.fld Addr.NET_STATUS 0 4 = 0 ∧
        u.fld Addr.PCI_STATUS 0 1 = 0 ∧
        u.fld Addr.PWR_VIN 0 32 = mv % 2 ^ 32 ∧
        u.fld Addr.PWR_LIMIT 0 32 = loadLimit mv) ∧
    (s.pwrState = 1 ∨ s.pwrState = 3 → ∃ u, exec (.vinOvervoltage mv) s = .next u ∧ u.pwrState = 5 ∧
        u.fld Addr.PWR_STATUS 7 1 = 0 ∧
        u.mem = [] ∧
        u.tags = [] ∧
        u.bitmap = [] ∧
        (∀ p ∈ workPairs, (u.pair p).stopped = true) ∧
        u.keys.shutdown = some 772 ∧
        u.pwr.loss = 3 ∧
        u.pwr.closed = false ∧
        u.draw.queue = [] ∧
        u.jrn.queue = [] ∧
        u.fld Addr.NET_STATUS 0 4 = 0 ∧
        u.fld Addr.PCI_STATUS 0 1 = 0 ∧
        u.fld Addr.PWR_VIN 0 32 = mv % 2 ^ 32 ∧
        u.fld Addr.PWR_LIMIT 0 32 = loadLimit mv) ∧
    (s.pwrState = 1 ∨ s.pwrState = 3 → ∃ u, exec (.overCurrentTrip) s = .next u ∧ u.pwrState = 5 ∧
        u.fld Addr.PWR_STATUS 7 1 = 0 ∧
        u.mem = [] ∧
        u.tags = [] ∧
        u.bitmap = [] ∧
        (∀ p ∈ workPairs, (u.pair p).stopped = true) ∧
        u.keys.shutdown = some 1028 ∧
        u.pwr.loss = 4 ∧
        u.pwr.closed = false ∧
        u.draw.queue = [] ∧
        u.jrn.queue = [] ∧
        u.fld Addr.NET_STATUS 0 4 = 0 ∧
        u.fld Addr.PCI_STATUS 0 1 = 0 ∧
        u.pwr.trips = s.pwr.trips ++ [s.pwr.up]) ∧
    (s.pwrState = 1 ∨ s.pwrState = 3 → ∃ u, exec (.thermalTrip) s = .next u ∧ u.pwrState = 5 ∧
        u.fld Addr.PWR_STATUS 7 1 = 0 ∧
        u.mem = [] ∧
        u.tags = [] ∧
        u.bitmap = [] ∧
        (∀ p ∈ workPairs, (u.pair p).stopped = true) ∧
        u.keys.shutdown = some 1284 ∧
        u.pwr.loss = 5 ∧
        u.pwr.closed = false ∧
        u.draw.queue = [] ∧
        u.jrn.queue = [] ∧
        u.fld Addr.NET_STATUS 0 4 = 0 ∧
        u.fld Addr.PCI_STATUS 0 1 = 0 ∧
        u.pwr.trips = s.pwr.trips ++ [s.pwr.up]) ∧
    (s.pwrState = 5 → exec (.overCurrentTrip) s = .next { s with out := [] }) ∧
    (s.pwrState = 5 → exec (.thermalTrip) s = .next { s with out := [] }) ∧
    (s.pwrState = 5 → s.keys.shutdown = some n → ∃ u, exec (.shutdownRecord) s = .next u ∧ u.keys = { s.keys with shutdown := some (if n % 256 = 4 then n - 1 else n) } ∧
        (∀ p ∈ [96, 97, 98, 99], (u.pair p).stopped = true) ∧
        (∀ p, p ∉ [96, 97, 98, 99] → u.pair p = s.pair p) ∧
        { u with keys := s.keys, pairs := s.pairs, out := s.out } = s) ∧
    (s.pwrState ≠ 5 → exec (.shutdownRecord) s = .next { s with out := [] }) ∧
    (s.pwrState = 5 → s.pwr.loss ≠ 1 → s.recentTrips < 3 → s.fld Addr.PWR_STATUS 5 1 = 1 → s.pwr.closed = false → ∃ u, exec (.autoRestart) s = .next u ∧ u.pwr = { s.pwr with closed := true } ∧
        u.pwrState = 0 ∧
        (∀ a, a ∉ [Addr.PWR_STATUS] → u.rd a = s.rd a) ∧
        { u with pwr := s.pwr, dev := s.dev, out := s.out } = s) ∧
    (s.pwrState ≠ 5 ∨ s.pwr.loss = 1 ∨ 3 ≤ s.recentTrips → exec (.autoRestart) s = .next { s with out := [] }) ∧
    (∃ u, exec (.fastLimit ma) s = .next u ∧ u.fld Addr.PWR_IIN 0 32 = ma % 2 ^ 32 ∧
        u.fld Addr.PWR_STATUS 4 1 = 1 ∧
        u.fld Addr.PWR_ERR 2 1 = 1 ∧
        (∀ p, u.ratio p = 2) ∧
        u.pwr = { s.pwr with forcedAt := s.time } ∧
        (s.fld Addr.PWR_EVT 15 1 = 0 → ((∀ a, a ∉ [Addr.PWR_IIN, Addr.PWR_STATUS, Addr.PWR_ERR, Addr.SEN_NQSTAT 1] → u.rd a = s.rd a) ∧ { u with dev := s.dev, notices := s.notices, pwr := s.pwr, out := s.out } = s))) ∧
    (mv < s.fld Addr.PWR_CTRL 0 16 → s.pwr.trigger = 0 → s.pwrState = 1 → ∃ u, exec (.park mv) s = .next u ∧ u.pwrState = 3 ∧
        u.pwr.trigger = 5 ∧
        u.pwr.trigTime = s.time ∧
        u.pwr.ctxDone = false ∧
        u.draw.queue = [] ∧
        u.fld Addr.PWR_VIN 0 32 = mv % 2 ^ 32) ∧
    (s.fld Addr.PWR_CTRL 0 16 ≤ mv → ∃ u, exec (.park mv) s = .next u ∧ u.fld Addr.PWR_VIN 0 32 = mv % 2 ^ 32 ∧
        u.fld Addr.PWR_LIMIT 0 32 = loadLimit mv ∧
        (∀ a, a ∉ [Addr.PWR_VIN, Addr.PWR_LIMIT] → u.rd a = s.rd a) ∧
        { u with dev := s.dev, out := s.out } = s) ∧
    (s.pwr.trigger = 0 → s.pwrState = 1 → s.fld Addr.SEN_BOOT 0 4 = 5 → ∃ u, exec (.eject true) s = .next u ∧ u.pwrState = 3 ∧
        u.pwr.trigger = 1 ∧
        u.pwr.trigTime = s.time ∧
        u.pwr.ctxDone = false ∧
        u.draw.queue = [] ∧
        u.fld Addr.PWR_STATUS 6 1 = 1) ∧
    (s.pwrState = 1 → s.fld Addr.SEN_BOOT 0 4 ≠ 5 → ∃ u, exec (.eject true) s = .next u ∧ u.pwr = { s.pwr with ejectWait := true } ∧
        u.fld Addr.PWR_STATUS 6 1 = 1 ∧
        (∀ a, a ∉ [Addr.PWR_STATUS] → u.rd a = s.rd a) ∧
        { u with pwr := s.pwr, dev := s.dev, out := s.out } = s) ∧
    (∃ u, exec (.eject false) s = .next u ∧ u.fld Addr.PWR_STATUS 6 1 = 0 ∧
        u.pwrState = s.pwrState ∧
        (∀ a, a ∉ [Addr.PWR_STATUS] → u.rd a = s.rd a) ∧
        { u with dev := s.dev, out := s.out } = s) ∧
    (s.pwr.trigger = 0 → s.pwrState = 1 → ∃ u, exec (.pwrDetach) s = .next u ∧ u.pwrState = 3 ∧
        u.pwr.trigger = 4 ∧
        u.pwr.trigTime = s.time ∧
        u.pwr.ctxDone = false ∧
        u.draw.queue = []) ∧
    (s.pwr.trigger ≠ 0 ∨ s.pwrState ≠ 1 → ∃ u, exec (.pwrDetach) s = .next u ∧ u.fld Addr.PWR_STATUS 8 2 = 1 ∧
        u.pwrState = s.pwrState ∧
        (∀ a, a ∉ [Addr.PWR_STATUS] → u.rd a = s.rd a) ∧
        { u with dev := s.dev, out := s.out } = s) ∧
    (s.fld Addr.PWR_STATUS 4 1 = 1 → ∃ u, exec (.unforce) s = .next u ∧ u.fld Addr.PWR_STATUS 4 1 = 0 ∧
        u.fld Addr.PWR_STATUS 8 2 = 0 ∧
        (∀ p, u.ratio p = s.fld (Addr.CLK_RATIO (p / 32)) (2 * (p % 32)) 2) ∧
        (∀ a, a ∉ [Addr.PWR_STATUS] → u.rd a = s.rd a) ∧
        { u with dev := s.dev, out := s.out } = s) ∧
    (s.fld Addr.PWR_STATUS 4 1 = 0 → ∃ u, exec (.unforce) s = .next u ∧ u.fld Addr.PWR_STATUS 8 2 = 1 ∧
        (∀ a, a ∉ [Addr.PWR_STATUS] → u.rd a = s.rd a) ∧
        { u with dev := s.dev, out := s.out } = s) ∧
    (∃ u, exec (.pwrClrcnt) s = .next u ∧ (∀ a ∈ [Addr.FTO_CNT, Addr.PWR_CNT_CRC, Addr.PWR_CNT_RAILW], u.rd a = 0) ∧
        u.fld Addr.PWR_STATUS 8 2 = 0 ∧
        (∀ a, a ∉ [Addr.FTO_CNT, Addr.PWR_CNT_CRC, Addr.PWR_CNT_RAILW, Addr.PWR_STATUS] → u.rd a = s.rd a) ∧
        { u with dev := s.dev, out := s.out } = s) ∧
    (s.pwr.trigger ≠ 0 → s.pwr.ctxDone = false → ∃ u, exec (.drainLimit) s = .next u ∧ u.pwr.ctxDone = true ∧
        u.pwr.stopped = ((List.range 96).filter (fun p => (s.pair p).holdsCtx && !(s.pair p).stopped)).length ∧
        (∀ p, p < 96 → (s.pair p).holdsCtx = true → (u.pair p).stopped = true) ∧
        (∃ r, u.jrn.queue = s.jrn.queue ++ [r] ∧ r.typ = 0xF003 ∧ r.payload.take 4 = natBytes 1 s.pwr.trigger ++ natBytes 3 0) ∧
        (∀ a, a ∉ [Addr.JRN_STATUS] → u.rd a = s.rd a) ∧
        { u with pwr := s.pwr, pairs := s.pairs, jrn := s.jrn, dev := s.dev, out := s.out } = s) ∧
    (s.pwr.trigger = 0 ∨ s.pwr.ctxDone = true → exec (.drainLimit) s = .next { s with out := [] }) ∧
    (s.pwr.trigger ≠ 0 → s.pwrState = 3 → s.pwr.ctxDone = false → s.ctxLeft = false → ∃ u, exec (.readyToRemove) s = .next u ∧ u.pwr = { s.pwr with ctxDone := true } ∧
        (∃ r, u.jrn.queue = s.jrn.queue ++ [r] ∧ r.typ = 0xF003) ∧
        (∀ a, a ∉ [Addr.JRN_STATUS] → u.rd a = s.rd a) ∧
        { u with pwr := s.pwr, jrn := s.jrn, dev := s.dev, out := s.out } = s) ∧
    (s.pwr.trigger ≠ 0 → s.pwrState = 3 → s.pwr.ctxDone = true → s.drainDone = true → ∃ u, exec (.readyToRemove) s = .next u ∧ u.pwrState = (if s.pwr.trigger = 5 then 2 else 4) ∧
        u.keys.shutdown = some (2 + s.pwr.trigger * 256) ∧
        (∀ p ∈ workPairs, (u.pair p).stopped = true) ∧
        u.fld Addr.NET_STATUS 0 4 = 0 ∧
        u.fld Addr.PCI_STATUS 0 1 = 0 ∧
        u.fld Addr.CWL_STATUS 0 3 = 0) ∧
    (s.pwr.trigger = 0 ∨ s.pwrState ≠ 3 → exec (.readyToRemove) s = .next { s with out := [] }) ∧
    (1500 ≤ mj → (∀ x ∈ s.jrn.ring, x.dur = true) → ∃ u, exec (.holdupMeasure mj) s = .next u ∧ u.fld Addr.PWR_HOLDUP 0 16 = min mj 0xFFFF ∧
        u.fld Addr.PWR_STATUS 3 1 = 1 ∧
        (∀ a, a ∉ [Addr.PWR_HOLDUP, Addr.PWR_STATUS] → u.rd a = s.rd a) ∧
        { u with dev := s.dev, out := s.out } = s) ∧
    (mj < 1500 → ∃ u, exec (.holdupMeasure mj) s = .next u ∧ u.fld Addr.PWR_HOLDUP 0 16 = mj ∧
        u.fld Addr.PWR_STATUS 3 1 = 0 ∧
        u.fld Addr.PWR_ERR 1 1 = 1 ∧
        u.jrn = { s.jrn with ring := s.jrn.ring.map (fun x => { x with drain := x.drain || (x.loc && !x.dur) }) } ∧
        (s.fld Addr.PWR_EVT 15 1 = 0 → ((∀ a, a ∉ [Addr.PWR_HOLDUP, Addr.PWR_STATUS, Addr.PWR_ERR, Addr.SEN_NQSTAT 3] → u.rd a = s.rd a) ∧ { u with dev := s.dev, notices := s.notices, jrn := s.jrn, out := s.out } = s))) ∧
    (rail < 16 → ∃ u, exec (.railExcursion rail false reading) s = .next u ∧ u.rd Addr.PWR_CNT_RAILW = BitVec.ofNat 64 (min ((s.rd Addr.PWR_CNT_RAILW).toNat + 1) (2 ^ 64 - 1)) ∧
        (∀ a, a ∉ [Addr.PWR_CNT_RAILW] → u.rd a = s.rd a) ∧
        { u with dev := s.dev, out := s.out } = s) ∧
    (rail < 16 → ∃ u, exec (.railExcursion rail true reading) s = .next u ∧ u.fld Addr.PWR_STATUS 7 1 = 0 ∧
        u.fld Addr.SEC_ALM_RAW 3 1 = 1 ∧
        u.fld (Addr.SEC_ALM_CNT 3) 0 32 = min (s.fld (Addr.SEC_ALM_CNT 3) 0 32 + 1) (2 ^ 32 - 1)) ∧
    (∃ u, exec (.refclkLoss mv reading) s = .next u ∧ u.fld Addr.SEC_ALM_RAW 4 1 = 1 ∧
        u.fld (Addr.SEC_ALM_CNT 4) 0 32 = min (s.fld (Addr.SEC_ALM_CNT 4) 0 32 + 1) (2 ^ 32 - 1)) ∧
    (k < 3 → ∃ u, exec (.clkRatio k val) s = .next u ∧ (∀ j, j < 32 → u.fld (Addr.CLK_RATIO k) (2 * j) 2 = (if bitsAt val.toNat (2 * j) 2 = 3 then s.fld (Addr.CLK_RATIO k) (2 * j) 2 else bitsAt val.toNat (2 * j) 2)) ∧
        (∀ a, a ∉ [Addr.CLK_RATIO k, Addr.PWR_ERR] → u.rd a = s.rd a) ∧
        { u with dev := s.dev, out := s.out } = s) ∧
    (∃ u, exec (.outsideRecommendedConditions env) s = .next u ∧ u.fld Addr.FC_STATUS 1 1 = b2n env ∧
        (env = true → u.fld Addr.FC_STATUS 0 1 = 0) ∧
        (s.fld Addr.PWR_EVT 15 1 = 0 → ((∀ a, a ∉ [Addr.FC_STATUS, Addr.SEN_NQSTAT 3] → u.rd a = s.rd a) ∧ { u with dev := s.dev, notices := s.notices, out := s.out } = s))) ∧
    (s.pwrState = 0 → ∃ u, exec (.presNRelease) s = .next u ∧ u.pwrState = 5 ∧
        u.pwr = { s.pwr with loss := 1, closed := false, trigger := 0, failed := 0, trips := [] } ∧
        u.fld Addr.PWR_STATUS 5 1 = 0 ∧
        u.fld Addr.PWR_STATUS 7 1 = 0 ∧
        (∀ a, a ∉ [Addr.PWR_STATUS] → u.rd a = s.rd a) ∧
        { u with pwr := s.pwr, dev := s.dev, out := s.out } = s) ∧
    (s.pwrState = 2 ∨ s.pwrState = 4 → ∃ u, exec (.vinUndervoltage mv) s = .next u ∧ u.pwrState = 5 ∧
        u.mem = [] ∧
        u.keys.shutdown = s.keys.shutdown ∧
        u.pwr.loss = 2 ∧
        u.pwr.closed = false)

/-- Alarm detections and holds, the Umbra erase, debug accesses and locks (R334, R459, R460, R461, R462, R463, R465, R469, R471, R472, R545). -/
def Obligations.AlarmsDebugAndHold : Prop :=
  ∀ (pa fn c d r : Nat) (wr up closed : Bool) (reading : Int) (val : Word) (s : State),
    (Quiet s → (s.fld Addr.SEC_DBG 0 1 = 1 → ∃ u, exec (.debugUnlockExpiry) s = .next u ∧ u.fld Addr.SEC_DBG 0 1 = 0 ∧
        u.fld Addr.SEC_DBG 16 16 = 0 ∧
        (s.lcState ≠ 0 ∨ s.dbgAllow = false → u.sec.dbgHalt = []) ∧
        (s.epochUp = true → ∃ r, u.jrn.queue = s.jrn.queue ++ [r] ∧ r.typ = 0xF00B ∧ r.payload.take 2 = [7, 0]) ∧
        (s.epochUp = false → u.jrn = s.jrn) ∧
        (∀ a, a ∉ [Addr.SEC_DBG, Addr.SEC_STATUS, Addr.JRN_STATUS] → u.rd a = s.rd a) ∧
        { u with dev := s.dev, sec := s.sec, jrn := s.jrn, out := s.out } = s) ∧
      (s.fld Addr.SEC_DBG 0 1 = 0 → ∃ u, exec (.debugUnlockExpiry) s = .next u ∧ u.fld Addr.SEC_STATUS 1 1 = b2n (s.lcState == 0 && s.dbgAllow) ∧
        (∀ a, a ∉ [Addr.SEC_STATUS] → u.rd a = s.rd a) ∧
        { u with dev := s.dev, sec := s.sec, out := s.out } = s) ∧
      (∃ u, exec (.debugChallengeExpiry) s = .next u ∧ u.sec = { s.sec with challenge := none } ∧
        { u with sec := s.sec, out := s.out } = s) ∧
      (s.dbgRule pa wr = some r → ∃ u, exec (.debugAccess 0 pa wr val) s = .next u ∧ u.out = [.debug true 0] ∧
        u.fld Addr.RCU_ERR 3 1 = 1 ∧
        u.rd Addr.RCU_VIOL_ADDR = BitVec.ofNat 64 (pa / 64 * 64 % 2 ^ 44) ∧
        u.rd Addr.RCU_CNT_VIOL = BitVec.ofNat 64 (min ((s.rd Addr.RCU_CNT_VIOL).toNat + 1) (2 ^ 64 - 1)) ∧
        SameMemory s u ∧
        (∀ a, a ∉ [Addr.RCU_ERR, Addr.RCU_VIOL_ADDR, Addr.RCU_VIOL_INFO, Addr.RCU_CNT_VIOL, Addr.JRN_STATUS] → u.rd a = s.rd a) ∧
        { u with dev := s.dev, jrn := s.jrn, out := s.out } = s) ∧
      (s.dbgRule pa false = none → pa < 2 ^ 41 → s.tally.chans = [] → s.latent = [] → ∃ u, exec (.debugAccess 0 pa false val) s = .next u ∧ u.out = [.debug (s.poisoned pa) (if s.poisoned pa then 0 else s.numAt .dram pa 8)] ∧
        (u.arb (channelOf pa)).debugDue = true ∧
        (∀ h, h ≠ channelOf pa → u.arb h = s.arb h) ∧
        { u with arbs := s.arbs, out := s.out } = s) ∧
      (s.dbgRule pa true = none → pa + 8 ≤ 2 ^ 41 → s.tally.chans = [] → s.latent = [] → ∃ u, exec (.debugAccess 0 pa true val) s = .next u ∧ u.out = [.debug false 0] ∧
        u.bytesAt .dram pa 8 = natBytes 8 val.toNat ∧
        SameBytesOutside s u pa 8 ∧
        SameTagsOutside s u pa 8 ∧
        u.tagAt .dram pa = false ∧
        (u.arb (channelOf pa)).debugDue = true) ∧
      (s.dbgRule Addr.SEC_LC false = none → ∃ u, exec (.debugAccess 0 Addr.SEC_LC false val) s = .next u ∧ u.out = [.debug false (s.rd Addr.SEC_LC &&& 0xF).toNat] ∧
        { u with out := s.out } = s) ∧
      (s.dbgPairs = true → pa < 104 → ∃ u, exec (.debugAccess 1 pa wr val) s = .next u ∧ u.out = [.debug false 0] ∧
        u.dbgHaltOf pa = val.toNat % 2 ∧
        (∀ q, q ≠ pa → u.dbgHaltOf q = s.dbgHaltOf q) ∧
        { u with sec := s.sec, out := s.out } = s) ∧
      (s.dbgPairs = true → s.dbgHaltOf pa = 1 → ∃ u, exec (.debugAccess 2 pa wr val) s = .next u ∧ u.out = [.debug false 0] ∧
        u.dbgHaltOf pa = 2 ∧
        (∀ q, q ≠ pa → u.dbgHaltOf q = s.dbgHaltOf q) ∧
        { u with sec := s.sec, out := s.out } = s) ∧
      (s.dbgPairs = true → s.dbgHaltOf pa ≠ 0 → val.toNat < 32 → ∃ u, exec (.debugAccess 3 pa wr val) s = .next u ∧ u.out = [.debug false ((s.bank pa ((s.pair pa).run.getD 0)).reg val.toNat).bits.toNat] ∧
        { u with out := s.out } = s) ∧
      (s.dbgPairs = false → 1 ≤ fn → fn ≤ 4 → ∃ u, exec (.debugAccess fn pa wr val) s = .next u ∧ u.out = [.debug true 0] ∧
        { u with out := s.out } = s) ∧
      (∃ u, exec (.debugAccess 5 pa wr val) s = .next u ∧ u.out = [.debug false Config.idcode.toNat] ∧
        { u with out := s.out } = s) ∧
      (c < 8 → c ≠ 6 → s.lcState ≠ 4 → s.almPol c = 0 → (s.rd Addr.SEC_ALM_ACT).getLsbD c = false → ∃ u, exec (.alarmDetection [(c, d, reading)] up) s = .next u ∧ u.fld Addr.SEC_ALM_RAW c 1 = 1 ∧
        u.fld (Addr.SEC_ALM_CNT c) 0 32 = min (s.fld (Addr.SEC_ALM_CNT c) 0 32 + 1) (2 ^ 32 - 1) ∧
        (∃ r, u.jrn.queue = s.jrn.queue ++ [r] ∧ r.typ = 0xF00C ∧ r.payload.take 4 = natBytes 1 c ++ natBytes 1 0 ++ natBytes 1 s.lcState ++ natBytes 1 (b2n up)) ∧
        (∀ a, a ∉ [Addr.SEC_ALM_RAW, Addr.SEC_ALM_CNT c, Addr.JRN_STATUS] → u.rd a = s.rd a) ∧
        { u with dev := s.dev, jrn := s.jrn, out := s.out } = s) ∧
      (c < 8 → s.lcState ≠ 4 → s.almPol c ≠ 0 → (s.rd Addr.SEC_ALM_ACT).getLsbD c = false → ∃ u, exec (.alarmDetection [(c, d, reading)] up) s = .next u ∧ u.fld Addr.SEC_ALM_RAW c 1 = 1 ∧
        u.fld Addr.SEC_ALM_ACT c 1 = 1 ∧
        u.fld Addr.SEC_STATUS 0 1 = 1 ∧
        u.fld Addr.SEC_STATUS 3 1 = 1 ∧
        (∀ p ∈ workPairs, (u.pair p).stopped = true) ∧
        (∀ a, u.draw.act = some a → a.seq.isSome = true ∧ a.dur = true) ∧
        u.fld Addr.SEC_DBG 0 1 = 0 ∧
        (s.almPol c = 2 → s.lcState ≠ 3 → u.sec.erase = true)) ∧
      (c < 8 → (s.rd Addr.SEC_ALM_ACT).getLsbD c = true → ∃ u, exec (.alarmDetection [(c, d, reading)] up) s = .next u ∧ u.fld (Addr.SEC_ALM_CNT c) 0 32 = min (s.fld (Addr.SEC_ALM_CNT c) 0 32 + 1) (2 ^ 32 - 1) ∧
        (∀ a, a ∉ [Addr.SEC_ALM_RAW, Addr.SEC_ALM_CNT c] → u.rd a = s.rd a) ∧
        { u with dev := s.dev, out := s.out } = s) ∧
      (s.sec.erase = true → s.jState ≠ 3 → s.jState ≠ 5 → ∃ u, exec (.umbraErase) s = .next u ∧ u.keys.devKey = none ∧
        u.keys.jrnKey = none ∧
        u.keys.debugPub = none ∧
        u.lcState = 3 ∧
        u.jState = 4 ∧
        u.drwState = 4 ∧
        u.fld Addr.SEC_STATUS 4 1 = 1 ∧
        u.sec.erase = false ∧
        u.keys.oper = s.keys.oper ∧
        u.keys.policy = s.keys.policy) ∧
      (s.sec.erase = false → exec (.umbraErase) s = .next { s with out := [] }) ∧
      (s.jrn.isOpen = false ∨ s.rd Addr.SEC_ALM_ACT = 0 → exec (.alarmHoldBoot) s = .next { s with out := [] }) ∧
      (∃ u, exec (.regKeyChange closed) s = .next u ∧ u.fld Addr.SEC_STATUS 2 1 = b2n closed ∧
        (∀ a, a ∉ [Addr.SEC_STATUS] → u.rd a = s.rd a) ∧
        { u with dev := s.dev, out := s.out } = s) ∧
      (∃ u, exec (.securityMonitorMiscompare) s = .next u ∧ u.fld Addr.SEC_STATUS 0 1 = 1 ∧
        (∀ p ∈ workPairs, (u.pair p).stopped = true) ∧
        (∀ a, u.draw.act = some a → a.seq.isSome = true ∧ a.dur = true) ∧
        u.fld Addr.SEC_DBG 0 1 = 0) ∧
      (c < 8 → ∃ u, exec (.alarmSourceInactive c) s = .next u ∧ u.fld Addr.SEC_ALM_RAW c 1 = 0 ∧
        (∀ i, i ≠ c → (u.rd Addr.SEC_ALM_RAW).getLsbD i = (s.rd Addr.SEC_ALM_RAW).getLsbD i) ∧
        (∀ a, a ∉ [Addr.SEC_ALM_RAW] → u.rd a = s.rd a) ∧
        { u with dev := s.dev, out := s.out } = s) ∧
      (6 ≤ fn → ∃ u, exec (.debugAccess fn pa wr val) s = .next u ∧ u.out = [.debug false 0] ∧
        { u with out := s.out } = s)) ∧
    (s.sec.pend = none → s.stage = 4 → s.jrn.isOpen = true → s.lcState < 3 → (s.rd Addr.SEC_ALM_ACT).getLsbD c = true → c < 8 →
      ∃ u, exec .alarmHoldBoot s = .next u ∧ u.stage = 7 ∧ u.fld Addr.SEC_STATUS 0 1 = 1 ∧ u.fld Addr.SEC_STATUS 3 1 = 1 ∧ (∀ p ∈ workPairs, (u.pair p).stopped = true) ∧
        ∃ r ∈ u.jrn.queue, r.typ = 0xF00C ∧ r.payload.take 1 = natBytes 1 c)

/-- The journal sequences, seals and makes entries durable, opens epochs, and answers lookups (R359, R360, R364, R365, R366, R371, R372, R374, R375, R377, R381, R391). -/
def Obligations.JournalSequencesAndSeals : Prop :=
  ∀ (p b t gen n cd seq port hl : Nat) (val : Word) (body pl : List Byte) (r : JReq) (rest : List JReq) (g : Signing) (e : JEntry) (es : List JEntry) (s : State), Quiet s →
    (s.jrn.queue = r :: rest → s.turn r = .go → seq = (s.rd Addr.JRN_HEAD_SEQ).toNat + 1 → seq < 2 ^ 64 - 2 → pl = finalPayload s seq r → hl = 32 + s.jrn.headH.length → ∃ u, exec (.journalSequencing) s = .next u ∧ u.jrn.queue = rest ∧
        u.rd Addr.JRN_HEAD_SEQ = BitVec.ofNat 64 seq ∧
        u.rd Addr.JRN_CNT_APP = BitVec.ofNat 64 (min ((s.rd Addr.JRN_CNT_APP).toNat + 1) (2 ^ 64 - 1)) ∧
        (∃ l e, u.jrn.ring = l ++ [e] ∧ e.seq = seq ∧ e.typ = r.typ ∧ e.issuers = [r.issuer] ∧ e.loc = false ∧ e.dur = false ∧
          e.data.take hl = entryHeader seq (max s.time s.jrn.lastTime) pl.length r.typ r.src
            (b2n (s.jrn.mode == 2) + b2n s.timeUnc * 2 + b2n r.issuer.partner * 4) s.jrn.headH ∧
          (e.data.drop hl).take pl.length = pl ∧ e.data.length = hl + pl.length + padOf pl.length ∧ e.size = 64 + pl.length + padOf pl.length ∧
          e.size % 64 = 0 ∧ e.hash = sha256 (e.data.take (hl + pl.length)) ∧ u.jrn.headH = e.hash) ∧
        (r.typ ≠ 0xF008 → u.jrn.mode = s.jrn.mode)) ∧
    (s.jrn.queue = r :: rest → s.turn r = .status n → r.issuer = .bank p b t gen → (s.pair p).halt = none → (s.bank p b).task.getD 0 = t → (s.pair p).gen = gen → (s.bank p b).st = .waiting → (s.bank p b).waitCd = some cd → 1 ≤ cd → ∃ u, exec (.journalSequencing) s = .next u ∧ u.jrn.queue = rest ∧
        (u.bank p b).reg cd = intCap (BitVec.ofNat 64 n) ∧
        (n = 1 → u.rd Addr.JRN_CNT_FULL = BitVec.ofNat 64 (min ((s.rd Addr.JRN_CNT_FULL).toNat + 1) (2 ^ 64 - 1))) ∧
        (∀ m, m ≠ cd → (u.bank p b).reg m = (s.bank p b).reg m) ∧
        u.jrn.ring = s.jrn.ring ∧
        (p < 96 → (u.bank p b).ready = true)) ∧
    (s.jrn.queue = r :: rest → s.turn r = .forward → ∃ u, exec (.journalSequencing) s = .next u ∧ u.jrn.queue = rest ∧
        u.jrn.fwd = s.jrn.fwd ++ [(s.jrn.nextTag, r)] ∧
        u.rd Addr.JRN_CNT_FWD = BitVec.ofNat 64 (min ((s.rd Addr.JRN_CNT_FWD).toNat + 1) (2 ^ 64 - 1)) ∧
        Emit.link 0x20 s.jrn.nextTag 0 (natBytes 2 r.src ++ natBytes 2 r.typ ++ natBytes 4 r.payload.length ++ r.payload) ∈ u.out ∧
        (∀ a, a ∉ [Addr.JRN_STATUS, Addr.JRN_CNT_FWD] → u.rd a = s.rd a) ∧
        { u with jrn := s.jrn, dev := s.dev, cwl := s.cwl, out := s.out } = s) ∧
    (s.jrn.queue = [] → exec (.journalSequencing) s = .next { s with out := [] }) ∧
    (s.jrn.signing = some g → s.signs = true → s.jrnRoom 152 = true → seq = (s.rd Addr.JRN_HEAD_SEQ).toNat + 1 → seq < 2 ^ 64 - 2 → hl = 32 + s.jrn.headH.length → ∃ u, exec (.sealRecord) s = .next u ∧ u.jrn.covered = g.seq ∧
        u.rd Addr.JRN_CNT_SEAL = BitVec.ofNat 64 (min ((s.rd Addr.JRN_CNT_SEAL).toNat + 1) (2 ^ 64 - 1)) ∧
        u.rd Addr.JRN_HEAD_SEQ = BitVec.ofNat 64 seq ∧
        (∃ l e, u.jrn.ring = l ++ [e] ∧ e.typ = 0xF001 ∧ e.issuers = g.waiters ∧ (e.data.drop hl).take 16 = natBytes 8 g.seq ++ natBytes 8 (s.rd Addr.JRN_EPOCH).toNat)) ∧
    (s.jrn.signing = none → exec (.sealRecord) s = .next { s with out := [] }) ∧
    (s.jrn.ring = [e] → e.loc = false → e.dur = false → e.sync = false → e.issuers = [] → e.skip = 0 → s.jState ≠ 3 → s.jrn.halted = false → s.cwl.detached = false → ∃ u, exec (.durabilityPoint) s = .next u ∧ u.jrn.ring = [{ e with loc := true, drain := false, dur := true }] ∧
        u.rd Addr.DRW_LAST_SEQ = (if e.typ = 0xF00A then BitVec.ofNat 64 e.seq else s.rd Addr.DRW_LAST_SEQ) ∧
        u.jarr = writeBytes s.jarr e.off e.data ∧
        u.keys.finalSeq = e.seq ∧
        u.keys.finalH = e.hash ∧
        u.rd Addr.JRN_DUR_SEQ = BitVec.ofNat 64 (max (s.rd Addr.JRN_DUR_SEQ).toNat e.seq) ∧
        (∀ a, a ∉ [Addr.JRN_DUR_SEQ, Addr.JRN_STATUS, Addr.DRW_LAST_SEQ] → u.rd a = s.rd a) ∧
        { u with jrn := s.jrn, jarr := s.jarr, keys := s.keys, dev := s.dev, out := s.out } = s) ∧
    (s.jrn.ring = [e] → e.loc = false → e.dur = false → e.sync = false → e.issuers = [.bank p b t gen] → s.jState ≠ 3 → s.jrn.halted = false → s.cwl.detached = false → (s.pair p).gen = gen → (s.pair p).halt = none → (s.bank p b).task.getD 0 = t → (s.bank p b).st = .waiting → (s.bank p b).waitCd = some cd → 1 ≤ cd → ∃ u, exec (.durabilityPoint) s = .next u ∧ (u.bank p b).reg cd = receiptCap e.seq ∧
        (∀ m, m ≠ cd → (u.bank p b).reg m = (s.bank p b).reg m) ∧
        u.jrn.ring = [{ e with loc := true, drain := false, dur := true, issuers := [] }]) ∧
    (s.jrn.ring = [] → s.jState = 3 → exec (.durabilityPoint) s = .next { s with out := [] }) ∧
    (∃ u, exec (.journalDupcmp) s = .next u ∧ u.jState = 3 ∧
        u.fld Addr.JRN_ERR 4 1 = 1 ∧
        u.jrn.queue = [] ∧
        u.jrn.fwd = [] ∧
        u.jrn.signing = none ∧
        (∀ e ∈ u.jrn.ring, e.issuers = []) ∧
        u.mem = s.mem) ∧
    (s.jrn.opening = false → s.jrn.halted = false → s.jrn.isOpen = false → s.bootSt.closed = true → s.lcState < 3 → s.jState = 0 → s.keys.recovered = none → s.keys.finalSeq < 2 ^ 64 - 2 → (∀ x ∈ s.jrn.ring, x.seq < 2 ^ 64 - 2) → s.cwl.detached = false → ∃ u, exec (.epochOpen) s = .next u ∧ u.keys.epoch = s.keys.epoch + 1 ∧
        u.rd Addr.JRN_EPOCH = BitVec.ofNat 64 (s.keys.epoch + 1) ∧
        u.jrn.opening = true ∧
        u.stage = 4 ∧
        u.draw.ids = [] ∧
        u.jrn.headH = s.keys.finalH ∧
        (∃ r, u.jrn.queue = r :: s.jrn.queue ∧ r.typ = 0xF000 ∧ r.issuer = .epoch ∧ r.payload.take 16 = natBytes 8 (s.keys.epoch + 1) ++ natBytes 8 s.keys.finalSeq)) ∧
    (s.jrn.opening = true ∨ s.bootSt.closed = false ∨ 3 ≤ s.lcState ∨ s.jState ≠ 0 → exec (.epochOpen) s = .next { s with out := [] }) ∧
    (s.jrn.signing = none → s.signs = true → s.jState < 2 → s.rd Addr.JRN_HEAD_SEQ ≠ 0 → ∃ u, exec (.jrnSealCmd) s = .next u ∧ u.jrn.signing = some ⟨(s.rd Addr.JRN_HEAD_SEQ).toNat, s.jrn.headH, s.jrn.sealWaiters⟩ ∧
        u.fld Addr.JRN_STATUS 30 2 = 0 ∧
        u.jrn.sealWant = false ∧
        (∀ a, a ∉ [Addr.JRN_STATUS] → u.rd a = s.rd a) ∧
        { u with jrn := s.jrn, dev := s.dev, out := s.out } = s) ∧
    (s.jrn.signing.isSome = true → s.standby = false → s.jrn.halted = false → s.jState < 2 → ∃ u, exec (.jrnSealCmd) s = .next u ∧ u.jrn = { s.jrn with sealWant := true } ∧
        u.fld Addr.JRN_STATUS 30 2 = 0 ∧
        (∀ a, a ∉ [Addr.JRN_STATUS] → u.rd a = s.rd a) ∧
        { u with jrn := s.jrn, dev := s.dev, out := s.out } = s) ∧
    (∃ u, exec (.jrnClrcnt) s = .next u ∧ (∀ a ∈ [Addr.JRN_CNT_APP, Addr.JRN_CNT_FULL, Addr.JRN_CNT_SEAL, Addr.JRN_CNT_RETX, Addr.JRN_CNT_ACKBAD, Addr.JRN_CNT_FWD], u.rd a = 0) ∧
        (∀ a, a ∉ [Addr.JRN_CNT_APP, Addr.JRN_CNT_FULL, Addr.JRN_CNT_SEAL, Addr.JRN_CNT_RETX, Addr.JRN_CNT_ACKBAD, Addr.JRN_CNT_FWD, Addr.JRN_STATUS] → u.rd a = s.rd a) ∧
        { u with dev := s.dev, out := s.out } = s) ∧
    (p < 104 → s.lcState ≠ 2 → bitsAt val.toNat 0 2 < 3 → 1 ≤ bitsAt val.toNat 8 16 → bitsAt val.toNat 0 3 ≠ s.fld Addr.JRN_REPL 0 3 → ∃ u, exec (.jrnReplWrite p val) s = .next u ∧ u.fld Addr.JRN_REPL 0 3 = bitsAt val.toNat 0 3 ∧
        u.fld Addr.JRN_REPL 8 16 = bitsAt val.toNat 8 16 ∧
        (∃ r, u.jrn.queue = s.jrn.queue ++ [r] ∧ r.typ = 0xF008 ∧ r.payload = [0, BitVec.ofNat 8 (bitsAt val.toNat 0 2), 1, BitVec.ofNat 8 (bitsAt val.toNat 2 1)]) ∧
        u.jrn.mode = s.jrn.mode ∧
        (∀ a, a ∉ [Addr.JRN_REPL, Addr.JRN_STATUS] → u.rd a = s.rd a) ∧
        { u with jrn := s.jrn, dev := s.dev, out := s.out } = s) ∧
    (p < 104 → s.lcState = 2 → ∃ u, exec (.jrnReplWrite p val) s = .next u ∧ u.fld Addr.JRN_REPL 0 3 = s.fld Addr.JRN_REPL 0 3 ∧
        u.fld Addr.JRN_REPL 8 16 = s.fld Addr.JRN_REPL 8 16 ∧
        (∃ r, u.jrn.queue = s.jrn.queue ++ [r] ∧ r.typ = 0xF00B) ∧
        (∀ a, a ∉ [Addr.JRN_REPL, Addr.JRN_STATUS] → u.rd a = s.rd a) ∧
        { u with jrn := s.jrn, dev := s.dev, out := s.out } = s) ∧
    (∃ u, exec (.jrnLookup val) s = .next u ∧ u.rd Addr.JRN_LOOKUP = val ∧
        u.rd Addr.JRN_LOOKUP_RES = BitVec.ofNat 64 (2 ^ 62) ∧
        (∀ a, a ∉ [Addr.JRN_LOOKUP, Addr.JRN_LOOKUP_RES] → u.rd a = s.rd a) ∧
        { u with dev := s.dev, out := s.out } = s) ∧
    (s.fld Addr.JRN_LOOKUP_RES 62 1 = 1 → s.jrn.ring.find? (fun x => x.seq == (s.rd Addr.JRN_LOOKUP).toNat && x.dur && s.inRing x) = some e → ∃ u, exec (.lookupComplete) s = .next u ∧ u.rd Addr.JRN_LOOKUP_RES = BitVec.ofNat 64 (e.off + 2 ^ 63) ∧
        (∀ a, a ∉ [Addr.JRN_LOOKUP_RES] → u.rd a = s.rd a) ∧
        { u with dev := s.dev, out := s.out } = s) ∧
    (s.fld Addr.JRN_LOOKUP_RES 62 1 = 1 → s.jrn.ring.find? (fun x => x.seq == (s.rd Addr.JRN_LOOKUP).toNat && x.dur && s.inRing x) = none → ∃ u, exec (.lookupComplete) s = .next u ∧ u.rd Addr.JRN_LOOKUP_RES = 0 ∧
        (∀ a, a ∉ [Addr.JRN_LOOKUP_RES] → u.rd a = s.rd a) ∧
        { u with dev := s.dev, out := s.out } = s) ∧
    (s.fld Addr.JRN_LOOKUP_RES 62 1 = 0 → exec (.lookupComplete) s = .next { s with out := [] }) ∧
    (s.standby = true ∨ s.jrn.halted = true ∨ 2 ≤ s.jState → ∃ u, exec (.jrnSealCmd) s = .next u ∧ u.fld Addr.JRN_STATUS 30 2 = 1 ∧
        (∀ a, a ∉ [Addr.JRN_STATUS] → u.rd a = s.rd a) ∧
        { u with dev := s.dev, out := s.out } = s)

/-- The journal replicates to a standby and drains to the archive (R382, R383, R386, R387, R388). -/
def Obligations.JournalReplicatesAndDrains : Prop :=
  ∀ (p b t gen n cd seq port hl : Nat) (val : Word) (body pl : List Byte) (r : JReq) (rest : List JReq) (g : Signing) (e : JEntry) (es : List JEntry) (s : State), Quiet s →
    (s.standby = false → s.jrn.joined = true → s.linkUp = true → s.fld Addr.CWL_STATUS 2 1 = 1 → s.jrn.mode ≠ 0 → s.jrn.ring.find? (fun x => x.loc && decide (s.jrn.sent < x.seq)) = some e → ∃ u, exec (.entrySend) s = .next u ∧ u.jrn = { s.jrn with sent := e.seq } ∧
        Emit.link 0x10 0 e.seq (e.data.take (64 + bytesNat ((e.data.drop 16).take 4))) ∈ u.out ∧
        (∀ a, a ∉ [Addr.JRN_REPL_STATUS] → u.rd a = s.rd a) ∧
        { u with jrn := s.jrn, dev := s.dev, cwl := s.cwl, out := s.out } = s) ∧
    (s.standby = true ∨ s.linkUp = false ∨ s.jrn.mode = 0 → exec (.entrySend) s = .next { s with out := [] }) ∧
    (s.standby = true → s.jrn.halted = false → s.fld Addr.JRN_REPL_STATUS 1 3 ≠ 4 → s.jrn.rejoin = false → s.jrn.inbox = [] → val.toNat = (s.rd Addr.JRN_HEAD_SEQ).toNat + 1 → (body.drop 32).take 32 = s.jrn.headH → 64 ≤ body.length → s.jrnRoom (body.length - 64) = true → val.toNat < 2 ^ 64 - 2 → s.cwl.detached = false → ∃ u, exec (.entry val body) s = .next u ∧ u.rd Addr.JRN_HEAD_SEQ = val ∧
        u.rd Addr.JRN_DUR_SEQ = val ∧
        u.jrn.headH = sha256 body ∧
        u.keys.finalSeq = val.toNat ∧
        (∃ l x, u.jrn.ring = l ++ [x] ∧ x.seq = val.toNat ∧ x.dur = true ∧ x.data.take body.length = body ∧ x.hash = sha256 body) ∧
        Emit.link 0x11 0 val.toNat [] ∈ u.out) ∧
    (s.standby = true → s.jrn.halted = false → s.fld Addr.JRN_REPL_STATUS 1 3 ≠ 4 → s.jrn.rejoin = false → s.jrn.inbox = [] → (s.rd Addr.JRN_HEAD_SEQ).toNat < val.toNat → val.toNat ≠ (s.rd Addr.JRN_HEAD_SEQ).toNat + 1 ∨ (body.drop 32).take 32 ≠ s.jrn.headH → ∃ u, exec (.entry val body) s = .next u ∧ u.fld Addr.JRN_REPL_STATUS 1 3 = 4 ∧
        u.fld Addr.JRN_ERR 2 1 = 1 ∧
        u.jrn = s.jrn) ∧
    (s.standby = false ∨ s.fld Addr.JRN_REPL_STATUS 1 3 = 4 → s.jrn.inbox = [] → exec (.entry val body) s = .next { s with out := [] }) ∧
    (s.standby = false → (s.rd Addr.JRN_PACK_SEQ).toNat < val.toNat → val.toNat ≤ s.jrn.sent → ∃ u, exec (.entryAck val) s = .next u ∧ u.rd Addr.JRN_PACK_SEQ = val ∧
        u.jrn = s.jrn) ∧
    (s.standby = true ∨ val.toNat ≤ (s.rd Addr.JRN_PACK_SEQ).toNat ∨ s.jrn.sent < val.toNat → exec (.entryAck val) s = .next { s with out := [] }) ∧
    (s.standby = false → (s.rd Addr.JRN_PACK_SEQ).toNat < s.jrn.sent → s.jrn.mode = 2 → s.fld Addr.JRN_REPL 2 1 = 1 → s.jrn.queue = [] → ∃ u, exec (.ackTimeout) s = .next u ∧ u.fld Addr.JRN_REPL_STATUS 1 3 = 5 ∧
        (∃ r, u.jrn.queue = [r] ∧ r.typ = 0xF008 ∧ r.payload = [0, 1, 3, 1])) ∧
    (s.standby = false → (s.rd Addr.JRN_PACK_SEQ).toNat < s.jrn.sent → s.jrn.mode ≠ 2 ∨ s.fld Addr.JRN_REPL 2 1 = 0 → s.fld Addr.JRN_REPL_STATUS 1 3 ≠ 5 → ∃ u, exec (.ackTimeout) s = .next u ∧ u.fld Addr.JRN_REPL_STATUS 1 3 = 0 ∧
        u.jrn = s.jrn) ∧
    (s.jrn.sent ≤ (s.rd Addr.JRN_PACK_SEQ).toNat → s.jState ≠ 2 → exec (.ackTimeout) s = .next { s with out := [] }) ∧
    (s.fld Addr.JRN_CTRL 1 1 = 1 → port = s.fld Addr.JRN_ARCH_CFG 0 2 → s.fld Addr.NET_STATUS port 1 = 1 → es = drainTake s.drains (s.fld Addr.JRN_ARCH_CFG 24 14) (nextSeq (s.rd Addr.JRN_DRAIN_SEQ).toNat s.jrn.ring) 0 s.jrn.ring → es.getLast? = some e → ∃ u, exec (.drainFrame) s = .next u ∧ u.rd Addr.JRN_DRAIN_SEQ = BitVec.ofNat 64 e.seq ∧
        (∃ hd, hd.length = 46 ∧ u.out = [.frame port (hd ++ es.flatMap (fun x => x.data))]) ∧
        u.jrn = { s.jrn with drained := max s.jrn.drained e.seq } ∧
        (∀ a, a ∉ [Addr.JRN_DRAIN_SEQ] → u.rd a = s.rd a) ∧
        { u with dev := s.dev, jrn := s.jrn, out := s.out } = s) ∧
    (s.fld Addr.JRN_CTRL 1 1 = 0 ∨ s.fld Addr.NET_STATUS (s.fld Addr.JRN_ARCH_CFG 0 2) 1 = 0 → exec (.drainFrame) s = .next { s with out := [] }) ∧
    (seq = bytesNat ((body.drop 16).take 8) → s.jrn.inbox = [] → ∃ u, exec (.archiveAck body) s = .next u ∧ (s.archOk body = true → u.rd Addr.JRN_ARCH_SEQ = BitVec.ofNat 64 seq ∧ u.fld Addr.JRN_ARCH_OFF 0 38 = s.afterEntry seq % 2 ^ 38) ∧
        (s.archOk body = false → u.rd Addr.JRN_ARCH_SEQ = s.rd Addr.JRN_ARCH_SEQ ∧ u.rd Addr.JRN_CNT_ACKBAD = BitVec.ofNat 64 (min ((s.rd Addr.JRN_CNT_ACKBAD).toNat + 1) (2 ^ 64 - 1)) ∧ u.fld Addr.JRN_ERR 1 1 = 1) ∧
        u.jrn.ring = s.jrn.ring) ∧
    ((s.rd Addr.JRN_ARCH_SEQ).toNat < (s.rd Addr.JRN_DRAIN_SEQ).toNat → ∃ u, exec (.archiveRetransmit) s = .next u ∧ u.rd Addr.JRN_DRAIN_SEQ = s.rd Addr.JRN_ARCH_SEQ ∧
        u.rd Addr.JRN_CNT_RETX = BitVec.ofNat 64 (min ((s.rd Addr.JRN_CNT_RETX).toNat + 1) (2 ^ 64 - 1)) ∧
        (∀ a, a ∉ [Addr.JRN_DRAIN_SEQ, Addr.JRN_CNT_RETX] → u.rd a = s.rd a) ∧
        { u with dev := s.dev, out := s.out } = s) ∧
    ((s.rd Addr.JRN_DRAIN_SEQ).toNat ≤ (s.rd Addr.JRN_ARCH_SEQ).toNat → exec (.archiveRetransmit) s = .next { s with out := [] }) ∧
    (s.jrn.sent ≤ (s.rd Addr.JRN_PACK_SEQ).toNat → s.jState = 2 → ∃ u, exec (.ackTimeout) s = .next u ∧ u.pwr = { s.pwr with ackOver := true } ∧
        { u with pwr := s.pwr, out := s.out } = s)

/-- The draw unit takes requests, records results, writes them with a token, and fails as R403 says (R393, R394, R396, R397, R402, R403, R407). -/
def Obligations.DrawUnitOperations : Prop :=
  ∀ (n q ea cd : Nat) (vs : List Nat) (pass apt : Bool) (r : DrawReq) (rest : List DrawReq) (g : Gen) (w w0 s : State), Quiet s →
    (s.draw.queue = r :: rest → s.draw.act = none → s.drwState ≠ 0 → s.drawTest r = some n → (s.pair r.pair).halt = none → (s.pair r.pair).gen = r.gen → (s.bank r.pair r.bank).task.getD 0 = r.task → (s.bank r.pair r.bank).st = .waiting → (s.bank r.pair r.bank).waitCd = some cd → 1 ≤ cd → ∃ u, exec (.drawRequest) s = .next u ∧ u.draw = { s.draw with queue := rest } ∧
        (u.bank r.pair r.bank).reg cd = intCap (BitVec.ofNat 64 n) ∧
        u.rd (if n = 1 then Addr.DRW_CNT_DUP else Addr.DRW_CNT_FAIL) = BitVec.ofNat 64 (min ((s.rd (if n = 1 then Addr.DRW_CNT_DUP else Addr.DRW_CNT_FAIL)).toNat + 1) (2 ^ 64 - 1)) ∧
        (∀ m, m ≠ cd → (u.bank r.pair r.bank).reg m = (s.bank r.pair r.bank).reg m)) ∧
    (s.draw.queue = r :: rest → s.draw.act = none → s.drwState ≠ 0 → s.drawTest r = none → w0 = ((({ s with out := [] } : State).updDraw (fun d => { d with queue := rest })).drawShow).idPend r.id → drawMap r.n r.wor [] w0 genStart r.k = some (vs, w, g) → ∃ u, exec (.drawRequest) s = .next u ∧ u.draw.act = some ⟨r, vs, g.rej, none, false⟩ ∧
        u.draw.queue = rest ∧
        smGet (always none) u.draw.ids r.id = some false ∧
        (∃ l q, u.jrn.queue = l ++ [q] ∧ q.typ = 0xF00A ∧ q.issuer = .draw ∧ q.payload.take 8 = natBytes 8 r.id) ∧
        u.mem = w.mem) ∧
    (s.draw.queue = [] ∨ s.draw.act.isSome = true → exec (.drawRequest) s = .next { s with out := [] }) ∧
    (s.draw.act = some ⟨r, vs, n, some q, true⟩ → r.dst = [(ea, (vs.flatMap (natBytes 8)).length)] → ea + (vs.flatMap (natBytes 8)).length ≤ 2 ^ 41 → s.tally.chans = [] → s.latent = [] → (s.pair r.pair).halt = none → (s.pair r.pair).gen = r.gen → (s.bank r.pair r.bank).task.getD 0 = r.task → (s.bank r.pair r.bank).st = .waiting → (s.bank r.pair r.bank).waitCd = some cd → 1 ≤ cd → ∃ u, exec (.drawComplete) s = .next u ∧ u.draw = { s.draw with act := none } ∧
        u.bytesAt .dram ea (vs.flatMap (natBytes 8)).length = vs.flatMap (natBytes 8) ∧
        SameBytesOutside s u ea (vs.flatMap (natBytes 8)).length ∧
        (u.bank r.pair r.bank).reg cd = tokenCap q ∧
        u.rd Addr.DRW_CNT_DRAW = BitVec.ofNat 64 (min ((s.rd Addr.DRW_CNT_DRAW).toNat + 1) (2 ^ 64 - 1))) ∧
    (s.draw.act = none ∨ s.draw.act = some ⟨r, vs, n, some q, false⟩ → exec (.drawComplete) s = .next { s with out := [] }) ∧
    (s.drwState = 0 → ∃ u, exec (.glintStartupTest true) s = .next u ∧ u.drwState = 1 ∧
        u.rd Addr.DRW_INST = BitVec.ofNat 64 (min ((s.rd Addr.DRW_INST).toNat + 1) (2 ^ 64 - 1)) ∧
        u.rd Addr.DRW_RESEEDS = 0 ∧
        u.rd Addr.DRW_RESEED_CTR = 1 ∧
        (∀ a, a ∉ [Addr.DRW_INST, Addr.DRW_RESEEDS, Addr.DRW_RESEED_CTR, Addr.DRW_STATUS] → u.rd a = s.rd a) ∧
        { u with dev := s.dev, draw := s.draw, free := s.free, out := s.out } = s) ∧
    (s.drwState = 0 → ∃ u, exec (.glintStartupTest false) s = .next u ∧ u.drwState = 2 ∧
        u.fld Addr.DRW_ERR 3 1 = 1 ∧
        (∀ a, a ∉ [Addr.DRW_ERR, Addr.DRW_STATUS] → u.rd a = s.rd a) ∧
        { u with dev := s.dev, out := s.out } = s) ∧
    (s.drwState ≠ 0 → exec (.glintStartupTest pass) s = .next { s with out := [] }) ∧
    (s.drwState ≠ 3 → s.drwState ≠ 4 → ∃ u, exec (.healthFailure apt) s = .next u ∧ u.drwState = 2 ∧
        u.fld Addr.DRW_ERR (if apt then 2 else 1) 1 = 1 ∧
        u.draw.queue = [] ∧
        u.fld Addr.SEC_ALM_RAW 6 1 = 1) ∧
    (∃ u, exec (.drawDupcmp) s = .next u ∧ u.drwState = 3 ∧
        u.fld Addr.DRW_ERR 4 1 = 1 ∧
        u.draw.queue = []) ∧
    (∃ u, exec (.drwClrcnt) s = .next u ∧ (∀ a ∈ [Addr.DRW_CNT_DRAW, Addr.DRW_CNT_DUP, Addr.DRW_CNT_REJ, Addr.DRW_CNT_FAIL], u.rd a = 0) ∧
        (∀ a, a ∉ [Addr.DRW_CNT_DRAW, Addr.DRW_CNT_DUP, Addr.DRW_CNT_REJ, Addr.DRW_CNT_FAIL, Addr.DRW_STATUS] → u.rd a = s.rd a) ∧
        { u with dev := s.dev, out := s.out } = s)

/-- A management command is answered, refused or served by port, state, key and concurrency (R441, R466, R469, R470, R473, R514, R516). -/
def Obligations.ManagementAcceptance : Prop :=
  ∀ (port n : Nat) (tag : BitVec 32) (body : List Byte) (pass : Bool) (s : State), s.sec.pend = none ∨ s.sec.audit = none → s.stage ≠ 4 → s.detachDue = false →
    (∀ e ∈ ([(1, .lcQuery port tag body), (2, .attest port tag body), (3, .jexport port tag body), (4, .keygen port tag body), (5, .rawCapture port tag body), (6, .provision port tag body), (7, .certify port tag body), (8, .policySet port tag body), (9, .keySet port tag body), (10, .mcCommit port tag body), (11, .takeover port tag body), (12, .debugChallenge port tag body), (13, .debugUnlock port tag body), (14, .debugLock port tag body), (16, .reset port tag body), (17, .imgStage port tag body), (18, .retire port tag body), (32, .fwStage port tag body), (33, .mcStage port tag body), (34, .cfgSet port tag body), (35, .telemRead port tag body), (36, .detach port tag body)] : List (Nat × Instr)),
      (port < 3 → s.answers port = false → exec e.2 s = .next { s with out := [] }) ∧
      (port < 3 → s.answers port = true → s.gate ⟨port, tag.toNat, body, true⟩ e.1 = some n → ∃ u, exec e.2 s = .next u ∧ u.out = [.reply port e.1 n tag.toNat 0 1 []] ∧
        u.rd Addr.SEC_CNT_REJ = BitVec.ofNat 64 (min ((s.rd Addr.SEC_CNT_REJ).toNat + 1) (2 ^ 64 - 1)) ∧
        (s.epochUp = true → ∃ r, u.jrn.queue = s.jrn.queue ++ [r] ∧ r.typ = 0xF00B) ∧
        (∀ a, a ∉ [Addr.SEC_CNT_REJ, Addr.JRN_STATUS, Addr.MC_ERR] → u.rd a = s.rd a) ∧
        { u with dev := s.dev, jrn := s.jrn, out := s.out } = s)) ∧
    (port < 3 → s.answers port = true → s.gate ⟨port, tag.toNat, body, pass⟩ 15 = some n → ∃ u, exec (.alarmRecover port tag body pass) s = .next u ∧ u.out = [.reply port 15 n tag.toNat 0 1 []] ∧
        u.rd Addr.SEC_CNT_REJ = BitVec.ofNat 64 (min ((s.rd Addr.SEC_CNT_REJ).toNat + 1) (2 ^ 64 - 1)) ∧
        (∀ a, a ∉ [Addr.SEC_CNT_REJ, Addr.JRN_STATUS] → u.rd a = s.rd a) ∧
        { u with dev := s.dev, jrn := s.jrn, out := s.out } = s)

/-- The commands of the REG port: queries, lifecycle, keys, policy, decode table, debug, recovery, reset (R392, R419, R440, R441, R453, R454, R455, R456, R465, R472, R510, R516). -/
def Obligations.RegulatorCommands : Prop :=
  ∀ (port n : Nat) (tag : BitVec 32) (body b key : List Byte) (ch : List Byte × Nat) (pass : Bool) (s : State), Quiet s →
    (port < 3 → s.answers port = true → s.gate ⟨port, tag.toNat, body, true⟩ 1 = none → body = [] → ∃ u, exec (.lcQuery port tag body) s = .next u ∧ u.out = [.reply port 1 0 tag.toNat 0 (segCount (natBytes 8 s.lcState ++ natBytes 8 (s.rd Addr.SEC_STATUS).toNat ++ natBytes 8 (s.rd Addr.SEC_ALM_ACT).toNat ++ natBytes 8 (s.rd Addr.SEN_BOOT).toNat ++ natBytes 8 Config.moduleId.toNat)) (segBytes 0 (natBytes 8 s.lcState ++ natBytes 8 (s.rd Addr.SEC_STATUS).toNat ++ natBytes 8 (s.rd Addr.SEC_ALM_ACT).toNat ++ natBytes 8 (s.rd Addr.SEN_BOOT).toNat ++ natBytes 8 Config.moduleId.toNat))] ∧
        { u with out := s.out } = s) ∧
    (port < 3 → s.answers port = true → s.gate ⟨port, tag.toNat, body, true⟩ 2 = none → body.length = 32 → ∃ u, exec (.attest port tag body) s = .next u ∧ (∃ sig, sig.length = 96 ∧ (s.keys.devKey = none → sig = List.replicate 96 0) ∧ u.out = [.reply port 2 0 tag.toNat 0 (segCount (s.report body ++ sig)) (segBytes 0 (s.report body ++ sig))]) ∧
        u.keys = s.keys ∧
        { u with sec := s.sec, free := s.free, out := s.out } = s) ∧
    (port < 3 → s.answers port = true → s.gate ⟨port, tag.toNat, body, true⟩ 3 = none → body.length = 12 → 1 ≤ cellGet body 8 4 → cellGet body 8 4 ≤ 1048576 → (s.jrn.ring.filter s.inRing).any (fun x => x.seq == cellGet body 0 8) = true → ∃ u, exec (.jexport port tag body) s = .next u ∧ u.out = [.reply port 3 0 tag.toNat 0 (segCount ((exportRun (cellGet body 0 8) (cellGet body 8 4) (s.jrn.ring.filter s.inRing)).flatMap (fun x => x.data))) (segBytes 0 ((exportRun (cellGet body 0 8) (cellGet body 8 4) (s.jrn.ring.filter s.inRing)).flatMap (fun x => x.data)))] ∧
        { u with sec := s.sec, out := s.out } = s) ∧
    (port < 3 → s.answers port = true → s.gate ⟨port, tag.toNat, body, true⟩ 4 = none → body = [] → s.keys.devKey = none → s.drwState = 1 → s.epochUp = true → ∃ u, exec (.keygen port tag body) s = .next u ∧ u.sec = { s.sec with pend := some ⟨4, port, tag.toNat, body⟩, audit := none } ∧
        (∃ r, u.jrn.queue = s.jrn.queue ++ [r] ∧ r.typ = 0xF00B ∧ r.src = 0x0203 ∧ r.issuer = .audit) ∧
        u.out = [] ∧
        u.keys = s.keys ∧
        (∀ a, a ∉ [Addr.JRN_STATUS] → u.rd a = s.rd a) ∧
        { u with sec := s.sec, jrn := s.jrn, dev := s.dev, out := s.out } = s) ∧
    (port < 3 → s.answers port = true → s.gate ⟨port, tag.toNat, body, true⟩ 4 = none → body = [] → s.keys.devKey = none → s.drwState = 1 → s.epochUp = false → ∃ u, exec (.keygen port tag body) s = .next u ∧ (∃ k, u.keys = { s.keys with devKey := some k } ∧ u.out = [.reply port 4 0 tag.toNat 0 (segCount (pubKey k)) (segBytes 0 (pubKey k))]) ∧
        u.lcState = s.lcState) ∧
    (port < 3 → s.answers port = true → s.gate ⟨port, tag.toNat, body, true⟩ 5 = none → body.length = 4 → n = cellGet body 0 4 → 1024 ≤ n → n ≤ 16777216 → n % 8 = 0 → ∃ u, exec (.rawCapture port tag body) s = .next u ∧ (∃ d, d.length = n / 8 ∧ u.out = [.reply port 5 0 tag.toNat 0 (segCount (d)) (segBytes 0 (d))]) ∧
        (∀ a, a ∉ [Addr.JRN_STATUS] → u.rd a = s.rd a) ∧
        { u with sec := s.sec, free := s.free, dev := s.dev, jrn := s.jrn, out := s.out } = s) ∧
    (port < 3 → s.answers port = true → s.gate ⟨port, tag.toNat, body, true⟩ 6 = none → n = cellGet body 97 1 → 1 ≤ n → n ≤ 4 → body.length = 410 + 97 * n → cellGet body 98 7 = 0 → s.policyOk (cut (202 + 97 * n) 208 body) = true → s.keys.devKey.isSome = true → s.epochUp = true → ∃ u, exec (.provision port tag body) s = .next u ∧ u.sec = { s.sec with pend := some ⟨6, port, tag.toNat, body⟩, audit := none } ∧
        (∃ r, u.jrn.queue = s.jrn.queue ++ [r] ∧ r.typ = 0xF00B ∧ r.src = 0x0203 ∧ r.issuer = .audit) ∧
        u.out = [] ∧
        u.lcState = s.lcState ∧
        (∀ a, a ∉ [Addr.JRN_STATUS] → u.rd a = s.rd a) ∧
        { u with sec := s.sec, jrn := s.jrn, dev := s.dev, out := s.out } = s) ∧
    (port < 3 → s.answers port = true → s.gate ⟨port, tag.toNat, body, true⟩ 6 = none → n = cellGet body 97 1 → 1 ≤ n → n ≤ 4 → body.length = 410 + 97 * n → cellGet body 98 7 = 0 → s.policyOk (cut (202 + 97 * n) 208 body) = true → s.keys.devKey.isSome = true → s.epochUp = false → ∃ u, exec (.provision port tag body) s = .next u ∧ u.lcState = 1 ∧
        u.keys.policy = cut (202 + 97 * n) 208 body ∧
        u.keys.debugPub = some (body.take 97) ∧
        u.keys.archive = some (cut (105 + 97 * n) 97 body) ∧
        u.keys.oper = provKeys body n ∧
        u.keys.devKey = s.keys.devKey ∧
        (∃ k, u.keys.jrnKey = some k ∧ u.out = [.reply port 6 0 tag.toNat 0 (segCount (pubKey k)) (segBytes 0 (pubKey k))])) ∧
    (port < 3 → s.answers port = true → s.gate ⟨port, tag.toNat, body, true⟩ 7 = none → body = sha256 s.keys.policy → s.keys.policy ≠ [] → s.floorsOk s.keys.policy = true → s.epochUp = true → ∃ u, exec (.certify port tag body) s = .next u ∧ u.sec = { s.sec with pend := some ⟨7, port, tag.toNat, body⟩, audit := none } ∧
        (∃ r, u.jrn.queue = s.jrn.queue ++ [r] ∧ r.typ = 0xF00B ∧ r.src = 0x0203 ∧ r.issuer = .audit) ∧
        u.out = [] ∧
        u.lcState = s.lcState ∧
        (∀ a, a ∉ [Addr.JRN_STATUS] → u.rd a = s.rd a) ∧
        { u with sec := s.sec, jrn := s.jrn, dev := s.dev, out := s.out } = s) ∧
    (port < 3 → s.answers port = true → s.gate ⟨port, tag.toNat, body, true⟩ 7 = none → body = sha256 s.keys.policy → s.keys.policy ≠ [] → s.floorsOk s.keys.policy = true → s.epochUp = false → ∃ u, exec (.certify port tag body) s = .next u ∧ u.lcState = 2 ∧
        u.fld Addr.SEC_DBG 0 1 = 0 ∧
        u.keys = s.keys ∧
        u.out = [.reply port 7 0 tag.toNat 0 (segCount ([])) (segBytes 0 ([]))]) ∧
    (port < 3 → s.answers port = true → s.gate ⟨port, tag.toNat, body, true⟩ 8 = none → s.policyOk body = true → s.lcState ≠ 2 ∨ s.floorsOk body = true → ∃ u, exec (.policySet port tag body) s = .next u ∧ u.keys.policy = body ∧
        u.rd Addr.SEC_POLVER = s.rd Addr.SEC_POLVER + 1 ∧
        u.lcState = s.lcState ∧
        u.out = [.reply port 8 0 tag.toNat 0 (segCount (sha256 body ++ natBytes 8 ((s.rd Addr.SEC_POLVER).toNat + 1))) (segBytes 0 (sha256 body ++ natBytes 8 ((s.rd Addr.SEC_POLVER).toNat + 1)))]) ∧
    (port < 3 → s.answers port = true → s.gate ⟨port, tag.toNat, body, true⟩ 9 = none → body.length = 105 → 1 ≤ cellGet body 0 1 → cellGet body 0 1 ≤ 3 → cellGet body 1 1 ≤ 3 → cellGet body 2 1 = 0 → cellGet body 3 5 = 0 → ∃ u, exec (.keySet port tag body) s = .next u ∧ u.keys = (if cellGet body 0 1 = 1 then { s.keys with debugPub := some (body.drop 8) } else if cellGet body 0 1 = 3 then { s.keys with archive := some (body.drop 8) } else { s.keys with oper := smSet (always none) s.keys.oper (cellGet body 1 1) (some (body.drop 8)) }) ∧
        u.out = [.reply port 9 0 tag.toNat 0 (segCount (keyId (body.drop 8))) (segBytes 0 (keyId (body.drop 8)))] ∧
        (∀ a, a ∉ [Addr.JRN_STATUS] → u.rd a = s.rd a) ∧
        { u with keys := s.keys, dev := s.dev, jrn := s.jrn, out := s.out } = s) ∧
    (port < 3 → s.answers port = true → s.gate ⟨port, tag.toNat, body, true⟩ 9 = none → body.length = 105 → cellGet body 0 1 = 2 → cellGet body 1 1 ≤ 3 → cellGet body 2 1 = 1 → cellGet body 3 5 = 0 → ∃ u, exec (.keySet port tag body) s = .next u ∧ smGet (always none) u.keys.oper (cellGet body 1 1) = none ∧
        (∀ a, a ∉ [Addr.JRN_STATUS] → u.rd a = s.rd a) ∧
        { u with keys := s.keys, dev := s.dev, jrn := s.jrn, out := s.out } = s) ∧
    (port < 3 → s.answers port = true → s.gate ⟨port, tag.toNat, body, true⟩ 10 = none → s.sec.mcStaged = some b → body = pkgHash b → s.epochUp = true → ∃ u, exec (.mcCommit port tag body) s = .next u ∧ u.sec = { s.sec with pend := some ⟨10, port, tag.toNat, body⟩, audit := none } ∧
        (∃ r, u.jrn.queue = s.jrn.queue ++ [r] ∧ r.typ = 0xF00B ∧ r.src = 0x0203 ∧ r.issuer = .audit) ∧
        u.out = [] ∧
        u.pairs = s.pairs ∧
        (∀ a, a ∉ [Addr.JRN_STATUS] → u.rd a = s.rd a) ∧
        { u with sec := s.sec, jrn := s.jrn, dev := s.dev, boot := s.boot, out := s.out } = s) ∧
    (port < 3 → s.answers port = true → s.gate ⟨port, tag.toNat, body, true⟩ 10 = none → s.sec.mcStaged = some b → body = pkgHash b → s.epochUp = false → ∃ u, exec (.mcCommit port tag body) s = .next u ∧ (∀ p, p < 96 → (u.pair p).pendTable = some (pkgTable b) ∧ (u.pair p).table = (s.pair p).table) ∧
        (∀ p, 96 ≤ p → u.pair p = s.pair p) ∧
        u.rd Addr.MC_PEND0 = BitVec.ofNat 64 (2 ^ 64 - 1) ∧
        u.rd Addr.MC_PEND1 = BitVec.ofNat 64 (2 ^ 32 - 1) ∧
        u.rd Addr.MC_VERSION = BitVec.ofNat 64 (pkgVersion b) ∧
        u.out = [.reply port 10 0 tag.toNat 0 (segCount ([])) (segBytes 0 ([]))]) ∧
    (port < 3 → s.answers port = true → s.gate ⟨port, tag.toNat, body, true⟩ 10 = none → s.sec.mcStaged = none → ∃ u, exec (.mcCommit port tag body) s = .next u ∧ u.fld Addr.MC_ERR 2 1 = 1 ∧
        u.out = [.reply port 10 1 tag.toNat 0 1 []] ∧
        (∀ a, a ∉ [Addr.MC_ERR, Addr.SEC_CNT_REJ, Addr.JRN_STATUS] → u.rd a = s.rd a) ∧
        { u with dev := s.dev, jrn := s.jrn, out := s.out } = s) ∧
    (port < 3 → s.answers port = true → s.gate ⟨port, tag.toNat, body, true⟩ 11 = none → body = [0] → s.standby = true → s.fld Addr.CWL_STATUS 2 1 = 0 → s.fld Addr.JRN_REPL_STATUS 1 3 = 2 → ∃ u, exec (.takeover port tag body) s = .next u ∧ u.standby = false ∧
        u.keys.takeGen = (s.keys.takeGen + 1) % 2 ^ 32 ∧
        u.jrn.opening = s.jrn.opening ∧
        (∃ r l, u.jrn.queue = r :: l ∧ r.typ = 0xF006) ∧
        .reply port 11 0 tag.toNat 0 1 [] ∈ u.out) ∧
    (port < 3 → s.answers port = true → s.gate ⟨port, tag.toNat, body, true⟩ 12 = none → body = [] → ∃ u, exec (.debugChallenge port tag body) s = .next u ∧ (∃ c, c.length = 32 ∧ u.sec = { s.sec with challenge := some (c, s.clk) } ∧ u.out = [.reply port 12 0 tag.toNat 0 (segCount (c)) (segBytes 0 (c))]) ∧
        { u with sec := s.sec, free := s.free, out := s.out } = s) ∧
    (port < 3 → s.answers port = true → s.gate ⟨port, tag.toNat, body, true⟩ 13 = none → body.length = 104 → 1 ≤ cellGet body 0 4 → cellGet body 0 4 ≤ 65535 → cellGet body 4 4 = 0 → s.fld Addr.SEC_STATUS 8 4 < 8 → s.sec.challenge = some ch → s.keys.debugPub = some key → ∃ u, exec (.debugUnlock port tag body) s = .next u ∧ u.sec.challenge = none ∧
        (verifies key (unlockMsg ch.1 body) (body.drop 8) = true → u.fld Addr.SEC_DBG 0 1 = 1 ∧ u.fld Addr.SEC_DBG 16 16 = min (cellGet body 0 4) (s.fld Addr.SEC_DBG 32 16) ∧ u.out = [.reply port 13 0 tag.toNat 0 1 []]) ∧
        (verifies key (unlockMsg ch.1 body) (body.drop 8) = false → u.fld Addr.SEC_DBG 0 1 = s.fld Addr.SEC_DBG 0 1 ∧ u.fld Addr.SEC_STATUS 8 4 = s.fld Addr.SEC_STATUS 8 4 + 1 ∧ u.out = [.reply port 13 6 tag.toNat 0 1 []]) ∧
        (∀ a, a ∉ [Addr.SEC_DBG, Addr.SEC_STATUS, Addr.SEC_CNT_REJ, Addr.JRN_STATUS] → u.rd a = s.rd a) ∧
        { u with sec := s.sec, dev := s.dev, jrn := s.jrn, out := s.out } = s) ∧
    (port < 3 → s.answers port = true → s.gate ⟨port, tag.toNat, body, true⟩ 13 = none → body.length = 104 → 1 ≤ cellGet body 0 4 → cellGet body 0 4 ≤ 65535 → cellGet body 4 4 = 0 → 8 ≤ s.fld Addr.SEC_STATUS 8 4 → ∃ u, exec (.debugUnlock port tag body) s = .next u ∧ u.out = [.reply port 13 7 tag.toNat 0 1 []] ∧
        (∀ a, a ∉ [Addr.SEC_CNT_REJ, Addr.JRN_STATUS] → u.rd a = s.rd a) ∧
        { u with dev := s.dev, jrn := s.jrn, out := s.out } = s) ∧
    (port < 3 → s.answers port = true → s.gate ⟨port, tag.toNat, body, true⟩ 14 = none → body = [] → ∃ u, exec (.debugLock port tag body) s = .next u ∧ u.fld Addr.SEC_DBG 0 1 = 0 ∧
        u.out = [.reply port 14 0 tag.toNat 0 1 []] ∧
        (∀ a, a ∉ [Addr.SEC_DBG, Addr.SEC_STATUS, Addr.JRN_STATUS] → u.rd a = s.rd a) ∧
        { u with sec := s.sec, dev := s.dev, jrn := s.jrn, out := s.out } = s) ∧
    (port < 3 → s.answers port = true → s.gate ⟨port, tag.toNat, [0], true⟩ 15 = none → s.drwState = 2 → s.fld Addr.SEC_ALM_ACT 0 8 = 0 → ∃ u, exec (.alarmRecover port tag [0] true) s = .next u ∧ u.drwState = 1 ∧
        u.out = [.reply port 15 0 tag.toNat 0 1 []] ∧
        { u with sec := s.sec, dev := s.dev, jrn := s.jrn, draw := s.draw, free := s.free, out := s.out } = s) ∧
    (port < 3 → s.answers port = true → s.gate ⟨port, tag.toNat, [1], pass⟩ 15 = none → s.hold = true → s.lcState ≠ 3 → s.sourceLive = false → ∃ u, exec (.alarmRecover port tag [1] pass) s = .next u ∧ u.fld Addr.SEC_ALM_ACT 0 8 = 0 ∧
        u.fld Addr.PWR_RSTCAUSE 0 32 = 5 ∧
        u.hold = false ∧
        u.pairs = [] ∧
        u.lcState = s.lcState ∧
        u.out = [.reply port 15 0 tag.toNat 0 1 []]) ∧
    (port < 3 → s.answers port = true → s.gate ⟨port, tag.toNat, [2], true⟩ 15 = none → s.lcState = 3 → s.sec.erase = false → s.sourceLive = false → ∃ u, exec (.alarmRecover port tag [2] true) s = .next u ∧ u.lcState = 1 ∧
        u.keys.devKey.isSome = true ∧
        u.keys.jrnKey.isSome = true ∧
        u.keys.keyChanged = true ∧
        u.fld Addr.PWR_RSTCAUSE 0 32 = 5 ∧
        u.fld Addr.SEC_ALM_ACT 0 8 = 0 ∧
        u.pairs = []) ∧
    (port < 3 → s.answers port = true → s.gate ⟨port, tag.toNat, body, true⟩ 16 = none → body = [] → ∃ u, exec (.reset port tag body) s = .next u ∧ u.fld Addr.PWR_RSTCAUSE 0 32 = 5 ∧
        u.pairs = [] ∧
        u.mem = [] ∧
        u.stage = 0 ∧
        u.lcState = s.lcState ∧
        u.out = [.reply port 16 0 tag.toNat 0 1 []]) ∧
    (port < 3 → s.answers port = true → s.gate ⟨port, tag.toNat, body, true⟩ 17 = none → 8 ≤ body.length → cellGet body 0 1 ≤ 1 → cellGet body 1 7 = 0 → body.length - 8 ≤ setLen (cellGet body 0 1 == 1) → ∃ u, exec (.imgStage port tag body) s = .next u ∧ u.boot = writeBytes s.boot (setBase (cellGet body 0 1 == 1)) (body.drop 8) ∧
        u.out = [.reply port 17 0 tag.toNat 0 1 []] ∧
        { u with boot := s.boot, out := s.out } = s) ∧
    (port < 3 → s.answers port = true → s.gate ⟨port, tag.toNat, body, true⟩ 18 = none → body = natBytes 8 Config.moduleId.toNat → s.epochUp = true → ∃ u, exec (.retire port tag body) s = .next u ∧ u.sec = { s.sec with pend := some ⟨18, port, tag.toNat, body⟩, audit := none } ∧
        (∃ r, u.jrn.queue = s.jrn.queue ++ [r] ∧ r.typ = 0xF00B ∧ r.src = 0x0203 ∧ r.issuer = .audit) ∧
        u.out = [] ∧
        u.lcState = s.lcState ∧
        (∀ a, a ∉ [Addr.JRN_STATUS] → u.rd a = s.rd a) ∧
        { u with sec := s.sec, jrn := s.jrn, dev := s.dev, out := s.out } = s) ∧
    (port < 3 → s.answers port = true → s.gate ⟨port, tag.toNat, body, true⟩ 18 = none → body = natBytes 8 Config.moduleId.toNat → s.epochUp = false → ∃ u, exec (.retire port tag body) s = .next u ∧ u.lcState = 4 ∧
        u.fld Addr.SEC_LC 3 1 = 1 ∧
        u.keys = { s.keys with devKey := none, jrnKey := none, debugPub := none } ∧
        (∀ p ∈ workPairs, (u.pair p).stopped = true) ∧
        u.drwState = 4 ∧
        .reply port 18 0 tag.toNat 0 1 [] ∈ u.out)

/-- The OPS commands, the CMB commands, and segmented exchanges (R418, R434, R468, R514, R515, R516, R518, R534). -/
def Obligations.OperatorCommandsAndSegments : Prop :=
  ∀ (port n off : Nat) (tag : BitVec 32) (idx val8 : BitVec 8) (reading : Int) (body seg : List Byte) (x : Exchange) (y : Response) (pass pec : Bool) (s : State), Quiet s →
    (port < 3 → s.answers port = true → s.gate ⟨port, tag.toNat, body, true⟩ 32 = none → 8 ≤ body.length → n = cellGet body 0 2 → n ∈ imageSlots → cellGet body 2 6 = 0 → off = (s.setEnd (!(s.fld Addr.SEN_BOOT 12 1 == 1)) n + 63) / 64 * 64 → ∃ u, exec (.fwStage port tag body) s = .next u ∧ (s.checkImage (!(s.fld Addr.SEN_BOOT 12 1 == 1)) n (body.drop 8) = 0 → off + (body.drop 8).length ≤ setLen (!(s.fld Addr.SEN_BOOT 12 1 == 1)) → u.boot = writeLE (writeLE (writeBytes s.boot (setBase (!(s.fld Addr.SEN_BOOT 12 1 == 1)) + off) (body.drop 8)) (setBase (!(s.fld Addr.SEN_BOOT 12 1 == 1)) + 16 * n) 8 off) (setBase (!(s.fld Addr.SEN_BOOT 12 1 == 1)) + 16 * n + 8) 8 (body.drop 8).length ∧ u.out = [.reply port 32 0 tag.toNat 0 (segCount (sha256 (imgBody (body.drop 8) ((imgGrants (body.drop 8)).getD 0)))) (segBytes 0 (sha256 (imgBody (body.drop 8) ((imgGrants (body.drop 8)).getD 0))))]) ∧
        (s.checkImage (!(s.fld Addr.SEN_BOOT 12 1 == 1)) n (body.drop 8) ≠ 0 → u.boot = s.boot ∧ u.out = [.reply port 32 1 tag.toNat 0 1 []]) ∧
        (∀ a, a ∉ [Addr.SEC_CNT_REJ, Addr.JRN_STATUS] → u.rd a = s.rd a) ∧
        { u with boot := s.boot, dev := s.dev, jrn := s.jrn, out := s.out } = s) ∧
    (port < 3 → s.answers port = true → s.gate ⟨port, tag.toNat, body, true⟩ 33 = none → ∃ u, exec (.mcStage port tag body) s = .next u ∧ (s.pkgOk body = true → (s.rd Addr.MC_VERSION).toNat < pkgVersion body → u.sec.mcStaged = some body ∧ u.out = [.reply port 33 0 tag.toNat 0 (segCount (pkgHash body)) (segBytes 0 (pkgHash body))]) ∧
        (s.pkgOk body = false ∨ pkgVersion body ≤ (s.rd Addr.MC_VERSION).toNat → u.sec = s.sec ∧ u.fld Addr.MC_ERR 2 1 = 1 ∧ u.out = [.reply port 33 1 tag.toNat 0 1 []]) ∧
        (∀ a, a ∉ [Addr.MC_ERR, Addr.SEC_CNT_REJ, Addr.JRN_STATUS] → u.rd a = s.rd a) ∧
        { u with sec := s.sec, dev := s.dev, jrn := s.jrn, out := s.out } = s) ∧
    (port < 3 → s.answers port = true → s.gate ⟨port, tag.toNat, body, true⟩ 34 = none → body = natBytes 8 1 ++ natBytes 8 0x2000010 ++ natBytes 8 n ++ natBytes 8 7 → n ≤ 4 → ∃ u, exec (.cfgSet port tag body) s = .next u ∧ u.fld Addr.EVD_SPILLCFG 0 3 = n ∧
        u.out = [.reply port 34 0 tag.toNat 0 1 []] ∧
        (∀ a, a ∉ [Addr.EVD_SPILLCFG] → u.rd a = s.rd a) ∧
        { u with dev := s.dev, out := s.out } = s) ∧
    (port < 3 → s.answers port = true → s.gate ⟨port, tag.toNat, body, true⟩ 34 = none → 1 ≤ cellGet body 0 2 → cellGet body 0 2 ≤ 64 → body.length = 8 + 24 * cellGet body 0 2 → cellGet body 2 6 = 0 → n = s.cfgChecks ((List.range (cellGet body 0 2)).map (cfgEntry body)) → n ≠ 0 → ∃ u, exec (.cfgSet port tag body) s = .next u ∧ u.out = [.reply port 34 n tag.toNat 0 1 []] ∧
        (∀ a, a ∉ [Addr.SEC_CNT_REJ, Addr.JRN_STATUS] → u.rd a = s.rd a) ∧
        { u with dev := s.dev, jrn := s.jrn, out := s.out } = s) ∧
    (port < 3 → s.answers port = true → s.gate ⟨port, tag.toNat, body, true⟩ 35 = none → body.length = 12 → off = cellGet body 0 8 → n = cellGet body 8 4 → 1 ≤ n → n ≤ 184 → off % 8 = 0 → off + 8 * n ≤ 2 ^ 24 → ∃ u, exec (.telemRead port tag body) s = .next u ∧ u.out = [.reply port 35 0 tag.toNat 0 (segCount ((List.range n).flatMap (fun i => natBytes 8 (s.devRead (0xF000F000000 + off + 8 * i)).1.toNat))) (segBytes 0 ((List.range n).flatMap (fun i => natBytes 8 (s.devRead (0xF000F000000 + off + 8 * i)).1.toNat)))] ∧
        { u with out := s.out } = s) ∧
    (port < 3 → s.answers port = true → s.gate ⟨port, tag.toNat, body, true⟩ 36 = none → body = [] → s.pwr.trigger = 0 → s.pwrState = 1 → ∃ u, exec (.detach port tag body) s = .next u ∧ u.pwrState = 3 ∧
        u.pwr.trigger = 2 ∧
        u.pwr.trigTime = s.time ∧
        u.pwr.ctxDone = false ∧
        u.draw.queue = [] ∧
        .reply port 0x24 0 tag.toNat 0 1 [] ∈ u.out) ∧
    (s.cmbUp = true → ∃ u, exec (.presence true) s = .next u ∧ u.out = [.block (natBytes 8 Config.moduleId.toNat ++ natBytes 1 s.lcState ++ natBytes 1 (s.fld Addr.PWR_STATUS 7 1 + b2n (s.pwrState == 4) * 2 + s.fld Addr.SEC_STATUS 3 1 * 4) ++ natBytes 1 (s.fld Addr.SEN_STRAP 0 6) ++ natBytes 5 0)] ∧
        { u with out := s.out } = s) ∧
    (s.cmbUp = true → ∃ u, exec (.presence false) s = .next u ∧ u.out = [.nack] ∧
        { u with out := s.out } = s) ∧
    (s.cmbUp = false → exec (.presence pec) s = .next { s with out := [] }) ∧
    (s.cmbUp = true → s.pwr.trigger = 0 → s.pwrState = 1 → ∃ u, exec (.powerReq 1 true) s = .next u ∧ u.pwrState = 3 ∧
        u.pwr.trigger = 3 ∧
        u.pwr.trigTime = s.time ∧
        u.pwr.ctxDone = false ∧
        u.draw.queue = []) ∧
    (s.cmbUp = true → val8 ≠ 1 → ∃ u, exec (.powerReq val8 true) s = .next u ∧ u.rd Addr.SEC_CNT_REJ = BitVec.ofNat 64 (min ((s.rd Addr.SEC_CNT_REJ).toNat + 1) (2 ^ 64 - 1)) ∧
        u.pwrState = s.pwrState ∧
        (∀ a, a ∉ [Addr.SEC_CNT_REJ, Addr.JRN_STATUS] → u.rd a = s.rd a) ∧
        { u with dev := s.dev, jrn := s.jrn, out := s.out } = s) ∧
    (s.cmbUp = true → ∃ u, exec (.powerReq val8 false) s = .next u ∧ u.out = [.nack] ∧
        { u with out := s.out } = s) ∧
    (s.cmbUp = true → ∃ u, exec (.sensorRead 0 reading true) s = .next u ∧ u.out = [.block (natBytes 8 (s.fld Addr.PWR_VIN 0 32))] ∧
        { u with out := s.out } = s) ∧
    (s.cmbUp = true → 3 ≤ idx.toNat → idx.toNat ≤ 20 → ∃ u, exec (.sensorRead idx reading true) s = .next u ∧ u.out = [.block (natBytes 8 (reading % 2 ^ 64).toNat)] ∧
        { u with out := s.out } = s) ∧
    (s.cmbUp = true → 20 < idx.toNat → ∃ u, exec (.sensorRead idx reading true) s = .next u ∧ u.out = [.block (List.replicate 8 0)] ∧
        u.rd Addr.SEC_CNT_REJ = BitVec.ofNat 64 (min ((s.rd Addr.SEC_CNT_REJ).toNat + 1) (2 ^ 64 - 1)) ∧
        (∀ a, a ∉ [Addr.SEC_CNT_REJ, Addr.JRN_STATUS] → u.rd a = s.rd a) ∧
        { u with dev := s.dev, jrn := s.jrn, out := s.out } = s) ∧
    (s.cmbUp = true → val8.toNat < 2 → ∃ u, exec (.ledSet val8 true) s = .next u ∧ u.sec = { s.sec with locate := val8.toNat == 1 } ∧
        { u with sec := s.sec, out := s.out } = s) ∧
    (s.cmbUp = true → 2 ≤ val8.toNat → ∃ u, exec (.ledSet val8 true) s = .next u ∧ u.rd Addr.SEC_CNT_REJ = BitVec.ofNat 64 (min ((s.rd Addr.SEC_CNT_REJ).toNat + 1) (2 ^ 64 - 1)) ∧
        (∀ a, a ∉ [Addr.SEC_CNT_REJ, Addr.JRN_STATUS] → u.rd a = s.rd a) ∧
        { u with dev := s.dev, jrn := s.jrn, out := s.out } = s) ∧
    (port < 3 → s.answers port = true → segOk seg = true → (segHead seg).kind = 1 → 2 ≤ (segHead seg).count → (segHead seg).idx = 0 → regCodes.contains (segHead seg).code = true → portServes port (segHead seg).code = true → keyCodes.contains (segHead seg).code = false → s.exch port = none → ∃ u, exec (.mgmtSegment port seg pass) s = .next u ∧ u.out = [.segAck port (segHead seg).code (segHead seg).tag 0] ∧
        u.exch port = some ⟨(segHead seg).code, (segHead seg).tag, (segHead seg).count, 1, (segHead seg).body⟩ ∧
        { u with sec := s.sec, out := s.out } = s) ∧
    (port < 3 → s.answers port = true → segOk seg = true → (segHead seg).kind = 1 → s.exch port = some x → (segHead seg).tag = x.tag → (segHead seg).code = x.code → (segHead seg).count = x.count → (segHead seg).idx = x.next → 1 ≤ (segHead seg).idx → (segHead seg).idx + 1 < (segHead seg).count → regCodes.contains (segHead seg).code = true → portServes port (segHead seg).code = true → ∃ u, exec (.mgmtSegment port seg pass) s = .next u ∧ u.out = [.segAck port x.code x.tag x.next] ∧
        u.exch port = some { x with next := x.next + 1, data := x.data ++ (segHead seg).body } ∧
        { u with sec := s.sec, out := s.out } = s) ∧
    (port < 3 → s.answers port = true → segOk seg = true → (segHead seg).kind = 1 → (segHead seg).count = 1 → (segHead seg).code = 1 →
        exec (.mgmtSegment port seg pass) s = exec (.lcQuery port (BitVec.ofNat 32 (segHead seg).tag) (segHead seg).body) s) ∧
    (port < 3 → s.answers port = true → segOk seg = false → ∃ u, exec (.mgmtSegment port seg pass) s = .next u ∧ u.out = [.reply port (segHead seg).code 1 (segHead seg).tag 0 1 []] ∧
        u.rd Addr.SEC_CNT_REJ = BitVec.ofNat 64 (min ((s.rd Addr.SEC_CNT_REJ).toNat + 1) (2 ^ 64 - 1)) ∧
        (∀ a, a ∉ [Addr.SEC_CNT_REJ, Addr.JRN_STATUS, Addr.MC_ERR] → u.rd a = s.rd a) ∧
        { u with dev := s.dev, jrn := s.jrn, out := s.out } = s) ∧
    (port < 3 → s.respAt port = some y → ∃ u, exec (.segmentAcknowledgement port) s = .next u ∧ u.out = [.reply port y.code 0 y.tag y.next (segCount y.body) (segBytes y.next y.body)] ∧
        u.respAt port = (if y.next + 1 = segCount y.body then none else some { y with next := y.next + 1 }) ∧
        { u with sec := s.sec, out := s.out } = s) ∧
    (port < 3 → s.respAt port = none → exec (.segmentAcknowledgement port) s = .next { s with out := [] }) ∧
    (port < 3 → s.exch port = some x → ∃ u, exec (.mgmtTimeout port) s = .next u ∧ u.exch port = none ∧
        u.out = [.reply port x.code 10 x.tag 0 1 []] ∧
        u.rd Addr.MB_CNT_TMO = BitVec.ofNat 64 (min ((s.rd Addr.MB_CNT_TMO).toNat + 1) (2 ^ 64 - 1)) ∧
        (∀ a, a ∉ [Addr.MB_CNT_TMO] → u.rd a = s.rd a) ∧
        { u with sec := s.sec, dev := s.dev, out := s.out } = s) ∧
    (port < 3 → s.exch port = none → s.respAt port = some y → ∃ u, exec (.mgmtTimeout port) s = .next u ∧ u.respAt port = none ∧
        u.rd Addr.MB_CNT_TMO = BitVec.ofNat 64 (min ((s.rd Addr.MB_CNT_TMO).toNat + 1) (2 ^ 64 - 1)) ∧
        (∀ a, a ∉ [Addr.MB_CNT_TMO] → u.rd a = s.rd a) ∧
        { u with sec := s.sec, dev := s.dev, out := s.out } = s) ∧
    (port < 3 → s.exch port = none → s.respAt port = none → exec (.mgmtTimeout port) s = .next { s with out := [] }) ∧
    (exec (.clockLowTimeout) s = .next { s with out := [] })

/-- Frames, ports and queues of the network, and the secure time unit (R478, R479, R480, R481, R484, R487, R489, R490, R491, R492). -/
def Obligations.NetworkAndSecureTime : Prop :=
  ∀ (port q t n m g ch pa cfg hd dpa : Nat) (bytes d : List Byte) (rest : List Nat) (ok two : Bool) (f : TxFrame) (dom : BitVec 8) (ident val : Word) (off : Int) (e : TaskEntry) (s : State), Quiet s →
    (port < 4 → s.fld Addr.NET_STATUS port 1 = 1 → s.fld Addr.NET_CTRL port 1 = 1 → ok = false ∨ bytes.length < 60 ∨ 9212 < bytes.length → ∃ u, exec (.frameReceive port bytes ok) s = .next u ∧ u.rd (0xF0009005000 + 0x40 * port + 8 * 1) = BitVec.ofNat 64 (min ((s.rd (0xF0009005000 + 0x40 * port + 8 * 1)).toNat + 1) (2 ^ 64 - 1)) ∧
        (∀ a, a ∉ [0xF0009005000 + 0x40 * port + 8] → u.rd a = s.rd a) ∧
        { u with dev := s.dev, out := s.out } = s) ∧
    (port < 4 → s.fld Addr.NET_STATUS port 1 = 1 → s.fld Addr.NET_CTRL port 1 = 1 → 60 ≤ bytes.length → bytes.length ≤ 9212 → etypeOf bytes = 0x8808 → ∃ u, exec (.frameReceive port bytes true) s = .next u ∧ u.rd (0xF0009005000 + 0x40 * port + 8 * 7) = BitVec.ofNat 64 (min ((s.rd (0xF0009005000 + 0x40 * port + 8 * 7)).toNat + 1) (2 ^ 64 - 1)) ∧
        (∀ a, a ∉ [0xF0009005000 + 0x40 * port + 8 * 7] → u.rd a = s.rd a) ∧
        { u with dev := s.dev, out := s.out } = s) ∧
    (port < 4 → s.fld Addr.NET_STATUS port 1 = 1 → s.fld Addr.NET_CTRL port 1 = 1 → 60 ≤ bytes.length → bytes.length ≤ 9212 → etypeOf bytes ≠ 0x8808 → q = s.steer port bytes → s.fld (Addr.NET_RXQ_CFG q) 0 1 = 0 → ∃ u, exec (.frameReceive port bytes true) s = .next u ∧ u.rd (0xF0009005000 + 0x40 * port + 8 * 4) = BitVec.ofNat 64 (min ((s.rd (0xF0009005000 + 0x40 * port + 8 * 4)).toNat + 1) (2 ^ 64 - 1)) ∧
        (∀ a, a ∉ [0xF0009005000 + 0x40 * port + 8 * 4] → u.rd a = s.rd a) ∧
        { u with dev := s.dev, arbs := s.arbs, out := s.out } = s) ∧
    (port < 4 → s.fld Addr.NET_STATUS port 1 = 1 → s.fld Addr.NET_CTRL port 1 = 1 → 60 ≤ bytes.length → bytes.length ≤ 9212 → etypeOf bytes ≠ 0x8808 → q = s.steer port bytes → s.fld (Addr.NET_RXQ_CFG q) 0 1 = 1 → s.fld (Addr.NET_RXQ_CFG q) 1 1 = 0 → s.pwr.trigger = 0 → bytes.length ≤ s.bufSize q → smGet (always []) s.rxFree q = [] → ∃ u, exec (.frameReceive port bytes true) s = .next u ∧ u.rd (0xF0009005000 + 0x40 * port + 8 * 3) = BitVec.ofNat 64 (min ((s.rd (0xF0009005000 + 0x40 * port + 8 * 3)).toNat + 1) (2 ^ 64 - 1)) ∧
        (∀ a, a ∉ [0xF0009005000 + 0x40 * port + 8 * 3] → u.rd a = s.rd a) ∧
        { u with dev := s.dev, arbs := s.arbs, out := s.out } = s) ∧
    (port < 4 → s.fld Addr.NET_STATUS port 1 = 1 → s.fld Addr.NET_CTRL port 1 = 1 → 60 ≤ bytes.length → bytes.length ≤ 9212 → etypeOf bytes ≠ 0x8808 → q = s.steer port bytes → s.fld (Addr.NET_RXQ_CFG q) 0 1 = 1 → s.fld (Addr.NET_RXQ_CFG q) 1 1 = 0 → s.pwr.trigger = 0 → bytes.length ≤ s.bufSize q → smGet (always []) s.rxFree q = pa :: rest → s.dmaCheck 3 pa bytes.length .w = none → pa + bytes.length ≤ 2 ^ 41 → s.tally.chans = [] → s.latent = [] → ch = s.fld (Addr.NET_RXQ_CFG q) 32 12 → bitsAt (s.slot ch) 20 3 = 1 → (s.slot ch).testBit 23 = true → s.evd.tasks.find? (fun x => x.1 == bitsAt (s.slot ch) 0 16) = some (bitsAt (s.slot ch) 0 16, some e) → s.fld (Addr.EVD_CHSTAT ch) 0 16 < 0xFFFF → ∃ u, exec (.frameReceive port bytes true) s = .next u ∧ u.bytesAt .dram pa bytes.length = bytes ∧
        SameBytesOutside s u pa bytes.length ∧
        smGet (always []) u.rxFree q = rest ∧
        u.rd (0xF0009005000 + 0x40 * port + 8 * 0) = BitVec.ofNat 64 (min ((s.rd (0xF0009005000 + 0x40 * port + 8 * 0)).toNat + 1) (2 ^ 64 - 1)) ∧
        u.fld (Addr.EVD_CHSTAT ch) 0 16 = s.fld (Addr.EVD_CHSTAT ch) 0 16 + 1 ∧
        (∃ l x, u.evd.posts = l ++ [x] ∧ x.chan = ch ∧ x.buf = some (q, pa) ∧ x.payload.length = 4 ∧
          x.payload.head? = some (mintCap 0x0002 0 pa (pa + bytes.length)) ∧ (x.payload.drop 1).head? = some (stampCap port s.time s.timeUnc))) ∧
    (port < 4 → s.fld Addr.NET_STATUS port 1 = 0 ∨ s.fld Addr.NET_CTRL port 1 = 0 → exec (.frameReceive port bytes ok) s = .next { s with out := [] }) ∧
    (port < 4 → s.fld Addr.NET_STATUS port 1 = 1 → ∃ u, exec (.portLinkDown port) s = .next u ∧ u.fld Addr.NET_STATUS port 1 = 0 ∧
        (s.fld Addr.NET_EVT 15 1 = 0 → ((∀ a, a ∉ [Addr.NET_STATUS] → u.rd a = s.rd a) ∧ { u with dev := s.dev, out := s.out } = s))) ∧
    (port < 4 → s.fld Addr.NET_STATUS port 1 = 0 → exec (.portLinkDown port) s = .next { s with out := [] }) ∧
    (port < 4 → s.pwrState = 1 ∨ s.pwrState = 3 → s.fld Addr.SEN_STRAP 9 2 ≠ 1 ∨ port < 2 → ∃ u, exec (.portLinkUp port) s = .next u ∧ u.fld Addr.NET_STATUS port 1 = 1 ∧
        (∀ a, a ∉ [Addr.NET_STATUS] → u.rd a = s.rd a) ∧
        { u with dev := s.dev, out := s.out } = s) ∧
    (port < 4 → s.fld Addr.SEN_STRAP 9 2 = 1 → 2 ≤ port → exec (.portLinkUp port) s = .next { s with out := [] }) ∧
    (q < 256 → s.fld (Addr.NET_RXQ_CFG q) 0 1 = 0 → val.toNat % 2 = 1 → 1 ≤ bitsAt val.toNat 16 13 → bitsAt val.toNat 16 13 ≤ 4096 → ∃ u, exec (.netRxqCfgWrite q val) s = .next u ∧ u.fld (Addr.NET_RXQ_CFG q) 0 1 = 1 ∧
        u.fld (Addr.NET_RXQ_CFG q) 16 13 = bitsAt val.toNat 16 13 ∧
        u.fld (Addr.NET_RXQ_CFG q) 32 12 = bitsAt val.toNat 32 12 ∧
        (∀ x, x ∈ smGet (always []) u.rxFree q ↔
          (∃ i, i < bitsAt val.toNat 16 13 ∧ x = s.fld (Addr.NET_RXQ_BASE q) 6 38 * 64 + i * (if bitsAt val.toNat 2 1 = 1 then 10240 else 2048)) ∧ s.bufHeld q x = false) ∧
        (∀ a, a ∉ [Addr.NET_RXQ_CFG q] → u.rd a = s.rd a) ∧
        { u with dev := s.dev, rxFree := s.rxFree, out := s.out } = s) ∧
    (q < 256 → s.fld (Addr.NET_RXQ_CFG q) 0 1 = 1 → val.toNat &&& 0xFFF1FFF0007 ≠ (s.rd (Addr.NET_RXQ_CFG q)).toNat - 1 → ∃ u, exec (.netRxqCfgWrite q val) s = .next u ∧ u.fld Addr.NET_ERR 0 1 = 1 ∧
        (∀ a, a ∉ [Addr.NET_ERR] → u.rd a = s.rd a) ∧
        { u with dev := s.dev, out := s.out } = s) ∧
    (t < 256 → ∃ u, exec (.netTxqTail t val) s = .next u ∧ u.fld (Addr.NET_TXQ_TAIL t) 0 12 = val.toNat % 4096 ∧
        (∀ a, a ∉ [Addr.NET_TXQ_TAIL t] → u.rd a = s.rd a) ∧
        { u with dev := s.dev, out := s.out } = s) ∧
    (t < 256 → cfg = (s.rd (Addr.NET_TXQ_CFG t)).toNat → cfg.testBit 0 = true → s.fld (Addr.NET_TXQ_TAIL t) 0 12 < bitsAt cfg 16 13 → hd = smGet (always 0) s.net.txHead t → hd < bitsAt cfg 16 13 → hd ≠ s.fld (Addr.NET_TXQ_TAIL t) 0 12 → dpa = s.fld (Addr.NET_TXQ_BASE t) 4 40 * 16 + 16 * hd → dpa + 16 ≤ 2 ^ 41 → d = s.bytesAt .dram dpa 16 → cfg.testBit 44 = false → s.tally.chans = [] → s.latent = [] → port = bitsAt cfg 1 2 → s.txFrames port = [] → (hd + 1) % bitsAt cfg 16 13 = s.fld (Addr.NET_TXQ_TAIL t) 0 12 → (∀ t2, t2 < 256 → t2 ≠ t → s.txPort t2 = port → s.txNext t2 = none) → s.dmaCheck 3 dpa 16 .r = none → s.dmaPoison dpa 16 = false → s.dmaCheck 3 (dpa + 11) 1 .w = none → txDescOk d = true → s.fld Addr.NET_STATUS port 1 = 1 → s.fld Addr.NET_CTRL port 1 = 1 → n = cellGet d 8 2 → s.dmaCheck 3 (cellGet d 0 8) n .r = none → s.dmaPoison (cellGet d 0 8) n = false → ∃ u, exec (.txFrameSent t) s = .next u ∧ u.out = [.frame port (s.dmaBytes (cellGet d 0 8) n)] ∧
        u.byteAt .dram (dpa + 11) = 0x80 ∧
        smGet (always 0) u.net.txHead t = (hd + 1) % bitsAt cfg 16 13 ∧
        SameBytesOutside s u (dpa + 11) 1) ∧
    (t < 256 → cfg = (s.rd (Addr.NET_TXQ_CFG t)).toNat → cfg.testBit 0 = true → s.fld (Addr.NET_TXQ_TAIL t) 0 12 < bitsAt cfg 16 13 → hd = smGet (always 0) s.net.txHead t → hd < bitsAt cfg 16 13 → hd ≠ s.fld (Addr.NET_TXQ_TAIL t) 0 12 → dpa = s.fld (Addr.NET_TXQ_BASE t) 4 40 * 16 + 16 * hd → dpa + 16 ≤ 2 ^ 41 → d = s.bytesAt .dram dpa 16 → cfg.testBit 44 = false → s.tally.chans = [] → s.latent = [] → port = bitsAt cfg 1 2 → s.txFrames port = [] → (hd + 1) % bitsAt cfg 16 13 = s.fld (Addr.NET_TXQ_TAIL t) 0 12 → (∀ t2, t2 < 256 → t2 ≠ t → s.txPort t2 = port → s.txNext t2 = none) → s.dmaCheck 3 dpa 16 .r = none → s.dmaPoison dpa 16 = false → s.dmaCheck 3 (dpa + 11) 1 .w = none → txDescOk d = false → ∃ u, exec (.txFrameSent t) s = .next u ∧ u.byteAt .dram (dpa + 11) = 0x84 ∧
        smGet (always 0) u.net.txHead t = (hd + 1) % bitsAt cfg 16 13 ∧
        SameBytesOutside s u (dpa + 11) 1) ∧
    (t < 256 → s.txFrames (s.txPort t) = [] → (∀ t2, t2 < 256 → s.txPort t2 = s.txPort t → s.txNext t2 = none) → ∃ u, exec (.txFrameSent t) s = .next u ∧ u.out = [] ∧
        { u with arbs := s.arbs, out := s.out } = s) ∧
    (port < 4 → s.timeTakes port dom.toNat = true → s.gmIndex ident.toNat = some g → s.fld Addr.TIME_STATUS 0 2 = 0 → (s.time : Int) < (n : Int) + s.net.delay → ∃ u, exec (.sync port dom ident n false) s = .next u ∧ (u.time : Int) = (n : Int) + s.net.delay ∧
        u.fld Addr.TIME_STATUS 0 2 = 1 ∧
        u.fld Addr.TIME_STATUS 3 1 = 1 ∧
        u.fld Addr.TIME_STATUS 4 2 = g ∧
        u.fld Addr.TIME_STATUS 16 32 = 0 ∧
        u.net.lastSync = some (n, s.time) ∧
        (∀ a, a ∉ [Addr.TIME_STATUS] → u.rd a = s.rd a) ∧
        { u with dev := s.dev, net := s.net, time := s.time, out := s.out } = s) ∧
    (port < 4 → s.timeTakes port dom.toNat = true → s.gmIndex ident.toNat = some g → s.fld Addr.TIME_STATUS 0 2 ≠ 0 → off = (n : Int) + s.net.delay - s.time → ∃ u, exec (.sync port dom ident n false) s = .next u ∧ u.time = s.time ∧
        u.fld Addr.TIME_STATUS 0 2 = (if s.fld Addr.TIME_LIM 0 16 < off.natAbs then 2 else 1) ∧
        u.fld Addr.TIME_STATUS 4 2 = g ∧
        u.fld Addr.TIME_STATUS 16 32 = offsetField off ∧
        u.net.lastSync = some (n, s.time) ∧
        (∀ a, a ∉ [Addr.TIME_STATUS] → u.rd a = s.rd a) ∧
        { u with dev := s.dev, net := s.net, out := s.out } = s) ∧
    (port < 4 → s.timeTakes port dom.toNat = true → s.gmIndex ident.toNat = some g → ∃ u, exec (.sync port dom ident n true) s = .next u ∧ u.net = { s.net with syncAt := some s.time } ∧
        { u with net := s.net, out := s.out } = s) ∧
    (port < 4 → s.timeTakes port dom.toNat = true → s.gmIndex ident.toNat = none → ∃ u, exec (.sync port dom ident n two) s = .next u ∧ u.fld Addr.TIME_ERR 1 1 = 1 ∧
        (∀ a, a ∉ [Addr.TIME_ERR] → u.rd a = s.rd a) ∧
        { u with dev := s.dev, out := s.out } = s) ∧
    (port < 4 → s.timeTakes port dom.toNat = false → exec (.sync port dom ident n two) s = .next { s with out := [] }) ∧
    (port < 4 → s.timeTakes port dom.toNat = true → s.gmIndex ident.toNat = some g → s.net.syncAt = some t → s.fld Addr.TIME_STATUS 0 2 ≠ 0 → off = (n : Int) + s.net.delay - t → ∃ u, exec (.followUp port dom ident n) s = .next u ∧ u.net.lastSync = some (n, t) ∧
        u.net.syncAt = none ∧
        u.time = s.time ∧
        u.fld Addr.TIME_STATUS 16 32 = offsetField off ∧
        (∀ a, a ∉ [Addr.TIME_STATUS] → u.rd a = s.rd a) ∧
        { u with dev := s.dev, net := s.net, out := s.out } = s) ∧
    (port < 4 → s.timeTakes port dom.toNat = true → s.gmIndex ident.toNat = some g → s.net.lastSync = some (t, q) → ∃ u, exec (.delayResp port dom ident n m) s = .next u ∧ u.net = { s.net with delay := ((((q : Int) - t) + ((m : Int) - n)) / 2).toNat } ∧
        { u with net := s.net, out := s.out } = s) ∧
    (s.fld Addr.TIME_STATUS 0 2 = 1 ∨ s.fld Addr.TIME_STATUS 0 2 = 2 → ∃ u, exec (.holdover) s = .next u ∧ u.fld Addr.TIME_STATUS 0 2 = 3 ∧
        u.fld Addr.TIME_ERR 2 1 = 1 ∧
        (∀ a, a ∉ [Addr.TIME_STATUS, Addr.TIME_ERR] → u.rd a = s.rd a) ∧
        { u with dev := s.dev, out := s.out } = s) ∧
    (s.fld Addr.TIME_STATUS 0 2 = 0 ∨ s.fld Addr.TIME_STATUS 0 2 = 3 → exec (.holdover) s = .next { s with out := [] }) ∧
    (s.fld Addr.TIME_STATUS 0 2 = 3 → ∃ u, exec (.timeUncertain) s = .next u ∧ u.fld Addr.TIME_STATUS 2 1 = 1 ∧
        (∀ a, a ∉ [Addr.TIME_STATUS] → u.rd a = s.rd a) ∧
        { u with dev := s.dev, out := s.out } = s) ∧
    (s.fld Addr.TIME_STATUS 0 2 ≠ 3 → exec (.timeUncertain) s = .next { s with out := [] }) ∧
    (t < 256 → port = s.txPort t → s.fld Addr.NET_STATUS port 1 = 1 → s.fld Addr.NET_CTRL port 1 = 1 → (∀ t2, t2 < 256 → s.txPort t2 = port → s.txNext t2 = none) → s.txFirst port = some f → f.desc + 11 < 2 ^ 41 → s.dmaCheck 3 (f.desc + 11) 1 .w = none → s.tally.chans = [] → s.latent = [] → s.fld (Addr.NET_TXQ_CFG f.queue) 44 1 = 0 → ∃ u, exec (.txFrameSent t) s = .next u ∧ u.out = [.frame port f.bytes] ∧
        u.txFrames port = (s.txFrames port).erase f ∧
        u.byteAt .dram (f.desc + 11) = 0x80 ∧
        SameBytesOutside s u (f.desc + 11) 1)

/-- Doorbells, completions, deliveries, BAR0 writes and the PCI Express link (R493, R496, R497, R498, R499, R500, R501, R522). -/
def Obligations.HostInterface : Prop :=
  ∀ (h q dpa pa n off : Nat) (val : Word) (en d : List Byte) (msg : Option (List Byte)) (msgs : List (List Byte × Option (List Byte))) (width : BitVec 6) (speed : BitVec 4) (s : State), Quiet s →
    (h < 16 → s.fld Addr.PCI_STATUS 0 1 = 1 → s.fld Addr.PCI_CTRL 0 1 = 1 → (s.hb (hbSqCfg h)).testBit 0 = true → val.toNat < s.sqSize h → val.toNat < 4096 → s.bells h = [] → s.hb (hbSqHead h) ≠ val.toNat → ∃ u, exec (.hbSqDb h val []) s = .next u ∧ u.bells h = [⟨val.toNat, s.time, s.timeUnc⟩] ∧
        { u with net := s.net, arbs := s.arbs, out := s.out } = s) ∧
    (h < 16 → s.fld Addr.PCI_STATUS 0 1 = 1 → s.fld Addr.PCI_CTRL 0 1 = 1 → (s.hb (hbSqCfg h)).testBit 0 = true → val.toNat < s.sqSize h → val.toNat < 4096 → s.bells h = [] → s.hb (hbSqHead h) ≠ val.toNat → (s.cqRing h).written < (s.cqRing h).consumed + s.sqSize h → en.length = 32 → cellGet en 8 4 = 0 ∨ 9216 < cellGet en 8 4 → ∃ u, exec (.hbSqDb h val [(en, msg)]) s = .next u ∧ smGet (always ⟨0, 0⟩) u.net.cq h = ⟨(s.cqRing h).written + 1, (s.cqRing h).consumed⟩ ∧
        u.hb (hbSqHead h) = (s.hb (hbSqHead h) + 1) % s.sqSize h ∧
        (∃ bs, bs.length = 16 ∧ (bs.drop 10).take 1 = [1] ∧ Emit.hostWrite (s.hb (hbCqBase h) + 16 * ((s.cqRing h).written % s.sqSize h)) bs ∈ u.out) ∧
        u.mem = s.mem) ∧
    (h < 16 → s.fld Addr.PCI_STATUS 0 1 = 1 → 4096 ≤ val.toNat → ∃ u, exec (.hbSqDb h val msgs) s = .next u ∧ u.hb hbStatusOff / 256 % 2 = 1 ∧
        { u with net := s.net, out := s.out } = s) ∧
    (h < 16 → s.fld Addr.PCI_STATUS 0 1 = 1 → val.toNat < 4096 → s.fld Addr.PCI_CTRL 0 1 = 0 ∨ (s.hb (hbSqCfg h)).testBit 0 = false ∨ s.sqSize h ≤ val.toNat → ∃ u, exec (.hbSqDb h val msgs) s = .next u ∧ u.rd Addr.PCI_CNT_BADW = BitVec.ofNat 64 (min ((s.rd Addr.PCI_CNT_BADW).toNat + 1) (2 ^ 64 - 1)) ∧
        (∀ a, a ∉ [Addr.PCI_CNT_BADW] → u.rd a = s.rd a) ∧
        { u with dev := s.dev, out := s.out } = s) ∧
    (h < 16 → s.fld Addr.PCI_STATUS 0 1 = 0 → exec (.hbSqDb h val msgs) s = .next { s with out := [] }) ∧
    (h < 16 → s.fld Addr.PCI_STATUS 0 1 = 1 → val.toNat < 4096 → val.toNat < s.sqSize h → s.bells h = [] → ∃ u, exec (.hbCqHead h val []) s = .next u ∧ smGet (always ⟨0, 0⟩) u.net.cq h = (s.cqRing h).consume (s.sqSize h) val.toNat ∧
        { u with net := s.net, out := s.out } = s) ∧
    (h < 16 → s.fld Addr.PCI_STATUS 0 1 = 1 → val.toNat < 4096 → val.toNat < s.drSlots h → ∃ u, exec (.hbDrHead h val) s = .next u ∧ u.drRing h = (s.drRing h).consume (s.drSlots h) val.toNat ∧
        { u with net := s.net, out := s.out } = s) ∧
    (s.fld Addr.PCI_STATUS 0 1 = 1 → h < 16 → off = hbSqBase h → val.toNat % 64 = 0 → ∃ u, exec (.hostBar0Write off val) s = .next u ∧ u.hb off = val.toNat ∧
        (∀ x, x ≠ off → u.hb x = s.hb x) ∧
        { u with net := s.net, out := s.out } = s) ∧
    (s.fld Addr.PCI_STATUS 0 1 = 1 → h < 16 → off = hbSqCfg h → val.toNat &&& 0xFFF1 = val.toNat → (s.hb off).testBit 0 = false → val.toNat % 2 = 1 → ∃ u, exec (.hostBar0Write off val) s = .next u ∧ u.hb off = val.toNat ∧
        u.hb (hbSqHead h) = 0 ∧
        u.bells h = [] ∧
        smGet (always ⟨0, 0⟩) u.net.cq h = ⟨0, 0⟩ ∧
        { u with net := s.net, out := s.out } = s) ∧
    (s.fld Addr.PCI_STATUS 0 1 = 1 → h < 16 → off = hbDrBase h → val.toNat % 4096 ≠ 0 → ∃ u, exec (.hostBar0Write off val) s = .next u ∧ u.hb off = val.toNat / 4096 * 4096 ∧
        u.hb hbStatusOff / 256 % 2 = 1 ∧
        { u with net := s.net, out := s.out } = s) ∧
    (s.fld Addr.PCI_STATUS 0 1 = 1 → 0x400 ≤ off → off < 0x1000 → ∃ u, exec (.hostBar0Write off val) s = .next u ∧ u.rd Addr.PCI_CNT_BADW = BitVec.ofNat 64 (min ((s.rd Addr.PCI_CNT_BADW).toNat + 1) (2 ^ 64 - 1)) ∧
        (∀ a, a ∉ [Addr.PCI_CNT_BADW] → u.rd a = s.rd a) ∧
        { u with dev := s.dev, out := s.out } = s) ∧
    (s.fld Addr.PCI_STATUS 0 1 = 0 → exec (.hostBar0Write off val) s = .next { s with out := [] }) ∧
    (q < 16 → ∃ u, exec (.pciSqTail q val) s = .next u ∧ u.fld (Addr.PCI_SQ_TAIL q) 0 12 = val.toNat % 4096 ∧
        (∀ a, a ∉ [Addr.PCI_SQ_TAIL q] → u.rd a = s.rd a) ∧
        { u with dev := s.dev, out := s.out } = s) ∧
    (q < 16 → s.sendNext q = some dpa → dpa + 16 ≤ 2 ^ 41 → d = s.bytesAt .dram dpa 16 → s.fld (Addr.PCI_SQ_CFG q) 44 1 = 0 → s.tally.chans = [] → s.latent = [] → s.fld Addr.PCI_STATUS 0 1 = 1 → s.fld Addr.PCI_CTRL 0 1 = 1 → s.dmaCheck 4 dpa 16 .r = none → s.dmaPoison dpa 16 = false → s.dmaCheck 4 (dpa + 11) 1 .w = none → s.sendDescOk d = true → pa = cellGet d 0 8 → n = cellGet d 8 2 → h = cellGet d 10 1 % 16 → s.dmaCheck 4 pa n .r = none → s.dmaPoison pa n = false → (s.drRing h).written < (s.drRing h).consumed + s.drSlots h → ∃ u, exec (.hostDelivery q) s = .next u ∧ Emit.hostWrite (s.hb (hbDrBase h) + s.drSlotSize h * ((s.drRing h).written % s.drSlots h) + 16) (s.dmaBytes pa n) ∈ u.out ∧
        u.drRing h = ⟨(s.drRing h).written + 1, (s.drRing h).consumed⟩ ∧
        u.hb (hbDrTail h) = ((s.drRing h).written + 1) % s.drSlots h ∧
        u.byteAt .dram (dpa + 11) = 0x80 ∧
        smGet (always 0) u.net.sqHead q = (smGet (always 0) s.net.sqHead q + 1) % s.fld (Addr.PCI_SQ_CFG q) 16 13 ∧
        SameBytesOutside s u (dpa + 11) 1) ∧
    (q < 16 → s.sendNext q = some dpa → dpa + 16 ≤ 2 ^ 41 → d = s.bytesAt .dram dpa 16 → s.fld (Addr.PCI_SQ_CFG q) 44 1 = 0 → s.tally.chans = [] → s.latent = [] → s.fld Addr.PCI_STATUS 0 1 = 1 → s.fld Addr.PCI_CTRL 0 1 = 1 → s.dmaCheck 4 dpa 16 .r = none → s.dmaPoison dpa 16 = false → s.dmaCheck 4 (dpa + 11) 1 .w = none → s.sendDescOk d = false → ∃ u, exec (.hostDelivery q) s = .next u ∧ u.byteAt .dram (dpa + 11) = 0x84 ∧
        smGet (always 0) u.net.sqHead q = (smGet (always 0) s.net.sqHead q + 1) % s.fld (Addr.PCI_SQ_CFG q) 16 13 ∧
        SameBytesOutside s u (dpa + 11) 1) ∧
    (q < 16 → s.sendNext q = none → exec (.hostDelivery q) s = .next { s with out := [] }) ∧
    (q < 16 → s.sendNext q = some dpa → dpa + 16 ≤ 2 ^ 41 → d = s.bytesAt .dram dpa 16 → s.fld (Addr.PCI_SQ_CFG q) 44 1 = 0 → s.tally.chans = [] → s.latent = [] → s.fld Addr.PCI_STATUS 0 1 = 1 → s.fld Addr.PCI_CTRL 0 1 = 1 → s.dmaCheck 4 dpa 16 .r = none → s.dmaPoison dpa 16 = false → s.dmaCheck 4 (dpa + 11) 1 .w = none → s.sendDescOk d = true → h = cellGet d 10 1 % 16 → (s.drRing h).consumed + s.drSlots h ≤ (s.drRing h).written → ∃ u, exec (.deliveryRingStall q) s = .next u ∧ u.byteAt .dram (dpa + 11) = 0x85 ∧
        smGet (always 0) u.net.sqHead q = (smGet (always 0) s.net.sqHead q + 1) % s.fld (Addr.PCI_SQ_CFG q) 16 13) ∧
    (q < 16 → s.sendNext q = none → exec (.deliveryRingStall q) s = .next { s with out := [] }) ∧
    (s.fld Addr.PCI_STATUS 0 1 = 1 → (∀ k, k < 16 → s.sendNext k = none) → (∀ k, k < 16 → s.bells k = []) → ∃ u, exec (.pcieLinkDown) s = .next u ∧ u.fld Addr.PCI_STATUS 0 1 = 0 ∧
        u.fld Addr.PCI_ERR 3 1 = 1 ∧
        (s.fld Addr.NET_EVT 15 1 = 0 → ((∀ a, a ∉ [Addr.PCI_STATUS, Addr.PCI_ERR] → u.rd a = s.rd a) ∧ { u with dev := s.dev, out := s.out } = s))) ∧
    (s.fld Addr.PCI_STATUS 0 1 = 1 → q < 16 → s.bells q ≠ [] → ∃ u, exec (.pcieLinkDown) s = .next u ∧ u.fld Addr.PCI_STATUS 0 1 = 0 ∧
        (∀ k, k < 16 → u.bells k = [])) ∧
    (s.fld Addr.PCI_STATUS 0 1 = 0 → exec (.pcieLinkDown) s = .next { s with out := [] }) ∧
    (s.pwrState = 1 ∨ s.pwrState = 3 → ∃ u, exec (.pcieLinkUp width speed) s = .next u ∧ u.fld Addr.PCI_STATUS 0 1 = 1 ∧
        u.fld Addr.PCI_STATUS 1 5 = width.toNat % 32 ∧
        u.fld Addr.PCI_STATUS 6 3 = speed.toNat % 8 ∧
        (∀ a, a ∉ [Addr.PCI_STATUS] → u.rd a = s.rd a) ∧
        { u with dev := s.dev, out := s.out } = s)

/-- Links, flits, heartbeats, takeover, joining, forwarding and DMA of the Cuwen Link (R382, R383, R385, R503, R504, R505, R506, R508, R509, R510, R511, R513). -/
def Obligations.CuwenLinkOperations : Prop :=
  ∀ (l n p pb t cd off a fl gn : Nat) (gen tag : BitVec 32) (slot : BitVec 6) (stat : BitVec 8) (val seq : Word) (b body hash : List Byte) (r : JReq) (ok : Bool) (s : State), Quiet s →
    (l < 2 → s.lnkUp l = false → s.fld Addr.CWL_CTRL l 1 = 1 → s.standby = false → s.pwrState = 1 ∨ s.pwrState = 3 → ∃ u, exec (.cwlLinkUp l false gen slot) s = .next u ∧ u.lnkUp l = true ∧
        u.lnk l = linkReset ∧
        u.fld Addr.CWL_STATUS 3 1 = 1 ∧
        u.cwl.partnerGen = gen.toNat ∧
        u.jrn.sent = min s.jrn.sent (s.rd Addr.JRN_PACK_SEQ).toNat ∧
        (∀ a, a ∉ [Addr.CWL_STATUS, Addr.JRN_REPL_STATUS] → u.rd a = s.rd a) ∧
        { u with dev := s.dev, cwl := s.cwl, jrn := s.jrn, out := s.out } = s) ∧
    (l < 2 → s.lnkUp l = false → s.fld Addr.CWL_CTRL l 1 = 1 → s.standby = false → s.pwrState = 1 ∨ s.pwrState = 3 → s.keys.takeGen < gen.toNat → ∃ u, exec (.cwlLinkUp l true gen slot) s = .next u ∧ u.lnkUp l = true ∧
        u.standby = true ∧
        u.fld Addr.CWL_ERR 2 1 = 1 ∧
        u.cwl.partnerGen = gen.toNat) ∧
    (l < 2 → s.lnkUp l = true ∨ s.fld Addr.CWL_CTRL l 1 = 0 → exec (.cwlLinkUp l true gen slot) s = .next { s with out := [] }) ∧
    (l < 2 → s.lnkUp l = true → ∃ u, exec (.cwlLinkDown l) s = .next u ∧ u.lnkUp l = false ∧
        u.fld Addr.CWL_ERR 1 1 = 1 ∧
        (∀ c, c < 4 → smGet (always []) u.cwl.part (l * 4 + c) = []) ∧
        (s.lnkUp (1 - l) = false → u.fld Addr.CWL_STATUS 2 1 = 0)) ∧
    (l < 2 → s.lnkUp l = false → exec (.cwlLinkDown l) s = .next { s with out := [] }) ∧
    (l < 2 → s.lnkUp l = true → b.length = 128 → cellGet b 0x7C 4 = crc32 (b.take 0x7C) → cellGet b 0 1 = 0 → cellGet b 2 2 = (s.lnk l).rxSeq → (s.lnk l).wait = [] → s.cwl.detached = false → ∃ u, exec (.flit l b) s = .next u ∧ (u.lnk l).rxSeq = ((s.lnk l).rxSeq + 1) % 0x10000 ∧
        u.fld Addr.CWL_STATUS 2 1 = 1 ∧
        (∀ a, a ∉ [Addr.CWL_STATUS] → u.rd a = s.rd a) ∧
        { u with dev := s.dev, cwl := s.cwl, out := s.out } = s) ∧
    (l < 2 → s.lnkUp l = true → b.length = 128 → cellGet b 0x7C 4 = crc32 (b.take 0x7C) → cellGet b 0 1 = 1 → cellGet b 2 2 = (s.lnk l).rxSeq → (s.lnk l).wait = [] → fl = cellGet b 1 1 → fl.testBit 5 = false → ∃ u, exec (.flit l b) s = .next u ∧ (u.lnk l).rxSeq = ((s.lnk l).rxSeq + 1) % 0x10000 ∧
        smGet (always []) u.cwl.part (l * 4 + fl % 4) = (if fl.testBit 4 then [] else smGet (always []) s.cwl.part (l * 4 + fl % 4)) ++ cut 12 (cellGet b 10 2) b ∧
        (∀ a, a ∉ [Addr.CWL_STATUS] → u.rd a = s.rd a) ∧
        { u with dev := s.dev, cwl := s.cwl, out := s.out } = s) ∧
    (l < 2 → s.lnkUp l = false ∨ b.length ≠ 128 ∨ cellGet b 0x7C 4 ≠ crc32 (b.take 0x7C) ∨ cellGet b 2 2 ≠ (s.lnk l).rxSeq → exec (.flit l b) s = .next { s with out := [] }) ∧
    (l < 2 → s.lnkUp l = true → (s.lnk l).kept ≠ [] → (s.lnk l).replays < 7 → ∃ u, exec (.flitReplay l) s = .next u ∧ u.lnk l = { s.lnk l with replays := (s.lnk l).replays + 1 } ∧
        u.out = (s.lnk l).kept.map (fun e => Emit.flit l (flitBytes e.2 e.1 (s.lnk l).ack [0, 0, 0, 0])) ∧
        (∀ a, a ∉ [Addr.CWL_CNT_REPLAY0, Addr.CWL_CNT_REPLAY1] → u.rd a = s.rd a) ∧
        { u with dev := s.dev, cwl := s.cwl, out := s.out } = s) ∧
    (l < 2 → s.lnkUp l = true → (s.lnk l).kept ≠ [] → 7 ≤ (s.lnk l).replays → ∃ u, exec (.flitReplay l) s = .next u ∧ u.lnkUp l = false ∧
        u.fld Addr.CWL_ERR 1 1 = 1) ∧
    (l < 2 → (s.lnk l).kept = [] → exec (.flitReplay l) s = .next { s with out := [] }) ∧
    (s.lnkUp 0 = true → s.lnkUp 1 = false → (s.lnk 0).wait = [] → (s.lnk 0).kept.length < 1024 → ∃ u, exec (.heartbeatSend) s = .next u ∧ (u.lnk 0).txSeq = ((s.lnk 0).txSeq + 1) % 0x10000 ∧
        (u.lnk 0).kept = (s.lnk 0).kept ++ [((s.lnk 0).txSeq, ⟨2, 0, s.heartbeatBytes⟩)] ∧
        (∃ b, b.length = 128 ∧ u.out = [.flit 0 b] ∧ b.take 2 = [2, 0]) ∧
        { u with cwl := s.cwl, out := s.out } = s) ∧
    (s.lnkUp 0 = false → s.lnkUp 1 = false → exec (.heartbeatSend) s = .next { s with out := [] }) ∧
    (l < 2 → s.lnkUp l = true → s.cwl.detached = false → ∃ u, exec (.heartbeat l body) s = .next u ∧ u.fld Addr.CWL_STATUS 2 1 = 1 ∧
        u.fld Addr.CWL_STATUS 3 1 = cellGet body 8 1 % 2 ∧
        u.cwl = { s.cwl with partnerId := cellGet body 0 8, partnerGen := cellGet body 12 4, partnerHead := cellGet body 16 8, partnerDur := cellGet body 24 8 } ∧
        (∀ a, a ∉ [Addr.CWL_STATUS] → u.rd a = s.rd a) ∧
        { u with dev := s.dev, cwl := s.cwl, out := s.out } = s) ∧
    (l < 2 → s.lnkUp l = false → exec (.heartbeat l body) s = .next { s with out := [] }) ∧
    (s.fld Addr.CWL_STATUS 2 1 = 1 → s.standby = true → ∃ u, exec (.partnerLoss) s = .next u ∧ u.fld Addr.CWL_STATUS 2 1 = 0 ∧
        u.jrn = s.jrn ∧
        (s.fld Addr.CWL_EVT 15 1 = 0 → ((∀ a, a ∉ [Addr.CWL_STATUS] → u.rd a = s.rd a) ∧ { u with dev := s.dev, out := s.out } = s))) ∧
    (s.fld Addr.CWL_STATUS 2 1 = 1 → s.standby = false → s.jrn.mode ≠ 2 → s.fld Addr.JRN_REPL_STATUS 1 3 ≠ 5 → ∃ u, exec (.partnerLoss) s = .next u ∧ u.fld Addr.CWL_STATUS 2 1 = 0 ∧
        u.fld Addr.JRN_REPL_STATUS 1 3 = 0 ∧
        u.jrn = s.jrn) ∧
    (s.fld Addr.CWL_STATUS 2 1 = 0 → exec (.partnerLoss) s = .next { s with out := [] }) ∧
    (s.standby = true → s.fld Addr.CWL_CTRL 2 1 = 1 → s.fld Addr.CWL_STATUS 2 1 = 0 → s.fld Addr.JRN_REPL_STATUS 1 3 = 2 → ∃ u, exec (.autoTakeover) s = .next u ∧ u.standby = false ∧
        u.keys.takeGen = (s.keys.takeGen + 1) % 2 ^ 32 ∧
        (∃ r l, u.jrn.queue = r :: l ∧ r.typ = 0xF006)) ∧
    (s.standby = false ∨ s.fld Addr.CWL_CTRL 2 1 = 0 ∨ s.fld Addr.CWL_STATUS 2 1 = 1 ∨ s.fld Addr.JRN_REPL_STATUS 1 3 ≠ 2 → exec (.autoTakeover) s = .next { s with out := [] }) ∧
    (s.standby = true ∨ gen.toNat ≤ s.keys.takeGen → ∃ u, exec (.cwlTakeover gen) s = .next u ∧ u.fld Addr.CWL_STATUS 3 1 = 0 ∧
        u.cwl = { s.cwl with partnerGen := gen.toNat } ∧
        u.standby = s.standby ∧
        (∀ a, a ∉ [Addr.CWL_STATUS] → u.rd a = s.rd a) ∧
        { u with dev := s.dev, cwl := s.cwl, out := s.out } = s) ∧
    (s.standby = false → s.keys.takeGen < gen.toNat → ∃ u, exec (.cwlTakeover gen) s = .next u ∧ u.standby = true ∧
        u.fld Addr.CWL_ERR 2 1 = 1) ∧
    (s.standby = false → ∃ u, exec (.joinReq val seq hash) s = .next u ∧ (∃ r, u.jrn.queue = s.jrn.queue ++ [r] ∧ r.typ = 0xF007 ∧ r.payload.take 16 = natBytes 8 val.toNat ++ natBytes 8 seq.toNat) ∧
        u.jrn.sent = (s.rd Addr.JRN_ARCH_SEQ).toNat ∧
        u.fld Addr.JRN_REPL_STATUS 1 3 = 1 ∧
        Emit.link 3 0 (if s.onChain seq.toNat hash = true then 0 else 2) [] ∈ u.out ∧
        u.jrn.joined = true ∧
        u.rd Addr.JRN_PACK_SEQ = s.rd Addr.JRN_ARCH_SEQ) ∧
    (s.standby = true → exec (.joinReq val seq hash) s = .next { s with out := [] }) ∧
    (s.standby = true → s.cwl.detached = false → ∃ u, exec (.joinResp 0) s = .next u ∧ u.jrn.ring = [] ∧
        u.jrn.rejoin = true ∧
        u.fld Addr.JRN_REPL_STATUS 1 3 = 1 ∧
        u.rd Addr.JRN_ARCH_OFF = s.rd Addr.JRN_HEAD_OFF ∧
        u.keys.takeGen = s.cwl.partnerGen % 2 ^ 32) ∧
    (s.standby = true → ∃ u, exec (.joinResp 1) s = .next u ∧ u.fld Addr.JRN_REPL_STATUS 1 3 = 3 ∧
        u.jrn = s.jrn) ∧
    (s.standby = false → exec (.joinResp n) s = .next { s with out := [] }) ∧
    (s.fld Addr.CWL_STATUS 2 1 = 0 → s.standby = false → ∃ u, exec (.cwlDetach) s = .next u ∧ u.cwl = { s.cwl with detached := true } ∧
        { u with cwl := s.cwl, out := s.out } = s) ∧
    (s.fld Addr.CWL_STATUS 2 1 = 0 → s.standby = true → s.cwl.partnerDur ≤ (s.rd Addr.JRN_DUR_SEQ).toNat → ∃ u, exec (.cwlDetach) s = .next u ∧ u.standby = false ∧
        u.keys.takeGen = (s.keys.takeGen + 1) % 2 ^ 32 ∧
        u.cwl.detached = true) ∧
    (s.standby = false → s.jrn.replies.find? (fun r => r.1 == tag.toNat) = none → s.jrn.queue = [] → (∀ e ∈ s.jrn.ring, e.issuers.contains (.remote tag.toNat) = false) → ∃ u, exec (.fwdReq tag body) s = .next u ∧ (∃ r, u.jrn.queue = [r] ∧ r.issuer = .remote tag.toNat ∧ r.src = bytesNat (body.take 2) ∧ r.typ = bytesNat ((body.drop 2).take 2) ∧ r.payload = (body.drop 8).take (bytesNat ((body.drop 4).take 4))) ∧
        u.rd Addr.JRN_CNT_FWD = BitVec.ofNat 64 (min ((s.rd Addr.JRN_CNT_FWD).toNat + 1) (2 ^ 64 - 1)) ∧
        (∀ a, a ∉ [Addr.JRN_CNT_FWD, Addr.JRN_STATUS] → u.rd a = s.rd a) ∧
        { u with jrn := s.jrn, dev := s.dev, out := s.out } = s) ∧
    (s.standby = false → s.jrn.replies.find? (fun r => r.1 == tag.toNat) = some (tag.toNat, ok, n) → ∃ u, exec (.fwdReq tag body) s = .next u ∧ Emit.link (if ok then 0x21 else 0x22) tag.toNat n [] ∈ u.out ∧
        { u with cwl := s.cwl, out := s.out } = s) ∧
    (s.standby = true → exec (.fwdReq tag body) s = .next { s with out := [] }) ∧
    (s.fwdOf tag.toNat = some r → r.issuer = .bank p pb t gn → (s.pair p).gen = gn → (s.pair p).halt = none → (s.bank p pb).task.getD 0 = t → (s.bank p pb).st = .waiting → (s.bank p pb).waitCd = some cd → 1 ≤ cd → ∃ u, exec (.fwdReceipt tag seq) s = .next u ∧ (u.bank p pb).reg cd = receiptCap seq.toNat ∧
        u.fwdOf tag.toNat = none) ∧
    (s.fwdOf tag.toNat = none → exec (.fwdReceipt tag seq) s = .next { s with out := [] }) ∧
    (s.fwdOf tag.toNat = some r → r.issuer = .bank p pb t gn → (s.pair p).gen = gn → (s.bank p pb).task.getD 0 = t → (s.pair p).halt = none → (s.bank p pb).st = .waiting → (s.bank p pb).waitCd = some cd → 1 ≤ cd → ∃ u, exec (.fwdStatus tag stat) s = .next u ∧ (u.bank p pb).reg cd = intCap (stat.setWidth 64) ∧
        u.fwdOf tag.toNat = none) ∧
    (s.fwdOf tag.toNat = none → exec (.fwdStatus tag stat) s = .next { s with out := [] }) ∧
    (s.fld Addr.CWL_WIN 44 20 * 4096 < off + body.length → ∃ u, exec (.cwlWrite tag off body) s = .next u ∧ u.fld Addr.CWL_ERR 3 1 = 1 ∧
        Emit.link 0x31 tag.toNat 1 [] ∈ u.out ∧
        SameMemory s u ∧
        (∀ a, a ∉ [Addr.CWL_ERR] → u.rd a = s.rd a) ∧
        { u with dev := s.dev, cwl := s.cwl, arbs := s.arbs, out := s.out } = s) ∧
    (off + body.length ≤ s.fld Addr.CWL_WIN 44 20 * 4096 → a = s.fld Addr.CWL_WIN 12 32 * 4096 + off → s.dmaCheck 5 a body.length .w = none → a + body.length ≤ 2 ^ 41 → s.tally.chans = [] → s.latent = [] → ∃ u, exec (.cwlWrite tag off body) s = .next u ∧ u.bytesAt .dram a body.length = body ∧
        SameBytesOutside s u a body.length ∧
        Emit.link 0x31 tag.toNat 0 [] ∈ u.out ∧
        (∀ g, a ≤ g → g < a + body.length → u.tagAt .dram g = false)) ∧
    (∃ u, exec (.writeDone n) s = .next u ∧ u.cwl = { s.cwl with lastDone := n } ∧
        { u with cwl := s.cwl, out := s.out } = s) ∧
    (s.fld Addr.CWL_EVT 15 1 = 1 → ∃ u, exec (.cwlPost val) s = .next u ∧ smGet (always 0) u.evd.notice (s.fld Addr.CWL_EVT 0 12) = BitVec.ofNat 64 (val.toNat / 65536 * 65536 + 0x0406)) ∧
    (s.fld Addr.CWL_EVT 15 1 = 0 → exec (.cwlPost val) s = .next { s with out := [] })

/-- A syllable encoded in its word and extension decodes to itself, whatever its operands and predicate (R102, R106, R132). -/
def Obligations.SyllablesDecodeFromTheirWords : Prop :=
  ∀ (i : Instr) (last : Bool) (ps : PredIx) (inv : Bool) (w : Nat) (x : Option (BitVec 23)),
    encodeSyl i last ps inv = some (w, x) →
    decodeSyl (sylPair i) w x = some i ∧ w < 2 ^ 32 ∧ w.testBit 31 = last ∧ bitsAt w 28 3 = ps.toNat ∧ w.testBit 27 = inv

/-- Words written out from the encoding tables decode to the syllables they stand for (R102, R103, R106, R132, R138, R139). -/
def Obligations.SyllableWordsOfTheSpec : Prop :=
  decodeSyl 5 0x820110C1 none = some (.sub 5 1 2 3) ∧
    decodeSyl 5 0x840110C1 none = some (.sub 5 1 2 3) ∧
    decodeSyl 5 0x8227424C none = some (.div 5 7 8 9) ∧
    decodeSyl 5 0x80C4283F none = some (.ld 5 4 5 (.short 0x3F)) ∧
    decodeSyl 5 0x80C4283F (some 0x7FFFFF) = some (.ld 5 4 5 (.ext 0x1FFFFFFF)) ∧
    decodeSyl 5 0x819FF002 none = some (.csc 5 31 30 (.short 2)) ∧
    decodeSyl 5 0x81A110D3 none = some (.sccC 5 1 2 3) ∧
    decodeSyl 5 0x81C63A03 none = some (.csetbounds 5 6 7 8) ∧
    decodeSyl 5 0x81C952E8 none = some (.japp 5 9 10 11) ∧
    decodeSyl 5 0x82E32162 none = some (.compare 5 3 4 2 4 5) ∧
    decodeSyl 5 0x82C320BF none = some (.srai 5 3 4 0x3F) ∧
    decodeSyl 5 0x8300003E none = some (.br 5 (.short 0x3E)) ∧
    decodeSyl 5 0x83806000 none = some (.invoke 5 12) ∧
    decodeSyl 5 0x850110D8 none = some (.wpack 5 1 2 3) ∧
    decodeSyl 5 0x85411141 none = some (.wsrli 5 1 2 65) ∧
    decodeSyl 5 0x86231041 none = some (.qmac 5 3 2 1) ∧
    decodeSyl 5 0x870110DF none = some (.tadd 5 1 2 3 31) ∧
    decodeSyl 5 0x87E110EA none = some (.customSyllable 5 42 1 2 3) ∧
    decodeSyl 5 0x84011030 none = none ∧ decodeSyl 5 0x820110C6 none = none ∧
    decodeSyl 96 0x86231041 none = none

/-- A capability in memory is one aligned granule: address half, upper half, and a tag outside the bytes (R36). -/
def Obligations.CapabilityInMemory : Prop :=
  ∀ (s u : State) (pa : Nat) (c : Cap) (sp : Space), (sp = .dram ∨ ∃ k, sp = .tcm k) → pa % 16 = 0 → u = s.capWrite sp pa c →
    u.bytesAt sp pa 8 = natBytes 8 c.addr ∧ u.bytesAt sp (pa + 8) 8 = natBytes 8 (c.bits.toNat / 2 ^ 64) ∧
    u.tagAt sp pa = c.tag ∧ u.capAt sp pa = c ∧
    (∀ a, (a < pa ∨ pa + 16 ≤ a) → u.byteAt sp a = s.byteAt sp a) ∧
    (∀ a, a / 16 ≠ pa / 16 → u.tagAt sp a = s.tagAt sp a) ∧
    (∀ (t : Bool) (a : Nat), (s.setTag sp pa t).byteAt sp a = s.byteAt sp a)

/-- Every representable cursor of a capability decodes to the same base and top (R39). -/
def Obligations.RepresentableCursors : Prop :=
  ∀ (c : Cap) (x : Nat) (t : Bool), x < 2 ^ 64 →
    (c.exp ≤ 50 → (c.representable x = true ↔
      ((x : Int) - ((c.base : Int) - 2 ^ (c.exp + 10)) % 2 ^ 64) % 2 ^ 64 < 2 ^ (c.exp + 13))) ∧
    (c.exp = 51 → c.representable x = true) ∧
    (c.exp ≤ 51 → c.representable x = true → (c.withAddr x t).base = c.base ∧ (c.withAddr x t).top = c.top)

/-- Every step keeps every map of the memory in its canonical form (03_tagged_memory_and_eclipse.md, R70, R431). -/
def Obligations.EveryStepKeepsMemoryCanonical : Prop :=
  ∀ s t : State, MemoryCanonical s → step s = .next t → MemoryCanonical t

/-- Bundles, mode shadows, custom syllables, tally unit commands, register writes, fabric timeouts and counter clears complete (R9, R102, R206, R211, R214, R215, R217, R219, R286, R336, R411, R543). -/
def Obligations.PlainCompletions : Prop :=
  ∀ (id ch cell src a va : Nat) (core : BitVec 7) (o : TallyOp) (e : CombEntry) (dn : TallyDone) (val : Word) (unit : BitVec 8) (store crc : Bool) (s : State), Quiet s →
    (s.tally.transit.find? (fun o => o.id == id) = some o → (s.tch (channelOf o.cell)).entryOf o.cell = some e → e.st = .active → o.kind = .add → e.data.length = 64 → cellFlag e.data 0 = true → cellFlag e.data 2 = false → o.stampUnc = false → o.stampTime < cellGet e.data 0x18 8 → cellGet e.data 0x10 8 < 2 ^ 64 - 1 → -2 ^ 127 ≤ cellAmount e.data + o.amount.toInt → cellAmount e.data + o.amount.toInt ≤ 2 ^ 127 - 1 → ∃ u, exec (.tallyDecisionArrival id) s = .next u ∧ (∃ f, (u.tch (channelOf o.cell)).entryOf o.cell = some f ∧ cellAmount f.data = cellAmount e.data + o.amount.toInt ∧ cellGet f.data 0x10 8 = cellGet e.data 0x10 8 + 1 ∧
          f.data.drop 0x18 = e.data.drop 0x18 ∧ f.changes = e.changes + 1) ∧
        (∃ dn, u.tally.done = s.tally.done ++ [dn] ∧ dn.op = o ∧ dn.snapshot = none ∧ dn.status.toNat = cellGet e.data 0x2C 4 * 2 ^ 32) ∧
        (∃ l a, (u.unjList o.pair).adds = l ++ [a] ∧ a.cell = o.cell ∧ a.amount = o.amount ∧ a.stampTime = o.stampTime) ∧
        SameMemory s u) ∧
    ((s.tch (channelOf cell)).entryOf cell = some e → e.st = .loading → e.waiting = [o] → o.kind = .read → s.latent = [] → s.poisoned cell = false → 0 < e.most → cellFlag (s.bytesAt .dram cell 64) 0 = true → cellFlag (s.bytesAt .dram cell 64) 2 = false → ∃ u, exec (.combLoadComplete cell) s = .next u ∧ (∃ f, (u.tch (channelOf cell)).entryOf cell = some f ∧ f.st = .active ∧ f.waiting = [] ∧ f.data = s.bytesAt .dram cell 64) ∧
        (∃ dn, u.tally.done = s.tally.done ++ [dn] ∧ dn.op = o ∧ dn.snapshot = some (s.bytesAt .dram cell 64)) ∧
        SameMemory s u) ∧
    ((s.tch (channelOf cell)).entryOf cell = some e → e.st = .active → e.dirty = true → ∃ u, exec (.combWindowExpiry cell) s = .next u ∧ (u.tch (channelOf cell)).entryOf cell = some { e with st := .flushing } ∧
        SameMemory s u ∧
        u.tally.done = s.tally.done) ∧
    ((s.tch (channelOf cell)).entryOf cell = some e → e.st = .flushing → e.data.length = 64 → cell % 64 = 0 → cell + 64 ≤ 2 ^ 41 → ∃ u, exec (.combWritebackComplete cell) s = .next u ∧ (u.tch (channelOf cell)).entryOf cell = some { e with st := .active, changes := 0, marked := false } ∧
        u.bytesAt .dram cell 64 = e.data ∧
        SameBytesOutside s u cell 64 ∧
        u.rd (Addr.TCH_CNT_WB (channelOf cell)) = BitVec.ofNat 64 (min ((s.rd (Addr.TCH_CNT_WB (channelOf cell))).toNat + 1) (2 ^ 64 - 1))) ∧
    (s.parkedOp id = some (ch, o) → ((s.tch ch).parked.find? (fun x => x.cell == o.cell)).map (fun x => x.id) = some id → (s.tch ch).entryOf o.cell = some e → e.st = .loading → e.waiting.length < e.most → ∃ u, exec (.unpark id) s = .next u ∧ (u.tch ch).entryOf o.cell = some { e with waiting := e.waiting ++ [o] } ∧
        (u.tch ch).parked = (s.tch ch).parked.filter (fun x => !(x.id == id)) ∧
        u.tally.done = s.tally.done ∧
        SameMemory s u) ∧
    (s.parkedOp id = some (ch, o) → ∃ u, exec (.parkTimeout id) s = .next u ∧ (u.tch ch).parked = (s.tch ch).parked.filter (fun x => !(x.id == id)) ∧
        (∃ dn, u.tally.done = s.tally.done ++ [dn] ∧ dn.op = o ∧ dn.status.toNat % 65536 = 3) ∧
        u.rd (Addr.TCH_CNT_RETRY ch) = BitVec.ofNat 64 (min ((s.rd (Addr.TCH_CNT_RETRY ch)).toNat + 1) (2 ^ 64 - 1)) ∧
        SameMemory s u) ∧
    (s.tally.done.find? (fun x => x.op.id == id) = some dn → dn.snapshot = none → 1 ≤ dn.op.cd → ∃ u, exec (.tallyStatusReturn id) s = .next u ∧ (u.bank dn.op.pair dn.op.bank).reg dn.op.cd = intCap dn.status ∧
        (∀ x ∈ u.tally.done, x.op.id ≠ id) ∧
        u.dev = s.dev ∧
        SameMemory s u) ∧
    (core.toNat < 96 → (s.pair core.toNat).halt.isSome = true → ∃ u, exec (.tallyAbort core) s = .next u ∧ (∀ x ∈ u.tally.transit, x.pair ≠ core.toNat) ∧
        (∀ x ∈ u.tally.done, x.op.pair ≠ core.toNat) ∧
        (∀ x, x.pair ≠ core.toNat → (x ∈ u.tally.transit ↔ x ∈ s.tally.transit)) ∧
        (∀ q, u.pair q = s.pair q) ∧
        SameMemory s u) ∧
    (∃ u, exec (.tallyClrcnt) s = .next u ∧ (∀ h, h < 16 → u.rd (Addr.TCH_CNT_ACC h) = 0 ∧ u.rd (Addr.TCH_CNT_LATE h) = 0 ∧ u.rd (Addr.TCH_CNT_SEAL h) = 0 ∧ u.rd (Addr.TCH_CNT_RETRY h) = 0 ∧ u.rd (Addr.TCH_CNT_WB h) = 0 ∧ u.rd (Addr.TCH_CNT_PARK h) = 0 ∧ u.fld (Addr.TCH_OCC h) 0 10 = s.fld (Addr.TCH_OCC h) 0 10) ∧
        u.tally = s.tally) ∧
    (cell < 2 ^ 41 → cell % 64 = 0 → (s.tch (channelOf cell)).entryOf cell = some e → e.st = .flushing → s.latent = [] → e.data.length = 64 → ∃ u, exec (.cellLineAccess cell) s = .next u ∧ (u.tch (channelOf cell)).entryOf cell = none ∧
        u.bytesAt .dram cell 64 = e.data ∧
        SameBytesOutside s u cell 64 ∧
        u.tally.done = s.tally.done) ∧
    (src < 104 → val.toNat ≤ 4 → ∃ u, exec (.registerWrite src Addr.EVD_SPILLCFG val) s = .next u ∧ u.fld Addr.EVD_SPILLCFG 0 3 = val.toNat ∧
        (∀ a, a ≠ Addr.EVD_SPILLCFG → u.rd a = s.rd a) ∧
        SameMemory s u) ∧
    (104 ≤ unit.toNat → ∃ u, exec (.fabricTimeout unit a va store crc) s = .next u ∧ u.rd Addr.FTO_CNT = BitVec.ofNat 64 (min ((s.rd Addr.FTO_CNT).toNat + 1) (2 ^ 64 - 1)) ∧
        u.fld Addr.FTO_ADDR 0 44 = a % 2 ^ 44 ∧
        u.fld Addr.FTO_ADDR 44 8 = unit.toNat ∧
        u.fld Addr.PWR_ERR 3 1 = 1 ∧
        (∀ q, u.pair q = s.pair q) ∧
        SameMemory s u) ∧
    (∃ u, exec (.ptClrcnt) s = .next u ∧ (∀ p, p < 104 → u.rd (Addr.PT_OVCNT p) = 0) ∧
        (∀ q, u.pair q = s.pair q) ∧
        SameMemory s u) ∧
    (∃ u, exec (.trClrcnt) s = .next u ∧ u.rd Addr.RCU_CNT_VIOL = 0 ∧
        u.rd Addr.TR_CNT_WALK = 0 ∧
        u.rd Addr.TR_CNT_CDSET = 0 ∧
        u.rd Addr.RCU_VIOL_ADDR = s.rd Addr.RCU_VIOL_ADDR ∧
        SameMemory s u) ∧
    (∀ (p b : Nat) (cd cs1 cs2 : RegIx) (w pc : Nat), p < 104 → ({ s with out := [] } : State).execBank p = some b → s.apendDue p b = false → (s.pair p).shadow = [] →
      maskUpdate s.clk (s.pair p) = s.pair p → (s.bank p b).rep = 0 → s.tallyBusy p b = false → (s.pair p).delay = [] →
      pc = (s.bank p b).pcc.addr → PlainFetch s p b w → w = 2 ^ 31 + 0x10 * 2 ^ 21 + cd.toNat * 2 ^ 16 + cs1.toNat * 2 ^ 11 + cs2.toNat * 2 ^ 6 + 1 →
      (s.bank p b).le.toNat ≠ pc → ∃ u, exec (.bundle p) s = .next u ∧
        (u.bank p b).reg cd.toNat = (if cd = 0 then nullCap else intCap (s.srcX p b cs1.toNat - s.srcX p b cs2.toNat)) ∧
        (∀ m, m ≠ cd.toNat → (u.bank p b).reg m = (s.bank p b).reg m) ∧ (u.bank p b).pcc.addr = pc + 4 ∧ SameMemory s u ∧ SameUnits s u) ∧
    (∀ (p : Nat) (w : ShadowWrite) (ws : List ShadowWrite), p < 104 → (s.pair p).shadow = w :: ws → w.reg = .amode →
      ∃ u, exec (.modeShadowEnd p) s = .next u ∧ (u.pair p).shadow = ws ∧
        (∀ i, i < 64 → (u.bank p w.bank).amode.getLsbD i = (if w.mask.getLsbD i then w.value.getLsbD i else (s.bank p w.bank).amode.getLsbD i)) ∧
        (∀ e n, (u.bank p e).reg n = (s.bank p e).reg n) ∧ SameMemory s u ∧ SameUnits s u) ∧
    (∀ (p b : Nat) (n : BitVec 6) (cd cs1 cs2 : RegIx) (d : DecodeTable) (x : Uop), p < 96 → d = (s.pair p).table → x = uopOf (d.uop n.toNat 0).toNat →
      customDefined d n.toNat cd cs1 cs2 = true → bitsAt (d.word n.toNat).toNat 5 6 = 1 → x.code = 1 → x.fn = 0 → x.d = 1 → x.a = 2 → x.b = 3 →
      Issues (.customSyllable p n cd cs1 cs2) p b s →
      exec (.customSyllable p n cd cs1 cs2) s = .next (intDone s p b cd (s.srcX p b cs1.toNat + s.srcX p b cs2.toNat) noFlags))
end

