-- ==== Sys2Proof/Laws/SMap.lean ====
section
/-!
SUPPORT. Laws of sparse maps and byte memories: a read after a write, and that every memory operation keeps the canonical form.
-/
namespace Sys2Proof.Laws
open Sys2Proof.Machine

theorem smGet_smErase {β : Type} (d : Nat → β) (m : List (Nat × β)) (k j : Nat) :
    smGet d (smErase m k) j = if j = k then d k else smGet d m j := by
  induction m with
  | nil => by_cases h : j = k <;> simp [smErase, smGet, h]
  | cons e m ih =>
    obtain ⟨a, v⟩ := e
    simp only [smErase]
    split
    · rename_i h; subst h; rw [ih]
      by_cases hj : j = a
      · simp [hj]
      · simp [smGet, hj, Ne.symm hj]
    · rename_i h
      simp only [smGet]
      by_cases hj : a = j
      · subst hj; simp [h]
      · simp [hj, ih]

theorem smGet_smInsert {β : Type} (d : Nat → β) (m : List (Nat × β)) (k j : Nat) (v : β) :
    smGet d (smInsert m k v) j = if j = k then v else smGet d m j := by
  induction m with
  | nil =>
    by_cases h : j = k
    · simp [smInsert, smGet, h]
    · simp [smInsert, smGet, h, Ne.symm h]
  | cons e m ih =>
    obtain ⟨a, w⟩ := e
    simp only [smInsert]
    split
    · rename_i h; subst h; by_cases hj : j = a
      · simp [smGet, hj]
      · simp [smGet, hj, Ne.symm hj]
    · split
      · by_cases hj : j = k
        · simp [smGet, hj]
        · simp [smGet, hj, Ne.symm hj]
      · rename_i h _
        simp only [smGet, ih]
        by_cases hj : a = j
        · subst hj; simp [h]
        · simp [hj]

/-- A read after a write: the value written at that key, every other key as before. -/
@[simp] theorem smGet_smSet {β : Type} [DecidableEq β] (d : Nat → β) (m : List (Nat × β)) (k j : Nat) (v : β) :
    smGet d (smSet d m k v) j = if j = k then v else smGet d m j := by
  unfold smSet
  split
  · rename_i h; rw [smGet_smErase]; by_cases hj : j = k <;> simp [hj, h]
  · exact smGet_smInsert d m k j v

@[simp] theorem smGet_nil {β : Type} (d : Nat → β) (k : Nat) : smGet d [] k = d k := rfl

/-! ## The canonical form -/

/-- Every key of a map in canonical form above a bound is above it. -/
theorem smWfFrom_mono {β : Type} [DecidableEq β] (d : Nat → β) {l k : Nat} {m : List (Nat × β)}
    (h : smWfFrom d (some k) m = true) (hl : l ≤ k) : smWfFrom d (some l) m = true := by
  cases m with
  | nil => rfl
  | cons e m =>
    obtain ⟨a, v⟩ := e
    simp only [smWfFrom, Bool.and_eq_true, decide_eq_true_eq] at h ⊢
    exact ⟨⟨by omega, h.1.2⟩, h.2⟩

theorem smWfFrom_none {β : Type} [DecidableEq β] (d : Nat → β) {k : Nat} {m : List (Nat × β)}
    (h : smWfFrom d (some k) m = true) : smWfFrom d none m = true := by
  cases m with
  | nil => rfl
  | cons e m =>
    obtain ⟨a, v⟩ := e
    simp only [smWfFrom, Bool.and_eq_true, decide_eq_true_eq, Bool.true_and] at h ⊢
    exact ⟨h.1.2, h.2⟩

theorem smWfFrom_smErase {β : Type} [DecidableEq β] (d : Nat → β) (k : Nat) (m : List (Nat × β)) :
    ∀ lo, smWfFrom d lo m = true → smWfFrom d lo (smErase m k) = true := by
  induction m with
  | nil => intro lo h; exact h
  | cons e m ih =>
    obtain ⟨a, v⟩ := e
    intro lo h
    simp only [smErase]
    simp only [smWfFrom, Bool.and_eq_true, decide_eq_true_eq] at h
    split
    · apply ih
      cases lo with
      | none => exact smWfFrom_none d h.2
      | some l => exact smWfFrom_mono d h.2 (by simpa using Nat.le_of_lt (by simpa using h.1.1))
    · simp only [smWfFrom, Bool.and_eq_true, decide_eq_true_eq]
      exact ⟨h.1, ih _ h.2⟩

theorem smWfFrom_smInsert {β : Type} [DecidableEq β] (d : Nat → β) (k : Nat) (v : β) (hv : v ≠ d k) (m : List (Nat × β)) :
    ∀ lo, (∀ l, lo = some l → l < k) → smWfFrom d lo m = true → smWfFrom d lo (smInsert m k v) = true := by
  induction m with
  | nil =>
    intro lo hl _
    cases lo with
    | none => simp [smInsert, smWfFrom, hv]
    | some l => simp [smInsert, smWfFrom, hv, hl l rfl]
  | cons e m ih =>
    obtain ⟨a, w⟩ := e
    intro lo hl h
    simp only [smWfFrom, Bool.and_eq_true, decide_eq_true_eq] at h
    simp only [smInsert]
    split
    · rename_i ha; subst ha
      simp only [smWfFrom, Bool.and_eq_true, decide_eq_true_eq]
      exact ⟨⟨h.1.1, hv⟩, h.2⟩
    · split
      · rename_i _ ha
        simp only [smWfFrom, Bool.and_eq_true, decide_eq_true_eq]
        refine ⟨⟨?_, hv⟩, ⟨ha, h.1.2⟩, h.2⟩
        cases lo with
        | none => trivial
        | some l => simpa using hl l rfl
      · simp only [smWfFrom, Bool.and_eq_true, decide_eq_true_eq]
        refine ⟨h.1, ih _ ?_ h.2⟩
        intro l hl'; simp only [Option.some.injEq] at hl'; omega

/-- A write keeps the canonical form. -/
theorem smWf_smSet {β : Type} [DecidableEq β] (d : Nat → β) (m : List (Nat × β)) (k : Nat) (v : β) (h : smWf d m = true) :
    smWf d (smSet d m k v) = true := by
  unfold smSet
  split
  · exact smWfFrom_smErase d k m none h
  · rename_i hv; exact smWfFrom_smInsert d k v hv m none (by simp) h

/-- A byte written keeps the canonical form of a memory. -/
theorem wf_setByte (m : List Host.Cell) (a : Nat) (b : Byte) (h : Memory.wf m = true) :
    Memory.wf (smSet memDefault m a b) = true := smWf_smSet memDefault m a b h

/-- Bytes written keep the canonical form of a memory. -/
theorem wf_writeBytes (bs : List Byte) : ∀ (m : List Host.Cell) (a : Nat), Memory.wf m = true → Memory.wf (writeBytes m a bs) = true := by
  induction bs with
  | nil => intro m a h; exact h
  | cons b bs ih => intro m a h; exact ih _ _ (wf_setByte m a b h)

/-- A number written keeps the canonical form of a memory. -/
theorem wf_writeLE (n : Nat) : ∀ (m : List Host.Cell) (a v : Nat), Memory.wf m = true → Memory.wf (writeLE m a n v) = true := by
  induction n with
  | zero => intro m a v h; exact h
  | succ n ih => intro m a v h; exact ih _ _ _ (wf_setByte m a _ h)

/-- An empty memory is in its canonical form. -/
theorem wf_nil : Memory.wf [] = true := rfl

/-! ## Bytes -/

/-- What a memory reads after bytes were written to it. -/
theorem smGet_writeBytes (bs : List Byte) : ∀ (m : List Host.Cell) (a j : Nat),
    smGet memDefault (writeBytes m a bs) j = if a ≤ j ∧ j < a + bs.length then bs.getD (j - a) 0 else smGet memDefault m j := by
  induction bs with
  | nil => intro m a j; simp [writeBytes]
  | cons b bs ih =>
    intro m a j
    simp only [writeBytes, ih, smGet_smSet, List.length_cons]
    by_cases h1 : a + 1 ≤ j ∧ j < a + 1 + bs.length
    · have h2 : a ≤ j ∧ j < a + (bs.length + 1) := by omega
      obtain ⟨i, hi⟩ : ∃ i, j - a = i + 1 := ⟨j - a - 1, by omega⟩
      have h3 : j - (a + 1) = i := by omega
      simp [h1, h2, hi, h3]
    · by_cases h2 : j = a
      · subst h2
        have h3 : j ≤ j ∧ j < j + (bs.length + 1) := by omega
        simp [h3]
      · have h3 : ¬ (a ≤ j ∧ j < a + (bs.length + 1)) := by omega
        rw [if_neg h1, if_neg h2, if_neg h3]

/-- The number in a list of bytes laid out from a number. -/
theorem bytesNat_natBytes (n : Nat) : ∀ v, bytesNat (natBytes n v) = v % 256 ^ n := by
  induction n with
  | zero => intro v; simp [natBytes, bytesNat, Nat.mod_one]
  | succ n ih =>
    intro v
    simp only [natBytes, bytesNat, ih, BitVec.toNat_ofNat]
    have h := Nat.mod_mul (x := v) (a := 256) (b := 256 ^ n)
    have e : v % 2 ^ 8 = v % 256 := by norm_num
    have e2 : 256 ^ (n + 1) = 256 * 256 ^ n := Nat.pow_succ'
    rw [e2, h, e]

@[simp] theorem natBytes_length (n : Nat) : ∀ v, (natBytes n v).length = n := by
  induction n with
  | zero => intro v; rfl
  | succ n ih => intro v; simp [natBytes, ih]

end Sys2Proof.Laws
end

