-- ==== Sys2Proof/Laws/State.lean ====
section
/-!
SUPPORT. The fields of the state after each named update: one lemma per field per update, true by rfl.
-/
namespace Sys2Proof.Machine

@[simp] theorem State.setPair_pairs (s : State) (p : Nat) (v : Pair) : (s.setPair p v).pairs = smSet pairReset s.pairs p v := rfl
@[simp] theorem State.setPair_mem (s : State) (p : Nat) (v : Pair) : (s.setPair p v).mem = s.mem := rfl
@[simp] theorem State.setPair_tags (s : State) (p : Nat) (v : Pair) : (s.setPair p v).tags = s.tags := rfl
@[simp] theorem State.setPair_poison (s : State) (p : Nat) (v : Pair) : (s.setPair p v).poison = s.poison := rfl
@[simp] theorem State.setPair_latent (s : State) (p : Nat) (v : Pair) : (s.setPair p v).latent = s.latent := rfl
@[simp] theorem State.setPair_bitmap (s : State) (p : Nat) (v : Pair) : (s.setPair p v).bitmap = s.bitmap := rfl
@[simp] theorem State.setPair_tcm (s : State) (p : Nat) (v : Pair) : (s.setPair p v).tcm = s.tcm := rfl
@[simp] theorem State.setPair_tcmTags (s : State) (p : Nat) (v : Pair) : (s.setPair p v).tcmTags = s.tcmTags := rfl
@[simp] theorem State.setPair_stale (s : State) (p : Nat) (v : Pair) : (s.setPair p v).stale = s.stale := rfl
@[simp] theorem State.setPair_jarr (s : State) (p : Nat) (v : Pair) : (s.setPair p v).jarr = s.jarr := rfl
@[simp] theorem State.setPair_boot (s : State) (p : Nat) (v : Pair) : (s.setPair p v).boot = s.boot := rfl
@[simp] theorem State.setPair_dev (s : State) (p : Nat) (v : Pair) : (s.setPair p v).dev = s.dev := rfl
@[simp] theorem State.setPair_tally (s : State) (p : Nat) (v : Pair) : (s.setPair p v).tally = s.tally := rfl
@[simp] theorem State.setPair_evd (s : State) (p : Nat) (v : Pair) : (s.setPair p v).evd = s.evd := rfl
@[simp] theorem State.setPair_sweep (s : State) (p : Nat) (v : Pair) : (s.setPair p v).sweep = s.sweep := rfl
@[simp] theorem State.setPair_arbs (s : State) (p : Nat) (v : Pair) : (s.setPair p v).arbs = s.arbs := rfl
@[simp] theorem State.setPair_notices (s : State) (p : Nat) (v : Pair) : (s.setPair p v).notices = s.notices := rfl
@[simp] theorem State.setPair_rxFree (s : State) (p : Nat) (v : Pair) : (s.setPair p v).rxFree = s.rxFree := rfl
@[simp] theorem State.setPair_locked (s : State) (p : Nat) (v : Pair) : (s.setPair p v).locked = s.locked := rfl
@[simp] theorem State.setPair_jrn (s : State) (p : Nat) (v : Pair) : (s.setPair p v).jrn = s.jrn := rfl
@[simp] theorem State.setPair_draw (s : State) (p : Nat) (v : Pair) : (s.setPair p v).draw = s.draw := rfl
@[simp] theorem State.setPair_keys (s : State) (p : Nat) (v : Pair) : (s.setPair p v).keys = s.keys := rfl
@[simp] theorem State.setPair_sec (s : State) (p : Nat) (v : Pair) : (s.setPair p v).sec = s.sec := rfl
@[simp] theorem State.setPair_bootSt (s : State) (p : Nat) (v : Pair) : (s.setPair p v).bootSt = s.bootSt := rfl
@[simp] theorem State.setPair_net (s : State) (p : Nat) (v : Pair) : (s.setPair p v).net = s.net := rfl
@[simp] theorem State.setPair_cwl (s : State) (p : Nat) (v : Pair) : (s.setPair p v).cwl = s.cwl := rfl
@[simp] theorem State.setPair_pwr (s : State) (p : Nat) (v : Pair) : (s.setPair p v).pwr = s.pwr := rfl
@[simp] theorem State.setPair_out (s : State) (p : Nat) (v : Pair) : (s.setPair p v).out = s.out := rfl
@[simp] theorem State.setPair_clk (s : State) (p : Nat) (v : Pair) : (s.setPair p v).clk = s.clk := rfl
@[simp] theorem State.setPair_time (s : State) (p : Nat) (v : Pair) : (s.setPair p v).time = s.time := rfl
@[simp] theorem State.setPair_free (s : State) (p : Nat) (v : Pair) : (s.setPair p v).free = s.free := rfl
@[simp] theorem State.setPair_pending (s : State) (p : Nat) (v : Pair) : (s.setPair p v).pending = s.pending := rfl

@[simp] theorem State.setBank_mem (s : State) (p b : Nat) (k : Bank) : (s.setBank p b k).mem = s.mem := rfl
@[simp] theorem State.setBank_tags (s : State) (p b : Nat) (k : Bank) : (s.setBank p b k).tags = s.tags := rfl
@[simp] theorem State.setBank_poison (s : State) (p b : Nat) (k : Bank) : (s.setBank p b k).poison = s.poison := rfl
@[simp] theorem State.setBank_latent (s : State) (p b : Nat) (k : Bank) : (s.setBank p b k).latent = s.latent := rfl
@[simp] theorem State.setBank_bitmap (s : State) (p b : Nat) (k : Bank) : (s.setBank p b k).bitmap = s.bitmap := rfl
@[simp] theorem State.setBank_tcm (s : State) (p b : Nat) (k : Bank) : (s.setBank p b k).tcm = s.tcm := rfl
@[simp] theorem State.setBank_tcmTags (s : State) (p b : Nat) (k : Bank) : (s.setBank p b k).tcmTags = s.tcmTags := rfl
@[simp] theorem State.setBank_stale (s : State) (p b : Nat) (k : Bank) : (s.setBank p b k).stale = s.stale := rfl
@[simp] theorem State.setBank_jarr (s : State) (p b : Nat) (k : Bank) : (s.setBank p b k).jarr = s.jarr := rfl
@[simp] theorem State.setBank_boot (s : State) (p b : Nat) (k : Bank) : (s.setBank p b k).boot = s.boot := rfl
@[simp] theorem State.setBank_dev (s : State) (p b : Nat) (k : Bank) : (s.setBank p b k).dev = s.dev := rfl
@[simp] theorem State.setBank_tally (s : State) (p b : Nat) (k : Bank) : (s.setBank p b k).tally = s.tally := rfl
@[simp] theorem State.setBank_evd (s : State) (p b : Nat) (k : Bank) : (s.setBank p b k).evd = s.evd := rfl
@[simp] theorem State.setBank_sweep (s : State) (p b : Nat) (k : Bank) : (s.setBank p b k).sweep = s.sweep := rfl
@[simp] theorem State.setBank_arbs (s : State) (p b : Nat) (k : Bank) : (s.setBank p b k).arbs = s.arbs := rfl
@[simp] theorem State.setBank_notices (s : State) (p b : Nat) (k : Bank) : (s.setBank p b k).notices = s.notices := rfl
@[simp] theorem State.setBank_rxFree (s : State) (p b : Nat) (k : Bank) : (s.setBank p b k).rxFree = s.rxFree := rfl
@[simp] theorem State.setBank_locked (s : State) (p b : Nat) (k : Bank) : (s.setBank p b k).locked = s.locked := rfl
@[simp] theorem State.setBank_jrn (s : State) (p b : Nat) (k : Bank) : (s.setBank p b k).jrn = s.jrn := rfl
@[simp] theorem State.setBank_draw (s : State) (p b : Nat) (k : Bank) : (s.setBank p b k).draw = s.draw := rfl
@[simp] theorem State.setBank_keys (s : State) (p b : Nat) (k : Bank) : (s.setBank p b k).keys = s.keys := rfl
@[simp] theorem State.setBank_sec (s : State) (p b : Nat) (k : Bank) : (s.setBank p b k).sec = s.sec := rfl
@[simp] theorem State.setBank_bootSt (s : State) (p b : Nat) (k : Bank) : (s.setBank p b k).bootSt = s.bootSt := rfl
@[simp] theorem State.setBank_net (s : State) (p b : Nat) (k : Bank) : (s.setBank p b k).net = s.net := rfl
@[simp] theorem State.setBank_cwl (s : State) (p b : Nat) (k : Bank) : (s.setBank p b k).cwl = s.cwl := rfl
@[simp] theorem State.setBank_pwr (s : State) (p b : Nat) (k : Bank) : (s.setBank p b k).pwr = s.pwr := rfl
@[simp] theorem State.setBank_out (s : State) (p b : Nat) (k : Bank) : (s.setBank p b k).out = s.out := rfl
@[simp] theorem State.setBank_clk (s : State) (p b : Nat) (k : Bank) : (s.setBank p b k).clk = s.clk := rfl
@[simp] theorem State.setBank_time (s : State) (p b : Nat) (k : Bank) : (s.setBank p b k).time = s.time := rfl
@[simp] theorem State.setBank_free (s : State) (p b : Nat) (k : Bank) : (s.setBank p b k).free = s.free := rfl
@[simp] theorem State.setBank_pending (s : State) (p b : Nat) (k : Bank) : (s.setBank p b k).pending = s.pending := rfl

@[simp] theorem State.updBank_mem (s : State) (p b : Nat) (f : Bank → Bank) : (s.updBank p b f).mem = s.mem := rfl
@[simp] theorem State.updBank_tags (s : State) (p b : Nat) (f : Bank → Bank) : (s.updBank p b f).tags = s.tags := rfl
@[simp] theorem State.updBank_poison (s : State) (p b : Nat) (f : Bank → Bank) : (s.updBank p b f).poison = s.poison := rfl
@[simp] theorem State.updBank_latent (s : State) (p b : Nat) (f : Bank → Bank) : (s.updBank p b f).latent = s.latent := rfl
@[simp] theorem State.updBank_bitmap (s : State) (p b : Nat) (f : Bank → Bank) : (s.updBank p b f).bitmap = s.bitmap := rfl
@[simp] theorem State.updBank_tcm (s : State) (p b : Nat) (f : Bank → Bank) : (s.updBank p b f).tcm = s.tcm := rfl
@[simp] theorem State.updBank_tcmTags (s : State) (p b : Nat) (f : Bank → Bank) : (s.updBank p b f).tcmTags = s.tcmTags := rfl
@[simp] theorem State.updBank_stale (s : State) (p b : Nat) (f : Bank → Bank) : (s.updBank p b f).stale = s.stale := rfl
@[simp] theorem State.updBank_jarr (s : State) (p b : Nat) (f : Bank → Bank) : (s.updBank p b f).jarr = s.jarr := rfl
@[simp] theorem State.updBank_boot (s : State) (p b : Nat) (f : Bank → Bank) : (s.updBank p b f).boot = s.boot := rfl
@[simp] theorem State.updBank_dev (s : State) (p b : Nat) (f : Bank → Bank) : (s.updBank p b f).dev = s.dev := rfl
@[simp] theorem State.updBank_tally (s : State) (p b : Nat) (f : Bank → Bank) : (s.updBank p b f).tally = s.tally := rfl
@[simp] theorem State.updBank_evd (s : State) (p b : Nat) (f : Bank → Bank) : (s.updBank p b f).evd = s.evd := rfl
@[simp] theorem State.updBank_sweep (s : State) (p b : Nat) (f : Bank → Bank) : (s.updBank p b f).sweep = s.sweep := rfl
@[simp] theorem State.updBank_arbs (s : State) (p b : Nat) (f : Bank → Bank) : (s.updBank p b f).arbs = s.arbs := rfl
@[simp] theorem State.updBank_notices (s : State) (p b : Nat) (f : Bank → Bank) : (s.updBank p b f).notices = s.notices := rfl
@[simp] theorem State.updBank_rxFree (s : State) (p b : Nat) (f : Bank → Bank) : (s.updBank p b f).rxFree = s.rxFree := rfl
@[simp] theorem State.updBank_locked (s : State) (p b : Nat) (f : Bank → Bank) : (s.updBank p b f).locked = s.locked := rfl
@[simp] theorem State.updBank_jrn (s : State) (p b : Nat) (f : Bank → Bank) : (s.updBank p b f).jrn = s.jrn := rfl
@[simp] theorem State.updBank_draw (s : State) (p b : Nat) (f : Bank → Bank) : (s.updBank p b f).draw = s.draw := rfl
@[simp] theorem State.updBank_keys (s : State) (p b : Nat) (f : Bank → Bank) : (s.updBank p b f).keys = s.keys := rfl
@[simp] theorem State.updBank_sec (s : State) (p b : Nat) (f : Bank → Bank) : (s.updBank p b f).sec = s.sec := rfl
@[simp] theorem State.updBank_bootSt (s : State) (p b : Nat) (f : Bank → Bank) : (s.updBank p b f).bootSt = s.bootSt := rfl
@[simp] theorem State.updBank_net (s : State) (p b : Nat) (f : Bank → Bank) : (s.updBank p b f).net = s.net := rfl
@[simp] theorem State.updBank_cwl (s : State) (p b : Nat) (f : Bank → Bank) : (s.updBank p b f).cwl = s.cwl := rfl
@[simp] theorem State.updBank_pwr (s : State) (p b : Nat) (f : Bank → Bank) : (s.updBank p b f).pwr = s.pwr := rfl
@[simp] theorem State.updBank_out (s : State) (p b : Nat) (f : Bank → Bank) : (s.updBank p b f).out = s.out := rfl
@[simp] theorem State.updBank_clk (s : State) (p b : Nat) (f : Bank → Bank) : (s.updBank p b f).clk = s.clk := rfl
@[simp] theorem State.updBank_time (s : State) (p b : Nat) (f : Bank → Bank) : (s.updBank p b f).time = s.time := rfl
@[simp] theorem State.updBank_free (s : State) (p b : Nat) (f : Bank → Bank) : (s.updBank p b f).free = s.free := rfl
@[simp] theorem State.updBank_pending (s : State) (p b : Nat) (f : Bank → Bank) : (s.updBank p b f).pending = s.pending := rfl

@[simp] theorem State.updPair_mem (s : State) (p : Nat) (f : Pair → Pair) : (s.updPair p f).mem = s.mem := rfl
@[simp] theorem State.updPair_tags (s : State) (p : Nat) (f : Pair → Pair) : (s.updPair p f).tags = s.tags := rfl
@[simp] theorem State.updPair_poison (s : State) (p : Nat) (f : Pair → Pair) : (s.updPair p f).poison = s.poison := rfl
@[simp] theorem State.updPair_latent (s : State) (p : Nat) (f : Pair → Pair) : (s.updPair p f).latent = s.latent := rfl
@[simp] theorem State.updPair_bitmap (s : State) (p : Nat) (f : Pair → Pair) : (s.updPair p f).bitmap = s.bitmap := rfl
@[simp] theorem State.updPair_tcm (s : State) (p : Nat) (f : Pair → Pair) : (s.updPair p f).tcm = s.tcm := rfl
@[simp] theorem State.updPair_tcmTags (s : State) (p : Nat) (f : Pair → Pair) : (s.updPair p f).tcmTags = s.tcmTags := rfl
@[simp] theorem State.updPair_stale (s : State) (p : Nat) (f : Pair → Pair) : (s.updPair p f).stale = s.stale := rfl
@[simp] theorem State.updPair_jarr (s : State) (p : Nat) (f : Pair → Pair) : (s.updPair p f).jarr = s.jarr := rfl
@[simp] theorem State.updPair_boot (s : State) (p : Nat) (f : Pair → Pair) : (s.updPair p f).boot = s.boot := rfl
@[simp] theorem State.updPair_dev (s : State) (p : Nat) (f : Pair → Pair) : (s.updPair p f).dev = s.dev := rfl
@[simp] theorem State.updPair_tally (s : State) (p : Nat) (f : Pair → Pair) : (s.updPair p f).tally = s.tally := rfl
@[simp] theorem State.updPair_evd (s : State) (p : Nat) (f : Pair → Pair) : (s.updPair p f).evd = s.evd := rfl
@[simp] theorem State.updPair_sweep (s : State) (p : Nat) (f : Pair → Pair) : (s.updPair p f).sweep = s.sweep := rfl
@[simp] theorem State.updPair_arbs (s : State) (p : Nat) (f : Pair → Pair) : (s.updPair p f).arbs = s.arbs := rfl
@[simp] theorem State.updPair_notices (s : State) (p : Nat) (f : Pair → Pair) : (s.updPair p f).notices = s.notices := rfl
@[simp] theorem State.updPair_rxFree (s : State) (p : Nat) (f : Pair → Pair) : (s.updPair p f).rxFree = s.rxFree := rfl
@[simp] theorem State.updPair_locked (s : State) (p : Nat) (f : Pair → Pair) : (s.updPair p f).locked = s.locked := rfl
@[simp] theorem State.updPair_jrn (s : State) (p : Nat) (f : Pair → Pair) : (s.updPair p f).jrn = s.jrn := rfl
@[simp] theorem State.updPair_draw (s : State) (p : Nat) (f : Pair → Pair) : (s.updPair p f).draw = s.draw := rfl
@[simp] theorem State.updPair_keys (s : State) (p : Nat) (f : Pair → Pair) : (s.updPair p f).keys = s.keys := rfl
@[simp] theorem State.updPair_sec (s : State) (p : Nat) (f : Pair → Pair) : (s.updPair p f).sec = s.sec := rfl
@[simp] theorem State.updPair_bootSt (s : State) (p : Nat) (f : Pair → Pair) : (s.updPair p f).bootSt = s.bootSt := rfl
@[simp] theorem State.updPair_net (s : State) (p : Nat) (f : Pair → Pair) : (s.updPair p f).net = s.net := rfl
@[simp] theorem State.updPair_cwl (s : State) (p : Nat) (f : Pair → Pair) : (s.updPair p f).cwl = s.cwl := rfl
@[simp] theorem State.updPair_pwr (s : State) (p : Nat) (f : Pair → Pair) : (s.updPair p f).pwr = s.pwr := rfl
@[simp] theorem State.updPair_out (s : State) (p : Nat) (f : Pair → Pair) : (s.updPair p f).out = s.out := rfl
@[simp] theorem State.updPair_clk (s : State) (p : Nat) (f : Pair → Pair) : (s.updPair p f).clk = s.clk := rfl
@[simp] theorem State.updPair_time (s : State) (p : Nat) (f : Pair → Pair) : (s.updPair p f).time = s.time := rfl
@[simp] theorem State.updPair_free (s : State) (p : Nat) (f : Pair → Pair) : (s.updPair p f).free = s.free := rfl
@[simp] theorem State.updPair_pending (s : State) (p : Nat) (f : Pair → Pair) : (s.updPair p f).pending = s.pending := rfl

@[simp] theorem State.setReg_mem (s : State) (p b n : Nat) (c : Cap) : (s.setReg p b n c).mem = s.mem := rfl
@[simp] theorem State.setReg_tags (s : State) (p b n : Nat) (c : Cap) : (s.setReg p b n c).tags = s.tags := rfl
@[simp] theorem State.setReg_poison (s : State) (p b n : Nat) (c : Cap) : (s.setReg p b n c).poison = s.poison := rfl
@[simp] theorem State.setReg_latent (s : State) (p b n : Nat) (c : Cap) : (s.setReg p b n c).latent = s.latent := rfl
@[simp] theorem State.setReg_bitmap (s : State) (p b n : Nat) (c : Cap) : (s.setReg p b n c).bitmap = s.bitmap := rfl
@[simp] theorem State.setReg_tcm (s : State) (p b n : Nat) (c : Cap) : (s.setReg p b n c).tcm = s.tcm := rfl
@[simp] theorem State.setReg_tcmTags (s : State) (p b n : Nat) (c : Cap) : (s.setReg p b n c).tcmTags = s.tcmTags := rfl
@[simp] theorem State.setReg_stale (s : State) (p b n : Nat) (c : Cap) : (s.setReg p b n c).stale = s.stale := rfl
@[simp] theorem State.setReg_jarr (s : State) (p b n : Nat) (c : Cap) : (s.setReg p b n c).jarr = s.jarr := rfl
@[simp] theorem State.setReg_boot (s : State) (p b n : Nat) (c : Cap) : (s.setReg p b n c).boot = s.boot := rfl
@[simp] theorem State.setReg_dev (s : State) (p b n : Nat) (c : Cap) : (s.setReg p b n c).dev = s.dev := rfl
@[simp] theorem State.setReg_tally (s : State) (p b n : Nat) (c : Cap) : (s.setReg p b n c).tally = s.tally := rfl
@[simp] theorem State.setReg_evd (s : State) (p b n : Nat) (c : Cap) : (s.setReg p b n c).evd = s.evd := rfl
@[simp] theorem State.setReg_sweep (s : State) (p b n : Nat) (c : Cap) : (s.setReg p b n c).sweep = s.sweep := rfl
@[simp] theorem State.setReg_arbs (s : State) (p b n : Nat) (c : Cap) : (s.setReg p b n c).arbs = s.arbs := rfl
@[simp] theorem State.setReg_notices (s : State) (p b n : Nat) (c : Cap) : (s.setReg p b n c).notices = s.notices := rfl
@[simp] theorem State.setReg_rxFree (s : State) (p b n : Nat) (c : Cap) : (s.setReg p b n c).rxFree = s.rxFree := rfl
@[simp] theorem State.setReg_locked (s : State) (p b n : Nat) (c : Cap) : (s.setReg p b n c).locked = s.locked := rfl
@[simp] theorem State.setReg_jrn (s : State) (p b n : Nat) (c : Cap) : (s.setReg p b n c).jrn = s.jrn := rfl
@[simp] theorem State.setReg_draw (s : State) (p b n : Nat) (c : Cap) : (s.setReg p b n c).draw = s.draw := rfl
@[simp] theorem State.setReg_keys (s : State) (p b n : Nat) (c : Cap) : (s.setReg p b n c).keys = s.keys := rfl
@[simp] theorem State.setReg_sec (s : State) (p b n : Nat) (c : Cap) : (s.setReg p b n c).sec = s.sec := rfl
@[simp] theorem State.setReg_bootSt (s : State) (p b n : Nat) (c : Cap) : (s.setReg p b n c).bootSt = s.bootSt := rfl
@[simp] theorem State.setReg_net (s : State) (p b n : Nat) (c : Cap) : (s.setReg p b n c).net = s.net := rfl
@[simp] theorem State.setReg_cwl (s : State) (p b n : Nat) (c : Cap) : (s.setReg p b n c).cwl = s.cwl := rfl
@[simp] theorem State.setReg_pwr (s : State) (p b n : Nat) (c : Cap) : (s.setReg p b n c).pwr = s.pwr := rfl
@[simp] theorem State.setReg_out (s : State) (p b n : Nat) (c : Cap) : (s.setReg p b n c).out = s.out := rfl
@[simp] theorem State.setReg_clk (s : State) (p b n : Nat) (c : Cap) : (s.setReg p b n c).clk = s.clk := rfl
@[simp] theorem State.setReg_time (s : State) (p b n : Nat) (c : Cap) : (s.setReg p b n c).time = s.time := rfl
@[simp] theorem State.setReg_free (s : State) (p b n : Nat) (c : Cap) : (s.setReg p b n c).free = s.free := rfl
@[simp] theorem State.setReg_pending (s : State) (p b n : Nat) (c : Cap) : (s.setReg p b n c).pending = s.pending := rfl

@[simp] theorem State.setX_mem (s : State) (p b n : Nat) (x : Word) : (s.setX p b n x).mem = s.mem := rfl
@[simp] theorem State.setX_tags (s : State) (p b n : Nat) (x : Word) : (s.setX p b n x).tags = s.tags := rfl
@[simp] theorem State.setX_poison (s : State) (p b n : Nat) (x : Word) : (s.setX p b n x).poison = s.poison := rfl
@[simp] theorem State.setX_latent (s : State) (p b n : Nat) (x : Word) : (s.setX p b n x).latent = s.latent := rfl
@[simp] theorem State.setX_bitmap (s : State) (p b n : Nat) (x : Word) : (s.setX p b n x).bitmap = s.bitmap := rfl
@[simp] theorem State.setX_tcm (s : State) (p b n : Nat) (x : Word) : (s.setX p b n x).tcm = s.tcm := rfl
@[simp] theorem State.setX_tcmTags (s : State) (p b n : Nat) (x : Word) : (s.setX p b n x).tcmTags = s.tcmTags := rfl
@[simp] theorem State.setX_stale (s : State) (p b n : Nat) (x : Word) : (s.setX p b n x).stale = s.stale := rfl
@[simp] theorem State.setX_jarr (s : State) (p b n : Nat) (x : Word) : (s.setX p b n x).jarr = s.jarr := rfl
@[simp] theorem State.setX_boot (s : State) (p b n : Nat) (x : Word) : (s.setX p b n x).boot = s.boot := rfl
@[simp] theorem State.setX_dev (s : State) (p b n : Nat) (x : Word) : (s.setX p b n x).dev = s.dev := rfl
@[simp] theorem State.setX_tally (s : State) (p b n : Nat) (x : Word) : (s.setX p b n x).tally = s.tally := rfl
@[simp] theorem State.setX_evd (s : State) (p b n : Nat) (x : Word) : (s.setX p b n x).evd = s.evd := rfl
@[simp] theorem State.setX_sweep (s : State) (p b n : Nat) (x : Word) : (s.setX p b n x).sweep = s.sweep := rfl
@[simp] theorem State.setX_arbs (s : State) (p b n : Nat) (x : Word) : (s.setX p b n x).arbs = s.arbs := rfl
@[simp] theorem State.setX_notices (s : State) (p b n : Nat) (x : Word) : (s.setX p b n x).notices = s.notices := rfl
@[simp] theorem State.setX_rxFree (s : State) (p b n : Nat) (x : Word) : (s.setX p b n x).rxFree = s.rxFree := rfl
@[simp] theorem State.setX_locked (s : State) (p b n : Nat) (x : Word) : (s.setX p b n x).locked = s.locked := rfl
@[simp] theorem State.setX_jrn (s : State) (p b n : Nat) (x : Word) : (s.setX p b n x).jrn = s.jrn := rfl
@[simp] theorem State.setX_draw (s : State) (p b n : Nat) (x : Word) : (s.setX p b n x).draw = s.draw := rfl
@[simp] theorem State.setX_keys (s : State) (p b n : Nat) (x : Word) : (s.setX p b n x).keys = s.keys := rfl
@[simp] theorem State.setX_sec (s : State) (p b n : Nat) (x : Word) : (s.setX p b n x).sec = s.sec := rfl
@[simp] theorem State.setX_bootSt (s : State) (p b n : Nat) (x : Word) : (s.setX p b n x).bootSt = s.bootSt := rfl
@[simp] theorem State.setX_net (s : State) (p b n : Nat) (x : Word) : (s.setX p b n x).net = s.net := rfl
@[simp] theorem State.setX_cwl (s : State) (p b n : Nat) (x : Word) : (s.setX p b n x).cwl = s.cwl := rfl
@[simp] theorem State.setX_pwr (s : State) (p b n : Nat) (x : Word) : (s.setX p b n x).pwr = s.pwr := rfl
@[simp] theorem State.setX_out (s : State) (p b n : Nat) (x : Word) : (s.setX p b n x).out = s.out := rfl
@[simp] theorem State.setX_clk (s : State) (p b n : Nat) (x : Word) : (s.setX p b n x).clk = s.clk := rfl
@[simp] theorem State.setX_time (s : State) (p b n : Nat) (x : Word) : (s.setX p b n x).time = s.time := rfl
@[simp] theorem State.setX_free (s : State) (p b n : Nat) (x : Word) : (s.setX p b n x).free = s.free := rfl
@[simp] theorem State.setX_pending (s : State) (p b n : Nat) (x : Word) : (s.setX p b n x).pending = s.pending := rfl

@[simp] theorem State.setW_mem (s : State) (p b n : Nat) (x : Wide) : (s.setW p b n x).mem = s.mem := rfl
@[simp] theorem State.setW_tags (s : State) (p b n : Nat) (x : Wide) : (s.setW p b n x).tags = s.tags := rfl
@[simp] theorem State.setW_poison (s : State) (p b n : Nat) (x : Wide) : (s.setW p b n x).poison = s.poison := rfl
@[simp] theorem State.setW_latent (s : State) (p b n : Nat) (x : Wide) : (s.setW p b n x).latent = s.latent := rfl
@[simp] theorem State.setW_bitmap (s : State) (p b n : Nat) (x : Wide) : (s.setW p b n x).bitmap = s.bitmap := rfl
@[simp] theorem State.setW_tcm (s : State) (p b n : Nat) (x : Wide) : (s.setW p b n x).tcm = s.tcm := rfl
@[simp] theorem State.setW_tcmTags (s : State) (p b n : Nat) (x : Wide) : (s.setW p b n x).tcmTags = s.tcmTags := rfl
@[simp] theorem State.setW_stale (s : State) (p b n : Nat) (x : Wide) : (s.setW p b n x).stale = s.stale := rfl
@[simp] theorem State.setW_jarr (s : State) (p b n : Nat) (x : Wide) : (s.setW p b n x).jarr = s.jarr := rfl
@[simp] theorem State.setW_boot (s : State) (p b n : Nat) (x : Wide) : (s.setW p b n x).boot = s.boot := rfl
@[simp] theorem State.setW_dev (s : State) (p b n : Nat) (x : Wide) : (s.setW p b n x).dev = s.dev := rfl
@[simp] theorem State.setW_tally (s : State) (p b n : Nat) (x : Wide) : (s.setW p b n x).tally = s.tally := rfl
@[simp] theorem State.setW_evd (s : State) (p b n : Nat) (x : Wide) : (s.setW p b n x).evd = s.evd := rfl
@[simp] theorem State.setW_sweep (s : State) (p b n : Nat) (x : Wide) : (s.setW p b n x).sweep = s.sweep := rfl
@[simp] theorem State.setW_arbs (s : State) (p b n : Nat) (x : Wide) : (s.setW p b n x).arbs = s.arbs := rfl
@[simp] theorem State.setW_notices (s : State) (p b n : Nat) (x : Wide) : (s.setW p b n x).notices = s.notices := rfl
@[simp] theorem State.setW_rxFree (s : State) (p b n : Nat) (x : Wide) : (s.setW p b n x).rxFree = s.rxFree := rfl
@[simp] theorem State.setW_locked (s : State) (p b n : Nat) (x : Wide) : (s.setW p b n x).locked = s.locked := rfl
@[simp] theorem State.setW_jrn (s : State) (p b n : Nat) (x : Wide) : (s.setW p b n x).jrn = s.jrn := rfl
@[simp] theorem State.setW_draw (s : State) (p b n : Nat) (x : Wide) : (s.setW p b n x).draw = s.draw := rfl
@[simp] theorem State.setW_keys (s : State) (p b n : Nat) (x : Wide) : (s.setW p b n x).keys = s.keys := rfl
@[simp] theorem State.setW_sec (s : State) (p b n : Nat) (x : Wide) : (s.setW p b n x).sec = s.sec := rfl
@[simp] theorem State.setW_bootSt (s : State) (p b n : Nat) (x : Wide) : (s.setW p b n x).bootSt = s.bootSt := rfl
@[simp] theorem State.setW_net (s : State) (p b n : Nat) (x : Wide) : (s.setW p b n x).net = s.net := rfl
@[simp] theorem State.setW_cwl (s : State) (p b n : Nat) (x : Wide) : (s.setW p b n x).cwl = s.cwl := rfl
@[simp] theorem State.setW_pwr (s : State) (p b n : Nat) (x : Wide) : (s.setW p b n x).pwr = s.pwr := rfl
@[simp] theorem State.setW_out (s : State) (p b n : Nat) (x : Wide) : (s.setW p b n x).out = s.out := rfl
@[simp] theorem State.setW_clk (s : State) (p b n : Nat) (x : Wide) : (s.setW p b n x).clk = s.clk := rfl
@[simp] theorem State.setW_time (s : State) (p b n : Nat) (x : Wide) : (s.setW p b n x).time = s.time := rfl
@[simp] theorem State.setW_free (s : State) (p b n : Nat) (x : Wide) : (s.setW p b n x).free = s.free := rfl
@[simp] theorem State.setW_pending (s : State) (p b n : Nat) (x : Wide) : (s.setW p b n x).pending = s.pending := rfl

@[simp] theorem State.wr_pairs (s : State) (a : Nat) (v : Word) : (s.wr a v).pairs = s.pairs := rfl
@[simp] theorem State.wr_mem (s : State) (a : Nat) (v : Word) : (s.wr a v).mem = s.mem := rfl
@[simp] theorem State.wr_tags (s : State) (a : Nat) (v : Word) : (s.wr a v).tags = s.tags := rfl
@[simp] theorem State.wr_poison (s : State) (a : Nat) (v : Word) : (s.wr a v).poison = s.poison := rfl
@[simp] theorem State.wr_latent (s : State) (a : Nat) (v : Word) : (s.wr a v).latent = s.latent := rfl
@[simp] theorem State.wr_bitmap (s : State) (a : Nat) (v : Word) : (s.wr a v).bitmap = s.bitmap := rfl
@[simp] theorem State.wr_tcm (s : State) (a : Nat) (v : Word) : (s.wr a v).tcm = s.tcm := rfl
@[simp] theorem State.wr_tcmTags (s : State) (a : Nat) (v : Word) : (s.wr a v).tcmTags = s.tcmTags := rfl
@[simp] theorem State.wr_stale (s : State) (a : Nat) (v : Word) : (s.wr a v).stale = s.stale := rfl
@[simp] theorem State.wr_jarr (s : State) (a : Nat) (v : Word) : (s.wr a v).jarr = s.jarr := rfl
@[simp] theorem State.wr_boot (s : State) (a : Nat) (v : Word) : (s.wr a v).boot = s.boot := rfl
@[simp] theorem State.wr_dev (s : State) (a : Nat) (v : Word) : (s.wr a v).dev = smSet regReset s.dev a v := rfl
@[simp] theorem State.wr_tally (s : State) (a : Nat) (v : Word) : (s.wr a v).tally = s.tally := rfl
@[simp] theorem State.wr_evd (s : State) (a : Nat) (v : Word) : (s.wr a v).evd = s.evd := rfl
@[simp] theorem State.wr_sweep (s : State) (a : Nat) (v : Word) : (s.wr a v).sweep = s.sweep := rfl
@[simp] theorem State.wr_arbs (s : State) (a : Nat) (v : Word) : (s.wr a v).arbs = s.arbs := rfl
@[simp] theorem State.wr_notices (s : State) (a : Nat) (v : Word) : (s.wr a v).notices = s.notices := rfl
@[simp] theorem State.wr_rxFree (s : State) (a : Nat) (v : Word) : (s.wr a v).rxFree = s.rxFree := rfl
@[simp] theorem State.wr_locked (s : State) (a : Nat) (v : Word) : (s.wr a v).locked = s.locked := rfl
@[simp] theorem State.wr_jrn (s : State) (a : Nat) (v : Word) : (s.wr a v).jrn = s.jrn := rfl
@[simp] theorem State.wr_draw (s : State) (a : Nat) (v : Word) : (s.wr a v).draw = s.draw := rfl
@[simp] theorem State.wr_keys (s : State) (a : Nat) (v : Word) : (s.wr a v).keys = s.keys := rfl
@[simp] theorem State.wr_sec (s : State) (a : Nat) (v : Word) : (s.wr a v).sec = s.sec := rfl
@[simp] theorem State.wr_bootSt (s : State) (a : Nat) (v : Word) : (s.wr a v).bootSt = s.bootSt := rfl
@[simp] theorem State.wr_net (s : State) (a : Nat) (v : Word) : (s.wr a v).net = s.net := rfl
@[simp] theorem State.wr_cwl (s : State) (a : Nat) (v : Word) : (s.wr a v).cwl = s.cwl := rfl
@[simp] theorem State.wr_pwr (s : State) (a : Nat) (v : Word) : (s.wr a v).pwr = s.pwr := rfl
@[simp] theorem State.wr_out (s : State) (a : Nat) (v : Word) : (s.wr a v).out = s.out := rfl
@[simp] theorem State.wr_clk (s : State) (a : Nat) (v : Word) : (s.wr a v).clk = s.clk := rfl
@[simp] theorem State.wr_time (s : State) (a : Nat) (v : Word) : (s.wr a v).time = s.time := rfl
@[simp] theorem State.wr_free (s : State) (a : Nat) (v : Word) : (s.wr a v).free = s.free := rfl
@[simp] theorem State.wr_pending (s : State) (a : Nat) (v : Word) : (s.wr a v).pending = s.pending := rfl

@[simp] theorem State.setFld_pairs (s : State) (a lo w v : Nat) : (s.setFld a lo w v).pairs = s.pairs := rfl
@[simp] theorem State.setFld_mem (s : State) (a lo w v : Nat) : (s.setFld a lo w v).mem = s.mem := rfl
@[simp] theorem State.setFld_tags (s : State) (a lo w v : Nat) : (s.setFld a lo w v).tags = s.tags := rfl
@[simp] theorem State.setFld_poison (s : State) (a lo w v : Nat) : (s.setFld a lo w v).poison = s.poison := rfl
@[simp] theorem State.setFld_latent (s : State) (a lo w v : Nat) : (s.setFld a lo w v).latent = s.latent := rfl
@[simp] theorem State.setFld_bitmap (s : State) (a lo w v : Nat) : (s.setFld a lo w v).bitmap = s.bitmap := rfl
@[simp] theorem State.setFld_tcm (s : State) (a lo w v : Nat) : (s.setFld a lo w v).tcm = s.tcm := rfl
@[simp] theorem State.setFld_tcmTags (s : State) (a lo w v : Nat) : (s.setFld a lo w v).tcmTags = s.tcmTags := rfl
@[simp] theorem State.setFld_stale (s : State) (a lo w v : Nat) : (s.setFld a lo w v).stale = s.stale := rfl
@[simp] theorem State.setFld_jarr (s : State) (a lo w v : Nat) : (s.setFld a lo w v).jarr = s.jarr := rfl
@[simp] theorem State.setFld_boot (s : State) (a lo w v : Nat) : (s.setFld a lo w v).boot = s.boot := rfl
@[simp] theorem State.setFld_tally (s : State) (a lo w v : Nat) : (s.setFld a lo w v).tally = s.tally := rfl
@[simp] theorem State.setFld_evd (s : State) (a lo w v : Nat) : (s.setFld a lo w v).evd = s.evd := rfl
@[simp] theorem State.setFld_sweep (s : State) (a lo w v : Nat) : (s.setFld a lo w v).sweep = s.sweep := rfl
@[simp] theorem State.setFld_arbs (s : State) (a lo w v : Nat) : (s.setFld a lo w v).arbs = s.arbs := rfl
@[simp] theorem State.setFld_notices (s : State) (a lo w v : Nat) : (s.setFld a lo w v).notices = s.notices := rfl
@[simp] theorem State.setFld_rxFree (s : State) (a lo w v : Nat) : (s.setFld a lo w v).rxFree = s.rxFree := rfl
@[simp] theorem State.setFld_locked (s : State) (a lo w v : Nat) : (s.setFld a lo w v).locked = s.locked := rfl
@[simp] theorem State.setFld_jrn (s : State) (a lo w v : Nat) : (s.setFld a lo w v).jrn = s.jrn := rfl
@[simp] theorem State.setFld_draw (s : State) (a lo w v : Nat) : (s.setFld a lo w v).draw = s.draw := rfl
@[simp] theorem State.setFld_keys (s : State) (a lo w v : Nat) : (s.setFld a lo w v).keys = s.keys := rfl
@[simp] theorem State.setFld_sec (s : State) (a lo w v : Nat) : (s.setFld a lo w v).sec = s.sec := rfl
@[simp] theorem State.setFld_bootSt (s : State) (a lo w v : Nat) : (s.setFld a lo w v).bootSt = s.bootSt := rfl
@[simp] theorem State.setFld_net (s : State) (a lo w v : Nat) : (s.setFld a lo w v).net = s.net := rfl
@[simp] theorem State.setFld_cwl (s : State) (a lo w v : Nat) : (s.setFld a lo w v).cwl = s.cwl := rfl
@[simp] theorem State.setFld_pwr (s : State) (a lo w v : Nat) : (s.setFld a lo w v).pwr = s.pwr := rfl
@[simp] theorem State.setFld_out (s : State) (a lo w v : Nat) : (s.setFld a lo w v).out = s.out := rfl
@[simp] theorem State.setFld_clk (s : State) (a lo w v : Nat) : (s.setFld a lo w v).clk = s.clk := rfl
@[simp] theorem State.setFld_time (s : State) (a lo w v : Nat) : (s.setFld a lo w v).time = s.time := rfl
@[simp] theorem State.setFld_free (s : State) (a lo w v : Nat) : (s.setFld a lo w v).free = s.free := rfl
@[simp] theorem State.setFld_pending (s : State) (a lo w v : Nat) : (s.setFld a lo w v).pending = s.pending := rfl

@[simp] theorem State.setBit_pairs (s : State) (a i : Nat) : (s.setBit a i).pairs = s.pairs := rfl
@[simp] theorem State.setBit_mem (s : State) (a i : Nat) : (s.setBit a i).mem = s.mem := rfl
@[simp] theorem State.setBit_tags (s : State) (a i : Nat) : (s.setBit a i).tags = s.tags := rfl
@[simp] theorem State.setBit_poison (s : State) (a i : Nat) : (s.setBit a i).poison = s.poison := rfl
@[simp] theorem State.setBit_latent (s : State) (a i : Nat) : (s.setBit a i).latent = s.latent := rfl
@[simp] theorem State.setBit_bitmap (s : State) (a i : Nat) : (s.setBit a i).bitmap = s.bitmap := rfl
@[simp] theorem State.setBit_tcm (s : State) (a i : Nat) : (s.setBit a i).tcm = s.tcm := rfl
@[simp] theorem State.setBit_tcmTags (s : State) (a i : Nat) : (s.setBit a i).tcmTags = s.tcmTags := rfl
@[simp] theorem State.setBit_stale (s : State) (a i : Nat) : (s.setBit a i).stale = s.stale := rfl
@[simp] theorem State.setBit_jarr (s : State) (a i : Nat) : (s.setBit a i).jarr = s.jarr := rfl
@[simp] theorem State.setBit_boot (s : State) (a i : Nat) : (s.setBit a i).boot = s.boot := rfl
@[simp] theorem State.setBit_tally (s : State) (a i : Nat) : (s.setBit a i).tally = s.tally := rfl
@[simp] theorem State.setBit_evd (s : State) (a i : Nat) : (s.setBit a i).evd = s.evd := rfl
@[simp] theorem State.setBit_sweep (s : State) (a i : Nat) : (s.setBit a i).sweep = s.sweep := rfl
@[simp] theorem State.setBit_arbs (s : State) (a i : Nat) : (s.setBit a i).arbs = s.arbs := rfl
@[simp] theorem State.setBit_notices (s : State) (a i : Nat) : (s.setBit a i).notices = s.notices := rfl
@[simp] theorem State.setBit_rxFree (s : State) (a i : Nat) : (s.setBit a i).rxFree = s.rxFree := rfl
@[simp] theorem State.setBit_locked (s : State) (a i : Nat) : (s.setBit a i).locked = s.locked := rfl
@[simp] theorem State.setBit_jrn (s : State) (a i : Nat) : (s.setBit a i).jrn = s.jrn := rfl
@[simp] theorem State.setBit_draw (s : State) (a i : Nat) : (s.setBit a i).draw = s.draw := rfl
@[simp] theorem State.setBit_keys (s : State) (a i : Nat) : (s.setBit a i).keys = s.keys := rfl
@[simp] theorem State.setBit_sec (s : State) (a i : Nat) : (s.setBit a i).sec = s.sec := rfl
@[simp] theorem State.setBit_bootSt (s : State) (a i : Nat) : (s.setBit a i).bootSt = s.bootSt := rfl
@[simp] theorem State.setBit_net (s : State) (a i : Nat) : (s.setBit a i).net = s.net := rfl
@[simp] theorem State.setBit_cwl (s : State) (a i : Nat) : (s.setBit a i).cwl = s.cwl := rfl
@[simp] theorem State.setBit_pwr (s : State) (a i : Nat) : (s.setBit a i).pwr = s.pwr := rfl
@[simp] theorem State.setBit_out (s : State) (a i : Nat) : (s.setBit a i).out = s.out := rfl
@[simp] theorem State.setBit_clk (s : State) (a i : Nat) : (s.setBit a i).clk = s.clk := rfl
@[simp] theorem State.setBit_time (s : State) (a i : Nat) : (s.setBit a i).time = s.time := rfl
@[simp] theorem State.setBit_free (s : State) (a i : Nat) : (s.setBit a i).free = s.free := rfl
@[simp] theorem State.setBit_pending (s : State) (a i : Nat) : (s.setBit a i).pending = s.pending := rfl

@[simp] theorem State.bumpF_pairs (s : State) (a lo w : Nat) : (s.bumpF a lo w).pairs = s.pairs := rfl
@[simp] theorem State.bumpF_mem (s : State) (a lo w : Nat) : (s.bumpF a lo w).mem = s.mem := rfl
@[simp] theorem State.bumpF_tags (s : State) (a lo w : Nat) : (s.bumpF a lo w).tags = s.tags := rfl
@[simp] theorem State.bumpF_poison (s : State) (a lo w : Nat) : (s.bumpF a lo w).poison = s.poison := rfl
@[simp] theorem State.bumpF_latent (s : State) (a lo w : Nat) : (s.bumpF a lo w).latent = s.latent := rfl
@[simp] theorem State.bumpF_bitmap (s : State) (a lo w : Nat) : (s.bumpF a lo w).bitmap = s.bitmap := rfl
@[simp] theorem State.bumpF_tcm (s : State) (a lo w : Nat) : (s.bumpF a lo w).tcm = s.tcm := rfl
@[simp] theorem State.bumpF_tcmTags (s : State) (a lo w : Nat) : (s.bumpF a lo w).tcmTags = s.tcmTags := rfl
@[simp] theorem State.bumpF_stale (s : State) (a lo w : Nat) : (s.bumpF a lo w).stale = s.stale := rfl
@[simp] theorem State.bumpF_jarr (s : State) (a lo w : Nat) : (s.bumpF a lo w).jarr = s.jarr := rfl
@[simp] theorem State.bumpF_boot (s : State) (a lo w : Nat) : (s.bumpF a lo w).boot = s.boot := rfl
@[simp] theorem State.bumpF_tally (s : State) (a lo w : Nat) : (s.bumpF a lo w).tally = s.tally := rfl
@[simp] theorem State.bumpF_evd (s : State) (a lo w : Nat) : (s.bumpF a lo w).evd = s.evd := rfl
@[simp] theorem State.bumpF_sweep (s : State) (a lo w : Nat) : (s.bumpF a lo w).sweep = s.sweep := rfl
@[simp] theorem State.bumpF_arbs (s : State) (a lo w : Nat) : (s.bumpF a lo w).arbs = s.arbs := rfl
@[simp] theorem State.bumpF_notices (s : State) (a lo w : Nat) : (s.bumpF a lo w).notices = s.notices := rfl
@[simp] theorem State.bumpF_rxFree (s : State) (a lo w : Nat) : (s.bumpF a lo w).rxFree = s.rxFree := rfl
@[simp] theorem State.bumpF_locked (s : State) (a lo w : Nat) : (s.bumpF a lo w).locked = s.locked := rfl
@[simp] theorem State.bumpF_jrn (s : State) (a lo w : Nat) : (s.bumpF a lo w).jrn = s.jrn := rfl
@[simp] theorem State.bumpF_draw (s : State) (a lo w : Nat) : (s.bumpF a lo w).draw = s.draw := rfl
@[simp] theorem State.bumpF_keys (s : State) (a lo w : Nat) : (s.bumpF a lo w).keys = s.keys := rfl
@[simp] theorem State.bumpF_sec (s : State) (a lo w : Nat) : (s.bumpF a lo w).sec = s.sec := rfl
@[simp] theorem State.bumpF_bootSt (s : State) (a lo w : Nat) : (s.bumpF a lo w).bootSt = s.bootSt := rfl
@[simp] theorem State.bumpF_net (s : State) (a lo w : Nat) : (s.bumpF a lo w).net = s.net := rfl
@[simp] theorem State.bumpF_cwl (s : State) (a lo w : Nat) : (s.bumpF a lo w).cwl = s.cwl := rfl
@[simp] theorem State.bumpF_pwr (s : State) (a lo w : Nat) : (s.bumpF a lo w).pwr = s.pwr := rfl
@[simp] theorem State.bumpF_out (s : State) (a lo w : Nat) : (s.bumpF a lo w).out = s.out := rfl
@[simp] theorem State.bumpF_clk (s : State) (a lo w : Nat) : (s.bumpF a lo w).clk = s.clk := rfl
@[simp] theorem State.bumpF_time (s : State) (a lo w : Nat) : (s.bumpF a lo w).time = s.time := rfl
@[simp] theorem State.bumpF_free (s : State) (a lo w : Nat) : (s.bumpF a lo w).free = s.free := rfl
@[simp] theorem State.bumpF_pending (s : State) (a lo w : Nat) : (s.bumpF a lo w).pending = s.pending := rfl

@[simp] theorem State.bump_pairs (s : State) (a : Nat) : (s.bump a).pairs = s.pairs := rfl
@[simp] theorem State.bump_mem (s : State) (a : Nat) : (s.bump a).mem = s.mem := rfl
@[simp] theorem State.bump_tags (s : State) (a : Nat) : (s.bump a).tags = s.tags := rfl
@[simp] theorem State.bump_poison (s : State) (a : Nat) : (s.bump a).poison = s.poison := rfl
@[simp] theorem State.bump_latent (s : State) (a : Nat) : (s.bump a).latent = s.latent := rfl
@[simp] theorem State.bump_bitmap (s : State) (a : Nat) : (s.bump a).bitmap = s.bitmap := rfl
@[simp] theorem State.bump_tcm (s : State) (a : Nat) : (s.bump a).tcm = s.tcm := rfl
@[simp] theorem State.bump_tcmTags (s : State) (a : Nat) : (s.bump a).tcmTags = s.tcmTags := rfl
@[simp] theorem State.bump_stale (s : State) (a : Nat) : (s.bump a).stale = s.stale := rfl
@[simp] theorem State.bump_jarr (s : State) (a : Nat) : (s.bump a).jarr = s.jarr := rfl
@[simp] theorem State.bump_boot (s : State) (a : Nat) : (s.bump a).boot = s.boot := rfl
@[simp] theorem State.bump_tally (s : State) (a : Nat) : (s.bump a).tally = s.tally := rfl
@[simp] theorem State.bump_evd (s : State) (a : Nat) : (s.bump a).evd = s.evd := rfl
@[simp] theorem State.bump_sweep (s : State) (a : Nat) : (s.bump a).sweep = s.sweep := rfl
@[simp] theorem State.bump_arbs (s : State) (a : Nat) : (s.bump a).arbs = s.arbs := rfl
@[simp] theorem State.bump_notices (s : State) (a : Nat) : (s.bump a).notices = s.notices := rfl
@[simp] theorem State.bump_rxFree (s : State) (a : Nat) : (s.bump a).rxFree = s.rxFree := rfl
@[simp] theorem State.bump_locked (s : State) (a : Nat) : (s.bump a).locked = s.locked := rfl
@[simp] theorem State.bump_jrn (s : State) (a : Nat) : (s.bump a).jrn = s.jrn := rfl
@[simp] theorem State.bump_draw (s : State) (a : Nat) : (s.bump a).draw = s.draw := rfl
@[simp] theorem State.bump_keys (s : State) (a : Nat) : (s.bump a).keys = s.keys := rfl
@[simp] theorem State.bump_sec (s : State) (a : Nat) : (s.bump a).sec = s.sec := rfl
@[simp] theorem State.bump_bootSt (s : State) (a : Nat) : (s.bump a).bootSt = s.bootSt := rfl
@[simp] theorem State.bump_net (s : State) (a : Nat) : (s.bump a).net = s.net := rfl
@[simp] theorem State.bump_cwl (s : State) (a : Nat) : (s.bump a).cwl = s.cwl := rfl
@[simp] theorem State.bump_pwr (s : State) (a : Nat) : (s.bump a).pwr = s.pwr := rfl
@[simp] theorem State.bump_out (s : State) (a : Nat) : (s.bump a).out = s.out := rfl
@[simp] theorem State.bump_clk (s : State) (a : Nat) : (s.bump a).clk = s.clk := rfl
@[simp] theorem State.bump_time (s : State) (a : Nat) : (s.bump a).time = s.time := rfl
@[simp] theorem State.bump_free (s : State) (a : Nat) : (s.bump a).free = s.free := rfl
@[simp] theorem State.bump_pending (s : State) (a : Nat) : (s.bump a).pending = s.pending := rfl

@[simp] theorem State.updSec_pairs (s : State) (f : Sec → Sec) : (s.updSec f).pairs = s.pairs := rfl
@[simp] theorem State.updSec_mem (s : State) (f : Sec → Sec) : (s.updSec f).mem = s.mem := rfl
@[simp] theorem State.updSec_tags (s : State) (f : Sec → Sec) : (s.updSec f).tags = s.tags := rfl
@[simp] theorem State.updSec_poison (s : State) (f : Sec → Sec) : (s.updSec f).poison = s.poison := rfl
@[simp] theorem State.updSec_latent (s : State) (f : Sec → Sec) : (s.updSec f).latent = s.latent := rfl
@[simp] theorem State.updSec_bitmap (s : State) (f : Sec → Sec) : (s.updSec f).bitmap = s.bitmap := rfl
@[simp] theorem State.updSec_tcm (s : State) (f : Sec → Sec) : (s.updSec f).tcm = s.tcm := rfl
@[simp] theorem State.updSec_tcmTags (s : State) (f : Sec → Sec) : (s.updSec f).tcmTags = s.tcmTags := rfl
@[simp] theorem State.updSec_stale (s : State) (f : Sec → Sec) : (s.updSec f).stale = s.stale := rfl
@[simp] theorem State.updSec_jarr (s : State) (f : Sec → Sec) : (s.updSec f).jarr = s.jarr := rfl
@[simp] theorem State.updSec_boot (s : State) (f : Sec → Sec) : (s.updSec f).boot = s.boot := rfl
@[simp] theorem State.updSec_dev (s : State) (f : Sec → Sec) : (s.updSec f).dev = s.dev := rfl
@[simp] theorem State.updSec_tally (s : State) (f : Sec → Sec) : (s.updSec f).tally = s.tally := rfl
@[simp] theorem State.updSec_evd (s : State) (f : Sec → Sec) : (s.updSec f).evd = s.evd := rfl
@[simp] theorem State.updSec_sweep (s : State) (f : Sec → Sec) : (s.updSec f).sweep = s.sweep := rfl
@[simp] theorem State.updSec_arbs (s : State) (f : Sec → Sec) : (s.updSec f).arbs = s.arbs := rfl
@[simp] theorem State.updSec_notices (s : State) (f : Sec → Sec) : (s.updSec f).notices = s.notices := rfl
@[simp] theorem State.updSec_rxFree (s : State) (f : Sec → Sec) : (s.updSec f).rxFree = s.rxFree := rfl
@[simp] theorem State.updSec_locked (s : State) (f : Sec → Sec) : (s.updSec f).locked = s.locked := rfl
@[simp] theorem State.updSec_jrn (s : State) (f : Sec → Sec) : (s.updSec f).jrn = s.jrn := rfl
@[simp] theorem State.updSec_draw (s : State) (f : Sec → Sec) : (s.updSec f).draw = s.draw := rfl
@[simp] theorem State.updSec_keys (s : State) (f : Sec → Sec) : (s.updSec f).keys = s.keys := rfl
@[simp] theorem State.updSec_sec (s : State) (f : Sec → Sec) : (s.updSec f).sec = f s.sec := rfl
@[simp] theorem State.updSec_bootSt (s : State) (f : Sec → Sec) : (s.updSec f).bootSt = s.bootSt := rfl
@[simp] theorem State.updSec_net (s : State) (f : Sec → Sec) : (s.updSec f).net = s.net := rfl
@[simp] theorem State.updSec_cwl (s : State) (f : Sec → Sec) : (s.updSec f).cwl = s.cwl := rfl
@[simp] theorem State.updSec_pwr (s : State) (f : Sec → Sec) : (s.updSec f).pwr = s.pwr := rfl
@[simp] theorem State.updSec_out (s : State) (f : Sec → Sec) : (s.updSec f).out = s.out := rfl
@[simp] theorem State.updSec_clk (s : State) (f : Sec → Sec) : (s.updSec f).clk = s.clk := rfl
@[simp] theorem State.updSec_time (s : State) (f : Sec → Sec) : (s.updSec f).time = s.time := rfl
@[simp] theorem State.updSec_free (s : State) (f : Sec → Sec) : (s.updSec f).free = s.free := rfl
@[simp] theorem State.updSec_pending (s : State) (f : Sec → Sec) : (s.updSec f).pending = s.pending := rfl

@[simp] theorem State.updKeys_pairs (s : State) (f : KeyStore → KeyStore) : (s.updKeys f).pairs = s.pairs := rfl
@[simp] theorem State.updKeys_mem (s : State) (f : KeyStore → KeyStore) : (s.updKeys f).mem = s.mem := rfl
@[simp] theorem State.updKeys_tags (s : State) (f : KeyStore → KeyStore) : (s.updKeys f).tags = s.tags := rfl
@[simp] theorem State.updKeys_poison (s : State) (f : KeyStore → KeyStore) : (s.updKeys f).poison = s.poison := rfl
@[simp] theorem State.updKeys_latent (s : State) (f : KeyStore → KeyStore) : (s.updKeys f).latent = s.latent := rfl
@[simp] theorem State.updKeys_bitmap (s : State) (f : KeyStore → KeyStore) : (s.updKeys f).bitmap = s.bitmap := rfl
@[simp] theorem State.updKeys_tcm (s : State) (f : KeyStore → KeyStore) : (s.updKeys f).tcm = s.tcm := rfl
@[simp] theorem State.updKeys_tcmTags (s : State) (f : KeyStore → KeyStore) : (s.updKeys f).tcmTags = s.tcmTags := rfl
@[simp] theorem State.updKeys_stale (s : State) (f : KeyStore → KeyStore) : (s.updKeys f).stale = s.stale := rfl
@[simp] theorem State.updKeys_jarr (s : State) (f : KeyStore → KeyStore) : (s.updKeys f).jarr = s.jarr := rfl
@[simp] theorem State.updKeys_boot (s : State) (f : KeyStore → KeyStore) : (s.updKeys f).boot = s.boot := rfl
@[simp] theorem State.updKeys_dev (s : State) (f : KeyStore → KeyStore) : (s.updKeys f).dev = s.dev := rfl
@[simp] theorem State.updKeys_tally (s : State) (f : KeyStore → KeyStore) : (s.updKeys f).tally = s.tally := rfl
@[simp] theorem State.updKeys_evd (s : State) (f : KeyStore → KeyStore) : (s.updKeys f).evd = s.evd := rfl
@[simp] theorem State.updKeys_sweep (s : State) (f : KeyStore → KeyStore) : (s.updKeys f).sweep = s.sweep := rfl
@[simp] theorem State.updKeys_arbs (s : State) (f : KeyStore → KeyStore) : (s.updKeys f).arbs = s.arbs := rfl
@[simp] theorem State.updKeys_notices (s : State) (f : KeyStore → KeyStore) : (s.updKeys f).notices = s.notices := rfl
@[simp] theorem State.updKeys_rxFree (s : State) (f : KeyStore → KeyStore) : (s.updKeys f).rxFree = s.rxFree := rfl
@[simp] theorem State.updKeys_locked (s : State) (f : KeyStore → KeyStore) : (s.updKeys f).locked = s.locked := rfl
@[simp] theorem State.updKeys_jrn (s : State) (f : KeyStore → KeyStore) : (s.updKeys f).jrn = s.jrn := rfl
@[simp] theorem State.updKeys_draw (s : State) (f : KeyStore → KeyStore) : (s.updKeys f).draw = s.draw := rfl
@[simp] theorem State.updKeys_keys (s : State) (f : KeyStore → KeyStore) : (s.updKeys f).keys = f s.keys := rfl
@[simp] theorem State.updKeys_sec (s : State) (f : KeyStore → KeyStore) : (s.updKeys f).sec = s.sec := rfl
@[simp] theorem State.updKeys_bootSt (s : State) (f : KeyStore → KeyStore) : (s.updKeys f).bootSt = s.bootSt := rfl
@[simp] theorem State.updKeys_net (s : State) (f : KeyStore → KeyStore) : (s.updKeys f).net = s.net := rfl
@[simp] theorem State.updKeys_cwl (s : State) (f : KeyStore → KeyStore) : (s.updKeys f).cwl = s.cwl := rfl
@[simp] theorem State.updKeys_pwr (s : State) (f : KeyStore → KeyStore) : (s.updKeys f).pwr = s.pwr := rfl
@[simp] theorem State.updKeys_out (s : State) (f : KeyStore → KeyStore) : (s.updKeys f).out = s.out := rfl
@[simp] theorem State.updKeys_clk (s : State) (f : KeyStore → KeyStore) : (s.updKeys f).clk = s.clk := rfl
@[simp] theorem State.updKeys_time (s : State) (f : KeyStore → KeyStore) : (s.updKeys f).time = s.time := rfl
@[simp] theorem State.updKeys_free (s : State) (f : KeyStore → KeyStore) : (s.updKeys f).free = s.free := rfl
@[simp] theorem State.updKeys_pending (s : State) (f : KeyStore → KeyStore) : (s.updKeys f).pending = s.pending := rfl

@[simp] theorem State.updBoot_pairs (s : State) (f : BootUnit → BootUnit) : (s.updBoot f).pairs = s.pairs := rfl
@[simp] theorem State.updBoot_mem (s : State) (f : BootUnit → BootUnit) : (s.updBoot f).mem = s.mem := rfl
@[simp] theorem State.updBoot_tags (s : State) (f : BootUnit → BootUnit) : (s.updBoot f).tags = s.tags := rfl
@[simp] theorem State.updBoot_poison (s : State) (f : BootUnit → BootUnit) : (s.updBoot f).poison = s.poison := rfl
@[simp] theorem State.updBoot_latent (s : State) (f : BootUnit → BootUnit) : (s.updBoot f).latent = s.latent := rfl
@[simp] theorem State.updBoot_bitmap (s : State) (f : BootUnit → BootUnit) : (s.updBoot f).bitmap = s.bitmap := rfl
@[simp] theorem State.updBoot_tcm (s : State) (f : BootUnit → BootUnit) : (s.updBoot f).tcm = s.tcm := rfl
@[simp] theorem State.updBoot_tcmTags (s : State) (f : BootUnit → BootUnit) : (s.updBoot f).tcmTags = s.tcmTags := rfl
@[simp] theorem State.updBoot_stale (s : State) (f : BootUnit → BootUnit) : (s.updBoot f).stale = s.stale := rfl
@[simp] theorem State.updBoot_jarr (s : State) (f : BootUnit → BootUnit) : (s.updBoot f).jarr = s.jarr := rfl
@[simp] theorem State.updBoot_boot (s : State) (f : BootUnit → BootUnit) : (s.updBoot f).boot = s.boot := rfl
@[simp] theorem State.updBoot_dev (s : State) (f : BootUnit → BootUnit) : (s.updBoot f).dev = s.dev := rfl
@[simp] theorem State.updBoot_tally (s : State) (f : BootUnit → BootUnit) : (s.updBoot f).tally = s.tally := rfl
@[simp] theorem State.updBoot_evd (s : State) (f : BootUnit → BootUnit) : (s.updBoot f).evd = s.evd := rfl
@[simp] theorem State.updBoot_sweep (s : State) (f : BootUnit → BootUnit) : (s.updBoot f).sweep = s.sweep := rfl
@[simp] theorem State.updBoot_arbs (s : State) (f : BootUnit → BootUnit) : (s.updBoot f).arbs = s.arbs := rfl
@[simp] theorem State.updBoot_notices (s : State) (f : BootUnit → BootUnit) : (s.updBoot f).notices = s.notices := rfl
@[simp] theorem State.updBoot_rxFree (s : State) (f : BootUnit → BootUnit) : (s.updBoot f).rxFree = s.rxFree := rfl
@[simp] theorem State.updBoot_locked (s : State) (f : BootUnit → BootUnit) : (s.updBoot f).locked = s.locked := rfl
@[simp] theorem State.updBoot_jrn (s : State) (f : BootUnit → BootUnit) : (s.updBoot f).jrn = s.jrn := rfl
@[simp] theorem State.updBoot_draw (s : State) (f : BootUnit → BootUnit) : (s.updBoot f).draw = s.draw := rfl
@[simp] theorem State.updBoot_keys (s : State) (f : BootUnit → BootUnit) : (s.updBoot f).keys = s.keys := rfl
@[simp] theorem State.updBoot_sec (s : State) (f : BootUnit → BootUnit) : (s.updBoot f).sec = s.sec := rfl
@[simp] theorem State.updBoot_bootSt (s : State) (f : BootUnit → BootUnit) : (s.updBoot f).bootSt = f s.bootSt := rfl
@[simp] theorem State.updBoot_net (s : State) (f : BootUnit → BootUnit) : (s.updBoot f).net = s.net := rfl
@[simp] theorem State.updBoot_cwl (s : State) (f : BootUnit → BootUnit) : (s.updBoot f).cwl = s.cwl := rfl
@[simp] theorem State.updBoot_pwr (s : State) (f : BootUnit → BootUnit) : (s.updBoot f).pwr = s.pwr := rfl
@[simp] theorem State.updBoot_out (s : State) (f : BootUnit → BootUnit) : (s.updBoot f).out = s.out := rfl
@[simp] theorem State.updBoot_clk (s : State) (f : BootUnit → BootUnit) : (s.updBoot f).clk = s.clk := rfl
@[simp] theorem State.updBoot_time (s : State) (f : BootUnit → BootUnit) : (s.updBoot f).time = s.time := rfl
@[simp] theorem State.updBoot_free (s : State) (f : BootUnit → BootUnit) : (s.updBoot f).free = s.free := rfl
@[simp] theorem State.updBoot_pending (s : State) (f : BootUnit → BootUnit) : (s.updBoot f).pending = s.pending := rfl

@[simp] theorem State.updDraw_pairs (s : State) (f : Draw → Draw) : (s.updDraw f).pairs = s.pairs := rfl
@[simp] theorem State.updDraw_mem (s : State) (f : Draw → Draw) : (s.updDraw f).mem = s.mem := rfl
@[simp] theorem State.updDraw_tags (s : State) (f : Draw → Draw) : (s.updDraw f).tags = s.tags := rfl
@[simp] theorem State.updDraw_poison (s : State) (f : Draw → Draw) : (s.updDraw f).poison = s.poison := rfl
@[simp] theorem State.updDraw_latent (s : State) (f : Draw → Draw) : (s.updDraw f).latent = s.latent := rfl
@[simp] theorem State.updDraw_bitmap (s : State) (f : Draw → Draw) : (s.updDraw f).bitmap = s.bitmap := rfl
@[simp] theorem State.updDraw_tcm (s : State) (f : Draw → Draw) : (s.updDraw f).tcm = s.tcm := rfl
@[simp] theorem State.updDraw_tcmTags (s : State) (f : Draw → Draw) : (s.updDraw f).tcmTags = s.tcmTags := rfl
@[simp] theorem State.updDraw_stale (s : State) (f : Draw → Draw) : (s.updDraw f).stale = s.stale := rfl
@[simp] theorem State.updDraw_jarr (s : State) (f : Draw → Draw) : (s.updDraw f).jarr = s.jarr := rfl
@[simp] theorem State.updDraw_boot (s : State) (f : Draw → Draw) : (s.updDraw f).boot = s.boot := rfl
@[simp] theorem State.updDraw_dev (s : State) (f : Draw → Draw) : (s.updDraw f).dev = s.dev := rfl
@[simp] theorem State.updDraw_tally (s : State) (f : Draw → Draw) : (s.updDraw f).tally = s.tally := rfl
@[simp] theorem State.updDraw_evd (s : State) (f : Draw → Draw) : (s.updDraw f).evd = s.evd := rfl
@[simp] theorem State.updDraw_sweep (s : State) (f : Draw → Draw) : (s.updDraw f).sweep = s.sweep := rfl
@[simp] theorem State.updDraw_arbs (s : State) (f : Draw → Draw) : (s.updDraw f).arbs = s.arbs := rfl
@[simp] theorem State.updDraw_notices (s : State) (f : Draw → Draw) : (s.updDraw f).notices = s.notices := rfl
@[simp] theorem State.updDraw_rxFree (s : State) (f : Draw → Draw) : (s.updDraw f).rxFree = s.rxFree := rfl
@[simp] theorem State.updDraw_locked (s : State) (f : Draw → Draw) : (s.updDraw f).locked = s.locked := rfl
@[simp] theorem State.updDraw_jrn (s : State) (f : Draw → Draw) : (s.updDraw f).jrn = s.jrn := rfl
@[simp] theorem State.updDraw_draw (s : State) (f : Draw → Draw) : (s.updDraw f).draw = f s.draw := rfl
@[simp] theorem State.updDraw_keys (s : State) (f : Draw → Draw) : (s.updDraw f).keys = s.keys := rfl
@[simp] theorem State.updDraw_sec (s : State) (f : Draw → Draw) : (s.updDraw f).sec = s.sec := rfl
@[simp] theorem State.updDraw_bootSt (s : State) (f : Draw → Draw) : (s.updDraw f).bootSt = s.bootSt := rfl
@[simp] theorem State.updDraw_net (s : State) (f : Draw → Draw) : (s.updDraw f).net = s.net := rfl
@[simp] theorem State.updDraw_cwl (s : State) (f : Draw → Draw) : (s.updDraw f).cwl = s.cwl := rfl
@[simp] theorem State.updDraw_pwr (s : State) (f : Draw → Draw) : (s.updDraw f).pwr = s.pwr := rfl
@[simp] theorem State.updDraw_out (s : State) (f : Draw → Draw) : (s.updDraw f).out = s.out := rfl
@[simp] theorem State.updDraw_clk (s : State) (f : Draw → Draw) : (s.updDraw f).clk = s.clk := rfl
@[simp] theorem State.updDraw_time (s : State) (f : Draw → Draw) : (s.updDraw f).time = s.time := rfl
@[simp] theorem State.updDraw_free (s : State) (f : Draw → Draw) : (s.updDraw f).free = s.free := rfl
@[simp] theorem State.updDraw_pending (s : State) (f : Draw → Draw) : (s.updDraw f).pending = s.pending := rfl

@[simp] theorem State.updSweep_pairs (s : State) (f : Sweeper → Sweeper) : (s.updSweep f).pairs = s.pairs := rfl
@[simp] theorem State.updSweep_mem (s : State) (f : Sweeper → Sweeper) : (s.updSweep f).mem = s.mem := rfl
@[simp] theorem State.updSweep_tags (s : State) (f : Sweeper → Sweeper) : (s.updSweep f).tags = s.tags := rfl
@[simp] theorem State.updSweep_poison (s : State) (f : Sweeper → Sweeper) : (s.updSweep f).poison = s.poison := rfl
@[simp] theorem State.updSweep_latent (s : State) (f : Sweeper → Sweeper) : (s.updSweep f).latent = s.latent := rfl
@[simp] theorem State.updSweep_bitmap (s : State) (f : Sweeper → Sweeper) : (s.updSweep f).bitmap = s.bitmap := rfl
@[simp] theorem State.updSweep_tcm (s : State) (f : Sweeper → Sweeper) : (s.updSweep f).tcm = s.tcm := rfl
@[simp] theorem State.updSweep_tcmTags (s : State) (f : Sweeper → Sweeper) : (s.updSweep f).tcmTags = s.tcmTags := rfl
@[simp] theorem State.updSweep_stale (s : State) (f : Sweeper → Sweeper) : (s.updSweep f).stale = s.stale := rfl
@[simp] theorem State.updSweep_jarr (s : State) (f : Sweeper → Sweeper) : (s.updSweep f).jarr = s.jarr := rfl
@[simp] theorem State.updSweep_boot (s : State) (f : Sweeper → Sweeper) : (s.updSweep f).boot = s.boot := rfl
@[simp] theorem State.updSweep_dev (s : State) (f : Sweeper → Sweeper) : (s.updSweep f).dev = s.dev := rfl
@[simp] theorem State.updSweep_tally (s : State) (f : Sweeper → Sweeper) : (s.updSweep f).tally = s.tally := rfl
@[simp] theorem State.updSweep_evd (s : State) (f : Sweeper → Sweeper) : (s.updSweep f).evd = s.evd := rfl
@[simp] theorem State.updSweep_sweep (s : State) (f : Sweeper → Sweeper) : (s.updSweep f).sweep = f s.sweep := rfl
@[simp] theorem State.updSweep_arbs (s : State) (f : Sweeper → Sweeper) : (s.updSweep f).arbs = s.arbs := rfl
@[simp] theorem State.updSweep_notices (s : State) (f : Sweeper → Sweeper) : (s.updSweep f).notices = s.notices := rfl
@[simp] theorem State.updSweep_rxFree (s : State) (f : Sweeper → Sweeper) : (s.updSweep f).rxFree = s.rxFree := rfl
@[simp] theorem State.updSweep_locked (s : State) (f : Sweeper → Sweeper) : (s.updSweep f).locked = s.locked := rfl
@[simp] theorem State.updSweep_jrn (s : State) (f : Sweeper → Sweeper) : (s.updSweep f).jrn = s.jrn := rfl
@[simp] theorem State.updSweep_draw (s : State) (f : Sweeper → Sweeper) : (s.updSweep f).draw = s.draw := rfl
@[simp] theorem State.updSweep_keys (s : State) (f : Sweeper → Sweeper) : (s.updSweep f).keys = s.keys := rfl
@[simp] theorem State.updSweep_sec (s : State) (f : Sweeper → Sweeper) : (s.updSweep f).sec = s.sec := rfl
@[simp] theorem State.updSweep_bootSt (s : State) (f : Sweeper → Sweeper) : (s.updSweep f).bootSt = s.bootSt := rfl
@[simp] theorem State.updSweep_net (s : State) (f : Sweeper → Sweeper) : (s.updSweep f).net = s.net := rfl
@[simp] theorem State.updSweep_cwl (s : State) (f : Sweeper → Sweeper) : (s.updSweep f).cwl = s.cwl := rfl
@[simp] theorem State.updSweep_pwr (s : State) (f : Sweeper → Sweeper) : (s.updSweep f).pwr = s.pwr := rfl
@[simp] theorem State.updSweep_out (s : State) (f : Sweeper → Sweeper) : (s.updSweep f).out = s.out := rfl
@[simp] theorem State.updSweep_clk (s : State) (f : Sweeper → Sweeper) : (s.updSweep f).clk = s.clk := rfl
@[simp] theorem State.updSweep_time (s : State) (f : Sweeper → Sweeper) : (s.updSweep f).time = s.time := rfl
@[simp] theorem State.updSweep_free (s : State) (f : Sweeper → Sweeper) : (s.updSweep f).free = s.free := rfl
@[simp] theorem State.updSweep_pending (s : State) (f : Sweeper → Sweeper) : (s.updSweep f).pending = s.pending := rfl

@[simp] theorem State.emit_pairs (s : State) (l : List Emit) : (s.emit l).pairs = s.pairs := rfl
@[simp] theorem State.emit_mem (s : State) (l : List Emit) : (s.emit l).mem = s.mem := rfl
@[simp] theorem State.emit_tags (s : State) (l : List Emit) : (s.emit l).tags = s.tags := rfl
@[simp] theorem State.emit_poison (s : State) (l : List Emit) : (s.emit l).poison = s.poison := rfl
@[simp] theorem State.emit_latent (s : State) (l : List Emit) : (s.emit l).latent = s.latent := rfl
@[simp] theorem State.emit_bitmap (s : State) (l : List Emit) : (s.emit l).bitmap = s.bitmap := rfl
@[simp] theorem State.emit_tcm (s : State) (l : List Emit) : (s.emit l).tcm = s.tcm := rfl
@[simp] theorem State.emit_tcmTags (s : State) (l : List Emit) : (s.emit l).tcmTags = s.tcmTags := rfl
@[simp] theorem State.emit_stale (s : State) (l : List Emit) : (s.emit l).stale = s.stale := rfl
@[simp] theorem State.emit_jarr (s : State) (l : List Emit) : (s.emit l).jarr = s.jarr := rfl
@[simp] theorem State.emit_boot (s : State) (l : List Emit) : (s.emit l).boot = s.boot := rfl
@[simp] theorem State.emit_dev (s : State) (l : List Emit) : (s.emit l).dev = s.dev := rfl
@[simp] theorem State.emit_tally (s : State) (l : List Emit) : (s.emit l).tally = s.tally := rfl
@[simp] theorem State.emit_evd (s : State) (l : List Emit) : (s.emit l).evd = s.evd := rfl
@[simp] theorem State.emit_sweep (s : State) (l : List Emit) : (s.emit l).sweep = s.sweep := rfl
@[simp] theorem State.emit_arbs (s : State) (l : List Emit) : (s.emit l).arbs = s.arbs := rfl
@[simp] theorem State.emit_notices (s : State) (l : List Emit) : (s.emit l).notices = s.notices := rfl
@[simp] theorem State.emit_rxFree (s : State) (l : List Emit) : (s.emit l).rxFree = s.rxFree := rfl
@[simp] theorem State.emit_locked (s : State) (l : List Emit) : (s.emit l).locked = s.locked := rfl
@[simp] theorem State.emit_jrn (s : State) (l : List Emit) : (s.emit l).jrn = s.jrn := rfl
@[simp] theorem State.emit_draw (s : State) (l : List Emit) : (s.emit l).draw = s.draw := rfl
@[simp] theorem State.emit_keys (s : State) (l : List Emit) : (s.emit l).keys = s.keys := rfl
@[simp] theorem State.emit_sec (s : State) (l : List Emit) : (s.emit l).sec = s.sec := rfl
@[simp] theorem State.emit_bootSt (s : State) (l : List Emit) : (s.emit l).bootSt = s.bootSt := rfl
@[simp] theorem State.emit_net (s : State) (l : List Emit) : (s.emit l).net = s.net := rfl
@[simp] theorem State.emit_cwl (s : State) (l : List Emit) : (s.emit l).cwl = s.cwl := rfl
@[simp] theorem State.emit_pwr (s : State) (l : List Emit) : (s.emit l).pwr = s.pwr := rfl
@[simp] theorem State.emit_out (s : State) (l : List Emit) : (s.emit l).out = s.out ++ l := rfl
@[simp] theorem State.emit_clk (s : State) (l : List Emit) : (s.emit l).clk = s.clk := rfl
@[simp] theorem State.emit_time (s : State) (l : List Emit) : (s.emit l).time = s.time := rfl
@[simp] theorem State.emit_free (s : State) (l : List Emit) : (s.emit l).free = s.free := rfl
@[simp] theorem State.emit_pending (s : State) (l : List Emit) : (s.emit l).pending = s.pending := rfl

@[simp] theorem State.emitMore_pairs (s : State) (e : Emit) : (s.emitMore e).pairs = s.pairs := rfl
@[simp] theorem State.emitMore_mem (s : State) (e : Emit) : (s.emitMore e).mem = s.mem := rfl
@[simp] theorem State.emitMore_tags (s : State) (e : Emit) : (s.emitMore e).tags = s.tags := rfl
@[simp] theorem State.emitMore_poison (s : State) (e : Emit) : (s.emitMore e).poison = s.poison := rfl
@[simp] theorem State.emitMore_latent (s : State) (e : Emit) : (s.emitMore e).latent = s.latent := rfl
@[simp] theorem State.emitMore_bitmap (s : State) (e : Emit) : (s.emitMore e).bitmap = s.bitmap := rfl
@[simp] theorem State.emitMore_tcm (s : State) (e : Emit) : (s.emitMore e).tcm = s.tcm := rfl
@[simp] theorem State.emitMore_tcmTags (s : State) (e : Emit) : (s.emitMore e).tcmTags = s.tcmTags := rfl
@[simp] theorem State.emitMore_stale (s : State) (e : Emit) : (s.emitMore e).stale = s.stale := rfl
@[simp] theorem State.emitMore_jarr (s : State) (e : Emit) : (s.emitMore e).jarr = s.jarr := rfl
@[simp] theorem State.emitMore_boot (s : State) (e : Emit) : (s.emitMore e).boot = s.boot := rfl
@[simp] theorem State.emitMore_dev (s : State) (e : Emit) : (s.emitMore e).dev = s.dev := rfl
@[simp] theorem State.emitMore_tally (s : State) (e : Emit) : (s.emitMore e).tally = s.tally := rfl
@[simp] theorem State.emitMore_evd (s : State) (e : Emit) : (s.emitMore e).evd = s.evd := rfl
@[simp] theorem State.emitMore_sweep (s : State) (e : Emit) : (s.emitMore e).sweep = s.sweep := rfl
@[simp] theorem State.emitMore_arbs (s : State) (e : Emit) : (s.emitMore e).arbs = s.arbs := rfl
@[simp] theorem State.emitMore_notices (s : State) (e : Emit) : (s.emitMore e).notices = s.notices := rfl
@[simp] theorem State.emitMore_rxFree (s : State) (e : Emit) : (s.emitMore e).rxFree = s.rxFree := rfl
@[simp] theorem State.emitMore_locked (s : State) (e : Emit) : (s.emitMore e).locked = s.locked := rfl
@[simp] theorem State.emitMore_jrn (s : State) (e : Emit) : (s.emitMore e).jrn = s.jrn := rfl
@[simp] theorem State.emitMore_draw (s : State) (e : Emit) : (s.emitMore e).draw = s.draw := rfl
@[simp] theorem State.emitMore_keys (s : State) (e : Emit) : (s.emitMore e).keys = s.keys := rfl
@[simp] theorem State.emitMore_sec (s : State) (e : Emit) : (s.emitMore e).sec = s.sec := rfl
@[simp] theorem State.emitMore_bootSt (s : State) (e : Emit) : (s.emitMore e).bootSt = s.bootSt := rfl
@[simp] theorem State.emitMore_net (s : State) (e : Emit) : (s.emitMore e).net = s.net := rfl
@[simp] theorem State.emitMore_cwl (s : State) (e : Emit) : (s.emitMore e).cwl = s.cwl := rfl
@[simp] theorem State.emitMore_pwr (s : State) (e : Emit) : (s.emitMore e).pwr = s.pwr := rfl
@[simp] theorem State.emitMore_out (s : State) (e : Emit) : (s.emitMore e).out = s.out ++ [e] := rfl
@[simp] theorem State.emitMore_clk (s : State) (e : Emit) : (s.emitMore e).clk = s.clk := rfl
@[simp] theorem State.emitMore_time (s : State) (e : Emit) : (s.emitMore e).time = s.time := rfl
@[simp] theorem State.emitMore_free (s : State) (e : Emit) : (s.emitMore e).free = s.free := rfl
@[simp] theorem State.emitMore_pending (s : State) (e : Emit) : (s.emitMore e).pending = s.pending := rfl

@[simp] theorem State.updJrn_pairs (s : State) (f : Jrn → Jrn) : (s.updJrn f).pairs = s.pairs := rfl
@[simp] theorem State.updJrn_mem (s : State) (f : Jrn → Jrn) : (s.updJrn f).mem = s.mem := rfl
@[simp] theorem State.updJrn_tags (s : State) (f : Jrn → Jrn) : (s.updJrn f).tags = s.tags := rfl
@[simp] theorem State.updJrn_poison (s : State) (f : Jrn → Jrn) : (s.updJrn f).poison = s.poison := rfl
@[simp] theorem State.updJrn_latent (s : State) (f : Jrn → Jrn) : (s.updJrn f).latent = s.latent := rfl
@[simp] theorem State.updJrn_bitmap (s : State) (f : Jrn → Jrn) : (s.updJrn f).bitmap = s.bitmap := rfl
@[simp] theorem State.updJrn_tcm (s : State) (f : Jrn → Jrn) : (s.updJrn f).tcm = s.tcm := rfl
@[simp] theorem State.updJrn_tcmTags (s : State) (f : Jrn → Jrn) : (s.updJrn f).tcmTags = s.tcmTags := rfl
@[simp] theorem State.updJrn_stale (s : State) (f : Jrn → Jrn) : (s.updJrn f).stale = s.stale := rfl
@[simp] theorem State.updJrn_jarr (s : State) (f : Jrn → Jrn) : (s.updJrn f).jarr = s.jarr := rfl
@[simp] theorem State.updJrn_boot (s : State) (f : Jrn → Jrn) : (s.updJrn f).boot = s.boot := rfl
@[simp] theorem State.updJrn_dev (s : State) (f : Jrn → Jrn) : (s.updJrn f).dev = s.dev := rfl
@[simp] theorem State.updJrn_tally (s : State) (f : Jrn → Jrn) : (s.updJrn f).tally = s.tally := rfl
@[simp] theorem State.updJrn_evd (s : State) (f : Jrn → Jrn) : (s.updJrn f).evd = s.evd := rfl
@[simp] theorem State.updJrn_sweep (s : State) (f : Jrn → Jrn) : (s.updJrn f).sweep = s.sweep := rfl
@[simp] theorem State.updJrn_arbs (s : State) (f : Jrn → Jrn) : (s.updJrn f).arbs = s.arbs := rfl
@[simp] theorem State.updJrn_notices (s : State) (f : Jrn → Jrn) : (s.updJrn f).notices = s.notices := rfl
@[simp] theorem State.updJrn_rxFree (s : State) (f : Jrn → Jrn) : (s.updJrn f).rxFree = s.rxFree := rfl
@[simp] theorem State.updJrn_locked (s : State) (f : Jrn → Jrn) : (s.updJrn f).locked = s.locked := rfl
@[simp] theorem State.updJrn_jrn (s : State) (f : Jrn → Jrn) : (s.updJrn f).jrn = f s.jrn := rfl
@[simp] theorem State.updJrn_draw (s : State) (f : Jrn → Jrn) : (s.updJrn f).draw = s.draw := rfl
@[simp] theorem State.updJrn_keys (s : State) (f : Jrn → Jrn) : (s.updJrn f).keys = s.keys := rfl
@[simp] theorem State.updJrn_sec (s : State) (f : Jrn → Jrn) : (s.updJrn f).sec = s.sec := rfl
@[simp] theorem State.updJrn_bootSt (s : State) (f : Jrn → Jrn) : (s.updJrn f).bootSt = s.bootSt := rfl
@[simp] theorem State.updJrn_net (s : State) (f : Jrn → Jrn) : (s.updJrn f).net = s.net := rfl
@[simp] theorem State.updJrn_cwl (s : State) (f : Jrn → Jrn) : (s.updJrn f).cwl = s.cwl := rfl
@[simp] theorem State.updJrn_pwr (s : State) (f : Jrn → Jrn) : (s.updJrn f).pwr = s.pwr := rfl
@[simp] theorem State.updJrn_out (s : State) (f : Jrn → Jrn) : (s.updJrn f).out = s.out := rfl
@[simp] theorem State.updJrn_clk (s : State) (f : Jrn → Jrn) : (s.updJrn f).clk = s.clk := rfl
@[simp] theorem State.updJrn_time (s : State) (f : Jrn → Jrn) : (s.updJrn f).time = s.time := rfl
@[simp] theorem State.updJrn_free (s : State) (f : Jrn → Jrn) : (s.updJrn f).free = s.free := rfl
@[simp] theorem State.updJrn_pending (s : State) (f : Jrn → Jrn) : (s.updJrn f).pending = s.pending := rfl

@[simp] theorem State.updPwr_pairs (s : State) (f : Pwr → Pwr) : (s.updPwr f).pairs = s.pairs := rfl
@[simp] theorem State.updPwr_mem (s : State) (f : Pwr → Pwr) : (s.updPwr f).mem = s.mem := rfl
@[simp] theorem State.updPwr_tags (s : State) (f : Pwr → Pwr) : (s.updPwr f).tags = s.tags := rfl
@[simp] theorem State.updPwr_poison (s : State) (f : Pwr → Pwr) : (s.updPwr f).poison = s.poison := rfl
@[simp] theorem State.updPwr_latent (s : State) (f : Pwr → Pwr) : (s.updPwr f).latent = s.latent := rfl
@[simp] theorem State.updPwr_bitmap (s : State) (f : Pwr → Pwr) : (s.updPwr f).bitmap = s.bitmap := rfl
@[simp] theorem State.updPwr_tcm (s : State) (f : Pwr → Pwr) : (s.updPwr f).tcm = s.tcm := rfl
@[simp] theorem State.updPwr_tcmTags (s : State) (f : Pwr → Pwr) : (s.updPwr f).tcmTags = s.tcmTags := rfl
@[simp] theorem State.updPwr_stale (s : State) (f : Pwr → Pwr) : (s.updPwr f).stale = s.stale := rfl
@[simp] theorem State.updPwr_jarr (s : State) (f : Pwr → Pwr) : (s.updPwr f).jarr = s.jarr := rfl
@[simp] theorem State.updPwr_boot (s : State) (f : Pwr → Pwr) : (s.updPwr f).boot = s.boot := rfl
@[simp] theorem State.updPwr_dev (s : State) (f : Pwr → Pwr) : (s.updPwr f).dev = s.dev := rfl
@[simp] theorem State.updPwr_tally (s : State) (f : Pwr → Pwr) : (s.updPwr f).tally = s.tally := rfl
@[simp] theorem State.updPwr_evd (s : State) (f : Pwr → Pwr) : (s.updPwr f).evd = s.evd := rfl
@[simp] theorem State.updPwr_sweep (s : State) (f : Pwr → Pwr) : (s.updPwr f).sweep = s.sweep := rfl
@[simp] theorem State.updPwr_arbs (s : State) (f : Pwr → Pwr) : (s.updPwr f).arbs = s.arbs := rfl
@[simp] theorem State.updPwr_notices (s : State) (f : Pwr → Pwr) : (s.updPwr f).notices = s.notices := rfl
@[simp] theorem State.updPwr_rxFree (s : State) (f : Pwr → Pwr) : (s.updPwr f).rxFree = s.rxFree := rfl
@[simp] theorem State.updPwr_locked (s : State) (f : Pwr → Pwr) : (s.updPwr f).locked = s.locked := rfl
@[simp] theorem State.updPwr_jrn (s : State) (f : Pwr → Pwr) : (s.updPwr f).jrn = s.jrn := rfl
@[simp] theorem State.updPwr_draw (s : State) (f : Pwr → Pwr) : (s.updPwr f).draw = s.draw := rfl
@[simp] theorem State.updPwr_keys (s : State) (f : Pwr → Pwr) : (s.updPwr f).keys = s.keys := rfl
@[simp] theorem State.updPwr_sec (s : State) (f : Pwr → Pwr) : (s.updPwr f).sec = s.sec := rfl
@[simp] theorem State.updPwr_bootSt (s : State) (f : Pwr → Pwr) : (s.updPwr f).bootSt = s.bootSt := rfl
@[simp] theorem State.updPwr_net (s : State) (f : Pwr → Pwr) : (s.updPwr f).net = s.net := rfl
@[simp] theorem State.updPwr_cwl (s : State) (f : Pwr → Pwr) : (s.updPwr f).cwl = s.cwl := rfl
@[simp] theorem State.updPwr_pwr (s : State) (f : Pwr → Pwr) : (s.updPwr f).pwr = f s.pwr := rfl
@[simp] theorem State.updPwr_out (s : State) (f : Pwr → Pwr) : (s.updPwr f).out = s.out := rfl
@[simp] theorem State.updPwr_clk (s : State) (f : Pwr → Pwr) : (s.updPwr f).clk = s.clk := rfl
@[simp] theorem State.updPwr_time (s : State) (f : Pwr → Pwr) : (s.updPwr f).time = s.time := rfl
@[simp] theorem State.updPwr_free (s : State) (f : Pwr → Pwr) : (s.updPwr f).free = s.free := rfl
@[simp] theorem State.updPwr_pending (s : State) (f : Pwr → Pwr) : (s.updPwr f).pending = s.pending := rfl

@[simp] theorem State.loseResv_mem (s : State) (l n : Nat) : (s.loseResv l n).mem = s.mem := rfl
@[simp] theorem State.loseResv_tags (s : State) (l n : Nat) : (s.loseResv l n).tags = s.tags := rfl
@[simp] theorem State.loseResv_poison (s : State) (l n : Nat) : (s.loseResv l n).poison = s.poison := rfl
@[simp] theorem State.loseResv_latent (s : State) (l n : Nat) : (s.loseResv l n).latent = s.latent := rfl
@[simp] theorem State.loseResv_bitmap (s : State) (l n : Nat) : (s.loseResv l n).bitmap = s.bitmap := rfl
@[simp] theorem State.loseResv_tcm (s : State) (l n : Nat) : (s.loseResv l n).tcm = s.tcm := rfl
@[simp] theorem State.loseResv_tcmTags (s : State) (l n : Nat) : (s.loseResv l n).tcmTags = s.tcmTags := rfl
@[simp] theorem State.loseResv_stale (s : State) (l n : Nat) : (s.loseResv l n).stale = s.stale := rfl
@[simp] theorem State.loseResv_jarr (s : State) (l n : Nat) : (s.loseResv l n).jarr = s.jarr := rfl
@[simp] theorem State.loseResv_boot (s : State) (l n : Nat) : (s.loseResv l n).boot = s.boot := rfl
@[simp] theorem State.loseResv_dev (s : State) (l n : Nat) : (s.loseResv l n).dev = s.dev := rfl
@[simp] theorem State.loseResv_tally (s : State) (l n : Nat) : (s.loseResv l n).tally = s.tally := rfl
@[simp] theorem State.loseResv_evd (s : State) (l n : Nat) : (s.loseResv l n).evd = s.evd := rfl
@[simp] theorem State.loseResv_sweep (s : State) (l n : Nat) : (s.loseResv l n).sweep = s.sweep := rfl
@[simp] theorem State.loseResv_arbs (s : State) (l n : Nat) : (s.loseResv l n).arbs = s.arbs := rfl
@[simp] theorem State.loseResv_notices (s : State) (l n : Nat) : (s.loseResv l n).notices = s.notices := rfl
@[simp] theorem State.loseResv_rxFree (s : State) (l n : Nat) : (s.loseResv l n).rxFree = s.rxFree := rfl
@[simp] theorem State.loseResv_locked (s : State) (l n : Nat) : (s.loseResv l n).locked = s.locked := rfl
@[simp] theorem State.loseResv_jrn (s : State) (l n : Nat) : (s.loseResv l n).jrn = s.jrn := rfl
@[simp] theorem State.loseResv_draw (s : State) (l n : Nat) : (s.loseResv l n).draw = s.draw := rfl
@[simp] theorem State.loseResv_keys (s : State) (l n : Nat) : (s.loseResv l n).keys = s.keys := rfl
@[simp] theorem State.loseResv_sec (s : State) (l n : Nat) : (s.loseResv l n).sec = s.sec := rfl
@[simp] theorem State.loseResv_bootSt (s : State) (l n : Nat) : (s.loseResv l n).bootSt = s.bootSt := rfl
@[simp] theorem State.loseResv_net (s : State) (l n : Nat) : (s.loseResv l n).net = s.net := rfl
@[simp] theorem State.loseResv_cwl (s : State) (l n : Nat) : (s.loseResv l n).cwl = s.cwl := rfl
@[simp] theorem State.loseResv_pwr (s : State) (l n : Nat) : (s.loseResv l n).pwr = s.pwr := rfl
@[simp] theorem State.loseResv_out (s : State) (l n : Nat) : (s.loseResv l n).out = s.out := rfl
@[simp] theorem State.loseResv_clk (s : State) (l n : Nat) : (s.loseResv l n).clk = s.clk := rfl
@[simp] theorem State.loseResv_time (s : State) (l n : Nat) : (s.loseResv l n).time = s.time := rfl
@[simp] theorem State.loseResv_free (s : State) (l n : Nat) : (s.loseResv l n).free = s.free := rfl
@[simp] theorem State.loseResv_pending (s : State) (l n : Nat) : (s.loseResv l n).pending = s.pending := rfl

end Sys2Proof.Machine
end

