-- ==== Sys2Proof/Laws/Memory.lean ====
section
/-!
SUPPORT. The shared operations over memory: every one keeps the canonical form, and what bytes and tags read after a write.
-/
namespace Sys2Proof.Laws
open Sys2Proof.Machine

/-! ## The canonical form -/

/-- What leaves every map of the memory as it was keeps the canonical form. -/
theorem canonical_of_same {s t : State} (h : SameMaps s t) (c : MemoryCanonical s) : MemoryCanonical t := by
  obtain ⟨h1, h2, h3, h4, h5, h6, h7, h8, h9⟩ := h
  unfold MemoryCanonical at *
  rw [h1, h2, h3, h4, h5, h6, h7, h8, h9]; exact c

theorem SameMaps.refl (s : State) : SameMaps s s := ⟨rfl, rfl, rfl, rfl, rfl, rfl, rfl, rfl, rfl⟩

theorem SameMaps.trans {s t u : State} (h : SameMaps s t) (k : SameMaps t u) : SameMaps s u := by
  obtain ⟨h1, h2, h3, h4, h5, h6, h7, h8, h9⟩ := h
  obtain ⟨k1, k2, k3, k4, k5, k6, k7, k8, k9⟩ := k
  exact ⟨k1.trans h1, k2.trans h2, k3.trans h3, k4.trans h4, k5.trans h5, k6.trans h6, k7.trans h7, k8.trans h8, k9.trans h9⟩

theorem same_setPair (s : State) (p : Nat) (v : Pair) : SameMaps s (s.setPair p v) := SameMaps.refl _
theorem same_updPair (s : State) (p : Nat) (f : Pair → Pair) : SameMaps s (s.updPair p f) := SameMaps.refl _
theorem same_updBank (s : State) (p b : Nat) (f : Bank → Bank) : SameMaps s (s.updBank p b f) := SameMaps.refl _
theorem same_setReg (s : State) (p b n : Nat) (c : Cap) : SameMaps s (s.setReg p b n c) := SameMaps.refl _
theorem same_wr (s : State) (a : Nat) (v : Word) : SameMaps s (s.wr a v) := SameMaps.refl _
theorem same_setFld (s : State) (a lo w v : Nat) : SameMaps s (s.setFld a lo w v) := same_wr _ _ _
theorem same_setBit (s : State) (a i : Nat) : SameMaps s (s.setBit a i) := same_setFld _ _ _ _ _
theorem same_bump (s : State) (a : Nat) : SameMaps s (s.bump a) := same_setFld _ _ _ _ _
theorem same_loseResv (s : State) (l n : Nat) : SameMaps s (s.loseResv l n) := SameMaps.refl _
theorem same_keepCode (s : State) (w n : Nat) : SameMaps s (s.keepCode w n) := SameMaps.refl _
theorem same_markEntry (s : State) (l : Nat) : SameMaps s (s.markEntry l) := SameMaps.refl _
theorem same_tallyTick (s : State) : SameMaps s s.tallyTick.2 := SameMaps.refl _
theorem same_setUnj (s : State) (p : Nat) (l : UnjList) : SameMaps s (s.setUnj p l) := SameMaps.refl _
theorem same_tallyReturn (s : State) (op : TallyOp) (n : Nat) (x : Option (List Byte)) : SameMaps s (s.tallyReturn op n x) :=
  SameMaps.refl _

theorem same_setTch (s : State) (ch : Nat) (t : TallyChan) : SameMaps s (s.setTch ch t) := by
  unfold State.setTch
  dsimp only
  refine SameMaps.trans ?_ (same_setFld _ _ _ _ _)
  refine SameMaps.trans ?_ (same_setFld _ _ _ _ _)
  refine SameMaps.trans ?_ (same_setFld _ _ _ _ _)
  exact SameMaps.refl _

theorem same_notify (s : State) (q k u i d : Nat) : SameMaps s (s.notify q k u i d) := by
  unfold State.notify; dsimp only; split
  · exact same_setFld _ _ _ _ _
  · exact SameMaps.refl _

theorem same_recordAdd (s : State) (op : TallyOp) : SameMaps s (s.recordAdd op) := by
  unfold State.recordAdd; dsimp only; split
  · exact SameMaps.trans (same_setUnj _ _ _) (same_setBit _ _ _)
  · exact same_setUnj _ _ _

theorem same_tallyCount (s : State) (ch : Nat) (k : TallyKind) (n : Nat) : SameMaps s (tallyCount s ch k n) := by
  unfold tallyCount
  split_ifs <;> first | exact same_bump _ _ | exact SameMaps.refl _

theorem same_decideOne (s : State) (ch : Nat) (op : TallyOp) (d : List Byte) : SameMaps s (s.decideOne ch op d).1 := by
  unfold State.decideOne
  dsimp only
  refine SameMaps.trans (SameMaps.trans ?_ (same_tallyCount _ _ _ _)) (same_tallyReturn _ _ _ _)
  split
  · exact same_recordAdd _ _
  · exact SameMaps.refl _

theorem same_decideAll (ch : Nat) (ops : List TallyOp) : ∀ (s : State) (d : List Byte) (n : Nat),
    SameMaps s (s.decideAll ch ops d n).1 := by
  induction ops with
  | nil => intro s d n; exact SameMaps.refl _
  | cons op ops ih => intro s d n; exact SameMaps.trans (same_decideOne s ch op d) (ih _ _ _)

theorem same_cellErrors (ops : List TallyOp) : ∀ s : State, SameMaps s (s.cellErrors ops) := by
  induction ops with
  | nil => intro s; exact SameMaps.refl _
  | cons op ops ih =>
    intro s; exact SameMaps.trans (SameMaps.trans (same_tallyReturn s op 6 none) (same_setBit _ _ _)) (ih _)

/-- The reset state's memory is in its canonical form: it lists nothing. -/
theorem canonical_lists_nothing {s : State} (h : s.mem = [] ∧ s.tags = [] ∧ s.poison = [] ∧ s.latent = [] ∧ s.bitmap = [] ∧
    s.tcm = [] ∧ s.tcmTags = [] ∧ s.jarr = [] ∧ s.boot = []) : MemoryCanonical s := by
  obtain ⟨h1, h2, h3, h4, h5, h6, h7, h8, h9⟩ := h
  unfold MemoryCanonical
  rw [h1, h2, h3, h4, h5, h6, h7, h8, h9]; exact ⟨rfl, rfl, rfl, rfl, rfl, rfl, rfl, rfl, rfl⟩

/-- A tag written keeps the canonical form. -/
theorem canonical_setTag {s : State} (sp : Space) (pa : Nat) (t : Bool) (c : MemoryCanonical s) :
    MemoryCanonical (s.setTag sp pa t) := by
  obtain ⟨c1, c2, c3, c4, c5, c6, c7, c8, c9⟩ := c
  cases sp
  case dram => exact ⟨c1, c2, c3, c4, smWf_smSet _ _ _ _ c5, c6, c7, c8, c9⟩
  case tcm k => exact ⟨c1, c2, c3, c4, c5, smWf_smSet _ _ _ _ c6, c7, c8, c9⟩
  all_goals exact ⟨c1, c2, c3, c4, c5, c6, c7, c8, c9⟩

/-- Tags cleared keep the canonical form. -/
theorem canonical_clearTagsFrom (sp : Space) (n : Nat) : ∀ {s : State} (pa : Nat), MemoryCanonical s →
    MemoryCanonical (s.clearTagsFrom sp pa n) := by
  induction n with
  | zero => intro s pa c; exact c
  | succ n ih => intro s pa c; exact ih _ (canonical_setTag sp pa false c)

/-- Poison and latent errors cleared keep the canonical form. -/
theorem canonical_unpoison (n : Nat) : ∀ {s : State} (line : Nat), MemoryCanonical s → MemoryCanonical (s.unpoison line n) := by
  induction n with
  | zero => intro s line c; exact c
  | succ n ih =>
    intro s line c
    obtain ⟨c1, c2, c3, c4, c5, c6, c7, c8, c9⟩ := c
    exact ih _ ⟨c1, c2, c3, c4, c5, c6, smWf_smSet (always false) s.poison line false c7, c8, smWf_smSet (always none) s.latent line none c9⟩

/-- A data write keeps the canonical form. -/
theorem canonical_dataWrite {s : State} (sp : Space) (pa : Nat) (bs : List Byte) (c : MemoryCanonical s) :
    MemoryCanonical (s.dataWrite sp pa bs) := by
  cases sp
  case dram =>
    apply canonical_clearTagsFrom
    obtain ⟨c1, c2, c3, c4, c5, c6, c7, c8, c9⟩ :=
      canonical_of_same (SameMaps.trans (same_loseResv _ (pa / 64) (linesIn pa bs.length)) (same_keepCode _ (pa / 4) (wordsIn pa bs.length)))
        (canonical_unpoison (linesIn pa bs.length) (pa / 64) c)
    exact ⟨wf_writeBytes _ _ _ c1, c2, c3, c4, c5, c6, c7, c8, c9⟩
  case tcm k =>
    apply canonical_clearTagsFrom
    obtain ⟨c1, c2, c3, c4, c5, c6, c7, c8, c9⟩ := c
    exact ⟨c1, wf_writeBytes _ _ _ c2, c3, c4, c5, c6, c7, c8, c9⟩
  case boot =>
    obtain ⟨c1, c2, c3, c4, c5, c6, c7, c8, c9⟩ := c
    exact ⟨c1, c2, c3, wf_writeBytes _ _ _ c4, c5, c6, c7, c8, c9⟩
  all_goals exact c

/-- A capability write keeps the canonical form. -/
theorem canonical_capWrite {s : State} (sp : Space) (pa : Nat) (x : Cap) (c : MemoryCanonical s) :
    MemoryCanonical (s.capWrite sp pa x) := canonical_setTag sp pa x.tag (canonical_dataWrite sp pa _ c)

/-- A line that becomes poisoned keeps the canonical form. -/
theorem canonical_poisonLine {s : State} (line : Nat) (c : MemoryCanonical s) : MemoryCanonical (s.poisonLine line) := by
  unfold State.poisonLine
  dsimp only
  refine canonical_of_same (SameMaps.trans (SameMaps.trans (SameMaps.trans (same_setBit _ _ _) (same_wr _ _ _))
    (same_bump _ _)) (same_notify _ _ _ _ _ _)) ?_
  have d := canonical_dataWrite .dram (line * 64) (List.replicate 64 0) (canonical_of_same (same_markEntry s line) c)
  generalize (s.markEntry line).dataWrite .dram (line * 64) (List.replicate 64 0) = u at d ⊢
  obtain ⟨c1, c2, c3, c4, c5, c6, c7, c8, c9⟩ := d
  exact ⟨c1, c2, c3, c4, c5, c6, smWf_smSet (always false) u.poison line true c7, c8, c9⟩

/-- A corrected line keeps the canonical form. -/
theorem canonical_correctLine {s : State} (line : Nat) (c : MemoryCanonical s) : MemoryCanonical (s.correctLine line) := by
  obtain ⟨c1, c2, c3, c4, c5, c6, c7, c8, c9⟩ := c
  exact ⟨c1, c2, c3, c4, c5, c6, c7, c8, smWf_smSet (always none) s.latent line none c9⟩

/-- A line touched keeps the canonical form. -/
theorem canonical_touchLine {s : State} (line : Nat) (c : MemoryCanonical s) : MemoryCanonical (s.touchLine line) := by
  unfold State.touchLine
  split
  · exact c
  · exact canonical_correctLine line c
  · exact canonical_poisonLine line c

theorem canonical_touchFrom (n : Nat) : ∀ {s : State} (line : Nat), MemoryCanonical s → MemoryCanonical (s.touchFrom line n) := by
  induction n with
  | zero => intro s line c; exact c
  | succ n ih => intro s line c; exact ih _ (canonical_touchLine line c)

/-- A combining entry loaded keeps the canonical form. -/
theorem canonical_combLoad {s : State} (ch : Nat) (e : CombEntry) (c : MemoryCanonical s) : MemoryCanonical (s.combLoad ch e) := by
  unfold State.combLoad
  dsimp only
  split
  · exact canonical_of_same (SameMaps.trans (same_cellErrors _ _) (same_setTch _ _ _)) (canonical_touchLine _ c)
  · exact canonical_of_same (SameMaps.trans (same_decideAll _ _ _ _ _)
      (SameMaps.trans (same_tallyTick _) (same_setTch _ _ _))) (canonical_touchLine _ c)

/-- A combining entry written back keeps the canonical form. -/
theorem canonical_combWrite {s : State} (ch : Nat) (e : CombEntry) (c : MemoryCanonical s) : MemoryCanonical (s.combWrite ch e) :=
  canonical_of_same (same_setFld _ _ _ _ _) (canonical_dataWrite .dram e.cell e.data c)

/-- A line routed past the tally unit keeps the canonical form. -/
theorem canonical_cellRoute {s : State} (line : Nat) (c : MemoryCanonical s) : MemoryCanonical (s.cellRoute line) := by
  unfold State.cellRoute
  dsimp only
  split
  · exact c
  · rename_i e _
    have c1 : MemoryCanonical (if e.st = .loading then s.combLoad (channelOf (line * 64)) e else s.touchLine line) := by
      split
      · exact canonical_combLoad _ _ c
      · exact canonical_touchLine _ c
    generalize (if e.st = .loading then s.combLoad (channelOf (line * 64)) e else s.touchLine line) = u at c1 ⊢
    split
    · exact c1
    · apply canonical_of_same (same_setTch _ _ _)
      split
      · exact canonical_combWrite _ _ c1
      · exact c1

theorem canonical_cellRouteFrom (n : Nat) : ∀ {s : State} (line : Nat), MemoryCanonical s →
    MemoryCanonical (s.cellRouteFrom line n) := by
  induction n with
  | zero => intro s line c; exact c
  | succ n ih => intro s line c; exact ih _ (canonical_cellRoute line c)

/-- What an access meets before DRAM keeps the canonical form. -/
theorem canonical_dramEnter {s : State} (pa n : Nat) (c : MemoryCanonical s) : MemoryCanonical (s.dramEnter pa n) := by
  unfold State.dramEnter
  have c1 : MemoryCanonical (if s.tally.chans = [] then s else s.cellRouteFrom (pa / 64) (linesIn pa n)) := by
    split
    · exact c
    · exact canonical_cellRouteFrom _ _ c
  generalize (if s.tally.chans = [] then s else s.cellRouteFrom (pa / 64) (linesIn pa n)) = u at c1 ⊢
  dsimp only
  split
  · exact c1
  · exact canonical_touchFrom _ _ c1

/-- A data store to its parts keeps the canonical form. -/
theorem canonical_writePieces (ps : List Piece) : ∀ {s : State} (bs : List Byte), MemoryCanonical s →
    MemoryCanonical (s.writePieces ps bs) := by
  induction ps with
  | nil => intro s bs c; exact c
  | cons p ps ih =>
    intro s bs c
    unfold State.writePieces
    apply ih
    apply canonical_dataWrite
    split
    · exact canonical_dramEnter _ _ c
    · exact c

/-- A data load of its parts keeps the canonical form. -/
theorem canonical_readPieces (ps : List Piece) : ∀ {s : State}, MemoryCanonical s → MemoryCanonical (s.readPieces ps).2 := by
  induction ps with
  | nil => intro s c; exact c
  | cons p ps ih =>
    intro s c
    unfold State.readPieces
    apply ih
    split
    · exact canonical_dramEnter _ _ c
    · exact c

/-- CD set in a leaf keeps the canonical form. -/
theorem canonical_setCdAt {s : State} (sp : Space) (pe : Nat) (c : MemoryCanonical s) : MemoryCanonical (s.setCdAt sp pe) := by
  unfold State.setCdAt
  apply canonical_dataWrite
  split
  · exact canonical_dramEnter _ _ c
  · exact c

/-- CD set in several leaves keeps the canonical form. -/
theorem canonical_setCdRun (sp : Space) (n : Nat) : ∀ {s : State} (pe : Nat), MemoryCanonical s →
    MemoryCanonical (s.setCdRun sp pe n) := by
  induction n with
  | zero => intro s pe c; exact c
  | succ n ih => intro s pe c; exact ih _ (canonical_setCdAt sp pe c)

theorem canonical_markCd {s : State} (p : Nat) (x : Piece) (c : MemoryCanonical s) : MemoryCanonical (s.markCd p x) := by
  unfold State.markCd
  split
  · exact c
  · exact canonical_of_same (SameMaps.refl _) (canonical_setCdRun _ _ _ c)

/-- A capability store keeps the canonical form. -/
theorem canonical_capStore {s : State} (v : Via) (x : Cap) (p : Piece) (c : MemoryCanonical s) :
    MemoryCanonical (s.capStore v x p) := by
  unfold State.capStore
  apply canonical_capWrite
  have c1 : MemoryCanonical (if x.tag then s.markCd v.pair p else s) := by
    split
    · exact canonical_markCd _ _ c
    · exact c
  generalize (if x.tag then s.markCd v.pair p else s) = u at c1 ⊢
  split
  · exact canonical_dramEnter _ _ c1
  · exact c1

/-- Bitmap bits set or cleared keep the canonical form. -/
theorem canonical_markGranules (v : Bool) (n : Nat) : ∀ {s : State} (g : Nat), MemoryCanonical s →
    MemoryCanonical (s.markGranules g v n) := by
  induction n with
  | zero => intro s g c; exact c
  | succ n ih =>
    intro s g c
    obtain ⟨c1, c2, c3, c4, c5, c6, c7, c8, c9⟩ := c
    exact ih _ ⟨c1, c2, c3, c4, c5, c6, c7, smWf_smSet _ _ _ _ c8, c9⟩

/-- Entries of the journal array written keep the array's canonical form. -/
theorem wf_writeEntries {α : Type} (off : α → Nat) (data : α → List Byte) (skip : α → Bool) (l : List α) :
    ∀ m : List Host.Cell, Memory.wf m = true →
      Memory.wf (l.foldl (fun m e => if skip e then m else writeBytes m (off e) (data e)) m) = true := by
  induction l with
  | nil => intro m h; exact h
  | cons e l ih =>
    intro m h
    refine ih _ ?_
    dsimp only
    split
    · exact h
    · exact wf_writeBytes _ _ _ h

/-- Entries of a map taken out keep its canonical form. -/
theorem smWf_filter {β : Type} [DecidableEq β] (d : Nat → β) (f : Nat × β → Bool) (m : List (Nat × β)) (h : smWf d m = true) :
    smWf d (m.filter f) = true := by
  have key : ∀ (m : List (Nat × β)) (lo : Option Nat), smWfFrom d lo m = true → smWfFrom d lo (m.filter f) = true := by
    intro m
    induction m with
    | nil => intro lo h; exact h
    | cons e m ih =>
      obtain ⟨a, v⟩ := e
      intro lo h
      simp only [smWfFrom, Bool.and_eq_true, decide_eq_true_eq] at h
      simp only [List.filter_cons]
      split
      · simp only [smWfFrom, Bool.and_eq_true, decide_eq_true_eq]
        exact ⟨h.1, ih _ h.2⟩
      · apply ih
        cases lo with
        | none => exact smWfFrom_none d h.2
        | some l => exact smWfFrom_mono d h.2 (by simpa using Nat.le_of_lt (by simpa using h.1.1))
  exact key m none h

/-! ## Reads after writes -/

/-- Writing tags changes no byte (R67). -/
@[simp] theorem byteAt_setTag (s : State) (sp sq' : Space) (pa a : Nat) (t : Bool) :
    (s.setTag sp pa t).byteAt sq' a = s.byteAt sq' a := by cases sp <;> rfl

@[simp] theorem byteAt_clearTagsFrom (sp sq' : Space) (n : Nat) : ∀ (s : State) (pa a : Nat),
    (s.clearTagsFrom sp pa n).byteAt sq' a = s.byteAt sq' a := by
  induction n with
  | zero => intro s pa a; rfl
  | succ n ih => intro s pa a; exact (ih _ _ _).trans (byteAt_setTag _ _ _ _ _ _)

@[simp] theorem mem_unpoison (n : Nat) : ∀ (s : State) (line : Nat), (s.unpoison line n).mem = s.mem := by
  induction n with
  | zero => intro s line; rfl
  | succ n ih => intro s line; exact ih _ _

@[simp] theorem tags_unpoison (n : Nat) : ∀ (s : State) (line : Nat), (s.unpoison line n).tags = s.tags := by
  induction n with
  | zero => intro s line; rfl
  | succ n ih => intro s line; exact ih _ _

/-- What DRAM reads after a data write: the bytes written, every other byte as before (R5). -/
theorem byteAt_dataWrite (s : State) (pa a : Nat) (bs : List Byte) :
    (s.dataWrite .dram pa bs).byteAt .dram a = if pa ≤ a ∧ a < pa + bs.length then bs.getD (a - pa) 0 else s.byteAt .dram a := by
  unfold State.dataWrite
  rw [byteAt_clearTagsFrom]
  show smGet memDefault (writeBytes (State.unpoison _ _ _).mem pa bs) a = _
  rw [smGet_writeBytes, mem_unpoison]; rfl

/-- A tag reads what was last written to its granule (R67). -/
theorem tagAt_setTag (s : State) (pa a : Nat) (t : Bool) :
    (s.setTag .dram pa t).tagAt .dram a = if a / 16 = pa / 16 then t else s.tagAt .dram a := by
  unfold State.setTag State.tagAt; simp

/-- The tags of DRAM after n granules from pa were cleared. -/
theorem tagAt_clearTagsFrom (n : Nat) : ∀ (s : State) (pa a : Nat), (s.clearTagsFrom .dram pa n).tagAt .dram a =
    if pa / 16 ≤ a / 16 ∧ a / 16 < pa / 16 + n then false else s.tagAt .dram a := by
  induction n with
  | zero => intro s pa a; simp only [State.clearTagsFrom]; rw [if_neg (by omega)]
  | succ n ih =>
    intro s pa a
    simp only [State.clearTagsFrom, ih, tagAt_setTag]
    by_cases h : a / 16 = pa / 16
    · rw [if_pos h, if_pos (show pa / 16 ≤ a / 16 ∧ a / 16 < pa / 16 + (n + 1) by omega)]; split <;> rfl
    · rw [if_neg h]
      by_cases g : pa / 16 ≤ a / 16 ∧ a / 16 < pa / 16 + (n + 1)
      · rw [if_pos g, if_pos (by omega)]
      · rw [if_neg g, if_neg (by omega)]

/-- The tags of DRAM after a data write: clear in every granule that it touches, as before elsewhere (R72). -/
theorem tagAt_dataWrite (s : State) (pa a : Nat) (bs : List Byte) : (s.dataWrite .dram pa bs).tagAt .dram a =
    if pa / 16 ≤ a / 16 ∧ a / 16 < pa / 16 + granulesIn pa bs.length then false else s.tagAt .dram a := by
  unfold State.dataWrite
  rw [tagAt_clearTagsFrom]
  show (if _ then false else smGet (always false) (State.unpoison _ _ _).tags (a / 16)) = _
  rw [tags_unpoison]; rfl

end Sys2Proof.Laws
end

