-- ==== Sys2Proof/Laws/Reads.lean ====
section
/-!
SUPPORT. What a register, a bank or a pair reads after each named update.
-/
namespace Sys2Proof.Machine
open Sys2Proof.Laws

/-! ## Device registers -/

/-- A device register reads what was last written to it, every other one as before. -/
@[simp] theorem State.rd_wr (s : State) (a b : Nat) (v : Word) : (s.wr a v).rd b = if b = a then v else s.rd b := by
  simp [State.rd]

theorem State.rd_of_dev {s t : State} (h : t.dev = s.dev) (a : Nat) : t.rd a = s.rd a := by simp [State.rd, h]

@[simp] theorem State.rd_setPair (s : State) (p : Nat) (v : Pair) (adr : Nat) : (s.setPair p v).rd adr = s.rd adr := rfl
@[simp] theorem State.rd_setBank (s : State) (p b : Nat) (k : Bank) (adr : Nat) : (s.setBank p b k).rd adr = s.rd adr := rfl
@[simp] theorem State.rd_updBank (s : State) (p b : Nat) (f : Bank → Bank) (adr : Nat) : (s.updBank p b f).rd adr = s.rd adr := rfl
@[simp] theorem State.rd_updPair (s : State) (p : Nat) (f : Pair → Pair) (adr : Nat) : (s.updPair p f).rd adr = s.rd adr := rfl
@[simp] theorem State.rd_setReg (s : State) (p b n : Nat) (c : Cap) (adr : Nat) : (s.setReg p b n c).rd adr = s.rd adr := rfl
@[simp] theorem State.rd_setX (s : State) (p b n : Nat) (x : Word) (adr : Nat) : (s.setX p b n x).rd adr = s.rd adr := rfl
@[simp] theorem State.rd_setW (s : State) (p b n : Nat) (x : Wide) (adr : Nat) : (s.setW p b n x).rd adr = s.rd adr := rfl
@[simp] theorem State.rd_updSec (s : State) (f : Sec → Sec) (adr : Nat) : (s.updSec f).rd adr = s.rd adr := rfl
@[simp] theorem State.rd_updKeys (s : State) (f : KeyStore → KeyStore) (adr : Nat) : (s.updKeys f).rd adr = s.rd adr := rfl
@[simp] theorem State.rd_updBoot (s : State) (f : BootUnit → BootUnit) (adr : Nat) : (s.updBoot f).rd adr = s.rd adr := rfl
@[simp] theorem State.rd_updDraw (s : State) (f : Draw → Draw) (adr : Nat) : (s.updDraw f).rd adr = s.rd adr := rfl
@[simp] theorem State.rd_updSweep (s : State) (f : Sweeper → Sweeper) (adr : Nat) : (s.updSweep f).rd adr = s.rd adr := rfl
@[simp] theorem State.rd_emit (s : State) (l : List Emit) (adr : Nat) : (s.emit l).rd adr = s.rd adr := rfl
@[simp] theorem State.rd_emitMore (s : State) (e : Emit) (adr : Nat) : (s.emitMore e).rd adr = s.rd adr := rfl
@[simp] theorem State.rd_updJrn (s : State) (f : Jrn → Jrn) (adr : Nat) : (s.updJrn f).rd adr = s.rd adr := rfl
@[simp] theorem State.rd_updPwr (s : State) (f : Pwr → Pwr) (adr : Nat) : (s.updPwr f).rd adr = s.rd adr := rfl
@[simp] theorem State.rd_loseResv (s : State) (l n : Nat) (adr : Nat) : (s.loseResv l n).rd adr = s.rd adr := rfl

/-- A register whose field is written reads with that field replaced. -/
theorem State.rd_setFld (s : State) (a b lo w v : Nat) :
    (s.setFld a lo w v).rd b = if b = a then BitVec.ofNat 64 (setBitsAt (s.rd a).toNat lo w v) else s.rd b := by
  simp [State.setFld]

@[simp] theorem State.rd_setFld_ne (s : State) {a b : Nat} (lo w v : Nat) (h : b ≠ a) : (s.setFld a lo w v).rd b = s.rd b := by
  simp [State.rd_setFld, h]

@[simp] theorem State.rd_setBit_ne (s : State) {a b : Nat} (i : Nat) (h : b ≠ a) : (s.setBit a i).rd b = s.rd b :=
  State.rd_setFld_ne s _ _ _ h

@[simp] theorem State.rd_bump_ne (s : State) {a b : Nat} (h : b ≠ a) : (s.bump a).rd b = s.rd b :=
  State.rd_setFld_ne s _ _ _ h

/-! ## Pairs and banks -/

@[simp] theorem State.pair_setPair (s : State) (p q : Nat) (v : Pair) :
    (s.setPair p v).pair q = if q = p then v else s.pair q := by simp [State.pair, State.setPair]

@[simp] theorem State.pair_updPair (s : State) (p q : Nat) (f : Pair → Pair) :
    (s.updPair p f).pair q = if q = p then f (s.pair p) else s.pair q := by simp [State.updPair]

@[simp] theorem Pair.bank_setBank (v : Pair) (b e : Nat) (k : Bank) :
    (v.setBank b k).bank e = if e = b then k else v.bank e := by simp [Pair.bank, Pair.setBank]

theorem State.pair_setBank (s : State) (p q b : Nat) (k : Bank) :
    (s.setBank p b k).pair q = if q = p then (s.pair p).setBank b k else s.pair q := by simp [State.setBank]

@[simp] theorem State.bank_setBank (s : State) (p q b e : Nat) (k : Bank) :
    (s.setBank p b k).bank q e = if q = p ∧ e = b then k else s.bank q e := by
  unfold State.setBank State.bank
  by_cases h : q = p <;> by_cases h' : e = b <;> simp [h, h']

@[simp] theorem State.bank_updBank (s : State) (p q b e : Nat) (f : Bank → Bank) :
    (s.updBank p b f).bank q e = if q = p ∧ e = b then f (s.bank p b) else s.bank q e := by simp [State.updBank]

theorem State.bank_of_pairs {s t : State} (h : t.pairs = s.pairs) (p b : Nat) : t.bank p b = s.bank p b := by
  simp [State.bank, State.pair, h]

/-- c0 reads as null, and a register reads what was last written to it. -/
@[simp] theorem Bank.reg_setReg (k : Bank) (n m : Nat) (c : Cap) :
    (k.setReg n c).reg m = if m = 0 then nullCap else if m = n then c else k.reg m := by
  unfold Bank.setReg Bank.reg
  by_cases h : m = 0 <;> by_cases h' : n = 0 <;> by_cases h'' : m = n <;> simp_all

@[simp] theorem Bank.reg_zero (k : Bank) : k.reg 0 = nullCap := rfl

@[simp] theorem Pair.acc_setAcc (v : Pair) (n m : Nat) (a : AccWord) :
    (v.setAcc n a).acc m = if m = n then a else v.acc m := by simp [Pair.acc, Pair.setAcc]

@[simp] theorem State.pair_wr (s : State) (a : Nat) (v : Word) (pr : Nat) : (s.wr a v).pair pr = s.pair pr := rfl
@[simp] theorem State.bank_wr (s : State) (a : Nat) (v : Word) (pr bk : Nat) : (s.wr a v).bank pr bk = s.bank pr bk := rfl
@[simp] theorem State.pair_setFld (s : State) (a lo w v : Nat) (pr : Nat) : (s.setFld a lo w v).pair pr = s.pair pr := rfl
@[simp] theorem State.bank_setFld (s : State) (a lo w v : Nat) (pr bk : Nat) : (s.setFld a lo w v).bank pr bk = s.bank pr bk := rfl
@[simp] theorem State.pair_setBit (s : State) (a i : Nat) (pr : Nat) : (s.setBit a i).pair pr = s.pair pr := rfl
@[simp] theorem State.bank_setBit (s : State) (a i : Nat) (pr bk : Nat) : (s.setBit a i).bank pr bk = s.bank pr bk := rfl
@[simp] theorem State.pair_bumpF (s : State) (a lo w : Nat) (pr : Nat) : (s.bumpF a lo w).pair pr = s.pair pr := rfl
@[simp] theorem State.bank_bumpF (s : State) (a lo w : Nat) (pr bk : Nat) : (s.bumpF a lo w).bank pr bk = s.bank pr bk := rfl
@[simp] theorem State.pair_bump (s : State) (a : Nat) (pr : Nat) : (s.bump a).pair pr = s.pair pr := rfl
@[simp] theorem State.bank_bump (s : State) (a : Nat) (pr bk : Nat) : (s.bump a).bank pr bk = s.bank pr bk := rfl
@[simp] theorem State.pair_updSec (s : State) (f : Sec → Sec) (pr : Nat) : (s.updSec f).pair pr = s.pair pr := rfl
@[simp] theorem State.bank_updSec (s : State) (f : Sec → Sec) (pr bk : Nat) : (s.updSec f).bank pr bk = s.bank pr bk := rfl
@[simp] theorem State.pair_updKeys (s : State) (f : KeyStore → KeyStore) (pr : Nat) : (s.updKeys f).pair pr = s.pair pr := rfl
@[simp] theorem State.bank_updKeys (s : State) (f : KeyStore → KeyStore) (pr bk : Nat) : (s.updKeys f).bank pr bk = s.bank pr bk := rfl
@[simp] theorem State.pair_updBoot (s : State) (f : BootUnit → BootUnit) (pr : Nat) : (s.updBoot f).pair pr = s.pair pr := rfl
@[simp] theorem State.bank_updBoot (s : State) (f : BootUnit → BootUnit) (pr bk : Nat) : (s.updBoot f).bank pr bk = s.bank pr bk := rfl
@[simp] theorem State.pair_updDraw (s : State) (f : Draw → Draw) (pr : Nat) : (s.updDraw f).pair pr = s.pair pr := rfl
@[simp] theorem State.bank_updDraw (s : State) (f : Draw → Draw) (pr bk : Nat) : (s.updDraw f).bank pr bk = s.bank pr bk := rfl
@[simp] theorem State.pair_updSweep (s : State) (f : Sweeper → Sweeper) (pr : Nat) : (s.updSweep f).pair pr = s.pair pr := rfl
@[simp] theorem State.bank_updSweep (s : State) (f : Sweeper → Sweeper) (pr bk : Nat) : (s.updSweep f).bank pr bk = s.bank pr bk := rfl
@[simp] theorem State.pair_emit (s : State) (l : List Emit) (pr : Nat) : (s.emit l).pair pr = s.pair pr := rfl
@[simp] theorem State.bank_emit (s : State) (l : List Emit) (pr bk : Nat) : (s.emit l).bank pr bk = s.bank pr bk := rfl
@[simp] theorem State.pair_emitMore (s : State) (e : Emit) (pr : Nat) : (s.emitMore e).pair pr = s.pair pr := rfl
@[simp] theorem State.bank_emitMore (s : State) (e : Emit) (pr bk : Nat) : (s.emitMore e).bank pr bk = s.bank pr bk := rfl
@[simp] theorem State.pair_updJrn (s : State) (f : Jrn → Jrn) (pr : Nat) : (s.updJrn f).pair pr = s.pair pr := rfl
@[simp] theorem State.bank_updJrn (s : State) (f : Jrn → Jrn) (pr bk : Nat) : (s.updJrn f).bank pr bk = s.bank pr bk := rfl
@[simp] theorem State.pair_updPwr (s : State) (f : Pwr → Pwr) (pr : Nat) : (s.updPwr f).pair pr = s.pair pr := rfl
@[simp] theorem State.bank_updPwr (s : State) (f : Pwr → Pwr) (pr bk : Nat) : (s.updPwr f).bank pr bk = s.bank pr bk := rfl

end Sys2Proof.Machine
end

