-- ==== Sys2Proof/Laws/Run.lean ====
section
/-!
SUPPORT. The shared operations around every command, each with what it can do: the command's end, a command of a unit, a
syllable issued alone, a step of the queue.
-/
namespace Sys2Proof.Laws
open Sys2Proof.Machine

/-! ## The queue -/

theorem step_nil {s : State} (h : s.pending = []) : Machine.step s = .next s.idle := by unfold Machine.step; rw [h]

theorem step_cons {s : State} {c : Instr} {rest : List Instr} (h : s.pending = c :: rest) :
    Machine.step s = exec c { s with pending := rest } := by unfold Machine.step; rw [h]

/-! ## The end of a command -/

/-- With no accepted security command waiting, the receipt's answer is nothing. -/
theorem settlePend_of_none {s : State} (h : s.sec.pend = none) : s.settlePend = s := by
  unfold State.settlePend; rw [h]

/-- Outside stage 4 boot does not settle. -/
theorem settleBoot_of_stage {s : State} (h : s.stage ≠ 4) : s.settleBoot = s := by
  unfold State.settleBoot; rw [if_neg (by simp [h])]

/-- With no takeover due after a partner's detach none takes place. -/
theorem settleDetach_of_not_due {s : State} (h : s.detachDue = false) : s.settleDetach = s := by
  unfold State.settleDetach; rw [h]; rfl

/-- With HB_STATUS as before the host gets no notice of it. -/
theorem hbNotice_same {s u : State} (h : u.hbStatus = s.hbStatus) : s.hbNotice u = u := by
  unfold State.hbNotice; simp [h]

/-- With nothing sent there are no flits to pack. -/
theorem cwlPack_of_nothing {s : State} (h : s.out = []) : s.cwlPack = s := by
  unfold State.cwlPack; rw [h]; cases s; simp_all

/-- A command whose effect leaves nothing for its end to do: the state is that effect's. -/
theorem cmd_at_rest {s u : State} {f : State → State} (hf : f { s with out := [] } = u) (h : AtRest s u) : State.cmd f s = u := by
  obtain ⟨h1, ⟨h2, h3, h5⟩, h4⟩ := h
  unfold State.cmd
  rw [hf, settlePend_of_none h2, settleBoot_of_stage h3, settleDetach_of_not_due h5, hbNotice_same h4, cwlPack_of_nothing h1]

theorem does_at_rest {s u : State} {f : State → State} (hf : f { s with out := [] } = u) (h : AtRest s u) : does f s = .next u := by
  unfold does; rw [cmd_at_rest hf h]

theorem onUnit_has {g : Bool} {f : State → State} {s : State} (h : g = true) : onUnit g f s = does f s := by simp [onUnit, h]

theorem onUnit_absent {g : Bool} {f : State → State} {s : State} (h : g = false) : onUnit g f s = does id s := by
  subst h; rfl

/-- A command of a unit answers a next state; where the module does not have the unit, nothing receives it. -/
theorem onUnit_cases (g : Bool) (f : State → State) (s : State) :
    (g = true ∧ onUnit g f s = .next (State.cmd f s)) ∨ (g = false ∧ onUnit g f s = .next (State.cmd id s)) := by
  cases g
  · exact .inr ⟨rfl, rfl⟩
  · exact .inl ⟨rfl, rfl⟩

/-! ## A syllable issued alone -/

/-- What a syllable that issues does: its body runs in its context from the state it issues in; completed, the load delay
ends or begins; faulted, the fault is taken, or waits while a tally status is outstanding. -/
theorem sylRun_of_issues {i : Instr} {p b : Nat} {s : State} {n : SylInfo} (h : Issues i p b s) (hn : infoOf i = some n)
    (body : Body) :
    ({ s with out := [] } : State).sylRun i p body =
      match body ((issued s p b).ctxFor p b n) (issued s p b) with
      | .ok _ u => (if n.load then retiredLoad p u else retired p u, true)
      | .flt f u => if s.tallyBusy p b then ({ s with out := [] }, true)
          else ((u.faultOf p b f n.unit (f.cause == arith && !n.arith)).stepped p, false) := by
  obtain ⟨-, h1, h2, m, hm, h3, h4⟩ := h
  obtain rfl : m = n := by simpa using hm.symm.trans hn
  have e1 : ({ s with out := [] } : State).execBank p = some b := h1
  have e2 : ({ s with out := [] } : State).apendDue p b = false := h2
  have e3 : ({ s with out := [] } : State).sylWaits p b m = false := h3
  have e4 : (isSentinel p && m.unit == 3) = false := by
    cases hp : isSentinel p
    · rfl
    · simpa using h4 hp
  have e5 : ({ s with out := [] } : State).tallyBusy p b = s.tallyBusy p b := rfl
  unfold State.sylRun
  simp only [e1, hn, e2, e3, e4, e5, Bool.false_eq_true, if_false]
  show (match body ((issued s p b).ctxFor p b m) (issued s p b) with
      | .ok _ s2 => ((if m.load then s2 else s2.endDelay p).stepped p, true)
      | .flt f s2 => if s.tallyBusy p b then (({ s with out := [] } : State), true)
          else ((s2.faultOf p b f m.unit (f.cause == arith && !m.arith)).stepped p, false)) = _
  cases body ((issued s p b).ctxFor p b m) (issued s p b) with
  | ok x u => unfold retiredLoad retired; cases m.load <;> rfl
  | flt f u => rfl

/-- A register syllable whose body completes takes effect as its body says. -/
theorem runReg_ok {i : Instr} {p b : Nat} {s u : State} {n : SylInfo} {body : Body} {l : Bool} (h : Issues i p b s)
    (hn : infoOf i = some n) (hb : body ((issued s p b).ctxFor p b n) (issued s p b) = .ok l u) :
    runReg i p body s = .next (if n.load then retiredLoad p u else retired p u) := by
  unfold runReg
  rw [if_pos h.1]
  simp only [sylRun_of_issues h hn, hb]
  rfl

/-- A syllable of memory or a unit whose body completes takes effect as its body says, where that leaves the command's end
nothing to do. -/
theorem runSyl_ok {i : Instr} {p b : Nat} {s u t : State} {n : SylInfo} {body : Body} {l : Bool} (h : Issues i p b s)
    (hn : infoOf i = some n) (hb : body ((issued s p b).ctxFor p b n) (issued s p b) = .ok l u)
    (ht : t = if n.load then retiredLoad p u else retired p u) (hr : AtRest s t) : runSyl i p body s = .next t := by
  unfold runSyl
  rw [onUnit_has (by simpa using h.1)]
  apply does_at_rest _ hr
  rw [sylRun_of_issues h hn, hb, ht]

/-- A syllable whose body faults has the fault taken, where that leaves the command's end nothing to do. -/
theorem runSyl_flt {i : Instr} {p b : Nat} {s u t : State} {n : SylInfo} {body : Body} {f : PFault} (h : Issues i p b s)
    (hn : infoOf i = some n) (hb : body ((issued s p b).ctxFor p b n) (issued s p b) = .flt f u) (hq : s.tallyBusy p b = false)
    (ht : t = (u.faultOf p b f n.unit (f.cause == arith && !n.arith)).stepped p) (hr : AtRest s t) :
    runSyl i p body s = .next t := by
  unfold runSyl
  rw [onUnit_has (by simpa using h.1)]
  apply does_at_rest _ hr
  rw [sylRun_of_issues h hn, hb]
  simp [hq, ht]

/-! ## Free choices of a step -/

/-- Where no event may come a syllable performs all that remains (R156). -/
theorem slotsNow_of_no_event {s : State} {c : SCtx} {r : Nat} (h : s.eventMayCome c.pair = false) : s.slotsNow c r = (r, s) := by
  simp [State.slotsNow, h]

/-- A syllable performs some of what remains, and no more. -/
theorem slotsNow_bounds {s : State} {c : SCtx} {r : Nat} (h : 0 < r) : 0 < (s.slotsNow c r).1 ∧ (s.slotsNow c r).1 ≤ r := by
  unfold State.slotsNow
  split
  · exact ⟨h, le_refl r⟩
  · dsimp only
    split
    · exact ⟨h, le_refl r⟩
    · exact ⟨Nat.pos_of_ne_zero ‹_›, (Nat.mod_lt _ h).le⟩

/-- The choice changes nothing but the number of the next free value. -/
theorem slotsNow_state (s : State) (c : SCtx) (r : Nat) : { (s.slotsNow c r).2 with free := s.free } = s := by
  unfold State.slotsNow State.fresh
  split <;> rfl

/-- A word that no store has left stale is fetched as it stands (R134, R289). -/
theorem staleWord_of_none {s : State} {p pa cur : Nat} {sp : Space} (h : s.stale = []) : s.staleWord p sp pa cur = (cur, s) := by
  cases sp <;> simp [State.staleWord, always, h]

/-- A command bit that is clear does nothing. -/
@[simp] theorem onBit_zero (s : State) (i : Nat) (f : State → State) : s.onBit 0 i f = s := by simp [State.onBit]

end Sys2Proof.Laws
end

