-- ==== Sys2Proof/Machine/Pins.lean ====
section
/-!
DEFINITION. The output pins and front-panel lights of the module, as functions of its state (R242, R464, R527, R550, R552).
-/
namespace Sys2Proof.Machine

/-- Does the module have power, so that it can drive its open-drain lines (R555)? It has none before power-good and after a loss of
power (DEDUCED, log 95). -/
def State.powered (s : State) : Bool := !(s.fld Addr.PWR_STATUS 0 3 == 0) && !(s.fld Addr.PWR_STATUS 0 3 == 5)

/-- FAULT_N is driven low: some lockup bit of `EXC_LOCKUP` is set (R242), or the self-test of pair 0 failed (R427). -/
def State.pinFault (s : State) : Bool :=
  s.powered && (!(s.rd Addr.EXC_LOCKUP0 == 0 && s.rd Addr.EXC_LOCKUP1 == 0) || (s.pair 96).failed)

/-- ALARM_N is driven low (R464): `SEC_STATUS.ALARM` says so (R476). -/
def State.pinAlarm (s : State) : Bool := s.powered && s.fld Addr.SEC_STATUS 3 1 == 1

/-- PG_OUT is asserted (R527): `PWR_STATUS.PG` says so (R547). -/
def State.pinPg (s : State) : Bool := s.fld Addr.PWR_STATUS 7 1 == 1

/-- What a front-panel light shows (R552). -/
inductive Light where
  | off | on | blink
deriving DecidableEq, Repr

/-- A light that is on under a condition. -/
def lightOf (b : Bool) : Light := if b then .on else .off

/-- The PWR light: blinking while STARTING or DRAINING, else on while PG_OUT is asserted (R552). -/
def State.ledPwr (s : State) : Light :=
  if s.fld Addr.PWR_STATUS 0 3 == 0 || s.fld Addr.PWR_STATUS 0 3 == 3 then .blink else lightOf s.pinPg

/-- The FAULT light: on while FAULT_N is driven (R552). -/
def State.ledFault (s : State) : Light := lightOf s.pinFault

/-- The ALARM light: on while ALARM_N is driven (R552). -/
def State.ledAlarm (s : State) : Light := lightOf s.pinAlarm

/-- The REMOVE light: on in READY (R535, R552). -/
def State.ledRemove (s : State) : Light := lightOf (s.fld Addr.PWR_STATUS 0 3 == 4)

/-- The LOCATE light: blinking while bit 0 of LED_SET is set (R518, R552). -/
def State.ledLocate (s : State) : Light := if s.sec.locate then .blink else .off

end Sys2Proof.Machine
end

