-- ==== Sys2Proof/Tests/Slice0.lean ====
section
/-!
SUPPORT. The model's own tests: the smoke test of WellFormed, one-step tests against the spec's rules, and, for every statement
that has hypotheses, states and operands that meet the hypotheses of each of its clauses.
-/
namespace Sys2Proof.Tests

set_option Elab.async false
open Sys2Proof.Machine

/-! ## States that the tests use -/

def dTaskEntry : TaskEntry := ⟨nullCap,0,false,0,0⟩
def dPost : Post := ⟨0,[],none,0,none,0⟩
def dDelivery : Delivery := ⟨0,0,0,0,[],0,none,0,false,false,false,0,none,none,0⟩
def dCand : Cand := ⟨0,false,0,.bank 0,none,0⟩
def dBank : Bank := bankReset
def dTallyOp : TallyOp := ⟨0,0,0,none,.add,0,0,0,false,0,false,0,0,[]⟩
/-- The state right after module reset. -/
def r : State := State.reset
def tsbA : Cap := mintCap 0x7F 0 0x10000 0x10800
def teA : TaskEntry := ⟨tsbA, 0, true, 3, 0⟩
def evdA : State := { r with evd := { r.evd with tasks := [(7, some teA)], slots := [(5, 0x800007)] } }
/-- Pair 0 with bank 2 of task 7 in a state. -/
def bankA (st : BankState) : State := evdA.updBank 0 2 (fun k => { k with task := some 7, st := st, tsbc := tsbA })
def haltA (c : HaltCause) : State := evdA.updPair 0 (fun v => { v with halt := some c })
def exA : Cap := mintCap 0x4B 0 0x20000 0x21000
def rwA : Cap := mintCap 0x67 0 0x30000 0x31000
def escA (s : State) : State := s.updPair 0 (fun v => { v with escc := exA, essc := rwA })
def postA : Post := ⟨4097, [], some (0, 2), 0, none, 0⟩

def onP (s : State) (p : Nat) (f : Pair → Pair) : State := s.updPair p f
def evEn : State := evdA.setFld Addr.EVD_CTRL 0 1 1
def post5 : Post := ⟨5, [], none, 0, none, 0⟩
def evP : State := ({ evEn with evd := { evEn.evd with posts := [post5] } }).setFld (Addr.EVD_CHSTAT 5) 0 16 1
def entA : Cap := mintCap 0x20B 0xFF04 0x20000 0x21000
def del9 : Delivery := ⟨9, 5, 7, 0, [intCap 5], 0, none, 3, true, false, false, 0, none, none, 0⟩
def evIdle : State :=
  let s := (bankA .idle).capWrite .dram 0x10500 entA
  ({ s with evd := { s.evd with delivs := [del9] } }).updPair 0 (fun v => { v with selected := some (.event 9) })
def getOk {α : Type} (d : α) : Res α → α | .ok x _ => x | .flt _ _ => d
def getSt {α : Type} : Res α → State | .ok _ s => s | .flt _ s => s
def evFull : State := (List.range 15).foldl (fun s b => s.updBank 0 b (fun k => { k with st := .idle, task := some (20 + b), tsbc := tsbA })) evIdle
def evFullE : State := { evFull.updPair 0 (fun v => { v with selected := some (.event 9) }) with evd := { evFull.evd with tasks := (20, some teA) :: evFull.evd.tasks } }
def evHeld : State := (List.range 15).foldl (fun s b => s.updBank 0 b (fun k => { k with held := true })) evFullE
def sbA : SpillBuf := ⟨{ bankReset with tsbc := tsbA, task := some 7 }, 7, false, false, 0, [0x10000, 0x10010]⟩

def eclOn : State := r.setFld Addr.ECL_CTRL 0 1 1
def ph (n : Nat) : State := (eclOn.setFld Addr.ECL_STATUS 0 1 1).setFld Addr.ECL_STATUS 1 3 n
def rng : ScanRange := ⟨none, 0x1000, 0x1002, .physical⟩
def op3 : TallyOp := { dTallyOp with id := 3, cell := 0x4000, amount := 5, task := some 7 }
def cellE (st : CombState) (n : Nat) : CombEntry := ⟨0x4000, st, List.replicate 64 0, [], n, false, 16, 0⟩
def tchS (c : TallyChan) : State := { r with tally := { r.tally with chans := [(channelOf 0x4000, c)] } }
def tchE (st : CombState) (n : Nat) : State := tchS ⟨[cellE st n], []⟩

def up (s : State) (p : Nat) : State := s.updPair p (fun v => { v with started := true })
def stg (n : Nat) : State := r.setFld Addr.SEN_BOOT 0 4 n
def strp (s : State) : State := { s with bootSt := { s.bootSt with strapped := true } }
def arbO (ch : Nat) (a : ArbChan) : State := { r with arbs := [(ch, a)] }
def img2 : Image := ⟨2, [1, 2, 3, 4], 0x1000, 0⟩
def imgs (s : State) : State := { s with bootSt := { s.bootSt with images := [img2] } }
def nq (q : Nat) : State := r.notify q 3 4 5 6
def pw (n : Nat) : State := r.setFld Addr.PWR_STATUS 0 3 n
def opened (s : State) : State := { s with pwr := { s.pwr with closed := false } }
def trig (n : Nat) (d : Bool) (s : State) : State := { s with pwr := { s.pwr with trigger := n, ctxDone := d } }
def dbgOn : State := (r.setFld Addr.SEC_DBG 0 1 1).setFld Addr.SEC_DBG 16 16 100
def dbgReg : State := (dbgOn.wr (Addr.RCU_DBG_LO 0) (BitVec.ofNat 64 (2^63 + 2^48 + 2^49))).wr (Addr.RCU_DBG_HI 0) 0xFFFF

def rq (i : JIssuer) : JReq := ⟨0xF003, 0x0105, [1, 2], i⟩
def jq (s : State) (l : List JReq) : State := { s with jrn := { s.jrn with queue := l } }
def jopen (s : State) : State := { s with jrn := { s.jrn with opening := true, isOpen := true } }
def je (n : Nat) (i : List JIssuer) : JEntry := ⟨n, 0, 64, 0x0001, List.replicate 64 5, List.replicate 32 6, false, false, false, false, i, 0⟩
def jring (s : State) (l : List JEntry) : State := { s with jrn := { s.jrn with ring := l } }
def waitA : State := (bankA .waiting).updBank 0 2 (fun k => { k with waitCd := some 31 })
def sigA : Signing := ⟨4, List.replicate 32 1, []⟩
def sigS (s : State) : State := { s with jrn := { s.jrn with signing := some sigA } }
def dr : DrawReq := ⟨0, 2, 7, 0, 31, 3, 10, 1, false, [(0x9000, 8)]⟩
def dq (s : State) : State := { s with draw := { s.draw with queue := [dr] } }
def dJReq : JReq := rq .none
def dSigning : Signing := sigA
def dJEntry : JEntry := je 0 []
def dDrawReq : DrawReq := dr
def dGen : Gen := genStart

/-- A well-formed policy block: version 1, no alarm policy, grant bounds 0-255. -/
def polA : List Byte :=
  [1, 0, 0, 0, 1, 0, 0, 0] ++ (List.range 22).flatMap (fun _ => [0, 255]) ++ [0xFF, 3, 50, 0, 0, 1, 50, 0, 75, 90, 98, 0]
    ++ [0, 16, 50, 0, 0xD0, 7, 0, 0, 0, 25, 0x85, 2, 0, 0, 1, 0, 0x10, 0x27, 0, 0, 0, 0, 0, 0] ++ List.replicate 120 0
/-- The port steward runs, the regulator's key switch is closed, lifecycle state st. -/
def mg (st : Nat) : State := (((up (up r 98) 97).setFld Addr.SEC_LC 0 3 st).setFld Addr.SEC_STATUS 2 1 1).setFld Addr.DRW_STATUS 0 3 1
def mgOpen (st : Nat) : State := jopen (mg st)
def mgHold (st : Nat) : State := (up (mg st) 96).setFld Addr.SEN_BOOT 0 4 6
def devK (s : State) : State := { s with keys := { s.keys with devKey := some 0 } }
def provB : List Byte := List.replicate 97 4 ++ [1, 0, 0, 0, 0, 0, 0, 0] ++ List.replicate 97 4 ++ List.replicate 97 4 ++ polA
def polK (s : State) : State := { s with keys := { s.keys with policy := polA } }
def segA (count idx : Nat) (body : List Byte) : List Byte :=
  natBytes 2 0x5A56 ++ [1, 0] ++ natBytes 2 1 ++ [0, 0] ++ natBytes 4 9 ++ natBytes 2 idx ++ natBytes 2 count ++ natBytes 2 body.length ++ [0, 0] ++ body
def exA9 : Exchange := ⟨1, 9, 3, 1, []⟩
def dExchange : Exchange := exA9
def dResponse : Response := ⟨1, 9, 1, List.replicate 2000 1⟩

def netUp : State := ((r.setFld Addr.NET_STATUS 0 4 15).setFld Addr.NET_CTRL 0 4 15).setFld Addr.NET_CTRL 32 8 7
def fr60 : List Byte := List.replicate 12 2 ++ [8, 0] ++ List.replicate 46 9
def frP : List Byte := List.replicate 12 2 ++ [0x88, 8] ++ List.replicate 46 9
def rxOn (l : List Nat) : State :=
  let s := { netUp with rxFree := [(7, l)], evd := { netUp.evd with tasks := [(9, some teA)], slots := [(33, 0x900009)] } }
  s.wr (Addr.NET_RXQ_CFG 7) (BitVec.ofNat 64 (1 + 4 * 2 ^ 16 + 33 * 2 ^ 32))
def txOn (d : List Byte) : State :=
  let s := netUp.dataWrite .dram 0x6000 d
  ((s.wr (Addr.NET_TXQ_CFG 255) (BitVec.ofNat 64 (1 + 3 * 2 + 4 * 2 ^ 16))).wr (Addr.NET_TXQ_BASE 255) 0x6000).wr (Addr.NET_TXQ_TAIL 255) 1
def txD : List Byte := natBytes 8 0x7000 ++ natBytes 2 60 ++ [0, 0] ++ natBytes 4 0
def tm (st : Nat) : State :=
  ((r.wr Addr.TIME_CFG (BitVec.ofNat 64 (1 + 3 * 4 + 5 * 256))).wr (Addr.TIME_GM 3) 0x77).setFld Addr.TIME_STATUS 0 2 st
def pciU : State := (r.setFld Addr.PCI_STATUS 0 1 1).setFld Addr.PCI_CTRL 0 1 1
def hbOn : State := (pciU.setHb (hbSqCfg 15) 0x31).setHb (hbDrCfg 15) 0x31
def sqs (d : List Byte) (s : State) : State :=
  (((s.dataWrite .dram 0x6000 d).wr (Addr.PCI_SQ_CFG 15) (BitVec.ofNat 64 (1 + 4 * 2 ^ 16))).wr (Addr.PCI_SQ_BASE 15) 0x6000).wr (Addr.PCI_SQ_TAIL 15) 1
def sqD : List Byte := natBytes 8 0x7000 ++ natBytes 2 8 ++ [15, 0] ++ natBytes 4 0
def drFull (s : State) : State := { s with net := { s.net with dr := [(15, ⟨4, 0⟩)] } }
def lk1 : State := (r.setFld Addr.CWL_STATUS 0 2 1).setFld Addr.CWL_CTRL 0 2 3
def flt (k f sq : Nat) : List Byte := let b := natBytes 1 k ++ natBytes 1 f ++ natBytes 2 sq ++ List.replicate 120 0; b ++ natBytes 4 (crc32 b)
def kept (n : Nat) : State := lk1.setLnk 0 { linkReset with kept := [(0, ⟨0, 0, [1]⟩)], replays := n }
def fwdS : State := { waitA with jrn := { waitA.jrn with fwd := [(5, ⟨1, 0, [1], .bank 0 2 7 0⟩)] } }
def stby (s : State) : State := s.setFld Addr.JRN_REPL_STATUS 0 1 1

def op3r : TallyOp := { op3 with kind := .read }
def liveC : List Byte := List.replicate 24 0 ++ [0, 0, 0, 0, 0, 0, 0, 1] ++ List.replicate 8 0 ++ [1, 0, 0, 0, 9, 0, 0, 0] ++ List.replicate 16 0
def eAct : CombEntry := { cellE .active 0 with data := liveC }
def eLoad : CombEntry := { cellE .loading 0 with data := [], waiting := [op3r] }
def eLoad1 : CombEntry := { cellE .loading 0 with data := [], waiting := [op3] }

def txBuf : State := let s := (netUp.wr (Addr.NET_TXQ_CFG 255) (BitVec.ofNat 64 (1 + 3 * 2 + 4 * 2 ^ 16))); { s with net := { s.net with txBuf := [(3, [⟨255, 0x6000, [1, 2]⟩])] } }
/-- Does the effect answer normally, leaving u? -/
def okIn {α : Type} (r : Res α) (u : State) : Bool :=
  match r with
  | .ok _ v => decide (v = u)
  | _ => false
theorem ok_of_okIn {α : Type} (d : α) {r : Res α} {u : State} (h : okIn r u = true) : r = .ok (getOk d r) u := by
  unfold okIn at h
  split at h
  · rw [of_decide_eq_true h]; rfl
  · cases h
/-- What holds of every entry of a map, and of what it reads as elsewhere, holds of whatever it answers. -/
theorem smGet_all {β : Type} {P : β → Prop} {d : Nat → β} (hd : ∀ k, P (d k)) :
    ∀ {m : List (Nat × β)}, (∀ e ∈ m, P e.2) → ∀ k, P (smGet d m k)
  | [], _, k => hd k
  | e :: m, h, k => by
    unfold smGet
    split
    · exact h e (by simp)
    · exact smGet_all hd (fun x hx => h x (by simp [hx])) k


def exSY : Cap := (mintCap 0x400B 0 0x20000 0x21000).withAddr 0x20100 true
def allAt (x : Nat) : Cap := (mintCap 0xFFFF 0 0x30000 0x31000).withAddr x true
/-- Pair p runs bank b of task 7 at 0x20100, with the registers that the syllable witnesses use. -/
def runs (p b : Nat) (f : Bank → Bank) : State :=
  (r.updBank p b (fun k => f { k with
    pcc := exSY, st := .running, task := some 7,
    regs := [(1, (mintCap 0xB 0 0x20000 0x21000)), (2, allAt 0x30800), (4, intCap 3), (5, intCap 100), (6, intCap 1), (7, intCap 5),
      (8, intCap (-1)), (10, allAt 0x30100), (11, mintCap 0 0xFF06 0 64), (12, mintCap 0xB 0 0x20000 0x21000),
      (13, intCap 0x7FFFFFFFFFFFFFFF), (14, mkCap false 0 0 50 0x1B00 0x3980 (2 ^ 64 - 1)), (15, (mintCap 0x180 0 0 0x10000).withAddr 7 true),
      (16, allAt 0x30400), (17, intCap 0x10004), (18, intCap 0x1FFF0), (19, mintCap 0xFFFF 0 0x40000 0x60000),
      (20, mintCap 0x1000 0 0 16), (21, mintCap 0x1000 0 0x30000 0x30100), (22, mintCap 0x7 0xFF02 0x30000 0x30100)] })).updPair p
    (fun v => { v with run := some b, started := true })
def wS : State := runs 5 2 id
/-- The same with the syllable word w at the cursor and EVM clear. -/
def wB (w : Nat) : State := (runs 5 2 (fun k => { k with status := 0 })).dataWrite .dram 0x20100 (natBytes 4 w)
/-- The same with a hardware loop that ends at le. -/
def wL (le lc w : Nat) : State := (wB w).updBank 5 2 (fun k => { k with le := BitVec.ofNat 64 le, lc := BitVec.ofNat 64 lc })
/-- The same with a tally status outstanding. -/
def wBusy : State := { wS with tally := { wS.tally with transit := [⟨0, 5, 2, some 7, .add, 0x30000, 0, 0, false, 0, false, 0, 31, []⟩] } }


/-- Does the syllable issue (Issues)? -/
def issuesB (i : Instr) (p b : Nat) (s : State) : Bool :=
  decide (p < 104) && decide (({ s with out := [] } : State).execBank p = some b) && !s.apendDue p b &&
    match infoOf i with
    | some n => !s.sylWaits p b n && (!isSentinel p || decide (n.unit ≠ 3))
    | none => false
theorem issues_of {i : Instr} {p b : Nat} {s : State} (h : issuesB i p b s = true) : Issues i p b s := by
  unfold issuesB at h
  cases hn : infoOf i with
  | none => simp [hn] at h
  | some n =>
    simp only [hn, Bool.and_eq_true, decide_eq_true_eq, Bool.not_eq_true', Bool.or_eq_true] at h
    exact ⟨h.1.1.1, h.1.1.2, h.1.2, n, hn, h.2.1, fun g => h.2.2.resolve_left (by simp [g])⟩
/-- A bank that interrupted nothing leaves nothing to go on with. -/
theorem resumes_next {s : State} {p b : Nat} (h : (s.bank p b).prior = none) : ResumesNext s p b := by
  simp [ResumesNext, h]
theorem issues_all {l : List Instr} {p b : Nat} {s : State} (h : l.all (fun i => issuesB i p b s) = true) :
    ∀ i ∈ l, Issues i p b s := fun i hi => issues_of (List.all_eq_true.mp h i hi)

/-! ## Smoke and one-step tests -/

/-- WellFormed refuses a term for each of its checks: a unit, channel or register that the module does not have (log 1). -/
theorem test_ill_formed_commands_are_refused :
    ∀ i ∈ ([.bundle 104, .add 104 1 2 3, .popc 104 1 2, .pget 104 1, .compare 104 1 2 0 3 4, .tadd 104 1 2 3 4, .redispatch 96,
      .faultTimeout 96 0, .faultTimeout 0 16, .cellLineAccess (2 ^ 41), .arbDecision 16 0 0, .refresh 16, .patrolScrub 16 none,
      .registerWrite 105 0xF0000000000 0, .registerWrite 0 0xF0010000000 0, .registerWrite 0 0xF0000000004 0, .senNqHi 8,
      .lcQuery 3 0 [], .alarmRecover 3 0 [] true, .mgmtTimeout 3, .alarmDetection [(8, 0, 0)] true, .frameReceive 4 [] true,
      .portLinkDown 4, .netRxqCfgWrite 256 0, .netTxqTail 256 0, .txFrameSent 256, .followUp 4 0 0 0, .hbDrHead 16 0,
      .pciSqTail 16 0, .hostDelivery 16, .flit 2 [], .flitReplay 2, .cwlLinkUp 2 false 0 0, .clkRatio 3 0,
      .alarmSourceInactive 8] : List Instr), i.wellFormed = false := by decide +kernel

/-- Does the outcome answer a next state of which f holds? -/
def onNext (o : Host.Outcome State Fault Refusal) (f : State → Bool) : Bool :=
  match o with
  | .next t => f t
  | _ => false
/-- R139: ADD wraps at 64 bits and sets no flag. -/
theorem test_add_wraps : onNext (exec (.add 5 3 13 6) wS) (fun t =>
    t.srcX 5 2 3 == 0x8000000000000000 && (t.bank 5 2).amode == (wS.bank 5 2).amode && !(t.src 5 2 3).tag) = true := by
  decide +kernel
/-- R139, R190: ADDV sets OV where the sum leaves the range. -/
theorem test_addv_overflows : onNext (exec (.addv 5 3 13 6) wS) (fun t => (t.bank 5 2).amode.getLsbD 8) = true := by
  decide +kernel
/-- R35: a result for c0 is discarded. -/
theorem test_add_to_c0 : onNext (exec (.add 5 0 13 6) wS) (fun t => decide ((t.bank 5 2).reg 0 = nullCap)) = true := by
  decide +kernel
/-- R140: a zero divisor gives quotient 0 with DZ. -/
theorem test_div_by_zero : onNext (exec (.div 5 3 7 9) wS) (fun t =>
    t.srcX 5 2 3 == 0 && (t.bank 5 2).amode.getLsbD 11) = true := by decide +kernel
/-- R142: signed less-than of 5 and -1 is false, so p1 is 0 and p2 is 1. -/
theorem test_compare_signed : onNext (exec (.compare 5 1 2 2 7 8) wS) (fun t =>
    !(t.bank 5 2).pred 1 && (t.bank 5 2).pred 2) = true := by decide +kernel
/-- R5, R149: SD stores least significant byte first. -/
theorem test_sd_little_endian : onNext (exec (.sd 5 17 10 (.short 1)) wS) (fun t =>
    decide (t.bytesAt .dram 0x30108 4 = [4, 0, 1, 0])) = true := by decide +kernel
/-- R72: a data store clears the tag of the granule it touches. -/
theorem test_sb_clears_tag : onNext (exec (.sb 5 7 10 (.short 0)) (wS.capWrite .dram 0x30100 (allAt 0x30200))) (fun t =>
    !t.tagAt .dram 0x30100) = true := by decide +kernel
/-- R79: a capability whose base granule is eclipsed is loaded untagged. -/
theorem test_clc_barrier : onNext (exec (.clc 5 3 10 (.short 0)) { wS.capWrite .dram 0x30100 (allAt 0x30200) with
    bitmap := [(0x3000, true)] }) (fun t => !(t.src 5 2 3).tag) = true := by decide +kernel
/-- R152, R153: SCC.D without a reservation stores nothing and gives 1. -/
theorem test_scc_without_reservation : onNext (exec (.sccD 5 3 10 7) wS) (fun t =>
    t.srcX 5 2 3 == 1 && t.mem == wS.mem) = true := by decide +kernel
/-- R45: a length of 8191 is exact, a length of 8192 needs blocks of two bytes. -/
theorem test_crrl_boundary : onNext (exec (.crrl 5 3 4) (runs 5 2 (fun k => k.setReg 4 (intCap 8193)))) (fun t =>
    t.srcX 5 2 3 == 8194) = true := by decide +kernel
/-- R239, R241: with no escalation capability a ledger pair's fault locks it up. -/
theorem test_fault_without_escalation : onNext (exec (.ld 5 3 7 (.short 0)) wS) (fun t =>
    (t.pair 5).halt == some .lockup && (t.pair 5).run == none) = true := by decide +kernel
/-- R164: the bundle at LE goes back to LS and LC counts down. -/
theorem test_loop_end : onNext (exec (.bundle 5) ((wB 0x82030880).updBank 5 2 (fun k => { k with lc := 3, ls := 0x20000, le := 0x20100 })))
    (fun t => (t.bank 5 2).pcc.addr == 0x20000 && (t.bank 5 2).lc == 2) = true := by decide +kernel
/-- R114, R115: a bundle whose one syllable has a false predicate only advances. -/
theorem test_false_predicate : onNext (exec (.bundle 5) (wB 0x8A030880)) (fun t =>
    (t.bank 5 2).pcc.addr == 0x20104 && decide ((t.bank 5 2).reg 3 = nullCap)) = true := by decide +kernel
/-- SHA-256 is that of FIPS 180-4 (00_scope.md): the digest of its example "abc". -/
theorem test_sha256 : sha256 [0x61, 0x62, 0x63] =
    [0xBA, 0x78, 0x16, 0xBF, 0x8F, 0x01, 0xCF, 0xEA, 0x41, 0x41, 0x40, 0xDE, 0x5D, 0xAE, 0x22, 0x23,
     0xB0, 0x03, 0x61, 0xA3, 0x96, 0x17, 0x7A, 0x9C, 0xB4, 0x10, 0xFF, 0x61, 0xF2, 0x00, 0x15, 0xAD] := by decide +kernel
/-- A flit carries CRC-32 of IEEE 802.3 (18_external_interfaces.md): its check string. -/
theorem test_crc32 : crc32 [0x31, 0x32, 0x33, 0x34, 0x35, 0x36, 0x37, 0x38, 0x39] = 0xCBF43926 := by decide +kernel
/-- R258: an enabled, accepting channel takes a post and its depth rises. -/
theorem test_post_is_queued : onNext (exec (.evdPost 5) evdA) (fun t => t.fld (Addr.EVD_CHSTAT 5) 0 16 == 1) = true := by
  decide +kernel
/-- The tick that a step of an empty queue ends with is one nanosecond (log 2). -/
theorem test_idle_step : (r.tick.clk == r.clk + 1 && r.tick.time == r.time + 1) = true := by decide +kernel
/-- The model's step runs the command at the front of the queue. -/
theorem test_step_runs_front : onNext (step { wS with pending := [.add 5 3 7 7, .evdEnable] }) (fun t =>
    t.srcX 5 2 3 == 10 && t.pending == [.evdEnable]) = true := by decide +kernel

/-- A store to a TCM keeps the word's old value for fetches, and `IFLUSH` of that pair drops it (R134, R172). -/
theorem test_tcm_store_until_iflush :
    ((State.reset.dataWrite (.tcm 1) 6 [1]).stale = [(0x20001, [0])]) ∧
      ((State.reset.dataWrite (.tcm 1) 6 [1]).dropStale 97).stale = [] ∧
      ((State.reset.dataWrite (.tcm 1) 6 [1]).dropStale 96).stale = [(0x20001, [0])] := by decide +kernel
/-- SUBBYTES of FIPS 197 (00_scope.md): its example of one byte. -/
theorem test_aes_subbytes : aesSub 0x53 = 0xED := by decide +kernel
/-- The curve of FIPS 186-5 (00_scope.md): the base point lies on P-384. -/
theorem test_p384_base_point : (p384Gy ^ 2) % p384P = (p384Gx ^ 3 - 3 * p384Gx + p384B) % p384P := by decide +kernel

/-! ## Witnesses: syllables -/

theorem witness_IntegerArithmetic :
    (∃ (s : State) (p b : Nat) (cd cs1 cs2 : RegIx), (∀ i ∈ ([.add p cd cs1 cs2, .sub p cd cs1 cs2, .addv p cd cs1 cs2, .subv p cd cs1 cs2, .adds p cd cs1 cs2, .subs p cd cs1 cs2, .and p cd cs1 cs2, .or p cd cs1 cs2, .xor p cd cs1 cs2, .andn p cd cs1 cs2, .orn p cd cs1 cs2, .min p cd cs1 cs2, .max p cd cs1 cs2, .minu p cd cs1 cs2, .maxu p cd cs1 cs2, .slt p cd cs1 cs2, .sltu p cd cs1 cs2, .sll p cd cs1 cs2, .srl p cd cs1 cs2, .sra p cd cs1 cs2, .mul p cd cs1 cs2, .mulv p cd cs1 cs2, .muls p cd cs1 cs2, .mulh p cd cs1 cs2, .mulhu p cd cs1 cs2, .div p cd cs1 cs2, .divu p cd cs1 cs2, .rem p cd cs1 cs2, .remu p cd cs1 cs2, .divs p cd cs1 cs2] : List Instr), Issues i p b s)) :=
  ⟨wS, 5, 2, 3, 7, 8, issues_all (by decide +kernel)⟩

theorem witness_IntegerUnaryAndImmediate :
    (∃ (s : State) (p b : Nat) (cd cs1 : RegIx) (imm : Imm) (amt : BitVec 6), (∀ i ∈ ([.neg p cd cs1, .negs p cd cs1, .sextb p cd cs1, .sexth p cd cs1, .sextw p cd cs1, .zextw p cd cs1, .popc p cd cs1, .clz p cd cs1, .ctz p cd cs1, .addi p cd cs1 imm, .andi p cd cs1 imm, .ori p cd cs1 imm, .xori p cd cs1 imm, .slli p cd cs1 amt, .srli p cd cs1 amt, .srai p cd cs1 amt] : List Instr), Issues i p b s)) :=
  ⟨wS, 5, 2, 3, 7, .short 0, 3, issues_all (by decide +kernel)⟩

theorem witness_PredicatesAndCompares :
    (∃ (s : State) (p b : Nat) (pd q1 q2 : PredIx) (cd : RegIx), (∀ i ∈ ([.pand p pd q1 q2, .por p pd q1 q2, .pxor p pd q1 q2, .pandn p pd q1 q2, .pget p cd, .pput p cd] : List Instr), Issues i p b s)) ∧
    (∃ (s : State) (p b : Nat) (pd pc : PredIx) (cond : BitVec 3) (cs1 cs2 : RegIx), (∀ i ∈ ([.compare p pd pc cond cs1 cs2, .wideCompare p pd pc cond cs1 cs2] : List Instr), Issues i p b s) ∧ (pd ≠ pc ∨ pc = 0)) :=
  ⟨⟨wS, 5, 2, 1, 1, 2, 3, issues_all (by decide +kernel)⟩,
   ⟨wS, 5, 2, 1, 2, 3, 7, 8, issues_all (by decide +kernel), by decide +kernel⟩⟩

theorem witness_WideSyllables :
    (∃ (s : State) (p b : Nat) (cd cs1 cs2 : RegIx) (amt : BitVec 7) (imm : Imm), (∀ i ∈ ([.wadd p cd cs1 cs2, .wsub p cd cs1 cs2, .waddv p cd cs1 cs2, .wsubv p cd cs1 cs2, .wadds p cd cs1 cs2, .wsubs p cd cs1 cs2, .wand p cd cs1 cs2, .wor p cd cs1 cs2, .wxor p cd cs1 cs2, .wmul p cd cs1 cs2, .wmulv p cd cs1 cs2, .wmuls p cd cs1 cs2, .wdiv p cd cs1 cs2, .wrem p cd cs1 cs2, .wdivs p cd cs1 cs2, .wsll p cd cs1 cs2, .wsrl p cd cs1 cs2, .wsra p cd cs1 cs2, .wmulx p cd cs1 cs2, .wmulxu p cd cs1 cs2, .wpack p cd cs1 cs2, .wneg p cd cs1, .wnegs p cd cs1, .wsext p cd cs1, .wzext p cd cs1, .whi p cd cs1, .wslli p cd cs1 amt, .wsrli p cd cs1 amt, .wsrai p cd cs1 amt, .waddi p cd cs1 imm] : List Instr), Issues i p b s)) :=
  ⟨wS, 5, 2, 3, 7, 8, 3, .short 0, issues_all (by decide +kernel)⟩

theorem witness_CapabilityInspectionAndLengths :
    (∃ (s : State) (p b : Nat) (cd cs1 : RegIx), (∀ i ∈ ([.cgettag p cd cs1, .cgetperm p cd cs1, .cgettype p cd cs1, .cgetaddr p cd cs1, .crrl p cd cs1, .cram p cd cs1] : List Instr), Issues i p b s)) ∧
    (∃ (s : State) (p b : Nat) (cd cs1 : RegIx) (c : Cap), c = s.src p b cs1.toNat ∧ (∀ i ∈ ([.cgetbase p cd cs1, .cgetlen p cd cs1] : List Instr), Issues i p b s) ∧ c.malformed = false) ∧
    (∃ (s : State) (p b : Nat) (cd cs1 : RegIx) (c : Cap), c = s.src p b cs1.toNat ∧ Issues (.cgettop p cd cs1) p b s ∧ c.malformed = false ∧ c.top ≤ 2 ^ 64) ∧
    (∃ (s : State) (p b : Nat) (cd cs1 : RegIx) (c : Cap), c = s.src p b cs1.toNat ∧ Issues (.cgettop p cd cs1) p b s ∧ c.malformed = false ∧ 2 ^ 64 < c.top) :=
  ⟨⟨wS, 5, 2, 3, 7, issues_all (by decide +kernel)⟩,
   ⟨wS, 5, 2, 3, 7, _, rfl, issues_all (by decide +kernel), by decide +kernel⟩,
   ⟨wS, 5, 2, 3, 7, _, rfl, issues_of (by decide +kernel), by decide +kernel⟩,
   ⟨wS, 5, 2, 3, 14, _, rfl, issues_of (by decide +kernel), by decide +kernel⟩⟩

theorem witness_AccumulatorMovesAndFsync :
    (∃ (s : State) (p b : Nat) (ad as_ : AccIx) (cs1 cd : RegIx), (∀ i ∈ ([.aclr p ad, .amova p ad as_, .asetw p ad cs1, .asetx p ad cs1, .asetm p ad cs1, .asetg p ad cs1, .agetg p cd as_, .agetr p cd as_] : List Instr), Issues i p b s) ∧ Quiet s ∧ (s.bank p b).lazy = false) ∧
    (∃ (s : State) (p b : Nat), Issues (.fsync p) p b s ∧ Quiet s ∧ (s.bank p b).apend = false) :=
  ⟨⟨wS, 5, 2, 1, 2, 7, 3, issues_all (by decide +kernel), by unfold Quiet; decide +kernel⟩,
   ⟨wS, 5, 2, issues_of (by decide +kernel), by unfold Quiet; decide +kernel⟩⟩

theorem witness_MultiplyAccumulate :
    (∃ (s : State) (p b : Nat) (ad : AccIx) (cs1 cs2 : RegIx) (as_ : AccIx), (∀ i ∈ ([.qmul p ad cs1 cs2, .qmac p ad cs1 cs2, .qmsu p ad cs1 cs2, .mmul p ad cs1 cs2, .mmac p ad cs1 cs2, .mmsu p ad cs1 cs2, .aaddw p ad cs1, .asubw p ad cs1, .aaddq p ad cs1, .asubq p ad cs1, .aadda p ad as_, .aneg p ad] : List Instr), Issues i p b s) ∧ Quiet s ∧ (s.bank p b).lazy = false) :=
  ⟨wS, 5, 2, 1, 7, 8, 2, issues_all (by decide +kernel), by unfold Quiet; decide +kernel⟩

theorem witness_RoundingSyllables :
    (∃ (s : State) (p b : Nat) (as_ : AccIx) (cd cs2 cs1 : RegIx), (∀ i ∈ ([.arndq p cd as_, .arndw p cd as_, .arndm p cd as_, .ashrq p cd as_ cs2, .ashrw p cd as_ cs2, .qmulr p cd cs1 cs2, .wqmulr p cd cs1 cs2, .wtoq p cd cs1, .mmulq p cd cs1] : List Instr), Issues i p b s) ∧ Quiet s ∧ (s.bank p b).lazy = false ∧ (s.bank p b).rm ≤ 5 ∧ (s.bank p b).bkq ≠ 0) :=
  ⟨wS, 5, 2, 2, 3, 8, 7, issues_all (by decide +kernel), by unfold Quiet; decide +kernel⟩

theorem witness_CapabilityChanges :
    (∃ (s : State) (p b : Nat) (cd cs1 : RegIx), (∀ i ∈ ([.cmove p cd cs1, .ccleartag p cd cs1] : List Instr), Issues i p b s)) ∧
    (∃ (s : State) (p b : Nat) (cd cs1 cs2 : RegIx) (c : Cap) (imm : Imm), c = s.src p b cs1.toNat ∧ (∀ i ∈ ([.csetaddr p cd cs1 cs2, .cincaddr p cd cs1 cs2, .candperm p cd cs1 cs2, .csetbounds p cd cs1 cs2, .csetboundsx p cd cs1 cs2, .cincaddri p cd cs1 imm, .csealentry p cd cs1] : List Instr), Issues i p b s) ∧ c.malformed = false) ∧
    (∃ (s : State) (p b : Nat) (cd cs1 cs2 : RegIx) (c a : Cap), c = s.src p b cs1.toNat ∧ a = s.src p b cs2.toNat ∧ (∀ i ∈ ([.cseal p cd cs1 cs2, .cunseal p cd cs1 cs2] : List Instr), Issues i p b s) ∧ c.malformed = false ∧ a.malformed = false) :=
  ⟨⟨wS, 5, 2, 3, 10, issues_all (by decide +kernel)⟩,
   ⟨wS, 5, 2, 3, 10, 15, _, .short 0, rfl, issues_all (by decide +kernel), by decide +kernel⟩,
   ⟨wS, 5, 2, 3, 10, 15, _, _, rfl, rfl, issues_all (by decide +kernel), by decide +kernel⟩⟩

theorem witness_DataLoadsReadMemory :
    (∃ (s : State) (p b : Nat) (cd cs1 : RegIx) (imm : Imm) (a : Cap) (ea : Nat), a = s.src p b cs1.toNat ∧ ea = effAddr a (immDisp imm 1) ∧ (∀ i ∈ ([.lb p cd cs1 imm, .lbu p cd cs1 imm] : List Instr), Issues i p b s) ∧ Quiet s ∧ PlainAccess s p b a ea 1 [permLD]) ∧
    (∃ (s : State) (p b : Nat) (cd cs1 : RegIx) (imm : Imm) (a : Cap) (ea : Nat), a = s.src p b cs1.toNat ∧ ea = effAddr a (immDisp imm 2) ∧ (∀ i ∈ ([.lh p cd cs1 imm, .lhu p cd cs1 imm] : List Instr), Issues i p b s) ∧ Quiet s ∧ PlainAccess s p b a ea 2 [permLD]) ∧
    (∃ (s : State) (p b : Nat) (cd cs1 : RegIx) (imm : Imm) (a : Cap) (ea : Nat), a = s.src p b cs1.toNat ∧ ea = effAddr a (immDisp imm 4) ∧ (∀ i ∈ ([.lw p cd cs1 imm, .lwu p cd cs1 imm] : List Instr), Issues i p b s) ∧ Quiet s ∧ PlainAccess s p b a ea 4 [permLD]) ∧
    (∃ (s : State) (p b : Nat) (cd cs1 : RegIx) (imm : Imm) (a : Cap) (ea : Nat), a = s.src p b cs1.toNat ∧ ea = effAddr a (immDisp imm 8) ∧ Issues (.ld p cd cs1 imm) p b s ∧ Quiet s ∧ PlainAccess s p b a ea 8 [permLD]) ∧
    (∃ (s : State) (p b : Nat) (cd cs1 cs2 : RegIx) (a : Cap) (ea : Nat), a = s.src p b cs1.toNat ∧ ea = effAddr a (((s.srcX p b cs2.toNat).toNat : Int)) ∧ (∀ i ∈ ([.lbx p cd cs1 cs2, .lbux p cd cs1 cs2] : List Instr), Issues i p b s) ∧ Quiet s ∧ PlainAccess s p b a ea 1 [permLD]) ∧
    (∃ (s : State) (p b : Nat) (cd cs1 cs2 : RegIx) (a : Cap) (ea : Nat), a = s.src p b cs1.toNat ∧ ea = effAddr a (((s.srcX p b cs2.toNat).toNat : Int)) ∧ (∀ i ∈ ([.lhx p cd cs1 cs2, .lhux p cd cs1 cs2] : List Instr), Issues i p b s) ∧ Quiet s ∧ PlainAccess s p b a ea 2 [permLD]) ∧
    (∃ (s : State) (p b : Nat) (cd cs1 cs2 : RegIx) (a : Cap) (ea : Nat), a = s.src p b cs1.toNat ∧ ea = effAddr a (((s.srcX p b cs2.toNat).toNat : Int)) ∧ (∀ i ∈ ([.lwx p cd cs1 cs2, .lwux p cd cs1 cs2] : List Instr), Issues i p b s) ∧ Quiet s ∧ PlainAccess s p b a ea 4 [permLD]) ∧
    (∃ (s : State) (p b : Nat) (cd cs1 cs2 : RegIx) (a : Cap) (ea : Nat), a = s.src p b cs1.toNat ∧ ea = effAddr a (((s.srcX p b cs2.toNat).toNat : Int)) ∧ Issues (.ldx p cd cs1 cs2) p b s ∧ Quiet s ∧ PlainAccess s p b a ea 8 [permLD]) :=
  ⟨⟨wS, 5, 2, 3, 10, .short 0, _, _, rfl, rfl, issues_all (by decide +kernel), by unfold Quiet PlainAccess; decide +kernel⟩,
   ⟨wS, 5, 2, 3, 10, .short 0, _, _, rfl, rfl, issues_all (by decide +kernel), by unfold Quiet PlainAccess; decide +kernel⟩,
   ⟨wS, 5, 2, 3, 10, .short 0, _, _, rfl, rfl, issues_all (by decide +kernel), by unfold Quiet PlainAccess; decide +kernel⟩,
   ⟨wS, 5, 2, 3, 10, .short 0, _, _, rfl, rfl, issues_of (by decide +kernel), by unfold Quiet PlainAccess; decide +kernel⟩,
   ⟨wS, 5, 2, 3, 10, 7, _, _, rfl, rfl, issues_all (by decide +kernel), by unfold Quiet PlainAccess; decide +kernel⟩,
   ⟨wS, 5, 2, 3, 10, 0, _, _, rfl, rfl, issues_all (by decide +kernel), by unfold Quiet PlainAccess; decide +kernel⟩,
   ⟨wS, 5, 2, 3, 10, 0, _, _, rfl, rfl, issues_all (by decide +kernel), by unfold Quiet PlainAccess; decide +kernel⟩,
   ⟨wS, 5, 2, 3, 10, 0, _, _, rfl, rfl, issues_of (by decide +kernel), by unfold Quiet PlainAccess; decide +kernel⟩⟩

theorem witness_DataStoresWriteMemory :
    (∃ (s : State) (p b : Nat) (cd cs1 : RegIx) (imm : Imm) (a : Cap) (ea : Nat), a = s.src p b cs1.toNat ∧ ea = effAddr a (immDisp imm 1) ∧ Issues (.sb p cd cs1 imm) p b s ∧ Quiet s ∧ PlainAccess s p b a ea 1 [permST]) ∧
    (∃ (s : State) (p b : Nat) (cd cs1 : RegIx) (imm : Imm) (a : Cap) (ea : Nat), a = s.src p b cs1.toNat ∧ ea = effAddr a (immDisp imm 2) ∧ Issues (.sh p cd cs1 imm) p b s ∧ Quiet s ∧ PlainAccess s p b a ea 2 [permST]) ∧
    (∃ (s : State) (p b : Nat) (cd cs1 : RegIx) (imm : Imm) (a : Cap) (ea : Nat), a = s.src p b cs1.toNat ∧ ea = effAddr a (immDisp imm 4) ∧ Issues (.sw p cd cs1 imm) p b s ∧ Quiet s ∧ PlainAccess s p b a ea 4 [permST]) ∧
    (∃ (s : State) (p b : Nat) (cd cs1 : RegIx) (imm : Imm) (a : Cap) (ea : Nat), a = s.src p b cs1.toNat ∧ ea = effAddr a (immDisp imm 8) ∧ Issues (.sd p cd cs1 imm) p b s ∧ Quiet s ∧ PlainAccess s p b a ea 8 [permST]) ∧
    (∃ (s : State) (p b : Nat) (cd cs1 cs2 : RegIx) (a : Cap) (ea : Nat), a = s.src p b cs1.toNat ∧ ea = effAddr a (((s.srcX p b cs2.toNat).toNat : Int)) ∧ Issues (.sbx p cd cs1 cs2) p b s ∧ Quiet s ∧ PlainAccess s p b a ea 1 [permST]) ∧
    (∃ (s : State) (p b : Nat) (cd cs1 cs2 : RegIx) (a : Cap) (ea : Nat), a = s.src p b cs1.toNat ∧ ea = effAddr a (((s.srcX p b cs2.toNat).toNat : Int)) ∧ Issues (.shx p cd cs1 cs2) p b s ∧ Quiet s ∧ PlainAccess s p b a ea 2 [permST]) ∧
    (∃ (s : State) (p b : Nat) (cd cs1 cs2 : RegIx) (a : Cap) (ea : Nat), a = s.src p b cs1.toNat ∧ ea = effAddr a (((s.srcX p b cs2.toNat).toNat : Int)) ∧ Issues (.swx p cd cs1 cs2) p b s ∧ Quiet s ∧ PlainAccess s p b a ea 4 [permST]) ∧
    (∃ (s : State) (p b : Nat) (cd cs1 cs2 : RegIx) (a : Cap) (ea : Nat), a = s.src p b cs1.toNat ∧ ea = effAddr a (((s.srcX p b cs2.toNat).toNat : Int)) ∧ Issues (.sdx p cd cs1 cs2) p b s ∧ Quiet s ∧ PlainAccess s p b a ea 8 [permST]) :=
  ⟨⟨wS, 5, 2, 7, 10, .short 0, _, _, rfl, rfl, issues_of (by decide +kernel), by unfold Quiet PlainAccess; decide +kernel⟩,
   ⟨wS, 5, 2, 7, 10, .short 0, _, _, rfl, rfl, issues_of (by decide +kernel), by unfold Quiet PlainAccess; decide +kernel⟩,
   ⟨wS, 5, 2, 7, 10, .short 0, _, _, rfl, rfl, issues_of (by decide +kernel), by unfold Quiet PlainAccess; decide +kernel⟩,
   ⟨wS, 5, 2, 7, 10, .short 0, _, _, rfl, rfl, issues_of (by decide +kernel), by unfold Quiet PlainAccess; decide +kernel⟩,
   ⟨wS, 5, 2, 7, 10, 7, _, _, rfl, rfl, issues_of (by decide +kernel), by unfold Quiet PlainAccess; decide +kernel⟩,
   ⟨wS, 5, 2, 7, 10, 0, _, _, rfl, rfl, issues_of (by decide +kernel), by unfold Quiet PlainAccess; decide +kernel⟩,
   ⟨wS, 5, 2, 7, 10, 0, _, _, rfl, rfl, issues_of (by decide +kernel), by unfold Quiet PlainAccess; decide +kernel⟩,
   ⟨wS, 5, 2, 7, 10, 0, _, _, rfl, rfl, issues_of (by decide +kernel), by unfold Quiet PlainAccess; decide +kernel⟩⟩

theorem witness_CapabilityMemory :
    (∃ (s : State) (p b : Nat) (cd cs1 : RegIx) (imm : Imm) (a : Cap) (ea : Nat) (v : Cap), a = s.src p b cs1.toNat ∧ ea = effAddr a (immDisp imm 16) ∧ v = s.capAt .dram ea ∧ Issues (.clc p cd cs1 imm) p b s ∧ Quiet s ∧ ea % 16 = 0 ∧ PlainAccess s p b a ea 16 [permLD] ∧ (v.tag = true → a.has permLC = true → ¬ (v.malformed = false ∧ neverRevoked v = false ∧ spaceOf p v.base = .dram ∧ s.eclipsed v.base = true))) ∧
    (∃ (s : State) (p b : Nat) (cd cs1 cs2 : RegIx) (a : Cap) (ea : Nat) (v : Cap), a = s.src p b cs1.toNat ∧ ea = effAddr a (((s.srcX p b cs2.toNat).toNat : Int)) ∧ v = s.capAt .dram ea ∧ Issues (.clcx p cd cs1 cs2) p b s ∧ Quiet s ∧ ea % 16 = 0 ∧ PlainAccess s p b a ea 16 [permLD] ∧ (v.tag = true → a.has permLC = true → ¬ (v.malformed = false ∧ neverRevoked v = false ∧ spaceOf p v.base = .dram ∧ s.eclipsed v.base = true))) ∧
    (∃ (s : State) (p b : Nat) (cd cs1 : RegIx) (imm : Imm) (a : Cap) (ea : Nat) (v : Cap), a = s.src p b cs1.toNat ∧ ea = effAddr a (immDisp imm 16) ∧ v = s.src p b cd.toNat ∧ Issues (.csc p cd cs1 imm) p b s ∧ Quiet s ∧ ea % 16 = 0 ∧ PlainAccess s p b a ea 16 (if !v.tag then [permST] else if v.has permGL then [permST, permSC] else [permST, permSC, permSL])) ∧
    (∃ (s : State) (p b : Nat) (cd cs1 cs2 : RegIx) (a : Cap) (ea : Nat) (v : Cap), a = s.src p b cs1.toNat ∧ ea = effAddr a (((s.srcX p b cs2.toNat).toNat : Int)) ∧ v = s.src p b cd.toNat ∧ Issues (.cscx p cd cs1 cs2) p b s ∧ Quiet s ∧ ea % 16 = 0 ∧ PlainAccess s p b a ea 16 (if !v.tag then [permST] else if v.has permGL then [permST, permSC] else [permST, permSC, permSL])) ∧
    (∃ (s : State) (p b : Nat) (cd cs1 : RegIx) (imm : Imm) (a v : Cap) (ea : Nat), a = s.src p b cs1.toNat ∧ ea = effAddr a (immDisp imm 16) ∧ v = s.capAt .dram ea ∧ Issues (.clc p cd cs1 imm) p b s ∧ Quiet s ∧ ea % 16 = 0 ∧ PlainAccess s p b a ea 16 [permLD] ∧ a.has permLC = true ∧ v.tag = true ∧ v.malformed = false ∧ neverRevoked v = false ∧ v.base < 2 ^ 41 ∧ (isSentinel p = true → 0x80000 ≤ v.base) ∧ s.eclipsed v.base = true) :=
  ⟨⟨wS.capWrite .dram 0x30100 (allAt 0x30200), 5, 2, 3, 10, .short 0, _, _, _, rfl, rfl, rfl, issues_of (by decide +kernel), by unfold Quiet PlainAccess; decide +kernel⟩,
   ⟨wS.capWrite .dram 0x30100 (allAt 0x30200), 5, 2, 3, 10, 0, _, _, _, rfl, rfl, rfl, issues_of (by decide +kernel), by unfold Quiet PlainAccess; decide +kernel⟩,
   ⟨wS, 5, 2, 16, 10, .short 0, _, _, _, rfl, rfl, rfl, issues_of (by decide +kernel), by unfold Quiet PlainAccess; decide +kernel⟩,
   ⟨wS, 5, 2, 16, 10, 0, _, _, _, rfl, rfl, rfl, issues_of (by decide +kernel), by unfold Quiet PlainAccess; decide +kernel⟩,
   ⟨{ wS.capWrite .dram 0x30100 (allAt 0x30200) with bitmap := [(0x3000, true)] }, 5, 2, 3, 10, .short 0, _, _, _, rfl, rfl, rfl, issues_of (by decide +kernel), by unfold Quiet PlainAccess; decide +kernel⟩⟩

theorem witness_ReservationPair :
    (∃ (s : State) (p b : Nat) (cd cs1 : RegIx) (a : Cap), a = s.src p b cs1.toNat ∧ Issues (.lrcD p cd cs1) p b s ∧ Quiet s ∧ PlainAccess s p b a a.addr 8 [permLD] ∧ a.addr % 8 = 0) ∧
    (∃ (s : State) (p b : Nat) (cd cs1 : RegIx) (a : Cap), a = s.src p b cs1.toNat ∧ Issues (.lrcC p cd cs1) p b s ∧ Quiet s ∧ PlainAccess s p b a a.addr 16 [permLD] ∧ a.addr % 16 = 0 ∧ (s.tagAt .dram a.addr = false ∨ a.has permLC = false)) ∧
    (∃ (s : State) (p b : Nat) (cd cs1 cs2 : RegIx) (a : Cap), a = s.src p b cs1.toNat ∧ Issues (.sccD p cd cs1 cs2) p b s ∧ Quiet s ∧ PlainAccess s p b a a.addr 8 [permST] ∧ a.addr % 8 = 0) ∧
    (∃ (s : State) (p b : Nat) (cd cs1 cs2 : RegIx) (a v : Cap), a = s.src p b cs1.toNat ∧ v = s.src p b cs2.toNat ∧ Issues (.sccC p cd cs1 cs2) p b s ∧ Quiet s ∧ PlainAccess s p b a a.addr 16 (storeNeed v) ∧ a.addr % 16 = 0) :=
  ⟨⟨wS, 5, 2, 3, 10, _, rfl, issues_of (by decide +kernel), by unfold Quiet PlainAccess; decide +kernel⟩,
   ⟨wS, 5, 2, 3, 10, _, rfl, issues_of (by decide +kernel), by unfold Quiet PlainAccess; decide +kernel⟩,
   ⟨wS, 5, 2, 3, 10, 16, _, rfl, issues_of (by decide +kernel), by unfold Quiet PlainAccess; decide +kernel⟩,
   ⟨wS, 5, 2, 3, 10, 16, _, _, rfl, rfl, issues_of (by decide +kernel), by unfold Quiet PlainAccess; decide +kernel⟩⟩

theorem witness_FixedAddSubtractAndPendingOverflow :
    (∃ (s : State) (p b : Nat) (cd cs1 cs2 : RegIx), (∀ i ∈ ([.qadd p cd cs1 cs2, .qsub p cd cs1 cs2, .wqadd p cd cs1 cs2, .wqsub p cd cs1 cs2, .qneg p cd cs1, .wqneg p cd cs1, .qtow p cd cs1] : List Instr), Issues i p b s) ∧ Quiet s ∧ (s.bank p b).lazy = false ∧ (s.bank p b).rm ≤ 5 ∧ (s.bank p b).bkq ≠ 0) ∧
    (∃ (s : State) (p b : Nat) (cd cs1 cs2 : RegIx) (e : Int), e = (s.srcX p b cs1.toNat).toInt + (s.srcX p b cs2.toNat).toInt ∧ Issues (.qadd p cd cs1 cs2) p b s ∧ Quiet s ∧ (s.bank p b).lazy = false ∧ (s.bank p b).sat = false ∧ (¬ (-2 ^ 63 ≤ e ∧ e ≤ 2 ^ 63 - 1)) ∧ (s.bank p b).pa = false) ∧
    (∃ (s : State) (p b : Nat) (cd cs1 cs2 : RegIx) (e : Int), e = (s.srcX p b cs1.toNat).toInt + (s.srcX p b cs2.toNat).toInt ∧ Issues (.qadd p cd cs1 cs2) p b s ∧ Quiet s ∧ (s.bank p b).lazy = false ∧ (s.bank p b).sat = false ∧ (¬ (-2 ^ 63 ≤ e ∧ e ≤ 2 ^ 63 - 1)) ∧ (s.bank p b).pa = true) :=
  ⟨⟨wS, 5, 2, 3, 7, 8, issues_all (by decide +kernel), by unfold Quiet; decide +kernel⟩,
   ⟨wS, 5, 2, 3, 13, 13, _, rfl, issues_of (by decide +kernel), by unfold Quiet; decide +kernel⟩,
   ⟨runs 5 2 (fun k => { k with amode := 0x10 }), 5, 2, 3, 13, 13, _, rfl, issues_of (by decide +kernel), by unfold Quiet; decide +kernel⟩⟩

theorem witness_DivisionAndBreakage :
    (∃ (s : State) (p b : Nat) (cd cs1 cs2 : RegIx) (y : Word) (d : Int), y = s.srcX p b cs2.toNat ∧ d = y.toInt ∧ Issues (.qdiv p cd cs1 cs2) p b s ∧ Quiet s ∧ (s.bank p b).lazy = false ∧ (s.bank p b).rm ≤ 5 ∧ (s.bank p b).bkq ≠ 0 ∧ d ≠ 0) ∧
    (∃ (s : State) (p b : Nat) (cd cs1 cs2 : RegIx) (y : Word) (d : Int), y = s.srcX p b cs2.toNat ∧ d = y.toInt ∧ d = 0 ∧ Issues (.qdiv p cd cs1 cs2) p b s ∧ Quiet s ∧ (s.bank p b).lazy = false ∧ (s.bank p b).rm ≤ 5 ∧ (s.bank p b).bkq ≠ 0 ∧ (s.bank p b).pa = false) ∧
    (∃ (s : State) (p b : Nat) (cd cs1 cs2 : RegIx) (w : Wide) (d : Int), w = s.srcW p b cs2.toNat ∧ d = w.toInt ∧ (∀ i ∈ ([.wqdiv p cd cs1 cs2, .mdiv p cd cs1 cs2, .mscale p cd cs1 cs2] : List Instr), Issues i p b s) ∧ Quiet s ∧ (s.bank p b).lazy = false ∧ (s.bank p b).rm ≤ 5 ∧ (s.bank p b).bkq ≠ 0 ∧ d ≠ 0) ∧
    (∃ (s : State) (p b : Nat) (cd cs1 cs2 : RegIx) (w : Wide) (d : Int), w = s.srcW p b cs2.toNat ∧ d = w.toInt ∧ d = 0 ∧ (∀ i ∈ ([.wqdiv p cd cs1 cs2, .mdiv p cd cs1 cs2, .mscale p cd cs1 cs2] : List Instr), Issues i p b s) ∧ Quiet s ∧ (s.bank p b).lazy = false ∧ (s.bank p b).rm ≤ 5 ∧ (s.bank p b).bkq ≠ 0 ∧ (s.bank p b).pa = false) ∧
    (∃ (s : State) (p b : Nat) (cd cs1 : RegIx), (∀ i ∈ ([.mrnd p cd cs1, .mrndx p cd cs1, .mbrk p cd cs1] : List Instr), Issues i p b s) ∧ Quiet s ∧ (s.bank p b).lazy = false ∧ (s.bank p b).rm ≤ 5 ∧ (s.bank p b).bkq ≠ 0) :=
  ⟨⟨wS, 5, 2, 3, 7, 8, _, _, rfl, rfl, issues_of (by decide +kernel), by unfold Quiet; decide +kernel⟩,
   ⟨wS, 5, 2, 3, 7, 0, _, _, rfl, rfl, rfl, issues_of (by decide +kernel), by unfold Quiet; decide +kernel⟩,
   ⟨wS, 5, 2, 3, 7, 8, _, _, rfl, rfl, issues_all (by decide +kernel), by unfold Quiet; decide +kernel⟩,
   ⟨wS, 5, 2, 3, 7, 0, _, _, rfl, rfl, rfl, issues_all (by decide +kernel), by unfold Quiet; decide +kernel⟩,
   ⟨wS, 5, 2, 3, 7, issues_all (by decide +kernel), by unfold Quiet; decide +kernel⟩⟩

theorem witness_SentinelFaults :
    (∃ (s : State) (p : Nat) (cd cs1 : RegIx) (imm : Imm) (a : Cap), a = s.src p 0 cs1.toNat ∧ Issues (.ld p cd cs1 imm) p 0 s ∧ 96 ≤ p ∧ p < 104 ∧ Quiet s ∧ a.malformed = false ∧ a.tag = false ∧ (s.bank p 0).escd = false ∧ (s.pair p).shadow = [] ∧ s.tallyBusy p 0 = false ∧ esccOk (s.pair p).escc = true ∧ esscOk (s.pair p).essc = true ∧ (s.bank p 0).task = none) ∧
    (∃ (s : State) (p b : Nat) (cd cs1 : RegIx) (imm : Imm) (a : Cap), a = s.src p b cs1.toNat ∧ Issues (.ld p cd cs1 imm) p b s ∧ Quiet s ∧ a.malformed = false ∧ a.tag = false ∧ s.tallyBusy p b = false ∧ ((s.bank p b).escd = true ∨ (96 ≤ p ∧ (esccOk (s.pair p).escc = false ∨ esscOk (s.pair p).essc = false)))) :=
  ⟨⟨((runs 97 0 id).updPair 97 (fun v => { v with escc := mintCap 0xB 0 0x20000 0x21000, essc := allAt 0x30000 })).updBank 97 0 (fun k => { k with task := none }), 97, 3, 7, .short 0, _, rfl, issues_of (by decide +kernel), by unfold Quiet; decide +kernel⟩,
   ⟨runs 97 0 id, 97, 0, 3, 7, .short 0, _, rfl, issues_of (by decide +kernel), by unfold Quiet; decide +kernel⟩⟩

theorem witness_ControlTransfersAndLoops :
    (∃ (s : State) (p b : Nat) (imm : Imm) (k : Cap) (x : Nat), k = (s.bank p b).pcc ∧ x = addrOf ((k.addr : Int) + 4 * immVal imm) ∧ Issues (.br p imm) p b s ∧ Quiet s ∧ k.base ≤ x ∧ x + 4 ≤ k.top) ∧
    (∃ (s : State) (p b : Nat) (cs1 : RegIx) (c : Cap), c = s.src p b cs1.toNat ∧ Issues (.cjr p cs1) p b s ∧ Quiet s ∧ checkTarget c = none) ∧
    (∃ (s : State) (p b : Nat) (cd cs1 : RegIx) (c k : Cap), c = s.src p b cs1.toNat ∧ k = (s.bank p b).pcc ∧ Issues (.cjalr p cd cs1) p b s ∧ Quiet s ∧ checkTarget c = none ∧ k.addr + 4 < 2 ^ 64) ∧
    (∃ (s : State) (p b : Nat) (cs1 : RegIx) (imm : Imm) (u : State) (k : Cap) (le nx : Nat) (ws : List Nat), k = (s.bank p b).pcc ∧ le = addrOf ((k.addr : Int) + 4 * immVal imm) ∧ nx = addrOf ((k.addr : Int) + (if immExt imm then 8 else 4)) ∧ fetchWords p b le (issued s p b) 5 = .ok (some ws) u ∧ Issues (.loop p cs1 imm) p b s ∧ AtRest s u ∧ nx ≤ le) ∧
    (∃ (s : State) (p b : Nat) (cs1 : RegIx) (u : State) (k : Cap) (nx : Nat) (v : Bundle), k = (s.bank p b).pcc ∧ nx = addrOf ((k.addr : Int) + 4) ∧ fetchBundle p b nx true (issued s p b) = .ok v u ∧ Issues (.repi p cs1) p b s ∧ AtRest s u ∧ repeatable v = true) ∧
    (∃ (s : State) (p b : Nat) (cs1 : RegIx) (u : State) (x : Word) (k : Cap) (nx : Nat) (v : Bundle), x = s.srcX p b cs1.toNat ∧ k = (s.bank p b).pcc ∧ nx = addrOf ((k.addr : Int) + 4) ∧ fetchBundle p b nx true (issued s p b) = .ok v u ∧ Issues (.repu p cs1) p b s ∧ AtRest s u ∧ repeatable v = true ∧ x ≤ 64) :=
  ⟨⟨wS, 5, 2, .short 4, _, _, rfl, rfl, issues_of (by decide +kernel), by unfold Quiet; decide +kernel⟩,
   ⟨wS, 5, 2, 12, _, rfl, issues_of (by decide +kernel), by unfold Quiet; decide +kernel⟩,
   ⟨wS, 5, 2, 3, 12, _, _, rfl, rfl, issues_of (by decide +kernel), by unfold Quiet; decide +kernel⟩,
   ⟨(wS.dataWrite .dram 0x20100 (natBytes 4 0x82030880 ++ natBytes 4 0x82030880 ++ natBytes 4 0x82030880)), 5, 2, 7, .short 2, _, _, _, _, _, rfl, rfl, rfl, rfl, issues_of (by decide +kernel), by unfold AtRest Quiet; decide +kernel⟩,
   ⟨(wS.dataWrite .dram 0x20100 (natBytes 4 0x82030880 ++ natBytes 4 0x82030880 ++ natBytes 4 0x82030880)), 5, 2, 7, _, _, _, _, rfl, rfl, rfl, issues_of (by decide +kernel), by unfold AtRest Quiet; decide +kernel⟩,
   ⟨(wS.dataWrite .dram 0x20100 (natBytes 4 0x82030880 ++ natBytes 4 0x82030880 ++ natBytes 4 0x82030880)), 5, 2, 7, _, _, _, _, _, rfl, rfl, rfl, rfl, issues_of (by decide +kernel), by unfold AtRest Quiet; decide +kernel⟩⟩

theorem witness_SpecialRegisterAccess :
    (∃ (s : State) (p b : Nat) (cd : RegIx) (v : Pair) (cs1 : RegIx), v = s.pair p ∧ (∀ i ∈ ([.mfs p cd 0 0, .mfs p cd 1 0, .mfs p cd 2 0, .mfs p cd 4 0, .mfs p cd 5 0, .mfs p cd 6 0, .mfs p cd 7 0, .mts p 4 cs1 0, .mts p 5 cs1 0, .mts p 6 cs1 0] : List Instr), Issues i p b s) ∧ Quiet s ∧ v.bankw.getLsbD 8 = false) ∧
    (∃ (s : State) (p b : Nat) (cd : RegIx) (v : Pair) (cs1 : RegIx), v = s.pair p ∧ (∀ i ∈ ([.mfs p cd 3 0, .mfs p cd 11 0, .mts p 3 cs1 0, .mts p 1 cs1 0, .mts p 2 cs1 0] : List Instr), Issues i p b s) ∧ Quiet s ∧ v.bankw.getLsbD 8 = false ∧ p < 96) ∧
    (∃ (s : State) (p b : Nat) (cd : RegIx) (k : Bank) (v : Pair) (cs1 : RegIx), k = s.bank p b ∧ v = s.pair p ∧ (∀ i ∈ ([.mfs p cd 8 0, .mfs p cd 9 0, .mfs p cd 10 0, .mfs p cd 12 0, .mts p 8 cs1 0, .mts p 9 cs1 0, .mts p 10 cs1 0] : List Instr), Issues i p b s) ∧ Quiet s ∧ v.bankw.getLsbD 8 = false ∧ k.pcc.has permSY = true) ∧
    (∃ (s : State) (p b : Nat) (cs1 : RegIx) (k : Bank) (v : Pair), k = s.bank p b ∧ v = s.pair p ∧ (∀ i ∈ ([.mts p 7 cs1 0, .mts p 12 cs1 0] : List Instr), Issues i p b s) ∧ Quiet s ∧ v.bankw.getLsbD 8 = false ∧ p < 96 ∧ k.pcc.has permSY = true) ∧
    (∃ (s : State) (c : SCtx) (sr : RegIx), (s.pair c.pair).bankw.getLsbD 8 = false ∧ (12 < sr.toNat ∨ (96 ≤ c.pair ∧ (sr = 3 ∨ sr = 11)))) ∧
    (∃ (s : State) (c : SCtx) (sr : RegIx), (s.pair c.pair).bankw.getLsbD 8 = false ∧ sr ∈ [8, 9, 10, 12] ∧ (s.bank c.pair c.bank).pcc.has permSY = false) ∧
    (∃ (s : State) (c : SCtx) (sr : RegIx), (s.pair c.pair).bankw.getLsbD 8 = false ∧ sr = 7 ∧ (s.bank c.pair c.bank).pcc.has permSY = false) :=
  ⟨⟨wS, 5, 2, 3, _, 7, rfl, issues_all (by decide +kernel), by unfold Quiet; decide +kernel⟩,
   ⟨wS, 5, 2, 3, _, 7, rfl, issues_all (by decide +kernel), by unfold Quiet; decide +kernel⟩,
   ⟨wS, 5, 2, 3, _, _, 7, rfl, rfl, issues_all (by decide +kernel), by unfold Quiet; decide +kernel⟩,
   ⟨wS, 5, 2, 7, _, _, rfl, rfl, issues_all (by decide +kernel), by unfold Quiet; decide +kernel⟩,
   ⟨wS, ⟨5, 2, 0x20100, 0x20104, 0⟩, 13, by decide +kernel⟩,
   ⟨runs 5 2 (fun k => { k with pcc := mintCap 0xB 0 0x20000 0x21000 }), ⟨5, 2, 0x20100, 0x20104, 0⟩, 8, by decide +kernel⟩,
   ⟨runs 5 2 (fun k => { k with pcc := mintCap 0xB 0 0x20000 0x21000 }), ⟨5, 2, 0x20100, 0x20104, 0⟩, 7, by decide +kernel⟩⟩

theorem witness_TallySyllablesSendRequests :
    (∃ (s : State) (p b : Nat) (cd cs1 cs2 ca : RegIx) (a c : Cap), a = s.src p b cs1.toNat ∧ c = s.src p b cs2.toNat ∧ Issues (.tadd p cd cs1 cs2 ca) p b s ∧ Quiet s ∧ PlainCell s p b a [permTA] ∧ checkTyped c 0xFF06 = none) ∧
    (∃ (s : State) (p b : Nat) (cd cs1 cs2 : RegIx) (a : Cap), a = s.src p b cs1.toNat ∧ Issues (.tclose p cd cs1 cs2) p b s ∧ Quiet s ∧ PlainCell s p b a [permTA, permST]) ∧
    (∃ (s : State) (p b : Nat) (cd cs1 cs2 : RegIx) (a c : Cap), a = s.src p b cs1.toNat ∧ c = s.src p b cs2.toNat ∧ Issues (.tread p cd cs1 cs2) p b s ∧ Quiet s ∧ PlainCell s p b a [permTA, permLD] ∧ checkAccess c c.addr 64 [permST] = none ∧ c.addr % 16 = 0 ∧ c.addr % 4096 + 64 ≤ 4096 ∧ c.addr + 64 ≤ 2 ^ 41 ∧ (isSentinel p = true → 0x80000 ≤ c.addr)) ∧
    (∃ (s : State), Quiet s) :=
  ⟨⟨wS, 5, 2, 3, 10, 11, 7, _, _, rfl, rfl, issues_of (by decide +kernel), by unfold Quiet PlainCell; decide +kernel⟩,
   ⟨wS, 5, 2, 3, 10, 11, _, rfl, issues_of (by decide +kernel), by unfold Quiet PlainCell; decide +kernel⟩,
   ⟨wS, 5, 2, 3, 10, 16, _, _, rfl, rfl, issues_of (by decide +kernel), by unfold Quiet PlainCell; decide +kernel⟩,
   ⟨wS, by unfold Quiet; decide +kernel⟩⟩

theorem witness_SeveralSlotSyllables :
    (∃ (s : State) (p b : Nat) (cs1 cs2 : RegIx) (a : Cap) (m : Nat) (L : List Nat), a = s.src p b cs1.toNat ∧ m = (s.srcX p b cs2.toNat).toNat ∧ L = (List.range 32).filter (fun i => m.testBit i) ∧ Issues (.stm p cs1 cs2) p b s ∧ m < 2 ^ 32 ∧ m.testBit 0 = false ∧ (s.pair p).ctxcfg.getLsbD 0 = false ∧ Quiet s ∧ PlainRange s p b a a.addr (16 * L.length) [permST, permSC, permSL]) ∧
    (∃ (s : State) (p b : Nat) (cs1 cs2 : RegIx) (a : Cap) (m : Nat) (L : List Nat), a = s.src p b cs1.toNat ∧ m = (s.srcX p b cs2.toNat).toNat ∧ L = (List.range 32).filter (fun i => m.testBit i) ∧ Issues (.ldm p cs1 cs2) p b s ∧ m < 2 ^ 32 ∧ m.testBit 0 = false ∧ (s.pair p).ctxcfg.getLsbD 0 = false ∧ Quiet s ∧ PlainRange s p b a a.addr (16 * L.length) [permLD] ∧ s.bitmap = [] ∧ m.testBit cs1.toNat = false ∧ m.testBit cs2.toNat = false) ∧
    (∃ (s : State) (p b : Nat) (cd cs1 : RegIx) (a : Cap), a = s.src p b cs1.toNat ∧ Issues (.svctxU p cd cs1) p b s ∧ (s.pair p).ctxcfg.getLsbD 0 = true ∧ Quiet s ∧ PlainRange s p b a a.addr 512 [permST, permSC, permSL] ∧ 1 ≤ cd.toNat ∧ cd.toNat < 16) ∧
    (∃ (s : State) (p b : Nat) (cd cs1 : RegIx) (a : Cap), a = s.src p b cs1.toNat ∧ Issues (.svctxL p cd cs1) p b s ∧ (s.pair p).ctxcfg.getLsbD 0 = true ∧ Quiet s ∧ PlainRange s p b a a.addr 512 [permST, permSC, permSL] ∧ 16 ≤ cd.toNat) ∧
    (∃ (s : State) (p b : Nat) (cd : RegIx) (d : Cap), d = s.src p b cd.toNat ∧ Issues (.ldctxU p cd) p b s ∧ (s.pair p).ctxcfg.getLsbD 0 = true ∧ Quiet s ∧ PlainRange s p b d d.addr 512 [permLD, permLC] ∧ s.bitmap = [] ∧ 1 ≤ cd.toNat ∧ cd.toNat < 16) ∧
    (∃ (s : State) (p b : Nat) (cd : RegIx) (d : Cap), d = s.src p b cd.toNat ∧ Issues (.ldctxL p cd) p b s ∧ (s.pair p).ctxcfg.getLsbD 0 = true ∧ Quiet s ∧ PlainRange s p b d d.addr 512 [permLD, permLC] ∧ s.bitmap = [] ∧ 16 ≤ cd.toNat ∧ checkTarget (s.capAt .dram (d.addr + 0x10)) = none) ∧
    (∃ (s : State) (p b : Nat) (cs1 : RegIx) (imm : Imm) (c2 tg : Cap) (L : List Nat) (f : Nat), c2 = s.src p b 2 ∧ tg = s.src p b cs1.toNat ∧ L = ((List.range 16).filter (fun i => (immVal imm).toNat.testBit i)).map (fun i => 16 + i) ∧ Issues (.callm p 0 cs1 0 imm) p b s ∧ 0 ≤ immVal imm ∧ immVal imm ≤ 0xFFFF ∧ Quiet s ∧ (s.pair p).ctxcfg.getLsbD 0 = false ∧ c2.addr = f + 16 * (L.length + 1) ∧ PlainRange s p b c2 f (16 * (L.length + 1)) [permST, permSC, permSL] ∧ checkTarget tg = none) ∧
    (∃ (s : State) (p b : Nat) (cd cs1 cs2 : RegIx) (imm : Imm) (tg ar : Cap) (L : List Nat), tg = s.src p b cs1.toNat ∧ ar = s.src p b cs2.toNat ∧ L = ((List.range 16).filter (fun i => (immVal imm).toNat.testBit i)).map (fun i => 16 + i) ∧ Issues (.callm p cd cs1 cs2 imm) p b s ∧ 0 ≤ immVal imm ∧ immVal imm ≤ 0xFFFF ∧ Quiet s ∧ (s.pair p).ctxcfg.getLsbD 0 = true ∧ (∀ n ∈ L, n ≠ cd.toNat) ∧ 2 ≤ cd.toNat ∧ PlainRange s p b ar ar.addr 512 [permST, permSC, permSL] ∧ checkTarget tg = none) ∧
    (∃ (s : State) (p b : Nat) (imm : Imm) (c2 : Cap) (L : List Nat), c2 = s.src p b 2 ∧ L = ((List.range 16).filter (fun i => (immVal imm).toNat.testBit i)).map (fun i => 16 + i) ∧ Issues (.callmR p 0) p b s ∧ 0 ≤ immVal imm ∧ immVal imm ≤ 0xFFFF ∧ Quiet s ∧ (s.pair p).ctxcfg.getLsbD 0 = false ∧ s.numAt .dram c2.addr 8 = (immVal imm).toNat ∧ PlainRange s p b c2 c2.addr (16 * (L.length + 1)) [permLD, permLC] ∧ s.bitmap = [] ∧ checkTarget (s.src p b 1) = none ∧ c2.addr + 16 * (L.length + 1) < 2 ^ 64) :=
  ⟨⟨wS, 5, 2, 10, 17, _, _, _, rfl, rfl, rfl, issues_of (by decide +kernel), by unfold Quiet PlainRange PlainSpan; decide +kernel⟩,
   ⟨wS, 5, 2, 10, 17, _, _, _, rfl, rfl, rfl, issues_of (by decide +kernel), by unfold Quiet PlainRange PlainSpan; decide +kernel⟩,
   ⟨(wS.updPair 5 (fun v => { v with ctxcfg := 1 })), 5, 2, 3, 10, _, rfl, issues_of (by decide +kernel), by unfold Quiet PlainRange PlainSpan; decide +kernel⟩,
   ⟨(wS.updPair 5 (fun v => { v with ctxcfg := 1 })), 5, 2, 17, 10, _, rfl, issues_of (by decide +kernel), by unfold Quiet PlainRange PlainSpan; decide +kernel⟩,
   ⟨(wS.updPair 5 (fun v => { v with ctxcfg := 1 })), 5, 2, 10, _, rfl, issues_of (by decide +kernel), by unfold Quiet PlainRange PlainSpan; decide +kernel⟩,
   ⟨((wS.updPair 5 (fun v => { v with ctxcfg := 1 }))).capWrite .dram 0x30410 (mintCap 0xB 0 0x20000 0x21000), 5, 2, 16, _, rfl, issues_of (by decide +kernel), by unfold Quiet PlainRange PlainSpan; decide +kernel⟩,
   ⟨wS, 5, 2, 12, .short 3, _, _, _, 0x307D0, rfl, rfl, rfl, issues_of (by decide +kernel), by unfold Quiet PlainRange PlainSpan; decide +kernel⟩,
   ⟨(wS.updPair 5 (fun v => { v with ctxcfg := 1 })), 5, 2, 3, 12, 10, .short 3, _, _, _, rfl, rfl, rfl, issues_of (by decide +kernel), by unfold Quiet PlainRange PlainSpan; decide +kernel⟩,
   ⟨wS.dataWrite .dram 0x30800 [3], 5, 2, .short 3, _, _, rfl, rfl, issues_of (by decide +kernel), by unfold Quiet PlainRange PlainSpan; decide +kernel⟩⟩

theorem witness_GateCallEntersTheCallee :
    (∃ (s : State) (p b : Nat) (cs1 : RegIx) (g c2 : Cap) (f : Nat), g = s.src p b cs1.toNat ∧ c2 = s.src p b 2 ∧ Issues (.invoke p cs1) p b s ∧ Quiet s ∧ checkTyped g 0xFF02 = none ∧ g.hasAll [permIV, permLD, permLC] = true ∧ (s.bank p b).apend = false ∧ g.base ≤ g.addr ∧ g.addr + 192 ≤ g.top ∧ g.addr % 64 = 0 ∧ g.addr + 192 ≤ 2 ^ 41 ∧ (isSentinel p = true → 0x80000 ≤ g.addr ∧ 0x80000 ≤ f) ∧ (s.bank p b).ttbc.toNat % 2 = 0 ∧ s.rcuOn = false ∧ s.tally.chans = [] ∧ s.latent = [] ∧ s.bitmap = [] ∧ descReserved (s.bytesAt .dram g.addr 192) = false ∧ checkTarget (s.capAt .dram g.addr) = none ∧ (∀ i, i < 8 → argOk (s.src p b (4 + i)) (s.numAt .dram (g.addr + 0x40 + 16 * i) 8) (s.numAt .dram (g.addr + 0x48 + 16 * i) 8) = true) ∧ (s.bank p b).gdepth < 255 ∧ calleeStackOk (s.capAt .dram (g.addr + 32)) (s.numAt .dram (g.addr + 0x30) 2) = true ∧ (isSentinel p = false → lazyOk c2 = true) ∧ (f : Int) = frameAt p c2 ∧ frameOk p c2 f = true ∧ f + 96 ≤ 2 ^ 41) :=
  ⟨((runs 5 2 (fun k => k.setReg 3 ((mintCap 0x212 0xFF02 0x30000 0x31000).withAddr 0x30040 true))).capWrite .dram 0x30040 (mintCap 0xB 0 0x20000 0x21000)).capWrite .dram 0x30060 (allAt 0x30200), 5, 2, 3, _, _, 0x30740, rfl, rfl, issues_of (by decide +kernel), by unfold Quiet; decide +kernel⟩

theorem witness_GateAndEventReturns :
    (∃ (s : State) (p b : Nat) (cs1 : RegIx) (g : Cap), g = s.src p b cs1.toNat ∧ Issues (.retg p cs1) p b s ∧ Quiet s ∧ checkTyped g 0xFF03 = none ∧ (s.bank p b).apend = false ∧ (s.bank p b).lzs = false ∧ 0 < (s.bank p b).gdepth ∧ g.addr = (s.bank p b).gateLink.toNat ∧ g.addr % 16 = 0 ∧ g.addr + 96 ≤ 2 ^ 41 ∧ (isSentinel p = true → 0x80000 ≤ g.addr) ∧ (s.bank p b).ttbc.toNat % 2 = 0 ∧ s.rcuOn = false ∧ s.tally.chans = [] ∧ s.latent = [] ∧ s.bitmap = [] ∧ s.numAt .dram (g.addr + 73) 1 = (s.bank p b).gdepth) ∧
    (∃ (s : State) (p b o : Nat), Issues (.rete p) p b s ∧ Quiet s ∧ (s.bank p b).prior = some (.bank o) ∧ o ≠ b ∧ ResumesPlainly s p o ∧ b ≠ escBank p ∧ (s.bank p b).deliv = none ∧ (s.bank p b).gdepth = 0 ∧ (s.bank p b).apend = false ∧ (s.bank p b).lazy = false ∧ (s.bank p b).lzs = false ∧ (s.pair p).shadow = []) :=
  ⟨⟨(runs 5 2 (fun k => { k.setReg 3 (mintCap 0 0xFF03 0x30200 0x30260) with gateLink := 0x30200, status := 0x100 })).dataWrite .dram 0x30249 [1], 5, 2, 3, _, rfl, issues_of (by decide +kernel), by unfold Quiet; decide +kernel⟩,
   ⟨runs 5 2 (fun k => { k with prior := some (.bank 0) }), 5, 2, 0, issues_of (by decide +kernel), by unfold Quiet ResumesPlainly; decide +kernel⟩⟩

theorem witness_JournalAndDrawSyllables :
    (∃ (s : State) (p b : Nat) (cd cs1 cs2 : RegIx) (a : Cap) (x : Nat), a = s.src p b cs1.toNat ∧ x = (s.srcX p b cs2.toNat).toNat ∧ Issues (.japp p cd cs1 cs2) p b s ∧ ResumesNext s p b ∧ Quiet s ∧ (s.bank p b).lazy = false ∧ (s.bank p b).lzs = false ∧ PlainSpan s p b a a.addr (x % 65536) [permJA, permLD] ∧ x < 2 ^ 32 ∧ x % 65536 ≤ 4032 ∧ x / 65536 < (if isSentinel p then 0xF000 else 0xE000) ∧ (s.standby = false ∨ isSentinel p = true) ∧ s.jStatus = none ∧ s.jrn.queue.length < 1024) ∧
    (∃ (s : State) (p b : Nat) (cd cs1 cs2 : RegIx) (a : Cap) (x : Nat), a = s.src p b cs1.toNat ∧ x = (s.srcX p b cs2.toNat).toNat ∧ Issues (.japp p cd cs1 cs2) p b s ∧ ResumesNext s p b ∧ Quiet s ∧ (s.bank p b).lazy = false ∧ (s.bank p b).lzs = false ∧ PlainSpan s p b a a.addr (x % 65536) [permJA, permLD] ∧ x < 2 ^ 32 ∧ 4032 < x % 65536) ∧
    (∃ (s : State) (p b : Nat) (cd cs1 : RegIx) (a : Cap), a = s.src p b cs1.toNat ∧ Issues (.jseal p cd cs1) p b s ∧ ResumesNext s p b ∧ Quiet s ∧ (s.bank p b).lazy = false ∧ (s.bank p b).lzs = false ∧ jsealCheck a = none ∧ s.jsealStatus = none) ∧
    (∃ (s : State) (p b : Nat) (cd cs1 cs2 : RegIx) (a d : Cap) (id y : Nat), a = s.src p b cs1.toNat ∧ d = s.src p b cs2.toNat ∧ id = (s.srcX p b 4).toNat ∧ y = (s.srcX p b 6).toNat ∧ Issues (.draw p cd cs1 cs2) p b s ∧ ResumesNext s p b ∧ Quiet s ∧ (s.bank p b).lazy = false ∧ (s.bank p b).lzs = false ∧ drawCheck a id = none ∧ checkAccess d d.addr (8 * (y % 65536)) [permST] = none ∧ y < 2 ^ 17 ∧ 0 < y % 65536 ∧ d.addr % 8 = 0 ∧ d.addr % 4096 + 8 * (y % 65536) ≤ 4096 ∧ d.addr + 8 * (y % 65536) ≤ 2 ^ 41 ∧ (isSentinel p = true → 0x80000 ≤ d.addr) ∧ (s.bank p b).ttbc.toNat % 2 = 0 ∧ s.rcuOn = false ∧ s.draw.queue.length < 64) :=
  ⟨⟨wS, 5, 2, 3, 10, 17, _, _, rfl, rfl, issues_of (by decide +kernel), resumes_next (by decide +kernel), by unfold Quiet PlainSpan; decide +kernel⟩,
   ⟨wS, 5, 2, 3, 19, 18, _, _, rfl, rfl, issues_of (by decide +kernel), resumes_next (by decide +kernel), by unfold Quiet PlainSpan; decide +kernel⟩,
   ⟨wS, 5, 2, 3, 10, _, rfl, issues_of (by decide +kernel), resumes_next (by decide +kernel), by unfold Quiet; decide +kernel⟩,
   ⟨wS, 5, 2, 3, 20, 16, _, _, _, _, rfl, rfl, rfl, rfl, issues_of (by decide +kernel), resumes_next (by decide +kernel), by unfold Quiet; decide +kernel⟩⟩

theorem witness_EclipseSyllables :
    (∃ (s : State) (p b : Nat) (cd cs1 : RegIx) (a : Cap), a = s.src p b cs1.toNat ∧ Issues (.eclipse p cd cs1) p b s ∧ Quiet s ∧ eclCheck a = none ∧ a.top ≤ 2 ^ 41 ∧ (isSentinel p = true → 0x80000 ≤ a.base) ∧ (s.bank p b).ttbc.toNat % 2 = 0 ∧ (s.bank p b).prog = 0 ∧ s.latent = [] ∧ s.eventMayCome p = false) ∧
    (∃ (s : State) (p b : Nat) (cd cs1 cs2 : RegIx) (a : Cap) (x : Word), a = s.src p b cs1.toNat ∧ x = s.srcX p b cs2.toNat ∧ Issues (.eclipseR p cd cs1 cs2) p b s ∧ Quiet s ∧ eclCheck a = none ∧ a.top ≤ 2 ^ 41 ∧ (isSentinel p = true → 0x80000 ≤ a.base) ∧ (s.bank p b).ttbc.toNat % 2 = 0 ∧ (s.bank p b).prog = 0 ∧ s.latent = [] ∧ s.eventMayCome p = false ∧ 1 ≤ x.toNat ∧ x.toNat ≤ (s.rd Addr.ECL_EPOCH_DONE).toNat) ∧
    (∃ (s : State) (p b : Nat) (cd cs1 cs2 : RegIx) (a : Cap) (x : Word), a = s.src p b cs1.toNat ∧ x = s.srcX p b cs2.toNat ∧ Issues (.eclipseR p cd cs1 cs2) p b s ∧ Quiet s ∧ eclCheck a = none ∧ a.top ≤ 2 ^ 41 ∧ (isSentinel p = true → 0x80000 ≤ a.base) ∧ (s.bank p b).ttbc.toNat % 2 = 0 ∧ (s.bank p b).prog = 0 ∧ s.latent = [] ∧ s.eventMayCome p = false ∧ (¬ (1 ≤ x.toNat ∧ x.toNat ≤ (s.rd Addr.ECL_EPOCH_DONE).toNat))) :=
  ⟨⟨wS, 5, 2, 3, 10, _, rfl, issues_of (by decide +kernel), by unfold Quiet; decide +kernel⟩,
   ⟨wS.wr Addr.ECL_EPOCH_DONE 5, 5, 2, 3, 10, 7, _, _, rfl, rfl, issues_of (by decide +kernel), by unfold Quiet; decide +kernel⟩,
   ⟨wS, 5, 2, 3, 10, 7, _, _, rfl, rfl, issues_of (by decide +kernel), by unfold Quiet; decide +kernel⟩⟩

theorem witness_BarriersAndInvalidations :
    (∃ (s : State) (p b : Nat), Issues (.msync p) p b s ∧ Quiet s ∧ (s.pair p).pendTable = none) ∧
    (∃ (s : State) (p b : Nat) (d : DecodeTable), (s.pair p).pendTable = some d ∧ Issues (.msync p) p b s ∧ Quiet s) ∧
    (∃ (s : State) (p b : Nat), Issues (.iflush p) p b s ∧ Quiet s) ∧
    (∃ (s : State) (p b : Nat) (cs1 cs2 : RegIx) (x : Nat), x = (s.srcX p b cs2.toNat).toNat ∧ (∀ i ∈ ([.tlbinvVa p cs1 cs2, .tlbinvAsid p cs2] : List Instr), Issues i p b s) ∧ Quiet s ∧ (s.bank p b).pcc.has permSY = true ∧ x < 2 ^ 16) ∧
    (∃ (s : State) (p b : Nat), (∀ i ∈ ([.tlbinvAll p, .walkinvAll p] : List Instr), Issues i p b s) ∧ Quiet s ∧ (s.bank p b).pcc.has permSY = true) ∧
    (∃ (s : State) (p b : Nat) (cs1 cs2 : RegIx) (x : Nat), x = (s.srcX p b cs2.toNat).toNat ∧ Issues (.walkinvVa p cs1 cs2) p b s ∧ Quiet s ∧ (s.bank p b).pcc.has permSY = true ∧ x < 2 ^ 4) :=
  ⟨⟨wS, 5, 2, issues_of (by decide +kernel), by unfold Quiet; decide +kernel⟩,
   ⟨wS.updPair 5 (fun v => { v with pendTable := some v.table }), 5, 2, _, rfl, issues_of (by decide +kernel), by unfold Quiet; decide +kernel⟩,
   ⟨wS, 5, 2, issues_of (by decide +kernel), by unfold Quiet; decide +kernel⟩,
   ⟨wS, 5, 2, 7, 7, _, rfl, issues_all (by decide +kernel), by unfold Quiet; decide +kernel⟩,
   ⟨wS, 5, 2, issues_all (by decide +kernel), by unfold Quiet; decide +kernel⟩,
   ⟨wS, 5, 2, 7, 7, _, rfl, issues_of (by decide +kernel), by unfold Quiet; decide +kernel⟩⟩

theorem witness_CustomSyllables :
    (∃ (s : State) (p b : Nat) (n : BitVec 6) (cd cs1 cs2 : RegIx) (d : DecodeTable) (u : Uop) (len : Nat), d = (s.pair p).table ∧ u = uopOf (d.uop n.toNat 0).toNat ∧ len = bitsAt (d.word n.toNat).toNat 5 6 ∧ len = 1 ∧ Issues (.customSyllable p n cd cs1 cs2) p b s ∧ p < 96 ∧ Quiet s ∧ customDefined d n.toNat cd cs1 cs2 = true ∧ (u.code = 1 ∨ u.code = 2) ∧ u.d = 1 ∧ u.a = 2 ∧ u.b = 3) ∧
    (∃ (s : State) (p : Nat) (n : BitVec 6) (cd cs1 cs2 : RegIx) (d : DecodeTable) (c : SCtx), d = (s.pair p).table ∧ c.pair = p ∧ (96 ≤ p ∨ customDefined d n.toNat cd cs1 cs2 = false)) ∧
    (∃ (s : State) (p b : Nat) (n : BitVec 6) (cd cs1 cs2 : RegIx) (d : DecodeTable) (u v : Uop) (len : Nat), d = (s.pair p).table ∧ u = uopOf (d.uop n.toNat 0).toNat ∧ v = uopOf (d.uop n.toNat 1).toNat ∧ len = bitsAt (d.word n.toNat).toNat 5 6 ∧ len = 2 ∧ Issues (.customSyllable p n cd cs1 cs2) p b s ∧ p < 96 ∧ Quiet s ∧ customDefined d n.toNat cd cs1 cs2 = true ∧ (u.code = 1 ∨ u.code = 2) ∧ (v.code = 1 ∨ v.code = 2) ∧ u.d = 8 ∧ u.a = 2 ∧ u.b = 3 ∧ v.d = 1 ∧ v.a = 8 ∧ v.b = 2) ∧
    (∃ (s : State) (p b : Nat) (n : BitVec 6) (cd cs1 cs2 : RegIx) (d : DecodeTable) (u : Uop) (len : Nat), d = (s.pair p).table ∧ u = uopOf (d.uop n.toNat 0).toNat ∧ len = bitsAt (d.word n.toNat).toNat 5 6 ∧ len = 1 ∧ Issues (.customSyllable p n cd cs1 cs2) p b s ∧ p < 96 ∧ Quiet s ∧ customDefined d n.toNat cd cs1 cs2 = true ∧ u.code = 4 ∧ u.fn < 8 ∧ u.d = 1 ∧ u.a = 2 ∧ u.b = 3) ∧
    (∃ (s : State) (p b : Nat) (n : BitVec 6) (cd cs1 cs2 : RegIx) (d : DecodeTable) (u : Uop) (a : Cap) (len : Nat), d = (s.pair p).table ∧ u = uopOf (d.uop n.toNat 0).toNat ∧ a = s.src p b cs1.toNat ∧ len = bitsAt (d.word n.toNat).toNat 5 6 ∧ len = 1 ∧ Issues (.customSyllable p n cd cs1 cs2) p b s ∧ p < 96 ∧ Quiet s ∧ customDefined d n.toNat cd cs1 cs2 = true ∧ u.code = 6 ∧ u.fn = 6 ∧ u.d = 1 ∧ u.a = 2 ∧ u.b = 0 ∧ u.imm = 0 ∧ PlainAccess s p b a a.addr 8 [permLD]) ∧
    (∃ (s : State) (p b : Nat) (n : BitVec 6) (cd cs1 cs2 : RegIx) (d : DecodeTable) (u : Uop) (a : Cap) (len : Nat), d = (s.pair p).table ∧ u = uopOf (d.uop n.toNat 0).toNat ∧ a = s.src p b cs1.toNat ∧ len = bitsAt (d.word n.toNat).toNat 5 6 ∧ len = 1 ∧ Issues (.customSyllable p n cd cs1 cs2) p b s ∧ p < 96 ∧ Quiet s ∧ customDefined d n.toNat cd cs1 cs2 = true ∧ u.code = 7 ∧ u.fn = 3 ∧ u.d = 3 ∧ u.a = 2 ∧ u.b = 0 ∧ u.imm = 0 ∧ PlainAccess s p b a a.addr 8 [permST]) ∧
    (∃ (s : State) (p b : Nat) (n : BitVec 6) (cd cs1 cs2 : RegIx) (d : DecodeTable) (len : Nat), d = (s.pair p).table ∧ len = bitsAt (d.word n.toNat).toNat 5 6 ∧ Issues (.customSyllable p n cd cs1 cs2) p b s ∧ p < 96 ∧ Quiet s ∧ customDefined d n.toNat cd cs1 cs2 = true ∧ len ≤ 32 ∧ (∀ i, i < len → (uopOf (d.uop n.toNat i).toNat).code ∈ [1, 2, 3, 4, 8])) :=
  ⟨⟨wS.updPair 5 (fun v => { v with table := ⟨[(3, 0x3F)], [(96, 0x06110C0000000000)]⟩ }), 5, 2, 3, 3, 7, 8, _, _, _, rfl, rfl, rfl, rfl, issues_of (by decide +kernel), by unfold Quiet; decide +kernel⟩,
   ⟨wS, 5, 3, 3, 7, 8, _, ⟨5, 2, 0x20100, 0x20104, 0⟩, rfl, by decide +kernel⟩,
   ⟨wS.updPair 5 (fun v => { v with table := ⟨[(3, 0x5F)], [(96, 0x4810C0100000000), (97, 0x614080000000000)]⟩ }), 5, 2, 3, 3, 7, 8, _, _, _, _, rfl, rfl, rfl, rfl, rfl, issues_of (by decide +kernel), by unfold Quiet; decide +kernel⟩,
   ⟨wS.updPair 5 (fun v => { v with table := ⟨[(3, 0x3F)], [(96, 0x12110C0100000000)]⟩ }), 5, 2, 3, 3, 7, 8, _, _, _, rfl, rfl, rfl, rfl, issues_of (by decide +kernel), by unfold Quiet; decide +kernel⟩,
   ⟨wS.updPair 5 (fun v => { v with table := ⟨[(3, 0x3F)], [(96, 0x1A11000600000000)]⟩ }), 5, 2, 3, 3, 10, 8, _, _, _, _, rfl, rfl, rfl, rfl, rfl, issues_of (by decide +kernel), by unfold Quiet PlainAccess; decide +kernel⟩,
   ⟨wS.updPair 5 (fun v => { v with table := ⟨[(3, 0x3F)], [(96, 0x1E31000300000000)]⟩ }), 5, 2, 3, 3, 10, 8, _, _, _, _, rfl, rfl, rfl, rfl, rfl, issues_of (by decide +kernel), by unfold Quiet PlainAccess; decide +kernel⟩,
   ⟨wS.updPair 5 (fun v => { v with table := ⟨[(3, 0x5F)], [(96, 0x4810C0100000000), (97, 0x614080000000000)]⟩ }), 5, 2, 3, 3, 7, 8, _, _, rfl, rfl, issues_of (by decide +kernel), by unfold Quiet; decide +kernel⟩⟩

theorem witness_WellFormedCommandsComplete :
    (∃ i : Instr, i.wellFormed = true) ∧ (∃ i : Instr, i.wellFormed = false) := ⟨⟨.evdEnable, by decide⟩, ⟨.bundle 104, by decide⟩⟩
theorem witness_StepRunsFrontCommand : (∃ s : State, s.pending = []) ∧
    (∃ s : State, ∀ p, p < 96 → (s.pair p).run = none) ∧ (∃ s : State, s.clk % 100000 ≠ 0) :=
  ⟨⟨r, rfl⟩, ⟨r, by decide +kernel⟩, ⟨{ r with clk := 5 }, by decide +kernel⟩⟩
theorem witness_AlarmsDebugAndHold_end : ∃ (s : State) (c : Nat), s.sec.pend = none ∧ s.stage = 4 ∧ s.jrn.isOpen = true ∧
    s.lcState < 3 ∧ (s.rd Addr.SEC_ALM_ACT).getLsbD c = true ∧ c < 8 :=
  ⟨(({ r with jrn := { r.jrn with isOpen := true } } : State).setFld Addr.SEN_BOOT 0 4 4).setFld Addr.SEC_ALM_ACT 0 8 4, 2,
    by decide +kernel⟩
theorem witness_RegisterSyllableFrame : ∃ (i : Instr) (p b : Nat) (s t u : State) (n : SylInfo) (f : Body) (v : Bool),
    registerOnly i = true ∧ sylPair i = p ∧ infoOf i = some n ∧ bodyOf i = some f ∧ Issues i p b s ∧
    f ((issued s p b).ctxFor p b n) (issued s p b) = .ok v u ∧ exec i s = .next t :=
  ⟨.add 5 3 7 8, 5, 2, wS, _, _, _, _, _, by decide, by decide, rfl, rfl, issues_of (by decide +kernel), rfl, rfl⟩
theorem witness_SyllableCompletes : ∃ (i : Instr) (p b : Nat) (s u : State) (n : SylInfo) (f : Body) (l : Bool),
    pairOf i = some p ∧ Issues i p b s ∧ infoOf i = some n ∧ bodyOf i = some f ∧
    f ((issued s p b).ctxFor p b n) (issued s p b) = .ok l u ∧ AtRest s u :=
  ⟨.add 5 3 7 8, 5, 2, wS, _, _, _, _, rfl, issues_of (by decide +kernel), rfl, rfl, rfl, by unfold AtRest Quiet; decide +kernel⟩
theorem witness_SyllableFaultsAreTaken :
    (∃ (i : Instr) (p b : Nat) (s u : State) (n : SylInfo) (f : Body) (g : PFault), pairOf i = some p ∧ Issues i p b s ∧
      infoOf i = some n ∧ bodyOf i = some f ∧ f ((issued s p b).ctxFor p b n) (issued s p b) = .flt g u ∧
      s.tallyBusy p b = false ∧ AtRest s ((u.faultOf p b g n.unit (g.cause == arith && !n.arith)).stepped p)) ∧
    (∃ (i : Instr) (p b : Nat) (s u : State) (n : SylInfo) (f : Body) (g : PFault), pairOf i = some p ∧ Issues i p b s ∧
      infoOf i = some n ∧ bodyOf i = some f ∧ f ((issued s p b).ctxFor p b n) (issued s p b) = .flt g u ∧
      s.tallyBusy p b = true ∧ Quiet s) :=
  ⟨⟨.ld 5 3 7 (.short 0), 5, 2, wS, _, _, _, _, rfl, issues_of (by decide +kernel), rfl, rfl, rfl, by decide +kernel, by unfold AtRest Quiet; decide +kernel⟩,
   ⟨.ld 5 3 7 (.short 0), 5, 2, wBusy, _, _, _, _, rfl, issues_of (by decide +kernel), rfl, rfl, rfl, by unfold Quiet; decide +kernel⟩⟩
theorem witness_CapabilityInMemory : ∃ (s u : State) (pa : Nat) (c : Cap) (sp : Space),
    (sp = .dram ∨ ∃ k, sp = .tcm k) ∧ pa % 16 = 0 ∧ u = s.capWrite sp pa c := ⟨r, _, 0x30000, allAt 0x30100, .dram, .inl rfl, rfl, rfl⟩
theorem witness_RepresentableCursors :
    (∃ (c : Cap) (x : Nat), x < 2 ^ 64 ∧ c.exp ≤ 50 ∧ c.representable x = true) ∧
    (∃ (c : Cap) (x : Nat), x < 2 ^ 64 ∧ c.exp = 51) :=
  ⟨⟨allAt 0x30100, 0x30FFF, by decide +kernel⟩, ⟨mkCap false 0 0 51 0 0 0, 2 ^ 64 - 1, by decide +kernel⟩⟩
theorem witness_SyllablesDecodeFromTheirWords : ∃ (i : Instr) (last : Bool) (ps : PredIx) (inv : Bool) (w : Nat) (x : Option (BitVec 23)),
    encodeSyl i last ps inv = some (w, x) := ⟨.addi 5 1 2 (.ext 0x1FFFFFFF), true, 7, true, _, _, rfl⟩
theorem witness_EveryStepKeepsMemoryCanonical : ∃ s t : State, MemoryCanonical s ∧ Machine.step s = .next t :=
  ⟨{ r with pending := [.evdEnable] }, _, by unfold MemoryCanonical; decide +kernel, rfl⟩
theorem witness_BundlesRunAndRetire :
    (∃ (p b : Nat) (s s1 s2 u : State) (v : Bundle) (l : Bool) (x : Option DSyl) (c : SCtx), p < 104 ∧ Quiet s ∧
      ({ s with out := [] } : State).execBank p = some b ∧ s.apendDue p b = false ∧ (s.pair p).shadow = [] ∧
      maskUpdate s.clk (s.pair p) = s.pair p ∧ (s.bank p b).rep = 0 ∧ issued (s.setPair p (s.pair p)) p b = s1 ∧
      fetchBundle p b (s.bank p b).pcc.addr false s1 = .ok v s2 ∧ s2.bundleWaits p b v = false ∧
      c = ⟨p, b, (s.bank p b).pcc.addr, addrOf (((s.bank p b).pcc.addr : Int) + v.len), 0⟩ ∧
      runSyls c s2 false 0 s2 v.syls = (.ok l u, x) ∧ AtRest s u) ∧
    (∀ le ∈ ([0, 0x20100] : List Nat), ∀ lc ∈ ([1, 2] : List Nat), ∀ ps ∈ ([0, 1] : List Nat),
      ∃ (p b : Nat) (s : State) (cd cs1 cs2 : RegIx) (pi : Bool) (w pc : Nat), p < 104 ∧ Quiet s ∧
      ({ s with out := [] } : State).execBank p = some b ∧ s.apendDue p b = false ∧ (s.pair p).shadow = [] ∧
      maskUpdate s.clk (s.pair p) = s.pair p ∧ (s.bank p b).rep = 0 ∧ s.tallyBusy p b = false ∧ (s.pair p).delay = [] ∧
      pc = (s.bank p b).pcc.addr ∧ PlainFetch s p b w ∧
      w = 2 ^ 31 + ps * 2 ^ 28 + b2n pi * 2 ^ 27 + 0x10 * 2 ^ 21 + cd.toNat * 2 ^ 16 + cs1.toNat * 2 ^ 11 + cs2.toNat * 2 ^ 6 ∧
      (s.bank p b).le.toNat = le ∧ (s.bank p b).lc.toNat = lc) ∧
    (∀ g ∈ ([.amode, .ttbc, .ctxcfg, .bankw, .status] : List ShadowReg), ∃ (p : Nat) (s : State) (w : ShadowWrite)
      (ws : List ShadowWrite), p < 104 ∧ Quiet s ∧ (s.pair p).shadow = w :: ws ∧ w.reg = g ∧ w.mask.getLsbD 1 = true) :=
  ⟨⟨5, 2, wB 0x82030880, _, _, _, _, _, _, _, by decide, by unfold Quiet; decide +kernel, by decide +kernel, by decide +kernel,
      by decide +kernel, by decide +kernel, by decide +kernel, rfl, rfl, rfl, rfl, rfl, by unfold AtRest Quiet; decide +kernel⟩,
   fun le h lc g ps k => ⟨5, 2, wL le lc (0x82030880 + ps * 2 ^ 28), 3, 1, 2, false,
      0x82030880 + ps * 2 ^ 28, 0x20100, by revert le lc ps; unfold Quiet PlainFetch; decide +kernel⟩,
   fun g h => ⟨5, wS.updPair 5 (fun v => { v with shadow := [⟨g, 2, 7, 7, 1⟩] }), _, _, by decide,
      by unfold Quiet; revert g; decide +kernel, rfl, rfl,
      by show (7 : Word).getLsbD 1 = true; decide⟩⟩
theorem witness_PlainCompletions_bundles :
    (∃ (p b : Nat) (s : State) (cd cs1 cs2 : RegIx) (w pc : Nat), Quiet s ∧ p < 104 ∧
      ({ s with out := [] } : State).execBank p = some b ∧ s.apendDue p b = false ∧ (s.pair p).shadow = [] ∧
      maskUpdate s.clk (s.pair p) = s.pair p ∧ (s.bank p b).rep = 0 ∧ s.tallyBusy p b = false ∧ (s.pair p).delay = [] ∧
      pc = (s.bank p b).pcc.addr ∧ PlainFetch s p b w ∧
      w = 2 ^ 31 + 0x10 * 2 ^ 21 + cd.toNat * 2 ^ 16 + cs1.toNat * 2 ^ 11 + cs2.toNat * 2 ^ 6 + 1 ∧ (s.bank p b).le.toNat ≠ pc) ∧
    (∃ (p : Nat) (s : State) (w : ShadowWrite) (ws : List ShadowWrite), Quiet s ∧ p < 104 ∧ (s.pair p).shadow = w :: ws ∧
      w.reg = .amode) ∧
    (∃ (p b : Nat) (n : BitVec 6) (cd cs1 cs2 : RegIx) (d : DecodeTable) (x : Uop) (s : State), Quiet s ∧ p < 96 ∧
      d = (s.pair p).table ∧ x = uopOf (d.uop n.toNat 0).toNat ∧ customDefined d n.toNat cd cs1 cs2 = true ∧
      bitsAt (d.word n.toNat).toNat 5 6 = 1 ∧ x.code = 1 ∧ x.fn = 0 ∧ x.d = 1 ∧ x.a = 2 ∧ x.b = 3 ∧
      Issues (.customSyllable p n cd cs1 cs2) p b s) :=
  ⟨⟨5, 2, wB 0x82030881, 3, 1, 2, 0x82030881, 0x20100, by unfold Quiet PlainFetch; decide +kernel⟩,
   ⟨5, wS.updPair 5 (fun v => { v with shadow := [⟨.amode, 2, 7, 7, 1⟩] }), _, _, by unfold Quiet; decide +kernel, by decide, rfl, rfl⟩,
   ⟨5, 2, 3, 3, 7, 8, _, _, wS.updPair 5 (fun v => { v with table := ⟨[(3, 0x3F)], [(96, 0x06110C0000000000)]⟩ }),
      by unfold Quiet; decide +kernel, by decide, rfl, rfl, by decide +kernel, by decide +kernel, by decide +kernel, by decide +kernel,
      by decide +kernel, by decide +kernel, by decide +kernel, issues_of (by decide +kernel)⟩⟩

/-! ## Witnesses: events -/

theorem witness_DispatchCommands :
    (∃ (s : State) (ch : BitVec 12) (e : TaskEntry) (s0 : State), Quiet s ∧ s0 = { s with out := [] } ∧ bitsAt (s.slot ch.toNat) 20 3 = 0 ∧ (s.slot ch.toNat).testBit 23 = true ∧ s0.task (bitsAt (s.slot ch.toNat) 0 16) = (some e, s0) ∧ s.fld (Addr.EVD_CHSTAT ch.toNat) 0 16 < 0xFFFF) ∧
    (∃ (s : State) (ch : BitVec 12), Quiet s ∧ bitsAt (s.slot ch.toNat) 20 3 ≠ 0) ∧
    (∃ (s : State), Quiet s ∧ s.fld Addr.EVD_CTRL 0 1 = 0 ∧ s.tally.chans = [] ∧ s.latent = []) ∧
    (∃ (s : State), Quiet s ∧ s.fld Addr.EVD_CTRL 0 1 = 1) ∧
    (∃ (s : State), Quiet s ∧ s.tally.chans = [] ∧ s.latent = []) ∧
    (∃ (s : State) (tn : BitVec 16) (p b : Nat), Quiet s ∧ s.residentOn tn.toNat = some p ∧ (s.pair p).bankOf tn.toNat = some b ∧ ((s.bank p b).st = .suspended ∨ (s.bank p b).st = .idle)) ∧
    (∃ (s : State) (tn : BitVec 16), Quiet s ∧ s.residentOn tn.toNat = none) ∧
    (∃ (s : State) (c16 : BitVec 16), Quiet s ∧ c16.toNat < 4096) ∧
    (∃ (s : State) (c16 : BitVec 16), Quiet s ∧ 4096 ≤ c16.toNat) ∧
    (∃ (s : State), Quiet s) ∧
    (∃ (s : State) (c16 : BitVec 16), Quiet s ∧ c16.toNat < 96 ∧ (s.pair c16.toNat).halt.isSome = true ∧ (s.pair c16.toNat).redispDone = true ∧ s.tally.chans = [] ∧ s.latent = []) ∧
    (∃ (s : State) (c16 : BitVec 16), Quiet s ∧ c16.toNat < 96 ∧ (s.pair c16.toNat).halt = none) ∧
    (∃ (s : State) (c16 : BitVec 16), Quiet s ∧ c16.toNat < 96 ∧ (s.pair c16.toNat).halt.isSome = true ∧ (s.pair c16.toNat).redispDone = false) :=
  ⟨⟨evdA, 5, teA, { (evdA : State) with out := [] }, by unfold Quiet; decide +kernel⟩,
   ⟨{ evdA with evd := { evdA.evd with slots := [(5, 0x900007)] } }, 5, by unfold Quiet; decide +kernel⟩,
   ⟨r, by unfold Quiet; decide +kernel⟩,
   ⟨r.setFld Addr.EVD_CTRL 0 1 1, by unfold Quiet; decide +kernel⟩,
   ⟨evdA, by unfold Quiet; decide +kernel⟩,
   ⟨bankA .suspended, 7, 0, 2, by unfold Quiet; decide +kernel⟩,
   ⟨evdA, 7, by unfold Quiet; decide +kernel⟩,
   ⟨(r.setFld (Addr.EVD_CHSTAT 4095) 0 16 3).setFld (Addr.EVD_CHSTAT 4095) 32 32 9, 4095, by unfold Quiet; decide +kernel⟩,
   ⟨r, 4096, by unfold Quiet; decide +kernel⟩,
   ⟨r.setFld Addr.EVD_CNT_RES 0 8 3, by unfold Quiet; decide +kernel⟩,
   ⟨(haltA .lockup).updPair 0 (fun v => { v with redispDone := true }), 0, by unfold Quiet; decide +kernel⟩,
   ⟨r, 95, by unfold Quiet; decide +kernel⟩,
   ⟨haltA .lockup, 0, by unfold Quiet; decide +kernel⟩⟩

theorem witness_HaltsAndSupervision :
    (∃ (s : State) (p : Nat), Quiet s ∧ p < 104 ∧ (s.pair p).maskFrom.isSome = true ∧ (s.pair p).maskNoted = false) ∧
    (∃ (s : State) (ch : BitVec 12) (p b : Nat) (x : Post) (pay : List Cap), Quiet s ∧ p < 96 ∧ b < 15 ∧ (s.bank p b).st = .suspended ∧ (s.bank p b).ready = false ∧ (s.bank p b).fault = some (ch.toNat, pay) ∧ (s.pair p).run = none ∧ (s.pair p).returning = none ∧ (s.pair p).halt = none ∧ (s.pair p).shadow = [] ∧ (∀ d ∈ s.evd.delivs, d.fault ≠ some (p, b)) ∧ s.evd.posts.find? (fun x => x.fault == some (p, b)) = some x ∧ esccOk (s.pair p).escc = true ∧ esscOk (s.pair p).essc = true) ∧
    (∃ (s : State) (p : Nat), Quiet s ∧ p < 96 ∧ (s.pair p).halt = none ∧ (s.pair p).failed = false ∧ (s.fld Addr.FC_CTRL 1 1 = 0 ∨ s.fld Addr.SEC_LC 0 3 ≠ 0)) ∧
    (∃ (s : State) (p : Nat), Quiet s ∧ p < 104 ∧ (s.pair p).halt.isSome = true) ∧
    (∃ (s : State) (p : Nat), Quiet s ∧ p < 104 ∧ (s.pair p).halt = some .divergence ∧ s.tallySettled p = true ∧ s.haltAsked p = false ∧ s.unsequenced p = false) ∧
    (∃ (s : State) (p : Nat), Quiet s ∧ p < 104 ∧ (s.pair p).halt = some .lockup ∧ s.tallySettled p = true ∧ s.haltAsked p = false ∧ s.unsequenced p = false) :=
  ⟨⟨evdA.updPair 103 (fun v => { v with maskFrom := some 0 }), 103, by unfold Quiet; decide +kernel⟩,
   ⟨let t := (escA (bankA .suspended)).updBank 0 2 (fun k => { k with fault := some (9, [intCap 4]) }); { t with evd := { t.evd with posts := [postA] } }, 9, 0, 2, postA, [intCap 4], by unfold Quiet; decide +kernel⟩,
   ⟨evdA, 95, by unfold Quiet; decide +kernel⟩,
   ⟨haltA .divergence, 0, by unfold Quiet; decide +kernel⟩,
   ⟨haltA .divergence, 0, by unfold Quiet; decide +kernel⟩,
   ⟨haltA .lockup, 0, by unfold Quiet; decide +kernel⟩⟩

theorem witness_DispatchingWork :
    (∃ (s : State) (p : Nat) (c : Cand) (x : Post) (e : TaskEntry) (s0 : State), Quiet s ∧ s0 = { s with out := [] } ∧ p < 96 ∧ s.fld Addr.EVD_CTRL 0 1 = 1 ∧ (s.pair p).halt = none ∧ (s.pair p).selected = none ∧ (s.pair p).returning = none ∧ s.noPair = false ∧ s.nextWork p = some ⟨c.prio, c.redisp, c.order, c.what, some x.chan, c.task⟩ ∧ s.runPrio p < c.prio + 1 ∧ s.takePost p c.task = some x ∧ s0.task c.task = (some e, s0) ∧ s.tally.chans = [] ∧ s.latent = []) ∧
    (∃ (s : State) (p : Nat) (c : Cand), Quiet s ∧ p < 96 ∧ s.fld Addr.EVD_CTRL 0 1 = 1 ∧ (s.pair p).halt = none ∧ (s.pair p).selected = none ∧ (s.pair p).returning = none ∧ s.noPair = false ∧ s.nextWork p = some ⟨c.prio, c.redisp, c.order, c.what, none, c.task⟩ ∧ s.runPrio p < c.prio + 1 ∧ s.tally.chans = [] ∧ s.latent = []) ∧
    (∃ (s : State) (p : Nat), Quiet s ∧ p < 96 ∧ (s.fld Addr.EVD_CTRL 0 1 = 0 ∨ (s.pair p).halt.isSome = true ∨ (s.noPair = false ∧ s.nextWork p = none))) ∧
    (∃ (s : State) (p b : Nat) (c : Cand) (d : Delivery) (ds : List (BitVec 128)) (k : Cap), Quiet s ∧ p < 96 ∧ s.selEvent p = some d ∧ (s.pair p).run = none ∧ (s.pair p).bankOf d.task = some b ∧ (s.bank p b).st = .idle ∧ s.mayEnter p d.prio = true ∧ (s.pair p).standby = some ⟨.event d.id, ds, k⟩ ∧ (∀ c ∈ d.regs, c.tag = false) ∧ entryCheck k = none ∧ (s.pair p).shadow = []) ∧
    (∃ (s : State) (p b : Nat) (ds : List (BitVec 128)) (k : Cap), Quiet s ∧ p < 96 ∧ (s.pair p).selected = some (.bank b) ∧ (s.pair p).run = none ∧ (s.bank p b).ready = true ∧ s.mayEnter p (s.bankPrio p b) = true ∧ (s.pair p).standby = some ⟨.bank b, ds, k⟩ ∧ (s.pair p).shadow = []) ∧
    (∃ (s : State) (p b : Nat) (w s0 : State), Quiet s ∧ Quiet w ∧ s0 = { s with out := [] } ∧ p < 96 ∧ (s.pair p).halt = none ∧ s.inRepu p = false ∧ s.wantedElsewhere p = none ∧ s.needsBank p = true ∧ (s.pair p).freeBank = none ∧ (s.pair p).victim = some b ∧ s0.spillBank p b = .ok () w) ∧
    (∃ (s : State) (p : Nat), Quiet s ∧ p < 96 ∧ (s.pair p).halt = none ∧ s.inRepu p = false ∧ s.wantedElsewhere p = none ∧ s.needsBank p = true ∧ (s.pair p).freeBank = none ∧ (s.pair p).victim = none ∧ (s.pair p).stalled = false) ∧
    (∃ (s : State) (p : Nat) (sb : SpillBuf) (sbs : List SpillBuf), Quiet s ∧ p < 96 ∧ (s.pair p).spillBufs = sb :: sbs ∧ s.tally.chans = [] ∧ s.latent = [] ∧ sb.bank.ttbc.toNat % 2 = 0) ∧
    (∃ (s : State) (p : Nat), Quiet s ∧ p < 96 ∧ (s.pair p).spillBufs = []) ∧
    (∃ (s : State) (p b : Nat) (w s0 : State), Quiet s ∧ Quiet w ∧ s0 = { s with out := [] } ∧ p < 96 ∧ (s.pair p).freeCount < s.fld Addr.EVD_SPILLCFG 0 3 ∧ (s.pair p).halt = none ∧ s.inRepu p = false ∧ (s.pair p).victim = some b ∧ s0.spillBank p b = .ok () w) ∧
    (∃ (s : State) (p : Nat), Quiet s ∧ p < 96 ∧ s.fld Addr.EVD_SPILLCFG 0 3 ≤ (s.pair p).freeCount) ∧
    (∃ (s : State) (p b t : Nat) (e : TaskEntry) (img : Bank) (s0 : State), Quiet s ∧ s0 = { s with out := [] } ∧ p < 96 ∧ (s.pair p).halt = none ∧ s.fillTask p = some t ∧ (s.pair p).freeBank = some b ∧ (s.pair p).returning = none ∧ s0.task t = (some e, s0) ∧ (∀ q, (s.pair q).spillBufs = []) ∧ s0.fillImage p t e = .ok img s0) ∧
    (∃ (s : State) (p : Nat) (d : Delivery) (e : TaskEntry) (cause : HaltCause) (seq : Option Nat), Quiet s ∧ p < 96 ∧ (s.pair p).halt = some cause ∧ s.evd.redisp.find? (fun e => e.1 == p) = some (p, seq) ∧ s.tallySettled p = true ∧ (s.pair p).spillBufs = [] ∧ (s.pair p).esc.dropDeliv = none ∧ (s.pair p).restartWait = false ∧ (∀ d ∈ s.evd.delivs, d.fault = none)) :=
  ⟨⟨evP, 0, (evP.nextWork 0).getD dCand, (evP.takePost 0 7).getD dPost, teA, { (evP : State) with out := [] }, by unfold Quiet; decide +kernel⟩,
   ⟨let t := bankA .suspended; (t.updBank 0 2 (fun k => { k with ready := true })).setFld Addr.EVD_CTRL 0 1 1, 0, ((let t := bankA .suspended; (t.updBank 0 2 (fun k => { k with ready := true })).setFld Addr.EVD_CTRL 0 1 1).nextWork 0).getD dCand, by unfold Quiet; decide +kernel⟩,
   ⟨r, 95, by unfold Quiet; decide +kernel⟩,
   ⟨evIdle.updPair 0 (fun v => { v with standby := some ⟨.event 9, [], entA⟩ }), 0, 2, dCand, del9, [], entA, by unfold Quiet; decide +kernel⟩,
   ⟨(bankA .suspended).updBank 0 2 (fun k => { k with ready := true }) |>.updPair 0 (fun v => { v with selected := some (.bank 2), standby := some ⟨.bank 2, [], entA⟩ }), 0, 2, [], entA, by unfold Quiet; decide +kernel⟩,
   ⟨evFullE, 0, ((evFullE.pair 0).victim).getD 0, getSt (({ (evFullE : State) with out := [] } : State).spillBank 0 (((evFullE.pair 0).victim).getD 0 : Nat)), { (evFullE : State) with out := [] }, by unfold Quiet; decide +kernel⟩,
   ⟨evHeld, 0, by unfold Quiet; decide +kernel⟩,
   ⟨evdA.updPair 0 (fun v => { v with spillBufs := [sbA] }), 0, sbA, [], by unfold Quiet; decide +kernel⟩,
   ⟨evdA, 0, by unfold Quiet; decide +kernel⟩,
   ⟨evFull.setFld Addr.EVD_SPILLCFG 0 3 1 |>.updPair 0 (fun v => { v with selected := none }), 0, (((evFull.setFld Addr.EVD_SPILLCFG 0 3 1 |>.updPair 0 (fun v => { v with selected := none })).pair 0).victim).getD 0, getSt (({ (evFull.setFld Addr.EVD_SPILLCFG 0 3 1 |>.updPair 0 (fun v => { v with selected := none }) : State) with out := [] } : State).spillBank 0 ((((evFull.setFld Addr.EVD_SPILLCFG 0 3 1 |>.updPair 0 (fun v => { v with selected := none })).pair 0).victim).getD 0 : Nat)), { (evFull.setFld Addr.EVD_SPILLCFG 0 3 1 |>.updPair 0 (fun v => { v with selected := none }) : State) with out := [] }, by unfold Quiet; decide +kernel⟩,
   ⟨evdA, 95, by unfold Quiet; decide +kernel⟩,
   ⟨({ evdA.updPair 0 (fun v => { v with returning := none, selected := some (.event 9) }) with evd := { evdA.evd with delivs := [del9] } } : State), 0, 0, 7, teA, getOk dBank (({ (({ evdA.updPair 0 (fun v => { v with returning := none, selected := some (.event 9) }) with evd := { evdA.evd with delivs := [del9] } } : State) : State) with out := [] } : State).fillImage 0 7 teA), { (({ evdA.updPair 0 (fun v => { v with returning := none, selected := some (.event 9) }) with evd := { evdA.evd with delivs := [del9] } } : State) : State) with out := [] }, by unfold Quiet; decide +kernel, by decide +kernel, by decide +kernel, by decide +kernel, by decide +kernel, by decide +kernel, by decide +kernel, by decide +kernel, fun q => smGet_all (P := fun v : Pair => v.spillBufs = []) (fun k => by unfold pairReset; split <;> rfl) (by decide +kernel) q, ok_of_okIn _ (by decide +kernel)⟩,
   ⟨({ haltA .divergence with evd := { evdA.evd with redisp := [(0, some 3)] } } : State), 0, dDelivery, dTaskEntry, .divergence, some 3, by unfold Quiet; decide +kernel⟩⟩

theorem witness_EclipseEpochs :
    (∃ (s : State), Quiet s ∧ s.eclMayStart = true) ∧
    (∃ (s : State), Quiet s ∧ s.eclMayStart = false) ∧
    (∃ (s : State), Quiet s ∧ s.eclMayStart = true ∧ s.fld Addr.ECL_CTRL 1 1 = 1 ∧ s.fld Addr.ECL_STATUS 7 1 = 0 ∧ s.sweep.fresh = true) ∧
    (∃ (s : State), Quiet s ∧ s.sweep.fresh = false) ∧
    (∃ (s : State), Quiet s ∧ s.fld Addr.ECL_STATUS 0 1 = 1 ∧ s.fld Addr.ECL_EVT 15 1 = 0) ∧
    (∃ (s : State), Quiet s ∧ s.fld Addr.ECL_STATUS 0 1 = 0 ∧ s.sweep.doneAt ≠ some s.clk) ∧
    (∃ (s : State), Quiet s) ∧
    (∃ (s : State) (p b n : Nat) (c : Cap), Quiet s ∧ p < 104 ∧ (s.pair p).passDue = true ∧ (s.pair p).halt = none ∧ (s.pair p).det = false ∧ (s.pair p).run = none ∧ b < 16 ∧ c = (s.bank p b).reg n ∧ s.latent = [] ∧ (∀ b, (s.bank p b).ttbc.toNat % 2 = 0)) ∧
    (∃ (s : State) (p : Nat), Quiet s ∧ p < 104 ∧ ((s.pair p).passDue = false ∨ (s.pair p).halt.isSome = true ∨ (s.pair p).det = true)) ∧
    (∃ (s : State) (k : Cap) (r : ScanRange) (rs : List ScanRange), Quiet s ∧ (s.eclPhase = 3 ∨ s.eclPhase = 4) ∧ s.sweep.todo = r :: rs ∧ r.first < r.stop ∧ r.tcm = none ∧ r.xl = .physical ∧ s.tally.chans = [] ∧ s.latent = [] ∧ k = s.capAt .dram (16 * r.first)) ∧
    (∃ (s : State), Quiet s ∧ s.eclPhase ≠ 3 ∧ s.eclPhase ≠ 4) ∧
    (∃ (s : State), Quiet s ∧ s.eclPhase = 1) ∧
    (∃ (s : State), Quiet s ∧ s.eclPhase = 4 ∧ s.sweep.todo = []) ∧
    (∃ (s : State) (l : List ScanRange) (w s0 : State), Quiet s ∧ Quiet w ∧ s0 = { s with out := [] } ∧ s.eclPhase = 2 ∧ s.passesDue = false ∧ s0.buildRoots [] s.sweep.roots = (w, some l)) ∧
    (∃ (s : State), Quiet s ∧ s.eclPhase = 5 ∧ s.passesDue = false ∧ s.fld Addr.ECL_EVT 15 1 = 0) ∧
    (∃ (s : State), Quiet s ∧ s.eclPhase ≠ 5) ∧
    (∃ (s : State), Quiet s ∧ s.fld Addr.ECL_STATUS 0 1 = 0 ∧ s.sweep.doneAt = some s.clk) :=
  ⟨⟨eclOn, by unfold Quiet; decide +kernel⟩,
   ⟨r.setFld Addr.ECL_CTRL 0 1 0, by unfold Quiet; decide +kernel⟩,
   ⟨let t := eclOn.setFld Addr.ECL_CTRL 1 1 1; { t with sweep := { t.sweep with fresh := true } }, by unfold Quiet; decide +kernel⟩,
   ⟨eclOn, by unfold Quiet; decide +kernel⟩,
   ⟨ph 3, by unfold Quiet; decide +kernel⟩,
   ⟨r, by unfold Quiet; decide +kernel⟩,
   ⟨r.setFld Addr.ECL_CNT_SKIP 0 8 7, by unfold Quiet; decide +kernel⟩,
   ⟨(evdA.updPair 0 (fun v => { v with passDue := true })).updBank 0 2 (fun k => k.setReg 5 rwA), 0, 2, 5, rwA, by unfold Quiet; decide +kernel, by decide +kernel, by decide +kernel, by decide +kernel, by decide +kernel, by decide +kernel, by decide +kernel, by decide +kernel, by decide +kernel, fun b => by rw [State.bank_updBank]; split <;> rfl⟩,
   ⟨r, 103, by unfold Quiet; decide +kernel⟩,
   ⟨{ ph 3 with sweep := { r.sweep with todo := [rng] } }, nullCap, rng, [], by unfold Quiet; decide +kernel⟩,
   ⟨r, by unfold Quiet; decide +kernel⟩,
   ⟨ph 1, by unfold Quiet; decide +kernel⟩,
   ⟨ph 4, by unfold Quiet; decide +kernel⟩,
   ⟨{ ph 2 with sweep := { r.sweep with roots := [] } }, ((({ ({ ph 2 with sweep := { r.sweep with roots := [] } } : State) with out := [] } : State).buildRoots [] ({ ph 2 with sweep := { r.sweep with roots := [] } }).sweep.roots).2).getD [], (({ ({ ph 2 with sweep := { r.sweep with roots := [] } } : State) with out := [] } : State).buildRoots [] ({ ph 2 with sweep := { r.sweep with roots := [] } }).sweep.roots).1, { ({ ph 2 with sweep := { r.sweep with roots := [] } } : State) with out := [] }, by unfold Quiet; decide +kernel⟩,
   ⟨ph 5, by unfold Quiet; decide +kernel⟩,
   ⟨ph 4, by unfold Quiet; decide +kernel⟩,
   ⟨{ eclOn with sweep := { eclOn.sweep with doneAt := some eclOn.clk } }, by unfold Quiet; decide +kernel⟩⟩

theorem witness_TallyUnitOperations :
    (∃ (s : State) (id : Nat) (o : TallyOp), Quiet s ∧ s.tally.transit.find? (fun o => o.id == id) = some o ∧ (s.tch (channelOf o.cell)).entryOf o.cell = none ∧ (s.tch (channelOf o.cell)).entries.length < s.fld Addr.TALLY_COMB 20 10 ∧ s.fld Addr.TALLY_CTRL 0 1 = 0) ∧
    (∃ (s : State) (id : Nat) (o : TallyOp) (e : CombEntry), Quiet s ∧ s.tally.transit.find? (fun o => o.id == id) = some o ∧ (s.tch (channelOf o.cell)).entryOf o.cell = some e ∧ e.st = .active) ∧
    (∃ (s : State) (id : Nat) (o : TallyOp), Quiet s ∧ s.tally.transit.find? (fun o => o.id == id) = none) ∧
    (∃ (s : State) (cell : Nat) (e : CombEntry), Quiet s ∧ (s.tch (channelOf cell)).entryOf cell = some e ∧ e.st = .loading ∧ s.latent = [] ∧ s.poisoned e.cell = false ∧ e.waiting = [] ∧ 0 < e.most) ∧
    (∃ (s : State) (cell : Nat) (e : CombEntry), Quiet s ∧ (s.tch (channelOf cell)).entryOf cell = some e ∧ e.st = .active ∧ e.dirty = true) ∧
    (∃ (s : State) (cell : Nat) (e : CombEntry), Quiet s ∧ (s.tch (channelOf cell)).entryOf cell = some e ∧ e.dirty = false) ∧
    (∃ (s : State) (cell : Nat) (e : CombEntry), Quiet s ∧ (s.tch (channelOf cell)).entryOf cell = some e ∧ e.st = .flushing ∧ e.data.length = 64 ∧ cell % 64 = 0 ∧ cell + 64 ≤ 2 ^ 41 ∧ e.cell = cell) ∧
    (∃ (s : State) (id ch : Nat) (o : TallyOp), Quiet s ∧ s.parkedOp id = some (ch, o) ∧ ((s.tch ch).parked.find? (fun x => x.cell == o.cell)).map (fun x => x.id) = some id ∧ (s.tch ch).entryOf o.cell = none ∧ (s.tch ch).entries.length < s.fld Addr.TALLY_COMB 20 10 ∧ s.fld Addr.TALLY_CTRL 0 1 = 0) ∧
    (∃ (s : State) (id : Nat), Quiet s ∧ s.parkedOp id = none) ∧
    (∃ (s : State) (id ch : Nat) (o : TallyOp), Quiet s ∧ s.parkedOp id = some (ch, o)) ∧
    (∃ (s : State) (id : Nat) (dn : TallyDone), Quiet s ∧ s.tally.done.find? (fun x => x.op.id == id) = some dn ∧ dn.snapshot = none) ∧
    (∃ (s : State) (id ea : Nat) (dn : TallyDone) (bs : List Byte), Quiet s ∧ s.tally.done.find? (fun x => x.op.id == id) = some dn ∧ dn.snapshot = some bs ∧ dn.op.dst = [(ea, 64)] ∧ bs.length = 64 ∧ ea + 64 ≤ 2 ^ 41 ∧ s.tally.chans = [] ∧ s.latent = []) ∧
    (∃ (s : State) (core : BitVec 7), Quiet s ∧ core.toNat < 96 ∧ (s.pair core.toNat).halt.isSome = true) ∧
    (∃ (s : State) (core : BitVec 7), Quiet s ∧ core.toNat < 96 ∧ (s.pair core.toNat).halt = none) ∧
    (∃ (s : State) (core : BitVec 7), Quiet s ∧ 96 ≤ core.toNat) ∧
    (∃ (s : State), Quiet s) ∧
    (∃ (s : State) (cell : Nat) (e : CombEntry), Quiet s ∧ cell < 2 ^ 41 ∧ cell % 64 = 0 ∧ (s.tch (channelOf cell)).entryOf cell = some e ∧ e.st = .active ∧ e.dirty = false ∧ s.latent = []) ∧
    (∃ (s : State) (cell : Nat) (e : CombEntry), Quiet s ∧ cell < 2 ^ 41 ∧ cell % 64 = 0 ∧ (s.tch (channelOf cell)).entryOf cell = some e ∧ e.st ≠ .loading ∧ (e.dirty = true ∨ e.st = .flushing) ∧ s.latent = [] ∧ e.data.length = 64 ∧ e.cell = cell) ∧
    (∃ (s : State) (cell : Nat), Quiet s ∧ cell < 2 ^ 41 ∧ (s.tch (channelOf (cell / 64 * 64))).entryOf (cell / 64 * 64) = none) ∧
    (∃ (s : State) (cell n : Nat) (dc : Decision) (o : TallyOp) (e : CombEntry), Quiet s ∧ (s.tch (channelOf cell)).entryOf cell = some e ∧ e.st = .loading ∧ s.latent = [] ∧ s.poisoned e.cell = false ∧ e.waiting = [o] ∧ dc = decideOp s.time s.timeUnc (s.fld Addr.TALLY_GRACE 0 20 * 1000) o (s.bytesAt .dram e.cell 64) ∧ n = (if dc.cell = s.bytesAt .dram e.cell 64 then 0 else 1)) ∧
    (∃ (s : State) (id ch n : Nat) (o : TallyOp), Quiet s ∧ s.parkedOp id = some (ch, o) ∧ n = (s.tch ch).parked.length - ((s.tch ch).parked.filter (fun x => x.id == id)).length) :=
  ⟨⟨{ r with tally := { r.tally with transit := [op3] } }, 3, op3, by unfold Quiet; decide +kernel⟩,
   ⟨{ tchE .active 2 with tally := { (tchE .active 2).tally with transit := [op3] } }, 3, op3, cellE .active 2, by unfold Quiet; decide +kernel⟩,
   ⟨r, 3, dTallyOp, by unfold Quiet; decide +kernel⟩,
   ⟨tchE .loading 0, 0x4000, cellE .loading 0, by unfold Quiet; decide +kernel⟩,
   ⟨tchE .active 2, 0x4000, cellE .active 2, by unfold Quiet; decide +kernel⟩,
   ⟨tchE .active 0, 0x4000, cellE .active 0, by unfold Quiet; decide +kernel⟩,
   ⟨tchE .flushing 2, 0x4000, cellE .flushing 2, by unfold Quiet; decide +kernel⟩,
   ⟨tchS ⟨[], [op3]⟩, 3, channelOf 0x4000, op3, by unfold Quiet; decide +kernel⟩,
   ⟨r, 3, by unfold Quiet; decide +kernel⟩,
   ⟨tchS ⟨[], [op3]⟩, 3, channelOf 0x4000, op3, by unfold Quiet; decide +kernel⟩,
   ⟨{ r with tally := { r.tally with done := [⟨op3, 1, none⟩] } }, 3, ⟨op3, 1, none⟩, by unfold Quiet; decide +kernel⟩,
   ⟨{ r with tally := { r.tally with done := [⟨{ op3 with kind := .read, dst := [(0x8000, 64)] }, 0, some (List.replicate 64 7)⟩] } }, 3, 0x8000, ⟨{ op3 with kind := .read, dst := [(0x8000, 64)] }, 0, some (List.replicate 64 7)⟩, List.replicate 64 7, by unfold Quiet; decide +kernel⟩,
   ⟨(r.updPair 95 (fun v => { v with halt := some .lockup })).updPair 1 (fun v => v), 95, by unfold Quiet; decide +kernel⟩,
   ⟨r, 95, by unfold Quiet; decide +kernel⟩,
   ⟨r, 96, by unfold Quiet; decide +kernel⟩,
   ⟨r, by unfold Quiet; decide +kernel⟩,
   ⟨tchE .active 0, 0x4000, cellE .active 0, by unfold Quiet; decide +kernel⟩,
   ⟨tchE .active 2, 0x4000, cellE .active 2, by unfold Quiet; decide +kernel⟩,
   ⟨r, 2 ^ 41 - 1, by unfold Quiet; decide +kernel⟩,
   ⟨(tchS ⟨[eLoad1], []⟩).dataWrite .dram 0x4000 liveC, 0x4000, 1, decideOp ((tchS ⟨[eLoad1], []⟩).dataWrite .dram 0x4000 liveC).time ((tchS ⟨[eLoad1], []⟩).dataWrite .dram 0x4000 liveC).timeUnc (((tchS ⟨[eLoad1], []⟩).dataWrite .dram 0x4000 liveC).fld Addr.TALLY_GRACE 0 20 * 1000) op3 (((tchS ⟨[eLoad1], []⟩).dataWrite .dram 0x4000 liveC).bytesAt .dram 0x4000 64), op3, eLoad1, by unfold Quiet; decide +kernel⟩,
   ⟨tchS ⟨[], [op3]⟩, 3, channelOf 0x4000, 0, op3, by unfold Quiet; decide +kernel⟩⟩

theorem witness_ChannelsArbitersAndScrubs :
    (∃ (s : State) (ch q : Nat) (cand : BitVec 22), Quiet s ∧ ch < 16 ∧ (s.arb ch).snap = none ∧ (s.arb ch).refreshDue = true ∧ (s.arb ch).owner = some q ∧ (12 ≤ q ∧ q ≤ 20 ∨ cand.toNat.testBit q = true)) ∧
    (∃ (s : State) (ch q : Nat) (cand : BitVec 22) (cs : List Nat) (x : BitVec 32), Quiet s ∧ ch < 16 ∧ (s.arb ch).snap = none ∧ (s.arb ch).refreshDue = false ∧ (s.arb ch).debugDue = false ∧ cs = (List.range 22).filter (fun r => cand.toNat.testBit r || (s.arb ch).parked.contains r) ∧ x = lfsrAdvance (BitVec.ofNat 32 (s.fld (Addr.MCH_LFSR ch) 0 32)) 32 ∧ q ∈ cs ∧ s.fld (Addr.ARB_LIM_ACT ch) 0 10 ≤ s.waitOf ch q ∧ (∀ r ∈ cs, s.fld (Addr.ARB_LIM_ACT ch) 0 10 ≤ s.waitOf ch r → s.waitOf ch r ≤ s.waitOf ch q ∧ (s.waitOf ch r = s.waitOf ch q → q ≤ r))) ∧
    (∃ (s : State) (ch q total below : Nat) (cand : BitVec 22) (cs : List Nat) (x : BitVec 32), Quiet s ∧ ch < 16 ∧ (s.arb ch).snap = none ∧ (s.arb ch).refreshDue = false ∧ (s.arb ch).debugDue = false ∧ cs = (List.range 22).filter (fun r => cand.toNat.testBit r || (s.arb ch).parked.contains r) ∧ x = lfsrAdvance (BitVec.ofNat 32 (s.fld (Addr.MCH_LFSR ch) 0 32)) 32 ∧ q ∈ cs ∧ (∀ r ∈ cs, s.waitOf ch r < s.fld (Addr.ARB_LIM_ACT ch) 0 10) ∧ total = (cs.map (fun r => s.ticket ch r)).sum ∧ below = ((cs.filter (fun r => decide (r < q))).map (fun r => s.ticket ch r)).sum ∧ below ≤ x.toNat * total / 2 ^ 32 ∧ x.toNat * total / 2 ^ 32 < below + s.ticket ch q) ∧
    (∃ (s : State) (mask : BitVec 16), Quiet s ∧ mask ≠ 0) ∧
    (∃ (s : State) (mask : BitVec 16), Quiet s ∧ mask = 0) ∧
    (∃ (s : State) (ch : Nat) (t0 t1 t2 l : Word), Quiet s ∧ ch < 16 ∧ 0 < (s.arb ch).transit ∧ boundsOk s t0 t1 t2 l = true ∧ t0 = s.rd (Addr.ARB_TKT0 ch) ∧ t1 = s.rd (Addr.ARB_TKT1 ch) ∧ t2 = s.rd (Addr.ARB_TKT2 ch) ∧ l = s.rd (Addr.ARB_LIM ch)) ∧
    (∃ (s : State) (ch : Nat) (t0 t1 t2 l : Word), Quiet s ∧ ch < 16 ∧ 0 < (s.arb ch).transit ∧ boundsOk s t0 t1 t2 l = false ∧ t0 = s.rd (Addr.ARB_TKT0 ch) ∧ t1 = s.rd (Addr.ARB_TKT1 ch) ∧ t2 = s.rd (Addr.ARB_TKT2 ch) ∧ l = s.rd (Addr.ARB_LIM ch)) ∧
    (∃ (s : State) (ch : Nat), Quiet s ∧ ch < 16 ∧ (s.arb ch).transit = 0) ∧
    (∃ (s : State) (ch q : Nat), Quiet s ∧ ch < 16 ∧ (s.arb ch).owner = some q ∧ (s.arb ch).noted = false ∧ s.fld (Addr.ARB_LIM_ACT ch) 16 16 ≠ 0) ∧
    (∃ (s : State) (ch : Nat), Quiet s ∧ ch < 16 ∧ ((s.arb ch).owner = none ∨ (s.arb ch).noted = true ∨ s.fld (Addr.ARB_LIM_ACT ch) 16 16 = 0)) ∧
    (∃ (s : State) (ch : Nat), Quiet s ∧ ch < 16) ∧
    (∃ (s : State) (ch n : Nat), Quiet s ∧ ch < 16 ∧ s.fld (Addr.MCH_SCRUB ch) 0 1 = 1 ∧ s.latent = [] ∧ n = s.fld (Addr.MCH_SCRUB_POS ch) 0 32) ∧
    (∃ (s : State) (ch n a : Nat), Quiet s ∧ ch < 16 ∧ s.fld (Addr.MCH_SCRUB ch) 0 1 = 1 ∧ n = s.fld (Addr.MCH_SCRUB_POS ch) 0 32 ∧ n < 2 ^ 31 ∧ a = packageLine ch n) ∧
    (∃ (s : State) (ch : Nat), Quiet s ∧ ch < 16 ∧ s.fld (Addr.MCH_SCRUB ch) 0 1 = 0) ∧
    (∃ (s : State), Quiet s) ∧
    (∃ (s : State), Quiet s ∧ s.fld Addr.FC_CTRL 0 1 = 1) ∧
    (∃ (s : State), Quiet s ∧ s.fld Addr.FC_CTRL 0 1 = 0) :=
  ⟨⟨arbO 15 { arbReset with refreshDue := true, owner := some 3 }, 15, 3, 8, by unfold Quiet; decide +kernel⟩,
   ⟨r.setFld (Addr.ARB_LIM_ACT 15) 0 10 0, 15, 3, 0x200008, (List.range 22).filter (fun r => (0x200008 : BitVec 22).toNat.testBit r), lfsrAdvance (BitVec.ofNat 32 ((r.setFld (Addr.ARB_LIM_ACT 15) 0 10 0).fld (Addr.MCH_LFSR 15) 0 32)) 32, by unfold Quiet; decide +kernel⟩,
   ⟨(r.setFld (Addr.ARB_TKT0 15) 0 64 0).setFld (Addr.ARB_LIM_ACT 15) 0 10 500, 15, 3, ((r.setFld (Addr.ARB_TKT0 15) 0 64 0).setFld (Addr.ARB_LIM_ACT 15) 0 10 500).ticket 15 3, 0, 8, (List.range 22).filter (fun r => (8 : BitVec 22).toNat.testBit r), lfsrAdvance (BitVec.ofNat 32 (((r.setFld (Addr.ARB_TKT0 15) 0 64 0).setFld (Addr.ARB_LIM_ACT 15) 0 10 500).fld (Addr.MCH_LFSR 15) 0 32)) 32, by unfold Quiet; decide +kernel⟩,
   ⟨r, 0x8001, by unfold Quiet; decide +kernel⟩,
   ⟨r, 0, by unfold Quiet; decide +kernel⟩,
   ⟨arbO 15 { arbReset with transit := 1 }, 15, (arbO 15 { arbReset with transit := 1 }).rd (Addr.ARB_TKT0 15), (arbO 15 { arbReset with transit := 1 }).rd (Addr.ARB_TKT1 15), (arbO 15 { arbReset with transit := 1 }).rd (Addr.ARB_TKT2 15), (arbO 15 { arbReset with transit := 1 }).rd (Addr.ARB_LIM 15), by unfold Quiet; decide +kernel⟩,
   ⟨(arbO 15 { arbReset with transit := 1 })|>.setFld (Addr.ARB_LIM 15) 0 10 5 |>.setFld Addr.ARB_BOUND_LIM 0 10 4, 15, ((arbO 15 { arbReset with transit := 1 })|>.setFld (Addr.ARB_LIM 15) 0 10 5 |>.setFld Addr.ARB_BOUND_LIM 0 10 4).rd (Addr.ARB_TKT0 15), ((arbO 15 { arbReset with transit := 1 })|>.setFld (Addr.ARB_LIM 15) 0 10 5 |>.setFld Addr.ARB_BOUND_LIM 0 10 4).rd (Addr.ARB_TKT1 15), ((arbO 15 { arbReset with transit := 1 })|>.setFld (Addr.ARB_LIM 15) 0 10 5 |>.setFld Addr.ARB_BOUND_LIM 0 10 4).rd (Addr.ARB_TKT2 15), ((arbO 15 { arbReset with transit := 1 })|>.setFld (Addr.ARB_LIM 15) 0 10 5 |>.setFld Addr.ARB_BOUND_LIM 0 10 4).rd (Addr.ARB_LIM 15), by unfold Quiet; decide +kernel⟩,
   ⟨r, 15, by unfold Quiet; decide +kernel⟩,
   ⟨(arbO 15 { arbReset with owner := some 21 }).setFld (Addr.ARB_LIM_ACT 15) 16 16 5, 15, 21, by unfold Quiet; decide +kernel⟩,
   ⟨r, 15, by unfold Quiet; decide +kernel⟩,
   ⟨r, 15, by unfold Quiet; decide +kernel⟩,
   ⟨(r.setFld (Addr.MCH_SCRUB 15) 0 1 1).setFld (Addr.MCH_SCRUB_POS 15) 0 32 7, 15, 7, by unfold Quiet; decide +kernel⟩,
   ⟨(r.setFld (Addr.MCH_SCRUB 15) 0 1 1).setFld (Addr.MCH_SCRUB_POS 15) 0 32 7, 15, 7, packageLine 15 7, by unfold Quiet; decide +kernel⟩,
   ⟨r.setFld (Addr.MCH_SCRUB 15) 0 1 0, 15, by unfold Quiet; decide +kernel⟩,
   ⟨r, by unfold Quiet; decide +kernel⟩,
   ⟨r.setFld Addr.FC_CTRL 0 1 1, by unfold Quiet; decide +kernel⟩,
   ⟨r.setFld Addr.FC_CTRL 0 1 0, by unfold Quiet; decide +kernel⟩⟩

theorem witness_RegisterWrites :
    (∃ (s : State) (src : Nat) (val : Word), Quiet s ∧ src < 105 ∧ val.toNat % 8 ≤ 4) ∧
    (∃ (s : State) (src : Nat) (val : Word), Quiet s ∧ src < 105 ∧ 4 < val.toNat % 8) ∧
    (∃ (s : State) (src : Nat), Quiet s ∧ src < 105) ∧
    (∃ (s : State) (src : Nat), Quiet s ∧ src < 105 ∧ s.lcState = 2) ∧
    (∃ (s : State) (src : Nat) (val : Word), Quiet s ∧ src < 105 ∧ s.lcState ≠ 2 ∧ 100 ≤ val.toNat % 2 ^ 20 ∧ val.toNat % 2 ^ 20 ≤ 1000000) ∧
    (∃ (s : State) (src a : Nat), Quiet s ∧ src < 105 ∧ 0xF0007000000 ≤ a ∧ a < 0xF0008000000 ∧ a % 8 = 0 ∧ regFind a = none) ∧
    (∃ (s : State), Quiet s) ∧
    (∃ (s : State) (unit : BitVec 8), Quiet s ∧ 104 ≤ unit.toNat) ∧
    (∃ (s : State) (b : Nat) (unit : BitVec 8), Quiet s ∧ unit.toNat < 104 ∧ (s.pair unit.toNat).run = some b) :=
  ⟨⟨r, 104, 4, by unfold Quiet; decide +kernel⟩,
   ⟨r, 104, 5, by unfold Quiet; decide +kernel⟩,
   ⟨r.setBit Addr.EVD_ERR 4, 0, by unfold Quiet; decide +kernel⟩,
   ⟨r.setFld Addr.SEC_LC 0 3 2, 96, by unfold Quiet; decide +kernel⟩,
   ⟨r, 96, 100, by unfold Quiet; decide +kernel⟩,
   ⟨r, 96, 0xF0007FFFFF8, by unfold Quiet; decide +kernel⟩,
   ⟨r.setFld (Addr.PT_OVCNT 3) 0 8 7, by unfold Quiet; decide +kernel⟩,
   ⟨r, 104, by unfold Quiet; decide +kernel⟩,
   ⟨(bankA .running).updPair 0 (fun v => { v with run := some 2 }), 2, 0, by unfold Quiet; decide +kernel⟩⟩

theorem witness_BootAndSupervision :
    (∃ (s : State), Quiet s ∧ s.pwr.closed = true ∧ s.pwrState = 0) ∧
    (∃ (s : State), Quiet s ∧ (s.pwr.closed = false ∨ s.pwrState ≠ 0)) ∧
    (∃ (s : State) (straps : BitVec 14), Quiet s ∧ s.cwl.detached = false ∧ s.bootSt.strapped = false ∧ s.stage = 0 ∧ bitsAt straps.toNat 7 2 ≠ 3 ∧ bitsAt straps.toNat 9 2 ≠ 3) ∧
    (∃ (s : State) (ok : BitVec 7), Quiet s ∧ s.cwl.detached = false ∧ s.bootSt.strapped = false ∧ s.stage = 0 ∧ ok.getLsbD 1 = false) ∧
    (∃ (s : State), Quiet s ∧ (s.bootSt.strapped = true ∨ s.stage ≠ 0)) ∧
    (∃ (s : State) (failS : BitVec 8), Quiet s ∧ failS.getLsbD 0 = false ∧ (s.pair 96).failed = false ∧ s.stage = 0 ∧ s.bootSt.strapped = true ∧ failS.toNat / 2 % 8 = 0) ∧
    (∃ (s : State) (failS : BitVec 8), Quiet s ∧ failS.getLsbD 0 = false ∧ (s.pair 96).failed = false ∧ s.stage = 0 ∧ s.bootSt.strapped = true ∧ failS.toNat / 2 % 8 ≠ 0) ∧
    (∃ (s : State), Quiet s ∧ s.stage = 1 ∧ s.lcState < 3) ∧
    (∃ (s : State), Quiet s ∧ s.stage = 1 ∧ 3 ≤ s.lcState) ∧
    (∃ (s : State) (fail : BitVec 16), Quiet s ∧ s.stage = 1 ∧ fail ≠ 0) ∧
    (∃ (s : State), Quiet s ∧ s.stage ≠ 1) ∧
    (∃ (s : State) (rs1 rs2 : List (Nat × Nat × List Byte)), Quiet s ∧ s.stage = 2 ∧ s.fld Addr.SEN_STRAP 7 2 ≠ 2 ∧ rs1 = s.checkSet (s.fld Addr.SEN_STRAP 7 2 == 1) ∧ rs2 = s.checkSet (!(s.fld Addr.SEN_STRAP 7 2 == 1))) ∧
    (∃ (s : State), Quiet s ∧ s.stage = 2 ∧ s.fld Addr.SEN_STRAP 7 2 = 2) ∧
    (∃ (s : State) (val : Word) (k : Nat) (img : Image), Quiet s ∧ k = bitsAt val.toNat 0 3 ∧ k ≠ 0 ∧ s.bootSt.images.find? (fun i => i.slot == k) = some img ∧ (s.pair (96 + k)).failed = false ∧ ((s.pair (96 + k)).started = false ∨ (s.pair (96 + k)).halt.isSome = true) ∧ s.tally.chans = [] ∧ s.latent = []) ∧
    (∃ (s : State) (val : Word), Quiet s ∧ bitsAt val.toNat 0 3 = 0) ∧
    (∃ (s : State) (val : Word) (k : Nat), Quiet s ∧ k = bitsAt val.toNat 0 3 ∧ k ≠ 0 ∧ (s.bootSt.images.find? (fun i => i.slot == k) = none ∨ (s.pair (96 + k)).failed = true ∨ ((s.pair (96 + k)).started = true ∧ (s.pair (96 + k)).halt = none))) ∧
    (∃ (s : State), Quiet s ∧ s.stage = 3) ∧
    (∃ (s : State), Quiet s ∧ s.stage ≠ 3) ∧
    (∃ (s : State) (straps : BitVec 14), Quiet s ∧ s.bootSt.strapped = true ∧ s.sentinelUp 99 = true ∧ straps.toNat ≠ s.fld Addr.SEN_STRAP 0 14) ∧
    (∃ (s : State) (straps : BitVec 14), Quiet s ∧ (s.bootSt.strapped = false ∨ s.sentinelUp 99 = false ∨ straps.toNat = s.fld Addr.SEN_STRAP 0 14)) ∧
    (∃ (s : State), Quiet s ∧ s.sentinelUp 97 = true) ∧
    (∃ (s : State) (v : Nat), Quiet s ∧ s.sentinelUp 97 = true ∧ (polGet s.keys.policy 0x36 2 ≤ v ∨ v = 0) ∧ v ≠ s.fld Addr.JRN_BP 0 16) ∧
    (∃ (s : State), Quiet s ∧ s.sentinelUp 97 = false) ∧
    (∃ (s : State) (q : Nat) (w : Word × Word) (ws : List (Word × Word)), Quiet s ∧ q < 8 ∧ (q ≠ 3 ∨ s.sentinelUp 99 = false) ∧ s.queue q = w :: ws) ∧
    (∃ (s : State) (q : Nat), Quiet s ∧ q < 8 ∧ s.queue q = []) ∧
    (∃ (s : State), Quiet s) ∧
    (∃ (s : State) (failS : BitVec 8), Quiet s ∧ s.stage = 0 ∧ failS.getLsbD 0 = true) ∧
    (∃ (s : State) (w : Word × Word) (ws : List (Word × Word)), Quiet s ∧ s.sentinelUp 99 = true ∧ s.queue 3 = w :: ws) :=
  ⟨⟨pw 0, by unfold Quiet; decide +kernel⟩,
   ⟨opened r, by unfold Quiet; decide +kernel⟩,
   ⟨r, 0x1F, by unfold Quiet; decide +kernel⟩,
   ⟨r, 0x7D, by unfold Quiet; decide +kernel⟩,
   ⟨stg 6, by unfold Quiet; decide +kernel⟩,
   ⟨strp r, 0x10, by unfold Quiet; decide +kernel⟩,
   ⟨strp r, 0x0E, by unfold Quiet; decide +kernel⟩,
   ⟨stg 1, by unfold Quiet; decide +kernel⟩,
   ⟨(stg 1).setFld Addr.SEC_LC 0 3 4, by unfold Quiet; decide +kernel⟩,
   ⟨stg 1, 0x8000, by unfold Quiet; decide +kernel⟩,
   ⟨r, by unfold Quiet; decide +kernel⟩,
   ⟨stg 2, (stg 2).checkSet ((stg 2).fld Addr.SEN_STRAP 7 2 == 1), (stg 2).checkSet (!((stg 2).fld Addr.SEN_STRAP 7 2 == 1)), by unfold Quiet; decide +kernel⟩,
   ⟨(stg 2).setFld Addr.SEN_STRAP 7 2 2, by unfold Quiet; decide +kernel⟩,
   ⟨imgs r, 2, 2, img2, by unfold Quiet; decide +kernel⟩,
   ⟨r, 8, by unfold Quiet; decide +kernel⟩,
   ⟨r, 7, 7, by unfold Quiet; decide +kernel⟩,
   ⟨stg 3, by unfold Quiet; decide +kernel⟩,
   ⟨stg 2, by unfold Quiet; decide +kernel⟩,
   ⟨strp (up r 99), 0x7F, by unfold Quiet; decide +kernel⟩,
   ⟨r, 0, by unfold Quiet; decide +kernel⟩,
   ⟨up r 97, by unfold Quiet; decide +kernel⟩,
   ⟨up r 97, 9000, by unfold Quiet; decide +kernel⟩,
   ⟨r, by unfold Quiet; decide +kernel⟩,
   ⟨nq 7, 7, (((nq 7).queue 7).head?.getD (0, 0)), [], by unfold Quiet; decide +kernel⟩,
   ⟨r, 7, by unfold Quiet; decide +kernel⟩,
   ⟨r, by unfold Quiet; decide +kernel⟩,
   ⟨r, 1, by unfold Quiet; decide +kernel⟩,
   ⟨up (nq 3) 99, (((up (nq 3) 99).queue 3).head?.getD (0, 0)), [], by unfold Quiet; decide +kernel⟩⟩

theorem witness_PowerClocksAndHotPlug :
    (∃ (s : State), Quiet s ∧ s.pwr.closed = false ∧ s.pwr.failed < 3 ∧ (s.pwrState ≠ 5 ∨ s.pwr.loss = 1 ∨ s.fld Addr.PWR_STATUS 5 1 = 0)) ∧
    (∃ (s : State), Quiet s ∧ s.pwr.closed = true ∧ s.pwrState = 0) ∧
    (∃ (s : State), Quiet s ∧ (s.pwr.closed = false ∨ s.pwrState ≠ 0)) ∧
    (∃ (s : State), Quiet s ∧ s.pwr.closed = false ∧ s.pwrState = 0 ∧ 0 < s.pwr.failed ∧ s.pwr.failed < 3 ∧ s.fld Addr.PWR_STATUS 5 1 = 1) ∧
    (∃ (s : State), Quiet s ∧ 3 ≤ s.pwr.failed) ∧
    (∃ (s : State), Quiet s ∧ (s.pwrState = 1 ∨ s.pwrState = 3)) ∧
    (∃ (s : State), Quiet s ∧ s.pwrState = 5) ∧
    (∃ (s : State) (n : Nat), Quiet s ∧ s.pwrState = 5 ∧ s.keys.shutdown = some n) ∧
    (∃ (s : State), Quiet s ∧ s.pwrState ≠ 5) ∧
    (∃ (s : State), Quiet s ∧ s.pwrState = 5 ∧ s.pwr.loss ≠ 1 ∧ s.recentTrips < 3 ∧ s.fld Addr.PWR_STATUS 5 1 = 1 ∧ s.pwr.closed = false) ∧
    (∃ (s : State), Quiet s ∧ (s.pwrState ≠ 5 ∨ s.pwr.loss = 1 ∨ 3 ≤ s.recentTrips)) ∧
    (∃ (s : State), Quiet s) ∧
    (∃ (s : State) (mv : Nat), Quiet s ∧ mv < s.fld Addr.PWR_CTRL 0 16 ∧ s.pwr.trigger = 0 ∧ s.pwrState = 1) ∧
    (∃ (s : State) (mv : Nat), Quiet s ∧ s.fld Addr.PWR_CTRL 0 16 ≤ mv) ∧
    (∃ (s : State), Quiet s ∧ s.pwr.trigger = 0 ∧ s.pwrState = 1 ∧ s.fld Addr.SEN_BOOT 0 4 = 5) ∧
    (∃ (s : State), Quiet s ∧ s.pwrState = 1 ∧ s.fld Addr.SEN_BOOT 0 4 ≠ 5) ∧
    (∃ (s : State), Quiet s ∧ s.pwr.trigger = 0 ∧ s.pwrState = 1) ∧
    (∃ (s : State), Quiet s ∧ (s.pwr.trigger ≠ 0 ∨ s.pwrState ≠ 1)) ∧
    (∃ (s : State), Quiet s ∧ s.fld Addr.PWR_STATUS 4 1 = 1) ∧
    (∃ (s : State), Quiet s ∧ s.fld Addr.PWR_STATUS 4 1 = 0) ∧
    (∃ (s : State), Quiet s ∧ s.pwr.trigger ≠ 0 ∧ s.pwr.ctxDone = false) ∧
    (∃ (s : State), Quiet s ∧ (s.pwr.trigger = 0 ∨ s.pwr.ctxDone = true)) ∧
    (∃ (s : State), Quiet s ∧ s.pwr.trigger ≠ 0 ∧ s.pwrState = 3 ∧ s.pwr.ctxDone = false ∧ s.ctxLeft = false) ∧
    (∃ (s : State), Quiet s ∧ s.pwr.trigger ≠ 0 ∧ s.pwrState = 3 ∧ s.pwr.ctxDone = true ∧ s.drainDone = true) ∧
    (∃ (s : State), Quiet s ∧ (s.pwr.trigger = 0 ∨ s.pwrState ≠ 3)) ∧
    (∃ (s : State) (mj : Nat), Quiet s ∧ 1500 ≤ mj ∧ (∀ x ∈ s.jrn.ring, x.dur = true)) ∧
    (∃ (s : State) (mj : Nat), Quiet s ∧ mj < 1500) ∧
    (∃ (s : State) (rail : Nat), Quiet s ∧ rail < 16) ∧
    (∃ (s : State) (k : Nat), Quiet s ∧ k < 3) ∧
    (∃ (s : State), Quiet s ∧ s.pwrState = 0) ∧
    (∃ (s : State), Quiet s ∧ (s.pwrState = 2 ∨ s.pwrState = 4)) :=
  ⟨⟨opened r, by unfold Quiet; decide +kernel⟩,
   ⟨pw 0, by unfold Quiet; decide +kernel⟩,
   ⟨r.setFld Addr.PWR_STATUS 7 1 1, by unfold Quiet; decide +kernel⟩,
   ⟨let t := opened ((pw 0).setFld Addr.PWR_STATUS 5 1 1); { t with pwr := { t.pwr with failed := 2 } }, by unfold Quiet; decide +kernel⟩,
   ⟨{ r with pwr := { r.pwr with failed := 3 } }, by unfold Quiet; decide +kernel⟩,
   ⟨(pw 1).setFld Addr.PWR_STATUS 7 1 1, by unfold Quiet; decide +kernel⟩,
   ⟨pw 5, by unfold Quiet; decide +kernel⟩,
   ⟨let t := pw 5; { t with keys := { t.keys with shutdown := some (4 + 256 * 2) } }, 4 + 256 * 2, by unfold Quiet; decide +kernel⟩,
   ⟨pw 1, by unfold Quiet; decide +kernel⟩,
   ⟨let t := opened ((pw 5).setFld Addr.PWR_STATUS 5 1 1); ({ t with pwr := { t.pwr with loss := 2, trips := [0, 0] } }).setFld Addr.PWR_VIN 0 32 9500, by unfold Quiet; decide +kernel⟩,
   ⟨r, by unfold Quiet; decide +kernel⟩,
   ⟨r, by unfold Quiet; decide +kernel⟩,
   ⟨(pw 1).setFld Addr.PWR_CTRL 0 16 11000, 10999, by unfold Quiet; decide +kernel⟩,
   ⟨r.setFld Addr.PWR_CTRL 0 16 11000, 11000, by unfold Quiet; decide +kernel⟩,
   ⟨(pw 1).setFld Addr.SEN_BOOT 0 4 5, by unfold Quiet; decide +kernel⟩,
   ⟨pw 1, by unfold Quiet; decide +kernel⟩,
   ⟨pw 1, by unfold Quiet; decide +kernel⟩,
   ⟨pw 2, by unfold Quiet; decide +kernel⟩,
   ⟨r.setFld Addr.PWR_STATUS 4 1 1, by unfold Quiet; decide +kernel⟩,
   ⟨r, by unfold Quiet; decide +kernel⟩,
   ⟨trig 1 false r, by unfold Quiet; decide +kernel⟩,
   ⟨r, by unfold Quiet; decide +kernel⟩,
   ⟨trig 1 false (pw 3), by unfold Quiet; decide +kernel⟩,
   ⟨trig 1 true ((pw 3).setFld Addr.JRN_STATUS 0 3 2), by unfold Quiet; decide +kernel⟩,
   ⟨r, by unfold Quiet; decide +kernel⟩,
   ⟨r, 1500, by unfold Quiet; decide +kernel⟩,
   ⟨r, 1499, by unfold Quiet; decide +kernel⟩,
   ⟨r, 15, by unfold Quiet; decide +kernel⟩,
   ⟨r, 2, by unfold Quiet; decide +kernel⟩,
   ⟨pw 0, by unfold Quiet; decide +kernel⟩,
   ⟨pw 4, by unfold Quiet; decide +kernel⟩⟩

theorem witness_AlarmsDebugAndHold :
    (∃ (s : State), Quiet s ∧ s.fld Addr.SEC_DBG 0 1 = 1) ∧
    (∃ (s : State), Quiet s ∧ s.fld Addr.SEC_DBG 0 1 = 0) ∧
    (∃ (s : State), Quiet s) ∧
    (∃ (s : State) (pa r : Nat) (wr : Bool), Quiet s ∧ s.dbgRule pa wr = some r) ∧
    (∃ (s : State) (pa : Nat), Quiet s ∧ s.dbgRule pa false = none ∧ pa < 2 ^ 41 ∧ s.tally.chans = [] ∧ s.latent = []) ∧
    (∃ (s : State) (pa : Nat), Quiet s ∧ s.dbgRule pa true = none ∧ pa + 8 ≤ 2 ^ 41 ∧ s.tally.chans = [] ∧ s.latent = []) ∧
    (∃ (s : State), Quiet s ∧ s.dbgRule Addr.SEC_LC false = none) ∧
    (∃ (s : State) (pa : Nat), Quiet s ∧ s.dbgPairs = true ∧ pa < 104) ∧
    (∃ (s : State) (pa : Nat), Quiet s ∧ s.dbgPairs = true ∧ s.dbgHaltOf pa = 1) ∧
    (∃ (s : State) (pa : Nat) (val : Word), Quiet s ∧ s.dbgPairs = true ∧ s.dbgHaltOf pa ≠ 0 ∧ val.toNat < 32) ∧
    (∃ (s : State) (fn : Nat), Quiet s ∧ s.dbgPairs = false ∧ 1 ≤ fn ∧ fn ≤ 4) ∧
    (∃ (s : State) (c : Nat), Quiet s ∧ c < 8 ∧ c ≠ 6 ∧ s.lcState ≠ 4 ∧ s.almPol c = 0 ∧ (s.rd Addr.SEC_ALM_ACT).getLsbD c = false) ∧
    (∃ (s : State) (c : Nat), Quiet s ∧ c < 8 ∧ s.lcState ≠ 4 ∧ s.almPol c ≠ 0 ∧ (s.rd Addr.SEC_ALM_ACT).getLsbD c = false) ∧
    (∃ (s : State) (c : Nat), Quiet s ∧ c < 8 ∧ (s.rd Addr.SEC_ALM_ACT).getLsbD c = true) ∧
    (∃ (s : State), Quiet s ∧ s.sec.erase = true ∧ s.jState ≠ 3 ∧ s.jState ≠ 5) ∧
    (∃ (s : State), Quiet s ∧ s.sec.erase = false) ∧
    (∃ (s : State), Quiet s ∧ (s.jrn.isOpen = false ∨ s.rd Addr.SEC_ALM_ACT = 0)) ∧
    (∃ (s : State) (c : Nat), Quiet s ∧ c < 8) ∧
    (∃ (s : State) (fn : Nat), Quiet s ∧ 6 ≤ fn) :=
  ⟨⟨dbgOn, by unfold Quiet; decide +kernel⟩,
   ⟨r, by unfold Quiet; decide +kernel⟩,
   ⟨{ r with sec := { r.sec with challenge := some ([1], 0) } }, by unfold Quiet; decide +kernel⟩,
   ⟨r, 0x1000, 3, false, by unfold Quiet; decide +kernel⟩,
   ⟨dbgReg, 0x1000, by unfold Quiet; decide +kernel⟩,
   ⟨dbgReg, 0x1000, by unfold Quiet; decide +kernel⟩,
   ⟨dbgOn, by unfold Quiet; decide +kernel⟩,
   ⟨dbgOn, 103, by unfold Quiet; decide +kernel⟩,
   ⟨{ dbgOn with sec := { dbgOn.sec with dbgHalt := [(5, 1)] } }, 5, by unfold Quiet; decide +kernel⟩,
   ⟨{ dbgOn with sec := { dbgOn.sec with dbgHalt := [(5, 1)] } }, 5, 31, by unfold Quiet; decide +kernel⟩,
   ⟨r, 4, by unfold Quiet; decide +kernel⟩,
   ⟨r.setFld Addr.SEC_ALM_POL 0 16 0, 7, by unfold Quiet; decide +kernel⟩,
   ⟨r.setFld Addr.SEC_ALM_POL 0 16 0xFFFF, 7, by unfold Quiet; decide +kernel⟩,
   ⟨r.wr Addr.SEC_ALM_ACT 0x80, 7, by unfold Quiet; decide +kernel⟩,
   ⟨{ r with sec := { r.sec with erase := true } }, by unfold Quiet; decide +kernel⟩,
   ⟨r, by unfold Quiet; decide +kernel⟩,
   ⟨r, by unfold Quiet; decide +kernel⟩,
   ⟨r.wr Addr.SEC_ALM_RAW 0x80, 7, by unfold Quiet; decide +kernel⟩,
   ⟨r, 6, by unfold Quiet; decide +kernel⟩⟩

theorem witness_JournalSequencesAndSeals :
    (∃ (s : State) (seq hl : Nat) (pl : List Byte) (r : JReq) (rest : List JReq), Quiet s ∧ s.jrn.queue = r :: rest ∧ s.turn r = .go ∧ seq = (s.rd Addr.JRN_HEAD_SEQ).toNat + 1 ∧ seq < 2 ^ 64 - 2 ∧ pl = finalPayload s seq r ∧ hl = 32 + s.jrn.headH.length) ∧
    (∃ (s : State) (p b t gen n cd : Nat) (r : JReq) (rest : List JReq), Quiet s ∧ s.jrn.queue = r :: rest ∧ s.turn r = .status n ∧ r.issuer = .bank p b t gen ∧ (s.pair p).halt = none ∧ (s.bank p b).task.getD 0 = t ∧ (s.pair p).gen = gen ∧ (s.bank p b).st = .waiting ∧ (s.bank p b).waitCd = some cd ∧ 1 ≤ cd) ∧
    (∃ (s : State) (r : JReq) (rest : List JReq), Quiet s ∧ s.jrn.queue = r :: rest ∧ s.turn r = .forward) ∧
    (∃ (s : State), Quiet s ∧ s.jrn.queue = []) ∧
    (∃ (s : State) (seq hl : Nat) (g : Signing), Quiet s ∧ s.jrn.signing = some g ∧ s.signs = true ∧ s.jrnRoom 152 = true ∧ seq = (s.rd Addr.JRN_HEAD_SEQ).toNat + 1 ∧ seq < 2 ^ 64 - 2 ∧ hl = 32 + s.jrn.headH.length) ∧
    (∃ (s : State), Quiet s ∧ s.jrn.signing = none) ∧
    (∃ (s : State) (e : JEntry), Quiet s ∧ s.jrn.ring = [e] ∧ e.loc = false ∧ e.dur = false ∧ e.sync = false ∧ e.issuers = [] ∧ e.skip = 0 ∧ s.jState ≠ 3 ∧ s.jrn.halted = false ∧ s.cwl.detached = false) ∧
    (∃ (s : State) (p b t gen cd : Nat) (e : JEntry), Quiet s ∧ s.jrn.ring = [e] ∧ e.loc = false ∧ e.dur = false ∧ e.sync = false ∧ e.issuers = [.bank p b t gen] ∧ s.jState ≠ 3 ∧ s.jrn.halted = false ∧ s.cwl.detached = false ∧ (s.pair p).gen = gen ∧ (s.pair p).halt = none ∧ (s.bank p b).task.getD 0 = t ∧ (s.bank p b).st = .waiting ∧ (s.bank p b).waitCd = some cd ∧ 1 ≤ cd) ∧
    (∃ (s : State), Quiet s ∧ s.jrn.ring = [] ∧ s.jState = 3) ∧
    (∃ (s : State), Quiet s) ∧
    (∃ (s : State), Quiet s ∧ s.jrn.opening = false ∧ s.jrn.halted = false ∧ s.jrn.isOpen = false ∧ s.bootSt.closed = true ∧ s.lcState < 3 ∧ s.jState = 0 ∧ s.keys.recovered = none ∧ s.keys.finalSeq < 2 ^ 64 - 2 ∧ (∀ x ∈ s.jrn.ring, x.seq < 2 ^ 64 - 2) ∧ s.cwl.detached = false) ∧
    (∃ (s : State), Quiet s ∧ (s.jrn.opening = true ∨ s.bootSt.closed = false ∨ 3 ≤ s.lcState ∨ s.jState ≠ 0)) ∧
    (∃ (s : State), Quiet s ∧ s.jrn.signing = none ∧ s.signs = true ∧ s.jState < 2 ∧ s.rd Addr.JRN_HEAD_SEQ ≠ 0) ∧
    (∃ (s : State), Quiet s ∧ s.jrn.signing.isSome = true ∧ s.standby = false ∧ s.jrn.halted = false ∧ s.jState < 2) ∧
    (∃ (s : State) (p : Nat) (val : Word), Quiet s ∧ p < 104 ∧ s.lcState ≠ 2 ∧ bitsAt val.toNat 0 2 < 3 ∧ 1 ≤ bitsAt val.toNat 8 16 ∧ bitsAt val.toNat 0 3 ≠ s.fld Addr.JRN_REPL 0 3) ∧
    (∃ (s : State) (p : Nat), Quiet s ∧ p < 104 ∧ s.lcState = 2) ∧
    (∃ (s : State) (e : JEntry), Quiet s ∧ s.fld Addr.JRN_LOOKUP_RES 62 1 = 1 ∧ s.jrn.ring.find? (fun x => x.seq == (s.rd Addr.JRN_LOOKUP).toNat && x.dur && s.inRing x) = some e) ∧
    (∃ (s : State), Quiet s ∧ s.fld Addr.JRN_LOOKUP_RES 62 1 = 1 ∧ s.jrn.ring.find? (fun x => x.seq == (s.rd Addr.JRN_LOOKUP).toNat && x.dur && s.inRing x) = none) ∧
    (∃ (s : State), Quiet s ∧ s.fld Addr.JRN_LOOKUP_RES 62 1 = 0) ∧
    (∃ (s : State), Quiet s ∧ (s.standby = true ∨ s.jrn.halted = true ∨ 2 ≤ s.jState)) :=
  ⟨⟨jopen (jq r [rq .none]), 1, 64, finalPayload (jopen (jq r [rq .none])) 1 (rq .none), rq .none, [], by unfold Quiet; decide +kernel⟩,
   ⟨(jopen (jq waitA [⟨1, 0, [1], .bank 0 2 7 0⟩])).setFld Addr.JRN_STATUS 0 3 2, 0, 2, 7, 0, 7, 31, ⟨1, 0, [1], .bank 0 2 7 0⟩, [], by unfold Quiet; decide +kernel⟩,
   ⟨(jq (jopen ((r.setFld Addr.JRN_REPL_STATUS 0 1 1).setFld Addr.CWL_STATUS 0 2 1)) [rq .none]), rq .none, [], by unfold Quiet; decide +kernel⟩,
   ⟨r, by unfold Quiet; decide +kernel⟩,
   ⟨sigS (jopen r), 1, 64, sigA, by unfold Quiet; decide +kernel⟩,
   ⟨r, by unfold Quiet; decide +kernel⟩,
   ⟨jring r [je 1 []], je 1 [], by unfold Quiet; decide +kernel⟩,
   ⟨jring waitA [je 1 [.bank 0 2 7 0]], 0, 2, 7, 0, 31, je 1 [.bank 0 2 7 0], by unfold Quiet; decide +kernel⟩,
   ⟨r.setFld Addr.JRN_STATUS 0 3 3, by unfold Quiet; decide +kernel⟩,
   ⟨r, by unfold Quiet; decide +kernel⟩,
   ⟨{ r with bootSt := { r.bootSt with closed := true } }, by unfold Quiet; decide +kernel⟩,
   ⟨r, by unfold Quiet; decide +kernel⟩,
   ⟨jopen (r.wr Addr.JRN_HEAD_SEQ 1), by unfold Quiet; decide +kernel⟩,
   ⟨sigS r, by unfold Quiet; decide +kernel⟩,
   ⟨r, 103, 0x107 - 3, by unfold Quiet; decide +kernel⟩,
   ⟨r.setFld Addr.SEC_LC 0 3 2, 0, by unfold Quiet; decide +kernel⟩,
   ⟨jring ((r.wr Addr.JRN_LOOKUP 1).wr Addr.JRN_LOOKUP_RES (BitVec.ofNat 64 (2^62))) [{ je 1 [] with dur := true }], { je 1 [] with dur := true }, by unfold Quiet; decide +kernel⟩,
   ⟨(r.wr Addr.JRN_LOOKUP 1).wr Addr.JRN_LOOKUP_RES (BitVec.ofNat 64 (2^62)), by unfold Quiet; decide +kernel⟩,
   ⟨r, by unfold Quiet; decide +kernel⟩,
   ⟨r.setFld Addr.JRN_STATUS 0 3 3, by unfold Quiet; decide +kernel⟩⟩

theorem witness_JournalReplicatesAndDrains :
    (∃ (s : State) (e : JEntry), Quiet s ∧ s.standby = false ∧ s.jrn.joined = true ∧ s.linkUp = true ∧ s.fld Addr.CWL_STATUS 2 1 = 1 ∧ s.jrn.mode ≠ 0 ∧ s.jrn.ring.find? (fun x => x.loc && decide (s.jrn.sent < x.seq)) = some e) ∧
    (∃ (s : State), Quiet s ∧ (s.standby = true ∨ s.linkUp = false ∨ s.jrn.mode = 0)) ∧
    (∃ (s : State) (val : Word) (body : List Byte), Quiet s ∧ s.standby = true ∧ s.jrn.halted = false ∧ s.fld Addr.JRN_REPL_STATUS 1 3 ≠ 4 ∧ s.jrn.rejoin = false ∧ s.jrn.inbox = [] ∧ val.toNat = (s.rd Addr.JRN_HEAD_SEQ).toNat + 1 ∧ (body.drop 32).take 32 = s.jrn.headH ∧ 64 ≤ body.length ∧ s.jrnRoom (body.length - 64) = true ∧ val.toNat < 2 ^ 64 - 2 ∧ s.cwl.detached = false) ∧
    (∃ (s : State) (val : Word) (body : List Byte), Quiet s ∧ s.standby = true ∧ s.jrn.halted = false ∧ s.fld Addr.JRN_REPL_STATUS 1 3 ≠ 4 ∧ s.jrn.rejoin = false ∧ s.jrn.inbox = [] ∧ (s.rd Addr.JRN_HEAD_SEQ).toNat < val.toNat ∧ (val.toNat ≠ (s.rd Addr.JRN_HEAD_SEQ).toNat + 1 ∨ (body.drop 32).take 32 ≠ s.jrn.headH)) ∧
    (∃ (s : State), Quiet s ∧ (s.standby = false ∨ s.fld Addr.JRN_REPL_STATUS 1 3 = 4) ∧ s.jrn.inbox = []) ∧
    (∃ (s : State) (val : Word), Quiet s ∧ s.standby = false ∧ (s.rd Addr.JRN_PACK_SEQ).toNat < val.toNat ∧ val.toNat ≤ s.jrn.sent) ∧
    (∃ (s : State) (val : Word), Quiet s ∧ (s.standby = true ∨ val.toNat ≤ (s.rd Addr.JRN_PACK_SEQ).toNat ∨ s.jrn.sent < val.toNat)) ∧
    (∃ (s : State), Quiet s ∧ s.standby = false ∧ (s.rd Addr.JRN_PACK_SEQ).toNat < s.jrn.sent ∧ s.jrn.mode = 2 ∧ s.fld Addr.JRN_REPL 2 1 = 1 ∧ s.jrn.queue = []) ∧
    (∃ (s : State), Quiet s ∧ s.standby = false ∧ (s.rd Addr.JRN_PACK_SEQ).toNat < s.jrn.sent ∧ (s.jrn.mode ≠ 2 ∨ s.fld Addr.JRN_REPL 2 1 = 0) ∧ s.fld Addr.JRN_REPL_STATUS 1 3 ≠ 5) ∧
    (∃ (s : State), Quiet s ∧ s.jrn.sent ≤ (s.rd Addr.JRN_PACK_SEQ).toNat ∧ s.jState ≠ 2) ∧
    (∃ (s : State) (port : Nat) (e : JEntry) (es : List JEntry), Quiet s ∧ s.fld Addr.JRN_CTRL 1 1 = 1 ∧ port = s.fld Addr.JRN_ARCH_CFG 0 2 ∧ s.fld Addr.NET_STATUS port 1 = 1 ∧ es = drainTake s.drains (s.fld Addr.JRN_ARCH_CFG 24 14) (nextSeq (s.rd Addr.JRN_DRAIN_SEQ).toNat s.jrn.ring) 0 s.jrn.ring ∧ es.getLast? = some e) ∧
    (∃ (s : State), Quiet s ∧ (s.fld Addr.JRN_CTRL 1 1 = 0 ∨ s.fld Addr.NET_STATUS (s.fld Addr.JRN_ARCH_CFG 0 2) 1 = 0)) ∧
    (∃ (s : State) (seq : Nat) (body : List Byte), Quiet s ∧ seq = bytesNat ((body.drop 16).take 8) ∧ s.jrn.inbox = []) ∧
    (∃ (s : State), Quiet s ∧ (s.rd Addr.JRN_ARCH_SEQ).toNat < (s.rd Addr.JRN_DRAIN_SEQ).toNat) ∧
    (∃ (s : State), Quiet s ∧ (s.rd Addr.JRN_DRAIN_SEQ).toNat ≤ (s.rd Addr.JRN_ARCH_SEQ).toNat) ∧
    (∃ (s : State), Quiet s ∧ s.jrn.sent ≤ (s.rd Addr.JRN_PACK_SEQ).toNat ∧ s.jState = 2) :=
  ⟨⟨let t := jring ((r.setFld Addr.CWL_STATUS 0 2 3).setFld Addr.CWL_STATUS 2 1 1) [{ je 1 [] with loc := true }]; { t with jrn := { t.jrn with mode := 2, joined := true } }, { je 1 [] with loc := true }, by unfold Quiet; decide +kernel⟩,
   ⟨r, by unfold Quiet; decide +kernel⟩,
   ⟨r.setFld Addr.JRN_REPL_STATUS 0 1 1, 1, List.replicate 64 0, by unfold Quiet; decide +kernel⟩,
   ⟨r.setFld Addr.JRN_REPL_STATUS 0 1 1, 2, List.replicate 64 0, by unfold Quiet; decide +kernel⟩,
   ⟨r, by unfold Quiet; decide +kernel⟩,
   ⟨{ r with jrn := { r.jrn with sent := 5, mode := 2 } }, 5, by unfold Quiet; decide +kernel⟩,
   ⟨{ r with jrn := { r.jrn with sent := 5, mode := 2 } }, 6, by unfold Quiet; decide +kernel⟩,
   ⟨({ r with jrn := { r.jrn with sent := 5, mode := 2 } }).setFld Addr.JRN_REPL 2 1 1, by unfold Quiet; decide +kernel⟩,
   ⟨({ r with jrn := { r.jrn with sent := 5, mode := 2 } }).setFld Addr.JRN_REPL 2 1 0, by unfold Quiet; decide +kernel⟩,
   ⟨r, by unfold Quiet; decide +kernel⟩,
   ⟨jring (((r.setFld Addr.JRN_CTRL 1 1 1).setFld Addr.JRN_ARCH_CFG 0 2 3).setFld Addr.NET_STATUS 3 1 1) [{ je 1 [] with loc := true, dur := true }], 3, { je 1 [] with loc := true, dur := true }, drainTake (jring (((r.setFld Addr.JRN_CTRL 1 1 1).setFld Addr.JRN_ARCH_CFG 0 2 3).setFld Addr.NET_STATUS 3 1 1) [{ je 1 [] with loc := true, dur := true }]).drains ((jring (((r.setFld Addr.JRN_CTRL 1 1 1).setFld Addr.JRN_ARCH_CFG 0 2 3).setFld Addr.NET_STATUS 3 1 1) [{ je 1 [] with loc := true, dur := true }]).fld Addr.JRN_ARCH_CFG 24 14) (nextSeq ((jring (((r.setFld Addr.JRN_CTRL 1 1 1).setFld Addr.JRN_ARCH_CFG 0 2 3).setFld Addr.NET_STATUS 3 1 1) [{ je 1 [] with loc := true, dur := true }]).rd Addr.JRN_DRAIN_SEQ).toNat (jring (((r.setFld Addr.JRN_CTRL 1 1 1).setFld Addr.JRN_ARCH_CFG 0 2 3).setFld Addr.NET_STATUS 3 1 1) [{ je 1 [] with loc := true, dur := true }]).jrn.ring) 0 (jring (((r.setFld Addr.JRN_CTRL 1 1 1).setFld Addr.JRN_ARCH_CFG 0 2 3).setFld Addr.NET_STATUS 3 1 1) [{ je 1 [] with loc := true, dur := true }]).jrn.ring, by unfold Quiet; decide +kernel⟩,
   ⟨r, by unfold Quiet; decide +kernel⟩,
   ⟨r, 1, List.replicate 16 0 ++ [1,0,0,0,0,0,0,0], by unfold Quiet; decide +kernel⟩,
   ⟨r.wr Addr.JRN_DRAIN_SEQ 4, by unfold Quiet; decide +kernel⟩,
   ⟨r, by unfold Quiet; decide +kernel⟩,
   ⟨r.setFld Addr.JRN_STATUS 0 3 2, by unfold Quiet; decide +kernel⟩⟩

theorem witness_DrawUnitOperations :
    (∃ (s : State) (n cd : Nat) (r : DrawReq) (rest : List DrawReq), Quiet s ∧ s.draw.queue = r :: rest ∧ s.draw.act = none ∧ s.drwState ≠ 0 ∧ s.drawTest r = some n ∧ (s.pair r.pair).halt = none ∧ (s.pair r.pair).gen = r.gen ∧ (s.bank r.pair r.bank).task.getD 0 = r.task ∧ (s.bank r.pair r.bank).st = .waiting ∧ (s.bank r.pair r.bank).waitCd = some cd ∧ 1 ≤ cd) ∧
    (∃ (s : State) (vs : List Nat) (r : DrawReq) (rest : List DrawReq) (g : Gen) (w w0 : State), Quiet s ∧ s.draw.queue = r :: rest ∧ s.draw.act = none ∧ s.drwState ≠ 0 ∧ s.drawTest r = none ∧ w0 = ((({ s with out := [] } : State).updDraw (fun d => { d with queue := rest })).drawShow).idPend r.id ∧ drawMap r.n r.wor [] w0 genStart r.k = some (vs, w, g)) ∧
    (∃ (s : State), Quiet s ∧ (s.draw.queue = [] ∨ s.draw.act.isSome = true)) ∧
    (∃ (s : State) (n q ea cd : Nat) (vs : List Nat) (r : DrawReq), Quiet s ∧ s.draw.act = some ⟨r, vs, n, some q, true⟩ ∧ r.dst = [(ea, (vs.flatMap (natBytes 8)).length)] ∧ ea + (vs.flatMap (natBytes 8)).length ≤ 2 ^ 41 ∧ s.tally.chans = [] ∧ s.latent = [] ∧ (s.pair r.pair).halt = none ∧ (s.pair r.pair).gen = r.gen ∧ (s.bank r.pair r.bank).task.getD 0 = r.task ∧ (s.bank r.pair r.bank).st = .waiting ∧ (s.bank r.pair r.bank).waitCd = some cd ∧ 1 ≤ cd) ∧
    (∃ (s : State) (n q : Nat) (vs : List Nat) (r : DrawReq), Quiet s ∧ (s.draw.act = none ∨ s.draw.act = some ⟨r, vs, n, some q, false⟩)) ∧
    (∃ (s : State), Quiet s ∧ s.drwState = 0) ∧
    (∃ (s : State), Quiet s ∧ s.drwState ≠ 0) ∧
    (∃ (s : State), Quiet s ∧ s.drwState ≠ 3 ∧ s.drwState ≠ 4) ∧
    (∃ (s : State), Quiet s) :=
  ⟨⟨dq ((waitA.setFld Addr.DRW_STATUS 0 3 2)), 3, 31, dr, [], by unfold Quiet; decide +kernel⟩,
   ⟨(dq (waitA.setFld Addr.DRW_STATUS 0 3 1)).updDraw (fun d => { d with queue := [{ dr with n := 1 }] }), ((drawMap 1 false [] (((({ ((dq (waitA.setFld Addr.DRW_STATUS 0 3 1)).updDraw (fun d => { d with queue := [{ dr with n := 1 }] })) with out := [] } : State).updDraw (fun d => { d with queue := [] })).drawShow).idPend dr.id : State) genStart 1).map (fun x => x.1)).getD [], { dr with n := 1 }, [], ((drawMap 1 false [] (((({ ((dq (waitA.setFld Addr.DRW_STATUS 0 3 1)).updDraw (fun d => { d with queue := [{ dr with n := 1 }] })) with out := [] } : State).updDraw (fun d => { d with queue := [] })).drawShow).idPend dr.id : State) genStart 1).map (fun x => x.2.2)).getD genStart, ((drawMap 1 false [] (((({ ((dq (waitA.setFld Addr.DRW_STATUS 0 3 1)).updDraw (fun d => { d with queue := [{ dr with n := 1 }] })) with out := [] } : State).updDraw (fun d => { d with queue := [] })).drawShow).idPend dr.id : State) genStart 1).map (fun x => x.2.1)).getD ((dq (waitA.setFld Addr.DRW_STATUS 0 3 1)).updDraw (fun d => { d with queue := [{ dr with n := 1 }] })), ((({ ((dq (waitA.setFld Addr.DRW_STATUS 0 3 1)).updDraw (fun d => { d with queue := [{ dr with n := 1 }] })) with out := [] } : State).updDraw (fun d => { d with queue := [] })).drawShow).idPend dr.id, by unfold Quiet; decide +kernel⟩,
   ⟨r, by unfold Quiet; decide +kernel⟩,
   ⟨let t := waitA.setFld Addr.DRW_STATUS 0 3 1; { t with draw := { t.draw with act := some ⟨dr, [4], 0, some 9, true⟩ } }, 0, 9, 0x9000, 31, [4], dr, by unfold Quiet; decide +kernel⟩,
   ⟨r, 0, 0, [], dDrawReq, by unfold Quiet; decide +kernel⟩,
   ⟨r.setFld Addr.DRW_STATUS 0 3 0, by unfold Quiet; decide +kernel⟩,
   ⟨r.setFld Addr.DRW_STATUS 0 3 1, by unfold Quiet; decide +kernel⟩,
   ⟨r, by unfold Quiet; decide +kernel⟩,
   ⟨r, by unfold Quiet; decide +kernel⟩⟩

theorem witness_ManagementAcceptance :
    (∃ (s : State) (port : Nat), (s.sec.pend = none ∨ s.sec.audit = none) ∧ s.stage ≠ 4 ∧ port < 3 ∧ s.answers port = false) ∧
    (∃ (s : State) (port : Nat) (tag : BitVec 32) (body : List Byte), (s.sec.pend = none ∨ s.sec.audit = none) ∧ s.stage ≠ 4 ∧
      port < 3 ∧ s.answers port = true ∧
      ∀ c ∈ ([1, 2, 3, 4, 5, 6, 7, 8, 9, 10, 11, 12, 13, 14, 16, 17, 18, 32, 33, 34, 35, 36] : List Nat), (s.gate ⟨port, tag.toNat, body, true⟩ c).isSome = true) ∧
    (∃ (s : State) (port : Nat) (tag : BitVec 32) (body : List Byte) (pass : Bool), (s.sec.pend = none ∨ s.sec.audit = none) ∧
      s.stage ≠ 4 ∧ port < 3 ∧ s.answers port = true ∧ (s.gate ⟨port, tag.toNat, body, pass⟩ 15).isSome = true) :=
  ⟨⟨r, 2, by decide +kernel⟩, ⟨mg 7, 2, 9, [], by decide +kernel⟩, ⟨mg 4, 0, 9, [], true, by decide +kernel⟩⟩

theorem witness_RegulatorCommands :
    (∃ (s : State) (port : Nat) (tag : BitVec 32) (body : List Byte), Quiet s ∧ port < 3 ∧ s.answers port = true ∧ s.gate ⟨port, tag.toNat, body, true⟩ 1 = none ∧ body = []) ∧
    (∃ (s : State) (port : Nat) (tag : BitVec 32) (body : List Byte), Quiet s ∧ port < 3 ∧ s.answers port = true ∧ s.gate ⟨port, tag.toNat, body, true⟩ 2 = none ∧ body.length = 32) ∧
    (∃ (s : State) (port : Nat) (tag : BitVec 32) (body : List Byte), Quiet s ∧ port < 3 ∧ s.answers port = true ∧ s.gate ⟨port, tag.toNat, body, true⟩ 3 = none ∧ body.length = 12 ∧ 1 ≤ cellGet body 8 4 ∧ cellGet body 8 4 ≤ 1048576 ∧ (s.jrn.ring.filter s.inRing).any (fun x => x.seq == cellGet body 0 8) = true) ∧
    (∃ (s : State) (port : Nat) (tag : BitVec 32) (body : List Byte), Quiet s ∧ port < 3 ∧ s.answers port = true ∧ s.gate ⟨port, tag.toNat, body, true⟩ 4 = none ∧ body = [] ∧ s.keys.devKey = none ∧ s.drwState = 1 ∧ s.epochUp = true) ∧
    (∃ (s : State) (port : Nat) (tag : BitVec 32) (body : List Byte), Quiet s ∧ port < 3 ∧ s.answers port = true ∧ s.gate ⟨port, tag.toNat, body, true⟩ 4 = none ∧ body = [] ∧ s.keys.devKey = none ∧ s.drwState = 1 ∧ s.epochUp = false) ∧
    (∃ (s : State) (port n : Nat) (tag : BitVec 32) (body : List Byte), Quiet s ∧ port < 3 ∧ s.answers port = true ∧ s.gate ⟨port, tag.toNat, body, true⟩ 5 = none ∧ body.length = 4 ∧ n = cellGet body 0 4 ∧ 1024 ≤ n ∧ n ≤ 16777216 ∧ n % 8 = 0) ∧
    (∃ (s : State) (port n : Nat) (tag : BitVec 32) (body : List Byte), Quiet s ∧ port < 3 ∧ s.answers port = true ∧ s.gate ⟨port, tag.toNat, body, true⟩ 6 = none ∧ n = cellGet body 97 1 ∧ 1 ≤ n ∧ n ≤ 4 ∧ body.length = 410 + 97 * n ∧ cellGet body 98 7 = 0 ∧ s.policyOk (cut (202 + 97 * n) 208 body) = true ∧ s.keys.devKey.isSome = true ∧ s.epochUp = true) ∧
    (∃ (s : State) (port n : Nat) (tag : BitVec 32) (body : List Byte), Quiet s ∧ port < 3 ∧ s.answers port = true ∧ s.gate ⟨port, tag.toNat, body, true⟩ 6 = none ∧ n = cellGet body 97 1 ∧ 1 ≤ n ∧ n ≤ 4 ∧ body.length = 410 + 97 * n ∧ cellGet body 98 7 = 0 ∧ s.policyOk (cut (202 + 97 * n) 208 body) = true ∧ s.keys.devKey.isSome = true ∧ s.epochUp = false) ∧
    (∃ (s : State) (port : Nat) (tag : BitVec 32) (body : List Byte), Quiet s ∧ port < 3 ∧ s.answers port = true ∧ s.gate ⟨port, tag.toNat, body, true⟩ 7 = none ∧ body = sha256 s.keys.policy ∧ s.keys.policy ≠ [] ∧ s.floorsOk s.keys.policy = true ∧ s.epochUp = true) ∧
    (∃ (s : State) (port : Nat) (tag : BitVec 32) (body : List Byte), Quiet s ∧ port < 3 ∧ s.answers port = true ∧ s.gate ⟨port, tag.toNat, body, true⟩ 7 = none ∧ body = sha256 s.keys.policy ∧ s.keys.policy ≠ [] ∧ s.floorsOk s.keys.policy = true ∧ s.epochUp = false) ∧
    (∃ (s : State) (port : Nat) (tag : BitVec 32) (body : List Byte), Quiet s ∧ port < 3 ∧ s.answers port = true ∧ s.gate ⟨port, tag.toNat, body, true⟩ 8 = none ∧ s.policyOk body = true ∧ (s.lcState ≠ 2 ∨ s.floorsOk body = true)) ∧
    (∃ (s : State) (port : Nat) (tag : BitVec 32) (body : List Byte), Quiet s ∧ port < 3 ∧ s.answers port = true ∧ s.gate ⟨port, tag.toNat, body, true⟩ 9 = none ∧ body.length = 105 ∧ 1 ≤ cellGet body 0 1 ∧ cellGet body 0 1 ≤ 3 ∧ cellGet body 1 1 ≤ 3 ∧ cellGet body 2 1 = 0 ∧ cellGet body 3 5 = 0) ∧
    (∃ (s : State) (port : Nat) (tag : BitVec 32) (body : List Byte), Quiet s ∧ port < 3 ∧ s.answers port = true ∧ s.gate ⟨port, tag.toNat, body, true⟩ 9 = none ∧ body.length = 105 ∧ cellGet body 0 1 = 2 ∧ cellGet body 1 1 ≤ 3 ∧ cellGet body 2 1 = 1 ∧ cellGet body 3 5 = 0) ∧
    (∃ (s : State) (port : Nat) (tag : BitVec 32) (body b : List Byte), Quiet s ∧ port < 3 ∧ s.answers port = true ∧ s.gate ⟨port, tag.toNat, body, true⟩ 10 = none ∧ s.sec.mcStaged = some b ∧ body = pkgHash b ∧ s.epochUp = true) ∧
    (∃ (s : State) (port : Nat) (tag : BitVec 32) (body b : List Byte), Quiet s ∧ port < 3 ∧ s.answers port = true ∧ s.gate ⟨port, tag.toNat, body, true⟩ 10 = none ∧ s.sec.mcStaged = some b ∧ body = pkgHash b ∧ s.epochUp = false) ∧
    (∃ (s : State) (port : Nat) (tag : BitVec 32) (body : List Byte), Quiet s ∧ port < 3 ∧ s.answers port = true ∧ s.gate ⟨port, tag.toNat, body, true⟩ 10 = none ∧ s.sec.mcStaged = none) ∧
    (∃ (s : State) (port : Nat) (tag : BitVec 32) (body : List Byte), Quiet s ∧ port < 3 ∧ s.answers port = true ∧ s.gate ⟨port, tag.toNat, body, true⟩ 11 = none ∧ body = [0] ∧ s.standby = true ∧ s.fld Addr.CWL_STATUS 2 1 = 0 ∧ s.fld Addr.JRN_REPL_STATUS 1 3 = 2) ∧
    (∃ (s : State) (port : Nat) (tag : BitVec 32) (body : List Byte), Quiet s ∧ port < 3 ∧ s.answers port = true ∧ s.gate ⟨port, tag.toNat, body, true⟩ 12 = none ∧ body = []) ∧
    (∃ (s : State) (port : Nat) (tag : BitVec 32) (body key : List Byte) (ch : List Byte × Nat), Quiet s ∧ port < 3 ∧ s.answers port = true ∧ s.gate ⟨port, tag.toNat, body, true⟩ 13 = none ∧ body.length = 104 ∧ 1 ≤ cellGet body 0 4 ∧ cellGet body 0 4 ≤ 65535 ∧ cellGet body 4 4 = 0 ∧ s.fld Addr.SEC_STATUS 8 4 < 8 ∧ s.sec.challenge = some ch ∧ s.keys.debugPub = some key) ∧
    (∃ (s : State) (port : Nat) (tag : BitVec 32) (body : List Byte), Quiet s ∧ port < 3 ∧ s.answers port = true ∧ s.gate ⟨port, tag.toNat, body, true⟩ 13 = none ∧ body.length = 104 ∧ 1 ≤ cellGet body 0 4 ∧ cellGet body 0 4 ≤ 65535 ∧ cellGet body 4 4 = 0 ∧ 8 ≤ s.fld Addr.SEC_STATUS 8 4) ∧
    (∃ (s : State) (port : Nat) (tag : BitVec 32) (body : List Byte), Quiet s ∧ port < 3 ∧ s.answers port = true ∧ s.gate ⟨port, tag.toNat, body, true⟩ 14 = none ∧ body = []) ∧
    (∃ (s : State) (port : Nat) (tag : BitVec 32), Quiet s ∧ port < 3 ∧ s.answers port = true ∧ s.gate ⟨port, tag.toNat, [0], true⟩ 15 = none ∧ s.drwState = 2 ∧ s.fld Addr.SEC_ALM_ACT 0 8 = 0) ∧
    (∃ (s : State) (port : Nat) (tag : BitVec 32) (pass : Bool), Quiet s ∧ port < 3 ∧ s.answers port = true ∧ s.gate ⟨port, tag.toNat, [1], pass⟩ 15 = none ∧ s.hold = true ∧ s.lcState ≠ 3 ∧ s.sourceLive = false) ∧
    (∃ (s : State) (port : Nat) (tag : BitVec 32), Quiet s ∧ port < 3 ∧ s.answers port = true ∧ s.gate ⟨port, tag.toNat, [2], true⟩ 15 = none ∧ s.lcState = 3 ∧ s.sec.erase = false ∧ s.sourceLive = false) ∧
    (∃ (s : State) (port : Nat) (tag : BitVec 32) (body : List Byte), Quiet s ∧ port < 3 ∧ s.answers port = true ∧ s.gate ⟨port, tag.toNat, body, true⟩ 16 = none ∧ body = []) ∧
    (∃ (s : State) (port : Nat) (tag : BitVec 32) (body : List Byte), Quiet s ∧ port < 3 ∧ s.answers port = true ∧ s.gate ⟨port, tag.toNat, body, true⟩ 17 = none ∧ 8 ≤ body.length ∧ cellGet body 0 1 ≤ 1 ∧ cellGet body 1 7 = 0 ∧ body.length - 8 ≤ setLen (cellGet body 0 1 == 1)) ∧
    (∃ (s : State) (port : Nat) (tag : BitVec 32) (body : List Byte), Quiet s ∧ port < 3 ∧ s.answers port = true ∧ s.gate ⟨port, tag.toNat, body, true⟩ 18 = none ∧ s.epochUp = true ∧ body = natBytes 8 Config.moduleId.toNat) ∧
    (∃ (s : State) (port : Nat) (tag : BitVec 32) (body : List Byte), Quiet s ∧ port < 3 ∧ s.answers port = true ∧ s.gate ⟨port, tag.toNat, body, true⟩ 18 = none ∧ s.epochUp = false ∧ body = natBytes 8 Config.moduleId.toNat) :=
  ⟨⟨mg 0, 0, 7, [], by unfold Quiet; decide +kernel⟩,
   ⟨mg 0, 0, 7, List.replicate 32 1, by unfold Quiet; decide +kernel⟩,
   ⟨jring (mg 1) [je 1 []], 0, 7, natBytes 8 1 ++ natBytes 4 1, by unfold Quiet; decide +kernel⟩,
   ⟨mgOpen 0, 0, 7, [], by unfold Quiet; decide +kernel⟩,
   ⟨mg 0, 0, 7, [], by unfold Quiet; decide +kernel⟩,
   ⟨mg 0, 0, 1024, 7, natBytes 4 1024, by unfold Quiet; decide +kernel⟩,
   ⟨devK (mgOpen 0), 0, 1, 7, provB, by unfold Quiet; decide +kernel⟩,
   ⟨devK (mg 0), 0, 1, 7, provB, by unfold Quiet; decide +kernel⟩,
   ⟨(polK (mgOpen 1)).setFld Addr.SEC_ALM_POL 16 16 0, 0, 7, sha256 polA, by unfold Quiet; decide +kernel⟩,
   ⟨(polK (mg 1)).setFld Addr.SEC_ALM_POL 16 16 0, 0, 7, sha256 polA, by unfold Quiet; decide +kernel⟩,
   ⟨mg 2 |>.setFld Addr.SEC_ALM_POL 16 16 0, 0, 7, polA, by unfold Quiet; decide +kernel⟩,
   ⟨mg 1, 0, 7, [3, 3, 0, 0, 0, 0, 0, 0] ++ List.replicate 97 4, by unfold Quiet; decide +kernel⟩,
   ⟨mg 1, 0, 7, [2, 3, 1, 0, 0, 0, 0, 0] ++ List.replicate 97 4, by unfold Quiet; decide +kernel⟩,
   ⟨let t := mgOpen 1; { t with sec := { t.sec with mcStaged := some [1, 2] } }, 0, 7, pkgHash [1, 2], [1, 2], by unfold Quiet; decide +kernel⟩,
   ⟨let t := mg 1; { t with sec := { t.sec with mcStaged := some [1, 2] } }, 0, 7, pkgHash [1, 2], [1, 2], by unfold Quiet; decide +kernel⟩,
   ⟨mg 1, 0, 7, [], by unfold Quiet; decide +kernel⟩,
   ⟨((mg 1).setFld Addr.JRN_REPL_STATUS 0 1 1).setFld Addr.JRN_REPL_STATUS 1 3 2, 0, 7, [0], by unfold Quiet; decide +kernel⟩,
   ⟨mg 2, 0, 7, [], by unfold Quiet; decide +kernel⟩,
   ⟨let t := mg 1; ({ t with sec := { t.sec with challenge := some ([1], 0) }, keys := { t.keys with debugPub := some [4] } }).setFld Addr.SEC_STATUS 8 4 7, 0, 7, natBytes 4 65535 ++ [0, 0, 0, 0] ++ List.replicate 96 3, [4], ([1], 0), by unfold Quiet; decide +kernel⟩,
   ⟨(mg 1).setFld Addr.SEC_STATUS 8 4 8, 0, 7, natBytes 4 65535 ++ [0, 0, 0, 0] ++ List.replicate 96 3, by unfold Quiet; decide +kernel⟩,
   ⟨mg 1, 0, 7, [], by unfold Quiet; decide +kernel⟩,
   ⟨(mg 1).setFld Addr.DRW_STATUS 0 3 2, 0, 7, by unfold Quiet; decide +kernel⟩,
   ⟨(mg 1).setFld Addr.SEC_STATUS 0 1 1, 0, 7, true, by unfold Quiet; decide +kernel⟩,
   ⟨mg 3, 0, 7, by unfold Quiet; decide +kernel⟩,
   ⟨mg 1, 0, 7, [], by unfold Quiet; decide +kernel⟩,
   ⟨mgHold 1, 0, 7, [1, 0, 0, 0, 0, 0, 0, 0, 9, 9], by unfold Quiet; decide +kernel⟩,
   ⟨mgOpen 3 |>.setFld Addr.SEC_LC 0 3 2, 0, 7, natBytes 8 Config.moduleId.toNat, by unfold Quiet; decide +kernel, by decide +kernel, by decide +kernel, by decide +kernel, by decide +kernel, rfl⟩,
   ⟨mg 3, 0, 7, natBytes 8 Config.moduleId.toNat, by unfold Quiet; decide +kernel, by decide +kernel, by decide +kernel, by decide +kernel, by decide +kernel, rfl⟩⟩

theorem witness_OperatorCommandsAndSegments :
    (∃ (s : State) (port n off : Nat) (tag : BitVec 32) (body : List Byte), Quiet s ∧ port < 3 ∧ s.answers port = true ∧ s.gate ⟨port, tag.toNat, body, true⟩ 32 = none ∧ 8 ≤ body.length ∧ n = cellGet body 0 2 ∧ n ∈ imageSlots ∧ cellGet body 2 6 = 0 ∧ off = (s.setEnd (!(s.fld Addr.SEN_BOOT 12 1 == 1)) n + 63) / 64 * 64) ∧
    (∃ (s : State) (port : Nat) (tag : BitVec 32) (body : List Byte), Quiet s ∧ port < 3 ∧ s.answers port = true ∧ s.gate ⟨port, tag.toNat, body, true⟩ 33 = none) ∧
    (∃ (s : State) (port n : Nat) (tag : BitVec 32) (body : List Byte), Quiet s ∧ port < 3 ∧ s.answers port = true ∧ s.gate ⟨port, tag.toNat, body, true⟩ 34 = none ∧ body = natBytes 8 1 ++ natBytes 8 0x2000010 ++ natBytes 8 n ++ natBytes 8 7 ∧ n ≤ 4) ∧
    (∃ (s : State) (port n : Nat) (tag : BitVec 32) (body : List Byte), Quiet s ∧ port < 3 ∧ s.answers port = true ∧ s.gate ⟨port, tag.toNat, body, true⟩ 34 = none ∧ 1 ≤ cellGet body 0 2 ∧ cellGet body 0 2 ≤ 64 ∧ body.length = 8 + 24 * cellGet body 0 2 ∧ cellGet body 2 6 = 0 ∧ n = s.cfgChecks ((List.range (cellGet body 0 2)).map (cfgEntry body)) ∧ n ≠ 0) ∧
    (∃ (s : State) (port n off : Nat) (tag : BitVec 32) (body : List Byte), Quiet s ∧ port < 3 ∧ s.answers port = true ∧ s.gate ⟨port, tag.toNat, body, true⟩ 35 = none ∧ body.length = 12 ∧ off = cellGet body 0 8 ∧ n = cellGet body 8 4 ∧ 1 ≤ n ∧ n ≤ 184 ∧ off % 8 = 0 ∧ off + 8 * n ≤ 2 ^ 24) ∧
    (∃ (s : State) (port : Nat) (tag : BitVec 32) (body : List Byte), Quiet s ∧ port < 3 ∧ s.answers port = true ∧ s.gate ⟨port, tag.toNat, body, true⟩ 36 = none ∧ body = [] ∧ s.pwr.trigger = 0 ∧ s.pwrState = 1) ∧
    (∃ (s : State), Quiet s ∧ s.cmbUp = true) ∧
    (∃ (s : State), Quiet s ∧ s.cmbUp = false) ∧
    (∃ (s : State), Quiet s ∧ s.cmbUp = true ∧ s.pwr.trigger = 0 ∧ s.pwrState = 1) ∧
    (∃ (s : State) (val8 : BitVec 8), Quiet s ∧ s.cmbUp = true ∧ val8 ≠ 1) ∧
    (∃ (s : State) (idx : BitVec 8), Quiet s ∧ s.cmbUp = true ∧ 3 ≤ idx.toNat ∧ idx.toNat ≤ 20) ∧
    (∃ (s : State) (idx : BitVec 8), Quiet s ∧ s.cmbUp = true ∧ 20 < idx.toNat) ∧
    (∃ (s : State) (val8 : BitVec 8), Quiet s ∧ s.cmbUp = true ∧ val8.toNat < 2) ∧
    (∃ (s : State) (val8 : BitVec 8), Quiet s ∧ s.cmbUp = true ∧ 2 ≤ val8.toNat) ∧
    (∃ (s : State) (port : Nat) (seg : List Byte), Quiet s ∧ port < 3 ∧ s.answers port = true ∧ segOk seg = true ∧ (segHead seg).kind = 1 ∧ 2 ≤ (segHead seg).count ∧ (segHead seg).idx = 0 ∧ regCodes.contains (segHead seg).code = true ∧ portServes port (segHead seg).code = true ∧ keyCodes.contains (segHead seg).code = false ∧ s.exch port = none) ∧
    (∃ (s : State) (port : Nat) (seg : List Byte) (x : Exchange), Quiet s ∧ port < 3 ∧ s.answers port = true ∧ segOk seg = true ∧ (segHead seg).kind = 1 ∧ s.exch port = some x ∧ (segHead seg).tag = x.tag ∧ (segHead seg).code = x.code ∧ (segHead seg).count = x.count ∧ (segHead seg).idx = x.next ∧ 1 ≤ (segHead seg).idx ∧ (segHead seg).idx + 1 < (segHead seg).count ∧ regCodes.contains (segHead seg).code = true ∧ portServes port (segHead seg).code = true) ∧
    (∃ (s : State) (port : Nat) (seg : List Byte), Quiet s ∧ port < 3 ∧ s.answers port = true ∧ segOk seg = false) ∧
    (∃ (s : State) (port : Nat) (y : Response), Quiet s ∧ port < 3 ∧ s.respAt port = some y) ∧
    (∃ (s : State) (port : Nat), Quiet s ∧ port < 3 ∧ s.respAt port = none) ∧
    (∃ (s : State) (port : Nat) (x : Exchange), Quiet s ∧ port < 3 ∧ s.exch port = some x) ∧
    (∃ (s : State) (port : Nat) (y : Response), Quiet s ∧ port < 3 ∧ s.exch port = none ∧ s.respAt port = some y) ∧
    (∃ (s : State) (port : Nat), Quiet s ∧ port < 3 ∧ s.exch port = none ∧ s.respAt port = none) ∧
    (∃ (s : State), Quiet s) :=
  ⟨⟨mg 1, 2, 14, ((mg 1).setEnd (!((mg 1).fld Addr.SEN_BOOT 12 1 == 1)) 14 + 63) / 64 * 64, 7, [14, 0, 0, 0, 0, 0, 0, 0, 5, 5], by unfold Quiet; decide +kernel⟩,
   ⟨mg 1, 2, 7, [1, 2, 3], by unfold Quiet; decide +kernel⟩,
   ⟨mg 1, 2, 4, 7, natBytes 8 1 ++ natBytes 8 0x2000010 ++ natBytes 8 4 ++ natBytes 8 7, by unfold Quiet; decide +kernel⟩,
   ⟨mg 1, 2, (mg 1).cfgChecks ((List.range 1).map (cfgEntry (natBytes 8 1 ++ natBytes 8 0x2000011 ++ natBytes 8 4 ++ natBytes 8 7 : List Byte))), 7, natBytes 8 1 ++ natBytes 8 0x2000011 ++ natBytes 8 4 ++ natBytes 8 7, by unfold Quiet; decide +kernel⟩,
   ⟨mg 1, 2, 1, 0xFFFFF8, 7, natBytes 8 0xFFFFF8 ++ natBytes 4 1, by unfold Quiet; decide +kernel⟩,
   ⟨mg 1, 2, 7, [], by unfold Quiet; decide +kernel⟩,
   ⟨mg 1, by unfold Quiet; decide +kernel⟩,
   ⟨r, by unfold Quiet; decide +kernel⟩,
   ⟨mg 1, by unfold Quiet; decide +kernel⟩,
   ⟨mg 1, 0, by unfold Quiet; decide +kernel⟩,
   ⟨mg 1, 20, by unfold Quiet; decide +kernel⟩,
   ⟨mg 1, 21, by unfold Quiet; decide +kernel⟩,
   ⟨mg 1, 1, by unfold Quiet; decide +kernel⟩,
   ⟨mg 1, 2, by unfold Quiet; decide +kernel⟩,
   ⟨mg 1, 0, segA 2 0 [5], by unfold Quiet; decide +kernel⟩,
   ⟨let t := mg 1; t.setExch 0 (some exA9), 0, segA 3 1 [5], exA9, by unfold Quiet; decide +kernel⟩,
   ⟨mg 1, 2, [1], by unfold Quiet; decide +kernel⟩,
   ⟨(mg 1).setResp 2 (some dResponse), 2, dResponse, by unfold Quiet; decide +kernel⟩,
   ⟨mg 1, 2, by unfold Quiet; decide +kernel⟩,
   ⟨(mg 1).setExch 2 (some exA9), 2, exA9, by unfold Quiet; decide +kernel⟩,
   ⟨(mg 1).setResp 2 (some dResponse), 2, dResponse, by unfold Quiet; decide +kernel⟩,
   ⟨mg 1, 2, by unfold Quiet; decide +kernel⟩,
   ⟨r, by unfold Quiet; decide +kernel⟩⟩

theorem witness_NetworkAndSecureTime :
    (∃ (s : State) (port : Nat) (bytes : List Byte) (ok : Bool), Quiet s ∧ port < 4 ∧ s.fld Addr.NET_STATUS port 1 = 1 ∧ s.fld Addr.NET_CTRL port 1 = 1 ∧ (ok = false ∨ bytes.length < 60 ∨ 9212 < bytes.length)) ∧
    (∃ (s : State) (port : Nat) (bytes : List Byte), Quiet s ∧ port < 4 ∧ s.fld Addr.NET_STATUS port 1 = 1 ∧ s.fld Addr.NET_CTRL port 1 = 1 ∧ 60 ≤ bytes.length ∧ bytes.length ≤ 9212 ∧ etypeOf bytes = 0x8808) ∧
    (∃ (s : State) (port q : Nat) (bytes : List Byte), Quiet s ∧ port < 4 ∧ s.fld Addr.NET_STATUS port 1 = 1 ∧ s.fld Addr.NET_CTRL port 1 = 1 ∧ 60 ≤ bytes.length ∧ bytes.length ≤ 9212 ∧ etypeOf bytes ≠ 0x8808 ∧ q = s.steer port bytes ∧ s.fld (Addr.NET_RXQ_CFG q) 0 1 = 0) ∧
    (∃ (s : State) (port q : Nat) (bytes : List Byte), Quiet s ∧ port < 4 ∧ s.fld Addr.NET_STATUS port 1 = 1 ∧ s.fld Addr.NET_CTRL port 1 = 1 ∧ 60 ≤ bytes.length ∧ bytes.length ≤ 9212 ∧ etypeOf bytes ≠ 0x8808 ∧ q = s.steer port bytes ∧ s.fld (Addr.NET_RXQ_CFG q) 0 1 = 1 ∧ s.fld (Addr.NET_RXQ_CFG q) 1 1 = 0 ∧ s.pwr.trigger = 0 ∧ bytes.length ≤ s.bufSize q ∧ smGet (always []) s.rxFree q = []) ∧
    (∃ (s : State) (port q ch pa : Nat) (bytes : List Byte) (rest : List Nat) (e : TaskEntry), Quiet s ∧ port < 4 ∧ s.fld Addr.NET_STATUS port 1 = 1 ∧ s.fld Addr.NET_CTRL port 1 = 1 ∧ 60 ≤ bytes.length ∧ bytes.length ≤ 9212 ∧ etypeOf bytes ≠ 0x8808 ∧ q = s.steer port bytes ∧ s.fld (Addr.NET_RXQ_CFG q) 0 1 = 1 ∧ s.fld (Addr.NET_RXQ_CFG q) 1 1 = 0 ∧ s.pwr.trigger = 0 ∧ bytes.length ≤ s.bufSize q ∧ smGet (always []) s.rxFree q = pa :: rest ∧ s.dmaCheck 3 pa bytes.length .w = none ∧ pa + bytes.length ≤ 2 ^ 41 ∧ s.tally.chans = [] ∧ s.latent = [] ∧ ch = s.fld (Addr.NET_RXQ_CFG q) 32 12 ∧ bitsAt (s.slot ch) 20 3 = 1 ∧ (s.slot ch).testBit 23 = true ∧ s.evd.tasks.find? (fun x => x.1 == bitsAt (s.slot ch) 0 16) = some (bitsAt (s.slot ch) 0 16, some e) ∧ s.fld (Addr.EVD_CHSTAT ch) 0 16 < 0xFFFF) ∧
    (∃ (s : State) (port : Nat), Quiet s ∧ port < 4 ∧ (s.fld Addr.NET_STATUS port 1 = 0 ∨ s.fld Addr.NET_CTRL port 1 = 0)) ∧
    (∃ (s : State) (port : Nat), Quiet s ∧ port < 4 ∧ s.fld Addr.NET_STATUS port 1 = 1) ∧
    (∃ (s : State) (port : Nat), Quiet s ∧ port < 4 ∧ s.fld Addr.NET_STATUS port 1 = 0) ∧
    (∃ (s : State) (port : Nat), Quiet s ∧ port < 4 ∧ (s.pwrState = 1 ∨ s.pwrState = 3) ∧ (s.fld Addr.SEN_STRAP 9 2 ≠ 1 ∨ port < 2)) ∧
    (∃ (s : State) (port : Nat), Quiet s ∧ port < 4 ∧ s.fld Addr.SEN_STRAP 9 2 = 1 ∧ 2 ≤ port) ∧
    (∃ (s : State) (q : Nat) (val : Word), Quiet s ∧ q < 256 ∧ s.fld (Addr.NET_RXQ_CFG q) 0 1 = 0 ∧ val.toNat % 2 = 1 ∧ 1 ≤ bitsAt val.toNat 16 13 ∧ bitsAt val.toNat 16 13 ≤ 4096) ∧
    (∃ (s : State) (q : Nat) (val : Word), Quiet s ∧ q < 256 ∧ s.fld (Addr.NET_RXQ_CFG q) 0 1 = 1 ∧ val.toNat &&& 0xFFF1FFF0007 ≠ (s.rd (Addr.NET_RXQ_CFG q)).toNat - 1) ∧
    (∃ (s : State) (t : Nat), Quiet s ∧ t < 256) ∧
    (∃ (s : State) (port t n cfg hd dpa : Nat) (d : List Byte), Quiet s ∧ t < 256 ∧ cfg = (s.rd (Addr.NET_TXQ_CFG t)).toNat ∧ cfg.testBit 0 = true ∧ s.fld (Addr.NET_TXQ_TAIL t) 0 12 < bitsAt cfg 16 13 ∧ hd = smGet (always 0) s.net.txHead t ∧ hd < bitsAt cfg 16 13 ∧ hd ≠ s.fld (Addr.NET_TXQ_TAIL t) 0 12 ∧ dpa = s.fld (Addr.NET_TXQ_BASE t) 4 40 * 16 + 16 * hd ∧ dpa + 16 ≤ 2 ^ 41 ∧ d = s.bytesAt .dram dpa 16 ∧ cfg.testBit 44 = false ∧ s.tally.chans = [] ∧ s.latent = [] ∧ port = bitsAt cfg 1 2 ∧ s.txFrames port = [] ∧ (hd + 1) % bitsAt cfg 16 13 = s.fld (Addr.NET_TXQ_TAIL t) 0 12 ∧ (∀ t2, t2 < 256 → t2 ≠ t → s.txPort t2 = port → s.txNext t2 = none) ∧ s.dmaCheck 3 dpa 16 .r = none ∧ s.dmaPoison dpa 16 = false ∧ s.dmaCheck 3 (dpa + 11) 1 .w = none ∧ txDescOk d = true ∧ s.fld Addr.NET_STATUS port 1 = 1 ∧ s.fld Addr.NET_CTRL port 1 = 1 ∧ n = cellGet d 8 2 ∧ s.dmaCheck 3 (cellGet d 0 8) n .r = none ∧ s.dmaPoison (cellGet d 0 8) n = false) ∧
    (∃ (s : State) (port t cfg hd dpa : Nat) (d : List Byte), Quiet s ∧ t < 256 ∧ cfg = (s.rd (Addr.NET_TXQ_CFG t)).toNat ∧ cfg.testBit 0 = true ∧ s.fld (Addr.NET_TXQ_TAIL t) 0 12 < bitsAt cfg 16 13 ∧ hd = smGet (always 0) s.net.txHead t ∧ hd < bitsAt cfg 16 13 ∧ hd ≠ s.fld (Addr.NET_TXQ_TAIL t) 0 12 ∧ dpa = s.fld (Addr.NET_TXQ_BASE t) 4 40 * 16 + 16 * hd ∧ dpa + 16 ≤ 2 ^ 41 ∧ d = s.bytesAt .dram dpa 16 ∧ cfg.testBit 44 = false ∧ s.tally.chans = [] ∧ s.latent = [] ∧ port = bitsAt cfg 1 2 ∧ s.txFrames port = [] ∧ (hd + 1) % bitsAt cfg 16 13 = s.fld (Addr.NET_TXQ_TAIL t) 0 12 ∧ (∀ t2, t2 < 256 → t2 ≠ t → s.txPort t2 = port → s.txNext t2 = none) ∧ s.dmaCheck 3 dpa 16 .r = none ∧ s.dmaPoison dpa 16 = false ∧ s.dmaCheck 3 (dpa + 11) 1 .w = none ∧ txDescOk d = false) ∧
    (∃ (s : State) (t : Nat), Quiet s ∧ t < 256 ∧ s.txFrames (s.txPort t) = [] ∧ (∀ t2, t2 < 256 → s.txPort t2 = s.txPort t → s.txNext t2 = none)) ∧
    (∃ (s : State) (port n g : Nat) (dom : BitVec 8) (ident : Word), Quiet s ∧ port < 4 ∧ s.timeTakes port dom.toNat = true ∧ s.gmIndex ident.toNat = some g ∧ s.fld Addr.TIME_STATUS 0 2 = 0 ∧ (s.time : Int) < (n : Int) + s.net.delay) ∧
    (∃ (s : State) (port n g : Nat) (dom : BitVec 8) (ident : Word) (off : Int), Quiet s ∧ port < 4 ∧ s.timeTakes port dom.toNat = true ∧ s.gmIndex ident.toNat = some g ∧ s.fld Addr.TIME_STATUS 0 2 ≠ 0 ∧ off = (n : Int) + s.net.delay - s.time) ∧
    (∃ (s : State) (port g : Nat) (dom : BitVec 8) (ident : Word), Quiet s ∧ port < 4 ∧ s.timeTakes port dom.toNat = true ∧ s.gmIndex ident.toNat = some g) ∧
    (∃ (s : State) (port : Nat) (dom : BitVec 8) (ident : Word), Quiet s ∧ port < 4 ∧ s.timeTakes port dom.toNat = true ∧ s.gmIndex ident.toNat = none) ∧
    (∃ (s : State) (port : Nat) (dom : BitVec 8), Quiet s ∧ port < 4 ∧ s.timeTakes port dom.toNat = false) ∧
    (∃ (s : State) (port t n g : Nat) (dom : BitVec 8) (ident : Word) (off : Int), Quiet s ∧ port < 4 ∧ s.timeTakes port dom.toNat = true ∧ s.gmIndex ident.toNat = some g ∧ s.net.syncAt = some t ∧ s.fld Addr.TIME_STATUS 0 2 ≠ 0 ∧ off = (n : Int) + s.net.delay - t) ∧
    (∃ (s : State) (port q t g : Nat) (dom : BitVec 8) (ident : Word), Quiet s ∧ port < 4 ∧ s.timeTakes port dom.toNat = true ∧ s.gmIndex ident.toNat = some g ∧ s.net.lastSync = some (t, q)) ∧
    (∃ (s : State), Quiet s ∧ (s.fld Addr.TIME_STATUS 0 2 = 1 ∨ s.fld Addr.TIME_STATUS 0 2 = 2)) ∧
    (∃ (s : State), Quiet s ∧ (s.fld Addr.TIME_STATUS 0 2 = 0 ∨ s.fld Addr.TIME_STATUS 0 2 = 3)) ∧
    (∃ (s : State), Quiet s ∧ s.fld Addr.TIME_STATUS 0 2 = 3) ∧
    (∃ (s : State), Quiet s ∧ s.fld Addr.TIME_STATUS 0 2 ≠ 3) ∧
    (∃ (s : State) (port t : Nat) (f : TxFrame), Quiet s ∧ t < 256 ∧ port = s.txPort t ∧ s.fld Addr.NET_STATUS port 1 = 1 ∧ s.fld Addr.NET_CTRL port 1 = 1 ∧ (∀ t2, t2 < 256 → s.txPort t2 = port → s.txNext t2 = none) ∧ s.txFirst port = some f ∧ f.desc + 11 < 2 ^ 41 ∧ s.dmaCheck 3 (f.desc + 11) 1 .w = none ∧ s.tally.chans = [] ∧ s.latent = [] ∧ s.fld (Addr.NET_TXQ_CFG f.queue) 44 1 = 0) :=
  ⟨⟨netUp, 3, fr60.drop 1, true, by unfold Quiet; decide +kernel⟩,
   ⟨netUp, 3, frP, by unfold Quiet; decide +kernel⟩,
   ⟨netUp, 3, netUp.steer 3 fr60, fr60, by unfold Quiet; decide +kernel⟩,
   ⟨rxOn [], 3, 7, fr60, by unfold Quiet; decide +kernel⟩,
   ⟨rxOn [0x8000, 0x8800], 3, 7, 33, 0x8000, fr60, [0x8800], teA, by unfold Quiet; decide +kernel⟩,
   ⟨r, 3, by unfold Quiet; decide +kernel⟩,
   ⟨netUp, 3, by unfold Quiet; decide +kernel⟩,
   ⟨r, 3, by unfold Quiet; decide +kernel⟩,
   ⟨r, 3, by unfold Quiet; decide +kernel⟩,
   ⟨r.setFld Addr.SEN_STRAP 9 2 1, 3, by unfold Quiet; decide +kernel⟩,
   ⟨r, 255, BitVec.ofNat 64 (1 + 4096 * 2^16), by unfold Quiet; decide +kernel⟩,
   ⟨rxOn [], 7, 1, by unfold Quiet; decide +kernel⟩,
   ⟨r, 255, by unfold Quiet; decide +kernel⟩,
   ⟨txOn txD, 3, 255, 60, ((txOn txD).rd (Addr.NET_TXQ_CFG 255)).toNat, 0, 0x6000, txD, by unfold Quiet; decide +kernel⟩,
   ⟨txOn (List.replicate 16 255), 3, 255, ((txOn (List.replicate 16 255)).rd (Addr.NET_TXQ_CFG 255)).toNat, 0, 0x6000, List.replicate 16 255, by unfold Quiet; decide +kernel⟩,
   ⟨r, 255, by unfold Quiet; decide +kernel⟩,
   ⟨tm 0, 3, 1, 3, 5, 0x77, by unfold Quiet; decide +kernel⟩,
   ⟨{ tm 1 with time := 2000 }, 3, 500, 3, 5, 0x77, -1500, by unfold Quiet; decide +kernel⟩,
   ⟨tm 1, 3, 3, 5, 0x77, by unfold Quiet; decide +kernel⟩,
   ⟨tm 1, 3, 5, 0x78, by unfold Quiet; decide +kernel⟩,
   ⟨tm 1, 3, 6, by unfold Quiet; decide +kernel⟩,
   ⟨let t := tm 2; { t with net := { t.net with syncAt := some 50 } }, 3, 50, 40, 3, 5, 0x77, -10, by unfold Quiet; decide +kernel⟩,
   ⟨let t := tm 2; { t with net := { t.net with lastSync := some (10, 50) } }, 3, 50, 10, 3, 5, 0x77, by unfold Quiet; decide +kernel⟩,
   ⟨tm 1, by unfold Quiet; decide +kernel⟩,
   ⟨tm 3, by unfold Quiet; decide +kernel⟩,
   ⟨tm 3, by unfold Quiet; decide +kernel⟩,
   ⟨tm 2, by unfold Quiet; decide +kernel⟩,
   ⟨txBuf, 3, 255, ⟨255, 0x6000, [1, 2]⟩, by unfold Quiet; decide +kernel⟩⟩

theorem witness_HostInterface :
    (∃ (s : State) (h : Nat) (val : Word), Quiet s ∧ h < 16 ∧ s.fld Addr.PCI_STATUS 0 1 = 1 ∧ s.fld Addr.PCI_CTRL 0 1 = 1 ∧ (s.hb (hbSqCfg h)).testBit 0 = true ∧ val.toNat < s.sqSize h ∧ val.toNat < 4096 ∧ s.bells h = [] ∧ s.hb (hbSqHead h) ≠ val.toNat) ∧
    (∃ (s : State) (h : Nat) (val : Word) (en : List Byte), Quiet s ∧ h < 16 ∧ s.fld Addr.PCI_STATUS 0 1 = 1 ∧ s.fld Addr.PCI_CTRL 0 1 = 1 ∧ (s.hb (hbSqCfg h)).testBit 0 = true ∧ val.toNat < s.sqSize h ∧ val.toNat < 4096 ∧ s.bells h = [] ∧ s.hb (hbSqHead h) ≠ val.toNat ∧ (s.cqRing h).written < (s.cqRing h).consumed + s.sqSize h ∧ en.length = 32 ∧ (cellGet en 8 4 = 0 ∨ 9216 < cellGet en 8 4)) ∧
    (∃ (s : State) (h : Nat) (val : Word), Quiet s ∧ h < 16 ∧ s.fld Addr.PCI_STATUS 0 1 = 1 ∧ 4096 ≤ val.toNat) ∧
    (∃ (s : State) (h : Nat) (val : Word), Quiet s ∧ h < 16 ∧ s.fld Addr.PCI_STATUS 0 1 = 1 ∧ val.toNat < 4096 ∧ (s.fld Addr.PCI_CTRL 0 1 = 0 ∨ (s.hb (hbSqCfg h)).testBit 0 = false ∨ s.sqSize h ≤ val.toNat)) ∧
    (∃ (s : State) (h : Nat), Quiet s ∧ h < 16 ∧ s.fld Addr.PCI_STATUS 0 1 = 0) ∧
    (∃ (s : State) (h : Nat) (val : Word), Quiet s ∧ h < 16 ∧ s.fld Addr.PCI_STATUS 0 1 = 1 ∧ val.toNat < 4096 ∧ val.toNat < s.sqSize h ∧ s.bells h = []) ∧
    (∃ (s : State) (h : Nat) (val : Word), Quiet s ∧ h < 16 ∧ s.fld Addr.PCI_STATUS 0 1 = 1 ∧ val.toNat < 4096 ∧ val.toNat < s.drSlots h) ∧
    (∃ (s : State) (h off : Nat) (val : Word), Quiet s ∧ s.fld Addr.PCI_STATUS 0 1 = 1 ∧ h < 16 ∧ off = hbSqBase h ∧ val.toNat % 64 = 0) ∧
    (∃ (s : State) (h off : Nat) (val : Word), Quiet s ∧ s.fld Addr.PCI_STATUS 0 1 = 1 ∧ h < 16 ∧ off = hbSqCfg h ∧ val.toNat &&& 0xFFF1 = val.toNat ∧ (s.hb off).testBit 0 = false ∧ val.toNat % 2 = 1) ∧
    (∃ (s : State) (h off : Nat) (val : Word), Quiet s ∧ s.fld Addr.PCI_STATUS 0 1 = 1 ∧ h < 16 ∧ off = hbDrBase h ∧ val.toNat % 4096 ≠ 0) ∧
    (∃ (s : State) (off : Nat), Quiet s ∧ s.fld Addr.PCI_STATUS 0 1 = 1 ∧ 0x400 ≤ off ∧ off < 0x1000) ∧
    (∃ (s : State), Quiet s ∧ s.fld Addr.PCI_STATUS 0 1 = 0) ∧
    (∃ (s : State) (q : Nat), Quiet s ∧ q < 16) ∧
    (∃ (s : State) (h q dpa pa n : Nat) (d : List Byte), Quiet s ∧ q < 16 ∧ s.sendNext q = some dpa ∧ dpa + 16 ≤ 2 ^ 41 ∧ d = s.bytesAt .dram dpa 16 ∧ s.fld (Addr.PCI_SQ_CFG q) 44 1 = 0 ∧ s.tally.chans = [] ∧ s.latent = [] ∧ s.fld Addr.PCI_STATUS 0 1 = 1 ∧ s.fld Addr.PCI_CTRL 0 1 = 1 ∧ s.dmaCheck 4 dpa 16 .r = none ∧ s.dmaPoison dpa 16 = false ∧ s.dmaCheck 4 (dpa + 11) 1 .w = none ∧ s.sendDescOk d = true ∧ pa = cellGet d 0 8 ∧ n = cellGet d 8 2 ∧ h = cellGet d 10 1 % 16 ∧ s.dmaCheck 4 pa n .r = none ∧ s.dmaPoison pa n = false ∧ (s.drRing h).written < (s.drRing h).consumed + s.drSlots h) ∧
    (∃ (s : State) (q dpa : Nat) (d : List Byte), Quiet s ∧ q < 16 ∧ s.sendNext q = some dpa ∧ dpa + 16 ≤ 2 ^ 41 ∧ d = s.bytesAt .dram dpa 16 ∧ s.fld (Addr.PCI_SQ_CFG q) 44 1 = 0 ∧ s.tally.chans = [] ∧ s.latent = [] ∧ s.fld Addr.PCI_STATUS 0 1 = 1 ∧ s.fld Addr.PCI_CTRL 0 1 = 1 ∧ s.dmaCheck 4 dpa 16 .r = none ∧ s.dmaPoison dpa 16 = false ∧ s.dmaCheck 4 (dpa + 11) 1 .w = none ∧ s.sendDescOk d = false) ∧
    (∃ (s : State) (q : Nat), Quiet s ∧ q < 16 ∧ s.sendNext q = none) ∧
    (∃ (s : State) (h q dpa : Nat) (d : List Byte), Quiet s ∧ q < 16 ∧ s.sendNext q = some dpa ∧ dpa + 16 ≤ 2 ^ 41 ∧ d = s.bytesAt .dram dpa 16 ∧ s.fld (Addr.PCI_SQ_CFG q) 44 1 = 0 ∧ s.tally.chans = [] ∧ s.latent = [] ∧ s.fld Addr.PCI_STATUS 0 1 = 1 ∧ s.fld Addr.PCI_CTRL 0 1 = 1 ∧ s.dmaCheck 4 dpa 16 .r = none ∧ s.dmaPoison dpa 16 = false ∧ s.dmaCheck 4 (dpa + 11) 1 .w = none ∧ s.sendDescOk d = true ∧ h = cellGet d 10 1 % 16 ∧ (s.drRing h).consumed + s.drSlots h ≤ (s.drRing h).written) ∧
    (∃ (s : State), Quiet s ∧ s.fld Addr.PCI_STATUS 0 1 = 1 ∧ (∀ k, k < 16 → s.sendNext k = none) ∧ (∀ k, k < 16 → s.bells k = [])) ∧
    (∃ (s : State) (q : Nat), Quiet s ∧ s.fld Addr.PCI_STATUS 0 1 = 1 ∧ q < 16 ∧ s.bells q ≠ []) ∧
    (∃ (s : State), Quiet s ∧ (s.pwrState = 1 ∨ s.pwrState = 3)) :=
  ⟨⟨hbOn, 15, 3, by unfold Quiet; decide +kernel⟩,
   ⟨hbOn, 15, 1, List.replicate 32 0, by unfold Quiet; decide +kernel⟩,
   ⟨hbOn, 15, 4096, by unfold Quiet; decide +kernel⟩,
   ⟨hbOn, 15, 4, by unfold Quiet; decide +kernel⟩,
   ⟨r, 15, by unfold Quiet; decide +kernel⟩,
   ⟨hbOn, 15, 3, by unfold Quiet; decide +kernel⟩,
   ⟨hbOn, 15, 3, by unfold Quiet; decide +kernel⟩,
   ⟨pciU, 15, hbSqBase 15, 0x40, by unfold Quiet; decide +kernel⟩,
   ⟨pciU, 15, hbSqCfg 15, 0x31, by unfold Quiet; decide +kernel⟩,
   ⟨pciU, 15, hbDrBase 15, 0x800, by unfold Quiet; decide +kernel⟩,
   ⟨pciU, 0x400, by unfold Quiet; decide +kernel⟩,
   ⟨r, by unfold Quiet; decide +kernel⟩,
   ⟨r, 15, by unfold Quiet; decide +kernel⟩,
   ⟨sqs sqD hbOn, 15, 15, 0x6000, 0x7000, 8, sqD, by unfold Quiet; decide +kernel⟩,
   ⟨sqs (List.replicate 16 0) hbOn, 15, 0x6000, List.replicate 16 0, by unfold Quiet; decide +kernel⟩,
   ⟨hbOn, 15, by unfold Quiet; decide +kernel⟩,
   ⟨drFull (sqs sqD hbOn), 15, 15, 0x6000, sqD, by unfold Quiet; decide +kernel⟩,
   ⟨hbOn, by unfold Quiet; decide +kernel⟩,
   ⟨let t := hbOn; t.setBells 15 [⟨1, 0, false⟩], 15, by unfold Quiet; decide +kernel⟩,
   ⟨r, by unfold Quiet; decide +kernel⟩⟩

theorem witness_CuwenLinkOperations :
    (∃ (s : State) (l : Nat), Quiet s ∧ l < 2 ∧ s.lnkUp l = false ∧ s.fld Addr.CWL_CTRL l 1 = 1 ∧ s.standby = false ∧ (s.pwrState = 1 ∨ s.pwrState = 3)) ∧
    (∃ (s : State) (l : Nat) (gen : BitVec 32), Quiet s ∧ l < 2 ∧ s.lnkUp l = false ∧ s.fld Addr.CWL_CTRL l 1 = 1 ∧ s.standby = false ∧ (s.pwrState = 1 ∨ s.pwrState = 3) ∧ s.keys.takeGen < gen.toNat) ∧
    (∃ (s : State) (l : Nat), Quiet s ∧ l < 2 ∧ (s.lnkUp l = true ∨ s.fld Addr.CWL_CTRL l 1 = 0)) ∧
    (∃ (s : State) (l : Nat), Quiet s ∧ l < 2 ∧ s.lnkUp l = true) ∧
    (∃ (s : State) (l : Nat), Quiet s ∧ l < 2 ∧ s.lnkUp l = false) ∧
    (∃ (s : State) (l : Nat) (b : List Byte), Quiet s ∧ l < 2 ∧ s.lnkUp l = true ∧ b.length = 128 ∧ cellGet b 0x7C 4 = crc32 (b.take 0x7C) ∧ cellGet b 0 1 = 0 ∧ cellGet b 2 2 = (s.lnk l).rxSeq ∧ (s.lnk l).wait = [] ∧ s.cwl.detached = false) ∧
    (∃ (s : State) (l fl : Nat) (b : List Byte), Quiet s ∧ l < 2 ∧ s.lnkUp l = true ∧ b.length = 128 ∧ cellGet b 0x7C 4 = crc32 (b.take 0x7C) ∧ cellGet b 0 1 = 1 ∧ cellGet b 2 2 = (s.lnk l).rxSeq ∧ (s.lnk l).wait = [] ∧ fl = cellGet b 1 1 ∧ fl.testBit 5 = false) ∧
    (∃ (s : State) (l : Nat) (b : List Byte), Quiet s ∧ l < 2 ∧ (s.lnkUp l = false ∨ b.length ≠ 128 ∨ cellGet b 0x7C 4 ≠ crc32 (b.take 0x7C) ∨ cellGet b 2 2 ≠ (s.lnk l).rxSeq)) ∧
    (∃ (s : State) (l : Nat), Quiet s ∧ l < 2 ∧ s.lnkUp l = true ∧ (s.lnk l).kept ≠ [] ∧ (s.lnk l).replays < 7) ∧
    (∃ (s : State) (l : Nat), Quiet s ∧ l < 2 ∧ s.lnkUp l = true ∧ (s.lnk l).kept ≠ [] ∧ 7 ≤ (s.lnk l).replays) ∧
    (∃ (s : State) (l : Nat), Quiet s ∧ l < 2 ∧ (s.lnk l).kept = []) ∧
    (∃ (s : State), Quiet s ∧ s.lnkUp 0 = true ∧ s.lnkUp 1 = false ∧ (s.lnk 0).wait = [] ∧ (s.lnk 0).kept.length < 1024) ∧
    (∃ (s : State), Quiet s ∧ s.lnkUp 0 = false ∧ s.lnkUp 1 = false) ∧
    (∃ (s : State) (l : Nat), Quiet s ∧ l < 2 ∧ s.lnkUp l = true ∧ s.cwl.detached = false) ∧
    (∃ (s : State), Quiet s ∧ s.fld Addr.CWL_STATUS 2 1 = 1 ∧ s.standby = true) ∧
    (∃ (s : State), Quiet s ∧ s.fld Addr.CWL_STATUS 2 1 = 1 ∧ s.standby = false ∧ s.jrn.mode ≠ 2 ∧ s.fld Addr.JRN_REPL_STATUS 1 3 ≠ 5) ∧
    (∃ (s : State), Quiet s ∧ s.fld Addr.CWL_STATUS 2 1 = 0) ∧
    (∃ (s : State), Quiet s ∧ s.standby = true ∧ s.fld Addr.CWL_CTRL 2 1 = 1 ∧ s.fld Addr.CWL_STATUS 2 1 = 0 ∧ s.fld Addr.JRN_REPL_STATUS 1 3 = 2) ∧
    (∃ (s : State), Quiet s ∧ (s.standby = false ∨ s.fld Addr.CWL_CTRL 2 1 = 0 ∨ s.fld Addr.CWL_STATUS 2 1 = 1 ∨ s.fld Addr.JRN_REPL_STATUS 1 3 ≠ 2)) ∧
    (∃ (s : State) (gen : BitVec 32), Quiet s ∧ (s.standby = true ∨ gen.toNat ≤ s.keys.takeGen)) ∧
    (∃ (s : State) (gen : BitVec 32), Quiet s ∧ s.standby = false ∧ s.keys.takeGen < gen.toNat) ∧
    (∃ (s : State), Quiet s ∧ s.standby = false) ∧
    (∃ (s : State), Quiet s ∧ s.standby = true) ∧
    (∃ (s : State), Quiet s ∧ s.standby = true ∧ s.cwl.detached = false) ∧
    (∃ (s : State), Quiet s ∧ s.fld Addr.CWL_STATUS 2 1 = 0 ∧ s.standby = false) ∧
    (∃ (s : State), Quiet s ∧ s.fld Addr.CWL_STATUS 2 1 = 0 ∧ s.standby = true ∧ s.cwl.partnerDur ≤ (s.rd Addr.JRN_DUR_SEQ).toNat) ∧
    (∃ (s : State) (tag : BitVec 32) (r : JReq), Quiet s ∧ s.standby = false ∧ s.jrn.replies.find? (fun r => r.1 == tag.toNat) = none ∧ s.jrn.queue = [] ∧ (∀ e ∈ s.jrn.ring, e.issuers.contains (.remote tag.toNat) = false)) ∧
    (∃ (s : State) (n : Nat) (tag : BitVec 32) (r : JReq) (ok : Bool), Quiet s ∧ s.standby = false ∧ s.jrn.replies.find? (fun r => r.1 == tag.toNat) = some (tag.toNat, ok, n)) ∧
    (∃ (s : State) (p pb t cd gn : Nat) (tag : BitVec 32) (r : JReq), Quiet s ∧ s.fwdOf tag.toNat = some r ∧ r.issuer = .bank p pb t gn ∧ (s.pair p).gen = gn ∧ (s.pair p).halt = none ∧ (s.bank p pb).task.getD 0 = t ∧ (s.bank p pb).st = .waiting ∧ (s.bank p pb).waitCd = some cd ∧ 1 ≤ cd) ∧
    (∃ (s : State) (tag : BitVec 32), Quiet s ∧ s.fwdOf tag.toNat = none) ∧
    (∃ (s : State) (p pb t cd gn : Nat) (tag : BitVec 32) (r : JReq), Quiet s ∧ s.fwdOf tag.toNat = some r ∧ r.issuer = .bank p pb t gn ∧ (s.pair p).gen = gn ∧ (s.bank p pb).task.getD 0 = t ∧ (s.pair p).halt = none ∧ (s.bank p pb).st = .waiting ∧ (s.bank p pb).waitCd = some cd ∧ 1 ≤ cd) ∧
    (∃ (s : State) (off : Nat) (body : List Byte), Quiet s ∧ s.fld Addr.CWL_WIN 44 20 * 4096 < off + body.length) ∧
    (∃ (s : State) (off a : Nat) (body : List Byte), Quiet s ∧ off + body.length ≤ s.fld Addr.CWL_WIN 44 20 * 4096 ∧ a = s.fld Addr.CWL_WIN 12 32 * 4096 + off ∧ s.dmaCheck 5 a body.length .w = none ∧ a + body.length ≤ 2 ^ 41 ∧ s.tally.chans = [] ∧ s.latent = []) ∧
    (∃ (s : State), Quiet s) ∧
    (∃ (s : State), Quiet s ∧ s.fld Addr.CWL_EVT 15 1 = 1) ∧
    (∃ (s : State), Quiet s ∧ s.fld Addr.CWL_EVT 15 1 = 0) :=
  ⟨⟨r.setFld Addr.CWL_CTRL 0 2 3, 1, by unfold Quiet; decide +kernel⟩,
   ⟨r.setFld Addr.CWL_CTRL 0 2 3, 1, 3, by unfold Quiet; decide +kernel⟩,
   ⟨lk1.setFld Addr.CWL_CTRL 0 2 1, 1, by unfold Quiet; decide +kernel⟩,
   ⟨lk1, 0, by unfold Quiet; decide +kernel⟩,
   ⟨lk1, 1, by unfold Quiet; decide +kernel⟩,
   ⟨lk1, 0, flt 0 0 0, by unfold Quiet; decide +kernel⟩,
   ⟨lk1, 0, 0x40, flt 1 0x40 0, by unfold Quiet; decide +kernel⟩,
   ⟨lk1, 0, [], by unfold Quiet; decide +kernel⟩,
   ⟨kept 6, 0, by unfold Quiet; decide +kernel⟩,
   ⟨kept 7, 0, by unfold Quiet; decide +kernel⟩,
   ⟨lk1, 0, by unfold Quiet; decide +kernel⟩,
   ⟨lk1, by unfold Quiet; decide +kernel⟩,
   ⟨r, by unfold Quiet; decide +kernel⟩,
   ⟨lk1, 0, by unfold Quiet; decide +kernel⟩,
   ⟨stby (lk1.setFld Addr.CWL_STATUS 2 1 1), by unfold Quiet; decide +kernel⟩,
   ⟨lk1.setFld Addr.CWL_STATUS 2 1 1, by unfold Quiet; decide +kernel⟩,
   ⟨lk1, by unfold Quiet; decide +kernel⟩,
   ⟨(stby (lk1.setFld Addr.CWL_CTRL 2 1 1)).setFld Addr.JRN_REPL_STATUS 1 3 2, by unfold Quiet; decide +kernel⟩,
   ⟨r, by unfold Quiet; decide +kernel⟩,
   ⟨r, 0, by unfold Quiet; decide +kernel⟩,
   ⟨r, 1, by unfold Quiet; decide +kernel⟩,
   ⟨r, by unfold Quiet; decide +kernel⟩,
   ⟨stby r, by unfold Quiet; decide +kernel⟩,
   ⟨stby r, by unfold Quiet; decide +kernel⟩,
   ⟨r, by unfold Quiet; decide +kernel⟩,
   ⟨stby r, by unfold Quiet; decide +kernel⟩,
   ⟨r, 5, dJReq, by unfold Quiet; decide +kernel⟩,
   ⟨{ r with jrn := { r.jrn with replies := [(5, true, 9)] } }, 9, 5, dJReq, true, by unfold Quiet; decide +kernel⟩,
   ⟨fwdS, 0, 2, 7, 31, 0, 5, ⟨1, 0, [1], .bank 0 2 7 0⟩, by unfold Quiet; decide +kernel⟩,
   ⟨r, 5, by unfold Quiet; decide +kernel⟩,
   ⟨fwdS, 0, 2, 7, 31, 0, 5, ⟨1, 0, [1], .bank 0 2 7 0⟩, by unfold Quiet; decide +kernel⟩,
   ⟨r, 1, [], by unfold Quiet; decide +kernel⟩,
   ⟨r.wr Addr.CWL_WIN (BitVec.ofNat 64 (1 * 2^44 + 3 * 4096)), 0xFFE, 0x3FFE, [7, 8], by unfold Quiet; decide +kernel⟩,
   ⟨r, by unfold Quiet; decide +kernel⟩,
   ⟨r.setFld Addr.CWL_EVT 15 1 1, by unfold Quiet; decide +kernel⟩,
   ⟨r.setFld Addr.CWL_EVT 15 1 0, by unfold Quiet; decide +kernel⟩⟩

theorem witness_PlainCompletions :
    (∃ (s : State) (id : Nat) (o : TallyOp) (e : CombEntry), Quiet s ∧ s.tally.transit.find? (fun o => o.id == id) = some o ∧ (s.tch (channelOf o.cell)).entryOf o.cell = some e ∧ e.st = .active ∧ o.kind = .add ∧ e.data.length = 64 ∧ cellFlag e.data 0 = true ∧ cellFlag e.data 2 = false ∧ o.stampUnc = false ∧ o.stampTime < cellGet e.data 0x18 8 ∧ cellGet e.data 0x10 8 < 2 ^ 64 - 1 ∧ -2 ^ 127 ≤ cellAmount e.data + o.amount.toInt ∧ cellAmount e.data + o.amount.toInt ≤ 2 ^ 127 - 1) ∧
    (∃ (s : State) (cell : Nat) (o : TallyOp) (e : CombEntry), Quiet s ∧ (s.tch (channelOf cell)).entryOf cell = some e ∧ e.st = .loading ∧ e.waiting = [o] ∧ o.kind = .read ∧ s.latent = [] ∧ s.poisoned cell = false ∧ 0 < e.most ∧ cellFlag (s.bytesAt .dram cell 64) 0 = true ∧ cellFlag (s.bytesAt .dram cell 64) 2 = false) ∧
    (∃ (s : State) (cell : Nat) (e : CombEntry), Quiet s ∧ (s.tch (channelOf cell)).entryOf cell = some e ∧ e.st = .active ∧ e.dirty = true) ∧
    (∃ (s : State) (cell : Nat) (e : CombEntry), Quiet s ∧ (s.tch (channelOf cell)).entryOf cell = some e ∧ e.st = .flushing ∧ e.data.length = 64 ∧ cell % 64 = 0 ∧ cell + 64 ≤ 2 ^ 41) ∧
    (∃ (s : State) (id ch : Nat) (o : TallyOp) (e : CombEntry), Quiet s ∧ s.parkedOp id = some (ch, o) ∧ ((s.tch ch).parked.find? (fun x => x.cell == o.cell)).map (fun x => x.id) = some id ∧ (s.tch ch).entryOf o.cell = some e ∧ e.st = .loading ∧ e.waiting.length < e.most) ∧
    (∃ (s : State) (id ch : Nat) (o : TallyOp), Quiet s ∧ s.parkedOp id = some (ch, o)) ∧
    (∃ (s : State) (id : Nat) (dn : TallyDone), Quiet s ∧ s.tally.done.find? (fun x => x.op.id == id) = some dn ∧ dn.snapshot = none ∧ 1 ≤ dn.op.cd) ∧
    (∃ (s : State) (core : BitVec 7), Quiet s ∧ core.toNat < 96 ∧ (s.pair core.toNat).halt.isSome = true) ∧
    (∃ (s : State), Quiet s) ∧
    (∃ (s : State) (cell : Nat) (e : CombEntry), Quiet s ∧ cell < 2 ^ 41 ∧ cell % 64 = 0 ∧ (s.tch (channelOf cell)).entryOf cell = some e ∧ e.st = .flushing ∧ s.latent = [] ∧ e.data.length = 64) ∧
    (∃ (s : State) (src : Nat) (val : Word), Quiet s ∧ src < 104 ∧ val.toNat ≤ 4) ∧
    (∃ (s : State) (unit : BitVec 8), Quiet s ∧ 104 ≤ unit.toNat) :=
  ⟨⟨{ tchS ⟨[eAct], []⟩ with tally := { (tchS ⟨[eAct], []⟩).tally with transit := [op3] } }, 3, op3, eAct, by unfold Quiet; decide +kernel⟩,
   ⟨(tchS ⟨[eLoad], []⟩).dataWrite .dram 0x4000 liveC, 0x4000, op3r, eLoad, by unfold Quiet; decide +kernel⟩,
   ⟨tchE .active 2, 0x4000, cellE .active 2, by unfold Quiet; decide +kernel⟩,
   ⟨tchE .flushing 2, 0x4000, cellE .flushing 2, by unfold Quiet; decide +kernel⟩,
   ⟨tchS ⟨[eLoad1], [op3]⟩, 3, channelOf 0x4000, op3, eLoad1, by unfold Quiet; decide +kernel⟩,
   ⟨tchS ⟨[], [op3]⟩, 3, channelOf 0x4000, op3, by unfold Quiet; decide +kernel⟩,
   ⟨{ r with tally := { r.tally with done := [⟨{ op3 with cd := 31 }, 1, none⟩] } }, 3, ⟨{ op3 with cd := 31 }, 1, none⟩, by unfold Quiet; decide +kernel⟩,
   ⟨r.updPair 95 (fun v => { v with halt := some .lockup }), 95, by unfold Quiet; decide +kernel⟩,
   ⟨(r.setFld (Addr.TCH_OCC 3) 0 10 4).bump (Addr.TCH_CNT_WB 3), by unfold Quiet; decide +kernel⟩,
   ⟨tchE .flushing 2, 0x4000, cellE .flushing 2, by unfold Quiet; decide +kernel⟩,
   ⟨r, 103, 4, by unfold Quiet; decide +kernel⟩,
   ⟨r, 105, by unfold Quiet; decide +kernel⟩⟩

end Sys2Proof.Tests
end

section
/-!
PROOFS. How syllables issued alone follow one another, and that what a body does is what its command does (O22).
-/
namespace Sys2Proof.Laws
open Sys2Proof.Machine
open Sys2Proof (Instr)

/-! ## The end of a command -/

/-- What keeps the registers, the pending command, the link and the host's registers leaves nothing for the command's end. -/
theorem atRest_of_same {s t : State} (hq : Quiet s) (hout : t.out = []) (hdev : t.dev = s.dev)
    (hpend : t.sec.pend = s.sec.pend) (hcwl : t.cwl = s.cwl) (hnet : t.net = s.net) : AtRest s t := by
  have hrd : ∀ a, t.rd a = s.rd a := fun a => by unfold State.rd; rw [hdev]
  have hfld : ∀ a lo w, t.fld a lo w = s.fld a lo w := fun a lo w => by unfold State.fld; rw [hrd]
  obtain ⟨hp, hst, hd⟩ := hq
  refine ⟨hout, ⟨hpend.trans hp, ?_, ?_⟩, ?_⟩
  · unfold State.stage; rw [hfld]; exact hst
  · unfold State.detachDue State.standby; rw [hcwl, hrd, hfld]; exact hd
  · unfold State.hbStatus State.pwrState State.hb; rw [hfld, hfld, hnet]

/-! ## Syllables as commands -/

/-- A syllable command runs the syllable's effect: as one of its pair alone, or as one that reaches memory or a unit. -/
theorem exec_of_body {i : Instr} {p : Nat} {f : Body} (hp : pairOf i = some p) (hf : bodyOf i = some f) (s : State) :
    exec i s = runReg i p f s ∨ exec i s = runSyl i p f s := by
  cases i
  all_goals cases hp <;> cases hf
  -- the two differ in the syllable alone, whose arm of `exec` names one of them
  all_goals first | exact .inl rfl | exact .inr rfl

/-- Two states that differ in nothing but how the syllables of pair p follow one another: messages gone, dispatch records, the
pair's mark of a context just resumed, its load delay, debug steps. -/
def SameButSequencing (p : Nat) (s t : State) : Prop :=
  ∃ ps e d, t = { s with out := [], pairs := ps, evd := e, sec := { s.sec with dbgHalt := d } } ∧
    (∀ q, q ≠ p → smGet pairReset ps q = s.pair q) ∧ ∃ r l, smGet pairReset ps p = { s.pair p with resumed := r, delay := l }

namespace SameButSequencing

theorem refl {p : Nat} {s : State} (h : s.out = []) : SameButSequencing p s s :=
  ⟨s.pairs, s.evd, s.sec.dbgHalt, by rw [← h], fun _ _ => rfl, _, _, rfl⟩

theorem trans {p : Nat} {s t u : State} (h : SameButSequencing p s t) (k : SameButSequencing p t u) :
    SameButSequencing p s u := by
  obtain ⟨ps, e, d, rfl, hp, r, l, h1⟩ := h
  obtain ⟨ps', e', d', rfl, hp', r', l', h2⟩ := k
  refine ⟨ps', e', d', rfl, fun q hq => (hp' q hq).trans (hp q hq), r', l', h2.trans ?_⟩
  simp only [State.pair]; rw [h1]; rfl

variable {p : Nat} {s t : State} (h : SameButSequencing p s t)
include h

theorem pair_ne {q : Nat} (hq : q ≠ p) : t.pair q = s.pair q := by
  obtain ⟨ps, e, d, rfl, hp, -⟩ := h; exact hp q hq

theorem pair_self : ∃ r l, t.pair p = { s.pair p with resumed := r, delay := l } := by
  obtain ⟨ps, e, d, rfl, -, hp⟩ := h; exact hp

theorem pair_eq (q : Nat) : ∃ r l, t.pair q = { s.pair q with resumed := r, delay := l } := by
  by_cases hq : q = p
  · subst hq; exact h.pair_self
  · exact ⟨_, _, h.pair_ne hq⟩

theorem bank_eq (q b : Nat) : t.bank q b = s.bank q b := by
  obtain ⟨r, l, hp⟩ := h.pair_eq q
  unfold State.bank; rw [hp]; rfl

theorem sameMemory : SameMemory s t := by
  obtain ⟨ps, e, d, rfl, -⟩ := h; exact ⟨SameMaps.refl _, rfl⟩

theorem sameUnits : SameUnits s t := by
  obtain ⟨ps, e, d, rfl, -⟩ := h
  exact ⟨rfl, rfl, rfl, rfl, rfl, rfl, rfl, rfl, rfl, rfl, rfl, rfl, rfl, rfl, rfl, rfl, rfl⟩

theorem out_eq : t.out = [] := by obtain ⟨ps, e, d, rfl, -⟩ := h; rfl

theorem atRest (hq : Quiet s) : AtRest s t := by
  obtain ⟨ps, e, d, rfl, -⟩ := h
  exact atRest_of_same hq rfl rfl rfl rfl rfl

end SameButSequencing

/-- A change of a pair's resumption mark or load delay is sequencing alone. -/
theorem sameButSequencing_updPair {s : State} (hout : s.out = []) (p : Nat) (f : Pair → Pair)
    (hf : ∀ v, ∃ r l, f v = { v with resumed := r, delay := l }) : SameButSequencing p s (s.updPair p f) := by
  obtain ⟨r, l, h⟩ := hf (s.pair p)
  refine ⟨_, s.evd, s.sec.dbgHalt, by rw [← hout]; rfl, fun q hq => ?_, r, l, ?_⟩
  · exact (State.pair_updPair s p q f).trans (if_neg hq)
  · exact ((State.pair_updPair s p p f).trans (if_pos rfl)).trans h

/-- The handler's first bundle changes records of the dispatch unit alone (R257). -/
theorem firstBundle_eq (s : State) (p b : Nat) : ∃ e, s.firstBundle p b = { s with evd := e } := by
  unfold State.firstBundle State.slotSync State.putDeliv
  repeat' split
  all_goals exact ⟨_, rfl⟩

/-- The state in which a syllable acts is that before its command but for messages gone, dispatch records, and a context's mark
of being just resumed. -/
theorem issued_eq (s : State) (p b : Nat) : ∃ ps e r, issued s p b = { s with out := [], pairs := ps, evd := e } ∧
    (∀ q, q ≠ p → smGet pairReset ps q = s.pair q) ∧ smGet pairReset ps p = { s.pair p with resumed := r } := by
  unfold issued State.enter
  split
  · obtain ⟨e, he⟩ := firstBundle_eq (State.updPair { s with out := [] } p (fun v => { v with resumed := false })) p b
    have hp := State.pair_updPair { s with out := [] } p
    exact ⟨_, e, false, he, fun q hq => (hp q _).trans (if_neg hq), (hp p _).trans (if_pos rfl)⟩
  · obtain ⟨e, he⟩ := firstBundle_eq { s with out := [] } p b
    exact ⟨_, e, _, he, fun q _ => rfl, rfl⟩

theorem sameButSequencing_issued (s : State) (p b : Nat) : SameButSequencing p s (issued s p b) := by
  obtain ⟨ps, e, r, h, hne, hp⟩ := issued_eq s p b
  exact ⟨ps, e, s.sec.dbgHalt, h, hne, r, _, hp⟩

/-- The registers that a syllable reads are those of the state before its command. -/
theorem src_issued (s : State) (p b n : Nat) : (issued s p b).src p b n = s.src p b n := by
  obtain ⟨ps, e, r, h, -, hp⟩ := issued_eq s p b
  have hpair : (issued s p b).pair p = { s.pair p with resumed := r } := by rw [h]; exact hp
  unfold State.src State.bank
  rw [hpair]; rfl

theorem srcX_issued (s : State) (p b n : Nat) : (issued s p b).srcX p b n = s.srcX p b n := by
  unfold State.srcX; rw [src_issued]

theorem sameButSequencing_endDelay {s : State} (h : s.out = []) (p : Nat) : SameButSequencing p s (s.endDelay p) := by
  unfold State.endDelay
  split
  · exact .refl h
  · exact sameButSequencing_updPair h p _ fun v => ⟨v.resumed, [], rfl⟩

theorem sameButSequencing_stepped {s : State} (h : s.out = []) (p : Nat) : SameButSequencing p s (s.stepped p) := by
  unfold State.stepped
  split
  · exact ⟨s.pairs, s.evd, _, by rw [← h]; rfl, fun _ _ => rfl, _, _, rfl⟩
  · exact .refl h

theorem sameButSequencing_loaded {s : State} (h : s.out = []) (c : SCtx) (l : List (Nat × Cap)) :
    SameButSequencing c.pair s (s.loaded c l) := by
  unfold State.loaded
  split
  · exact sameButSequencing_updPair h _ _ fun v => ⟨v.resumed, l, rfl⟩
  · exact .refl h

/-- The end of an issued syllable is sequencing alone. -/
theorem sameButSequencing_ended {s : State} (h : s.out = []) (load : Bool) (p : Nat) :
    SameButSequencing p s (if load then retiredLoad p s else retired p s) := by
  cases load
  · have e := sameButSequencing_endDelay h p
    exact e.trans (sameButSequencing_stepped e.out_eq p)
  · exact sameButSequencing_stepped h p

/-- The end of an issued syllable leaves nothing more for the command's end to do. -/
theorem atRest_ended {s u : State} (h : AtRest s u) (load : Bool) (p : Nat) :
    AtRest s (if load then retiredLoad p u else retired p u) := by
  obtain ⟨hout, hq, hhb⟩ := h
  obtain ⟨h1, h2, h3⟩ := (sameButSequencing_ended hout load p).atRest hq
  exact ⟨h1, h2, h3.trans hhb⟩

end Sys2Proof.Laws

namespace Sys2Proof
open Sys2Proof.Machine Sys2Proof.Laws

/-- Settles O22: both ways in which `exec` runs a syllable give its body's state, with the end of an issued syllable. -/
theorem syllableCompletes : Obligations.SyllableCompletes := by
  intro i p b s u n f l hp hi hn hf hb hr
  rcases exec_of_body hp hf s with h | h
  · rw [h, runReg_ok hi hn hb]
  · rw [h, runSyl_ok hi hn hb rfl (atRest_ended hr n.load p)]

end Sys2Proof
end

section
/-!
PROOFS. Plain memory, and data loads of it (O13).
-/
namespace Sys2Proof.Laws
open Sys2Proof.Machine
open Sys2Proof (Instr)

/-! ## Accesses to plain memory -/

namespace SameButSequencing
variable {p : Nat} {s t : State} (h : SameButSequencing p s t)
include h

theorem rcuOn_eq : t.rcuOn = s.rcuOn := by obtain ⟨ps, e, d, rfl, -⟩ := h; rfl
theorem tally_eq : t.tally = s.tally := by obtain ⟨ps, e, d, rfl, -⟩ := h; rfl
theorem latent_eq : t.latent = s.latent := by obtain ⟨ps, e, d, rfl, -⟩ := h; rfl

theorem plainAccess {q b ea n : Nat} {a : Cap} {need : List Nat} (k : PlainAccess s q b a ea n need) :
    PlainAccess t q b a ea n need := by
  unfold PlainAccess at k ⊢
  rwa [h.bank_eq, h.rcuOn_eq, h.tally_eq, h.latent_eq]

end SameButSequencing

/-- The space of a plain access is DRAM (R562, R425). -/
theorem spaceOf_dram {p pa : Nat} (h : isSentinel p = true → 0x80000 ≤ pa) (hl : pa < 2 ^ 41) : spaceOf p pa = .dram := by
  have h1 : (isSentinel p && decide (pa < 0x80000)) = false := by
    cases hp : isSentinel p
    · rfl
    · simpa using h hp
  unfold spaceOf
  rw [h1, if_neg (by simp), if_pos (by simpa using hl)]

/-- An access that meets no combining entry and no error changes nothing before DRAM. -/
theorem dramEnter_plain {s : State} (ht : s.tally.chans = []) (hl : s.latent = []) (pa n : Nat) : s.dramEnter pa n = s := by
  unfold State.dramEnter
  simp [ht, hl]

/-- A plain access is one part, translated in bare mode and permitted (R309, R147). -/
theorem planAccess_plain {s : State} {p b ea n : Nat} {a : Cap} {need : List Nat} (h : PlainAccess s p b a ea n need)
    (k : AKind) (capAcc : Bool) :
    planAccess s (s.via p b) k capAcc ea n = .ok [⟨ea, ea, n, .dram, 0, true, none⟩] s := by
  obtain ⟨-, hn, hline, htop, hsen, hbare, hrcu, -, -⟩ := h
  have hsp : spaceOf p ea = .dram := spaceOf_dram hsen (by omega)
  have hx : xlate s (s.via p b) k ea n = .ok ⟨ea, ea, n, .dram, 0, true, none⟩ s := by
    unfold xlate
    rw [if_pos (show (s.via p b).ttbc % 2 = 0 from hbare)]
    unfold bareXlate
    rw [if_neg (by omega)]
    dsimp only
    rw [show spaceOf (s.via p b).pair ea = .dram from hsp]
    cases k <;> rfl
  have hok : ∀ kind : RKind, s.pairOk p (s.via p b).task .dram ea n kind = true := fun kind => by
    unfold State.pairOk State.globalOk
    rw [hrcu]
    cases (s.via p b).task <;> rfl
  have hc : pieceCheck s (s.via p b) k true capAcc ea n ⟨ea, ea, n, .dram, 0, true, none⟩ = none := by
    unfold pieceCheck
    have hp : (s.via p b).pair = p := rfl
    simp [hok, hp, Space.tagged]
  unfold planAccess
  rw [show splitLines ea n 2 = [(ea, n)] from by unfold splitLines; exact if_pos (by omega)]
  simp only [planParts, hx, hc]

/-- A plain load reads the bytes of DRAM and changes nothing (R5, R147). -/
theorem memLoad_plain {s : State} {p b ea n : Nat} {a : Cap} {c : SCtx} (h : PlainAccess s p b a ea n [permLD])
    (hp : c.pair = p) (hb : c.bank = b) (operand : Nat) : memLoad c a operand ea n s = .ok (s.numAt .dram ea n) s := by
  have hplan := planAccess_plain h .load false
  obtain ⟨hcheck, -, -, -, -, -, -, htally, hlat⟩ := h
  subst hp hb
  unfold memLoad
  rw [hcheck, hplan]
  simp only [Res.bind, State.doLoad, if_neg (show (Space.dram ≠ Space.dev) by decide)]
  simp [State.readPieces, dramEnter_plain htally hlat, State.numAt]

/-- A plain store is one part of DRAM, and the store writes it (R72, R147). -/
theorem planStore_plain {s : State} {p b ea n : Nat} {a : Cap} {c : SCtx} (h : PlainAccess s p b a ea n [permST])
    (hp : c.pair = p) (hb : c.bank = b) (operand : Nat) :
    planStore c a operand ea n s = .ok [⟨ea, ea, n, .dram, 0, true, none⟩] s := by
  have hplan := planAccess_plain h .store false
  obtain ⟨hcheck, -⟩ := h
  subst hp hb
  unfold planStore
  rw [hcheck, hplan]

theorem doStore_plain {s : State} (ht : s.tally.chans = []) (hl : s.latent = []) (c : SCtx) (ea n val : Nat) :
    s.doStore c [⟨ea, ea, n, .dram, 0, true, none⟩] n val = s.dataWrite .dram ea (natBytes n val) := by
  unfold State.doStore
  simp only [if_neg (show (Space.dram ≠ Space.dev) by decide), State.writePieces, if_true, dramEnter_plain ht hl]
  rw [List.take_of_length_le (by simp)]

/-! ## Data loads -/

theorem SameMemory.trans {s t u : State} (h : SameMemory s t) (k : SameMemory t u) : SameMemory s u :=
  ⟨SameMaps.trans h.1 k.1, k.2.trans h.2⟩

theorem SameUnits.trans {s t u : State} (h : SameUnits s t) (k : SameUnits t u) : SameUnits s u := by
  obtain ⟨h1, h2, h3, h4, h5, h6, h7, h8, h9, h10, h11, h12, h13, h14, h15, h16, h17⟩ := h
  obtain ⟨k1, k2, k3, k4, k5, k6, k7, k8, k9, k10, k11, k12, k13, k14, k15, k16, k17⟩ := k
  exact ⟨k1.trans h1, k2.trans h2, k3.trans h3, k4.trans h4, k5.trans h5, k6.trans h6, k7.trans h7, k8.trans h8, k9.trans h9,
    k10.trans h10, k11.trans h11, k12.trans h12, k13.trans h13, k14.trans h14, k15.trans h15, k16.trans h16, k17.trans h17⟩

theorem regs_setReg (k : Bank) (n : Nat) (c : Cap) : { k.setReg n c with regs := [] } = { k with regs := [] } := by
  unfold Bank.setReg; split <;> rfl

theorem toNat_eq_zero_iff (cd : RegIx) : cd.toNat = 0 ↔ cd = 0 := by
  constructor
  · intro h; exact BitVec.eq_of_toNat_eq (by simpa using h)
  · rintro rfl; rfl

/-- A register written changes that register alone (R35, R119). -/
theorem onlyRegister_setReg {s u v t : State} {p b : Nat} {cd : RegIx} {c : Cap}
    (hv : SameButSequencing p s v) (hu : u = v.setReg p b cd.toNat c) (ht : SameButSequencing p u t) : OnlyRegister s t p b cd c := by
  have hbank : ∀ q e, t.bank q e = if q = p ∧ e = b then (s.bank p b).setReg cd.toNat c else s.bank q e := fun q e => by
    rw [ht.bank_eq, hu]; unfold State.setReg; rw [State.bank_updBank, hv.bank_eq, hv.bank_eq]
  have hself : t.bank p b = (s.bank p b).setReg cd.toNat c := by rw [hbank, if_pos ⟨rfl, rfl⟩]
  obtain ⟨x, l, hp⟩ := ht.pair_eq p
  obtain ⟨x', l', hp'⟩ := hv.pair_eq p
  have hpair : u.pair p = (v.pair p).setBank b ((v.bank p b).setReg cd.toNat c) := by
    rw [hu]; unfold State.setReg State.updBank; rw [State.pair_setBank, if_pos rfl]
  rw [hpair, hp'] at hp
  refine ⟨?_, fun n hn => ?_, ?_, fun e he => ?_, ?_, ?_, ?_, ?_, ?_, ?_, ?_, fun q hq => ?_⟩
  · rw [hself, Bank.reg_setReg]
    by_cases h : cd = 0
    · rw [if_pos ((toNat_eq_zero_iff cd).2 h), if_pos h]
    · rw [if_neg (fun h0 => h ((toNat_eq_zero_iff cd).1 h0)), if_pos rfl, if_neg h]
  · rw [hself, Bank.reg_setReg, if_neg hn]
    split
    · next h => rw [h]; rfl
    · rfl
  · rw [hself]; exact regs_setReg _ _ _
  · rw [hbank, if_neg (fun h => he h.2)]
  case refine_12 =>
    rw [ht.pair_ne hq, hu]; unfold State.setReg State.updBank; rw [State.pair_setBank, if_neg hq, hv.pair_ne hq]
  all_goals rw [hp]; rfl

/-! ## Bytes of DRAM -/

theorem bytesAt_eq_map (s : State) (sp : Space) (n : Nat) :
    ∀ pa, s.bytesAt sp pa n = (List.range n).map (fun i => s.byteAt sp (pa + i)) := by
  induction n with
  | zero => intro pa; rfl
  | succ n ih =>
    intro pa
    rw [List.range_succ_eq_map, List.map_cons, List.map_map]
    show s.byteAt sp pa :: s.bytesAt sp (pa + 1) n = _
    rw [ih]
    congr 1
    exact List.map_congr_left fun i _ => by simp [Nat.add_assoc, Nat.add_comm 1]

/-- The bytes of DRAM are those of its map. -/
theorem bytesAt_of_mem {s t : State} (h : t.mem = s.mem) (pa n : Nat) : t.bytesAt .dram pa n = s.bytesAt .dram pa n := by
  rw [bytesAt_eq_map, bytesAt_eq_map]
  unfold State.byteAt
  rw [h]

theorem numAt_of_mem {s t : State} (h : t.mem = s.mem) (pa n : Nat) : t.numAt .dram pa n = s.numAt .dram pa n := by
  unfold State.numAt; rw [bytesAt_of_mem h]

/-! ## Data loads -/

/-- What sequencing alone follows is at rest where its start was. -/
theorem atRest_of_sequencing {p : Nat} {s u t : State} (h : AtRest s u) (k : SameButSequencing p u t) : AtRest s t := by
  obtain ⟨-, hq, hhb⟩ := h
  obtain ⟨h1, h2, h3⟩ := k.atRest hq
  exact ⟨h1, h2, h3.trans hhb⟩

/-- What a data load of `size` bytes that read v writes: v sign-extended or zero-extended (R145). -/
def extended (size : Nat) (signed : Bool) (v : Nat) : Word :=
  if signed then (BitVec.ofNat (8 * size) v).signExtend 64 else BitVec.ofNat 64 v

/-- The body of a data load of plain memory writes the bytes, extended, to its register (R5, R145). -/
theorem loadData_plain {s : State} {c : SCtx} {size : Nat} (signed : Bool) (cd : RegIx) {cs1 : RegIx} {d : SCtx → State → Int}
    {ea : Nat} (hea : effAddr (s.src c.pair c.bank cs1.toNat) (d c s) = ea)
    (hm : PlainAccess s c.pair c.bank (s.src c.pair c.bank cs1.toNat) ea size [permLD]) :
    loadData size signed cd cs1 d c s =
      .ok false ((s.setReg c.pair c.bank cd.toNat (intCap (extended size signed (s.numAt .dram ea size)))).loaded c
        [(cd.toNat, (s.bank c.pair c.bank).reg cd.toNat)]) := by
  unfold loadData
  dsimp only
  rw [hea, memLoad_plain hm rfl rfl]
  rfl

/-- A data load of plain memory completes: it writes the bytes, extended, and changes nothing else (R5, R145, R147). -/
theorem dataLoad_completes {i : Instr} {p b size : Nat} {signed : Bool} {cd cs1 : RegIx} {d : SCtx → State → Int} {s : State}
    {n : SylInfo} {ea : Nat} (hi : Issues i p b s) (hp : pairOf i = some p) (hn : infoOf i = some n)
    (hf : bodyOf i = some (loadData size signed cd cs1 d)) (hq : Quiet s)
    (hm : PlainAccess s p b (s.src p b cs1.toNat) ea size [permLD])
    (hea : ea = effAddr (s.src p b cs1.toNat) (d ((issued s p b).ctxFor p b n) (issued s p b))) :
    ∃ t, exec i s = .next t ∧ OnlyRegister s t p b cd (intCap (extended size signed (s.numAt .dram ea size))) ∧
      SameMemory s t ∧ SameUnits s t := by
  have hv := sameButSequencing_issued s p b
  have hsrc := src_issued s p b cs1.toNat
  have hbody := loadData_plain (c := (issued s p b).ctxFor p b n) signed cd
    ((congrArg (effAddr · _) hsrc).trans hea.symm) (hv.plainAccess (hsrc ▸ hm))
  rw [numAt_of_mem hv.sameMemory.1.1 ea size] at hbody
  have hrest : AtRest s ((issued s p b).setReg p b cd.toNat (intCap (extended size signed (s.numAt .dram ea size)))) :=
    hv.atRest hq
  have hload := sameButSequencing_loaded hrest.1 ((issued s p b).ctxFor p b n) [(cd.toNat, ((issued s p b).bank p b).reg cd.toNat)]
  have hend := hload.trans (sameButSequencing_ended hload.out_eq n.load p)
  refine ⟨_, syllableCompletes i p b s _ n _ false hp hi hn hf hbody (atRest_of_sequencing hrest hload),
    onlyRegister_setReg hv rfl hend, ?_, ?_⟩
  · exact SameMemory.trans hv.sameMemory hend.sameMemory
  · exact SameUnits.trans hv.sameUnits hend.sameUnits

theorem dispX_issued (s : State) (p b : Nat) (cs2 : RegIx) (n : SylInfo) :
    dispX cs2 ((issued s p b).ctxFor p b n) (issued s p b) = ((s.srcX p b cs2.toNat).toNat : Int) :=
  congrArg (fun x : Word => (x.toNat : Int)) (srcX_issued s p b cs2.toNat)

/-- The immediate form of a data load. -/
theorem immLoad_completes (size : Nat) (signed : Bool) {i : Instr} {p b : Nat} {cd cs1 : RegIx} {disp : Int} {s : State}
    {n : SylInfo} {ea : Nat} (hi : Issues i p b s) (hp : pairOf i = some p) (hn : infoOf i = some n)
    (hf : bodyOf i = some (loadData size signed cd cs1 (fun _ _ => disp))) (hq : Quiet s)
    (hm : PlainAccess s p b (s.src p b cs1.toNat) ea size [permLD]) (hea : ea = effAddr (s.src p b cs1.toNat) disp) :
    ∃ t, exec i s = .next t ∧ OnlyRegister s t p b cd (intCap (extended size signed (s.numAt .dram ea size))) ∧
      SameMemory s t ∧ SameUnits s t :=
  dataLoad_completes hi hp hn hf hq hm hea

/-- The indexed form of a data load. -/
theorem indexedLoad_completes (size : Nat) (signed : Bool) {i : Instr} {p b : Nat} {cd cs1 cs2 : RegIx} {s : State}
    {n : SylInfo} {ea : Nat} (hi : Issues i p b s) (hp : pairOf i = some p) (hn : infoOf i = some n)
    (hf : bodyOf i = some (loadData size signed cd cs1 (dispX cs2))) (hq : Quiet s)
    (hm : PlainAccess s p b (s.src p b cs1.toNat) ea size [permLD])
    (hea : ea = effAddr (s.src p b cs1.toNat) ((s.srcX p b cs2.toNat).toNat : Int)) :
    ∃ t, exec i s = .next t ∧ OnlyRegister s t p b cd (intCap (extended size signed (s.numAt .dram ea size))) ∧
      SameMemory s t ∧ SameUnits s t :=
  dataLoad_completes hi hp hn hf hq hm (by rw [dispX_issued]; exact hea)

end Sys2Proof.Laws

namespace Sys2Proof
open Sys2Proof.Machine Sys2Proof.Laws

/-- Settles O13: each form is a plain load at its size and extension, its address by its displacement. -/
theorem dataLoadsReadMemory : Obligations.DataLoadsReadMemory := by
  intro p b cd cs1 cs2 imm s a ha hq
  subst ha
  refine ⟨?_, ?_, ?_, ?_, ?_, ?_, ?_, ?_, ?_, ?_, ?_, ?_, ?_, ?_⟩ <;> intro ea hea hm hi
  · exact immLoad_completes 1 true hi rfl rfl rfl hq hm hea
  · exact immLoad_completes 1 false hi rfl rfl rfl hq hm hea
  · exact immLoad_completes 2 true hi rfl rfl rfl hq hm hea
  · exact immLoad_completes 2 false hi rfl rfl rfl hq hm hea
  · exact immLoad_completes 4 true hi rfl rfl rfl hq hm hea
  · exact immLoad_completes 4 false hi rfl rfl rfl hq hm hea
  · exact immLoad_completes 8 false hi rfl rfl rfl hq hm hea
  · exact indexedLoad_completes 1 true hi rfl rfl rfl hq hm hea
  · exact indexedLoad_completes 1 false hi rfl rfl rfl hq hm hea
  · exact indexedLoad_completes 2 true hi rfl rfl rfl hq hm hea
  · exact indexedLoad_completes 2 false hi rfl rfl rfl hq hm hea
  · exact indexedLoad_completes 4 true hi rfl rfl rfl hq hm hea
  · exact indexedLoad_completes 4 false hi rfl rfl rfl hq hm hea
  · exact indexedLoad_completes 8 false hi rfl rfl rfl hq hm hea

end Sys2Proof
end

section
/-!
PROOFS. Data writes to DRAM, and data stores to plain memory (O14).
-/
namespace Sys2Proof.Laws
open Sys2Proof.Machine
open Sys2Proof (Instr)

/-! ## Data writes to DRAM -/

/-- A reservation lost changes nothing else of a pair (R152). -/
theorem pair_loseResv (s : State) (l n q : Nat) : ∃ r, (s.loseResv l n).pair q = { s.pair q with resv := r } := by
  suffices h : ∀ m : List (Nat × Pair), ∃ r, smGet pairReset (m.map (fun e => match e.2.resv with
      | some k => if l ≤ k && k < l + n then (e.1, { e.2 with resv := none }) else e
      | none => e)) q = { smGet pairReset m q with resv := r } from h s.pairs
  intro m
  induction m with
  | nil => exact ⟨_, rfl⟩
  | cons e m ih =>
    obtain ⟨r, hr⟩ := ih
    have hkey : ∃ r', (match e.2.resv with
        | some k => if l ≤ k && k < l + n then (e.1, { e.2 with resv := none }) else e
        | none => e) = (e.1, { e.2 with resv := r' }) := by
      split
      · split
        · exact ⟨none, rfl⟩
        · exact ⟨e.2.resv, rfl⟩
      · exact ⟨e.2.resv, rfl⟩
    obtain ⟨r', hr'⟩ := hkey
    rw [List.map_cons, hr']
    by_cases h : e.1 = q
    · refine ⟨r', ?_⟩
      simp only [smGet, h, if_true]
    · refine ⟨r, ?_⟩
      simp only [smGet, h, if_false]
      exact hr

theorem unpoison_eq (n : Nat) : ∀ (s : State) (line : Nat),
    ∃ po la, s.unpoison line n = { s with poison := po, latent := la } := by
  induction n with
  | zero => intro s line; exact ⟨s.poison, s.latent, rfl⟩
  | succ n ih => intro s line; obtain ⟨po, la, h⟩ := ih _ (line + 1); exact ⟨po, la, h⟩

theorem clearTagsFrom_dram_eq (n : Nat) : ∀ (s : State) (pa : Nat), ∃ tg, s.clearTagsFrom .dram pa n = { s with tags := tg } := by
  induction n with
  | zero => intro s pa; exact ⟨s.tags, rfl⟩
  | succ n ih => intro s pa; obtain ⟨tg, h⟩ := ih (s.setTag .dram pa false) (pa + 16); exact ⟨tg, h⟩

/-- A data write to DRAM changes bytes, tags, poison, errors not yet read, old code, and reservations alone (R72, R152). -/
theorem dataWrite_dram_eq (s : State) (pa : Nat) (bs : List Byte) :
    ∃ m tg po la st ps, s.dataWrite .dram pa bs =
        { s with mem := m, tags := tg, poison := po, latent := la, stale := st, pairs := ps } ∧
      ∀ q, ∃ r, smGet pairReset ps q = { s.pair q with resv := r } := by
  obtain ⟨po, la, h⟩ := unpoison_eq (linesIn pa bs.length) s (pa / 64)
  obtain ⟨tg, ht⟩ := clearTagsFrom_dram_eq (granulesIn pa bs.length)
    (let s1 := ((s.unpoison (pa / 64) (linesIn pa bs.length)).loseResv (pa / 64) (linesIn pa bs.length)).keepCode (pa / 4)
       (wordsIn pa bs.length)
     { s1 with mem := writeBytes s1.mem pa bs }) pa
  refine ⟨_, tg, po, la, _, _, ht.trans (by rw [h]; rfl), fun q => ?_⟩
  exact pair_loseResv s (pa / 64) (linesIn pa bs.length) q

section
variable (s : State) (pa : Nat) (bs : List Byte)

theorem sameUnits_dataWrite : SameUnits s (s.dataWrite .dram pa bs) := by
  obtain ⟨m, tg, po, la, st, ps, h, -⟩ := dataWrite_dram_eq s pa bs
  rw [h]
  exact ⟨rfl, rfl, rfl, rfl, rfl, rfl, rfl, rfl, rfl, rfl, rfl, rfl, rfl, rfl, rfl, rfl, rfl⟩

theorem pair_dataWrite (q : Nat) : ∃ r, (s.dataWrite .dram pa bs).pair q = { s.pair q with resv := r } := by
  obtain ⟨m, tg, po, la, st, ps, h, hp⟩ := dataWrite_dram_eq s pa bs
  rw [h]; exact hp q

theorem atRest_dataWrite {s0 : State} (h : AtRest s0 s) : AtRest s0 (s.dataWrite .dram pa bs) := by
  obtain ⟨m, tg, po, la, st, ps, hw, -⟩ := dataWrite_dram_eq s pa bs
  rw [hw]; exact h

theorem dataWrite_others : (s.dataWrite .dram pa bs).tcm = s.tcm ∧ (s.dataWrite .dram pa bs).jarr = s.jarr ∧
    (s.dataWrite .dram pa bs).boot = s.boot ∧ (s.dataWrite .dram pa bs).bitmap = s.bitmap := by
  obtain ⟨m, tg, po, la, st, ps, h, -⟩ := dataWrite_dram_eq s pa bs
  rw [h]; exact ⟨rfl, rfl, rfl, rfl⟩

/-- Bytes written are read back (R5). -/
theorem bytesAt_dataWrite_self : (s.dataWrite .dram pa bs).bytesAt .dram pa bs.length = bs := by
  rw [bytesAt_eq_map]
  refine List.ext_getElem (by simp) fun i h1 h2 => ?_
  rw [List.getElem_map, List.getElem_range, byteAt_dataWrite, if_pos (by omega)]
  rw [Nat.add_sub_cancel_left, List.getD_eq_getElem _ _ h2]

theorem sameBytesOutside_dataWrite {n : Nat} (h : bs.length = n) : SameBytesOutside s (s.dataWrite .dram pa bs) pa n := by
  subst h
  intro a ha
  rw [byteAt_dataWrite, if_neg (by omega)]

theorem sameTagsOutside_dataWrite {n : Nat} (h : bs.length = n) (hn : 0 < n) :
    SameTagsOutside s (s.dataWrite .dram pa bs) pa n := by
  subst h
  intro a ha
  rw [tagAt_dataWrite, if_neg]
  unfold granulesIn
  split <;> omega

theorem tagAt_dataWrite_inside {j : Nat} (h : j < bs.length) : (s.dataWrite .dram pa bs).tagAt .dram (pa + j) = false := by
  rw [tagAt_dataWrite, if_pos]
  unfold granulesIn
  split <;> omega

end

/-! ## Data stores -/

/-- The body of a data store of plain memory writes the low bytes of its register (R5, R145). -/
theorem storeData_plain {s : State} {c : SCtx} {size : Nat} (cd : RegIx) {cs1 : RegIx} {d : SCtx → State → Int}
    {ea : Nat} {x : Word} (hea : effAddr (s.src c.pair c.bank cs1.toNat) (d c s) = ea) (hx : s.srcX c.pair c.bank cd.toNat = x)
    (hm : PlainAccess s c.pair c.bank (s.src c.pair c.bank cs1.toNat) ea size [permST]) :
    storeData size cd cs1 d c s = .ok false (s.dataWrite .dram ea (natBytes size x.toNat)) := by
  have hplan := planStore_plain hm rfl rfl 1
  obtain ⟨-, -, -, -, -, -, -, htally, hlat⟩ := hm
  unfold storeData
  dsimp only
  rw [hea, hx, hplan]
  exact congrArg (Res.ok false) (doStore_plain htally hlat _ _ _ _)

/-- What a data store of n bytes at ea leaves: the low bytes of x, tags clear where it wrote, all else as before (R72, R149). -/
def Stored (s t : State) (ea n : Nat) (x : Word) : Prop :=
  t.numAt .dram ea n = x.toNat % 2 ^ (8 * n) ∧ SameBytesOutside s t ea n ∧ (∀ j, j < n → t.tagAt .dram (ea + j) = false) ∧
    SameTagsOutside s t ea n ∧ SameRegisters s t ∧ SameUnits s t ∧ t.tcm = s.tcm ∧ t.jarr = s.jarr ∧ t.boot = s.boot ∧
    t.bitmap = s.bitmap

theorem stored_dataWrite {s v t : State} {p ea n : Nat} (hn : 0 < n) (x : Word) (hv : SameButSequencing p s v)
    (ht : SameButSequencing p (v.dataWrite .dram ea (natBytes n x.toNat)) t) : Stored s t ea n x := by
  have hlen : (natBytes n x.toNat).length = n := natBytes_length n _
  obtain ⟨⟨hmem, htags, -, -, hbit, htcm, -, hjarr, hboot⟩, -⟩ := ht.sameMemory
  obtain ⟨⟨vmem, vtags, -, -, vbit, vtcm, -, vjarr, vboot⟩, -⟩ := hv.sameMemory
  obtain ⟨dtcm, djarr, dboot, dbit⟩ := dataWrite_others v ea (natBytes n x.toNat)
  have tbyte : ∀ a, t.byteAt .dram a = (v.dataWrite .dram ea (natBytes n x.toNat)).byteAt .dram a := fun a => by
    unfold State.byteAt; rw [hmem]
  have vbyte : ∀ a, v.byteAt .dram a = s.byteAt .dram a := fun a => by unfold State.byteAt; rw [vmem]
  have ttag : ∀ a, t.tagAt .dram a = (v.dataWrite .dram ea (natBytes n x.toNat)).tagAt .dram a := fun a => by
    unfold State.tagAt; rw [htags]
  have vtag : ∀ a, v.tagAt .dram a = s.tagAt .dram a := fun a => by unfold State.tagAt; rw [vtags]
  refine ⟨?_, fun a ha => ?_, fun j hj => ?_, fun a ha => ?_, fun q => ?_, ?_, htcm.trans (dtcm.trans vtcm),
    hjarr.trans (djarr.trans vjarr), hboot.trans (dboot.trans vboot), hbit.trans (dbit.trans vbit)⟩
  · have hself := bytesAt_dataWrite_self v ea (natBytes n x.toNat)
    rw [hlen] at hself
    rw [numAt_of_mem hmem]
    unfold State.numAt
    rw [hself, bytesNat_natBytes, Nat.pow_mul]
  · rw [tbyte, sameBytesOutside_dataWrite v ea _ hlen a ha, vbyte]
  · rw [ttag, tagAt_dataWrite_inside v ea _ (by rw [hlen]; exact hj)]
  · rw [ttag, sameTagsOutside_dataWrite v ea _ hlen hn a ha, vtag]
  · obtain ⟨r1, l1, h1⟩ := ht.pair_eq q
    obtain ⟨r2, h2⟩ := pair_dataWrite v ea (natBytes n x.toNat) q
    obtain ⟨r3, l3, h3⟩ := hv.pair_eq q
    rw [h1, h2, h3]
    exact ⟨rfl, rfl, rfl, rfl, rfl, rfl, rfl, rfl⟩
  · exact SameUnits.trans hv.sameUnits (SameUnits.trans (sameUnits_dataWrite v ea _) ht.sameUnits)

/-- A data store of plain memory completes: it writes its bytes, clears the tags they touch, and changes nothing else (R72,
R145, R149). -/
theorem dataStore_completes {i : Instr} {p b size : Nat} {cd cs1 : RegIx} {d : SCtx → State → Int} {s : State}
    {n : SylInfo} {ea : Nat} (hi : Issues i p b s) (hp : pairOf i = some p) (hn : infoOf i = some n)
    (hf : bodyOf i = some (storeData size cd cs1 d)) (hq : Quiet s)
    (hm : PlainAccess s p b (s.src p b cs1.toNat) ea size [permST])
    (hea : ea = effAddr (s.src p b cs1.toNat) (d ((issued s p b).ctxFor p b n) (issued s p b))) :
    ∃ t, exec i s = .next t ∧ Stored s t ea size (s.srcX p b cd.toNat) := by
  have hv := sameButSequencing_issued s p b
  have hbody := storeData_plain (c := (issued s p b).ctxFor p b n) cd
    ((congrArg (effAddr · _) (src_issued s p b cs1.toNat)).trans hea.symm) (srcX_issued s p b cd.toNat)
    (hv.plainAccess ((src_issued s p b cs1.toNat) ▸ hm))
  have hrest := atRest_dataWrite (issued s p b) ea (natBytes size (s.srcX p b cd.toNat).toNat) (hv.atRest hq)
  exact ⟨_, syllableCompletes i p b s _ n _ false hp hi hn hf hbody hrest,
    stored_dataWrite hm.2.1 _ hv (sameButSequencing_ended hrest.1 n.load p)⟩

/-- The immediate form of a data store. -/
theorem immStore_completes (size : Nat) {i : Instr} {p b : Nat} {cd cs1 : RegIx} {disp : Int} {s : State}
    {n : SylInfo} {ea : Nat} (hi : Issues i p b s) (hp : pairOf i = some p) (hn : infoOf i = some n)
    (hf : bodyOf i = some (storeData size cd cs1 (fun _ _ => disp))) (hq : Quiet s)
    (hm : PlainAccess s p b (s.src p b cs1.toNat) ea size [permST]) (hea : ea = effAddr (s.src p b cs1.toNat) disp) :
    ∃ t, exec i s = .next t ∧ Stored s t ea size (s.srcX p b cd.toNat) :=
  dataStore_completes hi hp hn hf hq hm hea

/-- The indexed form of a data store. -/
theorem indexedStore_completes (size : Nat) {i : Instr} {p b : Nat} {cd cs1 cs2 : RegIx} {s : State}
    {n : SylInfo} {ea : Nat} (hi : Issues i p b s) (hp : pairOf i = some p) (hn : infoOf i = some n)
    (hf : bodyOf i = some (storeData size cd cs1 (dispX cs2))) (hq : Quiet s)
    (hm : PlainAccess s p b (s.src p b cs1.toNat) ea size [permST])
    (hea : ea = effAddr (s.src p b cs1.toNat) ((s.srcX p b cs2.toNat).toNat : Int)) :
    ∃ t, exec i s = .next t ∧ Stored s t ea size (s.srcX p b cd.toNat) :=
  dataStore_completes hi hp hn hf hq hm (by rw [dispX_issued]; exact hea)

end Sys2Proof.Laws

namespace Sys2Proof
open Sys2Proof.Machine Sys2Proof.Laws

/-- Settles O14: each form is a plain store at its size, its address by its displacement. -/
theorem dataStoresWriteMemory : Obligations.DataStoresWriteMemory := by
  intro p b cd cs1 cs2 imm s a ha hq
  subst ha
  refine ⟨?_, ?_, ?_, ?_, ?_, ?_, ?_, ?_⟩ <;> intro ea hea hm hi
  · exact immStore_completes 1 hi rfl rfl rfl hq hm hea
  · exact immStore_completes 2 hi rfl rfl rfl hq hm hea
  · exact immStore_completes 4 hi rfl rfl rfl hq hm hea
  · exact immStore_completes 8 hi rfl rfl rfl hq hm hea
  · exact indexedStore_completes 1 hi rfl rfl rfl hq hm hea
  · exact indexedStore_completes 2 hi rfl rfl rfl hq hm hea
  · exact indexedStore_completes 4 hi rfl rfl rfl hq hm hea
  · exact indexedStore_completes 8 hi rfl rfl rfl hq hm hea

end Sys2Proof
end

section
/-!
PROOFS. A locked up pair with an operation parked outside the sixteen channels (O42).
-/
namespace Sys2Proof.Laws
open Sys2Proof.Machine
open Sys2Proof (Instr)

/-! ## A channel map that lists more than the sixteen channels -/

/-- A read of the tally cell at 0 that waits in a park buffer for pair 0. -/
def strayOp : TallyOp :=
  { id := 0, pair := 0, bank := 0, task := none, kind := .read, cell := 0, amount := 0, stampTime := 0, stampUnc := false,
    stampPort := 0, sat := false, reqT := 0, cd := 0, dst := [] }

/-- The machine at reset with task 0 running on pair 0 and an operation of pair 0 parked in a channel 16, which no machine has but the
channel map may list. -/
def strayChannel : State :=
  { State.reset.updPair 0 (fun v => { v with run := some 0 }) with
    tally := { State.reset.tally with chans := [(16, ⟨[], [strayOp]⟩)] } }

theorem quiet_strayChannel : Quiet strayChannel := by unfold Quiet; decide +kernel

theorem run_strayChannel : (strayChannel.pair 0).run = some 0 := by decide +kernel

/-- The lockup of pair 0 after its failed store drops what waits in the channels 0 to 15 (R221), so the operation stays. -/
theorem not_tallySettled_strayChannel {u : State} (h : exec (.fabricTimeout 0 0 0 true false) strayChannel = .next u) :
    u.tallySettled 0 = false := by
  obtain rfl : State.cmd (fun s => s.fabricTimeout 0 0 0 true false) strayChannel = u := by injection h
  decide +kernel

end Sys2Proof.Laws

namespace Sys2Proof
open Sys2Proof.Machine Sys2Proof.Laws

/-- Refutes O42 at its last clause: it says that nothing of a locked up pair is left in the tally units, for every quiet state, without
the premise that the channel map lists no more than the sixteen channels; an operation parked in a channel 16 is left. -/
theorem not_registerWrites : ¬ Obligations.RegisterWrites := by
  intro h
  obtain ⟨-, -, -, -, -, -, -, -, -, -, -, -, -, -, -, -, -, -, -, -, -, -, -, -, -, -, -, hlock⟩ :=
    h 0 0 0 0 0 0 true false strayChannel quiet_strayChannel
  obtain ⟨u, hu, -, -, -, -, hsettled, -⟩ := hlock (by decide) run_strayChannel
  have hleft := not_tallySettled_strayChannel hu
  rw [show (0 : BitVec 8).toNat = 0 from rfl] at hsettled
  rw [hsettled (by decide)] at hleft
  exact Bool.noConfusion hleft

end Sys2Proof
end

section
/-!
PROOFS. Bit fields and device registers, and the end of a command that is quiet.
-/
namespace Sys2Proof.Laws
open Sys2Proof.Machine
open Sys2Proof (Instr)

/-! ## Bit fields of a number -/

theorem testBit_bitsAt (x lo w i : Nat) : (bitsAt x lo w).testBit i = (decide (i < w) && x.testBit (lo + i)) := by
  unfold bitsAt
  rw [Nat.testBit_mod_two_pow, Nat.testBit_div_two_pow, Nat.add_comm]

/-- A field replaced: the number in three parts, above, in and below the field. -/
theorem setBitsAt_eq (x lo w v : Nat) :
    setBitsAt x lo w v = 2 ^ (lo + w) * (x / 2 ^ (lo + w)) + (2 ^ lo * (v % 2 ^ w) + x % 2 ^ lo) := by
  have h1 : x / 2 ^ lo = 2 ^ w * (x / 2 ^ lo / 2 ^ w) + bitsAt x lo w := (Nat.div_add_mod _ _).symm
  have h2 : x = 2 ^ lo * (x / 2 ^ lo) + x % 2 ^ lo := (Nat.div_add_mod _ _).symm
  have h3 : x / 2 ^ lo / 2 ^ w = x / 2 ^ (lo + w) := by rw [Nat.div_div_eq_div_mul, Nat.pow_add]
  have h4 : x = 2 ^ (lo + w) * (x / 2 ^ (lo + w)) + (bitsAt x lo w * 2 ^ lo + x % 2 ^ lo) := by
    conv_lhs => rw [h2, h1, h3]
    rw [Nat.pow_add]; ring
  unfold setBitsAt
  conv_lhs => rw [h4]
  have h5 : bitsAt (2 ^ (lo + w) * (x / 2 ^ (lo + w)) + (bitsAt x lo w * 2 ^ lo + x % 2 ^ lo)) lo w = bitsAt x lo w := by
    rw [← h4]
  rw [h5, Nat.mul_comm (v % 2 ^ w)]
  omega

/-- A field replaced reads bit by bit. -/
theorem testBit_setBitsAt (x lo w v i : Nat) :
    (setBitsAt x lo w v).testBit i = if lo ≤ i ∧ i < lo + w then v.testBit (i - lo) else x.testBit i := by
  have hlow : 2 ^ lo * (v % 2 ^ w) + x % 2 ^ lo < 2 ^ (lo + w) := by
    have h1 : x % 2 ^ lo < 2 ^ lo := Nat.mod_lt _ (Nat.two_pow_pos lo)
    have h2 : v % 2 ^ w + 1 ≤ 2 ^ w := Nat.mod_lt _ (Nat.two_pow_pos w)
    calc 2 ^ lo * (v % 2 ^ w) + x % 2 ^ lo < 2 ^ lo * (v % 2 ^ w + 1) := by rw [Nat.mul_add]; omega
      _ ≤ 2 ^ lo * 2 ^ w := Nat.mul_le_mul_left _ h2
      _ = 2 ^ (lo + w) := (Nat.pow_add 2 lo w).symm
  rw [setBitsAt_eq, Nat.testBit_two_pow_mul_add _ hlow, Nat.testBit_two_pow_mul_add _ (Nat.mod_lt _ (Nat.two_pow_pos lo))]
  by_cases h : i < lo + w
  · rw [if_pos h]
    by_cases h' : i < lo
    · rw [if_pos h', if_neg (by omega), Nat.testBit_mod_two_pow]; simp [h']
    · rw [if_neg h', if_pos ⟨by omega, h⟩, Nat.testBit_mod_two_pow]; simp [show i - lo < w by omega]
  · rw [if_neg h, if_neg (by omega), Nat.testBit_div_two_pow]
    congr 1; omega

theorem bitsAt_setBitsAt_same (x lo w v : Nat) : bitsAt (setBitsAt x lo w v) lo w = v % 2 ^ w := by
  refine Nat.eq_of_testBit_eq fun i => ?_
  rw [testBit_bitsAt, testBit_setBitsAt, Nat.testBit_mod_two_pow]
  by_cases h : i < w
  · rw [if_pos (by omega), Nat.add_sub_cancel_left]
  · simp [h]

theorem bitsAt_setBitsAt_apart (x lo w v lo' w' : Nat) (h : lo' + w' ≤ lo ∨ lo + w ≤ lo') :
    bitsAt (setBitsAt x lo w v) lo' w' = bitsAt x lo' w' := by
  refine Nat.eq_of_testBit_eq fun i => ?_
  rw [testBit_bitsAt, testBit_bitsAt, testBit_setBitsAt]
  by_cases hi : i < w'
  · rw [if_neg (by omega)]
  · simp [hi]

theorem setBitsAt_lt {x lo w v n : Nat} (hx : x < 2 ^ n) (h : lo + w ≤ n) : setBitsAt x lo w v < 2 ^ n := by
  refine Nat.lt_pow_two_of_testBit _ fun i hi => ?_
  rw [testBit_setBitsAt, if_neg (by omega)]
  exact Nat.testBit_lt_two_pow (lt_of_lt_of_le hx (Nat.pow_le_pow_right (by decide) hi))

theorem setBitsAt_all {x v n : Nat} (hx : x < 2 ^ n) : setBitsAt x 0 n v = v % 2 ^ n := by
  rw [setBitsAt_eq, Nat.zero_add, Nat.div_eq_of_lt hx]; simp [Nat.mod_one]

/-! ## Fields of a device register -/

/-- The value of a register after one field is written, as a number. -/
theorem toNat_rd_setFld (s : State) (a lo w v : Nat) (h : lo + w ≤ 64) :
    ((s.setFld a lo w v).rd a).toNat = setBitsAt (s.rd a).toNat lo w v := by
  rw [State.rd_setFld, if_pos rfl, BitVec.toNat_ofNat]
  exact Nat.mod_eq_of_lt (setBitsAt_lt (s.rd a).isLt h)

theorem fld_setFld_same (s : State) (a lo w v : Nat) (h : lo + w ≤ 64) : (s.setFld a lo w v).fld a lo w = v % 2 ^ w := by
  unfold State.fld; rw [toNat_rd_setFld s a lo w v h, bitsAt_setBitsAt_same]

theorem fld_setFld_apart (s : State) (a lo w v lo' w' : Nat) (h : lo + w ≤ 64) (k : lo' + w' ≤ lo ∨ lo + w ≤ lo') :
    (s.setFld a lo w v).fld a lo' w' = s.fld a lo' w' := by
  unfold State.fld; rw [toNat_rd_setFld s a lo w v h, bitsAt_setBitsAt_apart _ _ _ _ _ _ k]

theorem fld_of_rd {s t : State} {a : Nat} (h : t.rd a = s.rd a) (lo w : Nat) : t.fld a lo w = s.fld a lo w := by
  unfold State.fld; rw [h]

/-- A 64-bit counter counts one more, up to all ones. -/
theorem rd_bump_same (s : State) (a : Nat) : (s.bump a).rd a = BitVec.ofNat 64 (min ((s.rd a).toNat + 1) (2 ^ 64 - 1)) := by
  have hlt := (s.rd a).isLt
  have hf : s.fld a 0 64 = (s.rd a).toNat := by unfold State.fld bitsAt; rw [Nat.pow_zero, Nat.div_one, Nat.mod_eq_of_lt hlt]
  have hsat : satInc 64 (s.rd a).toNat = min ((s.rd a).toNat + 1) (2 ^ 64 - 1) := by
    unfold satInc; split <;> omega
  refine BitVec.eq_of_toNat_eq ?_
  unfold State.bump State.bumpF
  rw [toNat_rd_setFld s a 0 64 _ (by omega), setBitsAt_all hlt, hf, hsat, BitVec.toNat_ofNat]

/-! ## The end of a command whose effect is quiet -/

/-- The registers that decide whether something outlasts a command: the boot stage, the role, the last durable entry. -/
def endRegs : List Nat := [Addr.SEN_BOOT, Addr.JRN_REPL_STATUS, Addr.JRN_DUR_SEQ]

theorem quiet_of_rd {s t : State} (hq : Quiet s) (hpend : t.sec.pend = s.sec.pend) (hcwl : t.cwl = s.cwl)
    (hrd : ∀ a ∈ endRegs, t.rd a = s.rd a) : Quiet t := by
  obtain ⟨hp, hst, hd⟩ := hq
  refine ⟨hpend.trans hp, ?_, ?_⟩
  · unfold State.stage; rw [fld_of_rd (hrd _ (by simp [endRegs]))]; exact hst
  · unfold State.detachDue State.standby
    rw [hcwl, hrd Addr.JRN_DUR_SEQ (by simp [endRegs]), fld_of_rd (hrd Addr.JRN_REPL_STATUS (by simp [endRegs]))]; exact hd

/-- A vector sent or pending changes what the host sees alone (R497). -/
theorem vector_eq (s : State) (v : Nat) :
    ∃ n o, s.vector v = { s with net := n, out := s.out ++ o } ∧ ∀ e ∈ o, ∃ k, e = .msix k := by
  unfold State.vector
  split
  · exact ⟨_, [], by rw [List.append_nil]; rfl, by simp⟩
  · exact ⟨s.net, [.msix v], rfl, by simp⟩

theorem hbNotice_eq (s u : State) :
    ∃ n o, s.hbNotice u = { u with net := n, out := u.out ++ o } ∧ ∀ e ∈ o, ∃ k, e = .msix k := by
  unfold State.hbNotice
  split
  · exact ⟨u.net, [], by rw [List.append_nil], by simp⟩
  · exact vector_eq u 32

/-- Interrupts to the host are no flits. -/
theorem cwlPack_of_msix {s : State} (h : ∀ e ∈ s.out, ∃ k, e = .msix k) : s.cwlPack = s := by
  unfold State.cwlPack
  rw [if_neg]
  simp only [List.any_eq_true, not_exists, not_and]
  intro e he
  obtain ⟨k, rfl⟩ := h e he
  simp

/-- After an effect that is quiet and sends nothing, the command's end does nothing but tell the host of HB_STATUS (R502). -/
theorem does_quiet {s u : State} {f : State → State} (hf : f { s with out := [] } = u) (hq : Quiet u) (ho : u.out = []) :
    ∃ n o, does f s = .next { u with net := n, out := o } := by
  obtain ⟨h1, h2, h3⟩ := hq
  obtain ⟨n, o, h, hmsix⟩ := hbNotice_eq s u
  refine ⟨n, u.out ++ o, ?_⟩
  unfold does State.cmd
  rw [hf, settlePend_of_none h1, settleBoot_of_stage h2, settleDetach_of_not_due h3, h]
  congr 1
  exact cwlPack_of_msix (by rw [ho]; exact hmsix)

/-- The same, for what registers, tally units, pairs and memory are after the command. -/
theorem does_quiet_parts {s u : State} {f : State → State} (hf : f { s with out := [] } = u) (hq : Quiet u) (ho : u.out = []) :
    ∃ t, does f s = .next t ∧ t.tally = u.tally ∧ t.dev = u.dev ∧ t.pairs = u.pairs ∧ SameMemory u t := by
  obtain ⟨n, o, hd⟩ := does_quiet hf hq ho
  exact ⟨_, hd, rfl, rfl, rfl, SameMaps.refl _, rfl⟩

/-! ## Effects on registers and the tally units alone -/

/-- Two states that differ in device registers, the tally units, the arbiters' tenures and notices alone, with the registers that
the command's end looks at as they were. -/
def DeviceEffect (s t : State) : Prop :=
  (∃ d τ a n, t = { s with dev := d, tally := τ, arbs := a, notices := n }) ∧ ∀ a ∈ endRegs, t.rd a = s.rd a

namespace DeviceEffect

theorem refl (s : State) : DeviceEffect s s := ⟨⟨s.dev, s.tally, s.arbs, s.notices, rfl⟩, fun _ _ => rfl⟩

theorem trans {s t u : State} (h : DeviceEffect s t) (k : DeviceEffect t u) : DeviceEffect s u := by
  obtain ⟨⟨d, τ, a, n, rfl⟩, hr⟩ := h
  obtain ⟨⟨d', τ', a', n', rfl⟩, kr⟩ := k
  exact ⟨⟨d', τ', a', n', rfl⟩, fun a ha => (kr a ha).trans (hr a ha)⟩

theorem of_tally (s : State) (τ : Tally) : DeviceEffect s { s with tally := τ } :=
  ⟨⟨s.dev, τ, s.arbs, s.notices, rfl⟩, fun _ _ => rfl⟩

theorem wr (s : State) {a : Nat} (v : Word) (h : a ∉ endRegs) : DeviceEffect s (s.wr a v) :=
  ⟨⟨_, s.tally, s.arbs, s.notices, rfl⟩, fun b hb => by
    rw [State.rd_wr, if_neg]; rintro rfl; exact h hb⟩

theorem setFld (s : State) {a : Nat} (lo w v : Nat) (h : a ∉ endRegs) : DeviceEffect s (s.setFld a lo w v) := wr s _ h
theorem setBit (s : State) {a : Nat} (i : Nat) (h : a ∉ endRegs) : DeviceEffect s (s.setBit a i) := wr s _ h
theorem bump (s : State) {a : Nat} (h : a ∉ endRegs) : DeviceEffect s (s.bump a) := wr s _ h

variable {s t : State} (h : DeviceEffect s t)
include h

theorem quiet (hq : Quiet s) : Quiet t := by
  obtain ⟨⟨d, τ, a, n, rfl⟩, hr⟩ := h
  exact quiet_of_rd hq rfl rfl hr

theorem out_eq : t.out = s.out := by obtain ⟨⟨d, τ, a, n, rfl⟩, -⟩ := h; rfl
theorem pairs_eq : t.pairs = s.pairs := by obtain ⟨⟨d, τ, a, n, rfl⟩, -⟩ := h; rfl
theorem sameMemory : SameMemory s t := by obtain ⟨⟨d, τ, a, n, rfl⟩, -⟩ := h; exact ⟨SameMaps.refl _, rfl⟩

end DeviceEffect

/-- Such an effect as a command: its state, with the host told of HB_STATUS where that changed. -/
theorem does_of_deviceEffect {s u : State} {f : State → State} (hf : f { s with out := [] } = u) (h : DeviceEffect { s with out := [] } u)
    (hq : Quiet s) : ∃ t, does f s = .next t ∧ t.tally = u.tally ∧ t.dev = u.dev ∧ t.pairs = s.pairs ∧ SameMemory s t := by
  obtain ⟨t, hd, htally, hdev, hpairs, hmem⟩ := does_quiet_parts hf (h.quiet hq) h.out_eq
  exact ⟨t, hd, htally, hdev, hpairs.trans h.pairs_eq, SameMemory.trans h.sameMemory hmem⟩

/-! ## Counters that clear -/

theorem rd_ptClr (l : List Nat) : ∀ (s : State) (a : Nat),
    (s.ptClr l).rd a = if ∃ p ∈ l, a = Addr.PT_OVCNT p then 0 else s.rd a := by
  induction l with
  | nil => intro s a; simp [State.ptClr]
  | cons p l ih =>
    intro s a
    unfold State.ptClr
    rw [ih, State.rd_wr]
    by_cases h : a = Addr.PT_OVCNT p <;> simp [h]

theorem ptClr_eq (l : List Nat) : ∀ s : State, ∃ d, s.ptClr l = { s with dev := d } := by
  induction l with
  | nil => intro s; exact ⟨s.dev, rfl⟩
  | cons p l ih => intro s; obtain ⟨d, h⟩ := ih (s.wr (Addr.PT_OVCNT p) 0); exact ⟨d, h⟩

theorem deviceEffect_ptClrCnt (s : State) : DeviceEffect s s.ptClrCnt := by
  obtain ⟨d, h⟩ := ptClr_eq (List.range 104) s
  refine ⟨⟨d, s.tally, s.arbs, s.notices, h⟩, fun a ha => ?_⟩
  unfold State.ptClrCnt
  rw [rd_ptClr, if_neg]
  rintro ⟨p, -, rfl⟩
  simp only [endRegs, List.mem_cons, List.not_mem_nil, or_false, Addr.PT_OVCNT, Addr.SEN_BOOT, Addr.JRN_REPL_STATUS,
    Addr.JRN_DUR_SEQ] at ha
  omega

theorem deviceEffect_trClrCnt (s : State) : DeviceEffect s s.trClrCnt :=
  ((DeviceEffect.wr s _ (by decide)).trans (DeviceEffect.wr _ _ (by decide))).trans (DeviceEffect.wr _ _ (by decide))

theorem rd_trClrCnt (s : State) (a : Nat) : s.trClrCnt.rd a =
    if a = Addr.TR_CNT_CDSET then 0 else if a = Addr.TR_CNT_WALK then 0 else if a = Addr.RCU_CNT_VIOL then 0 else s.rd a := by
  unfold State.trClrCnt; simp

/-! ## Register writes -/

/-- A write of a device register by a pair or the debug port is that writer's write. -/
theorem exec_registerWrite {src a : Nat} (hs : src < 105) (hlo : 0xF0000000000 ≤ a) (hhi : a < 0xF0010000000) (h8 : a % 8 = 0)
    (val : Word) (s : State) : exec (.registerWrite src a val) s =
      does (fun s => s.devWrite (if src = 104 then .debug else .pair src) a val.toNat) s :=
  onUnit_has (by simp [hs, hlo, hhi, h8])

/-- EVD_SPILLCFG as the register table gives it (R280): one RW field with the values 0 to 4. -/
def spillCfg : Reg := ⟨"EVD_SPILLCFG", 0xF0002000010, 0x8, 1, [⟨0, 3, .rw, 1, [(0, 4)]⟩, ⟨3, 61, .rsv, 0, []⟩]⟩

theorem regFind_spillCfg : regFind Addr.EVD_SPILLCFG = some spillCfg := by decide +kernel

/-- A value that is not reserved is stored in the field (R9, R12). -/
theorem devWrite_spillCfg (s : State) (w : Writer) {v : Nat} (h : v ≤ 4) :
    s.devWrite w Addr.EVD_SPILLCFG v = s.setFld Addr.EVD_SPILLCFG 0 3 v := by
  have hdev : s.devWrite w Addr.EVD_SPILLCFG v = (s.regStore w Addr.EVD_SPILLCFG v).1 := rfl
  have hv : bitsAt v 0 3 = v := by unfold bitsAt; omega
  have hok : (⟨0, 3, .rw, 1, [(0, 4)]⟩ : Field).valueOk v = true := by simp [Field.valueOk, h]
  rw [hdev]
  unfold State.regStore
  rw [regFind_spillCfg]
  simp [spillCfg, fieldWrite, crossFields, State.descDrops, descOf, hv, hok, State.setFld]

end Sys2Proof.Laws
end

section
/-!
PROOFS. The tally units: channels, entries, decisions, and the commands that work on them (O60).
-/
namespace Sys2Proof.Laws
open Sys2Proof.Machine
open Sys2Proof (Instr)

/-! ## The tally units' state -/

theorem tally_setTch (s : State) (ch : Nat) (t : TallyChan) :
    (s.setTch ch t).tally = { s.tally with chans := smSet (always ⟨[], []⟩) s.tally.chans ch t } := rfl

theorem tch_setTch (s : State) (ch c : Nat) (t : TallyChan) : (s.setTch ch t).tch c = if c = ch then t else s.tch c := by
  unfold State.tch; rw [tally_setTch, smGet_smSet]

theorem tch_setTch_same (s : State) (ch : Nat) (t : TallyChan) : (s.setTch ch t).tch ch = t := by rw [tch_setTch, if_pos rfl]

/-- The occupancy register is the only one that goes with a channel's unit (R221). -/
theorem rd_setTch (s : State) (ch : Nat) (t : TallyChan) {a : Nat} (h : a ≠ Addr.TCH_OCC ch) : (s.setTch ch t).rd a = s.rd a := by
  unfold State.setTch
  simp only [State.rd_setFld, if_neg h]
  rfl

/-- No register of a tally channel decides what the command's end does. -/
theorem tallyChannel_not_mem_endRegs {a : Nat} (h : ∃ ch k, a = 0xF0004001000 + 8 * k + 0x100 * ch ∧ k < 9) : a ∉ endRegs := by
  obtain ⟨ch, k, rfl, hk⟩ := h
  simp only [endRegs, List.mem_cons, List.not_mem_nil, or_false, Addr.SEN_BOOT, Addr.JRN_REPL_STATUS, Addr.JRN_DUR_SEQ]
  omega

theorem tchOcc_not_mem_endRegs (ch : Nat) : Addr.TCH_OCC ch ∉ endRegs := tallyChannel_not_mem_endRegs ⟨ch, 0, rfl, by decide⟩
theorem tchAcc_not_mem_endRegs (ch : Nat) : Addr.TCH_CNT_ACC ch ∉ endRegs := tallyChannel_not_mem_endRegs ⟨ch, 1, rfl, by decide⟩
theorem tchLate_not_mem_endRegs (ch : Nat) : Addr.TCH_CNT_LATE ch ∉ endRegs := tallyChannel_not_mem_endRegs ⟨ch, 2, rfl, by decide⟩
theorem tchSeal_not_mem_endRegs (ch : Nat) : Addr.TCH_CNT_SEAL ch ∉ endRegs := tallyChannel_not_mem_endRegs ⟨ch, 3, rfl, by decide⟩
theorem tchRetry_not_mem_endRegs (ch : Nat) : Addr.TCH_CNT_RETRY ch ∉ endRegs := tallyChannel_not_mem_endRegs ⟨ch, 4, rfl, by decide⟩
theorem tchWb_not_mem_endRegs (ch : Nat) : Addr.TCH_CNT_WB ch ∉ endRegs := tallyChannel_not_mem_endRegs ⟨ch, 5, rfl, by decide⟩
theorem tchPark_not_mem_endRegs (ch : Nat) : Addr.TCH_CNT_PARK ch ∉ endRegs := tallyChannel_not_mem_endRegs ⟨ch, 6, rfl, by decide⟩

namespace DeviceEffect

theorem setTch (s : State) (ch : Nat) (t : TallyChan) : DeviceEffect s (s.setTch ch t) := by
  unfold State.setTch
  exact (((of_tally s _).trans (setFld _ _ _ _ (tchOcc_not_mem_endRegs ch))).trans
    (setFld _ _ _ _ (tchOcc_not_mem_endRegs ch))).trans (setFld _ _ _ _ (tchOcc_not_mem_endRegs ch))

theorem tallyReturn (s : State) (op : TallyOp) (n : Nat) (x : Option (List Byte)) : DeviceEffect s (s.tallyReturn op n x) := of_tally s _

theorem tallyTick (s : State) : DeviceEffect s s.tallyTick.2 := of_tally s _

theorem recordAdd (s : State) (op : TallyOp) : DeviceEffect s (s.recordAdd op) := by
  unfold State.recordAdd
  dsimp only
  split
  · exact (of_tally s _).trans (setBit _ _ (by decide))
  · exact of_tally s _

theorem tallyCount (s : State) (ch : Nat) (k : TallyKind) (n : Nat) : DeviceEffect s (tallyCount s ch k n) := by
  unfold Machine.tallyCount
  split
  · exact bump _ (tchAcc_not_mem_endRegs ch)
  split
  · exact bump _ (tchLate_not_mem_endRegs ch)
  split
  · exact bump _ (tchSeal_not_mem_endRegs ch)
  split
  · exact bump _ (tchRetry_not_mem_endRegs ch)
  · exact refl s

theorem decideOne (s : State) (ch : Nat) (op : TallyOp) (d : List Byte) : DeviceEffect s (s.decideOne ch op d).1 := by
  unfold State.decideOne
  dsimp only
  refine trans (trans ?_ (tallyCount _ _ _ _)) (tallyReturn _ _ _ _)
  split
  · exact recordAdd s op
  · exact refl s

theorem decideActive (s : State) (ch : Nat) (e : CombEntry) (op : TallyOp) : DeviceEffect s (s.decideActive ch e op) :=
  ((decideOne s ch op e.data).trans (tallyTick _)).trans (setTch _ _ _)

theorem endTenure (s : State) (ch q : Nat) : DeviceEffect s (s.endTenure ch q) := by
  unfold State.endTenure
  split
  · exact ⟨⟨s.dev, s.tally, _, s.notices, rfl⟩, fun _ _ => rfl⟩
  · exact refl s

end DeviceEffect

theorem tally_endTenure (s : State) (ch q : Nat) : (s.endTenure ch q).tally = s.tally := by
  unfold State.endTenure
  split <;> rfl

theorem dev_endTenure (s : State) (ch q : Nat) : (s.endTenure ch q).dev = s.dev := by
  unfold State.endTenure
  split <;> rfl

/-! ## What deciding an operation does to the tally units -/

theorem tally_tallyCount (s : State) (ch : Nat) (k : TallyKind) (n : Nat) : (tallyCount s ch k n).tally = s.tally := by
  unfold tallyCount
  split
  · rfl
  split
  · rfl
  split
  · rfl
  split <;> rfl

theorem tally_recordAdd (s : State) (op : TallyOp) :
    (s.recordAdd op).tally = { s.tally with unj := (s.recordAdd op).tally.unj } := by
  unfold State.recordAdd
  dsimp only
  split <;> rfl

theorem unjList_setUnj_same (s : State) (p : Nat) (l : UnjList) : (s.setUnj p l).unjList p = l := by
  unfold State.unjList State.setUnj; rw [smGet_smSet, if_pos rfl]

/-- An accepted add is the last of its core's list (R218). -/
theorem unjList_recordAdd (s : State) (op : TallyOp) :
    ∃ l, ((s.recordAdd op).unjList op.pair).adds = l ++ [⟨op.stampTime, op.stampPort, op.cell, op.amount, op.task.getD 0⟩] := by
  unfold State.recordAdd
  dsimp only
  split
  · exact ⟨_, congrArg UnjList.adds (unjList_setUnj_same s op.pair _)⟩
  · exact ⟨_, congrArg UnjList.adds (unjList_setUnj_same s op.pair _)⟩

/-! ## Entries of a channel -/

theorem cell_of_entryOf {t : TallyChan} {cell : Nat} {e : CombEntry} (h : t.entryOf cell = some e) : e.cell = cell := by
  simpa using List.find?_some h

theorem entryOf_putEntry {t : TallyChan} {cell : Nat} {e f : CombEntry} (h : t.entryOf cell = some e) (hf : f.cell = cell) :
    (t.putEntry f).entryOf cell = some f := by
  unfold TallyChan.putEntry TallyChan.entryOf
  have hkey : (fun e : CombEntry => e.cell == cell) ∘ (fun x => if x.cell == f.cell then f else x) = fun e => e.cell == cell := by
    funext x
    simp only [Function.comp_apply, hf]
    split
    · rename_i hx; rw [hf, hx]; simp
    · rfl
  rw [List.find?_map, hkey, show t.entries.find? (fun e => e.cell == cell) = some e from h]
  simp [hf, cell_of_entryOf h]

theorem entryOf_dropEntry (t : TallyChan) (cell : Nat) : (t.dropEntry cell).entryOf cell = none := by
  unfold TallyChan.dropEntry TallyChan.entryOf
  rw [List.find?_eq_none]
  intro x hx
  have := (List.mem_filter.mp hx).2
  simpa using this

/-! ## Bytes of a cell -/

theorem cellGet_cellPut_same {d : List Byte} {off n : Nat} (v : Nat) (h : off ≤ d.length) :
    cellGet (cellPut d off n v) off n = v % 256 ^ n := by
  have htake : (d.take off).length = off := by simp [h]
  unfold cellGet cellPut
  rw [List.append_assoc, List.drop_append_of_le_length (by omega), List.drop_eq_nil_of_le (by omega), List.nil_append,
    List.take_append_of_le_length (by simp), List.take_of_length_le (by simp), bytesNat_natBytes]

theorem drop_cellPut {d : List Byte} {off n k : Nat} (v : Nat) (h : off + n ≤ d.length) (hk : off + n ≤ k) :
    (cellPut d off n v).drop k = d.drop k := by
  have htake : (d.take off).length = off := by simp; omega
  unfold cellPut
  rw [List.drop_append, List.drop_eq_nil_of_le (by simp; omega), List.nil_append, List.drop_drop]
  congr 1
  simp; omega

theorem take_cellPut {d : List Byte} {off n k : Nat} (v : Nat) (h : off ≤ d.length) (hk : k ≤ off) :
    (cellPut d off n v).take k = d.take k := by
  unfold cellPut
  rw [List.append_assoc, List.take_append_of_le_length (by simp; omega), List.take_take, Nat.min_eq_left hk]

theorem length_cellPut {d : List Byte} {off n : Nat} (v : Nat) (h : off + n ≤ d.length) : (cellPut d off n v).length = d.length := by
  unfold cellPut; simp; omega

/-- The bytes below one offset decide what is read below it. -/
theorem cellGet_of_take {d d' : List Byte} {k off n : Nat} (h : d'.take k = d.take k) (hk : off + n ≤ k) :
    cellGet d' off n = cellGet d off n := by
  have cut : ∀ l : List Byte, (l.drop off).take n = ((l.take k).drop off).take n := fun l => by
    rw [List.drop_take, List.take_take, Nat.min_eq_left (by omega)]
  unfold cellGet; rw [cut d', cut d, h]

/-! ## An add accepted at its decision (R211) -/

/-- The cell after an accepted add: its amount and its count of adds. -/
def addedCell (op : TallyOp) (d : List Byte) : List Byte :=
  cellPut (cellPut d 0 16 (BitVec.ofInt 128 (cellAmount d + op.amount.toInt)).toNat) 0x10 8 (cellGet d 0x10 8 + 1)

section
variable {op : TallyOp} {d : List Byte} (hlen : d.length = 64)
include hlen

theorem drop_addedCell : (addedCell op d).drop 0x18 = d.drop 0x18 := by
  unfold addedCell
  rw [drop_cellPut _ (by rw [length_cellPut _ (by omega)]; omega) (by decide), drop_cellPut _ (by omega) (by decide)]

theorem count_addedCell (h : cellGet d 0x10 8 < 2 ^ 64 - 1) : cellGet (addedCell op d) 0x10 8 = cellGet d 0x10 8 + 1 := by
  unfold addedCell
  rw [cellGet_cellPut_same _ (by rw [length_cellPut _ (by omega)]; omega)]
  exact Nat.mod_eq_of_lt (by omega)

theorem cellAmount_addedCell (hlo : -2 ^ 127 ≤ cellAmount d + op.amount.toInt) (hhi : cellAmount d + op.amount.toInt ≤ 2 ^ 127 - 1) :
    cellAmount (addedCell op d) = cellAmount d + op.amount.toInt := by
  have hget : cellGet (addedCell op d) 0 16 = (BitVec.ofInt 128 (cellAmount d + op.amount.toInt)).toNat := by
    unfold addedCell
    rw [cellGet_of_take (take_cellPut _ (by rw [length_cellPut _ (by omega)]; omega) (Nat.le_refl 16)) (by decide),
      cellGet_cellPut_same _ (by omega)]
    exact Nat.mod_eq_of_lt (BitVec.isLt _)
  have hval : cellAmount (addedCell op d) = (BitVec.ofInt 128 (cellAmount d + op.amount.toInt)).toInt := by
    rw [cellAmount, hget, BitVec.ofNat_toNat, BitVec.setWidth_eq]
  rw [hval, BitVec.toInt_ofInt_eq_self (by decide) (by simpa using hlo)]
  exact Int.lt_of_le_sub_one hhi

theorem addedCell_ne (h : cellGet d 0x10 8 < 2 ^ 64 - 1) : addedCell op d ≠ d := by
  intro he
  have hc := count_addedCell (op := op) hlen h
  rw [he] at hc
  omega

end

theorem tallyStatus_ok (d : List Byte) : tallyStatus 0 0 d = cellGet d 0x2C 4 * 2 ^ 32 := by simp [tallyStatus]

theorem bytesNat_lt (l : List Byte) : bytesNat l < 256 ^ l.length := by
  induction l with
  | nil => simp [bytesNat]
  | cons x l ih =>
    have hx := x.isLt
    rw [bytesNat, List.length_cons, Nat.pow_succ]
    omega

/-- A cell's Pool ID fits the upper half of a status (R207). -/
theorem toNat_poolId (d : List Byte) : (BitVec.ofNat 64 (cellGet d 0x2C 4 * 2 ^ 32)).toNat = cellGet d 0x2C 4 * 2 ^ 32 := by
  have hlt : cellGet d 0x2C 4 < 256 ^ 4 :=
    lt_of_lt_of_le (bytesNat_lt _) (Nat.pow_le_pow_right (by decide) (List.length_take_le 4 _))
  rw [BitVec.toNat_ofNat]
  omega

theorem cellSealed_open {now : Nat} {d : List Byte} (h : cellFlag d 2 = false) : cellSealed now d = false := by simp [cellSealed, h]

theorem decideAdd_accepted {now : Nat} {op : TallyOp} {d : List Byte} (hpool : cellFlag d 0 = true) (hopen : cellFlag d 2 = false)
    (hunc : op.stampUnc = false) (htime : op.stampTime < cellGet d 0x18 8) (hcount : cellGet d 0x10 8 < 2 ^ 64 - 1)
    (hlo : -2 ^ 127 ≤ cellAmount d + op.amount.toInt) (hhi : cellAmount d + op.amount.toInt ≤ 2 ^ 127 - 1) :
    decideAdd now op d = ⟨addedCell op d, cellGet d 0x2C 4 * 2 ^ 32, true⟩ := by
  have hin : outside 128 (cellAmount d + op.amount.toInt) = false := by
    rw [outside, Bool.or_eq_false_iff]
    exact ⟨decide_eq_false (by unfold loOf; omega), decide_eq_false (by unfold hiOf; omega)⟩
  have hnotFull : decide (cellGet d 0x10 8 = 2 ^ 64 - 1) = false := decide_eq_false (Nat.ne_of_lt hcount)
  have hbits : b2n false * 256 + b2n false * 512 + b2n false * 1024 = 0 := rfl
  unfold decideAdd
  simp only [hpool, cellSealed_open hopen, hunc, hin, hnotFull, if_neg (Nat.not_le.mpr htime), Bool.not_true, Bool.false_and,
    Bool.false_eq_true, if_false, hbits, tallyStatus_ok, addedCell]

theorem entryOf_setTch_putEntry (s : State) {t : TallyChan} {ch cell : Nat} {e f : CombEntry} (h : t.entryOf cell = some e)
    (hf : f.cell = cell) : ((s.setTch ch (t.putEntry f)).tch ch).entryOf cell = some f := by
  rw [tch_setTch_same]; exact entryOf_putEntry h hf

/-- An add accepted against an ACTIVE entry: the entry, the status on its way and the core's list. -/
theorem decideActive_accepted {s : State} {ch : Nat} {e : CombEntry} {op : TallyOp} {d : List Byte} {st : Nat}
    (hentry : (s.tch ch).entryOf op.cell = some e) (hk : op.kind = .add)
    (hd : decideAdd s.time op e.data = ⟨d, st, true⟩) (hne : d ≠ e.data) :
    (∃ f, ((s.decideActive ch e op).tch ch).entryOf op.cell = some f ∧ f.data = d ∧ f.changes = e.changes + 1) ∧
      (s.decideActive ch e op).tally.done = s.tally.done ++ [⟨op, BitVec.ofNat 64 st, none⟩] ∧
      (s.decideActive ch e op).unjList op.pair = (s.recordAdd op).unjList op.pair := by
  have hone : s.decideOne ch op e.data =
      ((tallyCount (s.recordAdd op) ch .add (st % 256)).tallyReturn op st none, d) := by
    unfold State.decideOne decideOp
    simp only [hk, hd, if_true, reduceCtorEq, decide_false, Bool.false_and, Bool.false_eq_true, if_false]
  have htch : ((s.decideOne ch op e.data).1.tallyTick.2).tch ch = s.tch ch := by
    rw [hone]
    unfold State.tch State.tallyTick State.tallyReturn
    dsimp only
    rw [tally_tallyCount, tally_recordAdd]
  unfold State.decideActive
  dsimp only
  rw [htch]
  have hcell : e.cell = op.cell := cell_of_entryOf hentry
  refine ⟨⟨_, entryOf_setTch_putEntry _ hentry hcell, ?_, ?_⟩, ?_, ?_⟩
  · rw [hone]
  · rw [hone]; exact if_neg hne
  · rw [tally_setTch, hone]
    unfold State.tallyTick State.tallyReturn
    dsimp only
    rw [tally_tallyCount, tally_recordAdd]
  · unfold State.unjList
    rw [tally_setTch, hone]
    unfold State.tallyTick State.tallyReturn
    dsimp only
    rw [tally_tallyCount]

theorem tallyArrive_active {s : State} {id : Nat} {o : TallyOp} {e : CombEntry} (hfind : s.tally.transit.find? (fun o => o.id == id) = some o)
    (hentry : (s.tch (channelOf o.cell)).entryOf o.cell = some e) (hst : e.st = .active) :
    s.tallyArrive id = ({ s with tally := { s.tally with transit := s.tally.transit.filter (fun o => !(o.id == id)) } } : State).decideActive
      (channelOf o.cell) e o := by
  unfold State.tallyArrive State.tallyAdmit
  rw [hfind]
  dsimp only
  rw [show (({ s with tally := { s.tally with transit := s.tally.transit.filter (fun o => !(o.id == id)) } } : State).tch
    (channelOf o.cell)).entryOf o.cell = some e from hentry]
  dsimp only
  rw [if_pos hst]

theorem tch_of_tally {s t : State} (h : t.tally = s.tally) (ch : Nat) : t.tch ch = s.tch ch := by unfold State.tch; rw [h]

theorem unjList_of_tally {s t : State} (h : t.tally = s.tally) (p : Nat) : t.unjList p = s.unjList p := by
  unfold State.unjList; rw [h]

/-! ## Commands of the tally units -/

/-- TALLY_DECISION_ARRIVAL of an add that its ACTIVE entry accepts (R211). -/
theorem tallyDecisionArrival_accepted {s : State} {id : Nat} {o : TallyOp} {e : CombEntry} {d : List Byte} {st : Nat} (hq : Quiet s)
    (hfind : s.tally.transit.find? (fun o => o.id == id) = some o) (hentry : (s.tch (channelOf o.cell)).entryOf o.cell = some e)
    (hst : e.st = .active) (hk : o.kind = .add) (hd : decideAdd s.time o e.data = ⟨d, st, true⟩) (hne : d ≠ e.data) :
    ∃ u, exec (.tallyDecisionArrival id) s = .next u ∧
      (∃ f, (u.tch (channelOf o.cell)).entryOf o.cell = some f ∧ f.data = d ∧ f.changes = e.changes + 1) ∧
      u.tally.done = s.tally.done ++ [⟨o, BitVec.ofNat 64 st, none⟩] ∧
      (∃ l, (u.unjList o.pair).adds = l ++ [⟨o.stampTime, o.stampPort, o.cell, o.amount, o.task.getD 0⟩]) ∧ SameMemory s u := by
  have harrive := tallyArrive_active (s := { s with out := [] }) hfind hentry hst
  obtain ⟨u, hu, htally, -, -, hmem⟩ := does_of_deviceEffect (f := fun s => s.tallyArrive id) harrive
    ((DeviceEffect.of_tally _ _).trans (DeviceEffect.decideActive _ _ e o)) hq
  obtain ⟨⟨f, hf, hdata, hch⟩, hdone, hunj⟩ := decideActive_accepted (s := { s with out := [], tally := { s.tally with
    transit := s.tally.transit.filter (fun o => !(o.id == id)) } }) hentry hk hd hne
  refine ⟨u, hu, ⟨f, ?_, hdata, hch⟩, ?_, ?_, hmem⟩
  · rw [tch_of_tally htally]; exact hf
  · rw [htally]; exact hdone
  · rw [unjList_of_tally htally, hunj]; exact unjList_recordAdd _ o

theorem touchLine_noLatent {s : State} (h : s.latent = []) (line : Nat) : s.touchLine line = s := by
  unfold State.touchLine; rw [h]; rfl

/-- A read of an open pool cell gives the cell as it stands (R213). -/
theorem decideRead_open {now : Nat} {d : List Byte} (hpool : cellFlag d 0 = true) (hopen : cellFlag d 2 = false) :
    decideRead now d = ⟨d, cellGet d 0x2C 4 * 2 ^ 32, false⟩ := by
  unfold decideRead
  rw [cellSealed_open hopen, tallyStatus_ok]
  simp [hpool]

/-- A read decided with code 0 changes nothing but the status on its way, which carries the cell (R213). -/
theorem decideOne_read {s : State} {ch : Nat} {o : TallyOp} {d : List Byte} {st : Nat} (hk : o.kind = .read)
    (hd : decideRead s.time d = ⟨d, st, false⟩) (hst : st % 256 = 0) : s.decideOne ch o d = (s.tallyReturn o st (some d), d) := by
  unfold State.decideOne decideOp tallyCount
  simp [hk, hd, hst]

theorem combLoaded_eq {s : State} {cell : Nat} {e : CombEntry} (hentry : (s.tch (channelOf cell)).entryOf cell = some e)
    (hst : e.st = .loading) : s.combLoaded cell = (s.combLoad (channelOf cell) e).endTenure (channelOf cell) 12 := by
  unfold State.combLoaded; simp [hentry, hst]

/-- The load of a cell that one read waits for (R213, R214). -/
theorem combLoad_read {s : State} {ch cell st : Nat} {e : CombEntry} {o : TallyOp} (hcell : e.cell = cell)
    (hwait : e.waiting = [o]) (hk : o.kind = .read) (hlat : s.latent = []) (hpoison : s.poisoned cell = false) (hmost : 0 < e.most)
    (hd : decideRead s.time (s.bytesAt .dram cell 64) = ⟨s.bytesAt .dram cell 64, st, false⟩) (hcode : st % 256 = 0) :
    s.combLoad ch e = (s.tallyReturn o st (some (s.bytesAt .dram cell 64))).tallyTick.2.setTch ch ((s.tch ch).putEntry
      { e with st := .active, data := s.bytesAt .dram cell 64, waiting := [], changes := 0, used := s.tally.nextId }) := by
  subst hcell
  unfold State.combLoad
  simp only [touchLine_noLatent hlat, hpoison, hwait, State.decideAll, decideOne_read hk hd hcode]
  simp only [Bool.false_eq_true, if_false, if_true, Nat.not_le.mpr hmost]
  rfl

/-- COMB_LOAD_COMPLETE with one read waiting: the read has the cell, and the entry is ACTIVE (R213, R214). -/
theorem combLoadComplete_read {s : State} {cell st : Nat} {e : CombEntry} {o : TallyOp} (hq : Quiet s)
    (hentry : (s.tch (channelOf cell)).entryOf cell = some e) (hst : e.st = .loading)
    (hwait : e.waiting = [o]) (hk : o.kind = .read) (hlat : s.latent = []) (hpoison : s.poisoned cell = false) (hmost : 0 < e.most)
    (hd : decideRead s.time (s.bytesAt .dram cell 64) = ⟨s.bytesAt .dram cell 64, st, false⟩) (hcode : st % 256 = 0) :
    ∃ u, exec (.combLoadComplete cell) s = .next u ∧
      (∃ f, (u.tch (channelOf cell)).entryOf cell = some f ∧ f.st = .active ∧ f.waiting = [] ∧ f.data = s.bytesAt .dram cell 64) ∧
      u.tally.done = s.tally.done ++ [⟨o, BitVec.ofNat 64 st, some (s.bytesAt .dram cell 64)⟩] ∧ SameMemory s u := by
  have hcell : e.cell = cell := cell_of_entryOf hentry
  have hbytes : ({ s with out := [] } : State).bytesAt .dram cell 64 = s.bytesAt .dram cell 64 := bytesAt_of_mem rfl cell 64
  have hload := combLoad_read (s := { s with out := [] }) (ch := channelOf cell) hcell hwait hk hlat hpoison hmost
    (by rw [hbytes]; exact hd) hcode
  rw [hbytes] at hload
  have hcomb := (combLoaded_eq (s := { s with out := [] }) hentry hst).trans (congrArg (State.endTenure · _ 12) hload)
  obtain ⟨u, hu, htally, -, -, hmem⟩ := does_of_deviceEffect (f := fun s => s.combLoaded cell) hcomb
    ((((DeviceEffect.tallyReturn _ o st _).trans (DeviceEffect.tallyTick _)).trans (DeviceEffect.setTch _ _ _)).trans
      (DeviceEffect.endTenure _ _ _)) hq
  rw [tally_endTenure] at htally
  refine ⟨u, hu, ⟨{ e with st := .active, data := s.bytesAt .dram cell 64, waiting := [], changes := 0, used := s.tally.nextId },
    ?_, rfl, rfl, rfl⟩, ?_, hmem⟩
  · rw [tch_of_tally htally]; exact entryOf_setTch_putEntry _ hentry hcell
  · rw [htally]; rfl

theorem combWindow_eq {s : State} {cell : Nat} {e : CombEntry} (hentry : (s.tch (channelOf cell)).entryOf cell = some e)
    (hst : e.st = .active) (hdirty : e.dirty = true) :
    s.combWindow cell = s.setTch (channelOf cell) ((s.tch (channelOf cell)).putEntry { e with st := .flushing }) := by
  unfold State.combWindow; simp [hentry, hst, hdirty]

/-- COMB_WINDOW_EXPIRY of a dirty ACTIVE entry: its write-back starts (R214). -/
theorem combWindowExpiry_dirty {s : State} {cell : Nat} {e : CombEntry} (hq : Quiet s)
    (hentry : (s.tch (channelOf cell)).entryOf cell = some e) (hst : e.st = .active) (hdirty : e.dirty = true) :
    ∃ u, exec (.combWindowExpiry cell) s = .next u ∧
      (u.tch (channelOf cell)).entryOf cell = some { e with st := .flushing } ∧ SameMemory s u ∧ u.tally.done = s.tally.done := by
  have hcell : e.cell = cell := cell_of_entryOf hentry
  have hwin := combWindow_eq (s := { s with out := [] }) hentry hst hdirty
  obtain ⟨u, hu, htally, -, -, hmem⟩ := does_of_deviceEffect (f := fun s => s.combWindow cell) hwin (DeviceEffect.setTch _ _ _) hq
  refine ⟨u, hu, ?_, hmem, ?_⟩
  · rw [tch_of_tally htally]; exact entryOf_setTch_putEntry _ hentry hcell
  · rw [htally, tally_setTch]

/-! ## Write-backs of combining entries -/

theorem tally_combWrite (s : State) (ch : Nat) (e : CombEntry) : (s.combWrite ch e).tally = s.tally := by
  obtain ⟨-, htally, -⟩ := sameUnits_dataWrite (s := s) (pa := e.cell) (bs := e.data)
  exact htally

/-- A command that writes bytes to DRAM and otherwise changes registers and tally units alone. -/
theorem does_of_dataWrite {s u : State} {f : State → State} {pa : Nat} {bs : List Byte} (hf : f { s with out := [] } = u)
    (h : DeviceEffect (({ s with out := [] } : State).dataWrite .dram pa bs) u) (hq : Quiet s) :
    ∃ t, does f s = .next t ∧ t.tally = u.tally ∧ t.dev = u.dev ∧ t.bytesAt .dram pa bs.length = bs ∧
      SameBytesOutside s t pa bs.length := by
  have hrest : AtRest { s with out := [] } { s with out := [] } := ⟨rfl, hq, rfl⟩
  obtain ⟨hout, hquiet, -⟩ := atRest_dataWrite { s with out := [] } pa bs hrest
  obtain ⟨t, hu, htally, hdev, -, hsame⟩ := does_quiet_parts hf (h.quiet hquiet) (h.out_eq.trans hout)
  have hmem : t.mem = (({ s with out := [] } : State).dataWrite .dram pa bs).mem := (SameMemory.trans h.sameMemory hsame).1.1
  refine ⟨t, hu, htally, hdev, ?_, ?_⟩
  · exact (bytesAt_of_mem hmem pa bs.length).trans (bytesAt_dataWrite_self _ _ _)
  · intro a ha
    have hout := sameBytesOutside_dataWrite (s := { s with out := [] }) (pa := pa) (bs := bs) rfl a ha
    unfold State.byteAt at hout ⊢
    exact (congrArg (smGet memDefault · a) hmem).trans hout

theorem combFlushed_eq {s : State} {cell : Nat} {e : CombEntry} (hentry : (s.tch (channelOf cell)).entryOf cell = some e)
    (hst : e.st = .flushing) : s.combFlushed cell = ((s.combWrite (channelOf cell) e).setTch (channelOf cell)
      (((s.combWrite (channelOf cell) e).tch (channelOf cell)).putEntry { e with st := .active, changes := 0, marked := false })).endTenure
        (channelOf cell) 12 := by
  unfold State.combFlushed; simp [hentry, hst]

/-- COMB_WRITEBACK_COMPLETE of a FLUSHING entry: its bytes are in DRAM, and it is ACTIVE and clean (R214). -/
theorem combWritebackComplete_flushing {s : State} {cell n : Nat} {e : CombEntry} (hq : Quiet s)
    (hentry : (s.tch (channelOf cell)).entryOf cell = some e) (hst : e.st = .flushing) (hlen : e.data.length = n) :
    ∃ u, exec (.combWritebackComplete cell) s = .next u ∧
      (u.tch (channelOf cell)).entryOf cell = some { e with st := .active, changes := 0, marked := false } ∧
      u.bytesAt .dram cell n = e.data ∧ SameBytesOutside s u cell n ∧
      u.rd (Addr.TCH_CNT_WB (channelOf cell)) =
        BitVec.ofNat 64 (min ((s.rd (Addr.TCH_CNT_WB (channelOf cell))).toNat + 1) (2 ^ 64 - 1)) := by
  subst hlen
  have hcell : e.cell = cell := cell_of_entryOf hentry
  have hflush := combFlushed_eq (s := { s with out := [] }) hentry hst
  obtain ⟨u, hu, htally, hdev, hbytes, houtside⟩ := does_of_dataWrite (f := fun s => s.combFlushed cell)
    (pa := e.cell) (bs := e.data) hflush
    (((DeviceEffect.bump _ (tchWb_not_mem_endRegs _)).trans (DeviceEffect.setTch _ _ _)).trans (DeviceEffect.endTenure _ _ _)) hq
  rw [tally_endTenure] at htally
  rw [dev_endTenure] at hdev
  rw [hcell] at hbytes houtside
  refine ⟨u, hu, ?_, hbytes, houtside, ?_⟩
  · rw [tch_of_tally htally, tch_of_tally (tally_combWrite _ _ _)]
    exact entryOf_setTch_putEntry _ hentry hcell
  · obtain ⟨hsame, -⟩ := sameUnits_dataWrite (s := { s with out := [] }) (pa := e.cell) (bs := e.data)
    have hwb : Addr.TCH_CNT_WB (channelOf cell) ≠ Addr.TCH_OCC (channelOf cell) := by
      simp only [Addr.TCH_CNT_WB, Addr.TCH_OCC]; omega
    rw [State.rd_of_dev hdev, rd_setTch _ _ _ hwb, State.combWrite, rd_bump_same, State.rd_of_dev hsame]
    rfl

theorem cellRoute_flushing {s : State} {line : Nat} {e : CombEntry}
    (hentry : (s.tch (channelOf (line * 64))).entryOf (line * 64) = some e) (hst : e.st = .flushing) (hlat : s.latent = []) :
    s.cellRoute line = (s.combWrite (channelOf (line * 64)) e).setTch (channelOf (line * 64))
      (((s.combWrite (channelOf (line * 64)) e).tch (channelOf (line * 64))).dropEntry (line * 64)) := by
  unfold State.cellRoute; simp [hentry, hst, touchLine_noLatent hlat]

/-- CELL_LINE_ACCESS of a FLUSHING entry: its bytes are in DRAM, and it is given up (R217). -/
theorem cellLineAccess_flushing {s : State} {cell n : Nat} {e : CombEntry} (hq : Quiet s) (hlt : cell < 2 ^ 41) (h64 : cell % 64 = 0)
    (hentry : (s.tch (channelOf cell)).entryOf cell = some e) (hst : e.st = .flushing) (hlat : s.latent = [])
    (hlen : e.data.length = n) : ∃ u, exec (.cellLineAccess cell) s = .next u ∧ (u.tch (channelOf cell)).entryOf cell = none ∧
      u.bytesAt .dram cell n = e.data ∧ SameBytesOutside s u cell n ∧ u.tally.done = s.tally.done := by
  subst hlen
  have hcell : e.cell = cell := cell_of_entryOf hentry
  have hline : cell / 64 * 64 = cell := by omega
  have hroute : ({ s with out := [] } : State).cellAccess cell = _ :=
    cellRoute_flushing (line := cell / 64) (by rw [hline]; exact hentry) hst hlat
  rw [hline] at hroute
  have hexec : exec (.cellLineAccess cell) s = does (fun s => s.cellAccess cell) s := onUnit_has (decide_eq_true hlt)
  obtain ⟨u, hu, htally, -, hbytes, houtside⟩ := does_of_dataWrite (f := fun s => s.cellAccess cell)
    (pa := e.cell) (bs := e.data) hroute
    ((DeviceEffect.bump _ (tchWb_not_mem_endRegs _)).trans (DeviceEffect.setTch _ _ _)) hq
  rw [hcell] at hbytes houtside
  refine ⟨u, hexec.trans hu, ?_, hbytes, houtside, ?_⟩
  · rw [tch_of_tally htally, tch_setTch_same]; exact entryOf_dropEntry _ _
  · rw [htally, tally_setTch, tally_combWrite]

/-! ## Parked operations -/

theorem leavePark_eq (s : State) (ch id : Nat) :
    s.leavePark ch id = s.setTch ch { s.tch ch with parked := (s.tch ch).parked.filter (fun o => !(o.id == id)) } := rfl

theorem unpark_loading {s : State} {ch id : Nat} {o : TallyOp} {e : CombEntry} (hp : s.parkedOp id = some (ch, o))
    (hfirst : ((s.tch ch).parked.find? (fun x => x.cell == o.cell)).map (fun x => x.id) = some id)
    (hentry : (s.tch ch).entryOf o.cell = some e) (hst : e.st = .loading) (hroom : e.waiting.length < e.most) :
    s.unpark id = (s.leavePark ch id).setTch ch
      (((s.leavePark ch id).tch ch).putEntry { e with waiting := e.waiting ++ [o] }) := by
  have hentry' : ((s.leavePark ch id).tch ch).entryOf o.cell = some e := by rw [leavePark_eq, tch_setTch_same]; exact hentry
  unfold State.unpark State.tallyAdmit
  simp [hp, hfirst, hentry', hst, hroom]

/-- UNPARK of the first parked operation of a cell that loads: it waits in the entry (R215). -/
theorem unpark_completes {s : State} {ch id : Nat} {o : TallyOp} {e : CombEntry} (hq : Quiet s) (hp : s.parkedOp id = some (ch, o))
    (hfirst : ((s.tch ch).parked.find? (fun x => x.cell == o.cell)).map (fun x => x.id) = some id)
    (hentry : (s.tch ch).entryOf o.cell = some e) (hst : e.st = .loading) (hroom : e.waiting.length < e.most) :
    ∃ u, exec (.unpark id) s = .next u ∧ (u.tch ch).entryOf o.cell = some { e with waiting := e.waiting ++ [o] } ∧
      (u.tch ch).parked = (s.tch ch).parked.filter (fun x => !(x.id == id)) ∧ u.tally.done = s.tally.done ∧ SameMemory s u := by
  have hcell : e.cell = o.cell := cell_of_entryOf hentry
  obtain ⟨u, hu, htally, -, -, hmem⟩ := does_of_deviceEffect (f := fun s => s.unpark id)
    (unpark_loading (s := { s with out := [] }) hp hfirst hentry hst hroom)
    ((DeviceEffect.setTch _ _ _).trans (DeviceEffect.setTch _ _ _)) hq
  refine ⟨u, hu, ?_, ?_, ?_, hmem⟩
  · rw [tch_of_tally htally]
    exact entryOf_setTch_putEntry (e := e) _ (by rw [leavePark_eq, tch_setTch_same]; exact hentry) hcell
  · rw [tch_of_tally htally, tch_setTch_same, leavePark_eq, tch_setTch_same]; rfl
  · rw [htally, tally_setTch, leavePark_eq, tally_setTch]

theorem parkTimeout_eq {s : State} {ch id : Nat} {o : TallyOp} (hp : s.parkedOp id = some (ch, o)) :
    s.parkTimeout id = (s.leavePark ch id).tallyRetry ch o := by
  unfold State.parkTimeout; rw [hp]

theorem done_tallyRetry (s : State) (ch : Nat) (o : TallyOp) : (s.tallyRetry ch o).tally.done =
    s.tally.done ++ [⟨o, BitVec.ofNat 64 (3 + s.retryHint (s.tch ch).parked.length * 65536), none⟩] := rfl

theorem tch_tallyRetry (s : State) (ch c : Nat) (o : TallyOp) : (s.tallyRetry ch o).tch c = s.tch c := rfl

theorem rd_tallyRetry (s : State) (ch a : Nat) (o : TallyOp) :
    (s.tallyRetry ch o).rd a = (s.bump (Addr.TCH_CNT_RETRY ch)).rd a := rfl

theorem parked_retried (s : State) (ch id : Nat) (o : TallyOp) :
    (((s.leavePark ch id).tallyRetry ch o).tch ch).parked = (s.tch ch).parked.filter (fun x => !(x.id == id)) := by
  rw [tch_tallyRetry, leavePark_eq, tch_setTch_same]

theorem rd_retried (s : State) (ch id : Nat) (o : TallyOp) :
    ((s.leavePark ch id).tallyRetry ch o).rd (Addr.TCH_CNT_RETRY ch) =
      BitVec.ofNat 64 (min ((s.rd (Addr.TCH_CNT_RETRY ch)).toNat + 1) (2 ^ 64 - 1)) := by
  have hne : Addr.TCH_CNT_RETRY ch ≠ Addr.TCH_OCC ch := by simp only [Addr.TCH_CNT_RETRY, Addr.TCH_OCC]; omega
  rw [rd_tallyRetry, rd_bump_same, leavePark_eq, rd_setTch s ch _ hne]

/-- PARK_TIMEOUT: the operation leaves the queue and returns RETRY, which is counted (R215, R216, R221). -/
theorem parkTimeout_completes {s : State} {ch id : Nat} {o : TallyOp} (hq : Quiet s) (hp : s.parkedOp id = some (ch, o)) :
    ∃ u, exec (.parkTimeout id) s = .next u ∧ (u.tch ch).parked = (s.tch ch).parked.filter (fun x => !(x.id == id)) ∧
      (∃ h, u.tally.done = s.tally.done ++ [⟨o, BitVec.ofNat 64 (3 + h * 65536), none⟩]) ∧
      u.rd (Addr.TCH_CNT_RETRY ch) = BitVec.ofNat 64 (min ((s.rd (Addr.TCH_CNT_RETRY ch)).toNat + 1) (2 ^ 64 - 1)) ∧
      SameMemory s u := by
  obtain ⟨u, hu, htally, hdev, -, hmem⟩ := does_of_deviceEffect (f := fun s => s.parkTimeout id)
    (parkTimeout_eq (s := { s with out := [] }) hp)
    (((DeviceEffect.setTch _ _ _).trans (DeviceEffect.bump _ (tchRetry_not_mem_endRegs ch))).trans (DeviceEffect.tallyReturn _ _ _ _)) hq
  refine ⟨u, hu, ?_, ⟨State.retryHint (({ s with out := [] } : State).leavePark ch id)
    ((({ s with out := [] } : State).leavePark ch id).tch ch).parked.length, ?_⟩, ?_, hmem⟩
  · rw [tch_of_tally htally, parked_retried]; rfl
  · rw [htally, done_tallyRetry, leavePark_eq, tally_setTch]
  · exact (State.rd_of_dev hdev _).trans (rd_retried _ ch id o)

/-! ## Statuses on their way -/

theorem tallyStatusReturn_eq {s : State} {id : Nat} {dn : TallyDone} (hfind : s.tally.done.find? (fun x => x.op.id == id) = some dn)
    (hsnap : dn.snapshot = none) : s.tallyStatusReturn id =
      ({ s with tally := { s.tally with done := s.tally.done.filter (fun x => !(x.op.id == id)) } } : State).setX
        dn.op.pair dn.op.bank dn.op.cd dn.status := by
  unfold State.tallyStatusReturn; simp [hfind, hsnap]

theorem reg_setX_same (s : State) (p b : Nat) {n : Nat} (x : Word) (h : 1 ≤ n) : ((s.setX p b n x).bank p b).reg n = intCap x := by
  unfold State.setX State.setReg
  rw [State.bank_updBank, if_pos ⟨rfl, rfl⟩, Bank.reg_setReg, if_neg (by omega), if_pos rfl]

/-- TALLY_STATUS_RETURN without a snapshot: the status is in its register, and no longer on its way (R206). -/
theorem tallyStatusReturn_completes {s : State} {id : Nat} {dn : TallyDone} (hq : Quiet s)
    (hfind : s.tally.done.find? (fun x => x.op.id == id) = some dn) (hsnap : dn.snapshot = none) (hcd : 1 ≤ dn.op.cd) :
    ∃ u, exec (.tallyStatusReturn id) s = .next u ∧ (u.bank dn.op.pair dn.op.bank).reg dn.op.cd = intCap dn.status ∧
      (∀ x ∈ u.tally.done, x.op.id ≠ id) ∧ u.dev = s.dev ∧ SameMemory s u := by
  obtain ⟨u, hu, htally, hdev, hpairs, hmem⟩ := does_quiet_parts (f := fun s => s.tallyStatusReturn id)
    (tallyStatusReturn_eq (s := { s with out := [] }) hfind hsnap)
    (quiet_of_rd hq rfl rfl fun _ _ => rfl) rfl
  refine ⟨u, hu, ?_, fun x hx => ?_, hdev, hmem⟩
  · rw [State.bank_of_pairs hpairs]
    exact reg_setX_same _ _ _ _ hcd
  · rw [htally] at hx
    simpa using (List.mem_filter.mp hx).2

/-! ## Settlement of a core -/

theorem deviceEffect_abortChan (p : Nat) (l : List Nat) : ∀ s : State, DeviceEffect s (s.abortChan p l) := by
  induction l with
  | nil => exact DeviceEffect.refl
  | cons ch l ih =>
    intro s
    refine DeviceEffect.trans ?_ (ih _)
    split
    · exact .refl s
    · exact .setTch s _ _

theorem abortChan_transit_done (p : Nat) (l : List Nat) : ∀ s : State,
    (s.abortChan p l).tally.transit = s.tally.transit ∧ (s.abortChan p l).tally.done = s.tally.done := by
  induction l with
  | nil => exact fun s => ⟨rfl, rfl⟩
  | cons ch l ih =>
    intro s
    obtain ⟨htransit, hdone⟩ := ih _
    rw [State.abortChan, htransit, hdone]
    split
    · exact ⟨rfl, rfl⟩
    · rw [tally_setTch]; exact ⟨rfl, rfl⟩

theorem deviceEffect_tallySettle (s : State) (p : Nat) : DeviceEffect s (s.tallySettle p) :=
  (((((DeviceEffect.of_tally s _).trans (deviceEffect_abortChan p _ _)).trans (DeviceEffect.setFld _ _ _ _ (by decide))).trans
    (DeviceEffect.setFld _ _ _ _ (by decide))).trans (DeviceEffect.setFld _ _ _ _ (by decide)))

theorem tallySettle_transit_done (s : State) (p : Nat) :
    (s.tallySettle p).tally.transit = s.tally.transit.filter (fun o => !(o.pair == p)) ∧
      (s.tallySettle p).tally.done = s.tally.done.filter (fun d => !(d.op.pair == p)) := by
  unfold State.tallySettle
  dsimp only
  rw [State.setFld_tally, State.setFld_tally, State.setFld_tally]
  exact abortChan_transit_done p (List.range 16) _

theorem tallyAbort_halted {s : State} {p : Nat} (hp : p < 96) (hhalt : (s.pair p).halt.isSome = true) :
    s.tallyAbort p = s.tallySettle p := by
  unfold State.tallyAbort
  rw [if_neg (by omega), if_neg]
  cases h : (s.pair p).halt
  · rw [h] at hhalt; exact absurd hhalt (by simp)
  · simp

/-- TALLY_ABORT of a halted core: none of its operations is on its way, those of other cores still are (R219). -/
theorem tallyAbort_completes {s : State} {core : BitVec 7} (hq : Quiet s) (hp : core.toNat < 96)
    (hhalt : (s.pair core.toNat).halt.isSome = true) :
    ∃ u, exec (.tallyAbort core) s = .next u ∧ (∀ x ∈ u.tally.transit, x.pair ≠ core.toNat) ∧
      (∀ x ∈ u.tally.done, x.op.pair ≠ core.toNat) ∧
      (∀ x, x.pair ≠ core.toNat → (x ∈ u.tally.transit ↔ x ∈ s.tally.transit)) ∧
      (∀ q, u.pair q = s.pair q) ∧ SameMemory s u := by
  obtain ⟨u, hu, htally, -, hpairs, hmem⟩ := does_of_deviceEffect (f := fun s => s.tallyAbort core.toNat)
    (tallyAbort_halted (s := { s with out := [] }) hp hhalt) (deviceEffect_tallySettle _ _) hq
  obtain ⟨htransit, hdone⟩ := tallySettle_transit_done { s with out := [] } core.toNat
  rw [← htally] at htransit hdone
  refine ⟨u, hu, ?_, ?_, ?_, fun q => by unfold State.pair; rw [hpairs], hmem⟩
  · intro x hx
    rw [htransit] at hx
    simpa using (List.mem_filter.mp hx).2
  · intro x hx
    rw [hdone] at hx
    simpa using (List.mem_filter.mp hx).2
  · intro x hx
    rw [htransit, List.mem_filter]
    simp [hx]

/-! ## Counters of the tally units -/

/-- The counters of a tally channel (R221). -/
def tchCounters (ch : Nat) : List Nat :=
  [Addr.TCH_CNT_ACC ch, Addr.TCH_CNT_LATE ch, Addr.TCH_CNT_SEAL ch, Addr.TCH_CNT_RETRY ch, Addr.TCH_CNT_WB ch, Addr.TCH_CNT_PARK ch]

theorem mem_tchCounters {ch a : Nat} : a ∈ tchCounters ch ↔ ∃ k, 1 ≤ k ∧ k ≤ 6 ∧ a = 0xF0004001000 + 8 * k + 0x100 * ch := by
  simp only [tchCounters, List.mem_cons, List.not_mem_nil, or_false, Addr.TCH_CNT_ACC, Addr.TCH_CNT_LATE, Addr.TCH_CNT_SEAL,
    Addr.TCH_CNT_RETRY, Addr.TCH_CNT_WB, Addr.TCH_CNT_PARK]
  constructor
  · rintro (rfl | rfl | rfl | rfl | rfl | rfl)
    · exact ⟨1, by omega⟩
    · exact ⟨2, by omega⟩
    · exact ⟨3, by omega⟩
    · exact ⟨4, by omega⟩
    · exact ⟨5, by omega⟩
    · exact ⟨6, by omega⟩
  · rintro ⟨k, h1, h6, rfl⟩
    omega

theorem tchOcc_not_counter (c ch : Nat) : Addr.TCH_OCC c ∉ tchCounters ch := by
  rw [mem_tchCounters]
  rintro ⟨k, h1, h6, h⟩
  simp only [Addr.TCH_OCC] at h
  omega

/-- The counters of a channel clear, and of all other registers only its occupancy changes. -/
theorem rd_tallyClrCh (s : State) (ch : Nat) {a : Nat} (h : a ≠ Addr.TCH_OCC ch) :
    (s.tallyClrCh ch).rd a = if a ∈ tchCounters ch then 0 else s.rd a := by
  unfold State.tallyClrCh tchCounters
  simp only [State.rd_setFld, State.rd_wr, if_neg h, List.mem_cons, List.not_mem_nil, or_false]
  split_ifs <;> simp_all

/-- What is in use in a channel stays. -/
theorem fld_tchOcc_tallyClrCh (s : State) (ch c : Nat) :
    (s.tallyClrCh ch).fld (Addr.TCH_OCC c) 0 10 = s.fld (Addr.TCH_OCC c) 0 10 := by
  by_cases h : Addr.TCH_OCC c = Addr.TCH_OCC ch
  · unfold State.tallyClrCh
    rw [h, fld_setFld_apart _ _ _ _ _ _ _ (by decide) (by decide)]
    refine fld_of_rd ?_ 0 10
    have hne := tchOcc_not_counter ch ch
    simp only [tchCounters, List.mem_cons, not_or] at hne
    simp only [State.rd_wr, hne, if_false]
  · exact fld_of_rd ((rd_tallyClrCh s ch h).trans (if_neg (tchOcc_not_counter c ch))) 0 10

theorem deviceEffect_tallyClrCh (s : State) (ch : Nat) : DeviceEffect s (s.tallyClrCh ch) :=
  ((((((DeviceEffect.wr s _ (tchAcc_not_mem_endRegs ch)).trans (DeviceEffect.wr _ _ (tchLate_not_mem_endRegs ch))).trans
    (DeviceEffect.wr _ _ (tchSeal_not_mem_endRegs ch))).trans (DeviceEffect.wr _ _ (tchRetry_not_mem_endRegs ch))).trans
    (DeviceEffect.wr _ _ (tchWb_not_mem_endRegs ch))).trans (DeviceEffect.wr _ _ (tchPark_not_mem_endRegs ch))).trans
    (DeviceEffect.setFld _ _ _ _ (tchOcc_not_mem_endRegs ch))

theorem tally_tallyClrCh (s : State) (ch : Nat) : (s.tallyClrCh ch).tally = s.tally := by
  unfold State.tallyClrCh
  rw [State.setFld_tally, State.wr_tally, State.wr_tally, State.wr_tally, State.wr_tally, State.wr_tally, State.wr_tally]

theorem foldl_tallyClrCh_effect (l : List Nat) : ∀ s : State, DeviceEffect s (l.foldl (fun s ch => s.tallyClrCh ch) s) ∧
    (l.foldl (fun s ch => s.tallyClrCh ch) s).tally = s.tally := by
  induction l with
  | nil => exact fun s => ⟨.refl s, rfl⟩
  | cons ch l ih =>
    intro s
    obtain ⟨h, htally⟩ := ih (s.tallyClrCh ch)
    rw [List.foldl_cons]
    exact ⟨(deviceEffect_tallyClrCh s ch).trans h, htally.trans (tally_tallyClrCh s ch)⟩

theorem foldl_tallyClrCh_occ (l : List Nat) : ∀ (s : State) (c : Nat),
    (l.foldl (fun s ch => s.tallyClrCh ch) s).fld (Addr.TCH_OCC c) 0 10 = s.fld (Addr.TCH_OCC c) 0 10 := by
  induction l with
  | nil => exact fun s c => rfl
  | cons ch l ih => intro s c; rw [List.foldl_cons, ih, fld_tchOcc_tallyClrCh]

theorem foldl_tallyClrCh_counter (l : List Nat) : ∀ (s : State) {c a : Nat}, a ∈ tchCounters c → (c ∈ l ∨ s.rd a = 0) →
    (l.foldl (fun s ch => s.tallyClrCh ch) s).rd a = 0 := by
  induction l with
  | nil => exact fun s c a _ h => h.resolve_left (by simp)
  | cons ch l ih =>
    intro s c a ha h
    have hstep : (s.tallyClrCh ch).rd a = if a ∈ tchCounters ch then 0 else s.rd a :=
      rd_tallyClrCh s ch (fun h => tchOcc_not_counter ch c (h ▸ ha))
    rw [List.foldl_cons]
    refine ih _ ha ?_
    rw [hstep]
    rcases h with h | h
    · rcases List.mem_cons.mp h with rfl | h
      · exact .inr (if_pos ha)
      · exact .inl h
    · exact .inr (by rw [h]; split <;> rfl)

theorem rd_tallyClrCnt (s : State) {h a : Nat} (hh : h < 16) (ha : a ∈ tchCounters h) : s.tallyClrCnt.rd a = 0 := by
  have hne : a ≠ Addr.TALLY_STATUS := by
    obtain ⟨k, -, -, rfl⟩ := mem_tchCounters.mp ha
    simp only [Addr.TALLY_STATUS]; omega
  rw [State.tallyClrCnt, State.rd_setFld_ne _ _ _ _ hne]
  exact foldl_tallyClrCh_counter _ _ ha (.inl (List.mem_range.mpr hh))

theorem fld_tchOcc_tallyClrCnt (s : State) (h : Nat) :
    s.tallyClrCnt.fld (Addr.TCH_OCC h) 0 10 = s.fld (Addr.TCH_OCC h) 0 10 := by
  have hne : Addr.TCH_OCC h ≠ Addr.TALLY_STATUS := by simp only [Addr.TALLY_STATUS, Addr.TCH_OCC]; omega
  rw [State.tallyClrCnt, fld_of_rd (State.rd_setFld_ne _ _ _ _ hne), foldl_tallyClrCh_occ]

theorem tallyClrCnt_effect (s : State) : DeviceEffect s s.tallyClrCnt ∧ s.tallyClrCnt.tally = s.tally := by
  obtain ⟨heff, htally⟩ := foldl_tallyClrCh_effect (List.range 16) s
  refine ⟨heff.trans (DeviceEffect.setFld _ 0 2 0 (by decide)), ?_⟩
  rw [State.tallyClrCnt, State.setFld_tally, htally]

/-- TALLY_CLRCNT clears the counters of every channel and nothing of the tally units (R221). -/
theorem tallyClrcnt_completes {s : State} (hq : Quiet s) : ∃ u, exec .tallyClrcnt s = .next u ∧ u.tally = s.tally ∧
    ∀ h, h < 16 → (∀ a ∈ tchCounters h, u.rd a = 0) ∧ u.fld (Addr.TCH_OCC h) 0 10 = s.fld (Addr.TCH_OCC h) 0 10 := by
  obtain ⟨heff, htally⟩ := tallyClrCnt_effect { s with out := [] }
  obtain ⟨u, hu, hu', hdev, -, -⟩ := does_of_deviceEffect (f := State.tallyClrCnt) rfl heff hq
  refine ⟨u, hu, hu'.trans htally, fun h hh => ⟨fun a ha => ?_, ?_⟩⟩
  · rw [State.rd_of_dev hdev, rd_tallyClrCnt _ hh ha]
  · exact (fld_of_rd (State.rd_of_dev hdev _) 0 10).trans (fld_tchOcc_tallyClrCnt _ h)

end Sys2Proof.Laws
end

section
/-!
PROOFS. Register writes, fabric timeouts and counter clears (O60).
-/
namespace Sys2Proof.Laws
open Sys2Proof.Machine
open Sys2Proof (Instr)

/-! ## Register writes, fabric timeouts and counter clears -/

/-- A write of a valid value by a pair or the debug port is stored and nothing else (R9, R12). -/
theorem registerWrite_spillCfg {s : State} {src : Nat} {val : Word} (hq : Quiet s) (hs : src < 105) (hv : val.toNat ≤ 4) :
    ∃ u, exec (.registerWrite src Addr.EVD_SPILLCFG val) s = .next u ∧ u.fld Addr.EVD_SPILLCFG 0 3 = val.toNat ∧
      (∀ a, a ≠ Addr.EVD_SPILLCFG → u.rd a = s.rd a) ∧ SameMemory s u := by
  obtain ⟨u, hu, -, hdev, -, hmem⟩ := does_of_deviceEffect
    (f := fun s => s.devWrite (if src = 104 then .debug else .pair src) Addr.EVD_SPILLCFG val.toNat)
    (devWrite_spillCfg { s with out := [] } _ hv) (DeviceEffect.setFld _ 0 3 val.toNat (by decide)) hq
  refine ⟨u, (exec_registerWrite hs (by decide) (by decide) (by decide) val s).trans hu, ?_, fun a ha => ?_, hmem⟩
  · rw [fld_of_rd (State.rd_of_dev hdev _), fld_setFld_same _ _ _ _ _ (by decide)]
    omega
  · exact (State.rd_of_dev hdev a).trans (State.rd_setFld_ne _ _ _ _ ha)

/-- A notice changes no register but its queue's count of dropped notices (R446). -/
theorem rd_notify (s : State) {q a : Nat} (kind unit idx detail : Nat) (h : a ≠ Addr.SEN_NQSTAT q) :
    (s.notify q kind unit idx detail).rd a = s.rd a := by
  unfold State.notify
  dsimp only
  split
  · exact State.rd_setFld_ne _ _ _ _ h
  · rfl

theorem deviceEffect_notify (s : State) {q : Nat} (h : Addr.SEN_NQSTAT q ∉ endRegs) (kind unit idx detail : Nat) :
    DeviceEffect s (s.notify q kind unit idx detail) := by
  refine ⟨?_, fun a ha => rd_notify s kind unit idx detail fun hc => h (hc ▸ ha)⟩
  unfold State.notify
  dsimp only
  split
  · exact ⟨_, s.tally, s.arbs, s.notices, rfl⟩
  · exact ⟨s.dev, s.tally, s.arbs, _, rfl⟩

/-- What a fabric failure records, before its notice (R543). -/
def ftoRecord (s : State) (unit pa : Nat) (crc : Bool) : State :=
  (((if crc then s.bump Addr.PWR_CNT_CRC else s).wr Addr.FTO_ADDR (BitVec.ofNat 64 (pa % 2 ^ 44 + unit % 256 * 2 ^ 44))).bump
    Addr.FTO_CNT).setBit Addr.PWR_ERR 3

theorem fabricTimeout_eq {s : State} {unit : Nat} (h : 104 ≤ unit) (pa va : Nat) (store crc : Bool) :
    s.fabricTimeout unit pa va store crc = (ftoRecord s unit pa crc).notify 3 0x08 7 unit pa := by
  unfold State.fabricTimeout
  exact if_neg (by omega)

theorem deviceEffect_ftoRecord (s : State) (unit pa : Nat) (crc : Bool) : DeviceEffect s (ftoRecord s unit pa crc) := by
  have hcrc : DeviceEffect s (if crc then s.bump Addr.PWR_CNT_CRC else s) := by
    cases crc
    · exact .refl s
    · exact .bump s (by decide)
  exact ((hcrc.trans (.wr _ _ (by decide))).trans (.bump _ (by decide))).trans (.setBit _ _ (by decide))

theorem fld_ftoRecord_err (s : State) (unit pa : Nat) (crc : Bool) : (ftoRecord s unit pa crc).fld Addr.PWR_ERR 3 1 = 1 :=
  fld_setFld_same _ _ _ _ _ (by decide)

theorem rd_ftoRecord_addr (s : State) (unit pa : Nat) (crc : Bool) :
    (ftoRecord s unit pa crc).rd Addr.FTO_ADDR = BitVec.ofNat 64 (pa % 2 ^ 44 + unit % 256 * 2 ^ 44) := by
  rw [ftoRecord, State.rd_setBit_ne _ _ (by decide), State.rd_bump_ne _ (by decide), State.rd_wr, if_pos rfl]

theorem rd_ftoRecord_cnt (s : State) (unit pa : Nat) (crc : Bool) :
    (ftoRecord s unit pa crc).rd Addr.FTO_CNT = BitVec.ofNat 64 (min ((s.rd Addr.FTO_CNT).toNat + 1) (2 ^ 64 - 1)) := by
  have hcrc : (if crc then s.bump Addr.PWR_CNT_CRC else s).rd Addr.FTO_CNT = s.rd Addr.FTO_CNT := by
    cases crc
    · rfl
    · exact State.rd_bump_ne s (by decide)
  rw [ftoRecord, State.rd_setBit_ne _ _ (by decide), rd_bump_same, State.rd_wr, if_neg (by decide), hcrc]

/-- FABRIC_TIMEOUT of a unit that is no pair: the record, the count, the error bit (R543). -/
theorem fabricTimeout_unit {s : State} {unit : BitVec 8} (hq : Quiet s) (h : 104 ≤ unit.toNat) (a va : Nat) (store crc : Bool) :
    ∃ u, exec (.fabricTimeout unit a va store crc) s = .next u ∧
      u.rd Addr.FTO_CNT = BitVec.ofNat 64 (min ((s.rd Addr.FTO_CNT).toNat + 1) (2 ^ 64 - 1)) ∧
      u.rd Addr.FTO_ADDR = BitVec.ofNat 64 (a % 2 ^ 44 + unit.toNat % 256 * 2 ^ 44) ∧ u.fld Addr.PWR_ERR 3 1 = 1 ∧
      u.pairs = s.pairs ∧ SameMemory s u := by
  have heff := deviceEffect_ftoRecord { s with out := [] } unit.toNat a crc
  have hnote := deviceEffect_notify (ftoRecord { s with out := [] } unit.toNat a crc) (q := 3) (by decide) 0x08 7 unit.toNat a
  obtain ⟨u, hu, -, hdev, hpairs, hmem⟩ := does_of_deviceEffect (f := fun s => s.fabricTimeout unit.toNat a va store crc)
    (fabricTimeout_eq (s := { s with out := [] }) h a va store crc) (heff.trans hnote) hq
  have hu' : ∀ b, b ≠ Addr.SEN_NQSTAT 3 → u.rd b = (ftoRecord { s with out := [] } unit.toNat a crc).rd b := fun b hb =>
    (State.rd_of_dev hdev b).trans (rd_notify _ _ _ _ _ hb)
  refine ⟨u, hu, ?_, ?_, ?_, hpairs, hmem⟩
  · rw [hu' _ (by decide), rd_ftoRecord_cnt, State.rd_of_dev (t := { s with out := [] }) (s := s) rfl]
  · rw [hu' _ (by decide), rd_ftoRecord_addr]
  · rw [fld_of_rd (hu' _ (by decide)), fld_ftoRecord_err]

/-- The two fields of FTO_ADDR: the address and the unit. -/
theorem bitsAt_ftoAddr (a : Nat) {unit : Nat} (h : unit < 256) {v : Word} (hv : v = BitVec.ofNat 64 (a % 2 ^ 44 + unit % 256 * 2 ^ 44)) :
    bitsAt v.toNat 0 44 = a % 2 ^ 44 ∧ bitsAt v.toNat 44 8 = unit := by
  have hval : v.toNat = a % 2 ^ 44 + unit * 2 ^ 44 := by
    rw [hv, BitVec.toNat_ofNat, Nat.mod_eq_of_lt h]
    omega
  unfold bitsAt
  omega

/-- PT_CLRCNT clears the overflow counts of every pair's trace (R306). -/
theorem ptClrcnt_completes {s : State} (hq : Quiet s) : ∃ u, exec .ptClrcnt s = .next u ∧
    (∀ p, p < 104 → u.rd (Addr.PT_OVCNT p) = 0) ∧ u.pairs = s.pairs ∧ SameMemory s u := by
  obtain ⟨u, hu, -, hdev, hpairs, hmem⟩ := does_of_deviceEffect (f := State.ptClrCnt) rfl (deviceEffect_ptClrCnt _) hq
  refine ⟨u, hu, fun p hp => ?_, hpairs, hmem⟩
  rw [State.rd_of_dev hdev, State.ptClrCnt, rd_ptClr, if_pos ⟨p, List.mem_range.mpr hp, rfl⟩]

/-- TR_CLRCNT clears the counters of translation (R336). -/
theorem trClrcnt_completes {s : State} (hq : Quiet s) : ∃ u, exec .trClrcnt s = .next u ∧
    (∀ a ∈ [Addr.RCU_CNT_VIOL, Addr.TR_CNT_WALK, Addr.TR_CNT_CDSET], u.rd a = 0) ∧
    u.rd Addr.RCU_VIOL_ADDR = s.rd Addr.RCU_VIOL_ADDR ∧ SameMemory s u := by
  obtain ⟨u, hu, -, hdev, -, hmem⟩ := does_of_deviceEffect (f := State.trClrCnt) rfl (deviceEffect_trClrCnt _) hq
  refine ⟨u, hu, fun a ha => ?_, ?_, hmem⟩
  · rw [State.rd_of_dev hdev, rd_trClrCnt]
    simp only [List.mem_cons, List.not_mem_nil, or_false] at ha
    rcases ha with rfl | rfl | rfl <;> simp
  · rw [State.rd_of_dev hdev, rd_trClrCnt, if_neg (by decide), if_neg (by decide), if_neg (by decide)]
    rfl

end Sys2Proof.Laws
end

section
/-!
PROOFS. A bundle of one syllable, mode shadows, custom syllables, and the assembly of O60.
-/
namespace Sys2Proof.Laws
open Sys2Proof.Machine
open Sys2Proof (Instr)

/-! ## A bundle of one SUB word -/

/-- The syllable word of SUB with S set, PS and PI clear (R102, R136). -/
def subWord (cd cs1 cs2 : RegIx) : Nat := 2 ^ 31 + 0x10 * 2 ^ 21 + cd.toNat * 2 ^ 16 + cs1.toNat * 2 ^ 11 + cs2.toNat * 2 ^ 6 + 1

/-- What the decoder knows of a SUB. -/
def subInfo (cd cs1 cs2 : RegIx) : SylInfo := ⟨1, [cs1.toNat, cs2.toNat], [cd.toNat], none, false, false, false, false, false⟩

/-- SUB as the one syllable of a bundle. -/
def subSyl (p : Nat) (cd cs1 cs2 : RegIx) : DSyl := ⟨.sub p cd cs1 cs2, subInfo cd cs1 cs2, 1, 0, false⟩

section
variable (cd cs1 cs2 : RegIx)

theorem subWord_fields : bitsAt (subWord cd cs1 cs2) 21 6 = 0x10 ∧ bitsAt (subWord cd cs1 cs2) 0 6 = 1 ∧
    bitsAt (subWord cd cs1 cs2) 16 5 = cd.toNat ∧ bitsAt (subWord cd cs1 cs2) 11 5 = cs1.toNat ∧
    bitsAt (subWord cd cs1 cs2) 6 5 = cs2.toNat ∧ bitsAt (subWord cd cs1 cs2) 28 3 = 0 := by
  have h1 := cd.isLt
  have h2 := cs1.isLt
  have h3 := cs2.isLt
  unfold subWord bitsAt
  refine ⟨?_, ?_, ?_, ?_, ?_, ?_⟩ <;> omega

theorem subWord_testBit : (subWord cd cs1 cs2).testBit 31 = true ∧ (subWord cd cs1 cs2).testBit 27 = false := by
  have h1 := cd.isLt
  have h2 := cs1.isLt
  have h3 := cs2.isLt
  rw [Nat.testBit_eq_decide_div_mod_eq, Nat.testBit_eq_decide_div_mod_eq, decide_eq_true_iff, decide_eq_false_iff_not]
  unfold subWord
  constructor <;> omega

theorem decodeSyl_subWord (p : Nat) : decodeSyl p (subWord cd cs1 cs2) none = some (.sub p cd cs1 cs2) := by
  obtain ⟨hmaj, hmn, hcd, hcs1, hcs2, -⟩ := subWord_fields cd cs1 cs2
  have hown : ∀ x : RegIx, BitVec.ofNat 5 x.toNat = x := fun x => by simp
  unfold decodeSyl
  rw [hmaj, hmn, hcd, hcs1, hcs2, hown, hown, hown]
  cases isSentinel p <;> rfl

theorem decodeBundle_subWord (p : Nat) (list : Bool) (t : DecodeTable) :
    decodeBundle p list t [subWord cd cs1 cs2] = .inl [subSyl p cd cs1 cs2] := by
  obtain ⟨hmaj, -, -, -, -, hps⟩ := subWord_fields cd cs1 cs2
  obtain ⟨-, hpi⟩ := subWord_testBit cd cs1 cs2
  unfold decodeBundle
  simp only [List.reverse_cons, List.reverse_nil, List.nil_append, hmaj]
  unfold decodeWords
  rw [if_neg (by decide)]
  dsimp only
  rw [decodeSyl_subWord, hmaj, hps, hpi]
  rfl

end

/-! ## Fetch from plain memory -/

/-- A word fetched from plain memory (R53, R112); its line is in the pair's instruction buffer. -/
theorem fetchWord_plain {s : State} {p b w : Nat} (h : PlainFetch s p b w) :
    fetchWord p b (s.bank p b).pcc.addr s = .ok w (s.fetchLine p ((s.bank p b).pcc.addr / 64)) := by
  obtain ⟨hcheck, halign, htop, hsen, hbare, hrcu, htally, hlat, -, hstale, hnum⟩ := h
  have hplan := planAccess_plain (s := s) (p := p) (b := b) (ea := (s.bank p b).pcc.addr) (n := 4)
    ⟨hcheck, by decide, by omega, htop, hsen, hbare, hrcu, htally, hlat⟩ .fetch false
  unfold fetchWord
  rw [hcheck, hplan]
  simp only [Res.bind, State.readPieces, if_true, dramEnter_plain htally hlat, List.append_nil, staleWord_of_none hstale]
  rw [show bytesNat (s.bytesAt .dram (s.bank p b).pcc.addr 4) = w from hnum]

/-- A bundle of one SUB word fetched from plain memory (R104, R112). -/
theorem fetchBundle_sub {s : State} {p b : Nat} {cd cs1 cs2 : RegIx} (h : PlainFetch s p b (subWord cd cs1 cs2)) (named : Bool) :
    fetchBundle p b (s.bank p b).pcc.addr named s =
      .ok ⟨[subSyl p cd cs1 cs2], 4⟩ (s.fetchLine p ((s.bank p b).pcc.addr / 64)) := by
  obtain ⟨hlast, -⟩ := subWord_testBit cd cs1 cs2
  unfold fetchBundle fetchWords
  rw [fetchWord_plain h]
  simp only [Res.bind, hlast, if_true, decodeBundle_subWord]
  rfl

/-! ## Effects on pairs alone -/

/-- Two states that differ in the pairs' own state and dispatch records alone. -/
def OwnEffect (s t : State) : Prop :=
  ∃ ps e d, t = { s with out := [], pairs := ps, evd := e, sec := { s.sec with dbgHalt := d } }

theorem SameButSequencing.ownEffect {p : Nat} {s t : State} (h : SameButSequencing p s t) : OwnEffect s t := by
  obtain ⟨ps, e, d, rfl, -⟩ := h; exact ⟨ps, e, d, rfl⟩

namespace OwnEffect

theorem updPair {s : State} (h : s.out = []) (p : Nat) (f : Pair → Pair) : OwnEffect s (s.updPair p f) :=
  ⟨_, s.evd, s.sec.dbgHalt, by rw [← h]; rfl⟩

theorem updBank {s : State} (h : s.out = []) (p b : Nat) (f : Bank → Bank) : OwnEffect s (s.updBank p b f) :=
  ⟨_, s.evd, s.sec.dbgHalt, by rw [← h]; rfl⟩

theorem trans {s t u : State} (h : OwnEffect s t) (k : OwnEffect t u) : OwnEffect s u := by
  obtain ⟨ps, e, d, rfl⟩ := h
  obtain ⟨ps', e', d', rfl⟩ := k
  exact ⟨ps', e', d', rfl⟩

variable {s t : State} (h : OwnEffect s t)
include h

theorem out_eq : t.out = [] := by obtain ⟨ps, e, d, rfl⟩ := h; rfl
theorem tally_eq : t.tally = s.tally := by obtain ⟨ps, e, d, rfl⟩ := h; rfl
theorem sameMemory : SameMemory s t := by obtain ⟨ps, e, d, rfl⟩ := h; exact ⟨SameMaps.refl _, rfl⟩
theorem sameUnits : SameUnits s t := by
  obtain ⟨ps, e, d, rfl⟩ := h
  exact ⟨rfl, rfl, rfl, rfl, rfl, rfl, rfl, rfl, rfl, rfl, rfl, rfl, rfl, rfl, rfl, rfl, rfl⟩
theorem atRest (hq : Quiet s) : AtRest s t := by
  obtain ⟨ps, e, d, rfl⟩ := h; exact atRest_of_same hq rfl rfl rfl rfl rfl

end OwnEffect

theorem ownEffect_clearOut (s : State) : OwnEffect s { s with out := [] } := ⟨s.pairs, s.evd, s.sec.dbgHalt, rfl⟩

/-! ## The state in which a bundle's syllables run -/

/-- From s to t pair p fetched: messages gone, dispatch records, and of the pair the mark of a context just resumed and the
instruction buffer. -/
def Fetched (p : Nat) (s t : State) : Prop :=
  OwnEffect s t ∧ ∃ r l, t.pair p = { s.pair p with resumed := r, ibuf := l }

namespace Fetched

theorem trans {p : Nat} {s t u : State} (h : Fetched p s t) (k : Fetched p t u) : Fetched p s u := by
  obtain ⟨h1, r, l, hp⟩ := h
  obtain ⟨k1, r', l', kp⟩ := k
  exact ⟨h1.trans k1, r', l', by rw [kp, hp]⟩

variable {p : Nat} {s t : State} (h : Fetched p s t)
include h

theorem bank_eq (b : Nat) : t.bank p b = s.bank p b := by
  obtain ⟨-, r, l, hp⟩ := h
  unfold State.bank; rw [hp]; rfl

theorem srcX_eq (b n : Nat) : t.srcX p b n = s.srcX p b n := by
  obtain ⟨-, r, l, hp⟩ := h
  unfold State.srcX State.src State.bank; rw [hp]; rfl

theorem tallyBusy_eq (b : Nat) : t.tallyBusy p b = s.tallyBusy p b := by
  unfold State.tallyBusy State.tallyOut; rw [h.1.tally_eq]

theorem plainFetch {b w : Nat} (k : PlainFetch s p b w) : PlainFetch t p b w := by
  obtain ⟨⟨hmem, -, hpoison, hlat, -⟩, hstale⟩ := h.1.sameMemory
  have hrcu : t.rcuOn = s.rcuOn := by obtain ⟨⟨ps, e, d, rfl⟩, -⟩ := h; rfl
  unfold PlainFetch at k ⊢
  rwa [h.bank_eq, hrcu, h.1.tally_eq, hlat, hpoison, hstale, numAt_of_mem hmem]

end Fetched

/-- A pair's line fetched changes its instruction buffer alone. -/
theorem fetched_fetchLine {s : State} (ho : s.out = []) (p line : Nat) : Fetched p s (s.fetchLine p line) := by
  unfold State.fetchLine
  dsimp only
  split
  · exact ⟨⟨s.pairs, s.evd, s.sec.dbgHalt, by rw [← ho]⟩, _, _, rfl⟩
  · exact ⟨.updPair ho p _, _, _, (State.pair_updPair s p p _).trans (if_pos rfl)⟩

/-- A context executes: its delivery entered, and no longer just resumed (R192, R257). -/
theorem fetched_enter {s : State} (ho : s.out = []) (p b : Nat) : Fetched p s (s.enter p b) := by
  have hi : issued s p b = s.enter p b := by unfold issued; rw [← ho]
  obtain ⟨ps, e, r, h, -, hp⟩ := issued_eq s p b
  have hpair : (issued s p b).pair p = { s.pair p with resumed := r } := by rw [h]; exact hp
  rw [← hi]
  exact ⟨(sameButSequencing_issued s p b).ownEffect, r, _, hpair⟩

theorem tickShadow_none {v : Pair} (h : v.shadow = []) : tickShadow v = v := by
  unfold tickShadow; rw [h]
  cases v
  cases h
  rfl

/-- A boundary with no mode write pending and no mask timer to follow changes nothing of the pair (R227, R286). -/
theorem fetched_boundary {s : State} (ho : s.out = []) {p clk : Nat} (hs : (s.pair p).shadow = [])
    (hm : maskUpdate clk (s.pair p) = s.pair p) : Fetched p s (s.updPair p (fun v => maskUpdate clk (tickShadow v))) := by
  refine ⟨.updPair ho p _, (s.pair p).resumed, (s.pair p).ibuf, ?_⟩
  rw [State.pair_updPair, if_pos rfl, tickShadow_none hs, hm]

/-! ## The run of a bundle of one SUB -/

theorem executes_subSyl (p : Nat) (cd cs1 cs2 : RegIx) (k : Bank) : (subSyl p cd cs1 cs2).executes k = true := rfl

theorem executed_sub (s : State) (p b : Nat) (cd cs1 cs2 : RegIx) :
    executed s p b 0 [subSyl p cd cs1 cs2] = [subSyl p cd cs1 cs2] := by
  unfold executed; rw [executes_subSyl]; rfl

/-- A bundle with no tally status outstanding does not wait (R206). -/
theorem bundleWaits_sub {s : State} {p b : Nat} (h : s.tallyBusy p b = false) (cd cs1 cs2 : RegIx) :
    s.bundleWaits p b ⟨[subSyl p cd cs1 cs2], 4⟩ = false := by
  have hout : s.tallyOut p b = [] := by
    unfold State.tallyBusy at h
    simpa using h
  have hholds : ∀ n, s.tallyHolds p b n = false := fun n => by unfold State.tallyHolds; rw [hout]; rfl
  unfold State.bundleWaits State.sylWaits
  simp [executed_sub, h, hholds]

/-- The body of SUB: the difference modulo 2^64, no flag (R139). -/
theorem sylSub_eq (cd cs1 cs2 : RegIx) (c : SCtx) (s : State) : sylSub cd cs1 cs2 c s =
    .ok false (s.setX c.pair c.bank cd.toNat (s.srcX c.pair c.bank cs1.toNat - s.srcX c.pair c.bank cs2.toNat)) := by
  unfold sylSub intRR opSub State.addFlags
  dsimp only
  rw [if_pos rfl]

theorem runSyls_sub (c : SCtx) (s : State) (cd cs1 cs2 : RegIx) : runSyls c s false 0 s [subSyl c.pair cd cs1 cs2] =
    (.ok false ((s.setX c.pair c.bank cd.toNat
      (s.srcX c.pair c.bank cs1.toNat - s.srcX c.pair c.bank cs2.toNat)).endDelay c.pair), none) := by
  unfold runSyls
  rw [executes_subSyl]
  dsimp only [Bool.not_true, Bool.false_eq_true, if_false]
  rw [show bodyOf (subSyl c.pair cd cs1 cs2).ins = some (sylSub cd cs1 cs2) from rfl]
  dsimp only
  rw [sylSub_eq]
  rfl

/-- A bundle that is no loop's end retires to the next word (R165). -/
theorem bundleEnd_sub {s : State} {c : SCtx} {k0 : Bank} (cd cs1 cs2 : RegIx) (len : Nat) (wait : State)
    (hle : k0.le.toNat ≠ c.pc) (w : Bool) :
    s.bundleEnd c ⟨[subSyl c.pair cd cs1 cs2], len⟩ wait (fun s3 => s3.retireBundle c k0 w) =
      (((s.setX c.pair c.bank cd.toNat (s.srcX c.pair c.bank cs1.toNat - s.srcX c.pair c.bank cs2.toNat)).endDelay c.pair).updBank
        c.pair c.bank (fun k => k.moveTo c.next)).stepped c.pair := by
  unfold State.bundleEnd State.retireBundle
  simp only [runSyls_sub, if_neg hle]
  rfl

/-- A pair that may execute, with no pass, event or pending ARITH first, executes its next bundle from that bank (R228). -/
theorem bundleCmd_of_execBank {s : State} {p b : Nat} (h : s.execBank p = some b) (ha : s.apendDue p b = false) :
    s.bundleCmd p = s.bundleOn p b ∧ s.eclPass p = s ∧ s.entryDue p = false := by
  unfold State.execBank at h
  split at h
  · cases h
  · rename_i b' hlive
    split at h
    · cases h
    · rename_i hfirst
      obtain rfl : b' = b := Option.some.inj h
      rw [ha, Bool.not_false, Bool.true_and, Bool.or_eq_true, not_or] at hfirst
      obtain ⟨hpass, hentry⟩ := hfirst
      refine ⟨?_, ?_, Bool.eq_false_iff.mpr hentry⟩
      · unfold State.bundleCmd; rw [hlive]
      · unfold State.eclPass; exact if_neg hpass

/-- The state in which the syllables of the bundle at PCC run. -/
def atBundle (s : State) (p b : Nat) : State :=
  ((s.updPair p (fun v => maskUpdate s.clk (tickShadow v))).enter p b).fetchLine p ((s.bank p b).pcc.addr / 64)

theorem fetched_atBundle {s : State} (ho : s.out = []) {p : Nat} (b : Nat) (hs : (s.pair p).shadow = [])
    (hm : maskUpdate s.clk (s.pair p) = s.pair p) : Fetched p s (atBundle s p b) := by
  have h1 := fetched_boundary ho hs hm
  have h2 := h1.trans (fetched_enter h1.1.out_eq p b)
  exact h2.trans (fetched_fetchLine h2.1.out_eq p _)

/-- The bundle at PCC, one SUB word in plain memory, runs: the difference is written and PCC moves to the next word (R104, R165). -/
theorem bundleOn_sub {s : State} {p b : Nat} {cd cs1 cs2 : RegIx} (ho : s.out = []) (hexec : s.execBank p = some b)
    (ha : s.apendDue p b = false) (hs : (s.pair p).shadow = []) (hm : maskUpdate s.clk (s.pair p) = s.pair p)
    (hrep : (s.bank p b).rep = 0) (ht : s.tallyBusy p b = false) (hf : PlainFetch s p b (subWord cd cs1 cs2))
    (hle : (s.bank p b).le.toNat ≠ (s.bank p b).pcc.addr) :
    s.bundleOn p b = ((((atBundle s p b).setX p b cd.toNat (s.srcX p b cs1.toNat - s.srcX p b cs2.toNat)).endDelay p).updBank p b
      (fun k => k.moveTo (addrOf (((s.bank p b).pcc.addr : Int) + 4)))).stepped p := by
  obtain ⟨-, hpass, hentry⟩ := bundleCmd_of_execBank hexec ha
  have hb := fetched_boundary ho hs hm
  have he := hb.trans (fetched_enter hb.1.out_eq p b)
  have hat := fetched_atBundle ho b hs hm
  have hfetch := fetchBundle_sub (he.plainFetch hf) false
  rw [he.bank_eq b] at hfetch
  have hbusy : (atBundle s p b).tallyBusy p b = false := (hat.tallyBusy_eq b).trans ht
  unfold State.bundleOn
  dsimp only
  rw [hpass, if_neg (by rw [ha]; decide), if_neg (by rw [hentry]; decide), he.bank_eq b, hfetch]
  dsimp only
  rw [show ((s.updPair p (fun v => maskUpdate s.clk (tickShadow v))).enter p b).fetchLine p ((s.bank p b).pcc.addr / 64) = atBundle s p b
    from rfl, bundleWaits_sub hbusy, if_neg (by decide), hat.bank_eq b, if_pos hrep]
  refine (bundleEnd_sub (c := ⟨p, b, (s.bank p b).pcc.addr, addrOf (((s.bank p b).pcc.addr : Int) + 4), 0⟩) cd cs1 cs2 4 _ hle _).trans ?_
  dsimp only
  rw [hat.srcX_eq, hat.srcX_eq]

/-- The bank of a pair that has executed one SUB (R139, R165). -/
def subBank (s : State) (p b : Nat) (cd cs1 cs2 : RegIx) : Bank :=
  ((s.bank p b).setReg cd.toNat (intCap (s.srcX p b cs1.toNat - s.srcX p b cs2.toNat))).moveTo
    (addrOf (((s.bank p b).pcc.addr : Int) + 4))

theorem bundleOn_sub_effect {s : State} {p b : Nat} {cd cs1 cs2 : RegIx} (ho : s.out = []) (hexec : s.execBank p = some b)
    (ha : s.apendDue p b = false) (hs : (s.pair p).shadow = []) (hm : maskUpdate s.clk (s.pair p) = s.pair p)
    (hrep : (s.bank p b).rep = 0) (ht : s.tallyBusy p b = false) (hf : PlainFetch s p b (subWord cd cs1 cs2))
    (hle : (s.bank p b).le.toNat ≠ (s.bank p b).pcc.addr) :
    OwnEffect s (s.bundleOn p b) ∧ (s.bundleOn p b).bank p b = subBank s p b cd cs1 cs2 := by
  have hat := fetched_atBundle ho b hs hm
  have hset := OwnEffect.updBank hat.1.out_eq p b
    (fun k => k.setReg cd.toNat (intCap (s.srcX p b cs1.toNat - s.srcX p b cs2.toNat)))
  have hdelay := sameButSequencing_endDelay hset.out_eq p
  have hmove := OwnEffect.updBank hdelay.out_eq p b (fun k => k.moveTo (addrOf (((s.bank p b).pcc.addr : Int) + 4)))
  have hstep := sameButSequencing_stepped hmove.out_eq p
  rw [bundleOn_sub ho hexec ha hs hm hrep ht hf hle]
  refine ⟨(((hat.1.trans hset).trans hdelay.ownEffect).trans hmove).trans hstep.ownEffect, ?_⟩
  refine (hstep.bank_eq p b).trans ((State.bank_updBank _ p p b b _).trans ?_)
  rw [if_pos ⟨rfl, rfl⟩, hdelay.bank_eq, State.bank_updBank, if_pos ⟨rfl, rfl⟩, hat.bank_eq, subBank]

theorem addr_withAddr (c : Cap) (x : Nat) (t : Bool) : (c.withAddr x t).addr = x % 2 ^ 64 := by
  unfold Cap.withAddr Cap.addr
  rw [BitVec.toNat_ofNat, Nat.mod_eq_of_lt (setBitsAt_lt c.bits.isLt (by decide)), bitsAt_setBitsAt_same]

theorem reg_subBank (s : State) (p b : Nat) (cd cs1 cs2 : RegIx) : (subBank s p b cd cs1 cs2).reg cd.toNat =
    if cd = 0 then nullCap else intCap (s.srcX p b cs1.toNat - s.srcX p b cs2.toNat) := by
  refine (Bank.reg_setReg _ _ _ _).trans ?_
  rw [if_pos rfl]
  exact if_congr (toNat_eq_zero_iff cd) rfl rfl

theorem reg_subBank_ne (s : State) (p b : Nat) (cd cs1 cs2 : RegIx) {m : Nat} (h : m ≠ cd.toNat) :
    (subBank s p b cd cs1 cs2).reg m = (s.bank p b).reg m := by
  refine (Bank.reg_setReg _ _ _ _).trans ?_
  rw [if_neg h]
  by_cases h0 : m = 0
  · rw [if_pos h0, h0, Bank.reg_zero]
  · exact if_neg h0

theorem addr_subBank (s : State) (p b : Nat) (cd cs1 cs2 : RegIx) (h : (s.bank p b).pcc.addr + 4 ≤ 2 ^ 41) :
    (subBank s p b cd cs1 cs2).pcc.addr = (s.bank p b).pcc.addr + 4 := by
  refine (addr_withAddr _ _ _).trans ?_
  unfold addrOf
  omega

/-- BUNDLE of one SUB word in plain memory: the difference, the next word, and nothing else (R104, R139, R165). -/
theorem bundle_sub_completes {s : State} {p b : Nat} {cd cs1 cs2 : RegIx} (hq : Quiet s) (hp : p < 104)
    (hexec : ({ s with out := [] } : State).execBank p = some b)
    (ha : s.apendDue p b = false) (hs : (s.pair p).shadow = []) (hm : maskUpdate s.clk (s.pair p) = s.pair p)
    (hrep : (s.bank p b).rep = 0) (ht : s.tallyBusy p b = false) (hf : PlainFetch s p b (subWord cd cs1 cs2))
    (hle : (s.bank p b).le.toNat ≠ (s.bank p b).pcc.addr) :
    ∃ u, exec (.bundle p) s = .next u ∧ u.bank p b = subBank s p b cd cs1 cs2 ∧ SameMemory s u ∧ SameUnits s u := by
  have hrun : ({ s with out := [] } : State).bundleCmd p = ({ s with out := [] } : State).bundleOn p b :=
    (bundleCmd_of_execBank hexec ha).1
  obtain ⟨hown, hbank⟩ := bundleOn_sub_effect (s := { s with out := [] }) rfl hexec ha hs hm hrep ht hf hle
  have hall := (ownEffect_clearOut s).trans hown
  exact ⟨_, (onUnit_has (decide_eq_true hp)).trans (does_at_rest (f := fun s => s.bundleCmd p) hrun (hall.atRest hq)), hbank,
    hall.sameMemory, hall.sameUnits⟩

/-! ## The end of a mode shadow -/

theorem getLsbD_merge (old value mask : Word) {i : Nat} (h : i < 64) :
    (merge old value mask).getLsbD i = (if mask.getLsbD i then value.getLsbD i else old.getLsbD i) := by
  unfold merge
  cases hm : mask.getLsbD i <;> simp only [BitVec.getLsbD_or, BitVec.getLsbD_and, BitVec.getLsbD_not, h, hm] <;> simp

/-- The mask timer is apart from a pair's banks and its mode writes (R227). -/
theorem maskUpdate_banks_shadow (clk : Nat) (v : Pair) : (maskUpdate clk v).banks = v.banks ∧ (maskUpdate clk v).shadow = v.shadow := by
  unfold maskUpdate
  split
  · exact ⟨rfl, rfl⟩
  split <;> exact ⟨rfl, rfl⟩

/-- The pair after the oldest mode write, one of AMODE, has taken effect. -/
theorem bank_amodeShadow (clk : Nat) (v : Pair) {w : ShadowWrite} (ws : List ShadowWrite) (hw : w.reg = .amode) (e : Nat) :
    (maskUpdate clk { applyShadow v w with shadow := ws }).bank e =
      if e = w.bank then { v.bank w.bank with amode := merge (v.bank w.bank).amode w.value w.mask } else v.bank e := by
  have happly : applyShadow v w = v.setBank w.bank { v.bank w.bank with amode := merge (v.bank w.bank).amode w.value w.mask } := by
    unfold applyShadow; rw [hw]
  obtain ⟨hbanks, -⟩ := maskUpdate_banks_shadow clk { applyShadow v w with shadow := ws }
  rw [← Pair.bank_setBank, ← happly]
  unfold Pair.bank
  rw [hbanks]

theorem shadowEnd_eq {s : State} {p : Nat} {w : ShadowWrite} {ws : List ShadowWrite} (h : (s.pair p).shadow = w :: ws) :
    s.shadowEnd p = s.updPair p (fun v => maskUpdate s.clk { applyShadow v w with shadow := ws }) := by
  unfold State.shadowEnd; rw [h]

/-- MODE_SHADOW_END of a write of AMODE: the masked bits are those of the value, and no register changes (R286). -/
theorem modeShadowEnd_amode {s : State} {p : Nat} {w : ShadowWrite} {ws : List ShadowWrite} (hq : Quiet s) (hp : p < 104)
    (h : (s.pair p).shadow = w :: ws) (hw : w.reg = .amode) :
    ∃ u, exec (.modeShadowEnd p) s = .next u ∧ (u.pair p).shadow = ws ∧
      (∀ e, u.bank p e = if e = w.bank then { s.bank p e with amode := merge (s.bank p e).amode w.value w.mask } else s.bank p e) ∧
      SameMemory s u ∧ SameUnits s u := by
  have hend := shadowEnd_eq (s := { s with out := [] }) h
  have hown := (ownEffect_clearOut s).trans
    (OwnEffect.updPair (s := { s with out := [] }) rfl p (fun v => maskUpdate s.clk { applyShadow v w with shadow := ws }))
  have hpair := (State.pair_updPair { s with out := [] } p p (fun v => maskUpdate s.clk { applyShadow v w with shadow := ws })).trans
    (if_pos rfl)
  refine ⟨_, (onUnit_has (decide_eq_true hp)).trans (does_at_rest (f := fun s => s.shadowEnd p) hend (hown.atRest hq)), ?_, fun e => ?_,
    hown.sameMemory, hown.sameUnits⟩
  · exact (congrArg Pair.shadow hpair).trans (maskUpdate_banks_shadow _ _).2
  · refine (congrArg (Pair.bank · e) hpair).trans ((bank_amodeShadow s.clk (s.pair p) ws hw e).trans ?_)
    split
    · rename_i he; subst he; rfl
    · rfl

/-! ## A custom syllable of one micro-op -/

/-- A UALU add of cs1 and cs2 to cd (R411). -/
theorem microOp_add {u : Uop} (hcode : u.code = 1) (hfn : u.fn = 0) (hd : u.d = 1) (ha : u.a = 2) (hb : u.b = 3)
    (c : SCtx) (r : CustomRegs) (w : Work8) (s : State) : microOp c r u w s =
      .ok ({ w with
        held := w.held ++ [(r.cd.toNat, intCap (s.srcX c.pair c.bank r.cs1.toNat + s.srcX c.pair c.bank r.cs2.toNat))],
        flags := w.flags.or noFlags }, 0) s := by
  unfold microOp
  simp only [hcode, hfn, hd, ha, hb]
  rfl

/-- The body of a custom syllable whose one micro-op adds cs1 and cs2 to cd (R411, R416). -/
theorem custom_add {n : BitVec 6} {cd cs1 cs2 : RegIx} {c : SCtx} {s : State} {u : Uop} (hp : c.pair < 96)
    (hdef : customDefined (s.pair c.pair).table n.toNat cd cs1 cs2 = true)
    (hlen : bitsAt ((s.pair c.pair).table.word n.toNat).toNat 5 6 = 1) (hu : uopOf ((s.pair c.pair).table.uop n.toNat 0).toNat = u)
    (hcode : u.code = 1) (hfn : u.fn = 0) (hd : u.d = 1) (ha : u.a = 2) (hb : u.b = 3) :
    custom n cd cs1 cs2 c s =
      .ok false (s.setX c.pair c.bank cd.toNat (s.srcX c.pair c.bank cs1.toNat + s.srcX c.pair c.bank cs2.toNat)) := by
  have hledger : isSentinel c.pair = false := decide_eq_false (by omega)
  unfold custom
  dsimp only
  rw [hledger, hdef, hlen]
  unfold microRun
  rw [hu, microOp_add hcode hfn hd ha hb]
  rfl

/-- A custom syllable of one UALU add writes the sum (R411, R416). -/
theorem customSyllable_add {p b : Nat} {n : BitVec 6} {cd cs1 cs2 : RegIx} {s : State} {u : Uop} (hq : Quiet s) (hp : p < 96)
    (hdef : customDefined (s.pair p).table n.toNat cd cs1 cs2 = true)
    (hlen : bitsAt ((s.pair p).table.word n.toNat).toNat 5 6 = 1) (hu : uopOf ((s.pair p).table.uop n.toNat 0).toNat = u)
    (hcode : u.code = 1) (hfn : u.fn = 0) (hd : u.d = 1) (ha : u.a = 2) (hb : u.b = 3)
    (hi : Issues (.customSyllable p n cd cs1 cs2) p b s) :
    exec (.customSyllable p n cd cs1 cs2) s = .next (intDone s p b cd (s.srcX p b cs1.toNat + s.srcX p b cs2.toNat) noFlags) := by
  obtain ⟨info, hinfo, hload⟩ : ∃ info, infoOf (.customSyllable p n cd cs1 cs2) = some info ∧ info.load = false := ⟨_, rfl, rfl⟩
  have hiss := sameButSequencing_issued s p b
  obtain ⟨r, l, hpair⟩ := hiss.pair_self
  have htable : ((issued s p b).pair p).table = (s.pair p).table := by rw [hpair]
  have hbody : custom n cd cs1 cs2 ((issued s p b).ctxFor p b info) (issued s p b) =
      .ok false ((issued s p b).setX p b cd.toNat (s.srcX p b cs1.toNat + s.srcX p b cs2.toNat)) := by
    rw [← srcX_issued s p b, ← srcX_issued s p b]
    rw [← htable] at hdef hlen hu
    exact custom_add (c := (issued s p b).ctxFor p b info) hp hdef hlen hu hcode hfn hd ha hb
  have hrest := (hiss.ownEffect.trans (OwnEffect.updBank hiss.out_eq p b
    (fun k => k.setReg cd.toNat (intCap (s.srcX p b cs1.toNat + s.srcX p b cs2.toNat))))).atRest hq
  have hexec := syllableCompletes _ _ _ _ _ _ _ _ rfl hi hinfo rfl hbody hrest
  rw [hload, if_neg (by decide)] at hexec
  refine hexec.trans ?_
  unfold intDone State.addFlags
  rw [if_pos rfl]

end Sys2Proof.Laws

namespace Sys2Proof
open Sys2Proof.Machine Sys2Proof.Laws

/-- Settles O60: one lemma for each command, in the order of the statement. -/
theorem plainCompletions : Obligations.PlainCompletions := by
  intro id ch cell src a va core o e dn val unit store crc s hq
  refine ⟨?_, ?_, ?_, ?_, ?_, ?_, ?_, ?_, ?_, ?_, ?_, ?_, ?_, ?_, ?_, ?_, ?_⟩
  · -- TALLY_DECISION_ARRIVAL of an accepted add
    intro hfind hentry hst hk hlen hpool hopen hunc htime hcount hlo hhi
    obtain ⟨u, hu, ⟨f, hf, hdata, hch⟩, hdone, ⟨l, hadds⟩, hmem⟩ := tallyDecisionArrival_accepted hq hfind hentry hst hk
      (decideAdd_accepted hpool hopen hunc htime hcount hlo hhi) (addedCell_ne hlen hcount)
    refine ⟨u, hu, ⟨f, hf, ?_, ?_, ?_, hch⟩, ⟨_, hdone, rfl, rfl, ?_⟩, ⟨l, _, hadds, rfl, rfl, rfl⟩, hmem⟩
    · rw [hdata]; exact cellAmount_addedCell hlen hlo hhi
    · rw [hdata]; exact count_addedCell hlen hcount
    · rw [hdata]; exact drop_addedCell hlen
    · exact toNat_poolId e.data
  · -- COMB_LOAD_COMPLETE with a read waiting
    intro hentry hst hwait hk hlat hpoison hmost hpool hopen
    obtain ⟨u, hu, hf, hdone, hmem⟩ := combLoadComplete_read hq hentry hst hwait hk hlat hpoison hmost
      (decideRead_open hpool hopen) (by omega)
    exact ⟨u, hu, hf, ⟨_, hdone, rfl, rfl⟩, hmem⟩
  · exact combWindowExpiry_dirty hq
  · -- COMB_WRITEBACK_COMPLETE
    intro hentry hst hlen _ _
    exact combWritebackComplete_flushing hq hentry hst hlen
  · exact unpark_completes hq
  · -- PARK_TIMEOUT
    intro hp
    obtain ⟨u, hu, hparked, ⟨h, hdone⟩, hcnt, hmem⟩ := parkTimeout_completes hq hp
    refine ⟨u, hu, hparked, ⟨_, hdone, rfl, ?_⟩, hcnt, hmem⟩
    rw [BitVec.toNat_ofNat]
    omega
  · exact tallyStatusReturn_completes hq
  · exact tallyAbort_completes hq
  · -- TALLY_CLRCNT
    obtain ⟨u, hu, htally, hclear⟩ := tallyClrcnt_completes hq
    refine ⟨u, hu, fun h hh => ?_, htally⟩
    obtain ⟨hzero, hocc⟩ := hclear h hh
    unfold tchCounters at hzero
    exact ⟨hzero _ (by simp), hzero _ (by simp), hzero _ (by simp), hzero _ (by simp), hzero _ (by simp), hzero _ (by simp), hocc⟩
  · -- CELL_LINE_ACCESS
    intro hlt h64 hentry hst hlat hlen
    exact cellLineAccess_flushing hq hlt h64 hentry hst hlat hlen
  · exact fun hs => registerWrite_spillCfg hq (by omega)
  · -- FABRIC_TIMEOUT of a unit
    intro hunit
    obtain ⟨u, hu, hcnt, haddr, herr, hpairs, hmem⟩ := fabricTimeout_unit hq hunit a va store crc
    obtain ⟨hpa, hid⟩ := bitsAt_ftoAddr a unit.isLt haddr
    exact ⟨u, hu, hcnt, hpa, hid, herr, fun q => by unfold State.pair; rw [hpairs], hmem⟩
  · -- PT_CLRCNT
    obtain ⟨u, hu, hclear, hpairs, hmem⟩ := ptClrcnt_completes hq
    exact ⟨u, hu, hclear, fun q => by unfold State.pair; rw [hpairs], hmem⟩
  · -- TR_CLRCNT
    obtain ⟨u, hu, hclear, haddr, hmem⟩ := trClrcnt_completes hq
    exact ⟨u, hu, hclear _ (by simp), hclear _ (by simp), hclear _ (by simp), haddr, hmem⟩
  · -- BUNDLE of one SUB word
    intro p b cd cs1 cs2 w pc hp hexec ha hs hm hrep ht _ hpc hf hw hle
    subst hpc
    rw [show w = subWord cd cs1 cs2 from hw] at hf
    obtain ⟨u, hu, hbank, hmem, hunits⟩ := bundle_sub_completes hq hp hexec ha hs hm hrep ht hf hle
    refine ⟨u, hu, ?_, fun m hm => ?_, ?_, hmem, hunits⟩
    · rw [hbank, reg_subBank]
    · rw [hbank, reg_subBank_ne _ _ _ _ _ _ hm]
    · rw [hbank, addr_subBank _ _ _ _ _ _ hf.2.2.1]
  · -- MODE_SHADOW_END of an AMODE write
    intro p w ws hp hs hw
    obtain ⟨u, hu, hshadow, hbank, hmem, hunits⟩ := modeShadowEnd_amode hq hp hs hw
    refine ⟨u, hu, hshadow, fun i hi => ?_, fun e n => ?_, hmem, hunits⟩
    · rw [hbank, if_pos rfl]; exact getLsbD_merge _ _ _ hi
    · rw [hbank]; split <;> rfl
  · -- a custom syllable of one UALU add
    intro p b n cd cs1 cs2 d x hp hd hx hdef hlen hcode hfn hxd hxa hxb hi
    subst hd
    exact customSyllable_add hq hp hdef hlen hx.symm hcode hfn hxd hxa hxb hi

end Sys2Proof
end

section
/-!
PROOFS. Registers that are hardwired, registers that are written, and the state right after module reset (O3, O4, O5).
-/
namespace Sys2Proof.Laws
open Sys2Proof.Machine

/-! ## Registers of a bank -/

/-- A write to c0 is discarded (R35). -/
theorem setReg_zero (k : Bank) (c : Cap) : k.setReg 0 c = k := rfl

/-- Every bit of the null capability is zero (R35). -/
theorem getLsbD_nullCap (i : Nat) : nullCap.bits.getLsbD i = false := BitVec.getLsbD_zero

theorem bank_setReg_same (s : State) (p b n : Nat) (c : Cap) : (s.setReg p b n c).bank p b = (s.bank p b).setReg n c :=
  (State.bank_updBank s p p b b _).trans (if_pos ⟨rfl, rfl⟩)

theorem bank_setReg_ne (s : State) (p n : Nat) (c : Cap) {b e : Nat} (h : e ≠ b) : (s.setReg p b n c).bank p e = s.bank p e :=
  (State.bank_updBank s p p b e _).trans (if_neg fun ⟨_, he⟩ => h he)

theorem pair_setReg_ne (s : State) (b n : Nat) (c : Cap) {p q : Nat} (h : q ≠ p) : (s.setReg p b n c).pair q = s.pair q :=
  (State.pair_setBank s p q b _).trans (if_neg h)

theorem reg_setReg_same (k : Bank) (n : Nat) (c : Cap) : (k.setReg n c).reg n = if n = 0 then nullCap else c := by
  rw [Bank.reg_setReg, if_pos rfl]

theorem reg_setReg_ne (k : Bank) (c : Cap) {n m : Nat} (h : m ≠ n) : (k.setReg n c).reg m = k.reg m := by
  rw [Bank.reg_setReg, if_neg h]
  split
  · next h0 => rw [h0, Bank.reg_zero]
  · rfl

/-! ## The state right after module reset -/

/-- No pair but the warden's runs anything after reset (R66). -/
theorem pair_reset_of_ne {p : Nat} (h : p ≠ 96) : State.reset.pair p = pairCold := if_neg h

theorem pair_reset_warden : State.reset.pair 96 = wardenReset := rfl

theorem bank_pairCold (b : Nat) : pairCold.bank b = bankReset := rfl

/-- The warden's banks: bank 0 runs, every other one is as any bank after reset (R65). -/
theorem bank_wardenReset_of_ne {b : Nat} (h : b ≠ 0) : wardenReset.bank b = bankReset := if_neg (Ne.symm h)

/-- Every bank has the quantum 1 after reset (R178). -/
theorem bkq_reset (p b : Nat) : (State.reset.bank p b).bkq = 1 := by
  unfold State.bank
  by_cases hp : p = 96
  · subst hp
    rw [pair_reset_warden]
    by_cases hb : b = 0
    · subst hb; rfl
    · rw [bank_wardenReset_of_ne hb]; rfl
  · rw [pair_reset_of_ne hp]; rfl

/-- The warden's bank holds the primordial capabilities and null in every other register (R65). -/
theorem reg_warden_of_not_primordial {n : Nat} (h : n ∉ [4, 5, 6, 7, 8]) : (State.reset.bank 96 0).reg n = nullCap := by
  have hreg : (State.reset.bank 96 0).reg n = if n = 0 then nullCap else smGet (always nullCap) primordial n := rfl
  simp only [List.mem_cons, List.not_mem_nil, or_false, not_or] at h
  obtain ⟨h4, h5, h6, h7, h8⟩ := h
  rw [hreg]
  split
  · rfl
  · simp only [primordial, smGet, if_neg (Ne.symm h4), if_neg (Ne.symm h5), if_neg (Ne.symm h6), if_neg (Ne.symm h7),
      if_neg (Ne.symm h8), always]

end Sys2Proof.Laws

namespace Sys2Proof
open Sys2Proof.Machine Sys2Proof.Laws

/-- Settles O4: c0 and p0 are outside what a bank stores, and the null capability decodes by evaluation. -/
theorem hardwiredRegisters : Obligations.HardwiredRegisters := by
  refine ⟨fun k c => ⟨Bank.reg_zero k, setReg_zero k c⟩, fun k v => ⟨rfl, rfl⟩, fun i _ => getLsbD_nullCap i, rfl,
    by decide, by decide, fun p b s => ⟨?_, Bank.reg_zero _⟩⟩
  rw [bank_setReg_same, setReg_zero]

/-- Settles O5: the register's map is written at one key, its bank and its pair likewise. -/
theorem registerReadAfterWrite : Obligations.RegisterReadAfterWrite := by
  intro s p b n c
  refine ⟨?_, fun m hm => ?_, fun e he => bank_setReg_ne s p n c he, fun q hq => pair_setReg_ne s b n c hq,
    ⟨same_setReg s p b n c, rfl⟩, ?_⟩
  · rw [bank_setReg_same, reg_setReg_same]
  · rw [bank_setReg_same, reg_setReg_ne _ _ hm]
  · exact ⟨rfl, rfl, rfl, rfl, rfl, rfl, rfl, rfl, rfl, rfl, rfl, rfl, rfl, rfl, rfl, rfl, rfl⟩

/-- Settles O3: the warden's bank and the primordial capabilities evaluate, every other pair is cold, and no map lists anything. -/
theorem resetLeavesWarden : Obligations.ResetLeavesWarden := by
  refine ⟨⟨rfl, rfl, by decide, by decide, by decide, by decide, by decide, ?_, fun n _ h => reg_warden_of_not_primordial h, ?_, rfl⟩,
    canonical_lists_nothing ⟨rfl, rfl, rfl, rfl, rfl, rfl, rfl, rfl, rfl⟩, fun p b => ?_, fun a => rfl, fun a => rfl, rfl, rfl⟩
  · -- the five primordial capabilities
    intro e he
    refine ⟨_, rfl, ?_⟩
    revert e
    decide
  · intro p _ hp
    rw [pair_reset_of_ne hp]
    exact ⟨rfl, fun b _ => bank_pairCold b⟩
  · rw [bkq_reset]; decide

end Sys2Proof
end

section
/-!
PROOFS. The fields of a capability, its decoded bounds and its representable cursors (O58).
-/
namespace Sys2Proof.Laws
open Sys2Proof.Machine

/-! ## Fields of 128 bits -/

section
variable (x : Wide) {lo w : Nat} (v : Nat)

theorem toNat_setField (h : lo + w ≤ 128) : (BitVec.ofNat 128 (setBitsAt x.toNat lo w v)).toNat = setBitsAt x.toNat lo w v := by
  rw [BitVec.toNat_ofNat]
  exact Nat.mod_eq_of_lt (setBitsAt_lt x.isLt h)

theorem field_setField_same (h : lo + w ≤ 128) :
    bitsAt (BitVec.ofNat 128 (setBitsAt x.toNat lo w v)).toNat lo w = v % 2 ^ w := by
  rw [toNat_setField x v h, bitsAt_setBitsAt_same]

theorem field_setField_apart {lo' w' : Nat} (h : lo + w ≤ 128) (k : lo' + w' ≤ lo ∨ lo + w ≤ lo') :
    bitsAt (BitVec.ofNat 128 (setBitsAt x.toNat lo w v)).toNat lo' w' = bitsAt x.toNat lo' w' := by
  rw [toNat_setField x v h, bitsAt_setBitsAt_apart _ _ _ _ _ _ k]

end

theorem bitsAt_lt (x lo w : Nat) : bitsAt x lo w < 2 ^ w := Nat.mod_lt _ (Nat.two_pow_pos w)

/-! ## What each replacement of a field leaves (R33, R40) -/

section
variable (c : Cap) (x : Nat) (t : Bool)

theorem addr_lt : c.addr < 2 ^ 64 := bitsAt_lt _ _ _
theorem basem_lt : c.basem < 2 ^ 13 := bitsAt_lt _ _ _
theorem perms_lt : c.perms < 2 ^ 16 := bitsAt_lt _ _ _

@[simp] theorem perms_withAddr : (c.withAddr x t).perms = c.perms := field_setField_apart _ _ (by decide) (by decide)
@[simp] theorem otype_withAddr : (c.withAddr x t).otype = c.otype := field_setField_apart _ _ (by decide) (by decide)
@[simp] theorem exp_withAddr : (c.withAddr x t).exp = c.exp := field_setField_apart _ _ (by decide) (by decide)
@[simp] theorem basem_withAddr : (c.withAddr x t).basem = c.basem := field_setField_apart _ _ (by decide) (by decide)
@[simp] theorem topm_withAddr : (c.withAddr x t).topm = c.topm := field_setField_apart _ _ (by decide) (by decide)

@[simp] theorem otype_withOtype : (c.withOtype x t).otype = x % 2 ^ 16 := field_setField_same _ _ (by decide)
@[simp] theorem perms_withOtype : (c.withOtype x t).perms = c.perms := field_setField_apart _ _ (by decide) (by decide)
@[simp] theorem exp_withOtype : (c.withOtype x t).exp = c.exp := field_setField_apart _ _ (by decide) (by decide)
@[simp] theorem basem_withOtype : (c.withOtype x t).basem = c.basem := field_setField_apart _ _ (by decide) (by decide)
@[simp] theorem topm_withOtype : (c.withOtype x t).topm = c.topm := field_setField_apart _ _ (by decide) (by decide)
@[simp] theorem addr_withOtype : (c.withOtype x t).addr = c.addr := field_setField_apart _ _ (by decide) (by decide)

@[simp] theorem perms_withPerms : (c.withPerms x t).perms = x % 2 ^ 16 := field_setField_same _ _ (by decide)
@[simp] theorem otype_withPerms : (c.withPerms x t).otype = c.otype := field_setField_apart _ _ (by decide) (by decide)
@[simp] theorem exp_withPerms : (c.withPerms x t).exp = c.exp := field_setField_apart _ _ (by decide) (by decide)
@[simp] theorem basem_withPerms : (c.withPerms x t).basem = c.basem := field_setField_apart _ _ (by decide) (by decide)
@[simp] theorem topm_withPerms : (c.withPerms x t).topm = c.topm := field_setField_apart _ _ (by decide) (by decide)
@[simp] theorem addr_withPerms : (c.withPerms x t).addr = c.addr := field_setField_apart _ _ (by decide) (by decide)

end

section
variable (c : Cap) (e bm tm : Nat) (t : Bool)

theorem toNat_withBounds : (c.withBounds e bm tm t).bits.toNat =
    setBitsAt (setBitsAt (setBitsAt c.bits.toNat 90 6 e) 77 13 bm) 64 13 tm := by
  refine (BitVec.toNat_ofNat _ _).trans (Nat.mod_eq_of_lt ?_)
  exact setBitsAt_lt (setBitsAt_lt (setBitsAt_lt c.bits.isLt (by decide)) (by decide)) (by decide)

/-- The fields outside those of the bounds. -/
theorem field_withBounds {lo w : Nat} (h : lo + w ≤ 64 ∨ 96 ≤ lo) :
    bitsAt (c.withBounds e bm tm t).bits.toNat lo w = bitsAt c.bits.toNat lo w := by
  rw [toNat_withBounds, bitsAt_setBitsAt_apart _ _ _ _ _ _ (by omega), bitsAt_setBitsAt_apart _ _ _ _ _ _ (by omega),
    bitsAt_setBitsAt_apart _ _ _ _ _ _ (by omega)]

@[simp] theorem perms_withBounds : (c.withBounds e bm tm t).perms = c.perms := field_withBounds c e bm tm t (by decide)
@[simp] theorem otype_withBounds : (c.withBounds e bm tm t).otype = c.otype := field_withBounds c e bm tm t (by decide)
@[simp] theorem addr_withBounds : (c.withBounds e bm tm t).addr = c.addr := field_withBounds c e bm tm t (by decide)

@[simp] theorem exp_withBounds : (c.withBounds e bm tm t).exp = e % 2 ^ 6 := by
  unfold Cap.exp
  rw [toNat_withBounds, bitsAt_setBitsAt_apart _ _ _ _ _ _ (by decide), bitsAt_setBitsAt_apart _ _ _ _ _ _ (by decide),
    bitsAt_setBitsAt_same]

@[simp] theorem basem_withBounds : (c.withBounds e bm tm t).basem = bm % 2 ^ 13 := by
  unfold Cap.basem
  rw [toNat_withBounds, bitsAt_setBitsAt_apart _ _ _ _ _ _ (by decide), bitsAt_setBitsAt_same]

@[simp] theorem topm_withBounds : (c.withBounds e bm tm t).topm = tm % 2 ^ 13 := by
  unfold Cap.topm
  rw [toNat_withBounds, bitsAt_setBitsAt_same]

end

/-! ## Decoded bounds (R37) -/

/-- The first block mantissa of the window of representable cursors: that of the base less an eighth of the space (R37, R39). -/
def windowMant (c : Cap) : Nat := (c.basem + 2 ^ 13 - 0x400) % 2 ^ 13

/-- The base before it is taken modulo 2^64: that of the block of the cursor, or of a neighbouring block (R37). -/
def unwrappedBase (c : Cap) : Nat :=
  (c.addr / 2 ^ (c.exp + 13) + b2n (decide (c.basem < windowMant c)) +
    (2 ^ 64 - b2n (decide (c.addr / 2 ^ c.exp % 2 ^ 13 < windowMant c)))) * 2 ^ (c.exp + 13) + c.basem * 2 ^ c.exp

section
variable {c : Cap}

theorem base_of_max (h : c.exp = 51) : c.base = 0 := by unfold Cap.base Cap.bounds; rw [if_pos h]
theorem top_of_max (h : c.exp = 51) : c.top = 2 ^ 64 := by unfold Cap.top Cap.bounds; rw [if_pos h]

theorem base_eq (h : c.exp ≠ 51) : c.base = unwrappedBase c % 2 ^ 64 := by
  unfold Cap.base Cap.bounds; rw [if_neg h]; rfl

theorem top_eq (h : c.exp ≠ 51) : c.top = c.base + (c.topm + 2 ^ 13 - c.basem) % 2 ^ 13 * 2 ^ c.exp := by
  unfold Cap.top Cap.base Cap.bounds; rw [if_neg h]

theorem base_lt (h : c.exp ≠ 51) : c.base < 2 ^ 64 := by
  rw [base_eq h]; exact Nat.mod_lt _ (Nat.two_pow_pos 64)

/-! ## The window of representable cursors (R39) -/

/-- The first cursor of the window. -/
def windowStart (c : Cap) : Nat := (c.base + 2 ^ 64 - 2 ^ (c.exp + 10)) % 2 ^ 64

theorem windowStart_lt (c : Cap) : windowStart c < 2 ^ 64 := Nat.mod_lt _ (Nat.two_pow_pos 64)

theorem representable_of_max (h : c.exp = 51) (x : Nat) : c.representable x = true := by
  unfold Cap.representable; rw [if_pos h]

theorem representable_iff (h : c.exp ≠ 51) (x : Nat) :
    c.representable x = true ↔ (x + 2 ^ 64 - windowStart c) % 2 ^ 64 < 2 ^ (c.exp + 13) := by
  unfold Cap.representable; rw [if_neg h]; exact decide_eq_true_iff

theorem two_pow_le_of_exp (h : c.exp ≤ 50) : 2 ^ c.exp ≤ 2 ^ 50 := Nat.pow_le_pow_right (by decide) h

/-- The window starts an eighth of the space below the base, so that, in blocks, only `BASEM` places it (R37, R39). -/
theorem windowStart_modEq (h : c.exp ≤ 50) :
    windowStart c + 2 ^ (c.exp + 10) ≡ c.basem * 2 ^ c.exp [MOD 2 ^ (c.exp + 13)] := by
  have hdvd : 2 ^ (c.exp + 13) ∣ 2 ^ 64 := pow_dvd_pow 2 (by omega)
  have hle : 2 ^ (c.exp + 10) ≤ 2 ^ 64 := Nat.pow_le_pow_right (by decide) (by omega)
  have hstart : windowStart c + 2 ^ (c.exp + 10) ≡ c.base + 2 ^ 64 [MOD 2 ^ 64] := by
    have hmod : windowStart c ≡ c.base + 2 ^ 64 - 2 ^ (c.exp + 10) [MOD 2 ^ 64] := Nat.mod_modEq _ _
    calc windowStart c + 2 ^ (c.exp + 10) ≡ c.base + 2 ^ 64 - 2 ^ (c.exp + 10) + 2 ^ (c.exp + 10) [MOD 2 ^ 64] := hmod.add_right _
      _ = c.base + 2 ^ 64 := by omega
  have hspace : c.base + 2 ^ 64 ≡ c.base [MOD 2 ^ (c.exp + 13)] :=
    (Nat.modEq_zero_iff_dvd.2 hdvd).add_left c.base
  have hbase : c.base ≡ unwrappedBase c [MOD 2 ^ (c.exp + 13)] := by
    rw [base_eq (by omega)]
    exact Nat.ModEq.of_dvd hdvd (Nat.mod_modEq _ _)
  have hmant : unwrappedBase c ≡ c.basem * 2 ^ c.exp [MOD 2 ^ (c.exp + 13)] := by
    unfold unwrappedBase Nat.ModEq
    rw [Nat.add_comm, Nat.add_mul_mod_self_right]
  exact (((hstart.of_dvd hdvd).trans hspace).trans hbase).trans hmant

/-- The arithmetic of a cursor ap + low in blocks of 8192 q: m is the window's start in its block, b the base in its block, bh and
ah say whether base and cursor wrap below the window's start. -/
theorem cursor_in_window {q ap low b m bh ah : Nat} (hq : q ≤ 2 ^ 50) (hlow : low < 8192 * q) (hm : m ≤ 8192 * q)
    (hmant : m + 1024 * q = b + bh * (8192 * q)) (hbh : bh ≤ 1) (hah : ah = if low < m then 1 else 0) :
    (ap + low + 2 ^ 64 - ((ap + bh * (8192 * q) + (2 ^ 64 - ah) * (8192 * q) + b) % 2 ^ 64 + 2 ^ 64 - 1024 * q) % 2 ^ 64) % 2 ^ 64 <
      8192 * q := by
  obtain rfl | rfl : bh = 0 ∨ bh = 1 := by omega
  all_goals
    subst hah
    split <;> omega

/-- The cursor itself lies in the window (R39). -/
theorem representable_addr (h : c.exp ≤ 50) : (c.addr + 2 ^ 64 - windowStart c) % 2 ^ 64 < 2 ^ (c.exp + 13) := by
  have hblock : 2 ^ (c.exp + 13) = 8192 * 2 ^ c.exp := by rw [pow_add]; ring
  have hstep : 2 ^ (c.exp + 10) = 1024 * 2 ^ c.exp := by rw [pow_add]; ring
  -- the cursor is below the window's mantissa exactly where its low part is
  have hcmp : c.addr / 2 ^ c.exp % 2 ^ 13 < windowMant c ↔ c.addr % (8192 * 2 ^ c.exp) < windowMant c * 2 ^ c.exp := by
    rw [← hblock, pow_add, ← Nat.mod_mul_right_div_self, Nat.div_lt_iff_lt_mul (Nat.two_pow_pos _)]
  have hmant : windowMant c * 2 ^ c.exp + 1024 * 2 ^ c.exp =
      c.basem * 2 ^ c.exp + b2n (decide (c.basem < windowMant c)) * (8192 * 2 ^ c.exp) := by
    have hbm := basem_lt c
    have : windowMant c + 1024 = c.basem + b2n (decide (c.basem < windowMant c)) * 8192 := by
      unfold windowMant b2n
      simp only [decide_eq_true_eq]
      split <;> omega
    rw [← Nat.mul_assoc, ← Nat.add_mul, ← Nat.add_mul, this]
  have hlt : windowMant c * 2 ^ c.exp ≤ 8192 * 2 ^ c.exp := Nat.mul_le_mul_right _ (Nat.mod_lt _ (by decide)).le
  have hlow : c.addr % (8192 * 2 ^ c.exp) < 8192 * 2 ^ c.exp := Nat.mod_lt _ (Nat.mul_pos (by decide) (Nat.two_pow_pos _))
  have harith := cursor_in_window (ap := c.addr / (8192 * 2 ^ c.exp) * (8192 * 2 ^ c.exp))
    (ah := b2n (decide (c.addr / 2 ^ c.exp % 2 ^ 13 < windowMant c))) (two_pow_le_of_exp h) hlow hlt hmant
    (by unfold b2n; split <;> decide) (by unfold b2n; simp only [decide_eq_true_eq, hcmp])
  rw [Nat.div_add_mod', ← Nat.add_mul, ← Nat.add_mul] at harith
  unfold windowStart
  rw [base_eq (by omega), unwrappedBase, hblock, hstep]
  exact harith

/-- Two windows of P cursors in one position modulo P that share a cursor are one window. -/
theorem start_unique {x w₁ w₂ P : Nat} (hP : P ∣ 2 ^ 64) (h₁ : w₁ < 2 ^ 64) (h₂ : w₂ < 2 ^ 64) (hmod : w₁ ≡ w₂ [MOD P])
    (hx₁ : (x + 2 ^ 64 - w₁) % 2 ^ 64 < P) (hx₂ : (x + 2 ^ 64 - w₂) % 2 ^ 64 < P) : w₁ = w₂ := by
  have back : ∀ w, w < 2 ^ 64 → (x + 2 ^ 64 - w) % 2 ^ 64 + w ≡ x [MOD P] := fun w hw => by
    refine Nat.ModEq.of_dvd hP ?_
    unfold Nat.ModEq
    omega
  have hdist : (x + 2 ^ 64 - w₁) % 2 ^ 64 ≡ (x + 2 ^ 64 - w₂) % 2 ^ 64 [MOD P] :=
    Nat.ModEq.add_right_cancel hmod ((back w₁ h₁).trans (back w₂ h₂).symm)
  have heq := hdist.eq_of_lt_of_lt hx₁ hx₂
  omega

/-- A representable cursor leaves the window where it was (R39). -/
theorem windowStart_withAddr (h : c.exp ≤ 50) {x : Nat} (hx : x < 2 ^ 64) (hr : c.representable x = true) (t : Bool) :
    windowStart (c.withAddr x t) = windowStart c := by
  have hmod : windowStart (c.withAddr x t) + 2 ^ (c.exp + 10) ≡ windowStart c + 2 ^ (c.exp + 10) [MOD 2 ^ (c.exp + 13)] := by
    have hwith := windowStart_modEq (c := c.withAddr x t) (by rwa [exp_withAddr])
    rw [exp_withAddr, basem_withAddr] at hwith
    exact hwith.trans (windowStart_modEq h).symm
  have hself := representable_addr (c := c.withAddr x t) (by rwa [exp_withAddr])
  rw [addr_withAddr, Nat.mod_eq_of_lt hx, exp_withAddr] at hself
  exact start_unique (pow_dvd_pow 2 (by omega)) (windowStart_lt _) (windowStart_lt _) (Nat.ModEq.add_right_cancel' _ hmod) hself
    ((representable_iff (by omega) x).1 hr)

/-- A representable cursor decodes to the same base and top (R39). -/
theorem bounds_withAddr (h : c.exp ≤ 51) {x : Nat} (hx : x < 2 ^ 64) (hr : c.representable x = true) (t : Bool) :
    (c.withAddr x t).base = c.base ∧ (c.withAddr x t).top = c.top := by
  by_cases hmax : c.exp = 51
  · rw [base_of_max (by rwa [exp_withAddr]), top_of_max (by rwa [exp_withAddr]), base_of_max hmax, top_of_max hmax]
    exact ⟨rfl, rfl⟩
  · have hstart := windowStart_withAddr (by omega) hx hr t
    have hlt₁ := base_lt (c := c.withAddr x t) (by rwa [exp_withAddr])
    have hlt₂ := base_lt hmax
    have hq : 2 ^ (c.exp + 10) ≤ 2 ^ 60 := Nat.pow_le_pow_right (by decide) (by omega)
    have hbase : (c.withAddr x t).base = c.base := by
      unfold windowStart at hstart
      rw [exp_withAddr] at hstart
      omega
    refine ⟨hbase, ?_⟩
    rw [top_eq (by rwa [exp_withAddr]), top_eq hmax, hbase, topm_withAddr, basem_withAddr, exp_withAddr]

/-- The window in integers, as R39 writes it. -/
theorem representable_iff_int (h : c.exp ≤ 50) {x : Nat} (hx : x < 2 ^ 64) : c.representable x = true ↔
    ((x : Int) - ((c.base : Int) - 2 ^ (c.exp + 10)) % 2 ^ 64) % 2 ^ 64 < 2 ^ (c.exp + 13) := by
  have hlt := base_lt (c := c) (by omega)
  have hq : 2 ^ (c.exp + 10) ≤ 2 ^ 60 := Nat.pow_le_pow_right (by decide) (by omega)
  have h10 : (2 : Int) ^ (c.exp + 10) = ((2 ^ (c.exp + 10) : Nat) : Int) := by push_cast; rfl
  have h13 : (2 : Int) ^ (c.exp + 13) = ((2 ^ (c.exp + 13) : Nat) : Int) := by push_cast; rfl
  rw [representable_iff (by omega), windowStart, h10, h13]
  generalize 2 ^ (c.exp + 10) = k at *
  generalize 2 ^ (c.exp + 13) = l at *
  omega

end

end Sys2Proof.Laws

namespace Sys2Proof
open Sys2Proof.Machine Sys2Proof.Laws

/-- Settles O58: a representable cursor lies in the same window, and the window's start gives the base. -/
theorem representableCursors : Obligations.RepresentableCursors := by
  intro c x t hx
  exact ⟨fun h => representable_iff_int h hx, fun h => representable_of_max h x, fun h hr => bounds_withAddr h hx hr t⟩

end Sys2Proof
end

section
/-!
PROOFS. A capability in memory: its sixteen bytes and its tag, in DRAM and in the TCMs (O57).
-/
namespace Sys2Proof.Laws
open Sys2Proof.Machine

/-! ## Bytes of a number -/

/-- The low bytes of a number come before those of the rest (R5). -/
theorem natBytes_add (m n : Nat) : ∀ v, natBytes (m + n) v = natBytes m v ++ natBytes n (v / 256 ^ m) := by
  induction m with
  | zero => intro v; simp [natBytes]
  | succ m ih =>
    intro v
    rw [Nat.succ_add, natBytes, natBytes, ih, Nat.div_div_eq_div_mul, Nat.pow_succ', List.cons_append]

theorem natBytes_mod (m : Nat) : ∀ v, natBytes m (v % 256 ^ m) = natBytes m v := by
  induction m with
  | zero => intro v; rfl
  | succ m ih =>
    intro v
    have hlow : BitVec.ofNat 8 (v % 256 ^ (m + 1)) = BitVec.ofNat 8 v := by
      refine BitVec.eq_of_toNat_eq ?_
      rw [BitVec.toNat_ofNat, BitVec.toNat_ofNat, Nat.pow_succ']
      exact Nat.mod_mul_right_mod v 256 (256 ^ m)
    have hrest : v % 256 ^ (m + 1) / 256 = v / 256 % 256 ^ m := by rw [Nat.pow_succ']; exact Nat.mod_mul_right_div_self v 256 (256 ^ m)
    rw [natBytes, natBytes, hlow, hrest, ih]

theorem bytesAt_add (s : State) (sp : Space) (m n : Nat) :
    ∀ pa, s.bytesAt sp pa (m + n) = s.bytesAt sp pa m ++ s.bytesAt sp (pa + m) n := by
  induction m with
  | zero => intro pa; simp [State.bytesAt]
  | succ m ih =>
    intro pa
    rw [Nat.succ_add, State.bytesAt, State.bytesAt, ih, List.cons_append, Nat.add_right_comm, Nat.add_assoc]

/-! ## Writes to a space that stores tags (R70) -/

theorem tagged_cases {sp : Space} (h : sp.tagged = true) : sp = .dram ∨ ∃ k, sp = .tcm k := by
  cases sp <;> simp_all [Space.tagged]

section
variable {sp : Space} (h : sp.tagged = true) (s : State) (pa a : Nat)
include h

/-- A tag reads what was last written to its granule (R67). -/
theorem tagAt_setTag_tagged (t : Bool) : (s.setTag sp pa t).tagAt sp a = if a / 16 = pa / 16 then t else s.tagAt sp a := by
  obtain rfl | ⟨k, rfl⟩ := tagged_cases h
  · exact tagAt_setTag s pa a t
  · have hkey : (k * 0x80000 + a) / 16 = (k * 0x80000 + pa) / 16 ↔ a / 16 = pa / 16 := by omega
    unfold State.setTag State.tagAt
    dsimp only
    rw [smGet_smSet]
    exact if_congr hkey rfl rfl

theorem tagAt_clearTagsFrom_tagged (n : Nat) : (s.clearTagsFrom sp pa n).tagAt sp a =
    if pa / 16 ≤ a / 16 ∧ a / 16 < pa / 16 + n then false else s.tagAt sp a := by
  induction n generalizing s pa with
  | zero => exact (if_neg (by omega)).symm
  | succ n ih =>
    rw [State.clearTagsFrom, ih, tagAt_setTag_tagged h]
    by_cases hfirst : a / 16 = pa / 16
    · rw [if_neg (by omega), if_pos hfirst, if_pos (by omega)]
    · rw [if_neg hfirst]
      exact if_congr (by omega) rfl rfl

/-- What a tagged space reads after a data write: the bytes written, every other byte as before (R5). -/
theorem byteAt_dataWrite_tagged (bs : List Byte) : (s.dataWrite sp pa bs).byteAt sp a =
    if pa ≤ a ∧ a < pa + bs.length then bs.getD (a - pa) 0 else s.byteAt sp a := by
  obtain rfl | ⟨k, rfl⟩ := tagged_cases h
  · exact byteAt_dataWrite s pa a bs
  · unfold State.dataWrite
    rw [byteAt_clearTagsFrom]
    show smGet memDefault (writeBytes s.tcm (k * 0x80000 + pa) bs) (k * 0x80000 + a) = _
    rw [smGet_writeBytes, Nat.add_sub_add_left]
    exact if_congr (by omega) rfl rfl

/-- The tags of a tagged space after a data write: clear in every granule that it touches, as before elsewhere (R72). -/
theorem tagAt_dataWrite_tagged (bs : List Byte) : (s.dataWrite sp pa bs).tagAt sp a =
    if pa / 16 ≤ a / 16 ∧ a / 16 < pa / 16 + granulesIn pa bs.length then false else s.tagAt sp a := by
  obtain rfl | ⟨k, rfl⟩ := tagged_cases h
  · exact tagAt_dataWrite s pa a bs
  · exact tagAt_clearTagsFrom_tagged (sp := .tcm k) rfl _ _ _ _

/-- Bytes written are read back (R5). -/
theorem bytesAt_dataWrite_tagged (bs : List Byte) : (s.dataWrite sp pa bs).bytesAt sp pa bs.length = bs := by
  rw [bytesAt_eq_map]
  refine List.ext_getElem (by simp) fun i h1 h2 => ?_
  rw [List.getElem_map, List.getElem_range, byteAt_dataWrite_tagged h, if_pos (by omega), Nat.add_sub_cancel_left,
    List.getD_eq_getElem _ _ h2]

end

/-! ## A capability written to its granule (R36, R67) -/

section
variable {sp : Space} (h : sp.tagged = true) (s : State) (pa : Nat) (c : Cap)
include h

theorem byteAt_capWrite_outside {a : Nat} (ha : a < pa ∨ pa + 16 ≤ a) : (s.capWrite sp pa c).byteAt sp a = s.byteAt sp a := by
  unfold State.capWrite
  rw [byteAt_setTag, byteAt_dataWrite_tagged h, natBytes_length, if_neg (by omega)]

theorem tagAt_capWrite_outside (halign : pa % 16 = 0) {a : Nat} (ha : a / 16 ≠ pa / 16) :
    (s.capWrite sp pa c).tagAt sp a = s.tagAt sp a := by
  have hone : granulesIn pa 16 = 1 := by unfold granulesIn; rw [if_neg (by decide)]; omega
  unfold State.capWrite
  rw [tagAt_setTag_tagged h, if_neg ha, tagAt_dataWrite_tagged h, natBytes_length, hone, if_neg (by omega)]

theorem tagAt_capWrite : (s.capWrite sp pa c).tagAt sp pa = c.tag := by
  unfold State.capWrite
  rw [tagAt_setTag_tagged h, if_pos rfl]

theorem bytesAt_capWrite : (s.capWrite sp pa c).bytesAt sp pa 16 = natBytes 16 c.bits.toNat := by
  have hbytes : (s.capWrite sp pa c).bytesAt sp pa 16 = (s.dataWrite sp pa (natBytes 16 c.bits.toNat)).bytesAt sp pa 16 := by
    rw [bytesAt_eq_map, bytesAt_eq_map]
    exact List.map_congr_left fun i _ => byteAt_setTag _ _ _ _ _ _
  have hself := bytesAt_dataWrite_tagged h s pa (natBytes 16 c.bits.toNat)
  rw [natBytes_length] at hself
  rw [hbytes, hself]

/-- The address half at offset 0, bits 127:64 at offset 8 (R36). -/
theorem halves_capWrite : (s.capWrite sp pa c).bytesAt sp pa 8 = natBytes 8 c.addr ∧
    (s.capWrite sp pa c).bytesAt sp (pa + 8) 8 = natBytes 8 (c.bits.toNat / 2 ^ 64) := by
  have hboth := bytesAt_capWrite h s pa c
  rw [show 16 = 8 + 8 from rfl, bytesAt_add, natBytes_add] at hboth
  obtain ⟨hlow, hhigh⟩ := List.append_inj hboth (by rw [bytesAt_eq_map]; simp)
  have haddr : c.addr = c.bits.toNat % 256 ^ 8 := by unfold Cap.addr bitsAt; rw [Nat.pow_zero, Nat.div_one]; rfl
  rw [haddr, natBytes_mod]
  exact ⟨hlow, hhigh⟩

/-- A granule reads back the capability written to it (R36). -/
theorem capAt_capWrite : (s.capWrite sp pa c).capAt sp pa = c := by
  have hbits : BitVec.ofNat 128 ((s.capWrite sp pa c).numAt sp pa 16) = c.bits := by
    unfold State.numAt
    rw [bytesAt_capWrite h, bytesNat_natBytes, show 256 ^ 16 = 2 ^ 128 from rfl, Nat.mod_eq_of_lt c.bits.isLt,
      BitVec.ofNat_toNat, BitVec.setWidth_eq]
  unfold State.capAt
  rw [tagAt_capWrite h, hbits]

end

end Sys2Proof.Laws

namespace Sys2Proof
open Sys2Proof.Machine Sys2Proof.Laws

/-- Settles O57: the write is sixteen bytes and a tag, the bytes in a map of their own. -/
theorem capabilityInMemory : Obligations.CapabilityInMemory := by
  rintro s u pa c sp hsp halign rfl
  have htagged : sp.tagged = true := by obtain rfl | ⟨k, rfl⟩ := hsp <;> rfl
  obtain ⟨hlow, hhigh⟩ := halves_capWrite htagged s pa c
  exact ⟨hlow, hhigh, tagAt_capWrite htagged s pa c, capAt_capWrite htagged s pa c,
    fun a ha => byteAt_capWrite_outside htagged s pa c ha, fun a ha => tagAt_capWrite_outside htagged s pa c halign ha,
    fun t a => byteAt_setTag s sp sp pa a t⟩

end Sys2Proof
end

section
/-!
PROOFS. Register syllables issued alone, and the inspection of capabilities (O10).
-/
namespace Sys2Proof.Laws
open Sys2Proof.Machine
open Sys2Proof (Instr Imm)

/-! ## Syllables with a register result -/

section
variable {i : Instr} {p b : Nat} {cd cs1 cs2 : RegIx} {s : State} {n : SylInfo}

/-- A register syllable that is no load and whose body completes leaves its body's state, the load delay over (R133). -/
theorem runReg_retires {body : Body} {l : Bool} {u : State} (hi : Issues i p b s) (hn : infoOf i = some n) (hload : n.load = false)
    (hx : exec i s = runReg i p body s) (hb : body ((issued s p b).ctxFor p b n) (issued s p b) = .ok l u) :
    exec i s = .next (retired p u) := by
  rw [hx, runReg_ok hi hn hb, hload, if_neg (by decide)]

/-- A capability syllable of one source writes its value (R144). -/
theorem capR_completes {f : Cap → CapOut} {v : Cap} (hi : Issues i p b s) (hn : infoOf i = some n) (hload : n.load = false)
    (hx : exec i s = runReg i p (capR f cd cs1) s) (hf : f (s.src p b cs1.toNat) = .val v) :
    exec i s = .next (capDone s p b cd v) := by
  refine runReg_retires hi hn hload hx (l := false) ?_
  show (f ((issued s p b).src p b cs1.toNat)).finish cd _ _ = _
  rw [src_issued, hf]
  rfl

/-- A capability syllable of two sources writes its value (R144). -/
theorem capRR_completes {f : Cap → Cap → CapOut} {v : Cap} (hi : Issues i p b s) (hn : infoOf i = some n) (hload : n.load = false)
    (hx : exec i s = runReg i p (capRR f cd cs1 cs2) s) (hf : f (s.src p b cs1.toNat) (s.src p b cs2.toNat) = .val v) :
    exec i s = .next (capDone s p b cd v) := by
  refine runReg_retires hi hn hload hx (l := false) ?_
  show (f ((issued s p b).src p b cs1.toNat) ((issued s p b).src p b cs2.toNat)).finish cd _ _ = _
  rw [src_issued, src_issued, hf]
  rfl

/-- An integer syllable of one source writes its value and flags (R119, R139). -/
theorem intR_completes {f : Word → Word × Flags} (hi : Issues i p b s) (hn : infoOf i = some n) (hload : n.load = false)
    (hx : exec i s = runReg i p (intR f cd cs1) s) :
    exec i s = .next (intDone s p b cd (f (s.srcX p b cs1.toNat)).1 (f (s.srcX p b cs1.toNat)).2) := by
  refine runReg_retires hi hn hload hx (l := false) ?_
  rw [← srcX_issued]
  rfl

/-- An integer result without flags is an untagged value in its register (R119). -/
theorem intDone_noFlags (s : State) (p b : Nat) (cd : RegIx) (x : Word) : intDone s p b cd x noFlags = capDone s p b cd (intCap x) := by
  unfold intDone State.addFlags
  rw [if_pos rfl]
  rfl

/-- An inspection writes the number that it reads (R61). -/
theorem inspect_completes {f : Cap → CapOut} {m : Nat} {x : Word} (hi : Issues i p b s) (hn : infoOf i = some n)
    (hload : n.load = false) (hx : exec i s = runReg i p (capR f cd cs1) s) (hf : f (s.src p b cs1.toNat) = inspect m)
    (hm : BitVec.ofNat 64 m = x) : exec i s = .next (intDone s p b cd x noFlags) := by
  subst hm
  rw [intDone_noFlags]
  exact capR_completes hi hn hload hx hf

end

/-! ## What the inspections read (R61) -/

section
variable (c : Cap)

theorem ofNat_tag : BitVec.ofNat 64 (b2n c.tag) = if c.tag then 1 else 0 := by cases c.tag <;> rfl

theorem ofNat_perms : BitVec.ofNat 64 c.perms = (c.bits >>> 112).setWidth 64 := by
  have hlt := c.bits.isLt
  refine BitVec.eq_of_toNat_eq ?_
  rw [BitVec.toNat_ofNat, BitVec.toNat_setWidth, BitVec.toNat_ushiftRight, Nat.shiftRight_eq_div_pow]
  unfold Cap.perms bitsAt
  omega

theorem ofNat_otype : BitVec.ofNat 64 c.otype = ((c.bits >>> 96).setWidth 16).setWidth 64 := by
  refine BitVec.eq_of_toNat_eq ?_
  rw [BitVec.toNat_ofNat, BitVec.toNat_setWidth, BitVec.toNat_setWidth, BitVec.toNat_ushiftRight, Nat.shiftRight_eq_div_pow]
  rfl

theorem ofNat_addr : BitVec.ofNat 64 c.addr = c.bits.setWidth 64 := by
  refine BitVec.eq_of_toNat_eq ?_
  rw [BitVec.toNat_ofNat, BitVec.toNat_setWidth]
  unfold Cap.addr bitsAt
  omega

/-- A top of 2^64 reads as all ones (R61). -/
theorem ofNat_top (h : c.top ≤ 2 ^ 64) :
    BitVec.ofNat 64 (min c.top (2 ^ 64 - 1)) = if c.top = 2 ^ 64 then BitVec.allOnes 64 else BitVec.ofNat 64 c.top := by
  split
  · next htop => rw [htop]; rfl
  · rw [Nat.min_eq_left (by omega)]

variable {c} (h : c.malformed = false)
include h

theorem opCgetbase_eq : opCgetbase c = inspect c.base := by unfold opCgetbase; rw [h, if_neg (by decide)]
theorem opCgetlen_eq : opCgetlen c = inspect (min (c.top - c.base) (2 ^ 64 - 1)) := by
  unfold opCgetlen; rw [h, if_neg (by decide)]
theorem opCgettop_eq (ht : c.top ≤ 2 ^ 64) : opCgettop c = inspect (min c.top (2 ^ 64 - 1)) := by
  unfold opCgettop; rw [h, if_neg (by decide), if_neg (by omega)]
theorem opCgettop_over (ht : 2 ^ 64 < c.top) : opCgettop c = .val (intCap (Config.topOver c.bits)) := by
  unfold opCgettop; rw [h, if_neg (by decide), if_pos ht]

end

/-! ## Representable lengths (R45) -/

/-- Does a length round to at most 8191 blocks of 2^e? -/
def lengthFits (len e : Nat) : Bool := decide ((len + 2 ^ e - 1) / 2 ^ e ≤ 8191)

theorem repExp_eq_find (len : Nat) (l : List Nat) : repExp len l = (l.find? (lengthFits len)).getD 51 := by
  induction l with
  | nil => rfl
  | cons e es ih =>
    unfold repExp
    rw [List.find?_cons, ih]
    unfold lengthFits
    split
    · next h => rw [decide_eq_true h]; rfl
    · next h => rw [decide_eq_false h]

theorem repExp_of_least {len e : Nat} (he : e ≤ 50) (hfit : (len + 2 ^ e - 1) / 2 ^ e ≤ 8191)
    (hleast : ∀ d, d < e → 8191 < (len + 2 ^ d - 1) / 2 ^ d) : repExp len (List.range 51) = e := by
  have hfind : (List.range 51).find? (lengthFits len) = some e := by
    rw [List.find?_range_eq_some]
    refine ⟨decide_eq_true hfit, List.mem_range.2 (by omega), fun d hd => ?_⟩
    rw [Bool.not_eq_true', lengthFits]
    exact decide_eq_false (Nat.not_le.2 (hleast d hd))
  rw [repExp_eq_find, hfind]
  rfl

theorem repExp_of_none {len : Nat} (h : ∀ e, e ≤ 50 → 8191 < (len + 2 ^ e - 1) / 2 ^ e) : repExp len (List.range 51) = 51 := by
  have hfind : (List.range 51).find? (lengthFits len) = none := by
    rw [List.find?_eq_none]
    intro e he
    have hlt := List.mem_range.1 he
    simpa [lengthFits] using h e (by omega)
  rw [repExp_eq_find, hfind]
  rfl

/-- A number read off the least exponent that holds a length, and 0 where none does (R45). -/
theorem atRepExp_spec (len : Nat) (f : Nat → Nat) : ∃ y : Nat,
    (if repExp len (List.range 51) = 51 then 0 else BitVec.ofNat 64 (f (repExp len (List.range 51)))) = BitVec.ofNat 64 y ∧
    (∀ e, e ≤ 50 → (len + 2 ^ e - 1) / 2 ^ e ≤ 8191 → (∀ d, d < e → 8191 < (len + 2 ^ d - 1) / 2 ^ d) → y = f e) ∧
    ((∀ e, e ≤ 50 → 8191 < (len + 2 ^ e - 1) / 2 ^ e) → y = 0) := by
  refine ⟨if repExp len (List.range 51) = 51 then 0 else f (repExp len (List.range 51)), ?_, fun e he hfit hleast => ?_, fun h => ?_⟩
  · split <;> rfl
  · rw [repExp_of_least he hfit hleast, if_neg (by omega)]
  · rw [repExp_of_none h, if_pos rfl]

end Sys2Proof.Laws

namespace Sys2Proof
open Sys2Proof.Machine Sys2Proof.Laws

/-- Settles O10: each inspection writes the number that it reads, and CRRL and CRAM read theirs off the least exponent. -/
theorem capabilityInspectionAndLengths : Obligations.CapabilityInspectionAndLengths := by
  refine ⟨?_, ?_⟩
  · rintro p b cd cs1 s c rfl
    refine ⟨fun hi => ?_, fun hi => ?_, fun hi => ?_, fun hi => ?_, fun hm hi => ?_,
      fun hm ht hi => ?_, fun hm hi => ?_, fun hm ht hi => ?_⟩
    · exact inspect_completes hi rfl rfl rfl rfl (ofNat_tag _)
    · exact inspect_completes hi rfl rfl rfl rfl (ofNat_perms _)
    · exact inspect_completes hi rfl rfl rfl rfl (ofNat_otype _)
    · exact inspect_completes hi rfl rfl rfl rfl (ofNat_addr _)
    · exact inspect_completes hi rfl rfl rfl (opCgetbase_eq hm) rfl
    · exact inspect_completes hi rfl rfl rfl (opCgettop_eq hm ht) (ofNat_top _ ht)
    · exact inspect_completes hi rfl rfl rfl (opCgetlen_eq hm) rfl
    · exact ⟨_, (capR_completes hi rfl rfl rfl (opCgettop_over hm ht)).trans (by rw [intDone_noFlags])⟩
  · rintro p b cd cs1 s x rfl
    refine ⟨fun hi => ?_, fun hi => ?_⟩
    · obtain ⟨y, hy, hspec⟩ := atRepExp_spec (s.srcX p b cs1.toNat).toNat (roundUp (s.srcX p b cs1.toNat).toNat)
      exact ⟨y, (intR_completes hi rfl rfl rfl).trans (by rw [← hy]; rfl), hspec⟩
    · obtain ⟨y, hy, hspec⟩ := atRepExp_spec (s.srcX p b cs1.toNat).toNat (fun e => 2 ^ 64 - 2 ^ e)
      exact ⟨y, (intR_completes hi rfl rfl rfl).trans (by rw [← hy]; rfl), hspec⟩

end Sys2Proof
end

section
/-!
PROOFS. Derived, sealed and narrowed capabilities (O11).
-/
namespace Sys2Proof.Laws
open Sys2Proof.Machine
open Sys2Proof (Instr Imm)

/-! ## The search for an exponent (R42) -/

/-- What `encode` answers for bounds at an exponent: the mantissas and the rounded bounds (R42). -/
def encodedAt (b t e : Nat) : Nat × Nat × Nat × Nat × Nat :=
  (e, roundDown b e / 2 ^ e % 2 ^ 13, roundUp t e / 2 ^ e % 2 ^ 13, roundDown b e, roundUp t e)

theorem encodeIn_cases (b t : Nat) (l : List Nat) :
    (∃ e ∈ l, (roundUp t e - roundDown b e) / 2 ^ e ≤ 8191 ∧ encodeIn b t l = encodedAt b t e) ∨
      encodeIn b t l = (51, 0, 0, 0, 2 ^ 64) := by
  induction l with
  | nil => exact .inr rfl
  | cons e es ih =>
    unfold encodeIn
    dsimp only
    split
    · next hfit => exact .inl ⟨e, List.mem_cons_self, hfit, rfl⟩
    · obtain ⟨d, hd, hfit, heq⟩ | hmax := ih
      · exact .inl ⟨d, List.mem_cons_of_mem e hd, hfit, heq⟩
      · exact .inr hmax

/-- `encode` finds an exponent of 0 to 50, or gives the whole space (R42). -/
theorem encodeBounds_cases (b t : Nat) :
    (∃ e, e ≤ 50 ∧ (roundUp t e - roundDown b e) / 2 ^ e ≤ 8191 ∧ encodeBounds b t = encodedAt b t e) ∨
      encodeBounds b t = (51, 0, 0, 0, 2 ^ 64) := by
  obtain ⟨e, he, hfit, heq⟩ | hmax := encodeIn_cases b t (List.range 51)
  · have hlt := List.mem_range.1 he
    exact .inl ⟨e, by omega, hfit, heq⟩
  · exact .inr hmax

/-! ## Rounded bounds -/

theorem roundDown_le (x e : Nat) : roundDown x e ≤ x := Nat.div_mul_le_self x _

theorem le_roundUp (x e : Nat) : x ≤ roundUp x e := by
  have hpos := Nat.two_pow_pos e
  have hdiv := Nat.div_add_mod' (x + 2 ^ e - 1) (2 ^ e)
  have hlt := Nat.mod_lt (x + 2 ^ e - 1) hpos
  unfold roundUp
  omega

/-- Rounding up does not pass a multiple of the block (R42). -/
theorem roundUp_le {x e : Nat} (he : e ≤ 64) (h : x ≤ 2 ^ 64) : roundUp x e ≤ 2 ^ 64 := by
  have hpos := Nat.two_pow_pos e
  have hspace : 2 ^ 64 = 2 ^ (64 - e) * 2 ^ e := by rw [← pow_add, Nat.sub_add_cancel he]
  have hblocks : (x + 2 ^ e - 1) / 2 ^ e < 2 ^ (64 - e) + 1 := by
    rw [Nat.div_lt_iff_lt_mul hpos, Nat.add_mul, ← hspace]
    omega
  unfold roundUp
  rw [hspace]
  exact Nat.mul_le_mul_right _ (Nat.lt_succ_iff.1 hblocks)

theorem roundDown_div (x e : Nat) : roundDown x e / 2 ^ e = x / 2 ^ e := Nat.mul_div_cancel _ (Nat.two_pow_pos e)
theorem roundUp_div (x e : Nat) : roundUp x e / 2 ^ e = (x + 2 ^ e - 1) / 2 ^ e := Nat.mul_div_cancel _ (Nat.two_pow_pos e)

/-! ## The decoder on encoded bounds (R37, R42) -/

/-- A capability whose `BASEM` is the block of its cursor and whose `TOPM` is n blocks on decodes to those bounds (R37). -/
theorem bounds_of_mantissas {c : Cap} {n : Nat} (he : c.exp ≤ 50) (hn : n ≤ 8191) (hb : c.basem = c.addr / 2 ^ c.exp % 2 ^ 13)
    (ht : c.topm = (c.addr / 2 ^ c.exp + n) % 2 ^ 13) :
    c.base = roundDown c.addr c.exp ∧ c.top = roundDown c.addr c.exp + n * 2 ^ c.exp := by
  have hround : roundDown c.addr c.exp < 2 ^ 64 := lt_of_le_of_lt (roundDown_le _ _) (addr_lt c)
  have hunwrapped : unwrappedBase c = roundDown c.addr c.exp + 2 ^ (c.exp + 13) * 2 ^ 64 := by
    have hbit : b2n (decide (c.addr / 2 ^ c.exp % 2 ^ 13 < windowMant c)) ≤ 1 := by unfold b2n; split <;> decide
    have hblock : c.addr / 2 ^ (c.exp + 13) * 2 ^ 13 + c.addr / 2 ^ c.exp % 2 ^ 13 = c.addr / 2 ^ c.exp := by
      rw [pow_add, ← Nat.div_div_eq_div_mul]
      exact Nat.div_add_mod' _ _
    have hsum : c.addr / 2 ^ (c.exp + 13) + b2n (decide (c.addr / 2 ^ c.exp % 2 ^ 13 < windowMant c)) +
        (2 ^ 64 - b2n (decide (c.addr / 2 ^ c.exp % 2 ^ 13 < windowMant c))) = c.addr / 2 ^ (c.exp + 13) + 2 ^ 64 := by omega
    unfold unwrappedBase roundDown
    rw [hb, hsum]
    calc (c.addr / 2 ^ (c.exp + 13) + 2 ^ 64) * 2 ^ (c.exp + 13) + c.addr / 2 ^ c.exp % 2 ^ 13 * 2 ^ c.exp
        = (c.addr / 2 ^ (c.exp + 13) * 2 ^ 13 + c.addr / 2 ^ c.exp % 2 ^ 13) * 2 ^ c.exp + 2 ^ (c.exp + 13) * 2 ^ 64 := by
          rw [pow_add]; ring
      _ = c.addr / 2 ^ c.exp * 2 ^ c.exp + 2 ^ (c.exp + 13) * 2 ^ 64 := by rw [hblock]
  have hbase : c.base = roundDown c.addr c.exp := by
    rw [base_eq (by omega), hunwrapped, Nat.add_mul_mod_self_right, Nat.mod_eq_of_lt hround]
  refine ⟨hbase, ?_⟩
  have hlen : (c.topm + 2 ^ 13 - c.basem) % 2 ^ 13 = n := by rw [hb, ht]; omega
  rw [top_eq (by omega), hbase, hlen]

/-- The bounds that a capability is given by `encode` of its cursor and a top: they decode to the rounded ones, which hold the
request and stay in the space (R42). -/
theorem withBounds_encoded {c : Cap} {t : Nat} (hct : c.addr ≤ t) (ht : t ≤ 2 ^ 64) {r : Nat × Nat × Nat × Nat × Nat}
    (hr : r = encodeBounds c.addr t) (tag : Bool) :
    (c.withBounds r.1 r.2.1 r.2.2.1 tag).base = r.2.2.2.1 ∧ (c.withBounds r.1 r.2.1 r.2.2.1 tag).top = r.2.2.2.2 ∧
      r.2.2.2.1 ≤ c.addr ∧ t ≤ r.2.2.2.2 ∧ r.2.2.2.2 ≤ 2 ^ 64 := by
  subst hr
  obtain ⟨e, he, hfit, heq⟩ | hmax := encodeBounds_cases c.addr t
  · rw [heq]
    unfold encodedAt
    dsimp only
    obtain ⟨n, hn⟩ : ∃ n, (t + 2 ^ e - 1) / 2 ^ e = c.addr / 2 ^ e + n :=
      Nat.exists_eq_add_of_le (Nat.div_le_div_right (by have := Nat.two_pow_pos e; omega))
    have hup : roundUp t e = roundDown c.addr e + n * 2 ^ e := by unfold roundUp roundDown; rw [hn, Nat.add_mul]
    have hblocks : n ≤ 8191 := by
      rwa [hup, Nat.add_sub_cancel_left, Nat.mul_div_cancel _ (Nat.two_pow_pos e)] at hfit
    have hexp : (c.withBounds e (roundDown c.addr e / 2 ^ e % 2 ^ 13) (roundUp t e / 2 ^ e % 2 ^ 13) tag).exp = e := by
      rw [exp_withBounds, Nat.mod_eq_of_lt (by omega)]
    obtain ⟨hbase, htop⟩ := bounds_of_mantissas (n := n)
      (c := c.withBounds e (roundDown c.addr e / 2 ^ e % 2 ^ 13) (roundUp t e / 2 ^ e % 2 ^ 13) tag) (by rw [hexp]; exact he) hblocks
      (by rw [hexp, basem_withBounds, addr_withBounds, Nat.mod_mod, roundDown_div])
      (by rw [hexp, topm_withBounds, addr_withBounds, Nat.mod_mod, roundUp_div, hn])
    rw [hexp, addr_withBounds] at hbase htop
    exact ⟨hbase, htop.trans hup.symm, roundDown_le _ _, le_roundUp _ _, roundUp_le (by omega) ht⟩
  · rw [hmax]
    exact ⟨base_of_max (exp_withBounds _ _ _ _ _), top_of_max (exp_withBounds _ _ _ _ _), Nat.zero_le _, ht, le_refl _⟩

/-! ## Narrowing (R43, R44) -/

theorem derive1_eq {c : Cap} (h : c.malformed = false) (f : Cap → Cap) : derive1 c f = .val (f c) := by
  unfold derive1; rw [h, if_neg (by decide)]

/-- Narrowing keeps permissions, type and cursor; the bounds hold a request within the space; the tag stays under the conditions
of R43 and, for an exact request, R44. -/
theorem narrow_spec (c : Cap) (len : Nat) (exact : Bool) :
    (narrow len exact c).perms = c.perms ∧ (narrow len exact c).otype = c.otype ∧ (narrow len exact c).addr = c.addr ∧
    (c.addr + len ≤ 2 ^ 64 → (narrow len exact c).base ≤ c.addr ∧ c.addr + len ≤ (narrow len exact c).top ∧
      (narrow len exact c).top ≤ 2 ^ 64) ∧
    ((narrow len exact c).tag = true ↔ c.tag = true ∧ c.otype = 0 ∧ c.addr + len ≤ 2 ^ 64 ∧
      c.base ≤ (narrow len exact c).base ∧ (narrow len exact c).top ≤ c.top ∧
      (exact = true → (narrow len exact c).base = c.addr ∧ (narrow len exact c).top = c.addr + len)) := by
  have haddr := addr_lt c
  obtain ⟨hbase, htop, hlo, hhi, hspace⟩ := withBounds_encoded (c := c) (t := min (c.addr + len) (2 ^ 64))
    (by omega) (Nat.min_le_right _ _) rfl (narrow len exact c).tag
  have hself : c.withBounds (encodeBounds c.addr (min (c.addr + len) (2 ^ 64))).1
    (encodeBounds c.addr (min (c.addr + len) (2 ^ 64))).2.1 (encodeBounds c.addr (min (c.addr + len) (2 ^ 64))).2.2.1
      (narrow len exact c).tag = narrow len exact c := rfl
  rw [hself] at hbase htop
  refine ⟨perms_withBounds _ _ _ _ _, otype_withBounds _ _ _ _ _, addr_withBounds _ _ _ _ _, fun hreq => ?_, ?_⟩
  · rw [hbase, htop]
    exact ⟨hlo, by omega, hspace⟩
  · rw [hbase, htop]
    show (_ && _ && decide _ && decide _ && decide _ && (!exact || (_ && _))) = true ↔ _
    simp only [Bool.and_eq_true, Bool.or_eq_true, Bool.not_eq_true', beq_iff_eq, decide_eq_true_eq]
    cases exact <;> tauto

/-! ## Cursors, permissions and types (R40, R57-R59, R62) -/

theorem toNat_low64 (c : Cap) : (low64 c.bits).toNat = c.addr := by
  unfold low64 Cap.addr bitsAt
  rw [BitVec.toNat_setWidth]
  omega

theorem addrOf_lt (x : Int) : addrOf x < 2 ^ 64 := by unfold addrOf; omega

theorem addrOf_add_natCast (a b : Nat) : addrOf ((a : Int) + b) = (a + b) % 2 ^ 64 := by unfold addrOf; omega

theorem addrOf_add_ofInt (a : Nat) (i : Int) :
    addrOf ((a : Int) + (BitVec.ofInt 64 i).toNat) = (((a : Int) + i) % 2 ^ 64).toNat := by
  unfold addrOf
  rw [BitVec.toNat_ofInt]
  omega

/-- A cursor set (R40, R62). -/
theorem setCursor_spec (c : Cap) {x : Nat} (hx : x < 2 ^ 64) :
    (setCursor x c).addr = x ∧ (setCursor x c).perms = c.perms ∧ (setCursor x c).otype = c.otype ∧ (setCursor x c).exp = c.exp ∧
      (setCursor x c).basem = c.basem ∧ (setCursor x c).topm = c.topm ∧
      (setCursor x c).tag = (c.tag && c.otype == 0 && c.representable x) :=
  ⟨(addr_withAddr _ _ _).trans (Nat.mod_eq_of_lt hx), perms_withAddr _ _ _, otype_withAddr _ _ _, exp_withAddr _ _ _,
    basem_withAddr _ _ _, topm_withAddr _ _ _, rfl⟩

theorem opCsetaddr_eq {c : Cap} (h : c.malformed = false) (a : Cap) :
    opCsetaddr c (low64 a.bits) = .val (setCursor a.addr c) := by
  unfold opCsetaddr; rw [derive1_eq h, toNat_low64]

theorem opCincaddr_eq {c : Cap} (h : c.malformed = false) (a : Cap) :
    opCincaddr c (low64 a.bits) = .val (setCursor ((c.addr + a.addr) % 2 ^ 64) c) := by
  unfold opCincaddr; rw [derive1_eq h, toNat_low64, addrOf_add_natCast]

theorem opCincaddr_imm {c : Cap} (h : c.malformed = false) (i : Int) :
    opCincaddr c (BitVec.ofInt 64 i) = .val (setCursor (((c.addr : Int) + i) % 2 ^ 64).toNat c) := by
  unfold opCincaddr; rw [derive1_eq h, addrOf_add_ofInt]

theorem opCandperm_eq {c : Cap} (h : c.malformed = false) (a : Cap) :
    opCandperm c (low64 a.bits) = .val (c.withPerms (c.perms &&& (a.addr % 65536)) (c.tag && c.otype == 0)) := by
  unfold opCandperm; rw [derive1_eq h, toNat_low64]

theorem opCsealentry_eq {c : Cap} (h : c.malformed = false) :
    opCsealentry c = .val (c.withOtype 0xFF01 (c.tag && c.otype == 0 && c.has permEX)) := derive1_eq h _

theorem softType_iff (t : Nat) : softType t = true ↔ (1 ≤ t ∧ t ≤ 0xFEFF) ∨ t = 0xFF02 ∨ t = 0xFF04 := by
  simp [softType, or_assoc]

theorem sealAuth_iff (a : Cap) (j : Nat) :
    sealAuth a j = true ↔ a.tag = true ∧ a.otype = 0 ∧ a.has j = true ∧ a.base ≤ a.addr ∧ a.addr < a.top := by
  simp [sealAuth, and_assoc]

theorem opCseal_eq {c a : Cap} (hc : c.malformed = false) (ha : a.malformed = false) : opCseal c a =
    .val (c.withOtype (a.addr % 65536) (c.tag && c.otype == 0 && sealAuth a permSE && softType a.addr)) := by
  unfold opCseal
  rw [hc, ha, if_neg (by decide), if_neg (by decide)]

/-- May the authority a unseal c (R58)? -/
def unsealOk (c a : Cap) : Bool := c.tag && softType c.otype && sealAuth a permUS && a.addr == c.otype

/-- The value that `CUNSEAL` gives (R58). -/
def unsealed (c a : Cap) : Cap :=
  if c.has permGL && a.has permGL then c.withOtype 0 (unsealOk c a)
  else (c.withOtype 0 (unsealOk c a)).withPerms (setBitsAt c.perms permGL 1 0) (unsealOk c a)

theorem opCunseal_eq {c a : Cap} (hc : c.malformed = false) (ha : a.malformed = false) : opCunseal c a = .val (unsealed c a) := by
  unfold opCunseal
  rw [hc, ha, if_neg (by decide), if_neg (by decide)]
  dsimp only
  rw [perms_withOtype]
  rfl

theorem has_of_perms {c d : Cap} (h : d.perms = c.perms) (j : Nat) : d.has j = c.has j := by unfold Cap.has; rw [h]

theorem perms_setPerm_lt (c : Cap) : setBitsAt c.perms permGL 1 0 < 2 ^ 16 := setBitsAt_lt (perms_lt c) (by decide)

/-- The fields of the unsealed value: its type 0, and GL alone of its permissions may go (R58). -/
theorem unsealed_spec (c a : Cap) : (unsealed c a).otype = 0 ∧ (unsealed c a).addr = c.addr ∧ (unsealed c a).exp = c.exp ∧
    (unsealed c a).basem = c.basem ∧ (unsealed c a).topm = c.topm ∧ (∀ j, 0 < j → (unsealed c a).has j = c.has j) ∧
    (unsealed c a).has permGL = (c.has permGL && a.has permGL) ∧ (unsealed c a).tag = unsealOk c a := by
  unfold unsealed
  split
  · next hgl =>
    refine ⟨by simp, by simp, by simp, by simp, by simp, fun j _ => has_of_perms (perms_withOtype _ _ _) j, ?_, rfl⟩
    rw [has_of_perms (perms_withOtype _ _ _), hgl]
    exact ((Bool.and_eq_true _ _).mp hgl).1
  · next hgl =>
    have hperms : ((c.withOtype 0 (unsealOk c a)).withPerms (setBitsAt c.perms permGL 1 0) (unsealOk c a)).perms =
        setBitsAt c.perms permGL 1 0 := by rw [perms_withPerms, Nat.mod_eq_of_lt (perms_setPerm_lt c)]
    refine ⟨by simp, by simp, by simp, by simp, by simp, fun j hj => ?_, ?_, rfl⟩
    · unfold Cap.has
      rw [hperms, bitsAt_setBitsAt_apart _ _ _ _ _ _ (.inr (show permGL + 1 ≤ j from hj))]
    · unfold Cap.has at hgl ⊢
      rw [hperms, bitsAt_setBitsAt_same, Bool.eq_false_iff.mpr hgl]
      rfl

end Sys2Proof.Laws

namespace Sys2Proof
open Sys2Proof.Machine Sys2Proof.Laws

/-- Settles O11: each syllable writes the value that its operation computes, whose fields and bounds are those lemmas. -/
theorem capabilityChanges : Obligations.CapabilityChanges := by
  refine ⟨?_, ?_, ?_⟩
  · rintro p b cd cs1 cs2 imm s c a rfl rfl
    refine ⟨fun hi => ?_, fun hi => ?_, fun hm hi => ?_, fun hm hi => ?_, fun hm hi => ?_, fun hm hi => ?_, fun hm hi => ?_⟩
    · exact capR_completes hi rfl rfl rfl rfl
    · exact capR_completes hi rfl rfl rfl rfl
    · exact ⟨_, capRR_completes hi rfl rfl rfl (opCsetaddr_eq hm _), setCursor_spec _ (addr_lt _)⟩
    · exact ⟨_, capRR_completes hi rfl rfl rfl (opCincaddr_eq hm _), setCursor_spec _ (Nat.mod_lt _ (Nat.two_pow_pos 64))⟩
    · exact ⟨_, capR_completes hi rfl rfl rfl (opCincaddr_imm hm _), setCursor_spec _ (by omega)⟩
    · have hperms : (s.src p b cs1.toNat).perms &&& ((s.src p b cs2.toNat).addr % 2 ^ 16) < 2 ^ 16 :=
        lt_of_le_of_lt Nat.and_le_left (perms_lt _)
      exact ⟨_, capRR_completes hi rfl rfl rfl (opCandperm_eq hm _), (perms_withPerms _ _ _).trans (Nat.mod_eq_of_lt hperms),
        by simp, by simp, by simp, by simp, by simp, rfl⟩
    · exact ⟨_, capR_completes hi rfl rfl rfl (opCsealentry_eq hm), by simp, by simp, by simp, by simp, by simp, by simp, rfl⟩
  · rintro p b cd cs1 cs2 s c a rfl rfl hc ha
    refine ⟨fun hi => ?_, fun hi => ?_⟩
    · refine ⟨_, capRR_completes hi rfl rfl rfl (opCseal_eq hc ha), by simp, by simp, by simp, by simp, by simp, by simp, ?_⟩
      show (_ && _ && _ && _) = true ↔ _
      simp only [Bool.and_eq_true, sealAuth_iff, softType_iff, beq_iff_eq, and_assoc]
    · obtain ⟨hotype, haddr, hexp, hbasem, htopm, hhas, hgl, htag⟩ := unsealed_spec (s.src p b cs1.toNat) (s.src p b cs2.toNat)
      refine ⟨_, capRR_completes hi rfl rfl rfl (opCunseal_eq hc ha), hotype, haddr, hexp, hbasem, htopm, hhas, hgl, ?_⟩
      rw [htag, unsealOk]
      simp only [Bool.and_eq_true, sealAuth_iff, softType_iff, beq_iff_eq, and_assoc]
  · rintro p b cd cs1 cs2 s c x rfl rfl hm
    refine ⟨fun hi => ?_, fun hi => ?_⟩
    · have hspec := narrow_spec (s.src p b cs1.toNat) (s.srcX p b cs2.toNat).toNat false
      simp only [Bool.false_eq_true, false_imp_iff, and_true] at hspec
      exact ⟨_, capRR_completes hi rfl rfl rfl (derive1_eq hm _), hspec⟩
    · have hspec := narrow_spec (s.src p b cs1.toNat) (s.srcX p b cs2.toNat).toNat true
      simp only [true_imp_iff] at hspec
      exact ⟨_, capRR_completes hi rfl rfl rfl (derive1_eq hm _), hspec⟩

end Sys2Proof
end

section
/-!
PROOFS. Capability loads with their barrier, and capability stores, of plain memory (O15).
-/
namespace Sys2Proof.Laws
open Sys2Proof.Machine
open Sys2Proof (Instr Imm)

/-! ## The load barrier in bare mode (R81, R87) -/

theorem bitmapRead_noLatent {s : State} (h : s.latent = []) (pa : Nat) : s.bitmapRead pa = (s.eclipsed pa, s) := by
  unfold State.bitmapRead; simp [h]

section
variable {s : State} {p ttbc : Nat} {x : Cap} (hbare : ttbc % 2 = 0) (hlat : s.latent = [])
include hbare hlat

/-- A capability is revoked where it is tagged, not malformed, of a type that may be revoked, and its base, a physical address in
bare mode, is in an eclipsed DRAM granule (R81, R309). -/
theorem revoked_bare : s.revoked p ttbc x =
    (x.tag && !x.malformed && !neverRevoked x && decide (x.base < 2 ^ 44) && decide (spaceOf p x.base = .dram) && s.eclipsed x.base,
      s) := by
  unfold State.revoked
  cases htag : x.tag <;> cases hmal : x.malformed <;> cases hnever : neverRevoked x
  case true.false.false =>
    unfold State.lookupPa
    rw [if_pos hbare]
    by_cases hphys : x.base < 2 ^ 44
    · rw [if_pos hphys, decide_eq_true hphys]
      by_cases hspace : spaceOf p x.base = .dram
      · simp [hspace, bitmapRead_noLatent hlat]
      · simp [hspace]
    · rw [if_neg hphys, decide_eq_false hphys]
      simp
  all_goals rfl

/-- A capability whose base is in no eclipsed DRAM granule passes the barrier (R87). -/
theorem barrier_passes
    (hx : ¬ (x.malformed = false ∧ neverRevoked x = false ∧ spaceOf p x.base = .dram ∧ s.eclipsed x.base = true)) :
    s.barrier p ttbc x = (x, s) := by
  have hrev : s.revoked p ttbc x = (false, s) := by
    rw [revoked_bare hbare hlat]
    congr 1
    rw [Bool.eq_false_iff]
    simp only [ne_eq, Bool.and_eq_true, Bool.not_eq_true', decide_eq_true_eq]
    rintro ⟨⟨⟨⟨⟨-, hmal⟩, hnever⟩, -⟩, hspace⟩, hecl⟩
    exact hx ⟨hmal, hnever, hspace, hecl⟩
  unfold State.barrier
  rw [hrev]

/-- A revoked capability loses its tag at the barrier, which counts it (R87, R100). -/
theorem barrier_clears (htag : x.tag = true) (hmal : x.malformed = false) (hnever : neverRevoked x = false) (hphys : x.base < 2 ^ 44)
    (hspace : spaceOf p x.base = .dram) (hecl : s.eclipsed x.base = true) :
    s.barrier p ttbc x = (x.untag, s.bump Addr.ECL_CNT_LBCLR) := by
  have hrev : s.revoked p ttbc x = (true, s) := by
    rw [revoked_bare hbare hlat, htag, hmal, hnever, hecl, decide_eq_true hphys, decide_eq_true hspace]
    rfl
  unfold State.barrier
  rw [hrev]

end

/-! ## Capability loads -/

/-- The piece of a plain access to a granule. -/
def plainPiece (ea : Nat) : Piece := ⟨ea, ea, 16, .dram, 0, true, none⟩

theorem planCap_plain {s : State} {p b ea : Nat} {a : Cap} {need : List Nat} (h : PlainAccess s p b a ea 16 need) (k : AKind) :
    planCap s (s.via p b) k ea = .ok (plainPiece ea) s := by
  unfold planCap
  rw [planAccess_plain h k true]
  rfl

/-- A capability load of plain memory, up to the barrier (R48, R73). -/
theorem capLoad_plain {s : State} (ht : s.tally.chans = []) (hl : s.latent = []) (v : Via) (lc : Bool) (ea : Nat) :
    s.capLoad v lc (plainPiece ea) = if (s.capAt .dram ea).tag && lc then s.barrier v.pair v.ttbc (s.capAt .dram ea)
      else ((s.capAt .dram ea).untag, s) := by
  simp only [State.capLoad, plainPiece, if_true, dramEnter_plain ht hl, Space.tagged, Bool.and_true]

/-- A capability load of plain memory: what the barrier gives, or the bits without the tag where there is none or no LC (R48, R73). -/
theorem memLoadCap_plain {s : State} {p b ea : Nat} {a : Cap} {c : SCtx} (h : PlainAccess s p b a ea 16 [permLD])
    (halign : ea % 16 = 0) (hp : c.pair = p) (hb : c.bank = b) (operand : Nat) {x : Cap} {w : State}
    (hload : s.capLoad (s.via p b) (a.has permLC) (plainPiece ea) = (x, w)) : memLoadCap c a operand ea s = .ok x w := by
  have hplan := planCap_plain h .load
  obtain ⟨hcheck, -⟩ := h
  subst hp hb
  unfold memLoadCap
  rw [hcheck, hplan, halign]
  simp only [Res.bind, hload]
  rfl

/-- The body of a capability load of plain memory writes what the load gives (R145). -/
theorem loadCap_plain {s : State} {c : SCtx} (cd : RegIx) {cs1 : RegIx} {d : SCtx → State → Int} {ea : Nat} {x : Cap} {w : State}
    (hea : effAddr (s.src c.pair c.bank cs1.toNat) (d c s) = ea) (halign : ea % 16 = 0)
    (hm : PlainAccess s c.pair c.bank (s.src c.pair c.bank cs1.toNat) ea 16 [permLD])
    (hload : s.capLoad (s.via c.pair c.bank) ((s.src c.pair c.bank cs1.toNat).has permLC) (plainPiece ea) = (x, w)) :
    loadCap cd cs1 d c s =
      .ok false ((w.setReg c.pair c.bank cd.toNat x).loaded c [(cd.toNat, (s.bank c.pair c.bank).reg cd.toNat)]) := by
  unfold loadCap
  dsimp only
  rw [hea, memLoadCap_plain hm halign rfl rfl 1 hload]
  rfl

theorem capAt_of_maps {s t : State} (h : SameMaps s t) (pa : Nat) : t.capAt .dram pa = s.capAt .dram pa := by
  obtain ⟨hmem, htags, -⟩ := h
  unfold State.capAt State.tagAt
  rw [numAt_of_mem hmem, htags]

theorem eclipsed_of_maps {s t : State} (h : SameMaps s t) (pa : Nat) : t.eclipsed pa = s.eclipsed pa := by
  obtain ⟨-, -, -, -, hbitmap, -⟩ := h
  unfold State.eclipsed
  rw [hbitmap]

/-- What is said of a pair's registers is said of the pairs alone. -/
theorem onlyRegister_of_pairs {s s' t : State} {p b : Nat} {cd : RegIx} {x : Cap} (h : s'.pairs = s.pairs)
    (k : OnlyRegister s' t p b cd x) : OnlyRegister s t p b cd x := by
  unfold OnlyRegister State.bank State.pair at k ⊢
  rwa [h] at k

/-- A capability load of plain memory completes: its register has what the load gives, and the rest is as the load leaves it. Here
s' is the state before the command with what the load itself changes of the units. -/
theorem capLoad_completes {i : Instr} {p b : Nat} {cd cs1 : RegIx} {d : SCtx → State → Int} {s s' w : State} {n : SylInfo} {ea : Nat}
    {x : Cap} (hi : Issues i p b s) (hp : pairOf i = some p) (hn : infoOf i = some n) (hf : bodyOf i = some (loadCap cd cs1 d))
    (hm : PlainAccess s p b (s.src p b cs1.toNat) ea 16 [permLD]) (halign : ea % 16 = 0)
    (hea : ea = effAddr (s.src p b cs1.toNat) (d ((issued s p b).ctxFor p b n) (issued s p b)))
    (hload : (issued s p b).capLoad ((issued s p b).via p b) ((s.src p b cs1.toNat).has permLC) (plainPiece ea) = (x, w))
    (hpairs : s'.pairs = s.pairs) (hw : SameButSequencing p s' w) (hrest : AtRest s w) :
    ∃ t, exec i s = .next t ∧ OnlyRegister s t p b cd x ∧ SameMemory s' t ∧ SameUnits s' t := by
  have hv := sameButSequencing_issued s p b
  have hsrc := src_issued s p b cs1.toNat
  have hbody := loadCap_plain (c := (issued s p b).ctxFor p b n) cd ((congrArg (effAddr · _) hsrc).trans hea.symm) halign
    (hv.plainAccess (hsrc ▸ hm)) (hsrc ▸ hload)
  have hreg : AtRest s (w.setReg p b cd.toNat x) := hrest
  have hloaded := sameButSequencing_loaded hreg.1 ((issued s p b).ctxFor p b n) [(cd.toNat, ((issued s p b).bank p b).reg cd.toNat)]
  have hend := hloaded.trans (sameButSequencing_ended hloaded.out_eq n.load p)
  refine ⟨_, syllableCompletes i p b s _ n _ false hp hi hn hf hbody (atRest_of_sequencing hreg hloaded),
    onlyRegister_of_pairs hpairs (onlyRegister_setReg hw rfl hend), ?_, ?_⟩
  · exact SameMemory.trans hw.sameMemory hend.sameMemory
  · exact SameUnits.trans hw.sameUnits hend.sameUnits

section
variable {s : State} {p b ea : Nat} {a : Cap} (hm : PlainAccess s p b a ea 16 [permLD])
include hm

/-- Where the barrier has nothing to clear, the load gives the granule's capability, its tag under LC (R48, R70, R87). -/
theorem capLoad_issued_passes
    (hx : (s.capAt .dram ea).tag = true → a.has permLC = true → ¬ ((s.capAt .dram ea).malformed = false ∧
      neverRevoked (s.capAt .dram ea) = false ∧ spaceOf p (s.capAt .dram ea).base = .dram ∧
      s.eclipsed (s.capAt .dram ea).base = true)) :
    (issued s p b).capLoad ((issued s p b).via p b) (a.has permLC) (plainPiece ea) =
      (⟨(s.capAt .dram ea).bits, (s.capAt .dram ea).tag && a.has permLC⟩, issued s p b) := by
  have hv := sameButSequencing_issued s p b
  obtain ⟨-, -, -, -, -, hbare, -, htally, hlat⟩ := hv.plainAccess hm
  rw [capLoad_plain htally hlat, capAt_of_maps hv.sameMemory.1]
  split
  · next htag =>
    obtain ⟨htag, hlc⟩ := (Bool.and_eq_true _ _).mp htag
    have hpass : (issued s p b).barrier ((issued s p b).via p b).pair ((issued s p b).via p b).ttbc (s.capAt .dram ea) =
        (s.capAt .dram ea, issued s p b) :=
      barrier_passes hbare hlat (by rw [eclipsed_of_maps hv.sameMemory.1]; exact hx htag hlc)
    rw [hpass, hlc, Bool.and_true]
  · next htag => rw [Bool.eq_false_iff.mpr htag]; rfl

/-- Where the capability loaded is revoked, the load gives its bits without the tag, counted (R87). -/
theorem capLoad_issued_clears (hlc : a.has permLC = true) (htag : (s.capAt .dram ea).tag = true)
    (hmal : (s.capAt .dram ea).malformed = false) (hnever : neverRevoked (s.capAt .dram ea) = false)
    (hphys : (s.capAt .dram ea).base < 2 ^ 41) (hsen : isSentinel p = true → 0x80000 ≤ (s.capAt .dram ea).base)
    (hecl : s.eclipsed (s.capAt .dram ea).base = true) :
    (issued s p b).capLoad ((issued s p b).via p b) (a.has permLC) (plainPiece ea) =
      (⟨(s.capAt .dram ea).bits, false⟩, (issued s p b).bump Addr.ECL_CNT_LBCLR) := by
  have hv := sameButSequencing_issued s p b
  obtain ⟨-, -, -, -, -, hbare, -, htally, hlat⟩ := hv.plainAccess hm
  rw [capLoad_plain htally hlat, capAt_of_maps hv.sameMemory.1, htag, hlc, if_pos (show (true && true) = true from rfl)]
  exact barrier_clears hbare hlat htag hmal hnever (by omega) (spaceOf_dram hsen hphys)
    (by rw [eclipsed_of_maps hv.sameMemory.1]; exact hecl)

end

/-! ## The barrier's counter -/

theorem SameButSequencing.bump {p : Nat} {s t : State} (h : SameButSequencing p s t) (a : Nat) :
    SameButSequencing p (s.bump a) (t.bump a) := by
  obtain ⟨ps, e, d, rfl, hp, r, l, hself⟩ := h
  exact ⟨ps, e, d, rfl, hp, r, l, hself⟩

/-- Counting a cleared tag leaves nothing for the command's end to do. -/
theorem atRest_bump_lbclr {s u : State} (h : AtRest s u) : AtRest s (u.bump Addr.ECL_CNT_LBCLR) := by
  obtain ⟨hout, hq, hhb⟩ := h
  refine ⟨hout, (DeviceEffect.bump u (by decide)).quiet hq, ?_⟩
  rw [← hhb]
  unfold State.hbStatus State.pwrState
  rw [fld_of_rd (State.rd_bump_ne u (by decide)), fld_of_rd (State.rd_bump_ne u (by decide))]
  rfl

/-- A counter counts up to all ones (R100). -/
theorem rd_bump_saturates (s : State) (a : Nat) :
    (s.bump a).rd a = if s.rd a = BitVec.allOnes 64 then BitVec.allOnes 64 else s.rd a + 1 := by
  have hlt := (s.rd a).isLt
  have hall : (BitVec.allOnes 64).toNat = 2 ^ 64 - 1 := rfl
  rw [rd_bump_same]
  split
  · next hmax => rw [hmax, hall]; rfl
  · next hmax =>
    have hne : (s.rd a).toNat ≠ 2 ^ 64 - 1 := fun h => hmax (BitVec.eq_of_toNat_eq (h.trans hall.symm))
    rw [Nat.min_eq_left (by omega), BitVec.ofNat_add, BitVec.ofNat_toNat, BitVec.setWidth_eq]
    rfl

/-! ## Capability stores -/

/-- A capability store to a plain granule writes it; no leaf has a CD to set (R67, R77). -/
theorem capStore_plain {s : State} (ht : s.tally.chans = []) (hl : s.latent = []) (v : Via) (x : Cap) (ea : Nat) :
    s.capStore v x (plainPiece ea) = s.capWrite .dram ea x := by
  have hmark : s.markCd v.pair (plainPiece ea) = s := rfl
  unfold State.capStore
  rw [hmark, ite_self]
  simp only [plainPiece, if_true, dramEnter_plain ht hl]

/-- The body of a capability store of plain memory writes its register to the granule (R49, R145). -/
theorem storeCap_plain {s : State} {c : SCtx} {cd cs1 : RegIx} {d : SCtx → State → Int} {ea : Nat} {v : Cap}
    (hea : effAddr (s.src c.pair c.bank cs1.toNat) (d c s) = ea) (halign : ea % 16 = 0) (hv : s.src c.pair c.bank cd.toNat = v)
    (hm : PlainAccess s c.pair c.bank (s.src c.pair c.bank cs1.toNat) ea 16 (storeNeed v)) :
    storeCap cd cs1 d c s = .ok false (s.capWrite .dram ea v) := by
  have hplan := planCap_plain hm (storeKind v)
  obtain ⟨hcheck, -, -, -, -, -, -, htally, hlat⟩ := hm
  unfold storeCap planStoreCap
  dsimp only
  rw [hea, hv, hcheck, halign]
  dsimp only
  rw [if_neg (by decide), hplan]
  exact congrArg (Res.ok false) (capStore_plain htally hlat _ _ _)

/-- What a capability store at ea leaves: the granule holds v, all else is as before but for reservations and the like (R49, R67). -/
def CapStored (s t : State) (ea : Nat) (v : Cap) : Prop :=
  t.capAt .dram ea = v ∧ SameBytesOutside s t ea 16 ∧ SameTagsOutside s t ea 16 ∧ SameRegisters s t ∧ SameUnits s t ∧
    t.tcm = s.tcm ∧ t.jarr = s.jarr ∧ t.boot = s.boot ∧ t.bitmap = s.bitmap

theorem capStored_capWrite (s : State) {ea : Nat} (halign : ea % 16 = 0) (v : Cap) : CapStored s (s.capWrite .dram ea v) ea v := by
  refine ⟨capAt_capWrite rfl s ea v, fun a ha => byteAt_capWrite_outside rfl s ea v ha,
    fun a ha => tagAt_capWrite_outside rfl s ea v halign (by omega), fun q => ?_, sameUnits_dataWrite s ea _, dataWrite_others s ea _⟩
  obtain ⟨r, hr⟩ := pair_dataWrite s ea (natBytes 16 v.bits.toNat) q
  have hpair : (s.capWrite .dram ea v).pair q = { s.pair q with resv := r } := hr
  rw [hpair]
  exact ⟨rfl, rfl, rfl, rfl, rfl, rfl, rfl, rfl⟩

/-- Sequencing before and after a capability store changes nothing that it speaks of. -/
theorem CapStored.of_sequencing {p ea : Nat} {s u w t : State} {v : Cap} (h : CapStored u w ea v) (hu : SameButSequencing p s u)
    (ht : SameButSequencing p w t) : CapStored s t ea v := by
  obtain ⟨hcap, hbytes, htags, hregs, hunits, htcm, hjarr, hboot, hbit⟩ := h
  obtain ⟨⟨tmem, ttags, -, -, tbit, ttcm, -, tjarr, tboot⟩, -⟩ := ht.sameMemory
  obtain ⟨⟨umem, utags, -, -, ubit, utcm, -, ujarr, uboot⟩, -⟩ := hu.sameMemory
  refine ⟨(capAt_of_maps ht.sameMemory.1 ea).trans hcap, fun a ha => ?_, fun a ha => ?_, fun q => ?_,
    SameUnits.trans hu.sameUnits (SameUnits.trans hunits ht.sameUnits), ttcm.trans (htcm.trans utcm), tjarr.trans (hjarr.trans ujarr),
    tboot.trans (hboot.trans uboot), tbit.trans (hbit.trans ubit)⟩
  · have hsame := hbytes a ha
    unfold State.byteAt at hsame ⊢
    dsimp only at hsame ⊢
    rw [tmem, hsame, umem]
  · have hsame := htags a ha
    unfold State.tagAt at hsame ⊢
    dsimp only at hsame ⊢
    rw [ttags, hsame, utags]
  · obtain ⟨r₁, l₁, h₁⟩ := ht.pair_eq q
    obtain ⟨r₂, l₂, h₂⟩ := hu.pair_eq q
    have hq := hregs q
    rw [h₂] at hq
    rw [h₁]
    exact hq

/-- A capability store of plain memory completes: its granule holds the register, and nothing else changes (R49, R67, R72). -/
theorem capStore_completes {i : Instr} {p b : Nat} {cd cs1 : RegIx} {d : SCtx → State → Int} {s : State} {n : SylInfo} {ea : Nat}
    (hi : Issues i p b s) (hp : pairOf i = some p) (hn : infoOf i = some n) (hf : bodyOf i = some (storeCap cd cs1 d)) (hq : Quiet s)
    (hm : PlainAccess s p b (s.src p b cs1.toNat) ea 16 (storeNeed (s.src p b cd.toNat))) (halign : ea % 16 = 0)
    (hea : ea = effAddr (s.src p b cs1.toNat) (d ((issued s p b).ctxFor p b n) (issued s p b))) :
    ∃ t, exec i s = .next t ∧ CapStored s t ea (s.src p b cd.toNat) := by
  have hv := sameButSequencing_issued s p b
  have hsrc := src_issued s p b cs1.toNat
  have hbody := storeCap_plain (c := (issued s p b).ctxFor p b n) (cd := cd) ((congrArg (effAddr · _) hsrc).trans hea.symm) halign
    (src_issued s p b cd.toNat) (hv.plainAccess (hsrc ▸ hm))
  have hrest : AtRest s ((issued s p b).capWrite .dram ea (s.src p b cd.toNat)) :=
    atRest_dataWrite (issued s p b) ea (natBytes 16 (s.src p b cd.toNat).bits.toNat) (hv.atRest hq)
  exact ⟨_, syllableCompletes i p b s _ n _ false hp hi hn hf hbody hrest,
    (capStored_capWrite _ halign _).of_sequencing hv (sameButSequencing_ended hrest.1 n.load p)⟩

end Sys2Proof.Laws

namespace Sys2Proof
open Sys2Proof.Machine Sys2Proof.Laws

/-- Settles O15: a load gives what the barrier leaves of the granule, a store writes the granule whole. -/
theorem capabilityMemory : Obligations.CapabilityMemory := by
  refine ⟨?_, ?_⟩
  · rintro p b cd cs1 cs2 imm s a rfl hq
    have hv := sameButSequencing_issued s p b
    refine ⟨?_, ?_, ?_, ?_⟩
    · rintro ea v hea halign rfl hm hi hx
      exact capLoad_completes hi rfl rfl rfl hm halign hea (capLoad_issued_passes hm hx) rfl hv (hv.atRest hq)
    · rintro ea v hea halign rfl hm hi hx
      exact capLoad_completes hi rfl rfl rfl hm halign (by rw [dispX_issued]; exact hea) (capLoad_issued_passes hm hx) rfl hv
        (hv.atRest hq)
    · rintro ea v hea halign rfl hm hi
      exact capStore_completes hi rfl rfl rfl hq hm halign hea
    · rintro ea v hea halign rfl hm hi
      exact capStore_completes hi rfl rfl rfl hq hm halign (by rw [dispX_issued]; exact hea)
  · rintro p b cd cs1 imm s a v ea rfl hq hea halign rfl hm hi hlc htag hmal hnever hphys hsen hecl
    have hv := sameButSequencing_issued s p b
    obtain ⟨t, ht, honly, hmem, hdev, -⟩ := capLoad_completes (s' := s.bump Addr.ECL_CNT_LBCLR) hi rfl rfl rfl hm halign hea
      (capLoad_issued_clears hm hlc htag hmal hnever hphys hsen hecl) rfl (hv.bump _) (atRest_bump_lbclr (hv.atRest hq))
    exact ⟨t, ht, honly, hmem, (State.rd_of_dev hdev _).trans (rd_bump_saturates s _)⟩

end Sys2Proof
end

section
/-!
PROOFS. Branches, jumps, loops and repeats (O25).
-/
namespace Sys2Proof.Laws
open Sys2Proof.Machine
open Sys2Proof (Instr Imm)

/-! ## Syllables that change their own bank -/

section
variable {i : Instr} {p b : Nat} {s u : State} {n : SylInfo} {f : Body} {l : Bool} (hi : Issues i p b s) (hp : pairOf i = some p)
  (hn : infoOf i = some n) (hload : n.load = false) (hf : bodyOf i = some f) (hu : AtRest s u)
include hi hp hn hload hf hu

/-- A syllable that is no load and changes its bank completes with that change (R113). -/
theorem bankChange_completes {g : Bank → Bank} (hb : f ((issued s p b).ctxFor p b n) (issued s p b) = .ok l (u.updBank p b g)) :
    exec i s = .next (retired p (u.updBank p b g)) := by
  have hexec := syllableCompletes i p b s _ n f l hp hi hn hf hb (show AtRest s (u.updBank p b g) from hu)
  rwa [hload, if_neg (by decide)] at hexec

/-- A syllable that changes its bank twice completes with both changes, memory and units as they were. -/
theorem bankChanges_complete {g h : Bank → Bank}
    (hb : f ((issued s p b).ctxFor p b n) (issued s p b) = .ok l ((u.updBank p b g).updBank p b h)) :
    ∃ t, exec i s = .next t ∧ t.bank p b = h (g (u.bank p b)) ∧ SameMemory u t ∧ SameUnits u t := by
  have hfirst := OwnEffect.updBank hu.1 p b g
  have hown := hfirst.trans (OwnEffect.updBank hfirst.out_eq p b h)
  have hend := sameButSequencing_ended hown.out_eq false p
  refine ⟨_, bankChange_completes hi hp hn hload hf (u := u.updBank p b g) hu hb, (hend.bank_eq p b).trans ?_,
    SameMemory.trans hown.sameMemory hend.sameMemory, SameUnits.trans hown.sameUnits hend.sameUnits⟩
  rw [State.bank_updBank, if_pos ⟨rfl, rfl⟩, State.bank_updBank, if_pos ⟨rfl, rfl⟩]

end

/-! ## The context of an issued syllable -/

theorem bank_issued (s : State) (p b : Nat) : (issued s p b).bank p b = s.bank p b :=
  (sameButSequencing_issued s p b).bank_eq p b

theorem pc_issued (s : State) (p b : Nat) (n : SylInfo) : ((issued s p b).ctxFor p b n).pc = (s.bank p b).pcc.addr := by
  rw [← bank_issued]; rfl

/-- The bundle of a syllable without an immediate is one word (R102). -/
theorem next_issued_of_none (s : State) (p b : Nat) {n : SylInfo} (h : n.imm = none) :
    ((issued s p b).ctxFor p b n).next = addrOf (((s.bank p b).pcc.addr : Int) + 4) := by
  rw [← bank_issued]
  unfold State.ctxFor
  rw [h]
  rfl

/-- The bundle of a syllable with an immediate is one word, or two with an X syllable (R106). -/
theorem next_issued_of_imm (s : State) (p b : Nat) {n : SylInfo} {imm : Imm} (h : n.imm = some imm) :
    ((issued s p b).ctxFor p b n).next = addrOf (((s.bank p b).pcc.addr : Int) + (if immExt imm then 8 else 4)) := by
  rw [← bank_issued]
  unfold State.ctxFor
  rw [h]
  dsimp only
  cases immExt imm <;> rfl

theorem targetOf_issued (s : State) (p b : Nat) (n : SylInfo) (imm : Imm) :
    targetOf ((issued s p b).ctxFor p b n) imm = addrOf (((s.bank p b).pcc.addr : Int) + 4 * immVal imm) := by
  unfold targetOf; rw [pc_issued]

/-! ## Bodies of the control syllables -/

section
variable {c : SCtx} {s : State}

/-- A branch within the bounds of PCC moves its cursor (R161). -/
theorem branch_in_bounds {imm : Imm} {x : Nat} (ht : targetOf c imm = x) (hlo : (s.bank c.pair c.bank).pcc.base ≤ x)
    (hhi : x + 4 ≤ (s.bank c.pair c.bank).pcc.top) : branch imm c s = .ok true (s.goTo c x) := by
  subst ht
  unfold branch
  dsimp only
  rw [if_neg (by simp; omega)]

/-- A jump to a target that passes its checks (R54, R160). -/
theorem jump_checked {cs1 : RegIx} {t : Cap} (ht : s.src c.pair c.bank cs1.toNat = t) (hc : checkTarget t = none) :
    jump cs1 c s = .ok true (s.jumpTo c t) := by
  subst ht
  unfold jump
  dsimp only
  rw [hc]

/-- The same with the return sentry in cd (R55, R160). -/
theorem jumpLink_checked {cd cs1 : RegIx} {t : Cap} (ht : s.src c.pair c.bank cs1.toNat = t) (hc : checkTarget t = none) :
    jumpLink cd cs1 c s = .ok true ((s.setReg c.pair c.bank cd.toNat (s.sentry c)).jumpTo c t) := by
  subst ht
  unfold jumpLink
  dsimp only
  rw [hc]

/-- The loop registers that LOOP sets (R164). -/
def setLoop (x : Word) (ls le : Nat) (k : Bank) : Bank := { k with lc := x, ls := BitVec.ofNat 64 ls, le := BitVec.ofNat 64 le }

/-- A LOOP whose last bundle, fetched, is not before the next one (R164). -/
theorem loop_fetched {cs1 : RegIx} {imm : Imm} {x : Word} {le nx : Nat} {ws : List Nat} {u : State}
    (hx : s.srcX c.pair c.bank cs1.toNat = x) (hle : targetOf c imm = le) (hnx : c.next = nx) (hend : nx ≤ le)
    (hfetch : fetchWords c.pair c.bank le s 5 = .ok (some ws) u) :
    loop cs1 imm c s = .ok true ((u.updBank c.pair c.bank (setLoop x nx le)).updBank c.pair c.bank
      (fun k => k.moveTo (if x = 0 then addrOf ((le : Int) + 4 * (ws.length : Int)) else nx))) := by
  subst hx hle hnx
  unfold loop endFetch
  dsimp only
  rw [if_neg (by omega), hfetch]
  rfl

/-- What REPI and REPU set: the count and STATUS.REP, which is 0 where the count is (R166). -/
def setRepeat (unint : Bool) (x : Word) (k : Bank) : Bank :=
  { k with lc := x }.stSet 6 2 (if x = 0 then 0 else if unint then 2 else 1)

/-- REPI or REPU before a bundle, fetched, that may be repeated (R166, R167). -/
theorem repeatWith_fetched {unint : Bool} {cs1 : RegIx} {x : Word} {nx : Nat} {v : Bundle} {u : State}
    (hx : s.srcX c.pair c.bank cs1.toNat = x) (hnx : c.next = nx) (hfetch : fetchBundle c.pair c.bank nx true s = .ok v u)
    (hrep : repeatable v = true) (hlim : unint = true → x.toNat ≤ 64) :
    repeatWith unint cs1 c s = .ok true ((u.updBank c.pair c.bank (setRepeat unint x)).updBank c.pair c.bank
      (fun k => k.moveTo (if x = 0 then addrOf ((nx : Int) + v.len) else nx))) := by
  subst hx hnx
  have hunder : (unint && decide (64 < (s.srcX c.pair c.bank cs1.toNat).toNat)) = false := by
    cases unint
    · rfl
    · exact decide_eq_false (Nat.not_lt.2 (hlim rfl))
  unfold repeatWith
  dsimp only
  rw [hfetch]
  simp only [Res.bind, hrep, hunder]
  rfl

end

/-! ## Fields of the bank that a control syllable leaves -/

section
variable (k k' : Bank) (x : Nat)

@[simp] theorem lc_moveTo : (k.moveTo x).lc = k.lc := rfl
@[simp] theorem ls_moveTo : (k.moveTo x).ls = k.ls := rfl
@[simp] theorem le_moveTo : (k.moveTo x).le = k.le := rfl
@[simp] theorem rep_moveTo : (k.moveTo x).rep = k.rep := rfl
@[simp] theorem reg_moveTo (m : Nat) : (k.moveTo x).reg m = k.reg m := rfl

variable {k k'}

/-- Where a move leaves PCC depends on PCC alone (R40, R68). -/
theorem pcc_moveTo_congr (h : k'.pcc = k.pcc) : (k'.moveTo x).pcc = (k.moveTo x).pcc := by
  unfold Bank.moveTo; rw [h]

end

theorem reg_setPcc (k : Bank) (v : Cap) (m : Nat) : ({ k with pcc := v } : Bank).reg m = k.reg m := rfl
theorem lc_setRepeat (unint : Bool) (x : Word) (k : Bank) : (setRepeat unint x k).lc = x := rfl
theorem pcc_setRepeat (unint : Bool) (x : Word) (k : Bank) : (setRepeat unint x k).pcc = k.pcc := rfl
theorem reg_setRepeat (unint : Bool) (x : Word) (k : Bank) (m : Nat) : (setRepeat unint x k).reg m = k.reg m := rfl
theorem pcc_setLoop (x : Word) (ls le : Nat) (k : Bank) : (setLoop x ls le k).pcc = k.pcc := rfl
theorem reg_setLoop (x : Word) (ls le : Nat) (k : Bank) (m : Nat) : (setLoop x ls le k).reg m = k.reg m := rfl

theorem rep_setRepeat (unint : Bool) (x : Word) (k : Bank) :
    (setRepeat unint x k).rep = if x = 0 then 0 else if unint then 2 else 1 := by
  unfold setRepeat Bank.stSet Bank.rep
  dsimp only
  rw [BitVec.toNat_ofNat, Nat.mod_eq_of_lt (setBitsAt_lt k.status.isLt (by decide)), bitsAt_setBitsAt_same]
  split
  · rfl
  · split <;> rfl

/-- The return sentry of an issued CJALR: PCC at the next bundle, sealed as a sentry (R55). -/
theorem sentry_issued (s : State) (p b : Nat) {n : SylInfo} (h : n.imm = none) (hwrap : (s.bank p b).pcc.addr + 4 < 2 ^ 64) :
    (issued s p b).sentry ((issued s p b).ctxFor p b n) =
      ((s.bank p b).pcc.withAddr ((s.bank p b).pcc.addr + 4)
        ((s.bank p b).pcc.tag && (s.bank p b).pcc.representable ((s.bank p b).pcc.addr + 4))).withOtype 0xFF01
        ((s.bank p b).pcc.tag && (s.bank p b).pcc.representable ((s.bank p b).pcc.addr + 4)) := by
  have hnext : ((issued s p b).ctxFor p b n).next = (s.bank p b).pcc.addr + 4 := by
    rw [next_issued_of_none s p b h]
    unfold addrOf
    omega
  have hbank : (issued s p b).bank ((issued s p b).ctxFor p b n).pair ((issued s p b).ctxFor p b n).bank = s.bank p b := bank_issued s p b
  unfold State.sentry
  dsimp only
  rw [hnext, hbank]

/-! ## The control syllables as commands -/

section
variable {p b : Nat} {cs1 : RegIx} {s : State}

/-- BR to a target within the bounds of PCC (R161). -/
theorem br_completes {imm : Imm} {x : Nat} (hq : Quiet s) (hx : x = addrOf (((s.bank p b).pcc.addr : Int) + 4 * immVal imm))
    (hlo : (s.bank p b).pcc.base ≤ x) (hhi : x + 4 ≤ (s.bank p b).pcc.top) (hi : Issues (.br p imm) p b s) :
    exec (.br p imm) s = .next (bankDone s p b (fun k => k.moveTo x)) := by
  have hrest := (sameButSequencing_issued s p b).atRest hq
  rw [← bank_issued] at hlo hhi
  exact bankChange_completes hi rfl rfl rfl rfl hrest (branch_in_bounds ((targetOf_issued s p b _ imm).trans hx.symm) hlo hhi)

/-- CJALR to a checked target: cd holds the return sentry w (R54, R55). -/
theorem cjalr_completes {cd : RegIx} {t w : Cap} (hq : Quiet s) (ht : s.src p b cs1.toNat = t) (hc : checkTarget t = none)
    (hw : ∀ n : SylInfo, n.imm = none → (issued s p b).sentry ((issued s p b).ctxFor p b n) = w) (hi : Issues (.cjalr p cd cs1) p b s) :
    ∃ u, exec (.cjalr p cd cs1) s = .next u ∧
      u.bank p b = { (s.bank p b).setReg cd.toNat w with pcc := t.withOtype 0 true } ∧ SameMemory s u ∧ SameUnits s u := by
  have hv := sameButSequencing_issued s p b
  obtain ⟨u, hu, hbank, hmem, hunits⟩ := bankChanges_complete hi rfl rfl rfl rfl (hv.atRest hq)
    (jumpLink_checked ((src_issued s p b cs1.toNat).trans ht) hc)
  rw [bank_issued, hw _ rfl] at hbank
  exact ⟨u, hu, hbank, SameMemory.trans hv.sameMemory hmem, SameUnits.trans hv.sameUnits hunits⟩

/-- LOOP whose last bundle is fetched (R164). -/
theorem loop_completes {imm : Imm} {u : State} {le nx : Nat} {ws : List Nat} (hu : AtRest s u)
    (hle : le = addrOf (((s.bank p b).pcc.addr : Int) + 4 * immVal imm))
    (hnx : nx = addrOf (((s.bank p b).pcc.addr : Int) + (if immExt imm then 8 else 4))) (hend : nx ≤ le)
    (hfetch : fetchWords p b le (issued s p b) 5 = .ok (some ws) u) (hi : Issues (.loop p cs1 imm) p b s) :
    ∃ t, exec (.loop p cs1 imm) s = .next t ∧ t.bank p b = (setLoop (s.srcX p b cs1.toNat) nx le (u.bank p b)).moveTo
      (if s.srcX p b cs1.toNat = 0 then addrOf ((le : Int) + 4 * (ws.length : Int)) else nx) ∧ SameMemory u t ∧ SameUnits u t :=
  bankChanges_complete hi rfl rfl rfl rfl hu (loop_fetched (srcX_issued s p b cs1.toNat) ((targetOf_issued s p b _ imm).trans hle.symm)
    ((next_issued_of_imm s p b rfl).trans hnx.symm) hend hfetch)

/-- REPI or REPU before a bundle that is fetched and may be repeated (R166, R167). -/
theorem repeat_completes {unint : Bool} {i : Instr} {n : SylInfo} {u : State} {nx : Nat} {v : Bundle} (hu : AtRest s u)
    (hnx : nx = addrOf (((s.bank p b).pcc.addr : Int) + 4)) (hfetch : fetchBundle p b nx true (issued s p b) = .ok v u)
    (hrep : repeatable v = true) (hlim : unint = true → (s.srcX p b cs1.toNat).toNat ≤ 64) (hi : Issues i p b s)
    (hp : pairOf i = some p) (hn : infoOf i = some n) (hload : n.load = false) (himm : n.imm = none)
    (hf : bodyOf i = some (repeatWith unint cs1)) :
    ∃ t, exec i s = .next t ∧ (t.bank p b).lc = s.srcX p b cs1.toNat ∧
      (t.bank p b).rep = (if s.srcX p b cs1.toNat = 0 then 0 else if unint then 2 else 1) ∧
      (t.bank p b).pcc = ((u.bank p b).moveTo (if s.srcX p b cs1.toNat = 0 then addrOf ((nx : Int) + v.len) else nx)).pcc ∧
      (∀ m, (t.bank p b).reg m = (u.bank p b).reg m) ∧ SameMemory u t ∧ SameUnits u t := by
  obtain ⟨t, ht, hbank, hmem, hunits⟩ := bankChanges_complete hi hp hn hload hf hu
    (repeatWith_fetched (srcX_issued s p b cs1.toNat) ((next_issued_of_none s p b himm).trans hnx.symm) hfetch hrep hlim)
  refine ⟨t, ht, ?_, ?_, ?_, fun m => ?_, hmem, hunits⟩ <;> rw [hbank]
  · rw [lc_moveTo, lc_setRepeat]
  · rw [rep_moveTo, rep_setRepeat]
  · exact pcc_moveTo_congr _ (pcc_setRepeat _ _ _)
  · rw [reg_moveTo, reg_setRepeat]

end

end Sys2Proof.Laws

namespace Sys2Proof
open Sys2Proof.Machine Sys2Proof.Laws

/-- Settles O25: each control syllable changes its bank alone, LOOP and the repeats after the fetch that they make. -/
theorem controlTransfersAndLoops : Obligations.ControlTransfersAndLoops := by
  refine ⟨?_, ?_⟩
  · rintro p b cd cs1 imm s c k x rfl rfl rfl hq
    refine ⟨fun hlo hhi hi => br_completes hq rfl hlo hhi hi, fun hc hi => ?_, fun hc hwrap hi => ?_⟩
    · exact bankChange_completes hi rfl rfl rfl rfl ((sameButSequencing_issued s p b).atRest hq)
        (jump_checked (src_issued s p b cs1.toNat) hc)
    · obtain ⟨u, hu, hbank, hmem, hunits⟩ := cjalr_completes hq rfl hc (fun n h => sentry_issued s p b h hwrap) hi
      refine ⟨u, hu, by rw [hbank], ?_, fun m hm => ?_, hmem, hunits⟩ <;> rw [hbank]
      · rw [reg_setPcc, reg_setReg_same]
        exact if_congr (toNat_eq_zero_iff cd) rfl rfl
      · rw [reg_setPcc, reg_setReg_ne _ _ hm]
  · rintro p b cs1 imm s u x k rfl rfl hrest
    refine ⟨fun le nx ws hle hnx hend hfetch hi => ?_, fun nx v hnx hfetch hrep => ⟨fun hi => ?_, fun hlim hi => ?_⟩⟩
    · obtain ⟨t, ht, hbank, hmem, hunits⟩ := loop_completes hrest hle hnx hend hfetch hi
      refine ⟨t, ht, ?_, ?_, ?_, ?_, fun m => ?_, hmem, hunits⟩ <;> rw [hbank]
      · rw [lc_moveTo, setLoop]
      · rw [ls_moveTo, setLoop]
      · rw [le_moveTo, setLoop]
      · exact pcc_moveTo_congr _ (pcc_setLoop _ _ _ _)
      · rw [reg_moveTo, reg_setLoop]
    · exact repeat_completes (unint := false) hrest hnx hfetch hrep (fun h => absurd h (by decide)) hi rfl rfl rfl rfl rfl
    · exact repeat_completes (unint := true) hrest hnx hfetch hrep (fun _ => hlim) hi rfl rfl rfl rfl rfl

end Sys2Proof
end

section
/-!
PROOFS. The memory stays canonical (O59): the rules.
-/
namespace Sys2Proof.Machine

/-- The state that an operation of a syllable leaves, whether it completes or faults. -/
abbrev Res.state {α : Type} : Res α → State
  | .ok _ s => s
  | .flt _ s => s

end Sys2Proof.Machine

namespace Sys2Proof.MemoryCanonical
open Machine Laws
open Sys2Proof (Instr)

variable {s t : State} {α β : Type}

/-- An update of anything but the maps of the memory keeps the canonical form. -/
theorem same {pairs : List (Nat × Pair)} {stale : List (Nat × List Nat)} {dev : List (Nat × Word)} {tally : Tally} {evd : Evd}
    {sweep : Sweeper} {arbs : List (Nat × ArbChan)} {notices : List (Nat × List (Word × Word))} {rxFree : List (Nat × List Nat)}
    {locked : Bool} {jrn : Jrn} {draw : Draw} {keys : KeyStore} {sec : Sec} {bootSt : BootUnit} {net : Net} {cwl : Cwl} {pwr : Pwr}
    {out : List Emit} {clk time free : Nat} {pending : List Instr} (c : MemoryCanonical s) :
    MemoryCanonical { s with
      pairs := pairs, stale := stale, dev := dev, tally := tally, evd := evd, sweep := sweep, arbs := arbs, notices := notices,
      rxFree := rxFree, locked := locked, jrn := jrn, draw := draw, keys := keys, sec := sec, bootSt := bootSt, net := net,
      cwl := cwl, pwr := pwr, out := out, clk := clk, time := time, free := free, pending := pending } := c

theorem ite {p : Prop} [Decidable p] (c : MemoryCanonical s) (d : MemoryCanonical t) : MemoryCanonical (if p then s else t) := by
  split
  exacts [c, d]

theorem foldl {f : State → α → State} {l : List α} (c : MemoryCanonical s)
    (hf : ∀ s a, MemoryCanonical s → MemoryCanonical (f s a)) : MemoryCanonical (l.foldl f s) := by
  induction l generalizing s with
  | nil => exact c
  | cons a l ih => exact ih (hf s a c)

theorem ok {r : Res α} {a : α} (c : MemoryCanonical r.state) (h : r = .ok a t) : MemoryCanonical t := by subst h; exact c

theorem flt {r : Res α} {f : PFault} (c : MemoryCanonical r.state) (h : r = .flt f t) : MemoryCanonical t := by
  subst h; exact c

theorem snd {r : α × State} {a : α} (c : MemoryCanonical r.2) (h : r = (a, t)) : MemoryCanonical t := by subst h; exact c

theorem fst {r : State × α} {a : α} (c : MemoryCanonical r.1) (h : r = (t, a)) : MemoryCanonical t := by subst h; exact c

/-- Sequencing: what an operation leaves is what the next one starts from, or the end. -/
theorem bind {r : Res α} {k : α → State → Res β} (c : MemoryCanonical r.state)
    (hk : ∀ a s, MemoryCanonical s → MemoryCanonical (k a s).state) : MemoryCanonical (r.bind k).state := by
  cases r with
  | ok a s => exact hk a s c
  | flt f s => exact c

section
variable {sp : Space} {pa n line ch p : Nat} {bs : List Byte} {ps : List Piece} {e : CombEntry} {x : Cap} {v : Via} {q : Piece}
  {b : Bool}

theorem setTag (c : MemoryCanonical s) : MemoryCanonical (s.setTag sp pa b) := canonical_setTag _ _ _ c
theorem clearTagsFrom (c : MemoryCanonical s) : MemoryCanonical (s.clearTagsFrom sp pa n) := canonical_clearTagsFrom _ _ _ c
theorem unpoison (c : MemoryCanonical s) : MemoryCanonical (s.unpoison line n) := canonical_unpoison _ _ c
theorem dataWrite (c : MemoryCanonical s) : MemoryCanonical (s.dataWrite sp pa bs) := canonical_dataWrite _ _ _ c
theorem capWrite (c : MemoryCanonical s) : MemoryCanonical (s.capWrite sp pa x) := canonical_capWrite _ _ _ c
theorem poisonLine (c : MemoryCanonical s) : MemoryCanonical (s.poisonLine line) := canonical_poisonLine _ c
theorem correctLine (c : MemoryCanonical s) : MemoryCanonical (s.correctLine line) := canonical_correctLine _ c
theorem touchLine (c : MemoryCanonical s) : MemoryCanonical (s.touchLine line) := canonical_touchLine _ c
theorem touchFrom (c : MemoryCanonical s) : MemoryCanonical (s.touchFrom line n) := canonical_touchFrom _ _ c
theorem combLoad (c : MemoryCanonical s) : MemoryCanonical (s.combLoad ch e) := canonical_combLoad _ _ c
theorem combWrite (c : MemoryCanonical s) : MemoryCanonical (s.combWrite ch e) := canonical_combWrite _ _ c
theorem cellRoute (c : MemoryCanonical s) : MemoryCanonical (s.cellRoute line) := canonical_cellRoute _ c
theorem dramEnter (c : MemoryCanonical s) : MemoryCanonical (s.dramEnter pa n) := canonical_dramEnter _ _ c
theorem writePieces (c : MemoryCanonical s) : MemoryCanonical (s.writePieces ps bs) := canonical_writePieces _ _ c
theorem readPieces (c : MemoryCanonical s) : MemoryCanonical (s.readPieces ps).2 := canonical_readPieces _ c
theorem markCd (c : MemoryCanonical s) : MemoryCanonical (s.markCd p q) := canonical_markCd _ _ c
theorem capStore (c : MemoryCanonical s) : MemoryCanonical (s.capStore v x q) := canonical_capStore _ _ _ c
theorem markGranules (c : MemoryCanonical s) : MemoryCanonical (s.markGranules pa b n) := canonical_markGranules _ _ _ c

end

end Sys2Proof.MemoryCanonical
end

section
/-!
PROOFS. The memory stays canonical (O59): the registers, the tally channels and the ways to memory.
-/
namespace Sys2Proof.MemoryCanonical
open Machine Laws
open Sys2Proof (Instr Imm)

variable {s t : State}

theorem reset : MemoryCanonical State.reset := canonical_lists_nothing ⟨rfl, rfl, rfl, rfl, rfl, rfl, rfl, rfl, rfl⟩

/-- A latent error set in a line, or cleared, keeps the canonical form. -/
theorem setLatent {line : Nat} {v : Option Bool} (c : MemoryCanonical s) :
    MemoryCanonical { s with latent := smSet (always none) s.latent line v } := by
  obtain ⟨c1, c2, c3, c4, c5, c6, c7, c8, c9⟩ := c
  exact ⟨c1, c2, c3, c4, c5, c6, c7, c8, smWf_smSet _ _ _ _ c9⟩

/-- A bit of the bitmap written keeps the canonical form. -/
theorem setMapBit {n : Nat} {b : Bool} (c : MemoryCanonical s) :
    MemoryCanonical { s with bitmap := smSet (always false) s.bitmap n b } := by
  obtain ⟨c1, c2, c3, c4, c5, c6, c7, c8, c9⟩ := c
  exact ⟨c1, c2, c3, c4, c5, c6, c7, smWf_smSet _ _ _ _ c8, c9⟩

/-- A journal array of canonical form put in place of the state's keeps the canonical form. -/
theorem putJarr {m : List Host.Cell} (c : MemoryCanonical s) (h : Memory.wf m = true) : MemoryCanonical { s with jarr := m } := by
  obtain ⟨c1, c2, _, c4, c5, c6, c7, c8, c9⟩ := c
  exact ⟨c1, c2, h, c4, c5, c6, c7, c8, c9⟩

/-- The same for the boot store. -/
theorem putBoot {m : List Host.Cell} (c : MemoryCanonical s) (h : Memory.wf m = true) : MemoryCanonical { s with boot := m } := by
  obtain ⟨c1, c2, c3, _, c5, c6, c7, c8, c9⟩ := c
  exact ⟨c1, c2, c3, h, c5, c6, c7, c8, c9⟩

theorem wf_jarr (c : MemoryCanonical s) : Memory.wf s.jarr = true := c.2.2.1

theorem wf_boot (c : MemoryCanonical s) : Memory.wf s.boot = true := c.2.2.2.1

theorem setPair {p : Nat} {v : Pair} (c : MemoryCanonical s) : MemoryCanonical (s.setPair p v) := c.same

theorem setBank {p b : Nat} {k : Bank} (c : MemoryCanonical s) : MemoryCanonical (s.setBank p b k) := c.setPair

theorem updBank {p b : Nat} {f : Bank → Bank} (c : MemoryCanonical s) : MemoryCanonical (s.updBank p b f) := c.setBank

theorem updPair {p : Nat} {f : Pair → Pair} (c : MemoryCanonical s) : MemoryCanonical (s.updPair p f) := c.setPair

theorem setReg {p b n : Nat} {x : Cap} (c : MemoryCanonical s) : MemoryCanonical (s.setReg p b n x) := by
  unfold State.setReg
  exact c.updBank

theorem setX {p b n : Nat} {x : Word} (c : MemoryCanonical s) : MemoryCanonical (s.setX p b n x) := c.setReg

theorem setW {p b n : Nat} {x : Wide} (c : MemoryCanonical s) : MemoryCanonical (s.setW p b n x) := c.setReg

theorem wr {a : Nat} {v : Word} (c : MemoryCanonical s) : MemoryCanonical (s.wr a v) := c.same

theorem setFld {a lo w v : Nat} (c : MemoryCanonical s) : MemoryCanonical (s.setFld a lo w v) := c.wr

theorem setBit {a i : Nat} (c : MemoryCanonical s) : MemoryCanonical (s.setBit a i) := c.setFld

theorem bumpF {a lo w : Nat} (c : MemoryCanonical s) : MemoryCanonical (s.bumpF a lo w) := c.setFld

theorem bump {a : Nat} (c : MemoryCanonical s) : MemoryCanonical (s.bump a) := c.bumpF

theorem wrerr {a : Nat} (c : MemoryCanonical s) : MemoryCanonical (s.wrerr a) := by
  unfold State.wrerr
  split
  exacts [c, c.setBit]

theorem notify {q kind unit idx detail : Nat} (c : MemoryCanonical s) : MemoryCanonical (s.notify q kind unit idx detail) := by
  unfold State.notify
  exact c.bumpF.ite c.same

theorem setArb {ch : Nat} {a : ArbChan} (c : MemoryCanonical s) : MemoryCanonical (s.setArb ch a) := c.same

theorem endTenure {ch q : Nat} (c : MemoryCanonical s) : MemoryCanonical (s.endTenure ch q) := by
  unfold State.endTenure
  exact c.setArb.ite c

theorem endTenures {q : Nat} (c : MemoryCanonical s) : MemoryCanonical (s.endTenures q) := by
  unfold State.endTenures
  exact c.foldl fun _ _ c => c.endTenure

theorem loseResv {line n : Nat} (c : MemoryCanonical s) : MemoryCanonical (s.loseResv line n) := c.same

theorem dropCode {p : Nat} (c : MemoryCanonical s) : MemoryCanonical (s.dropCode p) := by
  unfold State.dropCode
  exact c.ite c.updPair.same

theorem fetchLine {p line : Nat} (c : MemoryCanonical s) : MemoryCanonical (s.fetchLine p line) := by
  unfold State.fetchLine
  exact c.ite c.updPair

theorem dropStale {p : Nat} (c : MemoryCanonical s) : MemoryCanonical (s.dropStale p) := by
  unfold State.dropStale
  exact c.same.ite c

theorem staleWord {p : Nat} {sp : Space} {pa cur : Nat} (c : MemoryCanonical s) :
    MemoryCanonical (s.staleWord p sp pa cur).2 := by
  unfold State.staleWord
  extract_lets old
  clear_value old
  split
  exacts [c, c.same]

theorem poisonBitmap {line : Nat} (c : MemoryCanonical s) : MemoryCanonical (s.poisonBitmap line) := by
  unfold State.poisonBitmap
  have c1 := c.setLatent (line := line) (v := none) |>.foldl (l := List.range 512) fun s i c =>
    c.setMapBit (n := (line * 64 - 0x20000000000) * 8 + i) (b := false)
  exact c1.setBit.wr.bump.notify

theorem bitmapTouch {line : Nat} (c : MemoryCanonical s) : MemoryCanonical (s.bitmapTouch line) := by
  unfold State.bitmapTouch
  split
  exacts [c, c.correctLine, c.poisonBitmap]

theorem bitmapRead {pa : Nat} (c : MemoryCanonical s) : MemoryCanonical (s.bitmapRead pa).2 := by
  unfold State.bitmapRead
  exact c.ite c.bitmapTouch

theorem addFlags {p b : Nat} {f : Flags} (c : MemoryCanonical s) : MemoryCanonical (s.addFlags p b f) := by
  unfold State.addFlags
  exact c.ite c.updBank

theorem setTch {ch : Nat} {t : TallyChan} (c : MemoryCanonical s) : MemoryCanonical (s.setTch ch t) := c.same.setFld.setFld.setFld

theorem tallyReturn {op : TallyOp} {status : Nat} {snap : Option (List Byte)} (c : MemoryCanonical s) :
    MemoryCanonical (s.tallyReturn op status snap) := c.same

theorem setUnj {p : Nat} {l : UnjList} (c : MemoryCanonical s) : MemoryCanonical (s.setUnj p l) := c.same

theorem recordAdd {op : TallyOp} (c : MemoryCanonical s) : MemoryCanonical (s.recordAdd op) := by
  unfold State.recordAdd
  exact c.setUnj.setBit.ite c.setUnj

theorem tallyCount {ch : Nat} {kind : TallyKind} {code : Nat} (c : MemoryCanonical s) :
    MemoryCanonical (tallyCount s ch kind code) := by
  unfold Machine.tallyCount
  exact c.bump.ite (c.bump.ite (c.bump.ite (c.bump.ite c)))

theorem decideOne {ch : Nat} {op : TallyOp} {d : List Byte} (c : MemoryCanonical s) :
    MemoryCanonical (s.decideOne ch op d).1 := by
  unfold State.decideOne
  exact (c.recordAdd.ite c).tallyCount.tallyReturn

theorem tallyTick (c : MemoryCanonical s) : MemoryCanonical s.tallyTick.2 := c.same

theorem abortChan {p : Nat} {l : List Nat} (c : MemoryCanonical s) : MemoryCanonical (s.abortChan p l) := by
  induction l generalizing s with
  | nil => exact c
  | cons a l ih => exact ih (c.ite c.setTch)

theorem tallySettle {p : Nat} (c : MemoryCanonical s) : MemoryCanonical (s.tallySettle p) := c.same.abortChan.setFld.setFld.setFld

theorem haltSettle {p : Nat} (c : MemoryCanonical s) : MemoryCanonical (s.haltSettle p) := by
  unfold State.haltSettle
  exact c.ite c.tallySettle

theorem readPte {wc pr : Option Nat} {table idx level : Nat} (c : MemoryCanonical s) :
    MemoryCanonical (s.readPte wc pr table idx level).2 := by
  unfold State.readPte
  extract_lets pe cached sp s1
  have c1 : MemoryCanonical s1 := c.dramEnter.ite c
  clear_value cached
  split
  · exact c
  · split
    exacts [c1, c1]

theorem cacheWalk {wc : Option Nat} {table idx level e : Nat} (c : MemoryCanonical s) :
    MemoryCanonical (s.cacheWalk wc table idx level e) := by
  unfold State.cacheWalk
  split
  exacts [c, c.ite c.updPair]

theorem walkGo {wc pr : Option Nat} {va asid table level n : Nat} (c : MemoryCanonical s) :
    MemoryCanonical (walkGo s wc pr va asid table level n).state := by
  induction n generalizing s table level with
  | zero => exact c
  | succ n ih =>
    unfold Machine.walkGo
    extract_lets idx pe
    split
    · exact c
    · split
      · exact c
      · split
        next h2 => exact c.readPte.snd h2
        next h2 =>
          split
          · exact c.readPte.snd h2
          · split
            · exact c.readPte.snd h2
            · split
              exacts [ih ((c.readPte.snd h2).cacheWalk), c.readPte.snd h2]

theorem walk {wc pr : Option Nat} {va ttbc : Nat} (c : MemoryCanonical s) : MemoryCanonical (s.walk wc pr va ttbc).state := by
  unfold State.walk
  split
  exacts [c, (c.bump.ite c).walkGo]

theorem tlbFill {p : Nat} {x : Bool} {t : TlbEntry} (c : MemoryCanonical s) : MemoryCanonical (s.tlbFill p x t) := by
  unfold State.tlbFill
  exact c.updPair

theorem tlbHit {p : Nat} {x : Bool} {t : TlbEntry} (c : MemoryCanonical s) : MemoryCanonical (s.tlbHit p x t) := by
  unfold State.tlbHit
  exact c.updPair

theorem leafOf {p : Nat} {x : Bool} {ttbc va : Nat} (c : MemoryCanonical s) : MemoryCanonical (s.leafOf p x ttbc va).state := by
  unfold State.leafOf
  extract_lets hit
  split
  · exact c
  · split
    · exact c
    · split
      exacts [c.tlbHit, c.walk.bind fun _ _ c => c.tlbFill]

theorem releaf {p : Nat} {x : Bool} {ttbc va : Nat} (c : MemoryCanonical s) : MemoryCanonical (s.releaf p x ttbc va).state := by
  unfold State.releaf
  exact c.updPair.walk.bind fun _ _ c => c.tlbFill

theorem bareXlate {v : Via} {k : AKind} {va len : Nat} (c : MemoryCanonical s) :
    MemoryCanonical (bareXlate s v k va len).state := by
  unfold Machine.bareXlate
  split
  · exact c
  · extract_lets sp
    split
    · exact c
    · extract_lets bad
      split <;> exact c

theorem xlate {v : Via} {k : AKind} {va len : Nat} (c : MemoryCanonical s) : MemoryCanonical (xlate s v k va len).state := by
  unfold Machine.xlate
  split
  · exact c.bareXlate
  · refine c.leafOf.bind fun t s1 c1 => ?_
    split
    · exact c1
    · split
      · exact c1
      · refine c1.releaf.bind fun t2 s2 c1 => ?_
        split
        · exact c1
        · split <;> exact c1

theorem planParts {v : Via} {k : AKind} {one capAcc : Bool} {ea size : Nat} {upper : Bool} {l : List (Nat × Nat)}
    (c : MemoryCanonical s) : MemoryCanonical (planParts v k one capAcc ea size upper s l).state := by
  induction l generalizing upper s with
  | nil => exact c
  | cons a l ih =>
    unfold Machine.planParts
    split
    next h => exact c.xlate.flt h
    next h =>
      split
      · exact c.xlate.ok h
      · split
        next h2 => exact (ih (c.xlate.ok h)).ok h2
        next h2 => exact (ih (c.xlate.ok h)).flt h2

theorem planAccess {v : Via} {k : AKind} {capAcc : Bool} {ea size : Nat} (c : MemoryCanonical s) :
    MemoryCanonical (planAccess s v k capAcc ea size).state := c.planParts

theorem planRange {v : Via} {k : AKind} {ea size : Nat} (c : MemoryCanonical s) :
    MemoryCanonical (planRange s v k ea size).state := c.planParts

theorem lookupPa {p ttbc va : Nat} (c : MemoryCanonical s) : MemoryCanonical (s.lookupPa p ttbc va).2 := by
  unfold State.lookupPa
  split
  · exact c
  · split
    next h1 => exact c.leafOf.ok h1
    next h1 => exact c.leafOf.flt h1

theorem revoked {p ttbc : Nat} {x : Cap} (c : MemoryCanonical s) : MemoryCanonical (s.revoked p ttbc x).2 := by
  unfold State.revoked
  split
  · exact c
  · split
    next h1 => exact c.lookupPa.snd h1
    next h1 =>
      split
      exacts [(c.lookupPa.snd h1).bitmapRead, c.lookupPa.snd h1]

theorem barrier {p ttbc : Nat} {x : Cap} (c : MemoryCanonical s) : MemoryCanonical (s.barrier p ttbc x).2 := by
  unfold State.barrier
  split
  next h => exact (c.revoked.snd h).bump
  next h => exact c.revoked.snd h

theorem capLoad {v : Via} {lc : Bool} {x : Piece} (c : MemoryCanonical s) : MemoryCanonical (s.capLoad v lc x).2 := by
  unfold State.capLoad
  extract_lets s1 x_1
  have c1 : MemoryCanonical s1 := c.dramEnter.ite c
  split
  exacts [c1.barrier, c1]

theorem planCap {v : Via} {k : AKind} {ea : Nat} (c : MemoryCanonical s) : MemoryCanonical (planCap s v k ea).state := by
  unfold Machine.planCap
  split
  next h => exact c.planAccess.ok h
  next h => exact c.planAccess.ok h
  next h => exact c.planAccess.flt h

end Sys2Proof.MemoryCanonical
end

section
/-!
PROOFS. The memory stays canonical (O59): contexts, faults and event delivery.
-/
namespace Sys2Proof.MemoryCanonical
open Machine Laws
open Sys2Proof (Instr Imm)

variable {s t : State}

theorem evdTick (c : MemoryCanonical s) : MemoryCanonical s.evdTick.2 := c.same

theorem switchTo {p : Nat} {dest : Option Nat} (c : MemoryCanonical s) : MemoryCanonical (s.switchTo p dest) := by
  unfold State.switchTo
  exact c.evdTick.updPair

theorem putDeliv {d : Delivery} (c : MemoryCanonical s) : MemoryCanonical (s.putDeliv d) := c.same

theorem slotSync {ch : Nat} (c : MemoryCanonical s) : MemoryCanonical (s.slotSync ch) := by
  unfold State.slotSync
  exact c.ite c.same

theorem freeBuf {buf : Option (Nat × Nat)} (c : MemoryCanonical s) : MemoryCanonical (s.freeBuf buf) := by
  unfold State.freeBuf
  split
  exacts [c, c.ite c.same]

theorem dropDeliv {id : Nat} (c : MemoryCanonical s) : MemoryCanonical (s.dropDeliv id) := by
  unfold State.dropDeliv
  split
  exacts [c, c.same.freeBuf.slotSync]

theorem countDrop {ch : Nat} (c : MemoryCanonical s) : MemoryCanonical (s.countDrop ch) := by
  unfold State.countDrop
  exact c.ite c.bumpF.setBit

theorem dispPa {ttbc va : Nat} (c : MemoryCanonical s) : MemoryCanonical (s.dispPa ttbc va).state := by
  unfold State.dispPa
  split
  · split <;> exact c
  · refine c.walk.bind fun t s1 c1 => ?_
    split <;> exact c1

theorem dispRevoked {ttbc : Nat} {x : Cap} (c : MemoryCanonical s) : MemoryCanonical (s.dispRevoked ttbc x).2 := by
  unfold State.dispRevoked
  split
  · exact c
  · split
    next h1 => exact (c.dispPa.ok h1).bitmapRead
    next h1 => exact c.dispPa.flt h1

theorem dispBarrier {ttbc : Nat} {x : Cap} (c : MemoryCanonical s) : MemoryCanonical (s.dispBarrier ttbc x).2 := by
  unfold State.dispBarrier
  split
  next h => exact (c.dispRevoked.snd h).bump
  next h => exact c.dispRevoked.snd h

theorem readTask {t : Nat} (c : MemoryCanonical s) : MemoryCanonical (s.readTask t).2.2 := by
  unfold State.readTask
  extract_lets pa s1 ttbc ctl r
  have c1 : MemoryCanonical r.2 := c.dramEnter.dispBarrier
  split
  · exact c
  · split
    · exact c1
    · split
      exacts [c1, c1]

theorem task {t : Nat} (c : MemoryCanonical s) : MemoryCanonical (s.task t).2 := by
  unfold State.task
  split
  exacts [c, c.readTask.same]

theorem entryAt {p b t : Nat} (c : MemoryCanonical s) : MemoryCanonical (s.entryAt p b t).2 := by
  unfold State.entryAt
  split
  exacts [c, c.task]

theorem evdPost {ch src : Nat} {payload : List Cap} {fault buf : Option (Nat × Nat)} (c : MemoryCanonical s) :
    MemoryCanonical (s.evdPost ch src payload fault buf) := by
  unfold State.evdPost
  exact (c.bumpF.setBit.ite c.bumpF).task.freeBuf.countDrop.ite ((c.bumpF.setBit.ite c.bumpF).task.evdTick.setFld.same)

theorem unitPost {ch word : Nat} (c : MemoryCanonical s) : MemoryCanonical (s.unitPost ch word) := c.same.evdPost

theorem evtPost {reg word : Nat} (c : MemoryCanonical s) : MemoryCanonical (s.evtPost reg word) := by
  unfold State.evtPost
  exact c.unitPost.ite c

theorem lazySave {p b : Nat} (c : MemoryCanonical s) : MemoryCanonical (s.lazySave p b).state := by
  unfold State.lazySave
  extract_lets k
  split
  · exact c
  · split
    exacts [c, c.planRange.bind fun _ _ c => c.writePieces.updBank]

theorem lazyReload {p b : Nat} (c : MemoryCanonical s) : MemoryCanonical (s.lazyReload p b).state := by
  unfold State.lazyReload
  extract_lets k
  split
  · exact c
  · split
    exacts [c, c.planRange.bind fun _ _ c => c.readPieces.updPair]

theorem restoreC2 {p : Nat} {prior : Option CtxRef} (c : MemoryCanonical s) : MemoryCanonical (s.restoreC2 p prior) := by
  unfold State.restoreC2
  split
  exacts [c.updBank, c.same, c]

theorem lazyComplete {p b : Nat} (c : MemoryCanonical s) : MemoryCanonical (s.lazyComplete p b).state := by
  unfold State.lazyComplete
  extract_lets k
  split
  exacts [c, c.lazyReload.bind fun _ _ c => c.updBank.restoreC2.ite c.updBank]

theorem lazyReserve {p old b : Nat} (c : MemoryCanonical s) (h : s.lazyReserve p old b = some t) : MemoryCanonical t := by
  unfold State.lazyReserve at h
  extract_lets c2 s1 at h
  split at h
  · cases h
  · cases h; exact c.updBank.updBank

theorem lockup {p : Nat} {r : Rec} (c : MemoryCanonical s) : MemoryCanonical (s.lockup p r) := by
  unfold State.lockup
  exact c.setBit.updPair.notify.haltSettle

theorem escalate {p : Nat} {prior : Option CtxRef} {esc : EscInfo} {r : Rec} (c : MemoryCanonical s) :
    MemoryCanonical (s.escalate p prior esc r) := by
  unfold State.escalate
  exact c.lockup.ite c.switchTo.updBank.updPair.bump

theorem preempt {p b : Nat} (c : MemoryCanonical s) : MemoryCanonical (s.preempt p b) := by
  unfold State.preempt
  exact c.updBank

theorem escalateRun {p : Nat} {esc : EscInfo} {r : Rec} (c : MemoryCanonical s) : MemoryCanonical (s.escalateRun p esc r) := by
  unfold State.escalateRun
  split
  exacts [c.escalate, c.lockup.ite c.preempt.escalate]

theorem faultWord {p : Nat} {e : TaskEntry} (c : MemoryCanonical s) : MemoryCanonical (s.faultWord p e).state := by
  unfold State.faultWord
  exact c.planAccess.bind fun _ _ c => c.readPieces

theorem regionRead {p : Nat} {e : TaskEntry} (c : MemoryCanonical s) : MemoryCanonical (s.regionRead p e).state := by
  unfold State.regionRead
  refine c.planRange.bind fun cs s1 c1 => ?_
  extract_lets r ds
  split
  exacts [c1.readPieces, c1.readPieces.setBit.ite c1.readPieces]

theorem resumeBank {p o : Nat} (c : MemoryCanonical s) : MemoryCanonical (s.resumeBank p o) := by
  unfold State.resumeBank
  split
  · exact c.switchTo
  · extract_lets te
    split
    · exact c.entryAt.switchTo
    · split
      next h2 => exact (c.entryAt.regionRead.ok h2).updBank.switchTo
      next h2 => exact (c.entryAt.regionRead.flt h2).setBit.updPair.escalate

theorem resumeCtx {p : Nat} {prior : Option CtxRef} (c : MemoryCanonical s) : MemoryCanonical (s.resumeCtx p prior) := by
  unfold State.resumeCtx
  split
  exacts [c.resumeBank, c.switchTo.updPair, c.switchTo]

theorem leaveChain {p b : Nat} {st : BankState} (c : MemoryCanonical s) : MemoryCanonical (s.leaveChain p b st) := by
  unfold State.leaveChain
  exact c.updBank.resumeCtx

theorem faultEscalate {p b : Nat} {r : Rec} {reason orig : Nat} {chan : Option Nat} (c : MemoryCanonical s) :
    MemoryCanonical (s.faultEscalate p b r reason orig chan) := by
  unfold State.faultEscalate
  exact c.updBank.escalate

theorem faultOver {p b : Nat} {r : Rec} {reason : Nat} {chan : Option Nat} (c : MemoryCanonical s) :
    MemoryCanonical (s.faultOver p b r reason chan) := by
  unfold State.faultOver
  extract_lets cur s1
  have c1 : MemoryCanonical s1 := by
    unfold s1
    split
    exacts [c.preempt, c]
  exact c1.updBank.faultEscalate

theorem faultPost {p b : Nat} {r : Rec} (c : MemoryCanonical s) : MemoryCanonical (s.faultPost p b r) := by
  unfold State.faultPost
  split
  · exact c.faultEscalate
  · extract_lets e
    split
    · exact c.task.faultEscalate
    · split
      next h2 => exact (c.task.faultWord.flt h2).faultEscalate
      next h2 => exact (c.task.faultWord.ok h2).faultEscalate.ite ((c.task.faultWord.ok h2).faultEscalate.ite
        ((c.task.faultWord.ok h2).faultEscalate.ite ((c.task.faultWord.ok h2).evdPost.updBank.leaveChain)))

theorem takeFault {p b : Nat} {f : PFault} {slot : Nat} {impr : Bool} (c : MemoryCanonical s) :
    MemoryCanonical (s.takeFault p b f slot impr) := by
  unfold State.takeFault
  extract_lets r s0 s1
  split
  · exact c.updPair.lockup
  · split
    · exact c.updPair.preempt.escalate
    · split
      next h2 => exact (c.updPair.updPair.lazyComplete.flt h2).faultEscalate
      next h2 => exact (c.updPair.updPair.lazyComplete.ok h2).faultPost

theorem takeApend {p b slot : Nat} (c : MemoryCanonical s) : MemoryCanonical (s.takeApend p b slot) := by
  unfold State.takeApend
  exact c.updBank.takeFault

theorem entryFor {p t : Nat} (c : MemoryCanonical s) : MemoryCanonical (s.entryFor p t).2 := by
  unfold State.entryFor
  split
  exacts [c.entryAt, c.task]

theorem entryCap {p k : Nat} {e : TaskEntry} (c : MemoryCanonical s) : MemoryCanonical (s.entryCap p k e).state := by
  unfold State.entryCap
  exact c.planCap.bind fun _ _ c => c.capLoad

theorem preload {p : Nat} {w : Work} (c : MemoryCanonical s) : MemoryCanonical (s.preload p w).state := by
  unfold State.preload
  extract_lets x e
  have c1 : MemoryCanonical e.2 := c.entryFor
  split
  · exact c1
  · refine c1.regionRead.bind fun ds s1 c2 => ?_
    split
    · exact c2
    · exact c2.entryCap.bind fun _ _ c => c

theorem present {p : Nat} {w : Work} (c : MemoryCanonical s) : MemoryCanonical (s.present p w) := by
  unfold State.present
  extract_lets s1 _ s2
  have c1 : MemoryCanonical s2 := by
    unfold s2
    split
    exacts [c.updPair, c.updPair.same]
  split
  next h => exact (c1.preload.ok h).updPair
  next h => exact c1.preload.flt h

theorem selectPost {p t prio : Nat} {x : Post} (c : MemoryCanonical s) : MemoryCanonical (s.selectPost p t prio x) := by
  unfold State.selectPost
  extract_lets sl n _ _ s1 s2 d
  have c1 : MemoryCanonical s1 := c.evdTick.same
  have c2 : MemoryCanonical s2 := c1.setFld
  exact c2.same.present

theorem evdSelect {p : Nat} (c : MemoryCanonical s) : MemoryCanonical (s.evdSelect p) := by
  unfold State.evdSelect
  split
  · exact c
  · extract_lets s0
    have c1 : MemoryCanonical s0 := c.setBit.ite c
    split
    · exact c1
    · extract_lets later
      split
      · exact c1
      · split
        · exact c1.present
        · split
          exacts [c1, c1.task.selectPost]

theorem swClr (c : MemoryCanonical s) : MemoryCanonical s.swClr := by
  unfold State.swClr
  exact c.bump.same

theorem sweepRegsFrom {p ttbc : Nat} {k : Bank} {l : List Nat} (c : MemoryCanonical s) :
    MemoryCanonical (sweepRegsFrom s p ttbc k l).2 := by
  induction l generalizing s k with
  | nil => exact c
  | cons a l ih =>
    unfold Machine.sweepRegsFrom
    extract_lets x
    split
    next h => exact ih ((c.revoked.snd h).swClr)
    next h => exact ih (c.revoked.snd h)

theorem sweepCap {p ttbc : Nat} {x : Cap} (c : MemoryCanonical s) : MemoryCanonical (s.sweepCap p ttbc x).2 := by
  unfold State.sweepCap
  split
  next h => exact (c.revoked.snd h).swClr
  next h => exact c.revoked.snd h

theorem sweepBank {p : Nat} {k : Bank} (c : MemoryCanonical s) : MemoryCanonical (s.sweepBank p k).2 :=
  c.sweepRegsFrom.sweepCap.sweepCap.sweepCap

theorem planSlots {v : Via} {base : Nat} {l : List (Nat × Cap)} (c : MemoryCanonical s) :
    MemoryCanonical (planSlots v base s l).state := by
  induction l generalizing s with
  | nil => exact c
  | cons a l ih => exact c.planCap.bind fun _ _ c => (ih c).bind fun _ _ c => c

theorem markCds {p : Nat} {l : List Piece} (c : MemoryCanonical s) : MemoryCanonical (s.markCds p l) := by
  induction l generalizing s with
  | nil => exact c
  | cons a l ih => exact ih c.markCd

theorem renameCtx {p : Nat} {old new : CtxRef} (c : MemoryCanonical s) : MemoryCanonical (s.renameCtx p old new) := by
  unfold State.renameCtx
  exact c.updPair.same

theorem spillBank {p b : Nat} (c : MemoryCanonical s) : MemoryCanonical (s.spillBank p b).state := by
  unfold State.spillBank
  extract_lets k v slots t mid
  split
  · exact c
  next x _ =>
    refine c.planSlots.bind fun cs s1 c1 => ?_
    refine c1.planRange.bind fun x s2 c1 => ?_
    split
    exacts [c1, c1.markCds.updPair.renameCtx.same.ite c1.markCds.updPair.renameCtx]

theorem writeSlots {cs : List Cap} {pas : List Nat} (c : MemoryCanonical s) : MemoryCanonical (s.writeSlots cs pas) := by
  induction cs generalizing s pas with
  | nil => exact c
  | cons x cs ih =>
    cases pas with
    | nil => exact c
    | cons pa pas => exact ih c.dramEnter.capWrite

theorem spillWrite {p : Nat} {x : SpillBuf} (c : MemoryCanonical s) : MemoryCanonical (s.spillWrite p x) := by
  unfold State.spillWrite
  exact c.sweepBank.writeSlots.dramEnter.dataWrite.bump.same

theorem spillComplete {p : Nat} (c : MemoryCanonical s) : MemoryCanonical (s.spillComplete p) := by
  unfold State.spillComplete
  split
  exacts [c, c.spillWrite.updPair]

theorem spillDrain {p n : Nat} (c : MemoryCanonical s) : MemoryCanonical (s.spillDrain p n) := by
  induction n generalizing s with
  | zero => exact c
  | succ n ih => exact ih c.spillComplete

theorem drainTask {t : Nat} (c : MemoryCanonical s) : MemoryCanonical (s.drainTask t) := by
  unfold State.drainTask
  exact c.foldl fun _ _ c => c.spillDrain.ite c

theorem preemptRun {p : Nat} (c : MemoryCanonical s) : MemoryCanonical (s.preemptRun p) := by
  unfold State.preemptRun
  split
  exacts [c.preempt, c]

theorem failDelivery {p : Nat} {d : Delivery} {r : Rec} {own : Bool} {held : Option (Nat × Nat)} (c : MemoryCanonical s) :
    MemoryCanonical (s.failDelivery p d r own held) := by
  unfold State.failDelivery
  extract_lets s1 f
  split
  exacts [c.updPair.dropDeliv.faultOver.updPair, c.updPair.putDeliv.slotSync.escalateRun]

theorem spillFail {p vp b : Nat} {f : PFault} (c : MemoryCanonical s) : MemoryCanonical (s.spillFail p vp b f) := by
  unfold State.spillFail
  extract_lets t s1 r
  split
  · exact c.updBank.setBit.updPair.escalate
  · split
    exacts [c.updBank.setBit.failDelivery.ite c.updBank.setBit.escalateRun, c.updBank.setBit.escalateRun]

theorem trySpill {p vp b : Nat} (c : MemoryCanonical s) : MemoryCanonical (s.trySpill p vp b) := by
  unfold State.trySpill
  split
  next h => exact c.spillBank.ok h
  next h => exact c.ite ((c.spillBank.flt h).spillFail)

theorem spill {p : Nat} (c : MemoryCanonical s) : MemoryCanonical (s.spill p) := by
  unfold State.spill
  split
  · exact c
  · split
    · exact c.trySpill
    · split
      · split
        exacts [c.ite c.bump.updPair, c.trySpill]
      · exact c

theorem backSpill {p : Nat} (c : MemoryCanonical s) : MemoryCanonical (s.backSpill p) := by
  unfold State.backSpill
  split
  · exact c
  · split
    exacts [c, c.trySpill]

theorem fillCaps {v : Via} {l : List Piece} (c : MemoryCanonical s) : MemoryCanonical (s.fillCaps v l).2 := by
  induction l generalizing s with
  | nil => exact c
  | cons a l ih => exact ih c.capLoad

theorem planLoads {v : Via} {base : Nat} {l : List Nat} (c : MemoryCanonical s) :
    MemoryCanonical (planLoads v base s l).state := by
  induction l generalizing s with
  | nil => exact c
  | cons a l ih => exact c.planCap.bind fun _ _ c => (ih c).bind fun _ _ c => c

theorem fillImage {p t : Nat} {e : TaskEntry} (c : MemoryCanonical s) : MemoryCanonical (s.fillImage p t e).state := by
  unfold State.fillImage
  extract_lets v
  refine c.planLoads.bind fun cs s1 c1 => ?_
  extract_lets r k sw _
  split
  · exact c1.fillCaps
  · have c2 : MemoryCanonical sw.2 := c1.fillCaps.sweepBank
    exact c2.regionRead.bind fun _ _ c => c

theorem fillFail {p b t : Nat} {f : PFault} (c : MemoryCanonical s) : MemoryCanonical (s.fillFail p b t f) := by
  unfold State.fillFail
  extract_lets s1 s2
  split
  · exact c.setBit.updPair.escalate
  · split
    exacts [c.setBit.failDelivery, c.setBit]

theorem takeMid {t : Nat} (c : MemoryCanonical s) : MemoryCanonical (s.takeMid t).2 := c.same

theorem fillDone {p b t : Nat} {k : Bank} (c : MemoryCanonical s) : MemoryCanonical (s.fillDone p b t k) := by
  unfold State.fillDone
  extract_lets s1 _ s2 s3 m k1 k2 s3_1
  split
  · split
    exacts [c.bump.same.setBank, c.bump.same.setBank.putDeliv]
  · exact c.bump.same.takeMid.setBank.renameCtx.updPair.switchTo

theorem fill {p : Nat} (c : MemoryCanonical s) : MemoryCanonical (s.fill p) := by
  unfold State.fill
  split
  · exact c
  · split
    · exact c
    · split
      · exact c
      · extract_lets e
        split
        · exact c.ite c.drainTask.task.setBit.fillFail
        · split
          next h4 => exact c.ite ((c.drainTask.task.fillImage.flt h4).fillFail)
          next h4 => exact (c.drainTask.task.fillImage.ok h4).fillDone

theorem barrierAll {p ttbc : Nat} {l : List Cap} (c : MemoryCanonical s) : MemoryCanonical (s.barrierAll p ttbc l).2 := by
  induction l generalizing s with
  | nil => exact c
  | cons a l ih => exact ih c.barrier

theorem reserveFor {p b : Nat} (c : MemoryCanonical s) (h : s.reserveFor p b = some t) : MemoryCanonical t := by
  unfold State.reserveFor at h
  split at h
  · cases h; exact c.updBank
  · exact c.lazyReserve h

theorem enterEvent {p b : Nat} {d : Delivery} {x : Standby} (c : MemoryCanonical s) : MemoryCanonical (s.enterEvent p b d x) := by
  unfold State.enterEvent
  extract_lets prior pay s1
  have c1 : MemoryCanonical s1 := c.barrierAll.updPair.updBank
  split
  · exact c.failDelivery
  next h =>
    split
    · exact c.failDelivery
    · extract_lets s3 s4 s5
      have c5 : MemoryCanonical s5 := (c1.reserveFor h).preemptRun.switchTo.updPair.putDeliv
      exact c5.ite c5.bump

theorem evdEntry {p : Nat} (c : MemoryCanonical s) : MemoryCanonical (s.evdEntry p) := by
  unfold State.evdEntry
  split
  · exact c
  · split
    · exact c
    · split
      · exact c
      · extract_lets ready te
        have c1 : MemoryCanonical te.2 := c.entryAt
        clear_value ready
        split
        · exact c.enterEvent
        · split
          · exact c1.setBit.failDelivery
          · split
            next h => exact (c1.regionRead.flt h).setBit.failDelivery
            next h =>
              have c2 := c1.regionRead.ok h
              split
              next h => exact (c2.entryCap.flt h).failDelivery
              next h => exact (c2.entryCap.ok h).enterEvent

theorem firstBundle {p b : Nat} (c : MemoryCanonical s) : MemoryCanonical (s.firstBundle p b) := by
  unfold State.firstBundle
  split
  · exact c
  · split
    exacts [c, c.ite c.putDeliv.slotSync]

theorem enterBank {p b : Nat} {ds : List (BitVec 128)} (c : MemoryCanonical s) : MemoryCanonical (s.enterBank p b ds) := by
  unfold State.enterBank
  extract_lets prior done
  split
  · exact c.updPair.escalateRun
  next h => exact (c.updPair.reserveFor h).updBank.preemptRun.switchTo.updPair.bump

theorem evdResume {p : Nat} (c : MemoryCanonical s) : MemoryCanonical (s.evdResume p) := by
  unfold State.evdResume
  split
  · extract_lets t ready te
    have c1 : MemoryCanonical te.2 := c.entryAt
    split
    · exact c
    · clear_value ready
      split
      · exact c.enterBank
      · split
        · exact c
        · split
          next h => exact (c1.regionRead.ok h).enterBank
          next h => exact (c1.regionRead.flt h).setBit.updPair.escalateRun
  · exact c

theorem wake {p b : Nat} {x : Cap} (c : MemoryCanonical s) : MemoryCanonical (s.wake p b x) := by
  unfold State.wake
  exact c.ite (c.updBank.ite c.evdTick.updBank)

theorem faultEnded {fault : Option (Nat × Nat)} (c : MemoryCanonical s) : MemoryCanonical (s.faultEnded fault) := by
  unfold State.faultEnded
  split
  exacts [c, c.evdTick.updBank.ite c]

theorem rete {p b : Nat} (c : MemoryCanonical s) : MemoryCanonical (s.rete p b) := by
  unfold State.rete
  extract_lets k s1 s2 s3 s4 info s5 s6 s7
  have c1 : MemoryCanonical s1 := c.restoreC2.ite c
  have c2 : MemoryCanonical s3 := c1.updBank.updBank.ite c1.updBank
  have c3 : MemoryCanonical s4 := by
    unfold s4
    split
    · exact c2
    · split
      exacts [c2, (c2.updPair.ite c2).dropDeliv.faultEnded]
  have c4 : MemoryCanonical s5 := by
    unfold s5
    split
    · exact c3
    · split
      exacts [c3, c3.countDrop.dropDeliv]
  have c5 : MemoryCanonical s7 := by
    unfold s7
    split
    exacts [c4.updPair, c4.updPair.updBank]
  exact c5.resumeCtx.ite c3.resumeCtx

theorem maskOverstay {p : Nat} (c : MemoryCanonical s) : MemoryCanonical (s.maskOverstay p) := by
  unfold State.maskOverstay
  extract_lets v a b t
  split
  exacts [c, c.ite c.setBit.notify.updPair]

theorem dropFault {p b : Nat} (c : MemoryCanonical s) : MemoryCanonical (s.dropFault p b) := by
  unfold State.dropFault
  extract_lets hit _ s1
  have c1 : MemoryCanonical s1 := by
    unfold s1
    split
    exacts [c, c.same.setFld]
  split
  exacts [c1, c1.dropDeliv.updPair]

theorem faultTimeout {p b : Nat} (c : MemoryCanonical s) : MemoryCanonical (s.faultTimeout p b) := by
  unfold State.faultTimeout
  extract_lets k busy
  split
  · exact c
  · split
    exacts [c, c.dropFault.faultOver]

theorem evdLast {r : Nat} (c : MemoryCanonical s) : MemoryCanonical (s.evdLast r) := c.setFld.setFld

theorem invTask {t : Nat} (c : MemoryCanonical s) : MemoryCanonical (s.invTask t) := by
  unfold State.invTask
  extract_lets r _ _ s1 s2 rec' _ s3
  have c1 : MemoryCanonical s1 := c.readTask.same
  have c2 : MemoryCanonical s2 := c1.setBit.ite c1
  have c3 : MemoryCanonical s3 := c2.same
  exact c3.evdLast

theorem dropTask {t : Nat} (c : MemoryCanonical s) : MemoryCanonical (s.dropTask t) := by
  unfold State.dropTask
  exact (c.foldl fun _ _ c => c.dropDeliv).same

theorem evdEnd {t : Nat} (c : MemoryCanonical s) : MemoryCanonical (s.evdEnd t) := by
  unfold State.evdEnd
  split
  · exact c.evdLast
  · split
    exacts [c.evdLast, c.setBank.updPair.same.dropTask.evdLast.ite (c.evdLast.ite c.evdLast)]

theorem clrCh {ch : Nat} (c : MemoryCanonical s) : MemoryCanonical (s.clrCh ch) := by
  unfold State.clrCh
  exact c.wrerr.evdLast.ite c.wr.evdLast

theorem evdClrCnt (c : MemoryCanonical s) : MemoryCanonical s.evdClrCnt := c.wr.wr.wr.wr.wr.evdLast

theorem initEntry {p : Nat} {restart : Bool} (c : MemoryCanonical s) : MemoryCanonical (s.initEntry p restart) := by
  unfold State.initEntry
  exact c.evdTick.same.updPair.present

theorem switchTable {p : Nat} (c : MemoryCanonical s) : MemoryCanonical (s.switchTable p) := by
  unfold State.switchTable
  split
  exacts [c, c.updPair.setFld.ite c.updPair.setFld]

theorem restartPair {p : Nat} (c : MemoryCanonical s) : MemoryCanonical (s.restartPair p) := by
  unfold State.restartPair
  exact c.updPair.switchTable.initEntry.evdLast

theorem restart {p : Nat} (c : MemoryCanonical s) : MemoryCanonical (s.restart p) := by
  unfold State.restart
  exact c.wrerr.evdLast.ite (c.evdLast.ite (c.restartPair.ite c.updPair.setBit))

theorem initAll {l : List Nat} (c : MemoryCanonical s) : MemoryCanonical (s.initAll l) := by
  induction l generalizing s with
  | nil => exact c
  | cons a l ih => exact ih (c.initEntry.ite c)

theorem lockPoint (c : MemoryCanonical s) : MemoryCanonical s.lockPoint := c.same

theorem evdEnable (c : MemoryCanonical s) : MemoryCanonical s.evdEnable := by
  unfold State.evdEnable
  exact c.ite c.setFld.lockPoint.initAll

theorem softPost {ch : Nat} (c : MemoryCanonical s) : MemoryCanonical (s.softPost ch) := by
  unfold State.softPost
  exact c.evdPost.evdLast.ite c.evdLast

theorem lockupClear {second : Bool} {mask : Nat} (c : MemoryCanonical s) : MemoryCanonical (s.lockupClear second mask) := by
  unfold State.lockupClear
  exact c.foldl fun _ _ c => (c.setBit.ite c.setFld).ite c

theorem redispatch {p : Nat} (c : MemoryCanonical s) : MemoryCanonical (s.redispatch p) := by
  unfold State.redispatch
  split
  · split
    · exact c
    · extract_lets v s0 w s1 gone s2 n _ s3 s4 s5 s6
      have c1 : MemoryCanonical s1 := by
        unfold s1
        split
        · exact c.spillDrain
        · split
          exacts [c.spillDrain, c.spillDrain.countDrop.dropDeliv]
      have c2 : MemoryCanonical s2 := c1.foldl fun _ _ c => c.dropDeliv
      have c3 : MemoryCanonical s3 := (c1.foldl fun _ _ c => c.dropDeliv).same
      have c4 : MemoryCanonical s6 := c3.updPair.setUnj.foldl fun _ _ c => c.bump
      exact c4.restartPair.ite c4
  · exact c

theorem diverge {p : Nat} (c : MemoryCanonical s) : MemoryCanonical (s.diverge p) := by
  unfold State.diverge
  exact c.ite ((c.lockup.ite c).ite c.updPair.notify.haltSettle)

end Sys2Proof.MemoryCanonical
end

section
/-!
PROOFS. The memory stays canonical (O59): the tally units and the arbiters.
-/
namespace Sys2Proof.MemoryCanonical
open Machine Laws
open Sys2Proof (Instr Imm)

variable {s t : State}

theorem tallyRetry {ch : Nat} {op : TallyOp} (c : MemoryCanonical s) : MemoryCanonical (s.tallyRetry ch op) := c.bump.tallyReturn

theorem hiwat {before after : Nat} (c : MemoryCanonical s) : MemoryCanonical (s.hiwat before after) := by
  unfold State.hiwat
  exact c.unitPost.ite c

theorem openEntry {ch : Nat} {t : TallyChan} {op : TallyOp} (c : MemoryCanonical s) : MemoryCanonical (s.openEntry ch t op) :=
  c.tallyTick.setTch.hiwat

theorem decideActive {ch : Nat} {e : CombEntry} {op : TallyOp} (c : MemoryCanonical s) :
    MemoryCanonical (s.decideActive ch e op) := c.decideOne.tallyTick.setTch

theorem tallyAdmit {ch : Nat} {op : TallyOp} (c : MemoryCanonical s) (h : s.tallyAdmit ch op = some t) : MemoryCanonical t := by
  unfold State.tallyAdmit at h
  extract_lets u at h
  split at h
  · split at h
    · cases h; exact c.decideActive
    · split at h
      · cases h; exact c.setTch
      · cases h
  · split at h
    · cases h; exact c.openEntry
    · split at h
      · cases h
      · cases h; exact c.openEntry

theorem tallyArrive {id : Nat} (c : MemoryCanonical s) : MemoryCanonical (s.tallyArrive id) := by
  unfold State.tallyArrive
  split
  · exact c
  · extract_lets _ s1 ch t
    split
    next h1 => exact c.same.tallyAdmit h1
    · exact c.same.setTch.bump.ite c.same.tallyRetry

theorem combLoaded {cell : Nat} (c : MemoryCanonical s) : MemoryCanonical (s.combLoaded cell) := by
  unfold State.combLoaded
  extract_lets ch
  split
  exacts [c, c.combLoad.endTenure.ite c]

theorem combWindow {cell : Nat} (c : MemoryCanonical s) : MemoryCanonical (s.combWindow cell) := by
  unfold State.combWindow
  extract_lets ch
  split
  exacts [c, c.setTch.ite c]

theorem combFlushed {cell : Nat} (c : MemoryCanonical s) : MemoryCanonical (s.combFlushed cell) := by
  unfold State.combFlushed
  extract_lets ch
  split
  exacts [c, c.combWrite.setTch.endTenure.ite c]

theorem leavePark {ch id : Nat} (c : MemoryCanonical s) : MemoryCanonical (s.leavePark ch id) := c.setTch

theorem unpark {id : Nat} (c : MemoryCanonical s) : MemoryCanonical (s.unpark id) := by
  unfold State.unpark
  split
  · exact c
  · split
    · split
      next h2 => exact c.leavePark.tallyAdmit h2
      · exact c
    · exact c

theorem parkTimeout {id : Nat} (c : MemoryCanonical s) : MemoryCanonical (s.parkTimeout id) := by
  unfold State.parkTimeout
  split
  exacts [c, c.leavePark.tallyRetry]

theorem writeSnap {ps : List (Nat × Nat)} {bs : List Byte} (c : MemoryCanonical s) : MemoryCanonical (s.writeSnap ps bs) := by
  induction ps generalizing s bs with
  | nil => exact c
  | cons q ps ih => exact ih c.dramEnter.dataWrite

theorem tallyStatusReturn {id : Nat} (c : MemoryCanonical s) : MemoryCanonical (s.tallyStatusReturn id) := by
  unfold State.tallyStatusReturn
  split
  · exact c
  · extract_lets _ s1 s2
    have c1 : MemoryCanonical s2 := by
      unfold s2
      split
      exacts [c.same, c.same.writeSnap]
    exact c1.setX

theorem tallyAbort {p : Nat} (c : MemoryCanonical s) : MemoryCanonical (s.tallyAbort p) := by
  unfold State.tallyAbort
  exact c.wrerr.setFld.ite (c.setFld.ite c.tallySettle)

theorem tallyClrCh {ch : Nat} (c : MemoryCanonical s) : MemoryCanonical (s.tallyClrCh ch) := c.wr.wr.wr.wr.wr.wr.setFld

theorem tallyClrCnt (c : MemoryCanonical s) : MemoryCanonical s.tallyClrCnt := by
  unfold State.tallyClrCnt
  exact (c.foldl fun _ _ c => c.tallyClrCh).setFld

theorem cellAccess {pa : Nat} (c : MemoryCanonical s) : MemoryCanonical (s.cellAccess pa) := c.cellRoute

theorem receiptClears {t : Nat} (c : MemoryCanonical s) : MemoryCanonical (s.receiptClears t) := by
  unfold State.receiptClears
  exact c.foldl fun _ _ c => c.setUnj

theorem setWait {ch q n : Nat} (c : MemoryCanonical s) : MemoryCanonical (s.setWait ch q n) := c.setFld.setFld

theorem takeSnap {ch : Nat} (c : MemoryCanonical s) : MemoryCanonical (s.takeSnap ch) := by
  unfold State.takeSnap
  split
  exacts [c, c.wr.wr.wr.wr.setArb.setFld.ite c.wr.wr.wr.wr.setArb]

theorem updWaits {ch win : Nat} {l : List Nat} (c : MemoryCanonical s) : MemoryCanonical (s.updWaits ch win l) := by
  induction l generalizing s with
  | nil => exact c
  | cons a l ih => exact ih c.setWait

theorem parkLosers {ch : Nat} {l : List Nat} (c : MemoryCanonical s) : MemoryCanonical (s.parkLosers ch l) := by
  induction l generalizing s with
  | nil => exact c
  | cons a l ih => exact ih (c.setArb.ite c)

theorem grantTo {ch q : Nat} (c : MemoryCanonical s) : MemoryCanonical (s.grantTo ch q) := by
  unfold State.grantTo
  exact (c.ite c.endTenures).setArb

theorem arbDecide {ch cand cyc : Nat} (c : MemoryCanonical s) : MemoryCanonical (s.arbDecide ch cand cyc) := by
  unfold State.arbDecide
  extract_lets s0 a lim live s1 s2 x u1 cs forced total win u2
  have c0 : MemoryCanonical s0 := c.takeSnap
  have c1 : MemoryCanonical s1 := by
    unfold s1
    split
    exacts [c0, c0.setWait]
  have d1 : MemoryCanonical u1 := c0.wr
  have d2 : MemoryCanonical u2 := d1.ite d1.bump
  split
  · exact c1.setArb.parkLosers
  · clear_value win
    split
    · exact d1.setArb
    · exact d2.updWaits.bumpF.setFld.setArb.parkLosers.grantTo

theorem arbCommit {mask : Nat} (c : MemoryCanonical s) : MemoryCanonical (s.arbCommit mask) := by
  unfold State.arbCommit
  exact c.setFld.ite ((c.foldl fun _ _ c => c.setArb.setBit.ite c).setFld)

theorem commitArrive {ch : Nat} (c : MemoryCanonical s) : MemoryCanonical (s.commitArrive ch) := by
  unfold State.commitArrive
  exact c.ite (c.setArb.ite ((c.setArb.setFld.ite c.setArb).setFld.setBit))

theorem holdMonitor {ch : Nat} (c : MemoryCanonical s) : MemoryCanonical (s.holdMonitor ch) := by
  unfold State.holdMonitor
  extract_lets a lim
  split
  exacts [c, c.ite c.setArb.setFld.bumpF.setFld.evtPost]

theorem refreshDue {ch : Nat} (c : MemoryCanonical s) : MemoryCanonical (s.refreshDue ch) := c.setArb

theorem patrol {ch : Nat} {found : Option Bool} (c : MemoryCanonical s) : MemoryCanonical (s.patrol ch found) := by
  unfold State.patrol
  split
  · exact c
  · extract_lets n pa line s1 s2
    have c1 : MemoryCanonical s1 := by
      unfold s1
      split
      exacts [c, c.setLatent]
    have c2 : MemoryCanonical s2 := (c1.touchLine.ite c1.bitmapTouch).endTenure
    exact c2.setFld.ite c2.setFld.bumpF

theorem mchClr {ch : Nat} (c : MemoryCanonical s) : MemoryCanonical (s.mchClr ch) := by
  unfold State.mchClr
  exact c.wr.wr.wr.foldl fun _ _ c => c.wr.setFld

theorem mchClrCnt (c : MemoryCanonical s) : MemoryCanonical s.mchClrCnt := by
  unfold State.mchClrCnt
  exact c.foldl fun _ _ c => c.mchClr

end Sys2Proof.MemoryCanonical
end

section
/-!
PROOFS. The memory stays canonical (O59): the journal.
-/
namespace Sys2Proof.MemoryCanonical
open Machine Laws
open Sys2Proof (Instr Imm)

variable {s t : State}

theorem emit {l : List Emit} (c : MemoryCanonical s) : MemoryCanonical (s.emit l) := c.same

theorem emitMore {e : Emit} (c : MemoryCanonical s) : MemoryCanonical (s.emitMore e) := c.same

theorem updJrn {f : Jrn → Jrn} (c : MemoryCanonical s) : MemoryCanonical (s.updJrn f) := c.same

theorem jrnShow (c : MemoryCanonical s) : MemoryCanonical s.jrnShow := c.setFld.setFld

theorem jrnEvt {code : Nat} (c : MemoryCanonical s) : MemoryCanonical (s.jrnEvt code) := by
  unfold State.jrnEvt
  exact c.evtPost.ite c

theorem jrnOcc (c : MemoryCanonical s) : MemoryCanonical s.jrnOcc := by
  unfold State.jrnOcc
  exact (c.setFld.setFld.setFld.setFld.notify.jrnEvt.ite c.setFld.setFld.setFld.setFld).jrnEvt.ite
    (c.setFld.setFld.setFld.setFld.notify.jrnEvt.ite c.setFld.setFld.setFld.setFld)

theorem answer {p b t g : Nat} {x : Cap} (c : MemoryCanonical s) : MemoryCanonical (s.answer p b t g x) := by
  unfold State.answer
  exact c.wake.ite c

theorem drawFail {r : DrawReq} {status : Nat} {owned : Bool} (c : MemoryCanonical s) :
    MemoryCanonical (s.drawFail r status owned) := by
  unfold State.drawFail
  exact (c.same.ite c).bump.answer

theorem drawShow (c : MemoryCanonical s) : MemoryCanonical s.drawShow := c.setFld.setFld.setFld

theorem drawEnd {status : Nat} (c : MemoryCanonical s) : MemoryCanonical (s.drawEnd status) := by
  unfold State.drawEnd
  split
  exacts [c, c.same.drawFail.drawShow]

theorem jStatusTo {status : Nat} {x : JIssuer} (c : MemoryCanonical s) : MemoryCanonical (s.jStatusTo status x) := by
  unfold State.jStatusTo
  split
  exacts [c.answer, c.drawEnd, c.same, c.emitMore.same, c]

theorem jStatusAll {status : Nat} {l : List JIssuer} (c : MemoryCanonical s) : MemoryCanonical (s.jStatusAll status l) := by
  induction l generalizing s with
  | nil => exact c
  | cons a l ih => exact ih c.jStatusTo

theorem jFail {typ status : Nat} {i : JIssuer} (c : MemoryCanonical s) : MemoryCanonical (s.jFail typ status i) := by
  unfold State.jFail
  extract_lets s1 _ _
  have c1 : MemoryCanonical s1 := c.bump.ite (c.setBit.ite c)
  split
  exacts [(c.bump.ite (c.setBit.ite c)).same, (c.bump.ite (c.setBit.ite c)).same, c1.jStatusTo]

theorem jFailReqs {status : Nat} {l : List JReq} (c : MemoryCanonical s) : MemoryCanonical (s.jFailReqs status l) := by
  induction l generalizing s with
  | nil => exact c
  | cons a l ih => exact ih c.jFail

theorem jReceipt {seq typ : Nat} {x : JIssuer} (c : MemoryCanonical s) : MemoryCanonical (s.jReceipt seq typ x) := by
  unfold State.jReceipt
  split
  · exact (c.ite c.updJrn).ite ((c.wake.ite c.wake.receiptClears).ite c)
  · split
    exacts [c, c.same.ite c]
  · exact c.same
  · exact c.setFld
  · exact (c.foldl fun _ _ c => c.wr.wr.wr.wr).arbCommit
  · exact c.updJrn.setFld.ite c.updJrn
  · exact c.emitMore.same
  · exact c

theorem jReceipts {seq typ : Nat} {l : List JIssuer} (c : MemoryCanonical s) : MemoryCanonical (s.jReceipts seq typ l) := by
  induction l generalizing s with
  | nil => exact c
  | cons a l ih => exact ih c.jReceipt

theorem jrnRequest {r : JReq} (c : MemoryCanonical s) : MemoryCanonical (s.jrnRequest r) := by
  unfold State.jrnRequest
  exact c.updJrn.jrnShow

theorem jrnAhead {r : JReq} (c : MemoryCanonical s) : MemoryCanonical (s.jrnAhead r) := by
  unfold State.jrnAhead
  exact c.updJrn.jrnShow

theorem auditRec {kind port result code a v : Nat} {dig extra : List Byte} {issuer : JIssuer} (c : MemoryCanonical s) :
    MemoryCanonical (s.auditRec kind port result code a v dig extra issuer) := c.jrnRequest

theorem jrnFlush {status : Nat} {keep : JReq → Bool} (c : MemoryCanonical s) : MemoryCanonical (s.jrnFlush status keep) := by
  unfold State.jrnFlush
  exact c.updJrn.jFailReqs.jStatusAll.jrnShow

theorem signStart (c : MemoryCanonical s) : MemoryCanonical s.signStart := by
  unfold State.signStart
  exact c.ite (c.updJrn.jrnShow.ite c)

theorem placeAt {e : JEntry} (c : MemoryCanonical s) : MemoryCanonical (s.placeAt e) := by
  unfold State.placeAt
  exact c.updJrn.setFld

theorem storeEntry {e : JEntry} (c : MemoryCanonical s) : MemoryCanonical (s.storeEntry e) := by
  unfold State.storeEntry
  extract_lets m
  have hm : Memory.wf m = true := by
    unfold m
    split
    exacts [c.wf_jarr, wf_writeBytes _ _ _ c.wf_jarr]
  exact c.putJarr (wf_writeBytes _ _ _ hm)

theorem exhaust (c : MemoryCanonical s) : MemoryCanonical s.exhaust := c.wr.setFld.jrnFlush

theorem sequenced {seq : Nat} {r : JReq} (c : MemoryCanonical s) : MemoryCanonical (s.sequenced seq r) := by
  unfold State.sequenced
  extract_lets m s1 s2 _ _ _
  have c1 : MemoryCanonical s1 := c.updJrn.setFld.ite c
  have c2 : MemoryCanonical s2 := c1.setFld.ite c1
  split
  · exact (c1.setFld.ite c1).same
  · exact (c1.setFld.ite c1).same
  · split
    exacts [c2, (c1.setFld.ite c1).same]
  · exact c2

theorem sequence {r : JReq} {ws : List JIssuer} (c : MemoryCanonical s) : MemoryCanonical (s.sequence r ws) := by
  unfold State.sequence
  exact (c.placeAt.wr.updJrn.bump.sequenced.exhaust.ite c.placeAt.wr.updJrn.bump.sequenced).jrnOcc.signStart.jrnShow

theorem forward {r : JReq} (c : MemoryCanonical s) : MemoryCanonical (s.forward r) := by
  unfold State.forward
  exact c.updJrn.bump.emitMore

theorem jrnSequence (c : MemoryCanonical s) : MemoryCanonical s.jrnSequence := by
  unfold State.jrnSequence
  split
  · exact c
  · extract_lets s1
    split
    exacts [c.updJrn.jrnShow.sequence, c.updJrn.jrnShow.jFail, c.updJrn.jrnShow.forward, c]

theorem fresh (c : MemoryCanonical s) : MemoryCanonical s.fresh.2 := c.same

theorem sealPayload {g : Signing} (c : MemoryCanonical s) : MemoryCanonical (s.sealPayload g).2 := by
  unfold State.sealPayload
  extract_lets m u
  split
  exacts [c, c.fresh]

theorem sealRecord (c : MemoryCanonical s) : MemoryCanonical s.sealRecord := by
  unfold State.sealRecord
  split
  exacts [c, c.ite c.sealPayload.updJrn.sequence.bump.signStart.jrnShow]

theorem jrnSealCmd (c : MemoryCanonical s) : MemoryCanonical s.jrnSealCmd := by
  unfold State.jrnSealCmd
  exact c.setFld.ite c.updJrn.signStart.setFld

theorem sealRequest {i : JIssuer} (c : MemoryCanonical s) : MemoryCanonical (s.sealRequest i) := by
  unfold State.sealRequest
  exact c.updJrn.signStart

theorem jrnClrCnt (c : MemoryCanonical s) : MemoryCanonical s.jrnClrCnt := c.wr.wr.wr.wr.wr.wr.setFld

theorem finalHead {seq : Nat} {h : List Byte} (c : MemoryCanonical s) : MemoryCanonical (s.finalHead seq h) := c.same

theorem enterBuffer {s0 : State} (c : MemoryCanonical s0) : MemoryCanonical (s0.enterBuffer) := by
  unfold State.enterBuffer
  extract_lets s
  split
  exacts [c.updJrn, c.updJrn.updJrn.storeEntry.finalHead]

theorem makeDur {e : JEntry} (c : MemoryCanonical s) : MemoryCanonical (s.makeDur e) := by
  unfold State.makeDur
  exact (c.updJrn.wr.wr.ite c.updJrn.wr).jReceipts

theorem makeDurs {l : List JEntry} (c : MemoryCanonical s) : MemoryCanonical (s.makeDurs l) := by
  induction l generalizing s with
  | nil => exact c
  | cons a l ih => exact ih (c.makeDur.ite c)

theorem jrnDurable (c : MemoryCanonical s) : MemoryCanonical s.jrnDurable := by
  unfold State.jrnDurable
  exact c.enterBuffer.ite c.enterBuffer.makeDurs.signStart

theorem jrnHoldup {ok : Bool} (c : MemoryCanonical s) : MemoryCanonical (s.jrnHoldup ok) := by
  unfold State.jrnHoldup
  exact (c.ite c.makeDurs).ite c.updJrn

theorem dropIssuers (c : MemoryCanonical s) : MemoryCanonical s.dropIssuers := by
  unfold State.dropIssuers
  exact c.updJrn

theorem jrnDupcmp (c : MemoryCanonical s) : MemoryCanonical s.jrnDupcmp := by
  unfold State.jrnDupcmp
  exact c.setFld.setBit.notify.dropIssuers.updJrn.jrnFlush.jStatusAll.jFailReqs

theorem jrnStop (c : MemoryCanonical s) : MemoryCanonical s.jrnStop := by
  unfold State.jrnStop
  extract_lets keep gone head pos s1 s2
  have c2 : MemoryCanonical s2 := c.updJrn.setFld
  refine .jrnShow ?_
  clear_value gone
  split
  exacts [c2, c2.wr]

theorem jrnAlarmed (c : MemoryCanonical s) : MemoryCanonical s.jrnAlarmed := by
  unfold State.jrnAlarmed
  exact c.ite c.setFld.jrnFlush

theorem setRepl {st : Nat} (c : MemoryCanonical s) : MemoryCanonical (s.setRepl st) := by
  unfold State.setRepl
  exact c.ite c.setFld.jrnEvt

theorem findRing {lseq seq : Nat} (c : MemoryCanonical s) : MemoryCanonical (s.findRing lseq seq) := by
  unfold State.findRing
  exact c.setFld.setFld.wr.wr.wr.wr.updJrn

theorem askJoin (c : MemoryCanonical s) : MemoryCanonical s.askJoin := by
  unfold State.askJoin
  exact c.ite (c.emitMore.ite c.setRepl)

theorem epochRecords {payload : List Byte} {seq : Nat} (c : MemoryCanonical s) :
    MemoryCanonical (s.epochRecords payload seq) := by
  unfold State.epochRecords
  extract_lets s1 _
  have c1 : MemoryCanonical s1 := c.exhaust.setBit.ite c.jrnAhead
  split
  exacts [c1, c1.jrnRequest.same]

theorem epochOpen (c : MemoryCanonical s) : MemoryCanonical s.epochOpen := by
  unfold State.epochOpen
  exact c.ite (((c.same.findRing.wr.setBit.ite c.same.findRing.wr).updJrn.epochRecords.setFld.askJoin.ite
    ((c.same.findRing.wr.setBit.ite c.same.findRing.wr).updJrn.epochRecords.setFld)).drawShow)

theorem forgetAppends {p : Nat} (c : MemoryCanonical s) : MemoryCanonical (s.forgetAppends p) := by
  unfold State.forgetAppends
  exact c.updJrn

theorem haltRecord {p : Nat} {cause : HaltCause} (c : MemoryCanonical s) : MemoryCanonical (s.haltRecord p cause) := by
  unfold State.haltRecord
  exact c.ite c.forgetAppends.jrnRequest

theorem jrnLookup {seq : Word} (c : MemoryCanonical s) : MemoryCanonical (s.jrnLookup seq) := c.wr.wr

theorem lookupDone (c : MemoryCanonical s) : MemoryCanonical s.lookupDone := by
  unfold State.lookupDone
  split
  · exact c
  · split <;> exact c.wr

theorem jrnLag (c : MemoryCanonical s) : MemoryCanonical s.jrnLag := c.setFld

theorem modeRecord {new cause downpol : Nat} (c : MemoryCanonical s) : MemoryCanonical (s.modeRecord new cause downpol) :=
  c.jrnRequest

theorem replChange {mode downpol acktoUs cause : Nat} (c : MemoryCanonical s) :
    MemoryCanonical (s.replChange mode downpol acktoUs cause) := by
  unfold State.replChange
  exact c.setFld.setFld.ite c.setFld.setFld.modeRecord

theorem entrySend (c : MemoryCanonical s) : MemoryCanonical s.entrySend := by
  unfold State.entrySend
  split
  · exact c
  · split
    exacts [c, c.updJrn.emitMore.jrnLag]

theorem entryAck {seq : Nat} (c : MemoryCanonical s) : MemoryCanonical (s.entryAck seq) := by
  unfold State.entryAck
  exact c.ite (c.wr.jrnLag.setRepl.ite c.wr.jrnLag)

theorem partnerSilent (c : MemoryCanonical s) : MemoryCanonical s.partnerSilent := by
  unfold State.partnerSilent
  exact c.ite ((c.ite c.modeRecord.setRepl).ite (c.ite c.setRepl))

theorem ackTimeout {s0 : State} (c : MemoryCanonical s0) : MemoryCanonical (s0.ackTimeout) := by
  unfold State.ackTimeout
  exact (c.same.ite c).ite ((c.same.ite c).partnerSilent)

theorem idsFollow {typ : Nat} {body : List Byte} (c : MemoryCanonical s) : MemoryCanonical (s.idsFollow typ body) := by
  unfold State.idsFollow
  exact c.same.drawShow.ite (c.same.drawShow.ite c)

theorem ringFrom {seq : Nat} (c : MemoryCanonical s) : MemoryCanonical (s.ringFrom seq) := by
  unfold State.ringFrom
  exact c.wr.wr.updJrn.ite c

theorem takeEntry {s0 : State} {seq : Nat} {body : List Byte} (c : MemoryCanonical s0) :
    MemoryCanonical (s0.takeEntry seq body) := by
  unfold State.takeEntry
  exact
    ((c.ringFrom.placeAt.storeEntry.wr.wr.updJrn.finalHead.idsFollow.setRepl.ite
      c.ringFrom.placeAt.storeEntry.wr.wr.updJrn.finalHead.idsFollow).exhaust.ite
        (c.ringFrom.placeAt.storeEntry.wr.wr.updJrn.finalHead.idsFollow.setRepl.ite
          c.ringFrom.placeAt.storeEntry.wr.wr.updJrn.finalHead.idsFollow)).jrnOcc.emitMore

theorem takeInbox {l : List (Nat × List Byte)} (c : MemoryCanonical s) : MemoryCanonical (s.takeInbox l) := by
  induction l generalizing s with
  | nil => exact c.updJrn
  | cons a l ih => exact c.updJrn.ite ((ih c.emitMore).ite (c.setRepl.setBit.updJrn.ite (c.updJrn.ite (ih c.takeEntry))))

theorem entryIn {seq : Nat} {body : List Byte} (c : MemoryCanonical s) : MemoryCanonical (s.entryIn seq body) := c.takeInbox

theorem takeRole {cause : Nat} (c : MemoryCanonical s) : MemoryCanonical (s.takeRole cause) := by
  unfold State.takeRole
  exact c.setFld.wr.updJrn.jrnLag.setRepl.jrnShow

theorem joinReq {ident head : Nat} {h : List Byte} (c : MemoryCanonical s) : MemoryCanonical (s.joinReq ident head h) := by
  unfold State.joinReq
  exact c.ite ((c.jrnRequest.ite c.jrnRequest.setBit).wr.updJrn.jrnLag.setRepl.emitMore)

theorem joinResp {code : Nat} (c : MemoryCanonical s) : MemoryCanonical (s.joinResp code) := by
  unfold State.joinResp
  exact c.ite (c.setRepl.ite
    ((c.dropIssuers.updJrn.jStatusAll.wr.wr.wr.setBit.ite c.dropIssuers.updJrn.jStatusAll.wr.wr.wr).setRepl.jrnOcc))

theorem fwdReq {tag : Nat} {body : List Byte} (c : MemoryCanonical s) : MemoryCanonical (s.fwdReq tag body) := by
  unfold State.fwdReq
  split
  · exact c
  · split
    exacts [c.emit, c.ite c.bump.jrnRequest]

theorem dropFwd {tag : Nat} (c : MemoryCanonical s) : MemoryCanonical (s.dropFwd tag) := by
  unfold State.dropFwd
  exact c.updJrn

theorem fwdReceipt {tag seq : Nat} (c : MemoryCanonical s) : MemoryCanonical (s.fwdReceipt tag seq) := by
  unfold State.fwdReceipt
  split
  exacts [c, c.dropFwd.sequenced.jReceipt]

theorem fwdStatus {tag st : Nat} (c : MemoryCanonical s) : MemoryCanonical (s.fwdStatus tag st) := by
  unfold State.fwdStatus
  split
  exacts [c, c.dropFwd.jFail]

theorem drainFrame (c : MemoryCanonical s) : MemoryCanonical s.drainFrame := by
  unfold State.drainFrame
  extract_lets port last es
  split
  · exact c
  · split
    exacts [c.wr.updJrn.emit, c]

theorem archiveAck {b : List Byte} (c : MemoryCanonical s) : MemoryCanonical (s.archiveAck b) := by
  unfold State.archiveAck
  exact (c.wr.setFld.wr.takeInbox.jrnOcc.askJoin.ite c.wr.setFld.wr.takeInbox.jrnOcc).ite c.bump.setBit.evtPost

theorem archiveRetx (c : MemoryCanonical s) : MemoryCanonical s.archiveRetx := by
  unfold State.archiveRetx
  exact c.ite c.wr.bump

end Sys2Proof.MemoryCanonical
end

section
/-!
PROOFS. The memory stays canonical (O59): the draw unit and the Eclipse sweeper.
-/
namespace Sys2Proof.MemoryCanonical
open Machine Laws
open Sys2Proof (Instr Imm)

variable {s t : State}

theorem updDraw {f : Draw → Draw} (c : MemoryCanonical s) : MemoryCanonical (s.updDraw f) := c.same

theorem drwEvt {code : Nat} (c : MemoryCanonical s) : MemoryCanonical (s.drwEvt code) := c.evtPost

theorem drawAsk {r : DrawReq} (c : MemoryCanonical s) : MemoryCanonical (s.drawAsk r) := by
  unfold State.drawAsk
  exact c.updDraw.drawShow

theorem glint {n : Nat} (c : MemoryCanonical s) : MemoryCanonical (s.glint n).2 := c.fresh

theorem reseed (c : MemoryCanonical s) : MemoryCanonical s.reseed := by
  unfold State.reseed
  exact c.glint.bump.wr.updDraw

theorem generate {g : Gen} (c : MemoryCanonical s) : MemoryCanonical (generate s g).1 := by
  unfold Machine.generate
  exact (c.reseed.ite c).wr.updDraw

theorem uniformGo {r m n v : Nat} {g g1 : Gen} (c : MemoryCanonical s) (h : uniformGo r m s g n = some (v, t, g1)) :
    MemoryCanonical t := by
  induction n generalizing s g with
  | zero => cases h
  | succ n ih =>
    unfold Machine.uniformGo at h
    extract_lets x k g2 at h
    have c1 : MemoryCanonical x.1 := by
      unfold x
      split
      exacts [c.generate, c]
    split at h
    · simp only [Option.some.injEq, Prod.mk.injEq] at h
      obtain ⟨-, rfl, -⟩ := h
      exact c1
    · exact ih c1 h

theorem uniform {r v : Nat} {g g1 : Gen} (c : MemoryCanonical s) (h : uniform r s g = some (v, t, g1)) : MemoryCanonical t := by
  unfold Machine.uniform at h
  split at h
  · cases h; exact c
  · exact c.uniformGo h

theorem drawMap {n k : Nat} {wor : Bool} {l vs : List Nat} {g g1 : Gen} (c : MemoryCanonical s)
    (h : drawMap n wor l s g k = some (vs, t, g1)) : MemoryCanonical t := by
  induction k generalizing s l g g1 vs with
  | zero => cases h; exact c
  | succ k ih =>
    unfold Machine.drawMap at h
    extract_lets range at h
    split at h
    · cases h
    next j s1 g2 h1 =>
      extract_lets v at h
      split at h
      · cases h
      next us s2 g3 h2 =>
        simp only [Option.some.injEq, Prod.mk.injEq] at h
        obtain ⟨-, rfl, -⟩ := h
        exact ih (c.uniform h1) h2

theorem idPend {id : Nat} (c : MemoryCanonical s) : MemoryCanonical (s.idPend id) := by
  unfold State.idPend
  exact c.updDraw.drawShow.drwEvt.ite c.updDraw.drawShow

theorem bumpBy {a n : Nat} (c : MemoryCanonical s) : MemoryCanonical (s.bumpBy a n) := c.wr

theorem drawRequest (c : MemoryCanonical s) : MemoryCanonical s.drawRequest := by
  unfold State.drawRequest
  split
  · exact c
  · split
    · exact c
    · extract_lets s1
      have c1 : MemoryCanonical s1 := c.updDraw.drawShow
      split
      · exact c1.drawFail
      · split
        · exact c
        next h => exact (c1.idPend.drawMap h).updDraw.drawShow.bumpBy.jrnRequest

theorem writeParts {ps : List (Nat × Nat)} {bs : List Byte} (c : MemoryCanonical s) : MemoryCanonical (s.writeParts ps bs) := by
  induction ps generalizing s bs with
  | nil => exact c
  | cons q ps ih => exact ih c.dramEnter.dataWrite

theorem drawComplete (c : MemoryCanonical s) : MemoryCanonical s.drawComplete := by
  unfold State.drawComplete
  split
  · exact c
  · split
    exacts [c, c.ite c.writeParts.updDraw.drawShow.bump.answer]

theorem instantiate (c : MemoryCanonical s) : MemoryCanonical s.instantiate := by
  unfold State.instantiate
  exact c.glint.bump.wr.wr.setFld.updDraw

theorem startupTest {pass : Bool} (c : MemoryCanonical s) : MemoryCanonical (s.startupTest pass) := by
  unfold State.startupTest
  exact c.instantiate.ite c.setBit.setFld

theorem glintStartup {pass : Bool} (c : MemoryCanonical s) : MemoryCanonical (s.glintStartup pass) := by
  unfold State.glintStartup
  exact c.startupTest.ite c

theorem drawStop {status : Nat} {all : Bool} (c : MemoryCanonical s) : MemoryCanonical (s.drawStop status all) := by
  unfold State.drawStop
  split
  exacts [c, c.updJrn.jrnShow.drawEnd.ite (c.drawEnd.ite c)]

theorem drawAbort {status : Nat} {all : Bool} (c : MemoryCanonical s) : MemoryCanonical (s.drawAbort status all) := by
  unfold State.drawAbort
  exact (c.updDraw.drawShow.foldl fun _ _ c => c.drawFail).drawStop

theorem healthFail {apt : Bool} (c : MemoryCanonical s) : MemoryCanonical (s.healthFail apt) := by
  unfold State.healthFail
  exact c.setBit.drwEvt.ite c.setBit.setFld.drwEvt.drawAbort

theorem drawDupcmp (c : MemoryCanonical s) : MemoryCanonical s.drawDupcmp := c.setBit.setFld.notify.drwEvt.drawAbort

theorem drwClrCnt (c : MemoryCanonical s) : MemoryCanonical s.drwClrCnt := c.wr.wr.wr.wr.setFld

theorem eclLast {r : Nat} (c : MemoryCanonical s) : MemoryCanonical (s.eclLast r) := c.setFld

theorem updSweep {f : Sweeper → Sweeper} (c : MemoryCanonical s) : MemoryCanonical (s.updSweep f) := c.same

theorem latchRoot {n : Nat} (c : MemoryCanonical s) : MemoryCanonical (s.latchRoot n).2 := by
  unfold State.latchRoot
  extract_lets a b
  split
  · exact c
  · split
    · exact c.setBit
    · split
      exacts [c.setBit, c]

theorem latchRoots {l : List Nat} (c : MemoryCanonical s) : MemoryCanonical (s.latchRoots l).2 := by
  induction l generalizing s with
  | nil => exact c
  | cons a l ih => exact ih c.latchRoot

theorem eclBegin (c : MemoryCanonical s) : MemoryCanonical s.eclBegin := by
  unfold State.eclBegin
  exact c.latchRoots.wr.setFld.setFld.updSweep

theorem eclStart (c : MemoryCanonical s) : MemoryCanonical s.eclStart := by
  unfold State.eclStart
  exact c.eclBegin.eclLast.ite c.eclLast

theorem eclAuto (c : MemoryCanonical s) : MemoryCanonical s.eclAuto := by
  unfold State.eclAuto
  exact c.eclBegin.ite c

theorem eclAbortWith (c : MemoryCanonical s) : MemoryCanonical s.eclAbortWith := by
  unfold State.eclAbortWith
  exact c.setFld.setFld.updSweep.same.evtPost

theorem eclAbort (c : MemoryCanonical s) : MemoryCanonical s.eclAbort := by
  unfold State.eclAbort
  exact c.eclLast.ite c.eclAbortWith.eclLast

theorem eclClrCnt (c : MemoryCanonical s) : MemoryCanonical s.eclClrCnt := c.wr.wr.wr.wr.wr.eclLast

theorem sweepBanks {p : Nat} {l : List Nat} (c : MemoryCanonical s) : MemoryCanonical (sweepBanks p s l) := by
  induction l generalizing s with
  | nil => exact c
  | cons a l ih => exact ih c.sweepBank.setBank

theorem sweepPair {p : Nat} (c : MemoryCanonical s) : MemoryCanonical (s.sweepPair p) := by
  unfold State.sweepPair
  exact c.sweepBanks.sweepCap.sweepCap.updPair

theorem eclPass {p : Nat} (c : MemoryCanonical s) : MemoryCanonical (s.eclPass p) := by
  unfold State.eclPass
  exact c.sweepPair.ite c

theorem setPasses (c : MemoryCanonical s) : MemoryCanonical s.setPasses := by
  unfold State.setPasses
  exact c.foldl fun _ _ c => c.ite c.updPair

theorem walkEntry {ttbc level pe : Nat} {sub : State → Nat → RootWalk × State} (c : MemoryCanonical s)
    (hsub : ∀ s table, MemoryCanonical s → MemoryCanonical (sub s table).2) : MemoryCanonical
    (walkEntry s ttbc level pe sub).2 := by
  unfold Machine.walkEntry
  extract_lets s1 e
  have c1 : MemoryCanonical s1 := c.dramEnter
  split
  · exact c
  · split
    · exact c
    · split
      · exact c1
      · split
        · exact c1
        · split
          · exact c1
          · split
            · exact hsub _ _ c1
            · split
              exacts [c1, c1]

theorem walkTable {ttbc fuel level table : Nat} (c : MemoryCanonical s) :
    MemoryCanonical (walkTable ttbc fuel level s table).2 := by
  induction fuel generalizing s level table with
  | zero => exact c
  | succ fuel ih =>
    unfold Machine.walkTable
    exact List.foldlRecOn (motive := fun r : RootWalk × State => MemoryCanonical r.2) _ _ c
      fun _ c _ _ => c.walkEntry fun _ _ c => ih c

theorem rootWalk {r : Nat × Nat × Nat} (c : MemoryCanonical s) : MemoryCanonical (s.rootWalk r).2 := by
  unfold State.rootWalk
  split
  exacts [c, c.walkTable]

theorem buildRoots {acc : List ScanRange} {l : List (Nat × Nat × Nat)} (c : MemoryCanonical s) :
    MemoryCanonical (s.buildRoots acc l).1 := by
  induction l generalizing s acc with
  | nil => exact c
  | cons a l ih =>
    unfold State.buildRoots
    split
    next h => exact ih ((c.rootWalk.snd h).bumpBy)
    next h => exact (c.rootWalk.snd h).setFld.setBit
    next h => exact (c.rootWalk.snd h).setFld.setBit

theorem tsbRanges {t : Nat} (c : MemoryCanonical s) : MemoryCanonical (s.tsbRanges t).2 := by
  unfold State.tsbRanges
  extract_lets e
  split
  · exact c.task
  extract_lets parts go
  have c1 : MemoryCanonical go.2 := by
    refine List.foldlRecOn (motive := fun r : Option (List (Nat × Nat)) × State => MemoryCanonical r.2) _ _ c.task
      fun r c1 q _ => ?_
    split
    · exact c1
    · split
      next h => exact c1.dispPa.ok h
      next h => exact c1.dispPa.flt h
  split
  · exact c1
  · split
    next h => exact c1.dispPa.flt h
    next h =>
      extract_lets s2 ttbc
      have c2 : MemoryCanonical s2 := (c1.dispPa.ok h).dramEnter
      split
      exacts [c2, c2]

theorem tsbAll {acc : List ScanRange} {l : List Nat} (c : MemoryCanonical s) : MemoryCanonical (s.tsbAll acc l).1 := by
  induction l generalizing s acc with
  | nil => exact c
  | cons a l ih =>
    unfold State.tsbAll
    split
    next h => exact (c.tsbRanges.snd h).setBit
    next h => exact ih (c.tsbRanges.snd h)

theorem beginPhase {r : State × Option (List ScanRange)} {phase : Nat} (c : MemoryCanonical r.1) :
    MemoryCanonical (State.beginPhase r phase) := by
  unfold State.beginPhase
  split
  exacts [c.eclAbortWith, c.updSweep.setFld]

theorem eclAdvance (c : MemoryCanonical s) : MemoryCanonical s.eclAdvance := by
  unfold State.eclAdvance
  extract_lets ph r
  have c1 : MemoryCanonical r.1 := c.buildRoots
  split
  · exact c.setPasses.setFld
  · split
    · exact beginPhase c1
    · exact c.tsbAll.beginPhase.ite (c.setPasses.setFld.ite c)

theorem scanRevoked {xl : ScanXl} {x : Cap} (c : MemoryCanonical s) : MemoryCanonical (s.scanRevoked xl x).2 := by
  unfold State.scanRevoked
  split
  · split
    exacts [c.bitmapRead, c]
  · exact c.dispRevoked
  · exact c.revoked

theorem scanGranule {r : ScanRange} (c : MemoryCanonical s) : MemoryCanonical (s.scanGranule r) := by
  unfold State.scanGranule
  extract_lets g sp pa s0 s1 s2 s3 x
  have c1 : MemoryCanonical s0 := c.dramEnter.ite c
  have c2 : MemoryCanonical s2 := c1.bump.bump.ite c1.bump
  have c3 : MemoryCanonical s3 := c2.setBit.ite c2
  split
  · split
    next h1 => exact (c3.scanRevoked.snd h1).setTag.loseResv.swClr
    next h1 => exact c3.scanRevoked.snd h1
  · exact c3

theorem sweepTenure {r : ScanRange} {more : Bool} (c : MemoryCanonical s) : MemoryCanonical (s.sweepTenure r more) := by
  unfold State.sweepTenure
  exact c.endTenures.ite (c.ite (c.endTenure.ite c.setArb))

theorem sweepGranule (c : MemoryCanonical s) : MemoryCanonical s.sweepGranule := by
  unfold State.sweepGranule
  split
  · exact c
  · split
    exacts [c, c.updSweep.ite c.scanGranule.updSweep.sweepTenure]

theorem eclComplete (c : MemoryCanonical s) : MemoryCanonical s.eclComplete := by
  unfold State.eclComplete
  exact c.ite c.wr.wr.setFld.updSweep.jrnRequest.evtPost

theorem eclRetired (c : MemoryCanonical s) : MemoryCanonical s.eclRetired := by
  unfold State.eclRetired
  exact c.updSweep

end Sys2Proof.MemoryCanonical
end

section
/-!
PROOFS. The memory stays canonical (O59): resets, power and the register file.
-/
namespace Sys2Proof.MemoryCanonical
open Machine Laws
open Sys2Proof (Instr Imm)

variable {s t : State}

theorem polBounds {b : List Byte} {l : List Nat} (c : MemoryCanonical s) : MemoryCanonical (polBounds b s l) := by
  induction l generalizing s with
  | nil => exact c
  | cons a l ih => exact ih c.wr

theorem applyPolicy {b : List Byte} (c : MemoryCanonical s) : MemoryCanonical (s.applyPolicy b) := by
  unfold State.applyPolicy
  exact c.setFld.setFld.polBounds.setFld.setFld.setFld.setFld.setFld.setFld.setFld.setFld.setFld.setFld.setFld.setFld.same

theorem bootPolicy (c : MemoryCanonical s) : MemoryCanonical s.bootPolicy := by
  unfold State.bootPolicy
  exact c.ite c.applyPolicy.setFld.setFld.updJrn

theorem keepReg {old s : State} {a : Nat} (c : MemoryCanonical s) : MemoryCanonical (keepReg old s a) := c.wr

theorem moduleReset {cause : Nat} (c : MemoryCanonical s) : MemoryCanonical (s.moduleReset cause) := by
  unfold State.moduleReset
  extract_lets o _ keys _ jrn _ _ _ s1 s2 s3 s4 s5
  have co : MemoryCanonical o := c.jrnStop
  have c1 : MemoryCanonical s1 := ((reset.putJarr co.wf_jarr).putBoot co.wf_boot).same
  have c2 : MemoryCanonical s2 := c1.foldl fun _ _ c => keepReg c
  have c4 : MemoryCanonical s4 := c2.setFld.setFld.setFld.setFld.setFld
  have c5 : MemoryCanonical s5 := c4.setFld.ite c4
  exact c5.setFld.bootPolicy

theorem pwrLast {r : Nat} (c : MemoryCanonical s) : MemoryCanonical (s.pwrLast r) := c.setFld

theorem updPwr {f : Pwr → Pwr} (c : MemoryCanonical s) : MemoryCanonical (s.updPwr f) := c.same

theorem pwrNotice {code detail : Nat} (c : MemoryCanonical s) : MemoryCanonical (s.pwrNotice code detail) := c.notify.evtPost

theorem stopPairs {l : List Nat} (c : MemoryCanonical s) : MemoryCanonical (s.stopPairs l) := by
  induction l generalizing s with
  | nil => exact c
  | cons a l ih => exact ih c.updPair

theorem setVin {mv : Nat} (c : MemoryCanonical s) : MemoryCanonical (s.setVin mv) := c.setFld.setFld

theorem cover (c : MemoryCanonical s) : MemoryCanonical s.cover := by
  unfold State.cover
  exact c.setFld.setFld.setFld.setFld.ite c.setFld.setFld.setFld.setFld.pwrNotice

theorem outsideEnv {env : Bool} (c : MemoryCanonical s) : MemoryCanonical (s.outsideEnv env) := c.setFld.cover

theorem fastLimit {s0 : State} {ma : Nat} (c : MemoryCanonical s0) : MemoryCanonical (s0.fastLimit ma) := by
  unfold State.fastLimit
  exact c.updPwr.setFld.setBit.setBit.pwrNotice

theorem unforce (c : MemoryCanonical s) : MemoryCanonical s.unforce := by
  unfold State.unforce
  exact c.pwrLast.ite c.setFld.pwrLast

theorem holdup {mj : Nat} (c : MemoryCanonical s) : MemoryCanonical (s.holdup mj) := by
  unfold State.holdup
  exact c.setFld.setFld.jrnHoldup.ite c.setFld.setFld.jrnHoldup.setBit.pwrNotice

theorem pwrClrCnt (c : MemoryCanonical s) : MemoryCanonical s.pwrClrCnt := c.wr.wr.wr.pwrLast

theorem drainStart {trig : Nat} (c : MemoryCanonical s) : MemoryCanonical (s.drainStart trig) := by
  unfold State.drainStart
  exact c.pwrLast.ite ((c.setFld.updPwr.setFld.ite c.setFld.updPwr).drawAbort.pwrNotice.pwrLast)

theorem askDetach (c : MemoryCanonical s) : MemoryCanonical s.askDetach := by
  unfold State.askDetach
  exact c.updPwr.jrnRequest

theorem drainLimit (c : MemoryCanonical s) : MemoryCanonical s.drainLimit := by
  unfold State.drainLimit
  exact c.ite c.stopPairs.updPwr.askDetach

theorem tallyFlushCh {ch : Nat} (c : MemoryCanonical s) : MemoryCanonical (s.tallyFlushCh ch) := by
  unfold State.tallyFlushCh
  extract_lets ps s1 _ u2 _ s2 s3
  have c1 : MemoryCanonical s1 := c.foldl fun _ _ c => c.cellRoute
  have cu : MemoryCanonical u2 := c1.setTch
  have c2 : MemoryCanonical s2 := cu.same
  have c3 : MemoryCanonical s3 := c2.foldl fun s o c => by
    split
    next h => exact (c.tallyAdmit h).cellRoute
    · exact c.tallyRetry
  exact c3.setArb

theorem readyToRemove (c : MemoryCanonical s) : MemoryCanonical s.readyToRemove := by
  unfold State.readyToRemove
  exact (c.ite c.askDetach).ite (c.ite
    ((c.foldl fun _ _ c => c.tallyFlushCh).stopPairs.setFld.setFld.setFld.setFld.same.ite
      ((c.foldl fun _ _ c => c.tallyFlushCh).stopPairs.setFld.setFld.setFld.setFld.same.pwrNotice)))

theorem eject {isOpen : Bool} (c : MemoryCanonical s) : MemoryCanonical (s.eject isOpen) := by
  unfold State.eject
  exact c.setFld.ite (c.setFld.updPwr.ite c.setFld.drainStart)

theorem takeEject (c : MemoryCanonical s) : MemoryCanonical s.takeEject := by
  unfold State.takeEject
  exact (c.updPwr.drainStart.ite c.updPwr).ite c

/-- DRAM that reads 0 everywhere is in its canonical form. -/
theorem emptyDram (c : MemoryCanonical s) :
    MemoryCanonical { s with mem := [], tags := [], poison := [], latent := [], bitmap := [] } := by
  obtain ⟨-, c2, c3, c4, -, c6, -, -, -⟩ := c
  exact ⟨rfl, c2, c3, c4, rfl, c6, rfl, rfl, rfl⟩

theorem loseDram (c : MemoryCanonical s) : MemoryCanonical s.loseDram := c.emptyDram.same

theorem lossStops {trig : Nat} (c : MemoryCanonical s) : MemoryCanonical (s.lossStops trig) := by
  unfold State.lossStops
  exact c.jrnStop.stopPairs.loseDram.setFld.setFld.setFld.same

theorem powerLoss {trig : Nat} (c : MemoryCanonical s) : MemoryCanonical (s.powerLoss trig) := by
  unfold State.powerLoss
  exact c.ite ((c.ite c.lossStops).setFld.setFld.updPwr)

theorem shutdownRecord (c : MemoryCanonical s) : MemoryCanonical s.shutdownRecord := by
  unfold State.shutdownRecord
  exact c.ite c.same.stopPairs

theorem presRelease (c : MemoryCanonical s) : MemoryCanonical s.presRelease := by
  unfold State.presRelease
  exact c.powerLoss.setFld.updPwr

theorem ramp (c : MemoryCanonical s) : MemoryCanonical s.ramp := by
  unfold State.ramp
  exact c.updPwr.setFld

theorem insertion (c : MemoryCanonical s) : MemoryCanonical s.insertion := by
  unfold State.insertion
  exact c.setFld.ite c.setFld.ramp

theorem rampFail (c : MemoryCanonical s) : MemoryCanonical s.rampFail := by
  unfold State.rampFail
  exact c.ite c.updPwr

theorem rampRetry (c : MemoryCanonical s) : MemoryCanonical s.rampRetry := by
  unfold State.rampRetry
  exact c.ite c.ramp

theorem autoRestart (c : MemoryCanonical s) : MemoryCanonical s.autoRestart := by
  unfold State.autoRestart
  exact c.ite c.ramp

theorem powerGood (c : MemoryCanonical s) : MemoryCanonical s.powerGood := by
  unfold State.powerGood
  exact c.ite c.moduleReset.updPwr

theorem ftoPair {p va : Nat} {store : Bool} (c : MemoryCanonical s) : MemoryCanonical (s.ftoPair p va store) := by
  unfold State.ftoPair
  split
  exacts [c, c.lockup.ite c.takeFault]

theorem fabricTimeout {unit pa va : Nat} {store crc : Bool} (c : MemoryCanonical s) :
    MemoryCanonical (s.fabricTimeout unit pa va store crc) := by
  unfold State.fabricTimeout
  exact (c.bump.ite c).wr.bump.setBit.notify.ftoPair.ite ((c.bump.ite c).wr.bump.setBit.notify)

theorem regStore {w : Machine.Writer} {a v : Nat} (c : MemoryCanonical s) : MemoryCanonical (s.regStore w a v).1 := by
  unfold State.regStore
  split
  exacts [c.wrerr, ((c.auditRec.ite c).ite ((c.auditRec.ite c).wr)).wrerr.ite ((c.auditRec.ite c).ite ((c.auditRec.ite c).wr))]

theorem plainWrite {w : Machine.Writer} {a v : Nat} (c : MemoryCanonical s) : MemoryCanonical (s.plainWrite w a v) := c.regStore

end Sys2Proof.MemoryCanonical
end

section
/-!
PROOFS. The memory stays canonical (O59): the network, the host and the wardlink.
-/
namespace Sys2Proof.MemoryCanonical
open Machine Laws
open Sys2Proof (Instr Imm)

variable {s t : State}

theorem dmaViol {cls : Nat} {k : RKind} {v : Nat × Nat} (c : MemoryCanonical s) : MemoryCanonical (s.dmaViol cls k v) :=
  c.setBit.wr.wr.bump

theorem dmaWrite {pa : Nat} {bs : List Byte} (c : MemoryCanonical s) : MemoryCanonical (s.dmaWrite pa bs) := c.dramEnter.dataWrite

theorem descRead {cls err dpa : Nat} (c : MemoryCanonical s) : MemoryCanonical (s.descRead cls err dpa).2 := by
  unfold State.descRead
  split
  exacts [c.dmaViol.setBit, c.dramEnter.ite c]

theorem descStatus {cls err dpa status : Nat} (c : MemoryCanonical s) : MemoryCanonical (s.descStatus cls err dpa status) := by
  unfold State.descStatus
  split
  exacts [c.dmaViol.setBit, c.dmaWrite.ite c]

theorem rebuildFree {q : Nat} (c : MemoryCanonical s) : MemoryCanonical (s.rebuildFree q) := c.same

theorem rxqWrite {q a v : Nat} (c : MemoryCanonical s) : MemoryCanonical (s.rxqWrite q a v) := by
  unfold State.rxqWrite
  exact (c.wr.ite c.wrerr).ite (c.plainWrite.rebuildFree.ite c.plainWrite)

theorem rxDeliver {cls q : Nat} {bytes : List Byte} {stamp : Cap} {extra : Nat} (c : MemoryCanonical s) :
    MemoryCanonical (s.rxDeliver cls q bytes stamp extra).1 := by
  unfold State.rxDeliver
  extract_lets own x30
  split
  · exact c
  · split
    · exact c
    · split
      · exact c
      · split
        · exact c.dmaViol
        · extract_lets s1 s2 u2 u3
          have c2 : MemoryCanonical s2 := c.dmaWrite.same
          have d2 : MemoryCanonical u2 := c.dmaWrite.same
          have d3 : MemoryCanonical u3 := d2.evdPost
          split
          · exact c2.archiveAck
          · split
            exacts [d3, d3.same]

theorem portCount {port k : Nat} (c : MemoryCanonical s) : MemoryCanonical (s.portCount port k) := c.bump

theorem frameIn {port : Nat} {bytes : List Byte} {fcsOk : Bool} (c : MemoryCanonical s) :
    MemoryCanonical (s.frameIn port bytes fcsOk) := by
  unfold State.frameIn
  exact c.ite (c.portCount.ite (c.portCount.ite (c.rxDeliver.portCount.endTenures.setBit.ite c.rxDeliver.portCount.endTenures)))

theorem portDown {port : Nat} (c : MemoryCanonical s) : MemoryCanonical (s.portDown port) := by
  unfold State.portDown
  exact c.ite c.setFld.evtPost

theorem portUp {port : Nat} (c : MemoryCanonical s) : MemoryCanonical (s.portUp port) := by
  unfold State.portUp
  exact c.ite c.setFld

theorem txTake {t : Nat} (c : MemoryCanonical s) : MemoryCanonical (s.txTake t) := c.same

theorem txDone {t dpa status : Nat} (c : MemoryCanonical s) : MemoryCanonical (s.txDone t dpa status) := by
  unfold State.txDone
  exact c.descStatus.unitPost.ite c.descStatus

theorem setTxFrames {port : Nat} {l : List TxFrame} (c : MemoryCanonical s) : MemoryCanonical (s.setTxFrames port l) := c.same

theorem txLoad {n : Nat} (c : MemoryCanonical s) (h : s.txLoad n = some t) : MemoryCanonical t := by
  unfold State.txLoad at h
  split at h
  · cases h
  next dpa _ =>
    extract_lets r at h
    have c1 : MemoryCanonical r.2 := c.descRead
    split at h
    · cases h; exact c1.txTake.txDone
    · extract_lets pa len s1 at h
      have c2 : MemoryCanonical s1 := c1.dramEnter.ite c1
      split at h
      · cases h; exact c1.txTake.txDone
      · split at h
        · cases h
        · split at h
          · cases h; exact c1.dmaViol.setBit.txTake.txDone
          · split at h
            · cases h; exact c2.txTake.txDone
            · cases h; exact c2.txTake.setTxFrames

theorem txServe {port : Nat} {ts : List Nat} (c : MemoryCanonical s) (h : s.txServe port ts = some t) : MemoryCanonical t := by
  induction ts with
  | nil => cases h
  | cons n ts ih =>
    unfold State.txServe at h
    split at h
    · exact ih h
    next s1 h1 =>
      have c1 := c.txLoad h1
      cases h
      exact c1.ite c1.same

theorem txFill {port n : Nat} (c : MemoryCanonical s) : MemoryCanonical (s.txFill port n) := by
  induction n generalizing s with
  | zero => exact c
  | succ n ih =>
    unfold State.txFill
    split
    · exact c
    next h => exact ih (c.txServe h)

theorem txSent {t : Nat} (c : MemoryCanonical s) : MemoryCanonical (s.txSent t) := by
  unfold State.txSent
  extract_lets port s1
  split
  exacts [c.txFill.endTenures, c.txFill.endTenures.setTxFrames.txDone.ite c.txFill.endTenures.setTxFrames.emitMore.txDone]

theorem timeFrom {port domain ident : Nat} {f : Nat → State → State} (c : MemoryCanonical s)
    (hf : ∀ a0 s, MemoryCanonical s → MemoryCanonical (f a0 s)) : MemoryCanonical (s.timeFrom port domain ident f) := by
  unfold State.timeFrom
  split
  · exact c
  · split
    exacts [c.setBit, hf _ _ c]

theorem servo {gm : Nat} {off : Int} (c : MemoryCanonical s) : MemoryCanonical (s.servo gm off) := by
  unfold State.servo
  extract_lets first step _ s1 rest slew s2 _ s3
  have c0 : MemoryCanonical (s.setBit Addr.TIME_STATUS 3) := c.setBit
  have c1 : MemoryCanonical s1 := by
    unfold s1
    exact c0.same.ite c
  have c2 : MemoryCanonical s2 := c1.setFld.setFld
  have c3 : MemoryCanonical s3 := c2.same
  exact c3.setFld.setFld

theorem syncWith {gm origin arrival : Nat} (c : MemoryCanonical s) : MemoryCanonical (s.syncWith gm origin arrival) :=
  c.same.servo

theorem timeSync {port domain ident origin : Nat} {twoStep : Bool} (c : MemoryCanonical s) :
    MemoryCanonical (s.timeSync port domain ident origin twoStep) := by
  unfold State.timeSync
  exact c.timeFrom (fun _ _ c => c.same.ite c.syncWith)

theorem followUp {port domain ident origin : Nat} (c : MemoryCanonical s) :
    MemoryCanonical (s.followUp port domain ident origin) := by
  unfold State.followUp
  refine c.timeFrom fun g s c => ?_
  split
  exacts [c, c.syncWith]

theorem delayResp {port domain ident sent recv : Nat} (c : MemoryCanonical s) :
    MemoryCanonical (s.delayResp port domain ident sent recv) := by
  unfold State.delayResp
  refine c.timeFrom fun g s c => ?_
  split
  exacts [c, c.same]

theorem holdover (c : MemoryCanonical s) : MemoryCanonical s.holdover := by
  unfold State.holdover
  exact c.ite c.setFld.setBit.setFld

theorem timeUncertain (c : MemoryCanonical s) : MemoryCanonical s.timeUncertain := by
  unfold State.timeUncertain
  exact c.setFld.ite c

theorem setHb {off v : Nat} (c : MemoryCanonical s) : MemoryCanonical (s.setHb off v) := c.same

theorem vector {v : Nat} (c : MemoryCanonical s) : MemoryCanonical (s.vector v) := by
  unfold State.vector
  exact c.setHb.ite c.emitMore

theorem msixWrite {off v : Nat} (c : MemoryCanonical s) : MemoryCanonical (s.msixWrite off v) := by
  unfold State.msixWrite
  exact c.setHb.ite (c.setHb.setHb.emitMore.ite c.setHb)

theorem hbNotice {old s : State} (c : MemoryCanonical s) : MemoryCanonical (old.hbNotice s) := by
  unfold State.hbNotice
  exact c.ite c.vector

theorem hbWrerr (c : MemoryCanonical s) : MemoryCanonical s.hbWrerr := c.setHb

theorem hbCfg {off w maskBits : Nat} {opened : State → State} (c : MemoryCanonical s)
    (hopened : ∀ s, MemoryCanonical s → MemoryCanonical (opened s)) : MemoryCanonical (s.hbCfg off w maskBits opened) := by
  unfold State.hbCfg
  exact (c.ite c.hbWrerr).setHb.hbWrerr.ite ((hopened _ ((c.ite c.hbWrerr).setHb)).ite ((c.ite c.hbWrerr).setHb))

theorem sqOpened {h : Nat} (c : MemoryCanonical s) : MemoryCanonical (s.sqOpened h) := by
  unfold State.sqOpened
  exact c.setHb.same

theorem drOpened {r : Nat} (c : MemoryCanonical s) : MemoryCanonical (s.drOpened r) := by
  unfold State.drOpened
  exact c.setHb.same

theorem hbBase {off v al : Nat} (c : MemoryCanonical s) : MemoryCanonical (s.hbBase off v al) := by
  unfold State.hbBase
  exact c.setHb.ite c.setHb.hbWrerr

theorem setBells {h : Nat} {l : List Doorbell} (c : MemoryCanonical s) : MemoryCanonical (s.setBells h l) := c.same

theorem complete {h tag status stampTime : Nat} (c : MemoryCanonical s) : MemoryCanonical (s.complete h tag status stampTime) :=
  c.same.emitMore

theorem submit {h : Nat} {b : Doorbell} {entry : List Byte} {msg : Option (List Byte)} (c : MemoryCanonical s) :
    MemoryCanonical (s.submit h b entry msg) := by
  unfold State.submit
  extract_lets q len s0 tag finish
  split
  · exact c.setHb.setBit.complete
  · split
    · exact c.setHb.complete
    · split
      exacts [c.setHb.complete.ite (c.setHb.complete.ite (c.setHb.complete.ite c.setHb.setBit.complete)),
        (c.setHb.rxDeliver.setBit.ite c.setHb.rxDeliver).complete]

theorem serveBells {h : Nat} {l : List (List Byte × Option (List Byte))} (c : MemoryCanonical s) :
    MemoryCanonical (s.serveBells h l) := by
  induction l generalizing s with
  | nil =>
    unfold State.serveBells
    split
    exacts [c.setBells.vector.ite c, c]
  | cons a l ih =>
    unfold State.serveBells
    split
    exacts [c, c.ite (ih (c.submit.setBells.vector.ite c.submit))]

theorem doorbell {h v : Nat} {msgs : List (List Byte × Option (List Byte))} (c : MemoryCanonical s) :
    MemoryCanonical (s.doorbell h v msgs) := by
  unfold State.doorbell
  exact c.ite (c.hbWrerr.ite (c.bump.ite (c.ite c.setBells.serveBells.endTenures)))

theorem cqHead {h v : Nat} {msgs : List (List Byte × Option (List Byte))} (c : MemoryCanonical s) :
    MemoryCanonical (s.cqHead h v msgs) := by
  unfold State.cqHead
  exact c.ite (c.hbWrerr.ite c.same.serveBells)

theorem drHead {r v : Nat} (c : MemoryCanonical s) : MemoryCanonical (s.drHead r v) := by
  unfold State.drHead
  exact c.ite (c.hbWrerr.ite c.same)

theorem bar0Write {off v : Nat} (c : MemoryCanonical s) : MemoryCanonical (s.bar0Write off v) := by
  unfold State.bar0Write
  split
  · exact c
  · split
    exacts [c.hbBase, c.hbCfg (fun _ c => c.sqOpened), c.doorbell, c.hbBase, c.cqHead, c.hbBase, c.hbCfg (fun _ c => c.drOpened),
      c.drHead, c.setHb.ite (c.msixWrite.ite c.bump)]

theorem sendDone {q dpa status : Nat} (c : MemoryCanonical s) : MemoryCanonical (s.sendDone q dpa status) := by
  unfold State.sendDone
  exact c.same.descStatus.endTenures.unitPost.ite c.same.descStatus.endTenures

theorem slotWrite {q r : Nat} {msg : List Byte} {vector : Bool} (c : MemoryCanonical s) :
    MemoryCanonical (s.slotWrite q r msg vector) := by
  unfold State.slotWrite
  exact c.same.setHb.emit.vector.ite c.same.setHb.emit

theorem hostDelivery {q : Nat} (c : MemoryCanonical s) : MemoryCanonical (s.hostDelivery q) := by
  unfold State.hostDelivery
  split
  · exact c
  · split
    · exact c.sendDone
    · split
      · exact c
      · extract_lets x
        split
        · exact c.descRead.sendDone
        · extract_lets pa n r s1
          have c1 : MemoryCanonical s1 := c.descRead.dramEnter.ite c.descRead
          split
          · exact c.descRead.sendDone
          · split
            · exact c.descRead
            · split
              exacts [c.descRead.dmaViol.setBit.sendDone, c1.sendDone.ite c1.slotWrite.sendDone]

theorem deliveryStall {q : Nat} (c : MemoryCanonical s) : MemoryCanonical (s.deliveryStall q) := by
  unfold State.deliveryStall
  split
  · exact c
  · split
    · exact c
    · split
      next h2 => exact c.descRead.snd h2
      next h2 => exact (c.descRead.snd h2).ite ((c.descRead.snd h2).sendDone.evtPost)

theorem sqWrite {w : Machine.Writer} {q a v : Nat} (c : MemoryCanonical s) : MemoryCanonical (s.sqWrite w q a v) := by
  unfold State.sqWrite
  exact (c.ite c.wrerr).ite (c.plainWrite.wrerr.ite c.plainWrite)

theorem sendFlush {q n : Nat} (c : MemoryCanonical s) : MemoryCanonical (s.sendFlush q n) := by
  induction n generalizing s with
  | zero => exact c
  | succ n ih =>
    unfold State.sendFlush
    split
    exacts [c, ih c.sendDone]

theorem bellsDrop {h : Nat} (c : MemoryCanonical s) : MemoryCanonical (s.bellsDrop h) := by
  unfold State.bellsDrop
  split
  exacts [c, c.setHb.setBells]

theorem pcieDown (c : MemoryCanonical s) : MemoryCanonical s.pcieDown := by
  unfold State.pcieDown
  exact c.ite (((c.wr.setBit.foldl fun _ _ c => c.sendFlush).foldl fun _ _ c => c.bellsDrop).evtPost)

theorem pcieUp {width speed : Nat} (c : MemoryCanonical s) : MemoryCanonical (s.pcieUp width speed) := by
  unfold State.pcieUp
  exact c.ite c.wr

theorem setLnk {l : Nat} {k : Link} (c : MemoryCanonical s) : MemoryCanonical (s.setLnk l k) := c.same

theorem pumpLink {l : Nat} (c : MemoryCanonical s) : MemoryCanonical (s.pumpLink l) := by
  unfold State.pumpLink
  exact c.ite c.setLnk.emit

theorem queueFlits {fs : List Flit} {l : List Nat} (c : MemoryCanonical s) : MemoryCanonical (s.queueFlits fs l) := by
  induction l generalizing s with
  | nil => exact c
  | cons a l ih => exact ih c.setLnk

theorem packOne {x : Emit} (c : MemoryCanonical s) : MemoryCanonical (s.packOne x) := by
  unfold State.packOne
  split
  exacts [c.queueFlits, c]

theorem cwlPack (c : MemoryCanonical s) : MemoryCanonical s.cwlPack := by
  unfold State.cwlPack
  exact (c.foldl fun _ _ c => c.packOne).pumpLink.pumpLink.ite c

theorem cwlEvt {code : Nat} (c : MemoryCanonical s) : MemoryCanonical (s.cwlEvt code) := c.evtPost

theorem setGen {g : Nat} (c : MemoryCanonical s) : MemoryCanonical (s.setGen g) := by
  unfold State.setGen
  exact c.setFld.same

theorem takeOver {cause : Nat} (c : MemoryCanonical s) : MemoryCanonical (s.takeOver cause) := by
  unfold State.takeOver
  exact (c.setGen.emitMore.ite c.setGen).takeRole.cwlEvt

theorem yieldRole (c : MemoryCanonical s) : MemoryCanonical s.yieldRole := c.setBit.setFld.jrnFlush.setRepl.askJoin

theorem dualPrimary {gen slot : Nat} (c : MemoryCanonical s) : MemoryCanonical (s.dualPrimary gen slot) := by
  unfold State.dualPrimary
  exact c.ite (c.yieldRole.ite c)

theorem fwdAgain (c : MemoryCanonical s) : MemoryCanonical s.fwdAgain := c.emit

theorem entryAgain (c : MemoryCanonical s) : MemoryCanonical s.entryAgain := by
  unfold State.entryAgain
  exact c.ite c.updJrn.jrnLag

theorem partnerLoss (c : MemoryCanonical s) : MemoryCanonical s.partnerLoss := by
  unfold State.partnerLoss
  exact c.ite c.setFld.cwlEvt.partnerSilent

theorem cwlUp {l : Nat} {primary : Bool} {gen slot : Nat} (c : MemoryCanonical s) :
    MemoryCanonical (s.cwlUp l primary gen slot) := by
  unfold State.cwlUp
  exact c.ite (((c.setFld.setLnk.setFld.same.dualPrimary.ite c.setFld.setLnk.setFld.same).askJoin.ite
    (c.setFld.setLnk.setFld.same.dualPrimary.ite c.setFld.setLnk.setFld.same)).fwdAgain.ite
      ((c.setFld.setLnk.setFld.same.dualPrimary.ite c.setFld.setLnk.setFld.same).entryAgain))

theorem cwlDown {l : Nat} (c : MemoryCanonical s) : MemoryCanonical (s.cwlDown l) := by
  unfold State.cwlDown
  exact c.ite
    ((c.setFld.setBit.setLnk.same.cwlEvt.entryAgain.fwdAgain.ite c.setFld.setBit.setLnk.same.cwlEvt).queueFlits.pumpLink.ite
      ((c.setFld.setBit.setLnk.same.cwlEvt.entryAgain.fwdAgain.ite c.setFld.setBit.setLnk.same.cwlEvt).partnerLoss))

theorem heartbeatSend (c : MemoryCanonical s) : MemoryCanonical s.heartbeatSend := c.queueFlits.pumpLink.pumpLink

theorem heard (c : MemoryCanonical s) : MemoryCanonical s.heard := by
  unfold State.heard
  exact c.ite c.setFld

theorem heartbeatIn {l : Nat} {b : List Byte} (c : MemoryCanonical s) : MemoryCanonical (s.heartbeatIn l b) := by
  unfold State.heartbeatIn
  exact c.ite c.heard.setFld.same

theorem autoTakeover (c : MemoryCanonical s) : MemoryCanonical s.autoTakeover := by
  unfold State.autoTakeover
  exact c.takeOver.ite c

theorem takeoverIn {gen : Nat} (c : MemoryCanonical s) : MemoryCanonical (s.takeoverIn gen) := by
  unfold State.takeoverIn
  exact c.setFld.same.yieldRole.ite c.setFld.same

theorem joinRespIn {code : Nat} (c : MemoryCanonical s) : MemoryCanonical (s.joinRespIn code) := by
  unfold State.joinRespIn
  exact c.ite ((c.ite c.setGen).joinResp)

theorem detachIn (c : MemoryCanonical s) : MemoryCanonical s.detachIn := c.same.partnerLoss

theorem settleDetach (c : MemoryCanonical s) : MemoryCanonical s.settleDetach := by
  unfold State.settleDetach
  exact c.takeOver.ite c

theorem cwlWriteIn {tag off : Nat} {data : List Byte} (c : MemoryCanonical s) : MemoryCanonical (s.cwlWriteIn tag off data) := by
  unfold State.cwlWriteIn
  extract_lets s_1 base len
  split
  · exact c.endTenures.setBit.emitMore
  · split
    exacts [c.endTenures.dmaViol.setBit.emitMore, c.endTenures.dmaWrite.emitMore]

theorem writeDoneIn {st : Nat} (c : MemoryCanonical s) : MemoryCanonical (s.writeDoneIn st) := c.same

theorem postIn {word : Nat} (c : MemoryCanonical s) : MemoryCanonical (s.postIn word) := c.evtPost

theorem joinReqIn {body : List Byte} (c : MemoryCanonical s) : MemoryCanonical (s.joinReqIn body) := c.joinReq

theorem cwlMsg {op tag operand : Nat} {body : List Byte} (c : MemoryCanonical s) :
    MemoryCanonical (s.cwlMsg op tag operand body) := by
  unfold State.cwlMsg
  split
  exacts [c.takeoverIn, c.joinReqIn, c.joinRespIn, c.detachIn, c.entryIn, c.entryAck, c.fwdReq, c.fwdReceipt, c.fwdStatus,
    c.cwlWriteIn, c.writeDoneIn, c.postIn, c]

theorem cwlMsgBytes {m : List Byte} (c : MemoryCanonical s) : MemoryCanonical (s.cwlMsgBytes m) := c.cwlMsg

theorem flitPart {l flags : Nat} {data : List Byte} (c : MemoryCanonical s) : MemoryCanonical (s.flitPart l flags data) := by
  unfold State.flitPart
  exact c.same.cwlMsgBytes.ite c.same

theorem flitIn {l : Nat} {b : List Byte} (c : MemoryCanonical s) : MemoryCanonical (s.flitIn l b) := by
  unfold State.flitIn
  exact c.ite ((c.setLnk.heard.flitPart.ite (c.setLnk.heard.heartbeatIn.ite c.setLnk.heard)).pumpLink)

theorem flitReplay {l : Nat} (c : MemoryCanonical s) : MemoryCanonical (s.flitReplay l) := by
  unfold State.flitReplay
  exact c.ite (c.bumpBy.setLnk.emit.cwlDown.ite c.bumpBy.setLnk.emit)

end Sys2Proof.MemoryCanonical
end

section
/-!
PROOFS. The memory stays canonical (O59): the memory channels, alarms, boot and register accesses.
-/
namespace Sys2Proof.MemoryCanonical
open Machine Laws
open Sys2Proof (Instr Imm)

variable {s t : State}

theorem mcShow {b : List Byte} (c : MemoryCanonical s) : MemoryCanonical (s.mcShow b) := c.wr.wr.wr.wr.wr

theorem allLedger {f : Pair → Pair} (c : MemoryCanonical s) : MemoryCanonical (s.allLedger f) := by
  unfold State.allLedger
  exact c.foldl fun _ _ c => c.updPair

theorem mcBoot {b : Option (List Byte)} (c : MemoryCanonical s) : MemoryCanonical (s.mcBoot b) := by
  unfold State.mcBoot
  split
  exacts [c.setBit, c.allLedger.mcShow]

theorem mcInstall {b : List Byte} (c : MemoryCanonical s) : MemoryCanonical (s.mcInstall b) := c.allLedger.mcShow.wr.wr

theorem updSec {f : Sec → Sec} (c : MemoryCanonical s) : MemoryCanonical (s.updSec f) := c.same

theorem updKeys {f : KeyStore → KeyStore} (c : MemoryCanonical s) : MemoryCanonical (s.updKeys f) := c.same

theorem auditOpen {kind port result code a v : Nat} {dig : List Byte} (c : MemoryCanonical s) :
    MemoryCanonical (s.auditOpen kind port result code a v dig) := by
  unfold State.auditOpen
  exact c.auditRec.ite c

theorem dbgShow (c : MemoryCanonical s) : MemoryCanonical s.dbgShow := c.setFld

theorem dbgRelease (c : MemoryCanonical s) : MemoryCanonical s.dbgRelease := by
  unfold State.dbgRelease
  exact c.ite c.updSec

theorem relock {port code : Nat} (c : MemoryCanonical s) : MemoryCanonical (s.relock port code) := by
  unfold State.relock
  exact c.setFld.setFld.dbgRelease.dbgShow.auditOpen.ite c.dbgRelease.dbgShow

theorem respond {port code result tag : Nat} {body : List Byte} (c : MemoryCanonical s) :
    MemoryCanonical (s.respond port code result tag body) := by
  unfold State.respond
  exact c.emitMore.ite c.emitMore.updSec

theorem mcReject {code : Nat} (c : MemoryCanonical s) : MemoryCanonical (s.mcReject code) := by
  unfold State.mcReject
  exact c.setBit.ite c

theorem reject {port code result tag : Nat} {body : List Byte} (c : MemoryCanonical s) :
    MemoryCanonical (s.reject port code result tag body) := c.mcReject.bump.auditOpen.respond

theorem pendReject {result : Nat} (c : MemoryCanonical s) : MemoryCanonical (s.pendReject result) := by
  unfold State.pendReject
  split
  exacts [c, c.updSec.updJrn.jrnShow.reject]

theorem enterHold (c : MemoryCanonical s) : MemoryCanonical s.enterHold := c.setBit.stopPairs.drawStop.relock.pendReject

theorem countHits {l : List Hit} (c : MemoryCanonical s) : MemoryCanonical (s.countHits l) := by
  induction l generalizing s with
  | nil => exact c
  | cons a l ih => exact ih c.setBit.bumpF

theorem latchHits {l : List Hit} (c : MemoryCanonical s) : MemoryCanonical (s.latchHits l) := by
  induction l generalizing s with
  | nil => exact c
  | cons a l ih => exact ih (c.ite c.setBit.setBit)

theorem glintHalt (c : MemoryCanonical s) : MemoryCanonical s.glintHalt := by
  unfold State.glintHalt
  exact c.ite c.setFld.drwEvt.drawAbort

theorem detect {hits : List Hit} {powerUp : Bool} (c : MemoryCanonical s) : MemoryCanonical (s.detect hits powerUp) := by
  unfold State.detect
  exact c.countHits.latchHits.ite
    ((((c.countHits.glintHalt.ite c.countHits).latchHits.foldl fun _ _ c => c.jrnAhead).updSec.ite
      ((c.countHits.glintHalt.ite c.countHits).latchHits.foldl fun _ _ c => c.jrnRequest)).ite
        ((((c.countHits.glintHalt.ite c.countHits).latchHits.foldl fun _ _ c => c.jrnAhead).updSec.ite
          ((c.countHits.glintHalt.ite c.countHits).latchHits.foldl fun _ _ c => c.jrnRequest)).enterHold))

theorem umbra (c : MemoryCanonical s) : MemoryCanonical s.umbra := by
  unfold State.umbra
  exact c.updKeys.setFld.updDraw.drawStop.relock.setBit

theorem umbraErase (c : MemoryCanonical s) : MemoryCanonical s.umbraErase := by
  unfold State.umbraErase
  exact c.ite c.updSec.umbra.setFld.jrnAlarmed.relock

theorem sourceInactive {cls : Nat} (c : MemoryCanonical s) : MemoryCanonical (s.sourceInactive cls) := c.setFld

theorem healthFailure {apt : Bool} (c : MemoryCanonical s) : MemoryCanonical (s.healthFailure apt) := c.healthFail.detect

theorem railExcursion {rail : Nat} {wide : Bool} {reading : Nat} (c : MemoryCanonical s) :
    MemoryCanonical (s.railExcursion rail wide reading) := by
  unfold State.railExcursion
  exact c.setFld.detect.ite c.bump

theorem refclkLoss {detail reading : Nat} (c : MemoryCanonical s) : MemoryCanonical (s.refclkLoss detail reading) := c.detect

theorem alarmHoldBoot (c : MemoryCanonical s) : MemoryCanonical s.alarmHoldBoot := by
  unfold State.alarmHoldBoot
  exact c.ite ((c.foldl fun _ _ c => c.jrnRequest).setBit.setFld.enterHold)

theorem monitorMiscompare (c : MemoryCanonical s) : MemoryCanonical s.monitorMiscompare := c.enterHold

theorem setStage {n : Nat} (c : MemoryCanonical s) : MemoryCanonical (s.setStage n) := c.setFld

theorem recoveryHold {cause : Nat} (c : MemoryCanonical s) : MemoryCanonical (s.recoveryHold cause) := by
  unfold State.recoveryHold
  exact c.setStage.setFld.same

theorem updBoot {f : BootUnit → BootUnit} (c : MemoryCanonical s) : MemoryCanonical (s.updBoot f) := c.same

theorem strapSample {raw ok : Nat} (c : MemoryCanonical s) : MemoryCanonical (s.strapSample raw ok) := by
  unfold State.strapSample
  exact c.ite (c.wr.updBoot.setFld.setFld.updJrn.dbgShow.ite c.wr.updBoot.setFld.setFld.updJrn.dbgShow.detect)

theorem healthRec {typ w0 w1 : Nat} (c : MemoryCanonical s) : MemoryCanonical (s.healthRec typ w0 w1) := c.jrnRequest

theorem strapCheck {raw : Nat} (c : MemoryCanonical s) : MemoryCanonical (s.strapCheck raw) := by
  unfold State.strapCheck
  exact c.ite c.detect.healthRec

theorem failPairs {l : List Nat} (c : MemoryCanonical s) : MemoryCanonical (s.failPairs l) := by
  induction l generalizing s with
  | nil => exact c
  | cons a l ih => exact ih (c.updPair.setBit.ite c.updPair)

theorem wardenFail (c : MemoryCanonical s) : MemoryCanonical s.wardenFail := c.setPair

theorem selfTest {failL failS : Nat} {failUnit : Bool} (c : MemoryCanonical s) :
    MemoryCanonical (s.selfTest failL failS failUnit) := by
  unfold State.selfTest
  exact c.wardenFail.ite (c.ite (c.failPairs.wr.setFld.setFld.recoveryHold.ite
    (c.failPairs.wr.setFld.setFld.recoveryHold.ite c.failPairs.wr.setFld.setFld.setStage)))

theorem dramInit {fail : Nat} (c : MemoryCanonical s) : MemoryCanonical (s.dramInit fail) := by
  unfold State.dramInit
  exact c.ite (c.recoveryHold.ite (c.emptyDram.setStage.ite c.emptyDram.setStage))

theorem copyLedger {l : List (Nat × Nat × List Byte)} (c : MemoryCanonical s) : MemoryCanonical (s.copyLedger l) := by
  induction l generalizing s with
  | nil => exact c
  | cons a l ih => exact ih (c.ite c.dataWrite)

theorem setGlobal {i cls last : Nat} {deny : Bool} (c : MemoryCanonical s) : MemoryCanonical (s.setGlobal i cls last deny) :=
  c.wr.wr

theorem sealSystem (c : MemoryCanonical s) : MemoryCanonical s.sealSystem := c.setGlobal.setGlobal.setGlobal.setGlobal.setBit

theorem imageVerify (c : MemoryCanonical s) : MemoryCanonical s.imageVerify := by
  unfold State.imageVerify
  exact c.ite (c.recoveryHold.ite (c.recoveryHold.updBoot.ite c.setFld.copyLedger.mcBoot.sealSystem.setStage.updBoot))

theorem logClose (c : MemoryCanonical s) : MemoryCanonical s.logClose := by
  unfold State.logClose
  exact c.updBoot.ite c

theorem senLast {r : Nat} (c : MemoryCanonical s) : MemoryCanonical (s.senLast r) := c.setFld

theorem loadCaps {pa n : Nat} (c : MemoryCanonical s) : MemoryCanonical (s.loadCaps pa n).2 := by
  induction n generalizing s pa with
  | zero => exact c
  | succ n ih => exact ih c.dramEnter.barrier

theorem senStart {v : Nat} (c : MemoryCanonical s) : MemoryCanonical (s.senStart v) := by
  unfold State.senStart
  extract_lets k p old blk _ _
  split
  · exact c.wrerr.senLast
  · split
    · exact c.senLast
    · extract_lets s1 r g x bad b0 b1 np s2 s3 s4
      split
      · exact c.senLast
      have c1 : MemoryCanonical s1 := by
        obtain ⟨c1, c2, c3, c4, c5, c6, c7, c8, c9⟩ := c
        exact ⟨c1, wf_writeBytes _ _ _ c2, c3, c4, c5, smWf_filter _ _ _ c6, c7, c8, c9⟩
      have cg : MemoryCanonical g.2 := c1.loadCaps.loadCaps
      have c3 : MemoryCanonical s3 := cg.setPair.senLast.setBit.ite cg.setPair.senLast
      exact c3.setFld.jrnRequest.ite c3.setFld

theorem govClock {budget : Int} {cause meas : Nat} {up : Bool} {l : List Nat} (c : MemoryCanonical s) :
    MemoryCanonical (s.govClock budget cause meas up l) := by
  induction l generalizing s with
  | nil => exact c
  | cons a l ih => exact ih (c.setFld.jrnRequest.ite (c.jrnRequest.ite c))

theorem govRate {typ reg lo w floor : Nat} {free : Bool} {demand : Option (Nat × Nat × Nat)} (c : MemoryCanonical s) :
    MemoryCanonical (s.govRate typ reg lo w floor free demand) := by
  unfold State.govRate
  split
  exacts [c, c.ite c.jrnRequest]

theorem govTickets {mask : Nat} {t0 t1 t2 l : Word} (c : MemoryCanonical s) : MemoryCanonical (s.govTickets mask t0 t1 t2 l) :=
  c.jrnRequest

theorem govPolicy (c : MemoryCanonical s) : MemoryCanonical s.govPolicy := by
  unfold State.govPolicy
  exact c.ite c.updBoot.jrnRequest

theorem govForced {ma : Nat} {l : List Nat} (c : MemoryCanonical s) : MemoryCanonical (s.govForced ma l) := by
  induction l generalizing s with
  | nil => exact c
  | cons a l ih => exact ih (c.jrnRequest.ite c)

theorem govNotices {l : List (Word × Word)} (c : MemoryCanonical s) : MemoryCanonical (s.govNotices l) := by
  induction l generalizing s with
  | nil => exact c
  | cons a l ih => exact ih (c.govForced.ite c)

theorem governorPass {inlet : Int} {bp sweep : Option (Nat × Nat × Nat)} {tkt : Option (Nat × Word × Word × Word × Word)}
    (c : MemoryCanonical s) : MemoryCanonical (s.governorPass inlet bp sweep tkt) := by
  unfold State.governorPass
  split
  · exact c
  · extract_lets s0 s1 hot cause meas budget s2 s3 s4 s5
    split
    exacts [c.same.updBoot.govNotices.govPolicy.govClock.govClock.govRate.govRate,
      c.same.updBoot.govNotices.govPolicy.govClock.govClock.govRate.govRate.govTickets]

theorem nqHi {q : Nat} (c : MemoryCanonical s) : MemoryCanonical (s.nqHi q).2 := by
  unfold State.nqHi
  split
  exacts [c, c.same]

theorem resetRequest (c : MemoryCanonical s) : MemoryCanonical s.resetRequest := by
  unfold State.resetRequest
  exact c.updSec.notify.healthRec.senLast

theorem healthRead {n : Word × Word} (c : MemoryCanonical s) : MemoryCanonical (s.healthRead n) := by
  unfold State.healthRead
  exact c.healthRec.resetRequest.ite c.healthRec

theorem excClrCnt (c : MemoryCanonical s) : MemoryCanonical s.excClrCnt := c.wr

theorem trClrCnt (c : MemoryCanonical s) : MemoryCanonical s.trClrCnt := c.wr.wr.wr

theorem ptClr {l : List Nat} (c : MemoryCanonical s) : MemoryCanonical (s.ptClr l) := by
  induction l generalizing s with
  | nil => exact c
  | cons a l ih => exact ih c.wr

theorem ptClrCnt (c : MemoryCanonical s) : MemoryCanonical s.ptClrCnt := c.ptClr

theorem onBit {v i : Nat} {f : State → State} (c : MemoryCanonical s) (hf : ∀ s, MemoryCanonical s → MemoryCanonical (f s)) :
    MemoryCanonical (s.onBit v i f) := by
  unfold State.onBit
  exact (hf _ c).ite c

theorem evdCmd {v : Nat} (c : MemoryCanonical s) : MemoryCanonical (s.evdCmd v) := by
  unfold State.evdCmd
  extract_lets arg
  split
  exacts [c, c.invTask, c.evdEnd, c.clrCh, c.evdClrCnt, c.restart, c.wrerr.evdLast]

theorem tallyCmd {v : Nat} (c : MemoryCanonical s) : MemoryCanonical (s.tallyCmd v) := by
  unfold State.tallyCmd
  exact ((c.wrerr.ite c).onBit (fun _ c => c.tallyAbort)).onBit (fun _ c => c.tallyClrCnt)

theorem jrnCmd {v : Nat} (c : MemoryCanonical s) : MemoryCanonical (s.jrnCmd v) :=
  (c.onBit (fun _ c => c.jrnSealCmd)).onBit (fun _ c => c.jrnClrCnt)

theorem eclCmd {v : Nat} (c : MemoryCanonical s) : MemoryCanonical (s.eclCmd v) :=
  ((c.onBit (fun _ c => c.eclStart)).onBit (fun _ c => c.eclAbort)).onBit (fun _ c => c.eclClrCnt)

theorem pwrDetach (c : MemoryCanonical s) : MemoryCanonical s.pwrDetach := c.drainStart

theorem pwrCmd {v : Nat} (c : MemoryCanonical s) : MemoryCanonical (s.pwrCmd v) :=
  ((c.onBit (fun _ c => c.pwrDetach)).onBit (fun _ c => c.unforce)).onBit (fun _ c => c.pwrClrCnt)

theorem evdCtrl {w : Machine.Writer} {v : Nat} (c : MemoryCanonical s) : MemoryCanonical (s.evdCtrl w v) := by
  unfold State.evdCtrl
  exact c.evdEnable.ite c.plainWrite

theorem evdTaskTab {w : Machine.Writer} {v : Nat} (c : MemoryCanonical s) : MemoryCanonical (s.evdTaskTab w v) := by
  unfold State.evdTaskTab
  exact c.plainWrite.ite ((c.plainWrite.ite c).wrerr)

theorem slotWriteReg {w : Machine.Writer} {a v : Nat} (c : MemoryCanonical s) : MemoryCanonical (s.slotWriteReg w a v) :=
  c.plainWrite.slotSync

theorem jrnReplWrite {w : Machine.Writer} {v : Nat} (c : MemoryCanonical s) : MemoryCanonical (s.jrnReplWrite w v) :=
  c.plainWrite.wr.replChange

theorem cwlCtrl {w : Machine.Writer} {v : Nat} (c : MemoryCanonical s) : MemoryCanonical (s.cwlCtrl w v) := by
  unfold State.cwlCtrl
  exact (c.plainWrite.cwlDown.ite c.plainWrite).cwlDown.ite (c.plainWrite.cwlDown.ite c.plainWrite)

theorem secBlockWrite {w : Machine.Writer} {a v : Nat} (c : MemoryCanonical s) : MemoryCanonical (s.secBlockWrite w a v) := by
  unfold State.secBlockWrite
  exact c.senStart.ite ((c.onBit (fun _ c => c.resetRequest)).ite (c.wrerr.ite c.plainWrite))

theorem evdBlockWrite {w : Machine.Writer} {a v : Nat} (c : MemoryCanonical s) : MemoryCanonical (s.evdBlockWrite w a v) := by
  unfold State.evdBlockWrite
  exact c.evdCtrl.ite (c.evdTaskTab.ite (c.evdCmd.ite (c.softPost.ite (c.lockupClear.ite (c.lockupClear.ite ((c.onBit
    (fun _ c => c.excClrCnt)).ite (c.slotWriteReg.ite c.plainWrite)))))))

theorem coreBlockWrite {w : Machine.Writer} {a v : Nat} (c : MemoryCanonical s) : MemoryCanonical (s.coreBlockWrite w a v) := by
  unfold State.coreBlockWrite
  exact c.arbCommit.ite ((c.onBit (fun _ c => c.mchClrCnt)).ite (c.plainWrite.cover.ite (c.tallyCmd.ite (c.jrnCmd.ite
    (c.jrnReplWrite.ite (c.jrnLookup.ite ((c.onBit (fun _ c => c.drwClrCnt)).ite (c.eclCmd.ite (c.plainWrite.ite ((c.onBit
      (fun _ c => c.trClrCnt)).ite c.plainWrite))))))))))

theorem linkBlockWrite {w : Machine.Writer} {a v : Nat} (c : MemoryCanonical s) : MemoryCanonical (s.linkBlockWrite w a v) := by
  unfold State.linkBlockWrite
  exact c.rxqWrite.ite (c.sqWrite.ite (c.cwlCtrl.ite ((c.onBit (fun _ c => c.ptClrCnt)).ite c.plainWrite)))

theorem devWrite {w : Machine.Writer} {a v : Nat} (c : MemoryCanonical s) : MemoryCanonical (s.devWrite w a v) := by
  unfold State.devWrite
  exact c.secBlockWrite.ite (c.pwrCmd.ite (c.plainWrite.cover.ite (c.plainWrite.ite (c.evdBlockWrite.ite
    (c.coreBlockWrite.ite c.linkBlockWrite)))))

theorem devRead {a : Nat} (c : MemoryCanonical s) : MemoryCanonical (s.devRead a).2 := by
  unfold State.devRead
  split
  · exact c.nqHi
  · split <;> exact c

end Sys2Proof.MemoryCanonical
end

section
/-!
PROOFS. The memory stays canonical (O59): management, security and what ends a command.
-/
namespace Sys2Proof.MemoryCanonical
open Machine Laws
open Sys2Proof (Instr Imm)

variable {s t : State}

theorem okay {q : Req} {code : Nat} {body : List Byte} (c : MemoryCanonical s) : MemoryCanonical (s.okay q code body) := c.respond

theorem refuse {q : Req} {code result : Nat} (c : MemoryCanonical s) : MemoryCanonical (s.refuse q code result) := c.reject

theorem serve {q : Req} {code : Nat} {f : State → State} (c : MemoryCanonical s)
    (hf : ∀ s, MemoryCanonical s → MemoryCanonical (f s)) : MemoryCanonical (s.serve q code f) := by
  unfold State.serve
  split
  · exact c
  · split
    exacts [c.refuse, hf _ c]

theorem keyed {q : Req} {code : Nat} (c : MemoryCanonical s) : MemoryCanonical (s.keyed q code) := c.auditOpen

theorem transit {q : Req} {code : Nat} {t : Machine.Trans} {now : State → State} (c : MemoryCanonical s)
    (hnow : ∀ s, MemoryCanonical s → MemoryCanonical (now s)) : MemoryCanonical (s.transit q code t now) := by
  unfold State.transit
  exact c.updSec.jrnRequest.ite (hnow _ c)

theorem newKey (c : MemoryCanonical s) : MemoryCanonical s.newKey.2 := c.generate

theorem lcQuery {q : Req} (c : MemoryCanonical s) : MemoryCanonical (s.lcQuery q) := by
  unfold State.lcQuery
  exact c.serve (fun _ c => c.refuse.ite c.okay)

theorem attest {q : Req} (c : MemoryCanonical s) : MemoryCanonical (s.attest q) := by
  unfold State.attest
  refine c.serve fun s c => ?_
  split
  · exact c.refuse
  · dsimp only
    split
    exacts [c.okay, c.fresh.okay]

theorem jexport {q : Req} (c : MemoryCanonical s) : MemoryCanonical (s.jexport q) := by
  unfold State.jexport
  exact c.serve (fun _ c => c.refuse.ite c.okay)

theorem rawCapture {q : Req} (c : MemoryCanonical s) : MemoryCanonical (s.rawCapture q) := by
  unfold State.rawCapture
  exact c.serve (fun _ c => c.refuse.ite c.keyed.fresh.okay)

theorem keygenNow {q : Req} (c : MemoryCanonical s) : MemoryCanonical (s.keygenNow q) := by
  unfold State.keygenNow
  exact c.newKey.updKeys.okay

theorem keygen {q : Req} (c : MemoryCanonical s) : MemoryCanonical (s.keygen q) := by
  unfold State.keygen
  exact c.serve (fun _ c => c.refuse.ite (c.refuse.ite (c.refuse.ite (c.transit (fun _ c => c.keygenNow)))))

theorem takePolicy {b : List Byte} (c : MemoryCanonical s) : MemoryCanonical (s.takePolicy b) := by
  unfold State.takePolicy
  exact c.applyPolicy.updBoot.replChange

theorem provisionNow {q : Req} (c : MemoryCanonical s) : MemoryCanonical (s.provisionNow q) := by
  unfold State.provisionNow
  exact c.newKey.updKeys.takePolicy.setFld.relock.okay

theorem provision {q : Req} (c : MemoryCanonical s) : MemoryCanonical (s.provision q) := by
  unfold State.provision
  exact c.serve (fun _ c => c.refuse.ite (c.refuse.ite (c.transit (fun _ c => c.provisionNow))))

theorem certifyNow {q : Req} (c : MemoryCanonical s) : MemoryCanonical (s.certifyNow q) := c.setFld.relock.okay

theorem certify {q : Req} (c : MemoryCanonical s) : MemoryCanonical (s.certify q) := by
  unfold State.certify
  exact c.serve (fun _ c => c.refuse.ite (c.transit (fun _ c => c.certifyNow)))

theorem policySet {q : Req} (c : MemoryCanonical s) : MemoryCanonical (s.policySet q) := by
  unfold State.policySet
  exact c.serve (fun _ c => c.refuse.ite c.keyed.takePolicy.wr.okay)

theorem keySet {q : Req} (c : MemoryCanonical s) : MemoryCanonical (s.keySet q) := by
  unfold State.keySet
  exact c.serve (fun _ c => c.refuse.ite c.keyed.updKeys.okay)

theorem mcStore {b : List Byte} (c : MemoryCanonical s) : MemoryCanonical (s.mcStore b) :=
  c.putBoot (wf_writeLE _ _ _ _ (wf_writeLE _ _ _ _ (wf_writeBytes _ _ _ c.wf_boot)))

theorem mcCommitNow {q : Req} (c : MemoryCanonical s) : MemoryCanonical (s.mcCommitNow q) := by
  unfold State.mcCommitNow
  split
  exacts [c.okay, c.mcInstall.okay]

theorem mcCommit {q : Req} (c : MemoryCanonical s) : MemoryCanonical (s.mcCommit q) := by
  unfold State.mcCommit
  refine c.serve fun s c => ?_
  split
  · exact c.refuse
  · exact c.refuse.ite (c.mcStore.transit fun _ c => c.mcCommitNow)

theorem mcStage {q : Req} (c : MemoryCanonical s) : MemoryCanonical (s.mcStage q) := by
  unfold State.mcStage
  exact c.serve (fun _ c => c.refuse.ite c.updSec.okay)

theorem takeoverCmd {q : Req} (c : MemoryCanonical s) : MemoryCanonical (s.takeoverCmd q) := by
  unfold State.takeoverCmd
  exact c.serve (fun _ c => c.refuse.ite (c.refuse.ite c.keyed.takeOver.okay))

theorem debugChallenge {q : Req} (c : MemoryCanonical s) : MemoryCanonical (s.debugChallenge q) := by
  unfold State.debugChallenge
  exact c.serve (fun _ c => c.refuse.ite c.fresh.updSec.okay)

theorem debugUnlock {q : Req} (c : MemoryCanonical s) : MemoryCanonical (s.debugUnlock q) := by
  unfold State.debugUnlock
  exact c.serve (fun _ c => c.refuse.ite (c.refuse.ite
    (c.updSec.setFld.setFld.updSec.dbgShow.auditOpen.okay.ite c.updSec.setFld.bump.auditOpen.respond)))

theorem debugLock {q : Req} (c : MemoryCanonical s) : MemoryCanonical (s.debugLock q) := by
  unfold State.debugLock
  exact c.serve (fun _ c => c.refuse.ite c.relock.okay)

theorem unlockExpiry (c : MemoryCanonical s) : MemoryCanonical s.unlockExpiry := c.relock

theorem challengeExpiry (c : MemoryCanonical s) : MemoryCanonical s.challengeExpiry := by
  unfold State.challengeExpiry
  exact c.updSec

theorem clearAlmCnt (c : MemoryCanonical s) : MemoryCanonical s.clearAlmCnt := by
  unfold State.clearAlmCnt
  exact c.foldl fun _ _ c => c.wr

theorem clearLatches (c : MemoryCanonical s) : MemoryCanonical s.clearLatches := c.setFld.setFld

theorem recoverNow {q : Req} (c : MemoryCanonical s) : MemoryCanonical (s.recoverNow q) := by
  unfold State.recoverNow
  exact c.instantiate.newKey.newKey.updKeys.clearLatches.clearAlmCnt.setFld.setFld.okay.moduleReset

theorem alarmRecover {q : Req} (c : MemoryCanonical s) : MemoryCanonical (s.alarmRecover q) := by
  unfold State.alarmRecover
  split
  exacts [c.serve (fun _ c => c.refuse.ite (c.keyed.startupTest.okay.ite c.startupTest.refuse)), c.serve
    (fun _ c => c.refuse.ite c.clearLatches.okay.moduleReset), c.serve (fun _ c => c.refuse.ite (c.refuse.ite c.recoverNow)),
      c.serve (fun _ c => c.refuse)]

theorem resetCmd {q : Req} (c : MemoryCanonical s) : MemoryCanonical (s.resetCmd q) := by
  unfold State.resetCmd
  exact c.serve (fun _ c => c.refuse.ite c.okay.moduleReset)

theorem retireNow {q : Req} (c : MemoryCanonical s) : MemoryCanonical (s.retireNow q) :=
  c.umbra.setFld.setFld.setFld.stopPairs.relock.okay

theorem retire {q : Req} (c : MemoryCanonical s) : MemoryCanonical (s.retire q) := by
  unfold State.retire
  exact c.serve (fun _ c => c.refuse.ite (c.transit (fun _ c => c.retireNow)))

theorem imgStage {q : Req} (c : MemoryCanonical s) : MemoryCanonical (s.imgStage q) := by
  unfold State.imgStage
  exact c.serve fun s c => c.refuse.ite (c.putBoot (wf_writeBytes _ _ _ c.wf_boot)).okay

theorem fwStage {q : Req} (c : MemoryCanonical s) : MemoryCanonical (s.fwStage q) := by
  unfold State.fwStage
  exact c.serve fun s c => c.refuse.ite
    (c.putBoot (wf_writeLE _ _ _ _ (wf_writeLE _ _ _ _ (wf_writeBytes _ _ _ c.wf_boot)))).okay

theorem cfgApply {l : List (Nat × Nat × Nat)} (c : MemoryCanonical s) : MemoryCanonical (s.cfgApply l) := by
  induction l generalizing s with
  | nil => exact c
  | cons a l ih => exact ih c.devWrite

theorem cfgSet {q : Req} (c : MemoryCanonical s) : MemoryCanonical (s.cfgSet q) := by
  unfold State.cfgSet
  exact c.serve (fun _ c => c.refuse.ite (c.refuse.ite c.cfgApply.okay))

theorem telemRead {q : Req} (c : MemoryCanonical s) : MemoryCanonical (s.telemRead q) := by
  unfold State.telemRead
  exact c.serve (fun _ c => c.refuse.ite c.okay)

theorem detachCmd {q : Req} (c : MemoryCanonical s) : MemoryCanonical (s.detachCmd q) := by
  unfold State.detachCmd
  exact c.serve (fun _ c => c.refuse.ite c.okay.drainStart)

theorem mgmt {code : Nat} {q : Req} (c : MemoryCanonical s) : MemoryCanonical (s.mgmt code q) := by
  unfold State.mgmt
  split
  exacts [c.lcQuery, c.attest, c.jexport, c.keygen, c.rawCapture, c.provision, c.certify, c.policySet, c.keySet, c.mcCommit,
    c.takeoverCmd, c.debugChallenge, c.debugUnlock, c.debugLock, c.alarmRecover, c.resetCmd, c.imgStage, c.retire, c.fwStage,
      c.mcStage, c.cfgSet, c.telemRead, c.detachCmd, c.refuse.ite c]

theorem commit {x : SecPend} (c : MemoryCanonical s) : MemoryCanonical (s.commit x) := by
  unfold State.commit
  extract_lets q s1
  split
  · exact c.updSec.refuse
  · split
    exacts [c.updSec.keygenNow, c.updSec.provisionNow, c.updSec.certifyNow, c.updSec.mcCommitNow, c.updSec.retireNow, c.updSec]

theorem settlePend (c : MemoryCanonical s) : MemoryCanonical s.settlePend := by
  unfold State.settlePend
  split
  exacts [c.commit, c.pendReject, c]

theorem setExch {port : Nat} {x : Option Exchange} (c : MemoryCanonical s) : MemoryCanonical (s.setExch port x) := by
  unfold State.setExch
  exact c.updSec

theorem setResp {port : Nat} {x : Option Response} (c : MemoryCanonical s) : MemoryCanonical (s.setResp port x) := by
  unfold State.setResp
  exact c.updSec

theorem segAckIn {port : Nat} (c : MemoryCanonical s) : MemoryCanonical (s.segAckIn port) := by
  unfold State.segAckIn
  split
  exacts [c, c.emitMore.setResp]

theorem segFirst {port : Nat} {h : SegHead} (c : MemoryCanonical s) : MemoryCanonical (s.segFirst port h) := by
  unfold State.segFirst
  extract_lets q
  split
  exacts [c.emitMore.ite c.refuse, c.refuse.ite c.setExch.emitMore]

theorem segNext {port : Nat} {h : SegHead} {pass : Bool} (c : MemoryCanonical s) : MemoryCanonical (s.segNext port h pass) := by
  unfold State.segNext
  extract_lets q s1 s2
  split
  exacts [c.emitMore.ite c.refuse, c.refuse.ite (c.emitMore.ite (c.setExch.refuse.ite
    (c.emitMore.updSec.setExch.mgmt.ite c.emitMore.setExch)))]

theorem mgmtSegment {port : Nat} {b : List Byte} {pass : Bool} (c : MemoryCanonical s) :
    MemoryCanonical (s.mgmtSegment port b pass) := by
  unfold State.mgmtSegment
  exact c.ite (c.refuse.ite (c.segAckIn.ite (c.mgmt.ite (c.refuse.ite (c.refuse.ite (c.segFirst.ite c.segNext))))))

theorem dropPend (c : MemoryCanonical s) : MemoryCanonical s.dropPend := by
  unfold State.dropPend
  exact c.updSec.updJrn.jrnShow

theorem mgmtTimeout {port : Nat} (c : MemoryCanonical s) : MemoryCanonical (s.mgmtTimeout port) := by
  unfold State.mgmtTimeout
  split
  · exact c.setExch.bump.respond
  · split
    · exact c.setResp.bump
    · split
      exacts [c, c.dropPend.bump.respond.ite c]

theorem cmb {pecOk : Bool} {f : State → State} (c : MemoryCanonical s) (hf : ∀ s, MemoryCanonical s → MemoryCanonical (f s)) :
    MemoryCanonical (s.cmb pecOk f) := by
  unfold State.cmb
  exact c.ite (c.emitMore.ite (hf _ c))

theorem cmbReject {code value : Nat} (c : MemoryCanonical s) : MemoryCanonical (s.cmbReject code value) := c.bump.auditOpen

theorem presence {pecOk : Bool} (c : MemoryCanonical s) : MemoryCanonical (s.presence pecOk) := c.cmb (fun _ c => c.emitMore)

theorem powerReq {value : Nat} {pecOk : Bool} (c : MemoryCanonical s) : MemoryCanonical (s.powerReq value pecOk) := by
  unfold State.powerReq
  exact c.cmb (fun _ c => c.drainStart.ite c.cmbReject)

theorem sensorRead {idx : Nat} {reading : Int} {pecOk : Bool} (c : MemoryCanonical s) :
    MemoryCanonical (s.sensorRead idx reading pecOk) := by
  unfold State.sensorRead
  exact c.cmb (fun _ c => c.cmbReject.emitMore.ite c.emitMore)

theorem ledSet {value : Nat} {pecOk : Bool} (c : MemoryCanonical s) : MemoryCanonical (s.ledSet value pecOk) := by
  unfold State.ledSet
  exact c.cmb (fun _ c => c.updSec.ite c.cmbReject)

theorem dbgRefuse {pa : Nat} {wr : Bool} {rule : Nat} (c : MemoryCanonical s) : MemoryCanonical (s.dbgRefuse pa wr rule) := by
  unfold State.dbgRefuse
  exact (c.setBit.wr.wr.bump.auditOpen.ite c.setBit.wr.wr.bump).emitMore

theorem dbgAccess {pa : Nat} {wr : Bool} {val : Nat} (c : MemoryCanonical s) : MemoryCanonical (s.dbgAccess pa wr val) := by
  unfold State.dbgAccess
  split
  exacts [c.devWrite.emitMore.ite c.devRead.emitMore, c.setArb.dramEnter.dataWrite.emitMore.ite c.setArb.dramEnter.emitMore,
    c.emitMore]

theorem setDbgHalt {p v : Nat} (c : MemoryCanonical s) : MemoryCanonical (s.setDbgHalt p v) := by
  unfold State.setDbgHalt
  exact c.updSec

theorem debugAccess {fn pa : Nat} {wr : Bool} {val : Nat} (c : MemoryCanonical s) :
    MemoryCanonical (s.debugAccess fn pa wr val) := by
  unfold State.debugAccess
  split
  · split
    exacts [c.dbgRefuse, c.dbgAccess]
  · exact c.setDbgHalt.emitMore.ite c.emitMore
  · exact c.setDbgHalt.emitMore.ite c.emitMore
  · exact c.emitMore.ite c.emitMore
  · exact c.emitMore
  · exact c.emitMore
  · exact c.emitMore

theorem l3Scrub {bad : List Nat} (c : MemoryCanonical s) : MemoryCanonical (s.l3Scrub bad) := by
  unfold State.l3Scrub
  exact c.ite (c.foldl fun _ _ c => c.poisonLine)

theorem regKey {isClosed : Bool} (c : MemoryCanonical s) : MemoryCanonical (s.regKey isClosed) := c.setFld

theorem settleBoot (c : MemoryCanonical s) : MemoryCanonical s.settleBoot := by
  unfold State.settleBoot
  exact c.setStage.takeEject.ite c

theorem cmd {f : State → State} (c : MemoryCanonical s) (hf : ∀ s, MemoryCanonical s → MemoryCanonical (f s)) :
    MemoryCanonical (State.cmd f s) := by
  have c1 : MemoryCanonical (f { s with out := [] }).settlePend.settleBoot.settleDetach :=
    (hf _ c.same).settlePend.settleBoot.settleDetach
  exact (hbNotice c1).cwlPack

theorem nqRead {q : Nat} (c : MemoryCanonical s) : MemoryCanonical (s.nqRead q) := by
  unfold State.nqRead
  extract_lets r s1
  split
  exacts [c.nqHi.emitMore, c.nqHi.emitMore.healthRead.ite c.nqHi.emitMore]

theorem parkAt {mv : Nat} (c : MemoryCanonical s) : MemoryCanonical (s.parkAt mv) := by
  unfold State.parkAt
  exact c.setVin.drainStart.ite c.setVin

theorem removeReady {s0 : State} (c : MemoryCanonical s0) : MemoryCanonical (s0.removeReady) := by
  unfold State.removeReady
  exact (c.emit.cwlPack.ite c).readyToRemove.setFld.pcieDown.ite ((c.emit.cwlPack.ite c).readyToRemove)

theorem upset (c : MemoryCanonical s) : MemoryCanonical s.upset := by
  unfold State.upset
  split
  · exact c
  · exact c.ite c.setLatent

theorem specWalk (c : MemoryCanonical s) : MemoryCanonical s.specWalk := by
  unfold State.specWalk
  split
  · exact c
  · extract_lets p
    split
    · exact c
    · extract_lets t
      split
      · exact c
      · split
        next h3 => exact c.walk.flt h3
        next h3 => exact (c.walk.ok h3).tlbFill.fetchLine

theorem tick (c : MemoryCanonical s) : MemoryCanonical s.tick := c.same

theorem measure (c : MemoryCanonical s) : MemoryCanonical s.measure := by
  unfold State.measure
  exact c.setVin.setFld.setFld.ite c

theorem idle (c : MemoryCanonical s) : MemoryCanonical s.idle := c.upset.specWalk.measure.tick

end Sys2Proof.MemoryCanonical
end

section
/-!
PROOFS. The memory stays canonical (O59): how a syllable runs, and the syllables of registers and memory.
-/
namespace Sys2Proof.MemoryCanonical
open Machine Laws
open Sys2Proof (Instr Imm)

variable {s t : State}

theorem enter {p b : Nat} (c : MemoryCanonical s) : MemoryCanonical (s.enter p b) := by
  unfold State.enter
  exact (c.updPair.ite c).firstBundle

theorem endDelay {p : Nat} (c : MemoryCanonical s) : MemoryCanonical (s.endDelay p) := by
  unfold State.endDelay
  exact c.ite c.updPair

theorem stepped {p : Nat} (c : MemoryCanonical s) : MemoryCanonical (s.stepped p) := by
  unfold State.stepped
  exact c.setDbgHalt.ite c

theorem faultOf {p b : Nat} {f : PFault} {slot : Nat} {impr : Bool} (c : MemoryCanonical s) :
    MemoryCanonical (s.faultOf p b f slot impr) := by
  unfold State.faultOf
  exact c.preempt.escalate.ite ((c.updBank.ite c).takeFault)

theorem apendFault {p b : Nat} (c : MemoryCanonical s) : MemoryCanonical (s.apendFault p b) := by
  unfold State.apendFault
  exact c.fresh.updPair.takeApend

theorem sylRun {i : Instr} {p : Nat} {body : Body} (c : MemoryCanonical s)
    (hbody : ∀ x s, MemoryCanonical s → MemoryCanonical (body x s).state) : MemoryCanonical (s.sylRun i p body).1 := by
  unfold State.sylRun
  split
  next b info _ _ =>
    have c1 : MemoryCanonical (if isSentinel p && info.unit == 3 then Res.flt (flt0 illegal) (s.enter p b)
        else body ((s.enter p b).ctxFor p b info) (s.enter p b)).state := by
      split
      exacts [c.enter, hbody _ _ c.enter]
    split
    · exact c.apendFault
    · split
      · exact c
      · dsimp only
        split
        next h => exact ((c1.ok h).ite (c1.ok h).endDelay).stepped
        next h =>
          split
          exacts [c, (c1.flt h).faultOf.stepped]
  · exact c

theorem illegalAt (c : MemoryCanonical s) : MemoryCanonical (illegalAt s).state := c

theorem syFault (c : MemoryCanonical s) : MemoryCanonical (syFault s).state := c

theorem retireBundle {x : SCtx} {k0 : Bank} {wroteLc : Bool} (c : MemoryCanonical s) :
    MemoryCanonical (s.retireBundle x k0 wroteLc) := by
  unfold State.retireBundle
  exact c.updBank

theorem jumpTo {x : SCtx} {t : Cap} (c : MemoryCanonical s) : MemoryCanonical (s.jumpTo x t) := by
  unfold State.jumpTo
  exact c.updBank

theorem progDone {x : SCtx} (c : MemoryCanonical s) : MemoryCanonical (s.progDone x) := by
  unfold State.progDone
  exact c.ite c.updBank

theorem progAt {x : SCtx} {n : Nat} (c : MemoryCanonical s) : MemoryCanonical (s.progAt x n) := by
  unfold State.progAt
  exact c.updBank

theorem loaded {x : SCtx} {olds : List (Nat × Cap)} (c : MemoryCanonical s) : MemoryCanonical (s.loaded x olds) := by
  unfold State.loaded
  exact c.updPair.ite c

theorem intRR {f : Word → Word → Word × Flags} {cd cs1 cs2 : RegIx} {x : SCtx} (c : MemoryCanonical s) :
    MemoryCanonical (intRR f cd cs1 cs2 x s).state := c.setX.addFlags

theorem intR {f : Word → Word × Flags} {cd cs1 : RegIx} {x : SCtx} (c : MemoryCanonical s) :
    MemoryCanonical (intR f cd cs1 x s).state := c.setX.addFlags

theorem intRI {f : Word → Word → Word × Flags} {cd cs1 : RegIx} {imm : Imm} {x : SCtx} (c : MemoryCanonical s) :
    MemoryCanonical (intRI f cd cs1 imm x s).state := c.intR

theorem predRR {f : Bool → Bool → Bool} {pd ps1 ps2 : PredIx} {x : SCtx} (c : MemoryCanonical s) :
    MemoryCanonical (predRR f pd ps1 ps2 x s).state := by
  unfold Machine.predRR
  exact c.updBank

theorem getPreds {cd : RegIx} {x : SCtx} (c : MemoryCanonical s) : MemoryCanonical (getPreds cd x s).state := c.setX

theorem putPreds {cs1 : RegIx} {x : SCtx} (c : MemoryCanonical s) : MemoryCanonical (putPreds cs1 x s).state := by
  unfold Machine.putPreds
  exact c.updBank

theorem compareW {w : Nat} {pd pc : PredIx} {cond : BitVec 3} {cs1 cs2 : RegIx} {x : SCtx} (c : MemoryCanonical s) :
    MemoryCanonical (compareW w pd pc cond cs1 cs2 x s).state := by
  unfold Machine.compareW
  extract_lets v
  split
  exacts [c.illegalAt, c.updBank]

theorem mfs {cd sr cs2 : RegIx} {x : SCtx} (c : MemoryCanonical s) : MemoryCanonical (mfs cd sr cs2 x s).state := by
  unfold Machine.mfs
  split
  · exact c.illegalAt
  · split
    exacts [c.syFault, c.setReg]

theorem modeWrite {p : Nat} {w : ShadowWrite} (c : MemoryCanonical s) : MemoryCanonical (s.modeWrite p w) := by
  unfold State.modeWrite
  exact c.updPair.ite c.updPair

theorem writeStatus {x : SCtx} {t : Nat} {x1 mask : Word} (c : MemoryCanonical s) :
    MemoryCanonical (s.writeStatus x t x1 mask) := by
  unfold State.writeStatus
  exact c.modeWrite.ite (c.updBank.modeWrite.ite c.updBank)

theorem writeMode {x : SCtx} {t : Nat} {r : ShadowReg} {x1 mask : Word} (c : MemoryCanonical s) :
    MemoryCanonical (s.writeMode x t r x1 mask) := by
  unfold State.writeMode
  exact c.modeWrite.ite c.updPair

theorem srWrite {x : SCtx} {t : Nat} {sr : RegIx} {v : Cap} (c : MemoryCanonical s) : MemoryCanonical (s.srWrite x t sr v) := by
  unfold State.srWrite
  extract_lets x_1
  split
  exacts [c.updBank, c.writeStatus, c.writeMode, c.ite c.updBank, c.updBank, c.updBank, c.updBank, c.writeMode, c.updBank,
    c.updPair, c.updPair, c.writeMode, c.writeMode]

theorem mts {sr cs1 cs2 : RegIx} {x : SCtx} (c : MemoryCanonical s) : MemoryCanonical (mts sr cs1 cs2 x s).state := by
  unfold Machine.mts
  extract_lets v a t
  split
  · exact c.illegalAt
  · split
    · exact c.syFault
    · split
      · exact c
      · split
        exacts [c, c.srWrite]

theorem wideRR {f : Wide → Wide → Wide × Flags} {cd cs1 cs2 : RegIx} {x : SCtx} (c : MemoryCanonical s) :
    MemoryCanonical (wideRR f cd cs1 cs2 x s).state := c.setW.addFlags

theorem wideR {f : Wide → Wide × Flags} {cd cs1 : RegIx} {x : SCtx} (c : MemoryCanonical s) :
    MemoryCanonical (wideR f cd cs1 x s).state := c.setW.addFlags

theorem wideHi {cd cs1 : RegIx} {x : SCtx} (c : MemoryCanonical s) : MemoryCanonical (wideHi cd cs1 x s).state := c.setX

theorem finish {o : CapOut} {cd : RegIx} {x : SCtx} (c : MemoryCanonical s) : MemoryCanonical (o.finish cd x s).state := by
  unfold Machine.CapOut.finish
  split
  exacts [c.setReg, c]

theorem capR {f : Cap → CapOut} {cd cs1 : RegIx} {x : SCtx} (c : MemoryCanonical s) : MemoryCanonical (capR f cd cs1 x s).state :=
  c.finish

theorem capRR {f : Cap → Cap → CapOut} {cd cs1 cs2 : RegIx} {x : SCtx} (c : MemoryCanonical s) :
    MemoryCanonical (capRR f cd cs1 cs2 x s).state := c.finish

theorem doLoad {ps : List Piece} (c : MemoryCanonical s) : MemoryCanonical (s.doLoad ps).2 := by
  unfold State.doLoad
  split
  · split
    exacts [c.devRead, c.readPieces]
  · exact c.readPieces

theorem memLoad {x : SCtx} {a : Cap} {operand ea size : Nat} (c : MemoryCanonical s) :
    MemoryCanonical (memLoad x a operand ea size s).state := by
  unfold Machine.memLoad
  split
  exacts [c, c.planAccess.bind fun _ _ c => c.doLoad]

theorem planStore {x : SCtx} {a : Cap} {operand ea size : Nat} (c : MemoryCanonical s) :
    MemoryCanonical (planStore x a operand ea size s).state := by
  unfold Machine.planStore
  split
  exacts [c, c.planAccess]

theorem doStore {x : SCtx} {ps : List Piece} {size val : Nat} (c : MemoryCanonical s) :
    MemoryCanonical (s.doStore x ps size val) := by
  unfold State.doStore
  split
  exacts [c.devWrite.ite c.writePieces, c.writePieces]

theorem memLoadCap {x : SCtx} {a : Cap} {operand ea : Nat} (c : MemoryCanonical s) :
    MemoryCanonical (memLoadCap x a operand ea s).state := by
  unfold Machine.memLoadCap
  split
  · exact c
  · split
    exacts [c, c.planCap.bind fun _ _ c => c.capLoad]

theorem planStoreCap {x : SCtx} {a : Cap} {operand ea : Nat} {v : Cap} (c : MemoryCanonical s) :
    MemoryCanonical (planStoreCap x a operand ea v s).state := by
  unfold Machine.planStoreCap
  split
  · exact c
  · split
    exacts [c, c.planCap]

theorem loadData {size : Nat} {signed : Bool} {cd cs1 : RegIx} {d : SCtx → State → Int} {x : SCtx} {s : State}
    (c : MemoryCanonical s) : MemoryCanonical (loadData size signed cd cs1 d x s).state := by
  unfold Machine.loadData
  exact c.memLoad.bind fun _ _ c => c.setX.loaded

theorem loadCap {cd cs1 : RegIx} {d : SCtx → State → Int} {x : SCtx} (c : MemoryCanonical s) :
    MemoryCanonical (loadCap cd cs1 d x s).state := by
  unfold Machine.loadCap
  exact c.memLoadCap.bind fun _ _ c => c.setReg.loaded

theorem storeData {size : Nat} {cd cs1 : RegIx} {d : SCtx → State → Int} {x : SCtx} (c : MemoryCanonical s) :
    MemoryCanonical (storeData size cd cs1 d x s).state := by
  unfold Machine.storeData
  exact c.planStore.bind fun _ _ c => c.doStore

theorem storeCap {cd cs1 : RegIx} {d : SCtx → State → Int} {x : SCtx} (c : MemoryCanonical s) :
    MemoryCanonical (storeCap cd cs1 d x s).state := by
  unfold Machine.storeCap
  exact c.planStoreCap.bind fun _ _ c => c.capStore

theorem reserve {p : Nat} {ps : List Piece} (c : MemoryCanonical s) : MemoryCanonical (s.reserve p ps) := by
  unfold State.reserve
  split
  exacts [c.updPair, c]

theorem loadResD {cd cs1 : RegIx} {x : SCtx} (c : MemoryCanonical s) : MemoryCanonical (loadResD cd cs1 x s).state := by
  unfold Machine.loadResD
  extract_lets a ea
  split
  · exact c
  · split
    · exact c
    · refine c.planAccess.bind fun ps s1 c1 => ?_
      split
      exacts [c1, c1.doLoad.reserve.setX.loaded]

theorem loadResC {cd cs1 : RegIx} {x : SCtx} (c : MemoryCanonical s) : MemoryCanonical (loadResC cd cs1 x s).state := by
  unfold Machine.loadResC
  extract_lets a ea
  split
  · exact c
  · split
    · exact c
    · refine c.planCap.bind fun x s1 c1 => ?_
      split
      exacts [c1, c1.capLoad.reserve.setReg.loaded]

theorem condEnd {x : SCtx} {cd : RegIx} {stored : Bool} (c : MemoryCanonical s) : MemoryCanonical (s.condEnd x cd stored) := by
  unfold State.condEnd
  exact c.updPair.setX

theorem storeCondD {cd cs1 cs2 : RegIx} {x : SCtx} (c : MemoryCanonical s) :
    MemoryCanonical (storeCondD cd cs1 cs2 x s).state := by
  unfold Machine.storeCondD
  extract_lets a ea x_1
  split
  · exact c
  · split
    · exact c
    · refine c.planAccess.bind fun ps s1 c1 => ?_
      split
      exacts [c1, (c1.doStore.ite c1).condEnd]

theorem storeCondC {cd cs1 cs2 : RegIx} {x : SCtx} (c : MemoryCanonical s) :
    MemoryCanonical (storeCondC cd cs1 cs2 x s).state := by
  unfold Machine.storeCondC
  extract_lets a ea v
  split
  · exact c
  · split
    · exact c
    · refine c.planCap.bind fun x s1 c1 => ?_
      split
      exacts [c1, (c1.capStore.ite c1).condEnd]

theorem fixed {α : Type} {f : SCtx → State → α × Flags} {put : SCtx → α → State → State} {x : SCtx} {s : State}
    (hput : ∀ a0 a1 s, MemoryCanonical s → MemoryCanonical (put a0 a1 s)) (c : MemoryCanonical s) : MemoryCanonical
    (fixed f put x s).state := by
  unfold Machine.fixed
  refine c.lazySave.bind fun x s1 c1 => ?_
  extract_lets r s2
  split
  · split
    exacts [c1.addFlags, (hput _ _ _ c1.addFlags).updBank]
  · exact hput _ _ _ c1.addFlags

theorem fixX {cd : RegIx} {f : SCtx → State → Word × Flags} {x : SCtx} (c : MemoryCanonical s) :
    MemoryCanonical (fixX cd f x s).state := c.fixed fun _ _ _ c => c.setX

theorem fixW {cd : RegIx} {f : SCtx → State → Wide × Flags} {x : SCtx} (c : MemoryCanonical s) :
    MemoryCanonical (fixW cd f x s).state := c.fixed fun _ _ _ c => c.setW

theorem putAcc {ad : AccIx} {x : SCtx} {a : AccWord} (c : MemoryCanonical s) : MemoryCanonical (putAcc ad x a s) := by
  unfold Machine.putAcc
  exact c.updPair

theorem accSet {ad : AccIx} {f : SCtx → State → AccWord} {x : SCtx} (c : MemoryCanonical s) :
    MemoryCanonical (accSet ad f x s).state := c.fixed fun _ _ _ c => c.putAcc

theorem accFit {ad : AccIx} {f : SCtx → State → Int} {x : SCtx} (c : MemoryCanonical s) :
    MemoryCanonical (accFit ad f x s).state := c.fixed fun _ _ _ c => c.putAcc

theorem fsync {x : SCtx} (c : MemoryCanonical s) : MemoryCanonical (fsync x s).state := by
  unfold Machine.fsync
  split <;> exact c

end Sys2Proof.MemoryCanonical
end

section
/-!
PROOFS. The memory stays canonical (O59): syllables of several steps and of the units.
-/
namespace Sys2Proof.MemoryCanonical
open Machine Laws
open Sys2Proof (Instr Imm)

variable {s t : State}

theorem cellPiece {x : SCtx} {k : AKind} {needW : Bool} {va : Nat} (c : MemoryCanonical s) :
    MemoryCanonical (cellPiece x k needW va s).state := by
  unfold Machine.cellPiece
  refine c.xlate.bind fun x s1 c1 => ?_
  split
  · exact c1
  · split <;> exact c1

theorem cellOperand {x : SCtx} {a : Cap} {need : List Nat} {k : AKind} {needW : Bool} (c : MemoryCanonical s) :
    MemoryCanonical (cellOperand x a need k needW s).state := by
  unfold Machine.cellOperand
  split
  · exact c
  · split
    exacts [c, c.cellPiece]

theorem tallySend {op : TallyOp} (c : MemoryCanonical s) : MemoryCanonical (s.tallySend op) := c.same

theorem tadd {cd cs1 cs2 ca : RegIx} {x : SCtx} (c : MemoryCanonical s) : MemoryCanonical (tadd cd cs1 cs2 ca x s).state := by
  unfold Machine.tadd
  extract_lets st
  split
  exacts [c, c.cellOperand.bind fun _ _ c => c.tallySend]

theorem tclose {cd cs1 cs2 : RegIx} {x : SCtx} (c : MemoryCanonical s) : MemoryCanonical (tclose cd cs1 cs2 x s).state := by
  unfold Machine.tclose
  exact c.cellOperand.bind fun _ _ c => c.tallySend

theorem tread {cd cs1 cs2 : RegIx} {x : SCtx} (c : MemoryCanonical s) : MemoryCanonical (tread cd cs1 cs2 x s).state := by
  unfold Machine.tread
  extract_lets d
  refine c.cellOperand.bind fun x s1 c1 => ?_
  split
  · exact c1
  · split
    exacts [c1, c1.planRange.bind fun _ _ c => c.tallySend]

theorem slotsFrom {x : SCtx} {n : Nat} {l : List (State → Res Unit)} (c : MemoryCanonical s)
    (h : ∀ f ∈ l, ∀ s, MemoryCanonical s → MemoryCanonical (f s).state) : MemoryCanonical (slotsFrom x n s l).state := by
  induction l generalizing n s with
  | nil => exact c
  | cons a l ih =>
    have c1 := h a List.mem_cons_self s c
    unfold Machine.slotsFrom
    split
    next e => exact (c1.flt e).progAt
    next e => exact ih (c1.ok e) fun f hf => h f (List.mem_cons_of_mem a hf)

theorem slotsNow {x : SCtx} {r : Nat} (c : MemoryCanonical s) : MemoryCanonical (s.slotsNow x r).2 := by
  unfold State.slotsNow
  split
  exacts [c, c.fresh]

theorem runSlots {x : SCtx} {l : List (State → Res Unit)} {done : State → Res Bool} (c : MemoryCanonical s)
    (h : ∀ f ∈ l, ∀ s, MemoryCanonical s → MemoryCanonical (f s).state)
    (hdone : ∀ s, MemoryCanonical s → MemoryCanonical (done s).state) : MemoryCanonical (runSlots x l done s).state := by
  unfold Machine.runSlots
  refine (c.slotsNow.slotsFrom fun f hf => h f (List.mem_of_mem_drop (List.mem_of_mem_take hf))).bind fun _ s1 c1 => ?_
  split
  · exact c1.progAt
  · split
    next e => exact ((hdone _ c1).flt e).progAt
    next e => exact ((hdone _ c1).ok e).progDone

theorem putGranule {x : SCtx} {va : Nat} {v : Cap} (c : MemoryCanonical s) : MemoryCanonical (putGranule x va v s).state := by
  unfold Machine.putGranule
  exact c.planCap.bind fun _ _ c => c.capStore

theorem putBytes {x : SCtx} {va : Nat} {bs : List Byte} (c : MemoryCanonical s) : MemoryCanonical (putBytes x va bs s).state := by
  unfold Machine.putBytes
  exact c.planAccess.bind fun _ _ c => c.writePieces

theorem getGranule {x : SCtx} {lc : Bool} {va : Nat} (c : MemoryCanonical s) : MemoryCanonical (getGranule x lc va s).state := by
  unfold Machine.getGranule
  exact c.planCap.bind fun _ _ c => c.capLoad

theorem getBytes {x : SCtx} {va : Nat} (c : MemoryCanonical s) : MemoryCanonical (getBytes x va s).state := by
  unfold Machine.getBytes
  exact c.planAccess.bind fun _ _ c => c.readPieces

theorem restoreReg {x : SCtx} {t : Nat} {lc : Bool} {va n : Nat} (c : MemoryCanonical s) :
    MemoryCanonical (restoreReg x t lc va n s).state := by
  unfold Machine.restoreReg
  exact c.getGranule.bind fun _ _ c => c.setReg

theorem storeMulti {cs1 cs2 : RegIx} {x : SCtx} (c : MemoryCanonical s) : MemoryCanonical (storeMulti cs1 cs2 x s).state := by
  unfold Machine.storeMulti
  extract_lets a m t vs
  split
  · exact c.illegalAt
  · split
    · exact c
    · split
      · exact c
      · exact c.runSlots (List.forall_mem_map.2 fun _ _ _ c => c.putGranule) fun _ c => c

theorem loadMulti {cs1 cs2 : RegIx} {x : SCtx} (c : MemoryCanonical s) : MemoryCanonical (loadMulti cs1 cs2 x s).state := by
  unfold Machine.loadMulti
  extract_lets a m t regs
  split
  · exact c.illegalAt
  · split
    · exact c
    · split
      · exact c
      · exact c.runSlots (List.forall_mem_map.2 fun _ _ _ c => c.restoreReg) fun _ c => c.loaded

theorem saveUpper {cd cs1 : RegIx} {x : SCtx} (c : MemoryCanonical s) : MemoryCanonical (saveUpper cd cs1 x s).state := by
  unfold Machine.saveUpper
  extract_lets a t head
  split
  · exact c.illegalAt
  · split
    · exact c
    · refine c.runSlots ?_ fun _ c => c.setReg
      simp only [List.forall_mem_append, List.forall_mem_cons, List.forall_mem_map]
      exact ⟨⟨fun _ c => c.putGranule, fun _ c => c.putBytes, nofun⟩, fun _ _ _ c => c.putGranule⟩

theorem saveLower {cd cs1 : RegIx} {x : SCtx} (c : MemoryCanonical s) : MemoryCanonical (saveLower cd cs1 x s).state := by
  unfold Machine.saveLower
  extract_lets a t head
  split
  · exact c.illegalAt
  · split
    · exact c
    · refine c.runSlots ?_ fun _ c => c.setReg
      simp only [List.forall_mem_append, List.forall_mem_cons, List.forall_mem_map]
      exact ⟨⟨fun _ c => c.putGranule, fun _ c => c.putGranule, fun _ c => c.putBytes, fun _ c => c.putBytes, nofun⟩,
        fun _ _ _ c => c.putGranule⟩

theorem linkSlot {x : SCtx} {va : Nat} (c : MemoryCanonical s) : MemoryCanonical (linkSlot x va s).state := by
  unfold Machine.linkSlot
  exact c.planCap.bind fun _ _ c => c

theorem restoreUpper {cd : RegIx} {x : SCtx} (c : MemoryCanonical s) : MemoryCanonical (restoreUpper cd x s).state := by
  unfold Machine.restoreUpper
  extract_lets a t
  split
  · exact c.illegalAt
  · split
    · exact c
    · refine c.runSlots ?_ fun _ c => c.getGranule.bind fun _ _ c => c.setReg.loaded
      simp only [List.forall_mem_append, List.forall_mem_cons, List.forall_mem_map]
      exact ⟨⟨fun _ c => c.linkSlot, fun _ c => c.getBytes.bind fun _ _ c => c.updBank, nofun⟩, fun _ _ _ c => c.restoreReg⟩

theorem restoreEnd {x : SCtx} {t : Nat} {cd : RegIx} {target link : Cap} {st : Word} {olds : List (Nat × Cap)} {s : State}
    (c : MemoryCanonical s) : MemoryCanonical (restoreEnd x t cd target link st olds s).state := by
  unfold Machine.restoreEnd
  extract_lets sy x_1 s1 s2
  split
  exacts [c.setReg.loaded.writeStatus.progDone.jumpTo, c.setReg.loaded.writeStatus.progDone.updBank]

theorem restoreLower {cd : RegIx} {x : SCtx} (c : MemoryCanonical s) : MemoryCanonical (restoreLower cd x s).state := by
  unfold Machine.restoreLower
  extract_lets a t regs
  split
  · exact c.illegalAt
  · split
    · exact c
    · refine c.getGranule.bind fun target s0 c0 => ?_
      split
      · exact c0
      · refine c0.runSlots ?_ fun _ c => c.getBytes.bind fun _ _ c => c.getGranule.bind fun _ _ c => c.restoreEnd
        simp only [List.forall_mem_append, List.forall_mem_cons, List.forall_mem_map]
        exact ⟨⟨fun _ c => c.linkSlot, fun _ c => c.linkSlot, fun _ c => c.getBytes.bind fun _ _ c => c.updBank,
          fun _ c => c.getBytes.bind fun _ _ c => c.updBank, nofun⟩, fun _ _ _ c => c.restoreReg⟩

theorem callEnd {x : SCtx} {list : Bool} {cd : RegIx} {area target : Cap} (c : MemoryCanonical s) :
    MemoryCanonical (callEnd x list cd area target s).state := by
  unfold Machine.callEnd
  exact (c.setReg.ite c.setReg).setReg.jumpTo

theorem callMulti {cd cs1 cs2 : RegIx} {imm : Imm} {x : SCtx} (c : MemoryCanonical s) :
    MemoryCanonical (callMulti cd cs1 cs2 imm x s).state := by
  unfold Machine.callMulti
  extract_lets list target m vs mask c2 head area granules
  split
  · exact c.illegalAt
  · split
    · exact c
    · split
      · exact c
      · split
        · exact c
        · exact c.runSlots (List.forall_mem_map.2 fun _ _ _ c => c.putGranule) fun _ c => c.callEnd

theorem callBack {x : SCtx} {list : Bool} {cd : RegIx} {a target : Cap} {regs : List Nat} {s0 s : State} (c : MemoryCanonical s) :
    MemoryCanonical (callBack x list cd a target regs s0 s).state := by
  unfold Machine.callBack
  split
  exacts [c.getGranule.bind fun _ _ c => c.setReg.loaded.jumpTo, c.setReg.loaded.jumpTo]

theorem callReturn {cd : RegIx} {x : SCtx} (c : MemoryCanonical s) : MemoryCanonical (callReturn cd x s).state := by
  unfold Machine.callReturn
  extract_lets list target a operand maskAt
  split
  · exact c.illegalAt
  · split
    · exact c
    · refine c.memLoad.bind fun m s1 c1 => ?_
      extract_lets regs
      split
      · exact c1.illegalAt
      · split
        · exact c1
        · split
          · exact c1
          · refine c1.runSlots ?_ fun _ c => c.callBack
            rw [List.forall_mem_append, List.forall_mem_map]
            refine ⟨?_, fun _ _ _ c => c.restoreReg⟩
            split
            · simp only [List.forall_mem_cons]
              exact ⟨fun _ c => c.linkSlot, fun _ c => c.linkSlot, nofun⟩
            · simp only [List.forall_mem_cons]
              exact ⟨fun _ c => c.linkSlot, nofun⟩

theorem unitStatus {x : SCtx} {cd : RegIx} {n : Nat} (c : MemoryCanonical s) : MemoryCanonical (s.unitStatus x cd n) := c.setX

theorem unitWait {x : SCtx} {cd : RegIx} (c : MemoryCanonical s) : MemoryCanonical (s.unitWait x cd) := by
  unfold State.unitWait
  exact c.retireBundle.updBank.updBank.ite c.retireBundle.updBank.leaveChain

theorem lazyLeave {x : SCtx} (c : MemoryCanonical s) : MemoryCanonical (s.lazyLeave x).state := by
  unfold State.lazyLeave
  split
  exacts [c, c.lazyComplete]

theorem jappAsk {x : SCtx} {cd : RegIx} {typ : Nat} {ps : List Piece} (c : MemoryCanonical s) :
    MemoryCanonical (jappAsk x cd typ ps s).state := by
  unfold Machine.jappAsk
  split
  exacts [c, c.lazyLeave.bind fun _ _ c => c.readPieces.jrnRequest.unitWait]

theorem japp {cd cs1 cs2 : RegIx} {x : SCtx} (c : MemoryCanonical s) : MemoryCanonical (japp cd cs1 cs2 x s).state := by
  unfold Machine.japp
  extract_lets a y len typ
  have c0 : MemoryCanonical (if len = 0 then Res.ok [] s else Machine.planRange s (s.via x.pair x.bank) .load a.addr len).state := by
    split
    exacts [c, c.planRange]
  split
  · exact c
  · split
    · exact c.illegalAt
    · refine c0.bind fun ps s1 c1 => ?_
      split
      exacts [c1.unitStatus, c1.jappAsk]

theorem jseal {cd cs1 : RegIx} {x : SCtx} (c : MemoryCanonical s) : MemoryCanonical (jseal cd cs1 x s).state := by
  unfold Machine.jseal
  split
  · exact c
  · split
    exacts [c.unitStatus, c.lazyLeave.bind fun _ _ c => c.sealRequest.unitWait]

theorem drawPages {x : SCtx} {l : List (Nat × Nat)} (c : MemoryCanonical s) : MemoryCanonical (drawPages x s l).state := by
  induction l generalizing s with
  | nil => exact c
  | cons a l ih =>
    unfold Machine.drawPages
    split
    next h => exact c.xlate.flt h
    next h =>
      split
      · exact c.xlate.ok h
      · split
        · exact c.xlate.ok h
        · split
          next h3 => exact (ih (c.xlate.ok h)).flt h3
          next h3 => exact (ih (c.xlate.ok h)).ok h3

theorem drawSyl {cd cs1 cs2 : RegIx} {x : SCtx} (c : MemoryCanonical s) : MemoryCanonical (drawSyl cd cs1 cs2 x s).state := by
  unfold Machine.drawSyl
  extract_lets a d id n x_1 k
  split
  · exact c
  · split
    · exact c
    · split
      · exact c.illegalAt
      · split
        · exact c
        · refine c.drawPages.bind fun ps s1 c1 => ?_
          split
          exacts [c1, c1.lazyLeave.bind fun _ _ c => c.drawAsk.unitWait]

theorem eclPages {x : SCtx} {v : Bool} {t n g fuel : Nat} (c : MemoryCanonical s) :
    MemoryCanonical (eclPages x v t n g s fuel).state := by
  induction fuel generalizing s n g with
  | zero => exact c
  | succ fuel ih =>
    unfold Machine.eclPages
    extract_lets e via
    split
    · exact c
    · split
      next h => exact (c.xlate.flt h).progAt
      next h =>
        split
        · exact (c.xlate.ok h).progAt
        · exact ih (c.xlate.ok h).bitmapRead.markGranules

theorem eclRegion {x : SCtx} {a : Cap} {v : Bool} {done : State → Res Bool} (c : MemoryCanonical s)
    (hdone : ∀ s, MemoryCanonical s → MemoryCanonical (done s).state) : MemoryCanonical (eclRegion x a v done s).state := by
  unfold Machine.eclRegion
  extract_lets n g r q
  refine c.slotsNow.eclPages.bind fun _ s1 c1 => ?_
  split
  · exact c1.progAt
  · exact hdone _ c1.progDone

theorem eclipse {cd cs1 : RegIx} {x : SCtx} (c : MemoryCanonical s) : MemoryCanonical (eclipse cd cs1 x s).state := by
  unfold Machine.eclipse
  extract_lets a
  split
  exacts [c, c.eclRegion fun _ c => c.setX.eclRetired]

theorem eclipseRelease {cd cs1 cs2 : RegIx} {x : SCtx} (c : MemoryCanonical s) :
    MemoryCanonical (eclipseRelease cd cs1 cs2 x s).state := by
  unfold Machine.eclipseRelease
  extract_lets a y
  split
  · exact c
  · split
    exacts [c.setX, c.eclRegion fun _ c => c.setX]

theorem msync {x : SCtx} (c : MemoryCanonical s) : MemoryCanonical (msync x s).state := c.dropCode.switchTable

theorem iflush {x : SCtx} (c : MemoryCanonical s) : MemoryCanonical (iflush x s).state := c.dropStale

theorem disturb {p : Nat} (c : MemoryCanonical s) : MemoryCanonical (s.disturb p) := c.setBit

theorem dropTlb {issuer : Nat} {f : TlbEntry → Bool} {p : Nat} (c : MemoryCanonical s) :
    MemoryCanonical (s.dropTlb issuer f p) := by
  unfold State.dropTlb
  exact (c.updPair.disturb.ite c.updPair).ite c

theorem dropWalk {f : WalkEntry → Bool} {p : Nat} (c : MemoryCanonical s) : MemoryCanonical (s.dropWalk f p) := by
  unfold State.dropWalk
  exact c.updPair.ite c

theorem dropTlbs {issuer : Nat} {f : TlbEntry → Bool} (c : MemoryCanonical s) : MemoryCanonical (s.dropTlbs issuer f) := by
  unfold State.dropTlbs
  exact c.foldl fun _ _ c => c.dropTlb

theorem dropWalks {f : WalkEntry → Bool} (c : MemoryCanonical s) : MemoryCanonical (s.dropWalks f) := by
  unfold State.dropWalks
  exact c.foldl fun _ _ c => c.dropWalk

theorem invGuard {x : SCtx} {bad : Bool} {act : State} (c : MemoryCanonical s) (c1 : MemoryCanonical act) :
    MemoryCanonical (invGuard x s bad act).state := by
  unfold Machine.invGuard
  split
  · exact c.syFault
  · split
    exacts [c.illegalAt, c1]

theorem tlbinvVa {cs1 cs2 : RegIx} {x : SCtx} (c : MemoryCanonical s) : MemoryCanonical (tlbinvVa cs1 cs2 x s).state :=
  c.invGuard c.dropTlbs

theorem tlbinvAsid {cs2 : RegIx} {x : SCtx} (c : MemoryCanonical s) : MemoryCanonical (tlbinvAsid cs2 x s).state :=
  c.invGuard c.dropTlbs

theorem tlbinvAll {x : SCtx} (c : MemoryCanonical s) : MemoryCanonical (tlbinvAll x s).state := c.invGuard c.dropTlbs

theorem walkinvVa {cs1 cs2 : RegIx} {x : SCtx} (c : MemoryCanonical s) : MemoryCanonical (walkinvVa cs1 cs2 x s).state :=
  c.invGuard c.dropWalks

theorem walkinvAll {x : SCtx} (c : MemoryCanonical s) : MemoryCanonical (walkinvAll x s).state := c.invGuard c.dropWalks

theorem fetchWord {p b a : Nat} (c : MemoryCanonical s) : MemoryCanonical (fetchWord p b a s).state := by
  unfold Machine.fetchWord
  split
  · exact c
  · refine c.planAccess.bind fun ps s1 c1 => ?_
    extract_lets r
    split
    exacts [c1.readPieces.staleWord.fetchLine.ite c1.readPieces.staleWord, c1.readPieces]

theorem fetchWords {p b a : Nat} {n : Nat} (c : MemoryCanonical s) : MemoryCanonical (fetchWords p b a s n).state := by
  induction n generalizing a s with
  | zero => exact c
  | succ n ih =>
    unfold Machine.fetchWords
    refine c.fetchWord.bind fun w s1 c1 => ?_
    split
    exacts [c1, (ih c1).bind fun _ _ c => c]

theorem fetchBundle {p b a : Nat} {named : Bool} (c : MemoryCanonical s) : MemoryCanonical (fetchBundle p b a named s).state := by
  unfold Machine.fetchBundle
  extract_lets at_
  refine c.fetchWords.bind fun o s1 c1 => ?_
  split
  · exact c1
  · split
    · exact c1
    · split <;> exact c1

end Sys2Proof.MemoryCanonical
end

section
/-!
PROOFS. The memory stays canonical (O59): control, gates and custom syllables.
-/
namespace Sys2Proof.MemoryCanonical
open Machine Laws
open Sys2Proof (Instr Imm)

variable {s t : State}

theorem goTo {x : SCtx} {a : Nat} (c : MemoryCanonical s) : MemoryCanonical (s.goTo x a) := by
  unfold State.goTo
  exact c.updBank

theorem branch {imm : Imm} {x : SCtx} (c : MemoryCanonical s) : MemoryCanonical (branch imm x s).state := by
  unfold Machine.branch
  extract_lets k t
  split
  exacts [c, c.goTo]

theorem jump {cs1 : RegIx} {x : SCtx} (c : MemoryCanonical s) : MemoryCanonical (jump cs1 x s).state := by
  unfold Machine.jump
  extract_lets t
  split
  exacts [c, c.jumpTo]

theorem jumpLink {cd cs1 : RegIx} {x : SCtx} (c : MemoryCanonical s) : MemoryCanonical (jumpLink cd cs1 x s).state := by
  unfold Machine.jumpLink
  extract_lets t
  split
  exacts [c, c.setReg.jumpTo]

theorem endFetch {x : SCtx} {a : Nat} (c : MemoryCanonical s) : MemoryCanonical (endFetch x a s).state := by
  unfold Machine.endFetch
  refine c.fetchWords.bind fun o s1 c1 => ?_
  split <;> exact c1

theorem loop {cs1 : RegIx} {imm : Imm} {x : SCtx} (c : MemoryCanonical s) : MemoryCanonical (loop cs1 imm x s).state := by
  unfold Machine.loop
  extract_lets x_1 le
  split
  exacts [c.illegalAt, c.endFetch.bind fun _ _ c => c.updBank.goTo]

theorem repeatWith {unint : Bool} {cs1 : RegIx} {x : SCtx} (c : MemoryCanonical s) :
    MemoryCanonical (repeatWith unint cs1 x s).state := by
  unfold Machine.repeatWith
  extract_lets x_1
  refine c.fetchBundle.bind fun u s1 c1 => ?_
  split
  · exact c1
  · split
    exacts [c1, c1.updBank.goTo]

theorem planFrame {x : SCtx} {gs : List (Nat × Cap)} (c : MemoryCanonical s) : MemoryCanonical (planFrame x s gs).2.state := by
  induction gs generalizing s with
  | nil => exact c
  | cons g gs ih =>
    unfold Machine.planFrame
    split
    next h => exact c.planCap.flt h
    next h => exact ih (c.planCap.ok h)

theorem writeFrame {x : SCtx} {m i : Nat} {l : List (Piece × Cap)} (c : MemoryCanonical s) :
    MemoryCanonical (writeFrame x m i s l) := by
  induction l generalizing i s with
  | nil => exact c
  | cons a l ih => exact ih (c.capStore.ite c)

theorem putFrame {x : SCtx} {gs : List (Nat × Cap)} (c : MemoryCanonical s) : MemoryCanonical (putFrame x gs s).state := by
  unfold Machine.putFrame
  extract_lets r
  split
  next h => exact (c.planFrame.ok h).writeFrame
  next h => exact (c.planFrame.flt h).fresh.writeFrame

theorem gateCommit {x : SCtx} {entry data stack x2 : Cap} {f ctl : Nat} (c : MemoryCanonical s) :
    MemoryCanonical (gateCommit x entry data stack x2 f ctl s) := by
  unfold Machine.gateCommit
  exact c.updBank.updPair

theorem gateCheck {x : SCtx} {g entry data stack : Cap} {bs : List Byte} (c : MemoryCanonical s) :
    MemoryCanonical (gateCheck x g entry data stack bs s).state := by
  unfold Machine.gateCheck
  extract_lets k x2 f ctl
  split
  · exact c
  · split
    · exact c
    · split
      · exact c
      · split
        · exact c
        · split
          · exact c
          · split
            · exact c
            · split
              exacts [c, c.putFrame.bind fun _ _ c => c.gateCommit]

theorem gateCall {cs1 : RegIx} {x : SCtx} (c : MemoryCanonical s) : MemoryCanonical (gateCall cs1 x s).state := by
  unfold Machine.gateCall
  extract_lets g
  split
  · exact c
  · split
    · exact c
    · split
      · exact c
      · split
        · exact c
        · split
          exacts [c,
            c.planRange.bind fun _ _ c => c.getGranule.bind fun _ _ c => c.getGranule.bind fun _ _ c => c.getGranule.bind fun _ _
              c => c.readPieces.gateCheck]

theorem gateBack {x : SCtx} {pcc x2 x3 lz : Cap} {link word : Nat} (c : MemoryCanonical s) :
    MemoryCanonical (gateBack x pcc x2 x3 lz link word s) := by
  unfold Machine.gateBack
  exact c.updBank.updPair

theorem gateReturn {cs1 : RegIx} {x : SCtx} (c : MemoryCanonical s) : MemoryCanonical (gateReturn cs1 x s).state := by
  unfold Machine.gateReturn
  extract_lets g k
  split
  · exact c
  · split
    · exact c
    · split
      · exact c
      · refine c.getGranule.bind fun pcc s1 c1 => ?_
        refine c1.getGranule.bind fun x2 s2 c1 => ?_
        refine c1.getGranule.bind fun x3 s3 c1 => ?_
        refine c1.getGranule.bind fun lz s4 c1 => ?_
        refine c1.getGranule.bind fun w s5 c1 => ?_
        extract_lets word
        split
        exacts [c1, c1.lazyReload.bind fun _ _ c => c.gateBack]

theorem eventReturn {x : SCtx} (c : MemoryCanonical s) : MemoryCanonical (eventReturn x s).state := by
  unfold Machine.eventReturn
  extract_lets k
  split
  · exact c.illegalAt
  · split
    exacts [c, c.lazyReload.bind fun _ _ c => c.rete]

theorem microPages {ps : List Piece} {ea : Nat} (c : MemoryCanonical s) : MemoryCanonical (microPages ps ea s).state := by
  unfold Machine.microPages
  split <;> exact c

theorem microLoad {x : SCtx} {fn : Nat} {a : Cap} {operand ea : Nat} (c : MemoryCanonical s) :
    MemoryCanonical (microLoad x fn a operand ea s).state := by
  unfold Machine.microLoad
  split
  · split
    · exact c
    · split
      exacts [c, c.planCap.bind fun _ _ c => c.microPages.bind fun _ _ c => c.capLoad]
  · extract_lets size
    split
    exacts [c, c.planAccess.bind fun _ _ c => c.microPages.bind fun _ _ c => c.readPieces]

theorem microStore {x : SCtx} {fn : Nat} {a v : Cap} {operand ea : Nat} {w : Work8} (c : MemoryCanonical s) :
    MemoryCanonical (microStore x fn a v operand ea w s).state := by
  unfold Machine.microStore
  split
  exacts [c.planStoreCap.bind fun _ _ c => c.microPages.bind fun _ _ c => c,
    c.planStore.bind fun _ _ c => c.microPages.bind fun _ _ c => c]

theorem heldStores {x : SCtx} {l : List (List Piece × Nat × Nat × Option Cap)} (c : MemoryCanonical s) :
    MemoryCanonical (s.heldStores x l) := by
  induction l generalizing s with
  | nil => exact c
  | cons a l ih =>
    unfold State.heldStores
    extract_lets s1
    have c1 : MemoryCanonical s1 := by
      unfold s1
      split
      exacts [c.capStore, c.doStore]
    exact ih c1

theorem microOp {x : SCtx} {r : CustomRegs} {u : Uop} {w : Work8} (c : MemoryCanonical s) :
    MemoryCanonical (microOp x r u w s).state := by
  unfold Machine.microOp
  extract_lets rd a b fin x_1 x_2 x_3 ea
  split
  · exact c
  · exact c
  · exact c
  · exact c
  · split <;> exact c
  · exact c.microLoad.bind fun _ _ c => c
  · exact c.microStore.bind fun _ _ c => c
  · exact c

theorem microRun {x : SCtx} {r : CustomRegs} {t : DecodeTable} {n len i fuel : Nat} {w : Work8} {s : State}
    (c : MemoryCanonical s) : MemoryCanonical (microRun x r t n len i w s fuel).1.state := by
  induction fuel generalizing s i w with
  | zero => exact c
  | succ fuel ih =>
    unfold Machine.microRun
    split
    · exact c
    · split
      next h => exact c.microOp.flt h
      next h => exact ih (c.microOp.ok h)

theorem heldRegs {x : SCtx} {l : List (Nat × Cap)} (c : MemoryCanonical s) : MemoryCanonical (s.heldRegs x l) := by
  unfold State.heldRegs
  exact c.foldl fun _ _ c => c.setReg

theorem mcFault {p n i cause : Nat} (c : MemoryCanonical s) : MemoryCanonical (s.mcFault p n i cause) := c.wr

theorem custom {n : BitVec 6} {cd cs1 cs2 : RegIx} {x : SCtx} (c : MemoryCanonical s) :
    MemoryCanonical (custom n cd cs1 cs2 x s).state := by
  unfold Machine.custom
  extract_lets t len
  split
  · exact c.illegalAt
  · have c1 := c.microRun (x := x) (r := ⟨cd, cs1, cs2⟩) (t := t) (n := n.toNat) (len := len) (i := 0) (fuel := 32)
      (w := ⟨[], [], noFlags, []⟩)
    split
    next h => rw [h] at c1; exact MemoryCanonical.mcFault c1
    next h => rw [h] at c1; exact (MemoryCanonical.heldStores c1).heldRegs.addFlags

end Sys2Proof.MemoryCanonical
end

section
/-!
PROOFS. The memory stays canonical (O59): bundles.
-/
namespace Sys2Proof.MemoryCanonical
open Machine Laws
open Sys2Proof (Instr Imm)

variable {s t : State}

/-- What the body of any syllable leaves is in canonical form. -/
theorem body {i : Instr} {f : Body} {x : SCtx} (c : MemoryCanonical s) (h : bodyOf i = some f) :
    MemoryCanonical (f x s).state := by
  cases i with
  | lb | lbu | lh | lhu | lw | lwu | ld | lbx | lbux | lhx | lhux | lwx | lwux | ldx => cases h; exact c.loadData
  | clc | clcx => cases h; exact c.loadCap
  | sb | sh | sw | sd | sbx | shx | swx | sdx => cases h; exact c.storeData
  | csc | cscx => cases h; exact c.storeCap
  | lrcD => cases h; exact c.loadResD
  | lrcC => cases h; exact c.loadResC
  | sccD => cases h; exact c.storeCondD
  | sccC => cases h; exact c.storeCondC
  | cmove | cincaddri | ccleartag | csealentry | cgettag | cgetperm | cgettype | cgetaddr | cgetbase | cgettop | cgetlen =>
    cases h; exact c.capR
  | csetaddr | cincaddr | csetbounds | csetboundsx | candperm | cseal | cunseal => cases h; exact c.capRR
  | crrl | cram | neg | negs | clz | ctz | popc | sextb | sexth | sextw | zextw | slli | srli | srai => cases h; exact c.intR
  | add | sub | addv | subv | adds | subs | and | or | xor | andn | orn | min | max | minu | maxu | slt | sltu | sll | srl | sra
    | mul | mulv | muls | mulh | mulhu | div | divu | rem | remu | divs => cases h; exact c.intRR
  | mfs => cases h; exact c.mfs
  | mts => cases h; exact c.mts
  | pand | por | pxor | pandn => cases h; exact c.predRR
  | pget => cases h; exact c.getPreds
  | pput => cases h; exact c.putPreds
  | addi | andi | ori | xori => cases h; exact c.intRI
  | compare | wideCompare => cases h; exact c.compareW
  | wadd | wsub | waddv | wsubv | wadds | wsubs | wand | wor | wxor | wsll | wsrl | wsra | wmul | wmulv | wmuls | wmulx | wmulxu
    | wdiv | wrem | wdivs | wpack => cases h; exact c.wideRR
  | wneg | wnegs | wsext | wzext | wslli | wsrli | wsrai | waddi => cases h; exact c.wideR
  | whi => cases h; exact c.wideHi
  | aclr | amova | asetw | asetx | asetm | asetg => cases h; exact c.accSet
  | agetg | arndq | ashrq | arndm | qadd | qsub | qmulr | qneg | wtoq | qdiv | mrndx => cases h; exact c.fixX
  | aneg | qmul | qmac | qmsu | mmul | mmac | mmsu | aaddw | asubw | aaddq | asubq | aadda => cases h; exact c.accFit
  | agetr | arndw | ashrw | wqadd | wqsub | wqmulr | wqneg | qtow | wqdiv | mdiv | mscale | mmulq | mrnd | mbrk =>
    cases h; exact c.fixW
  | fsync => cases h; exact c.fsync
  | tadd => cases h; exact c.tadd
  | tclose => cases h; exact c.tclose
  | tread => cases h; exact c.tread
  | stm => cases h; exact c.storeMulti
  | ldm => cases h; exact c.loadMulti
  | svctxU => cases h; exact c.saveUpper
  | svctxL => cases h; exact c.saveLower
  | ldctxU => cases h; exact c.restoreUpper
  | ldctxL => cases h; exact c.restoreLower
  | br => cases h; exact c.branch
  | cjr => cases h; exact c.jump
  | cjalr => cases h; exact c.jumpLink
  | callm => cases h; exact c.callMulti
  | callmR => cases h; exact c.callReturn
  | invoke => cases h; exact c.gateCall
  | retg => cases h; exact c.gateReturn
  | rete => cases h; exact c.eventReturn
  | loop => cases h; exact c.loop
  | repi | repu => cases h; exact c.repeatWith
  | japp => cases h; exact c.japp
  | jseal => cases h; exact c.jseal
  | draw => cases h; exact c.drawSyl
  | eclipse => cases h; exact c.eclipse
  | eclipseR => cases h; exact c.eclipseRelease
  | msync => cases h; exact c.msync
  | iflush => cases h; exact c.iflush
  | tlbinvVa => cases h; exact c.tlbinvVa
  | tlbinvAsid => cases h; exact c.tlbinvAsid
  | tlbinvAll => cases h; exact c.tlbinvAll
  | walkinvVa => cases h; exact c.walkinvVa
  | walkinvAll => cases h; exact c.walkinvAll
  | customSyllable => cases h; exact c.custom
  | _ => cases h

theorem runSyls {x : SCtx} {s0 s : State} {left : Bool} {k : Nat} {l : List DSyl} (c0 : MemoryCanonical s0)
    (c : MemoryCanonical s) : MemoryCanonical (runSyls x s0 left k s l).1.state := by
  induction l generalizing s left k with
  | nil => exact c
  | cons d l ih =>
    unfold Machine.runSyls
    split
    · exact ih (c.endDelay.ite c)
    · split
      · exact c0
      next body hb =>
        extract_lets cd
        split
        next h => exact ih (((c.body hb).ok h).endDelay.ite ((c.body hb).ok h))
        next h =>
          split
          · exact (c.body hb).flt h
          · split
            next h0 => exact (c0.body hb).flt h0
            · exact c0

theorem bundleEnd {x : SCtx} {u : Bundle} {wait : State} {retire : State → State} (c : MemoryCanonical s)
    (c1 : MemoryCanonical wait) (hretire : ∀ s, MemoryCanonical s → MemoryCanonical (retire s)) : MemoryCanonical
    (s.bundleEnd x u wait retire) := by
  have cr := c.runSyls (x := x) (left := false) (k := 0) (l := u.syls) c
  unfold State.bundleEnd
  split
  next s1 _ h =>
    have c2 : MemoryCanonical s1 := by rw [h] at cr; exact cr
    exact (c2.ite (hretire _ c2)).stepped
  next s1 _ h =>
    have c2 : MemoryCanonical s1 := by rw [h] at cr; exact cr
    split
    · exact c1
    · exact c2.faultOf.stepped

theorem openFault {p b : Nat} {f : PFault} (c : MemoryCanonical s) : MemoryCanonical (s.openFault p b f) :=
  c.fresh.faultOf.stepped

theorem repeatDone {x : SCtx} (c : MemoryCanonical s) : MemoryCanonical (s.repeatDone x) := by
  unfold State.repeatDone
  exact c.updBank.goTo

theorem repeatNext {x : SCtx} (c : MemoryCanonical s) : MemoryCanonical (s.repeatNext x) := by
  unfold State.repeatNext
  exact c.updBank.repeatDone.ite c.updBank

theorem repeatRun {x : SCtx} {u : Bundle} {wait : State} (c : MemoryCanonical s) (c1 : MemoryCanonical wait) :
    MemoryCanonical (s.repeatRun x u wait) := by
  unfold State.repeatRun
  exact c.repeatDone.stepped.ite ((c1.ite c.openFault).ite (c.bundleEnd c1 (fun _ c => c.repeatNext)))

theorem bundleOn {p b : Nat} (c : MemoryCanonical s) : MemoryCanonical (s.bundleOn p b) := by
  unfold State.bundleOn
  extract_lets s0 s1 pc
  split
  · exact c.apendFault
  · split
    · exact c.eclPass
    · split
      next h2 => exact c.eclPass.ite ((c.eclPass.updPair.enter.fetchBundle.flt h2).openFault)
      next h2 => exact c.eclPass.ite (((c.eclPass.updPair.enter.fetchBundle.ok h2).bundleEnd c.eclPass
        (fun _ c => c.retireBundle)).ite ((c.eclPass.updPair.enter.fetchBundle.ok h2).repeatRun c.eclPass))

theorem bundleCmd {p : Nat} (c : MemoryCanonical s) : MemoryCanonical (s.bundleCmd p) := by
  unfold State.bundleCmd
  split
  exacts [c, c.bundleOn]

theorem shadowEnd {p : Nat} (c : MemoryCanonical s) : MemoryCanonical (s.shadowEnd p) := by
  unfold State.shadowEnd
  split
  exacts [c, c.updPair]

end Sys2Proof.MemoryCanonical
end

section
/-!
PROOFS. The memory stays canonical (O59): commands, and the step.
-/
namespace Sys2Proof.MemoryCanonical
open Machine Laws
open Sys2Proof (Instr Imm)

variable {s t : State}

/-- What an outcome leaves, where it leaves a state, is in canonical form. -/
def LeavesCanonical (o : Host.Outcome State Fault Refusal) : Prop := ∀ t, o = .next t → MemoryCanonical t

theorem does {f : State → State} (c : MemoryCanonical s) (hf : ∀ s, MemoryCanonical s → MemoryCanonical (f s)) :
    LeavesCanonical (does f s) := by
  rintro t ⟨⟩
  exact c.cmd hf

theorem onUnit {b : Bool} {f : State → State} (c : MemoryCanonical s)
    (hf : ∀ s, MemoryCanonical s → MemoryCanonical (f s)) : LeavesCanonical (onUnit b f s) :=
  c.does fun s c => (hf s c).ite c

/-- A syllable command, of its pair alone or of one that reaches memory or a unit. -/
theorem syllable {i : Instr} {p : Nat} {f : Body} (c : MemoryCanonical s) (hp : pairOf i = some p)
    (hf : bodyOf i = some f) : LeavesCanonical (exec i s) := by
  have hrun : ∀ s, MemoryCanonical s → MemoryCanonical (s.sylRun i p f).1 := fun s c => c.sylRun fun _ _ c => c.body hf
  rcases exec_of_body hp hf s with h | h
  · rw [h]
    unfold runReg
    split
    · have cr : MemoryCanonical ({ s with out := [] }.sylRun i p f).1 := hrun _ c.same
      rintro t ⟨⟩
      exact cr.ite (c.cmd fun _ _ => cr)
    · exact c.does fun _ c => c
  · rw [h]
    exact c.onUnit hrun

/-- Every command leaves the memory canonical: a command of a unit through its own effect, a syllable through its body. -/
theorem exec {i : Instr} (c : MemoryCanonical s) : LeavesCanonical (exec i s) := by
  cases i with
  | bundle => exact c.onUnit fun _ c => c.bundleCmd
  | modeShadowEnd => exact c.onUnit fun _ c => c.shadowEnd
  | divergence => exact c.onUnit fun _ c => c.diverge
  | divergenceRecord => exact c.onUnit fun _ c => c.haltRecord
  | haltRecord => exact c.onUnit fun _ c => c.haltRecord
  | redispatch => exact c.onUnit fun _ c => c.redispatch
  | eventSelect => exact c.onUnit fun _ c => c.evdSelect
  | eventEntry => exact c.onUnit fun _ c => c.evdEntry
  | bankResumption => exact c.onUnit fun _ c => c.evdResume
  | spill => exact c.onUnit fun _ c => c.spill
  | spillWriteComplete => exact c.onUnit fun _ c => c.spillComplete
  | backgroundSpill => exact c.onUnit fun _ c => c.backSpill
  | fill => exact c.onUnit fun _ c => c.fill
  | maskOverstay => exact c.onUnit fun _ c => c.maskOverstay
  | faultTimeout => exact c.onUnit fun _ c => c.faultTimeout
  | evdPost => exact c.does fun _ c => c.softPost
  | evdEnable => exact c.does fun _ c => c.evdEnable
  | invtask => exact c.does fun _ c => c.invTask
  | evdEnd => exact c.does fun _ c => c.evdEnd
  | clrch => exact c.does fun _ c => c.clrCh
  | evdClrcnt => exact c.does fun _ c => c.evdClrCnt
  | restart => exact c.does fun _ c => c.restart
  | excClrcnt => exact c.does fun _ c => c.excClrCnt
  | lockupClear => exact c.does fun _ c => c.lockupClear
  | lockPoint => exact c.does fun _ c => c.lockPoint
  | eclStart => exact c.does fun _ c => c.eclStart
  | eclAutoStart => exact c.does fun _ c => c.eclAuto
  | eclAbort => exact c.does fun _ c => c.eclAbort
  | eclClrcnt => exact c.does fun _ c => c.eclClrCnt
  | eclipsePass => exact c.onUnit fun _ c => c.eclPass
  | sweepGranule => exact c.does fun _ c => c.sweepGranule
  | eclPhaseAdvance => exact c.does fun _ c => c.eclAdvance
  | epochCompletion => exact c.does fun _ c => c.eclComplete
  | tallyDecisionArrival => exact c.does fun _ c => c.tallyArrive
  | combLoadComplete => exact c.does fun _ c => c.combLoaded
  | combWindowExpiry => exact c.does fun _ c => c.combWindow
  | combWritebackComplete => exact c.does fun _ c => c.combFlushed
  | unpark => exact c.does fun _ c => c.unpark
  | parkTimeout => exact c.does fun _ c => c.parkTimeout
  | tallyStatusReturn => exact c.does fun _ c => c.tallyStatusReturn
  | tallyAbort => exact c.does fun _ c => c.tallyAbort
  | tallyClrcnt => exact c.does fun _ c => c.tallyClrCnt
  | cellLineAccess => exact c.onUnit fun _ c => c.cellAccess
  | journalSequencing => exact c.does fun _ c => c.jrnSequence
  | sealRecord => exact c.does fun _ c => c.sealRecord
  | durabilityPoint => exact c.does fun _ c => c.jrnDurable
  | journalDupcmp => exact c.does fun _ c => c.jrnDupcmp
  | epochOpen => exact c.does fun _ c => c.epochOpen
  | jrnSealCmd => exact c.does fun _ c => c.jrnSealCmd
  | jrnClrcnt => exact c.does fun _ c => c.jrnClrCnt
  | jrnReplWrite => exact c.onUnit fun _ c => c.jrnReplWrite
  | jrnLookup => exact c.does fun _ c => c.jrnLookup
  | lookupComplete => exact c.does fun _ c => c.lookupDone
  | entrySend => exact c.does fun _ c => c.entrySend
  | entry => exact c.does fun _ c => c.entryIn
  | entryAck => exact c.does fun _ c => c.entryAck
  | ackTimeout => exact c.does fun _ c => c.ackTimeout
  | drainFrame => exact c.does fun _ c => c.drainFrame
  | archiveAck => exact c.does fun _ c => c.archiveAck
  | archiveRetransmit => exact c.does fun _ c => c.archiveRetx
  | drawRequest => exact c.does fun _ c => c.drawRequest
  | drawComplete => exact c.does fun _ c => c.drawComplete
  | glintStartupTest => exact c.does fun _ c => c.glintStartup
  | healthFailure => exact c.does fun _ c => c.healthFailure
  | drawDupcmp => exact c.does fun _ c => c.drawDupcmp
  | drwClrcnt => exact c.does fun _ c => c.drwClrCnt
  | arbDecision => exact c.onUnit fun _ c => c.arbDecide
  | arbCommit => exact c.does fun _ c => c.arbCommit
  | commitArrival => exact c.onUnit fun _ c => c.commitArrive
  | holdMonitor => exact c.onUnit fun _ c => c.holdMonitor
  | refresh => exact c.onUnit fun _ c => c.refreshDue
  | patrolScrub => exact c.onUnit fun _ c => c.patrol
  | mchClrcnt => exact c.does fun _ c => c.mchClrCnt
  | ptClrcnt => exact c.does fun _ c => c.ptClrCnt
  | trClrcnt => exact c.does fun _ c => c.trClrCnt
  | registerWrite => exact c.onUnit fun _ c => c.devWrite
  | fabricTimeout => exact c.does fun _ c => c.fabricTimeout
  | powerGood => exact c.does fun _ c => c.powerGood
  | strapSample => exact c.does fun _ c => c.strapSample
  | selftest => exact c.does fun _ c => c.selfTest
  | dramInit => exact c.does fun _ c => c.dramInit
  | imageVerify => exact c.does fun _ c => c.imageVerify
  | senStart => exact c.does fun _ c => c.senStart
  | measurementLogClose => exact c.does fun _ c => c.logClose
  | strapCheck => exact c.does fun _ c => c.strapCheck
  | governorPass => exact c.does fun _ c => c.governorPass
  | senNqHi => exact c.onUnit fun _ c => c.nqRead
  | rstreq => exact c.does fun _ c => c.resetRequest
  | lcQuery => exact c.onUnit fun _ c => c.lcQuery
  | attest => exact c.onUnit fun _ c => c.attest
  | jexport => exact c.onUnit fun _ c => c.jexport
  | keygen => exact c.onUnit fun _ c => c.keygen
  | rawCapture => exact c.onUnit fun _ c => c.rawCapture
  | provision => exact c.onUnit fun _ c => c.provision
  | certify => exact c.onUnit fun _ c => c.certify
  | policySet => exact c.onUnit fun _ c => c.policySet
  | keySet => exact c.onUnit fun _ c => c.keySet
  | mcCommit => exact c.onUnit fun _ c => c.mcCommit
  | takeover => exact c.onUnit fun _ c => c.takeoverCmd
  | debugChallenge => exact c.onUnit fun _ c => c.debugChallenge
  | debugUnlock => exact c.onUnit fun _ c => c.debugUnlock
  | debugLock => exact c.onUnit fun _ c => c.debugLock
  | debugUnlockExpiry => exact c.does fun _ c => c.unlockExpiry
  | debugChallengeExpiry => exact c.does fun _ c => c.challengeExpiry
  | alarmRecover => exact c.onUnit fun _ c => c.alarmRecover
  | reset => exact c.onUnit fun _ c => c.resetCmd
  | imgStage => exact c.onUnit fun _ c => c.imgStage
  | retire => exact c.onUnit fun _ c => c.retire
  | fwStage => exact c.onUnit fun _ c => c.fwStage
  | mcStage => exact c.onUnit fun _ c => c.mcStage
  | cfgSet => exact c.onUnit fun _ c => c.cfgSet
  | telemRead => exact c.onUnit fun _ c => c.telemRead
  | detach => exact c.onUnit fun _ c => c.detachCmd
  | presence => exact c.does fun _ c => c.presence
  | powerReq => exact c.does fun _ c => c.powerReq
  | sensorRead => exact c.does fun _ c => c.sensorRead
  | ledSet => exact c.does fun _ c => c.ledSet
  | mgmtSegment => exact c.onUnit fun _ c => c.mgmtSegment
  | mgmtTimeout => exact c.onUnit fun _ c => c.mgmtTimeout
  | debugAccess => exact c.does fun _ c => c.debugAccess
  | alarmDetection => exact c.onUnit fun _ c => c.detect
  | umbraErase => exact c.does fun _ c => c.umbraErase
  | alarmHoldBoot => exact c.does fun _ c => c.alarmHoldBoot
  | frameReceive => exact c.onUnit fun _ c => c.frameIn
  | portLinkDown => exact c.onUnit fun _ c => c.portDown
  | netRxqCfgWrite => exact c.onUnit fun _ c => c.rxqWrite
  | netTxqTail => exact c.onUnit fun _ c => c.plainWrite
  | txFrameSent => exact c.onUnit fun _ c => c.txSent
  | sync => exact c.onUnit fun _ c => c.timeSync
  | followUp => exact c.onUnit fun _ c => c.followUp
  | delayResp => exact c.onUnit fun _ c => c.delayResp
  | holdover => exact c.does fun _ c => c.holdover
  | hbSqDb => exact c.onUnit fun _ c => c.doorbell
  | hbCqHead => exact c.onUnit fun _ c => c.cqHead
  | hbDrHead => exact c.onUnit fun _ c => c.drHead
  | hostBar0Write => exact c.does fun _ c => c.bar0Write
  | pciSqTail => exact c.onUnit fun _ c => c.sqWrite
  | hostDelivery => exact c.onUnit fun _ c => c.hostDelivery
  | deliveryRingStall => exact c.onUnit fun _ c => c.deliveryStall
  | pcieLinkDown => exact c.does fun _ c => c.pcieDown
  | flit => exact c.onUnit fun _ c => c.flitIn
  | flitReplay => exact c.onUnit fun _ c => c.flitReplay
  | cwlLinkUp => exact c.onUnit fun _ c => c.cwlUp
  | cwlLinkDown => exact c.onUnit fun _ c => c.cwlDown
  | heartbeatSend => exact c.does fun _ c => c.heartbeatSend
  | heartbeat => exact c.onUnit fun _ c => c.heartbeatIn
  | partnerLoss => exact c.does fun _ c => c.partnerLoss
  | autoTakeover => exact c.does fun _ c => c.autoTakeover
  | cwlTakeover => exact c.does fun _ c => c.takeoverIn
  | joinReq => exact c.does fun _ c => c.joinReq
  | joinResp => exact c.does fun _ c => c.joinRespIn
  | cwlDetach => exact c.does fun _ c => c.detachIn
  | fwdReq => exact c.does fun _ c => c.fwdReq
  | fwdReceipt => exact c.does fun _ c => c.fwdReceipt
  | fwdStatus => exact c.does fun _ c => c.fwdStatus
  | cwlWrite => exact c.does fun _ c => c.cwlWriteIn
  | writeDone => exact c.does fun _ c => c.writeDoneIn
  | cwlPost => exact c.does fun _ c => c.postIn
  | insertion => exact c.does fun _ c => c.insertion
  | rampTimeout => exact c.does fun _ c => c.rampFail
  | presNRelease => exact c.does fun _ c => c.presRelease
  | vinUndervoltage => exact c.does fun _ c => c.setVin.powerLoss
  | vinOvervoltage => exact c.does fun _ c => c.setVin.powerLoss
  | overCurrentTrip => exact c.does fun _ c => c.powerLoss
  | thermalTrip => exact c.does fun _ c => c.powerLoss
  | shutdownRecord => exact c.does fun _ c => c.shutdownRecord
  | autoRestart => exact c.does fun _ c => c.autoRestart
  | fastLimit => exact c.does fun _ c => c.fastLimit
  | park => exact c.does fun _ c => c.parkAt
  | eject => exact c.does fun _ c => c.eject
  | pwrDetach => exact c.does fun _ c => c.pwrDetach
  | unforce => exact c.does fun _ c => c.unforce
  | pwrClrcnt => exact c.does fun _ c => c.pwrClrCnt
  | drainLimit => exact c.does fun _ c => c.drainLimit
  | readyToRemove => exact c.does fun _ c => c.removeReady
  | holdupMeasure => exact c.does fun _ c => c.holdup
  | railExcursion => exact c.onUnit fun _ c => c.railExcursion
  | refclkLoss => exact c.does fun _ c => c.refclkLoss
  | clkRatio => exact c.onUnit fun _ c => c.plainWrite
  | portLinkUp => exact c.onUnit fun _ c => c.portUp
  | pcieLinkUp => exact c.does fun _ c => c.pcieUp
  | regKeyChange => exact c.does fun _ c => c.regKey
  | timeUncertain => exact c.does fun _ c => c.timeUncertain
  | l3Scrub => exact c.does fun _ c => c.l3Scrub
  | securityMonitorMiscompare => exact c.does fun _ c => c.monitorMiscompare
  | alarmSourceInactive => exact c.onUnit fun _ c => c.sourceInactive
  | powerGoodTimeout => exact c.does fun _ c => c.rampFail
  | rampRetry => exact c.does fun _ c => c.rampRetry
  | clockLowTimeout => exact c.does fun _ c => c
  | segmentAcknowledgement => exact c.onUnit fun _ c => c.segAckIn
  | outsideRecommendedConditions => exact c.does fun _ c => c.outsideEnv
  | _ => exact c.syllable rfl rfl

/-- Every step leaves the memory canonical: of a pending command, or of none. -/
theorem step (c : MemoryCanonical s) (h : step s = .next t) : MemoryCanonical t := by
  unfold Machine.step at h
  split at h
  · cases h; exact c.idle
  · exact c.same.exec _ h

end Sys2Proof.MemoryCanonical

namespace Sys2Proof
open Sys2Proof.Machine

/-- Settles O59: each operation of the model that writes a map of the memory does so by `smSet`, `writeBytes`, `writeLE`, a filter
or `[]`, which keep the canonical form, and every command is made of such operations. -/
theorem everyStepKeepsMemoryCanonical : Obligations.EveryStepKeepsMemoryCanonical := fun _ _ c h => c.step h

end Sys2Proof
end

section
/-!
PROOFS. An `ECLIPSE.R` that begins an event handler, where its entry lets another event come (O32).
-/
namespace Sys2Proof.Laws
open Sys2Proof.Machine
open Sys2Proof (Instr)

/-! ## Eclipsing plain pages -/

/-- Marking granules changes the bitmap alone. -/
theorem markGranules_eq (v : Bool) (n : Nat) : ∀ (s : State) (g : Nat), ∃ bm, s.markGranules g v n = { s with bitmap := bm } := by
  induction n with
  | zero => intro s g; exact ⟨s.bitmap, rfl⟩
  | succ n ih =>
    intro s g
    obtain ⟨bm, h⟩ := ih { s with bitmap := smSet (always false) s.bitmap g v } (g + 1)
    exact ⟨bm, h⟩

/-- In bare mode a store to DRAM translates to itself (R309). -/
theorem xlate_bare_store {s : State} {v : Via} {va : Nat} (len : Nat) (hbare : v.ttbc % 2 = 0) (hsp : spaceOf v.pair va = .dram)
    (hlt : va < 2 ^ 41) : xlate s v .store va len = .ok ⟨va, va, len, .dram, 0, true, none⟩ s := by
  unfold xlate
  rw [if_pos hbare]
  unfold bareXlate
  rw [if_neg (by omega), hsp]
  rfl

/-- The pages of a region of plain DRAM, as many as are performed, change the bitmap alone. -/
theorem eclPages_plain {c : SCtx} {t : Nat} (v : Bool) (htop : t ≤ 2 ^ 41) (fuel : Nat) : ∀ (s : State) (n g : Nat),
    (isSentinel c.pair = true → 0x80000 ≤ g) → (s.bank c.pair c.bank).ttbc.toNat % 2 = 0 → s.latent = [] →
      ∃ bm, eclPages c v t n g s fuel = .ok () { s with bitmap := bm } := by
  induction fuel with
  | zero => intro s n g _ _ _; exact ⟨s.bitmap, rfl⟩
  | succ fuel ih =>
    intro s n g hsen hbare hlat
    unfold eclPages
    by_cases hend : t ≤ g
    · rw [if_pos hend]; exact ⟨s.bitmap, rfl⟩
    · rw [if_neg hend]
      dsimp only
      rw [xlate_bare_store _ hbare (spaceOf_dram hsen (by omega)) (by omega)]
      have hread : (s.bitmapRead g).2 = s := by unfold State.bitmapRead; rw [if_pos hlat]
      dsimp only
      rw [hread, if_neg (by simp)]
      obtain ⟨bm, hmark⟩ := markGranules_eq v ((min ((g / 4096 + 1) * 4096) t - g) / 16) s (g / 16)
      rw [hmark]
      exact ih { s with bitmap := bm } _ _ (fun h => le_trans (hsen h) (by omega)) hbare hlat

/-- Where an event may come before the pages of a region are done, the release changes pairs and the bitmap, and takes one free value
for how many pages it performs (R83, log 17). -/
theorem eclRegion_choice {s : State} {c : SCtx} {a : Cap} (cd : Nat) (hprog : (s.bank c.pair c.bank).prog = 0)
    (htop : a.top ≤ 2 ^ 41) (hsen : isSentinel c.pair = true → 0x80000 ≤ a.base) (hbare : (s.bank c.pair c.bank).ttbc.toNat % 2 = 0)
    (hlat : s.latent = []) (hmany : 1 < (a.top + 4095) / 4096 - a.base / 4096) (hmay : s.eventMayCome c.pair = true) :
    ∃ l ps bm, eclRegion c a false (fun u => .ok false (u.setX c.pair c.bank cd 0)) s =
      .ok l { s with pairs := ps, bitmap := bm, free := s.free + 1 } := by
  obtain ⟨n, hslots⟩ : ∃ n, s.slotsNow c ((a.top + 4095) / 4096 - a.base / 4096) = (n, { s with free := s.free + 1 }) := by
    unfold State.slotsNow
    rw [hmay, if_neg (by simp; omega)]
    exact ⟨_, rfl⟩
  obtain ⟨bm, hpages⟩ := eclPages_plain (c := c) false htop n { s with free := s.free + 1 } 0 a.base hsen hbare hlat
  unfold eclRegion
  dsimp only
  rw [hprog, if_pos rfl, hslots]
  dsimp only
  rw [hpages]
  unfold Res.bind
  dsimp only
  split
  · exact ⟨true, _, bm, rfl⟩
  · unfold State.progDone
    split
    · exact ⟨false, _, bm, rfl⟩
    · exact ⟨false, _, bm, rfl⟩

/-- An `ECLIPSE.R` of several pages in whose issued state an event may come completes, and takes one free value. -/
theorem eclipseR_takes_free_value {s : State} {p b : Nat} {cd cs1 cs2 : RegIx} (hq : Quiet s) (hi : Issues (.eclipseR p cd cs1 cs2) p b s)
    (hcheck : eclCheck (s.src p b cs1.toNat) = none) (htop : (s.src p b cs1.toNat).top ≤ 2 ^ 41)
    (hsen : isSentinel p = true → 0x80000 ≤ (s.src p b cs1.toNat).base) (hbare : (s.bank p b).ttbc.toNat % 2 = 0)
    (hprog : (s.bank p b).prog = 0) (hlat : s.latent = []) (hlo : 1 ≤ (s.srcX p b cs2.toNat).toNat)
    (hhi : (s.srcX p b cs2.toNat).toNat ≤ (s.rd Addr.ECL_EPOCH_DONE).toNat)
    (hmany : 1 < ((s.src p b cs1.toNat).top + 4095) / 4096 - (s.src p b cs1.toNat).base / 4096)
    (hmay : (issued s p b).eventMayCome p = true) : ∃ t, exec (.eclipseR p cd cs1 cs2) s = .next t ∧ t.free = s.free + 1 := by
  have hv := sameButSequencing_issued s p b
  obtain ⟨-, -, -, -, -, -, -, -, -, -, -, -, -, -, -, hfree, -⟩ := hv.sameUnits
  obtain ⟨n, hn⟩ : ∃ n, infoOf (.eclipseR p cd cs1 cs2) = some n := ⟨_, rfl⟩
  have hdone : (issued s p b).rd Addr.ECL_EPOCH_DONE = s.rd Addr.ECL_EPOCH_DONE := State.rd_of_dev hv.sameUnits.1 _
  obtain ⟨l, ps, bm, hregion⟩ := eclRegion_choice (s := issued s p b) (c := (issued s p b).ctxFor p b n) cd.toNat
    ((congrArg Bank.prog (hv.bank_eq p b)).trans hprog) htop hsen ((congrArg (·.ttbc.toNat % 2) (hv.bank_eq p b)).trans hbare)
    (hv.latent_eq.trans hlat) hmany hmay
  have hbody : eclipseRelease cd cs1 cs2 ((issued s p b).ctxFor p b n) (issued s p b) =
      .ok l { issued s p b with pairs := ps, bitmap := bm, free := (issued s p b).free + 1 } := by
    unfold eclipseRelease
    dsimp only
    rw [show (issued s p b).src ((issued s p b).ctxFor p b n).pair ((issued s p b).ctxFor p b n).bank cs1.toNat = s.src p b cs1.toNat
        from src_issued s p b _,
      show (issued s p b).srcX ((issued s p b).ctxFor p b n).pair ((issued s p b).ctxFor p b n).bank cs2.toNat = s.srcX p b cs2.toNat
        from srcX_issued s p b _, hcheck, hdone, decide_eq_true hlo, decide_eq_true hhi]
    simpa using hregion
  have hrest : AtRest s { issued s p b with pairs := ps, bitmap := bm, free := (issued s p b).free + 1 } := hv.atRest hq
  obtain ⟨-, -, -, -, -, -, -, -, -, -, -, -, -, -, -, hend, -⟩ := (sameButSequencing_ended hrest.1 n.load p).sameUnits
  exact ⟨_, syllableCompletes _ p b s _ n _ l rfl hi hn rfl hbody hrest, hend.trans (congrArg (· + 1) hfree)⟩

/-! ## The handler's first bundle -/

/-- Pair 5 about to run the first bundle of the handler that event 9 of channel 5 entered: its task, 7, cannot take a second event
now, so the post that waits in channel 5 is no work. `EVD_SLOT` of the channel has since been written for task 8, of a higher priority
(R257). -/
def handlerStarts : State :=
  let k : Bank := { bankReset with
    st := .running, task := some 7, status := 0, deliv := some 9, regs := [(7, intCap 5), (19, mintCap 0xFFFF 0 0x40000 0x42000)] }
  let s := (((State.reset.setBank 5 2 k).updPair 5 (fun v => { v with run := some 2 })).wr Addr.ECL_EPOCH_DONE 5).wr Addr.EVD_CTRL 1
  { s.wr (Addr.EVD_SLOT 5) 8 with evd := { s.evd with
    tasks := [(7, some ⟨nullCap, 0, true, 3, 5⟩), (8, some ⟨nullCap, 0, true, 9, 5⟩)]
    slots := [(5, 7)]
    posts := [⟨5, [], none, 0, none, 0⟩]
    delivs := [⟨9, 5, 7, 0, [], 5, none, 3, true, true, false, 0, none, none, 0⟩] } }

theorem quiet_handlerStarts : Quiet handlerStarts := by unfold Quiet; decide +kernel

theorem issues_handlerStarts : Issues (.eclipseR 5 3 19 7) 5 2 handlerStarts :=
  ⟨by decide, by decide +kernel, by decide +kernel, _, rfl, by decide +kernel, by decide⟩

/-- No event may come before the bundle; the entry makes the channel's next slot active, and then one may. -/
theorem eventMayCome_handlerStarts : handlerStarts.eventMayCome 5 = false ∧ (issued handlerStarts 5 2).eventMayCome 5 = true := by
  decide +kernel

/-- What the handler names and reads is within the premises of O32. -/
theorem operands_handlerStarts : eclCheck (handlerStarts.src 5 2 (19 : RegIx).toNat) = none ∧
    (handlerStarts.src 5 2 (19 : RegIx).toNat).base = 0x40000 ∧ (handlerStarts.src 5 2 (19 : RegIx).toNat).top = 0x42000 ∧
    (handlerStarts.srcX 5 2 (7 : RegIx).toNat).toNat = 5 ∧ (handlerStarts.rd Addr.ECL_EPOCH_DONE).toNat = 5 := by decide +kernel

end Sys2Proof.Laws

namespace Sys2Proof
open Sys2Proof.Machine Sys2Proof.Laws

/-- Refutes O32 at its second clause: the premise that no event may come speaks of the state before the command, and the issue of a
handler's first bundle makes the next copy of its channel's slot active (R257), after which an event may come. The release then takes
a free value for the pages that it performs before it (log 17), so `SameUnits` fails. -/
theorem not_eclipseSyllables : ¬ Obligations.EclipseSyllables := by
  intro h
  obtain ⟨hcheck, hbase, htop, hticket, hdone⟩ := operands_handlerStarts
  have hprog : (handlerStarts.bank 5 2).prog = 0 := by decide +kernel
  have hbare : (handlerStarts.bank 5 2).ttbc.toNat % 2 = 0 := by decide +kernel
  have hlo := hticket.ge.trans' (show 1 ≤ 5 by decide)
  have hhi := hticket.trans_le hdone.ge
  have hphys := htop.trans_le (show 0x42000 ≤ 2 ^ 41 by decide)
  obtain ⟨-, hrelease, -⟩ := h 5 2 3 19 7 handlerStarts _ _ rfl rfl quiet_handlerStarts hcheck hphys (by decide) hbare hprog rfl
    eventMayCome_handlerStarts.1
  obtain ⟨t, ht, -, -, -, -, -, hunits⟩ := hrelease hlo hhi issues_handlerStarts
  obtain ⟨u, hu, hfree⟩ := eclipseR_takes_free_value quiet_handlerStarts issues_handlerStarts hcheck hphys (by decide) hbare hprog rfl
    hlo hhi (by rw [htop, hbase]; decide) eventMayCome_handlerStarts.2
  obtain rfl : t = u := by injection ht.symm.trans hu
  obtain ⟨-, -, -, -, -, -, -, -, -, -, -, -, -, -, -, hsame, -⟩ := hunits
  omega

end Sys2Proof
end

section
/-!
PROOFS. Eclipse epochs: their registers, starts, aborts and phases (O39).
-/
namespace Sys2Proof.Laws
open Sys2Proof.Machine
open Sys2Proof (Instr)

/-! ## Fields inside a field -/

theorem bitsAt_setBitsAt_inside (x lo w v lo' w' : Nat) (h : lo ≤ lo') (k : lo' + w' ≤ lo + w) :
    bitsAt (setBitsAt x lo w v) lo' w' = bitsAt v (lo' - lo) w' := by
  refine Nat.eq_of_testBit_eq fun i => ?_
  rw [testBit_bitsAt, testBit_bitsAt, testBit_setBitsAt]
  by_cases hi : i < w'
  · rw [if_pos (by omega), Nat.sub_add_comm h]
  · simp [hi]

theorem fld_setFld_inside (s : State) (a lo w v lo' w' : Nat) (hw : lo + w ≤ 64) (h : lo ≤ lo') (k : lo' + w' ≤ lo + w) :
    (s.setFld a lo w v).fld a lo' w' = bitsAt v (lo' - lo) w' := by
  unfold State.fld; rw [toNat_rd_setFld s a lo w v hw, bitsAt_setBitsAt_inside _ _ _ _ _ _ h k]

/-! ## Effects on the sweeper, its registers, pairs and the journal's queue -/

/-- The registers that the command's end looks at: those of `endRegs`, and those that HB_STATUS shows. -/
def restRegs : List Nat := [Addr.PCI_CTRL, Addr.PWR_STATUS] ++ endRegs

/-- What leaves those registers, the link, the host and the pending command alone leaves nothing for the command's end. -/
theorem atRest_of_rd {s t : State} (hq : Quiet s) (hout : t.out = []) (hpend : t.sec.pend = s.sec.pend) (hcwl : t.cwl = s.cwl)
    (hnet : t.net = s.net) (hrd : ∀ a ∈ restRegs, t.rd a = s.rd a) : AtRest s t := by
  refine ⟨hout, quiet_of_rd hq hpend hcwl fun a ha => hrd a (List.mem_append_right _ ha), ?_⟩
  unfold State.hbStatus State.pwrState State.hb
  rw [fld_of_rd (hrd Addr.PCI_CTRL (by decide)), fld_of_rd (hrd Addr.PWR_STATUS (by decide)), hnet]

/-- Two states that differ in the sweeper, pairs, the journal and the registers of a list alone. -/
def EclEffect (l : List Nat) (s t : State) : Prop :=
  (∃ d w ps j, t = { s with dev := d, sweep := w, pairs := ps, jrn := j }) ∧ ∀ a, a ∉ l → t.rd a = s.rd a

namespace EclEffect

theorem refl (l : List Nat) (s : State) : EclEffect l s s := ⟨⟨s.dev, s.sweep, s.pairs, s.jrn, rfl⟩, fun _ _ => rfl⟩

theorem of_dev {l : List Nat} {s t : State} (h : t.dev = s.dev) (he : ∃ w ps j, t = { s with sweep := w, pairs := ps, jrn := j }) :
    EclEffect l s t := by
  obtain ⟨w, ps, j, rfl⟩ := he
  exact ⟨⟨s.dev, w, ps, j, rfl⟩, fun a _ => State.rd_of_dev h a⟩

theorem wr {l : List Nat} (s : State) {a : Nat} (v : Word) (h : a ∈ l) : EclEffect l s (s.wr a v) :=
  ⟨⟨_, s.sweep, s.pairs, s.jrn, rfl⟩, fun b hb => by rw [State.rd_wr, if_neg]; rintro rfl; exact hb h⟩

theorem setFld {l : List Nat} (s : State) {a : Nat} (lo w v : Nat) (h : a ∈ l) : EclEffect l s (s.setFld a lo w v) := wr s _ h

theorem updSweep (l : List Nat) (s : State) (f : Sweeper → Sweeper) : EclEffect l s (s.updSweep f) :=
  of_dev rfl ⟨f s.sweep, s.pairs, s.jrn, rfl⟩

variable {l : List Nat} {s t u : State}

theorem trans (h : EclEffect l s t) (k : EclEffect l t u) : EclEffect l s u := by
  obtain ⟨⟨d, w, ps, j, rfl⟩, hr⟩ := h
  obtain ⟨⟨d', w', ps', j', rfl⟩, kr⟩ := k
  exact ⟨⟨d', w', ps', j', rfl⟩, fun a ha => (kr a ha).trans (hr a ha)⟩

variable (h : EclEffect l s t)
include h

theorem latent_eq : t.latent = s.latent := by obtain ⟨⟨d, w, ps, j, rfl⟩, -⟩ := h; rfl
theorem bitmap_eq : t.bitmap = s.bitmap := by obtain ⟨⟨d, w, ps, j, rfl⟩, -⟩ := h; rfl
theorem sameMemory : SameMemory s t := by obtain ⟨⟨d, w, ps, j, rfl⟩, -⟩ := h; exact ⟨SameMaps.refl _, rfl⟩

theorem atRest (hl : ∀ a ∈ restRegs, a ∉ l) (hq : Quiet s) (hout : s.out = []) : AtRest s t := by
  obtain ⟨⟨d, w, ps, j, rfl⟩, hr⟩ := h
  exact atRest_of_rd hq hout rfl rfl rfl fun a ha => hr a (hl a ha)

end EclEffect

/-- Such an effect as a command leaves its state: the command's end has nothing to do. -/
theorem does_of_eclEffect {l : List Nat} {s : State} {f : State → State} (h : EclEffect l { s with out := [] } (f { s with out := [] }))
    (hl : ∀ a ∈ restRegs, a ∉ l) (hq : Quiet s) : does f s = .next (f { s with out := [] }) :=
  does_at_rest rfl (h.atRest hl hq rfl)

/-- An effect that is none leaves the state but for messages gone. -/
theorem does_nothing {s : State} {f : State → State} (hq : Quiet s) (hf : f { s with out := [] } = { s with out := [] }) :
    does f s = .next { s with out := [] } := does_at_rest hf ⟨rfl, hq, rfl⟩

theorem evtPost_off {s : State} {a : Nat} (n : Nat) (h : s.fld a 15 1 = 0) : s.evtPost a n = s := by
  unfold State.evtPost; rw [h]; rfl

/-! ## Starts and aborts -/

/-- The registers that a start writes. -/
def startRegs : List Nat := [Addr.ECL_EPOCH_STARTED, Addr.ECL_STATUS, Addr.ECL_ERR]

/-- Latching roots writes device registers alone, and of them the sweeper's errors (R89, R308). -/
theorem latchRoots_eq (ns : List Nat) : ∀ s : State, ∃ d, (s.latchRoots ns).2 = { s with dev := d } ∧
    ∀ a, a ≠ Addr.ECL_ERR → (s.latchRoots ns).2.rd a = s.rd a := by
  induction ns with
  | nil => intro s; exact ⟨s.dev, rfl, fun _ _ => rfl⟩
  | cons n ns ih =>
    intro s
    obtain ⟨d, hd, hr⟩ : ∃ d, (s.latchRoot n).2 = { s with dev := d } ∧
        ∀ a, a ≠ Addr.ECL_ERR → (s.latchRoot n).2.rd a = s.rd a := by
      have hsame : ∃ d, s = { s with dev := d } ∧ ∀ a, a ≠ Addr.ECL_ERR → s.rd a = s.rd a := ⟨s.dev, rfl, fun _ _ => rfl⟩
      have hbad : ∃ d, s.setBit Addr.ECL_ERR 4 = { s with dev := d } ∧
          ∀ a, a ≠ Addr.ECL_ERR → (s.setBit Addr.ECL_ERR 4).rd a = s.rd a :=
        ⟨_, rfl, fun a ha => State.rd_setBit_ne s 4 ha⟩
      unfold State.latchRoot
      dsimp only
      split
      · exact hsame
      · split
        · exact hbad
        · split
          exacts [hbad, hsame]
    obtain ⟨d', hd', hr'⟩ := ih (s.latchRoot n).2
    exact ⟨d', hd'.trans (by rw [hd]), fun a ha => (hr' a ha).trans (hr a ha)⟩

theorem fld_updSweep (s : State) (f : Sweeper → Sweeper) (a lo w : Nat) : (s.updSweep f).fld a lo w = s.fld a lo w := rfl

theorem rd_updSweep (s : State) (f : Sweeper → Sweeper) (a : Nat) : (s.updSweep f).rd a = s.rd a := rfl

theorem updSweep_pairs (s : State) (f : Sweeper → Sweeper) : (s.updSweep f).pairs = s.pairs := rfl

theorem updSweep_jrn (s : State) (f : Sweeper → Sweeper) : (s.updSweep f).jrn = s.jrn := rfl

/-- The cover point in its writes: the roots latched, the next number, RUNNING with phase 1, and the sweeper's own (R89). -/
theorem eclBegin_eq (s : State) : ∃ t f, (∃ d, t = { s with dev := d }) ∧ (∀ a, a ≠ Addr.ECL_ERR → t.rd a = s.rd a) ∧
    (∀ w, (f w).todo = [] ∧ (f w).freshRun = false) ∧
    s.eclBegin = (((t.wr Addr.ECL_EPOCH_STARTED (s.rd Addr.ECL_EPOCH_STARTED + 1)).setFld
      Addr.ECL_STATUS 0 4 3).setFld Addr.ECL_STATUS 7 1 0).updSweep f := by
  obtain ⟨d, hd, hr⟩ := latchRoots_eq (List.range 64) s
  have hn : BitVec.ofNat 64 ((s.rd Addr.ECL_EPOCH_STARTED).toNat + 1) = s.rd Addr.ECL_EPOCH_STARTED + 1 := by
    rw [BitVec.ofNat_add, BitVec.ofNat_toNat, BitVec.setWidth_eq]; rfl
  refine ⟨(s.latchRoots (List.range 64)).2, fun w => { w with
    roots := (s.latchRoots (List.range 64)).1, rate := s.fld Addr.ECL_CTRL 8 8, todo := [], freshRun := false, startedAt := s.us,
    cleared := 0 }, ⟨d, hd⟩, hr, fun _ => ⟨rfl, rfl⟩, ?_⟩
  unfold State.eclBegin
  dsimp only
  rw [hn]

/-- The cover point: the next number, phase 1 running, nothing left over of the last epoch (R89, R95, R97). -/
theorem eclBegin_spec (s : State) : EclEffect startRegs s s.eclBegin ∧
    s.eclBegin.rd Addr.ECL_EPOCH_STARTED = s.rd Addr.ECL_EPOCH_STARTED + 1 ∧ s.eclBegin.fld Addr.ECL_STATUS 0 1 = 1 ∧
    s.eclBegin.eclPhase = 1 ∧ s.eclBegin.sweep.todo = [] ∧ s.eclBegin.sweep.freshRun = false ∧
    s.eclBegin.pairs = s.pairs ∧ s.eclBegin.jrn = s.jrn := by
  obtain ⟨t, f, ⟨d, ht⟩, hr, hf, he⟩ := eclBegin_eq s
  have hroots : EclEffect startRegs s t :=
    ⟨⟨d, s.sweep, s.pairs, s.jrn, ht⟩, fun a ha => hr a fun h => ha (by rw [h]; decide)⟩
  have hno : Addr.ECL_EPOCH_STARTED ∈ startRegs := by decide
  have hst : Addr.ECL_STATUS ∈ startRegs := by decide
  unfold State.eclPhase
  rw [he]
  refine ⟨?_, ?_, ?_, ?_, ?_, ?_, ?_, ?_⟩
  · exact (((hroots.trans (.wr _ _ hno)).trans (.setFld _ _ _ _ hst)).trans (.setFld _ _ _ _ hst)).trans (.updSweep _ _ _)
  · rw [rd_updSweep, State.rd_setFld_ne _ _ _ _ (by decide), State.rd_setFld_ne _ _ _ _ (by decide), State.rd_wr, if_pos rfl]
  · rw [fld_updSweep, fld_setFld_apart _ _ _ _ _ _ _ (by decide) (by decide),
      fld_setFld_inside _ _ _ _ _ _ _ (by decide) (by decide) (by decide)]
    rfl
  · rw [fld_updSweep, fld_setFld_apart _ _ _ _ _ _ _ (by decide) (by decide),
      fld_setFld_inside _ _ _ _ _ _ _ (by decide) (by decide) (by decide)]
    rfl
  · exact (hf _).1
  · exact (hf _).2
  · rw [updSweep_pairs, State.setFld_pairs, State.setFld_pairs, State.wr_pairs, ht]
  · rw [updSweep_jrn, State.setFld_jrn, State.setFld_jrn, State.wr_jrn, ht]

end Sys2Proof.Laws
end

section
/-!
PROOFS. Eclipse epochs: commands that start, end and count them (O39).
-/
namespace Sys2Proof.Laws
open Sys2Proof.Machine
open Sys2Proof (Instr)

namespace EclEffect
variable {l : List Nat} {s u : State} (h : EclEffect l { s with out := [] } u)
include h

/-- What such an effect leaves, of the state that the command found. -/
theorem frame_of_out : { u with dev := s.dev, sweep := s.sweep, pairs := s.pairs, jrn := s.jrn, out := s.out } = s := by
  obtain ⟨⟨d, w, ps, j, rfl⟩, -⟩ := h; rfl

theorem frame_sweep (hp : u.pairs = s.pairs) (hj : u.jrn = s.jrn) : { u with dev := s.dev, sweep := s.sweep, out := s.out } = s := by
  have := h.frame_of_out
  rwa [← hp, ← hj] at this

theorem frame_dev (hw : u.sweep = s.sweep) (hp : u.pairs = s.pairs) (hj : u.jrn = s.jrn) :
    { u with dev := s.dev, out := s.out } = s := by
  have := h.frame_of_out
  rwa [← hw, ← hp, ← hj] at this

theorem frame_pairs (hw : u.sweep = s.sweep) (hj : u.jrn = s.jrn) : { u with dev := s.dev, pairs := s.pairs, out := s.out } = s := by
  have := h.frame_of_out
  rwa [← hw, ← hj] at this

theorem frame_sweep_pairs (hj : u.jrn = s.jrn) : { u with dev := s.dev, sweep := s.sweep, pairs := s.pairs, out := s.out } = s := by
  have := h.frame_of_out
  rwa [← hj] at this

theorem frame_sweep_jrn (hp : u.pairs = s.pairs) : { u with dev := s.dev, sweep := s.sweep, jrn := s.jrn, out := s.out } = s := by
  have := h.frame_of_out
  rwa [← hp] at this

end EclEffect

/-! ## Starts -/

theorem startRegs_rest : ∀ a ∈ restRegs, a ∉ startRegs := by decide

theorem statusReg_rest : ∀ a ∈ restRegs, a ∉ [Addr.ECL_STATUS] := by decide

theorem eclMayStart_out (s : State) : ({ s with out := [] } : State).eclMayStart = s.eclMayStart := rfl

section
variable {s : State} (hq : Quiet s)
include hq

/-- ECL_START opens the next epoch (R89, R95). -/
theorem exec_eclStart_begins (h : s.eclMayStart = true) : ∃ u, exec (.eclStart) s = .next u ∧
    u.rd Addr.ECL_EPOCH_STARTED = s.rd Addr.ECL_EPOCH_STARTED + 1 ∧ u.fld Addr.ECL_STATUS 0 1 = 1 ∧ u.eclPhase = 1 ∧
    u.fld Addr.ECL_STATUS 5 2 = 0 ∧ u.sweep.todo = [] ∧ u.sweep.freshRun = false ∧
    (∀ a, a ∉ startRegs → u.rd a = s.rd a) ∧ { u with dev := s.dev, sweep := s.sweep, out := s.out } = s := by
  obtain ⟨he, hno, hrun, hph, htodo, hfresh, hp, hj⟩ := eclBegin_spec { s with out := [] }
  have hf : ({ s with out := [] } : State).eclStart = ({ s with out := [] } : State).eclBegin.eclLast 0 :=
    if_pos ((eclMayStart_out s).trans h)
  have hl : EclEffect startRegs { s with out := [] } (({ s with out := [] } : State).eclBegin.eclLast 0) :=
    he.trans (.setFld _ _ _ _ (by decide))
  refine ⟨_, (does_of_eclEffect (f := fun s => s.eclStart) (hf ▸ hl) startRegs_rest hq).trans (congrArg _ hf), ?_⟩
  refine ⟨?_, ?_, ?_, ?_, htodo, hfresh, fun a ha => hl.2 a ha, hl.frame_sweep hp hj⟩
  · exact (State.rd_setFld_ne _ _ _ _ (by decide)).trans hno
  · exact (fld_setFld_apart _ _ _ _ _ _ _ (by decide) (by decide)).trans hrun
  · exact (fld_setFld_apart _ _ _ _ _ _ _ (by decide) (by decide)).trans hph
  · exact fld_setFld_same _ _ _ _ _ (by decide)

/-- A command that only answers in LASTCMD (R95, R96, R98). -/
theorem does_eclLast {f : State → State} {r : Nat} (hf : f { s with out := [] } = ({ s with out := [] } : State).eclLast r) :
    ∃ u, does f s = .next u ∧ u.fld Addr.ECL_STATUS 5 2 = r % 4 ∧ (∀ a, a ∉ [Addr.ECL_STATUS] → u.rd a = s.rd a) ∧
      { u with dev := s.dev, out := s.out } = s := by
  have he : EclEffect [Addr.ECL_STATUS] { s with out := [] } (({ s with out := [] } : State).eclLast r) :=
    .setFld _ _ _ _ (List.mem_singleton.mpr rfl)
  exact ⟨_, (does_of_eclEffect (hf ▸ he) statusReg_rest hq).trans (congrArg _ hf), fld_setFld_same _ _ _ _ _ (by decide),
    fun a ha => he.2 a ha, he.frame_dev rfl rfl rfl⟩

/-- ECL_START where no epoch may start (R95). -/
theorem exec_eclStart_ignored (h : s.eclMayStart = false) : ∃ u, exec (.eclStart) s = .next u ∧ u.fld Addr.ECL_STATUS 5 2 = 1 ∧
    (∀ a, a ∉ [Addr.ECL_STATUS] → u.rd a = s.rd a) ∧ { u with dev := s.dev, out := s.out } = s :=
  does_eclLast hq (f := fun s => s.eclStart) (r := 1) (if_neg (by rw [eclMayStart_out, h]; decide))

/-- ECL_AUTO_START opens the next epoch (R95). -/
theorem exec_eclAutoStart_begins (h : s.eclMayStart = true) (hc : s.fld Addr.ECL_CTRL 1 1 = 1) (hs : s.fld Addr.ECL_STATUS 7 1 = 0)
    (hfr : s.sweep.fresh = true) : ∃ u, exec (.eclAutoStart) s = .next u ∧
    u.rd Addr.ECL_EPOCH_STARTED = s.rd Addr.ECL_EPOCH_STARTED + 1 ∧ u.fld Addr.ECL_STATUS 0 1 = 1 ∧ u.eclPhase = 1 ∧
    (∀ a, a ∉ startRegs → u.rd a = s.rd a) ∧ { u with dev := s.dev, sweep := s.sweep, out := s.out } = s := by
  obtain ⟨he, hno, hrun, hph, -, -, hp, hj⟩ := eclBegin_spec { s with out := [] }
  have hc' : ({ s with out := [] } : State).fld Addr.ECL_CTRL 1 1 = 1 := hc
  have hs' : ({ s with out := [] } : State).fld Addr.ECL_STATUS 7 1 = 0 := hs
  have hf : ({ s with out := [] } : State).eclAuto = ({ s with out := [] } : State).eclBegin :=
    if_pos (by rw [eclMayStart_out, h, hc', hs']; exact hfr)
  exact ⟨_, (does_of_eclEffect (f := fun s => s.eclAuto) (hf ▸ he) startRegs_rest hq).trans (congrArg _ hf), hno, hrun, hph,
    fun a ha => he.2 a ha, he.frame_sweep hp hj⟩

/-- ECL_AUTO_START with no fresh revocation does nothing (R95). -/
theorem exec_eclAutoStart_stale (h : s.sweep.fresh = false) : exec (.eclAutoStart) s = .next { s with out := [] } :=
  does_nothing (f := fun s => s.eclAuto) hq (if_neg (by simp [h]))

end

/-! ## Aborts and counters -/

/-- The state at the end of an epoch that is aborted, its event aside (R96). -/
def eclEnded (s : State) : State :=
  { ((s.setFld Addr.ECL_STATUS 0 4 0).setFld Addr.ECL_STATUS 7 1 1).updSweep
      (fun w => { w with todo := [], fresh := w.fresh || w.freshRun }) with
    pairs := s.pairs.map (fun (e : Nat × Pair) => (e.1, { e.2 with passDue := false })) }

theorem eclEnded_effect (s : State) : EclEffect [Addr.ECL_STATUS] s (eclEnded s) := by
  have hst : Addr.ECL_STATUS ∈ [Addr.ECL_STATUS] := List.mem_singleton.mpr rfl
  exact (((EclEffect.setFld s 0 4 0 hst).trans (.setFld _ 7 1 1 hst)).trans (.updSweep _ _ _)).trans
    (.of_dev rfl ⟨_, _, _, rfl⟩)

/-- With events off, an abort posts none. -/
theorem eclAbortWith_eq {s : State} (h : s.fld Addr.ECL_EVT 15 1 = 0) : s.eclAbortWith = eclEnded s := by
  have hoff : (eclEnded s).fld Addr.ECL_EVT 15 1 = 0 := by
    rw [fld_of_rd ((eclEnded_effect s).2 Addr.ECL_EVT (by decide)), h]
  exact evtPost_off 0x01 hoff

/-- No pass is due on a pair of a list whose passes were all called off. -/
theorem passDue_called_off (m : List (Nat × Pair)) (q : Nat) :
    (smGet pairReset (m.map (fun e => (e.1, { e.2 with passDue := false }))) q).passDue = false := by
  induction m with
  | nil => show (pairReset q).passDue = false; unfold pairReset; split <;> rfl
  | cons e m ih =>
    simp only [List.map_cons, smGet]
    split
    · rfl
    · exact ih

section
variable {s : State} (hq : Quiet s)
include hq

/-- ECL_ABORT of a running epoch (R96). -/
theorem exec_eclAbort_running (h : s.fld Addr.ECL_STATUS 0 1 = 1) (hev : s.fld Addr.ECL_EVT 15 1 = 0) :
    ∃ u, exec (.eclAbort) s = .next u ∧ u.fld Addr.ECL_STATUS 0 4 = 0 ∧ u.fld Addr.ECL_STATUS 7 1 = 1 ∧
    u.fld Addr.ECL_STATUS 5 2 = 0 ∧ u.sweep.todo = [] ∧ (∀ q, (u.pair q).passDue = false) ∧
    u.rd Addr.ECL_EPOCH_DONE = s.rd Addr.ECL_EPOCH_DONE ∧ (∀ a, a ∉ [Addr.ECL_STATUS] → u.rd a = s.rd a) ∧
    { u with dev := s.dev, sweep := s.sweep, pairs := s.pairs, out := s.out } = s := by
  have hf : ({ s with out := [] } : State).eclAbort = (eclEnded { s with out := [] }).eclLast 0 := by
    have hr : ({ s with out := [] } : State).fld Addr.ECL_STATUS 0 1 ≠ 0 := fun h' => absurd (h.symm.trans h') (by decide)
    exact (if_neg hr).trans (congrArg (fun t => State.eclLast t 0) (eclAbortWith_eq hev))
  have he : EclEffect [Addr.ECL_STATUS] { s with out := [] } ((eclEnded { s with out := [] }).eclLast 0) :=
    (eclEnded_effect _).trans (.setFld _ _ _ _ (List.mem_singleton.mpr rfl))
  refine ⟨_, (does_of_eclEffect (f := fun s => s.eclAbort) (hf ▸ he) statusReg_rest hq).trans (congrArg _ hf), ?_⟩
  refine ⟨?_, ?_, ?_, rfl, fun q => passDue_called_off s.pairs q, he.2 _ (by decide), fun a ha => he.2 a ha,
    he.frame_sweep_pairs rfl⟩
  · refine (fld_setFld_apart _ _ _ _ _ _ _ (by decide) (by decide)).trans ?_
    exact (fld_setFld_apart _ _ _ _ _ _ _ (by decide) (by decide)).trans (fld_setFld_same _ _ _ _ _ (by decide))
  · refine (fld_setFld_apart _ _ _ _ _ _ _ (by decide) (by decide)).trans ?_
    exact fld_setFld_same _ _ _ _ _ (by decide)
  · exact fld_setFld_same _ _ _ _ _ (by decide)

/-- ECL_ABORT with no epoch running: the answer alone, IGNORED or ALREADY_COMPLETE (R96, R98). -/
theorem exec_eclAbort_idle {r : Nat} (h : s.fld Addr.ECL_STATUS 0 1 = 0) (hr : (if s.sweep.doneAt = some s.clk then 2 else 1) = r) :
    ∃ u, exec (.eclAbort) s = .next u ∧ u.fld Addr.ECL_STATUS 5 2 = r % 4 ∧
      (∀ a, a ∉ [Addr.ECL_STATUS] → u.rd a = s.rd a) ∧ { u with dev := s.dev, out := s.out } = s :=
  does_eclLast hq (f := fun s => s.eclAbort) ((if_pos h).trans (congrArg _ hr))

end

/-- The registers that ECL_CLRCNT clears. -/
def countRegs : List Nat := [Addr.ECL_CNT_GRAN, Addr.ECL_CNT_PAGES, Addr.ECL_CNT_SKIP, Addr.ECL_CNT_SWCLR, Addr.ECL_CNT_LBCLR]

/-- Registers written 0 one after another: the writes of the list read 0, and the others what they read before. -/
theorem rd_foldl_wr_zero (l : List Nat) (a : Nat) : ∀ s : State,
    (l.foldl (fun s a => s.wr a 0) s).rd a = if a ∈ l then 0 else s.rd a := by
  induction l with
  | nil => intro s; simp
  | cons b l ih =>
    intro s
    rw [List.foldl_cons, ih, State.rd_wr]
    by_cases hl : a ∈ l <;> by_cases hb : a = b <;> simp [hl, hb]

theorem foldl_wr_zero_eq (l : List Nat) : ∀ s : State, ∃ d, l.foldl (fun s a => s.wr a 0) s = { s with dev := d } := by
  induction l with
  | nil => intro s; exact ⟨s.dev, rfl⟩
  | cons b l ih =>
    intro s
    obtain ⟨d, hd⟩ := ih (s.wr b 0)
    exact ⟨d, hd⟩

/-- The counters cleared, in front of the answer. -/
theorem eclClrCnt_spec (s : State) : ∃ t, s.eclClrCnt = t.eclLast 0 ∧ (∃ d, t = { s with dev := d }) ∧
    ∀ a, t.rd a = if a ∈ countRegs then 0 else s.rd a :=
  ⟨countRegs.foldl (fun s a => s.wr a 0) s, rfl, foldl_wr_zero_eq _ _, fun a => rd_foldl_wr_zero _ a s⟩

/-- ECL_CLRCNT (R100). -/
theorem exec_eclClrcnt {s : State} (hq : Quiet s) : ∃ u, exec (.eclClrcnt) s = .next u ∧ (∀ a ∈ countRegs, u.rd a = 0) ∧
    (∀ a, a ∉ countRegs ++ [Addr.ECL_STATUS] → u.rd a = s.rd a) ∧ { u with dev := s.dev, out := s.out } = s := by
  obtain ⟨t, hf, ⟨d, ht⟩, hr⟩ := eclClrCnt_spec { s with out := [] }
  have he : EclEffect (countRegs ++ [Addr.ECL_STATUS]) { s with out := [] } (t.eclLast 0) :=
    EclEffect.trans ⟨⟨d, _, _, _, ht⟩, fun a ha => (hr a).trans (if_neg fun h => ha (List.mem_append_left _ h))⟩
      (.setFld _ _ _ _ (by decide))
  refine ⟨_, (does_of_eclEffect (f := fun s => s.eclClrCnt) (hf ▸ he) (by decide) hq).trans (congrArg _ hf), fun a ha => ?_,
    fun a ha => he.2 a ha, ?_⟩
  · have hne : a ≠ Addr.ECL_STATUS := fun h => absurd (h ▸ ha) (by decide)
    exact (State.rd_setFld_ne _ _ _ _ hne).trans ((hr a).trans (if_pos ha))
  · subst ht
    exact he.frame_dev rfl rfl rfl

end Sys2Proof.Laws
end

section
/-!
PROOFS. Eclipse epochs: the pass over a pair (O39).
-/
namespace Sys2Proof.Laws
open Sys2Proof.Machine
open Sys2Proof (Instr)

/-! ## What a pass does to one capability (R81, R92) -/

/-- In bare mode with no latent error, is the capability revoked (R81)? -/
def bareRevoked (s : State) (p : Nat) (c : Cap) : Bool :=
  c.tag && !c.malformed && !neverRevoked c && decide (c.base < 2 ^ 44) && decide (spaceOf p c.base = .dram) && s.eclipsed c.base

/-- A capability as a pass leaves it. -/
def swept (s : State) (p : Nat) (c : Cap) : Cap := if bareRevoked s p c then c.untag else c

theorem swept_bits (s : State) (p : Nat) (c : Cap) : (swept s p c).bits = c.bits := by unfold swept; split <;> rfl

theorem bareRevoked_untagged (s : State) (p : Nat) {c : Cap} (h : c.tag = false) : bareRevoked s p c = false := by
  simp [bareRevoked, h]

theorem swept_untagged (s : State) (p : Nat) {c : Cap} (h : c.tag = false) : swept s p c = c := by
  rw [swept, bareRevoked_untagged s p h]; rfl

theorem swept_swept (s : State) (p : Nat) (c : Cap) : swept s p (swept s p c) = swept s p c := by
  by_cases h : bareRevoked s p c = true
  · exact swept_untagged s p (by rw [swept, if_pos h]; rfl)
  · have hsame : swept s p c = c := if_neg h
    rw [hsame, hsame]

theorem swept_of_eclipsed {s : State} {p : Nat} {c : Cap} (htag : c.tag = true) (hm : c.malformed = false)
    (hn : neverRevoked c = false) (hsp : spaceOf p c.base = .dram) (hb : c.base < 2 ^ 44) (he : s.eclipsed c.base = true) :
    (swept s p c).tag = false := by
  have h : bareRevoked s p c = true := by
    unfold bareRevoked
    rw [htag, hm, hn, hsp, he, decide_eq_true hb]
    rfl
  rw [swept, if_pos h]; rfl

theorem swept_of_not_eclipsed {s : State} (p : Nat) {c : Cap} (he : s.eclipsed c.base = false) : swept s p c = c := by
  rw [swept, if_neg (by simp [bareRevoked, he])]

theorem swept_of_bitmap {s t : State} (h : t.bitmap = s.bitmap) (p : Nat) (c : Cap) : swept t p c = swept s p c := by
  unfold swept bareRevoked State.eclipsed; rw [h]

/-! ## Registers, banks and the pair -/

/-- What a pass does outside of its pair: the count of tags cleared. -/
def Cleared (s t : State) : Prop := EclEffect [Addr.ECL_CNT_SWCLR] s t ∧ t.pairs = s.pairs

namespace Cleared

theorem refl (s : State) : Cleared s s := ⟨.refl _ _, rfl⟩

theorem swClr (s : State) : Cleared s s.swClr :=
  ⟨(EclEffect.setFld s 0 64 _ (List.mem_singleton.mpr rfl)).trans (.of_dev rfl ⟨_, s.pairs, s.jrn, rfl⟩), rfl⟩

theorem trans {s t u : State} (h : Cleared s t) (k : Cleared t u) : Cleared s u := ⟨h.1.trans k.1, k.2.trans h.2⟩

end Cleared

section
variable {p ttbc : Nat} (hbare : ttbc % 2 = 0)
include hbare

theorem revoked_eq_bareRevoked {s : State} (hlat : s.latent = []) (c : Cap) : s.revoked p ttbc c = (bareRevoked s p c, s) :=
  revoked_bare hbare hlat

theorem sweepCap_cleared {s : State} (hlat : s.latent = []) (c : Cap) : Cleared s (s.sweepCap p ttbc c).2 := by
  unfold State.sweepCap
  rw [revoked_eq_bareRevoked hbare hlat]
  cases bareRevoked s p c with
  | true => exact .swClr s
  | false => exact .refl s

theorem sweepRegsFrom_spec (ns : List Nat) : ∀ (s : State) (k : Bank), s.latent = [] →
    Cleared s (sweepRegsFrom s p ttbc k ns).2 ∧ (sweepRegsFrom s p ttbc k ns).1.ttbc = k.ttbc ∧
    ∀ m, (sweepRegsFrom s p ttbc k ns).1.reg m = if m ∈ ns then swept s p (k.reg m) else k.reg m := by
  induction ns with
  | nil => intro s k _; exact ⟨.refl s, rfl, fun m => by simp [sweepRegsFrom]⟩
  | cons n ns ih =>
    intro s k hlat
    obtain ⟨t, k', hrun, hcl, httbc, hreg⟩ : ∃ t k', sweepRegsFrom s p ttbc k (n :: ns) = sweepRegsFrom t p ttbc k' ns ∧
        Cleared s t ∧ k'.ttbc = k.ttbc ∧ ∀ m, k'.reg m = if m = n then swept s p (k.reg m) else k.reg m := by
      cases hrev : bareRevoked s p (k.reg n) with
      | true =>
        refine ⟨s.swClr, k.setReg n (k.reg n).untag, ?_, .swClr s, ?_, fun m => ?_⟩
        · rw [sweepRegsFrom, revoked_eq_bareRevoked hbare hlat, hrev]
        · unfold Bank.setReg; split <;> rfl
        · rw [Bank.reg_setReg]
          by_cases hm : m = 0
          · subst hm; simp [swept_untagged s p (c := nullCap) rfl]
          · by_cases hn : m = n
            · subst hn; simp [hm, swept, hrev]
            · simp [hm, hn]
      | false =>
        refine ⟨s, k, ?_, .refl s, rfl, fun m => ?_⟩
        · rw [sweepRegsFrom, revoked_eq_bareRevoked hbare hlat, hrev]
        · by_cases hn : m = n
          · subst hn; simp [swept, hrev]
          · simp [hn]
    obtain ⟨hcl', httbc', hreg'⟩ := ih t k' (hcl.1.latent_eq.trans hlat)
    rw [hrun]
    refine ⟨hcl.trans hcl', httbc'.trans httbc, fun m => ?_⟩
    rw [hreg', hreg, swept_of_bitmap hcl.1.bitmap_eq]
    by_cases hn : m = n <;> by_cases hm : m ∈ ns <;> simp [hn, hm, swept_swept]

end

/-- A bank swept: its registers but c0, its translation as it was. -/
theorem sweepBank_spec {s : State} {p : Nat} {k : Bank} (hlat : s.latent = []) (hbare : k.ttbc.toNat % 2 = 0) :
    Cleared s (s.sweepBank p k).2 ∧ (s.sweepBank p k).1.ttbc = k.ttbc ∧
    ∀ m, (s.sweepBank p k).1.reg m = if 1 ≤ m ∧ m < 32 then swept s p (k.reg m) else k.reg m := by
  obtain ⟨hcl, httbc, hreg⟩ := sweepRegsFrom_spec hbare (p := p) ((List.range 31).map (· + 1)) s k hlat
  have hcap : ∀ {t : State} (c : Cap), Cleared s t → Cleared s (t.sweepCap p k.ttbc.toNat c).2 := fun c h =>
    h.trans (sweepCap_cleared hbare (h.1.latent_eq.trans hlat) c)
  refine ⟨hcap _ (hcap _ (hcap _ hcl)), httbc, fun m => (hreg m).trans (if_congr ?_ rfl rfl)⟩
  simp only [List.mem_map, List.mem_range]
  exact ⟨fun ⟨a, ha, he⟩ => by omega, fun h => ⟨m - 1, by omega, by omega⟩⟩

theorem eclEffect_pairs (l : List Nat) {s t : State} (h : ∃ ps, t = { s with pairs := ps }) : EclEffect l s t := by
  obtain ⟨ps, rfl⟩ := h
  exact .of_dev rfl ⟨s.sweep, ps, s.jrn, rfl⟩

/-- The banks of a list swept one after another. -/
theorem sweepBanks_spec {p : Nat} (bs : List Nat) : ∀ s : State, s.latent = [] → (∀ b, (s.bank p b).ttbc.toNat % 2 = 0) →
    EclEffect [Addr.ECL_CNT_SWCLR] s (sweepBanks p s bs) ∧ (∀ b, ((sweepBanks p s bs).bank p b).ttbc = (s.bank p b).ttbc) ∧
    ∀ b m, ((sweepBanks p s bs).bank p b).reg m =
      if b ∈ bs ∧ 1 ≤ m ∧ m < 32 then swept s p ((s.bank p b).reg m) else (s.bank p b).reg m := by
  induction bs with
  | nil => intro s _ _; exact ⟨.refl _ _, fun _ => rfl, fun b m => by simp [sweepBanks]⟩
  | cons e bs ih =>
    intro s hlat hbare
    obtain ⟨hcl, httbc, hreg⟩ := sweepBank_spec (p := p) hlat (hbare e)
    have hbank : ∀ b, ((s.sweepBank p (s.bank p e)).2.setBank p e (s.sweepBank p (s.bank p e)).1).bank p b =
        if b = e then (s.sweepBank p (s.bank p e)).1 else s.bank p b := fun b => by
      rw [State.bank_setBank, State.bank_of_pairs hcl.2]; simp
    have hstep : EclEffect [Addr.ECL_CNT_SWCLR] s
        ((s.sweepBank p (s.bank p e)).2.setBank p e (s.sweepBank p (s.bank p e)).1) :=
      hcl.1.trans (eclEffect_pairs _ ⟨_, rfl⟩)
    have httbc' : ∀ b, (((s.sweepBank p (s.bank p e)).2.setBank p e (s.sweepBank p (s.bank p e)).1).bank p b).ttbc =
        (s.bank p b).ttbc := fun b => by
      rw [hbank]
      split
      · next h => rw [h, httbc]
      · rfl
    obtain ⟨heff, hkeep, hregs⟩ := ih _ (hstep.latent_eq.trans hlat) fun b => by rw [httbc']; exact hbare b
    refine ⟨hstep.trans heff, fun b => (hkeep b).trans (httbc' b), fun b m => ?_⟩
    have hb : (((s.sweepBank p (s.bank p e)).2.setBank p e (s.sweepBank p (s.bank p e)).1).bank p b).reg m =
        if b = e ∧ 1 ≤ m ∧ m < 32 then swept s p ((s.bank p b).reg m) else (s.bank p b).reg m := by
      rw [hbank]
      by_cases h : b = e
      · subst h; simp [hreg]
      · simp [h]
    rw [sweepBanks, hregs, hb, swept_of_bitmap hstep.bitmap_eq]
    by_cases h : b = e <;> by_cases h' : b ∈ bs <;> by_cases hm : 1 ≤ m ∧ m < 32 <;> simp [h, h', hm, swept_swept]

/-- After its banks, a pass writes the pair's two escalation capabilities and is over. -/
theorem sweepPair_eq {s s1 : State} {p : Nat} (hs : sweepBanks p s (((s.pair p).banks).map (fun e => e.1)) = s1)
    (hlat : s1.latent = []) (hesc : (s1.bank p (escBank p)).ttbc.toNat % 2 = 0) : ∃ r e1 e2, Cleared s1 r ∧
    s.sweepPair p = r.updPair p (fun v => { v with escc := e1, essc := e2, passDue := false }) := by
  have h1 : Cleared s1 (s1.sweepCap p _ (s1.pair p).escc).2 := sweepCap_cleared hesc hlat _
  have h2 : ∀ c, Cleared s1 ((s1.sweepCap p _ (s1.pair p).escc).2.sweepCap p _ c).2 := fun c =>
    h1.trans (sweepCap_cleared hesc (h1.1.latent_eq.trans hlat) c)
  unfold State.sweepPair
  rw [hs]
  exact ⟨_, _, _, h2 _, rfl⟩

/-- A pair swept: its banks' registers as `swept` says, and its pass over. -/
theorem sweepPair_spec {s : State} {p : Nat} (hlat : s.latent = []) (hbare : ∀ b, (s.bank p b).ttbc.toNat % 2 = 0) :
    EclEffect [Addr.ECL_CNT_SWCLR] s (s.sweepPair p) ∧ ((s.sweepPair p).pair p).passDue = false ∧
    ∀ b m, ((s.sweepPair p).bank p b).reg m = if b ∈ ((s.pair p).banks).map (fun e => e.1) ∧ 1 ≤ m ∧ m < 32
      then swept s p ((s.bank p b).reg m) else (s.bank p b).reg m := by
  obtain ⟨heff, httbc, hreg⟩ := sweepBanks_spec (((s.pair p).banks).map (fun e => e.1)) s hlat hbare
  obtain ⟨r, e1, e2, hcl, hrun⟩ := sweepPair_eq rfl (heff.latent_eq.trans hlat) (by rw [httbc]; exact hbare (escBank p))
  rw [hrun]
  refine ⟨(heff.trans hcl.1).trans (eclEffect_pairs _ ⟨_, rfl⟩), by simp, fun b m => ?_⟩
  refine Eq.trans ?_ (hreg b m)
  unfold State.bank
  rw [State.pair_updPair, if_pos rfl]
  unfold State.pair
  rw [hcl.2]
  rfl

theorem swclr_rest : ∀ a ∈ restRegs, a ∉ [Addr.ECL_CNT_SWCLR] := by decide

/-- ECLIPSE_PASS of a pair whose pass is due and that runs nothing (R92, R93). -/
theorem exec_eclipsePass {p : Nat} {s : State} (hq : Quiet s) (hp : p < 104) (hdue : (s.pair p).passDue = true)
    (hhalt : (s.pair p).halt = none) (hdet : (s.pair p).det = false) (hrun : (s.pair p).run = none)
    (hbare : ∀ b, (s.bank p b).ttbc.toNat % 2 = 0) (hlat : s.latent = []) : ∃ u, exec (.eclipsePass p) s = .next u ∧
    (u.pair p).passDue = false ∧ SameMemory s u ∧ u.rd Addr.ECL_EPOCH_DONE = s.rd Addr.ECL_EPOCH_DONE ∧
    ∀ b m, (u.bank p b).reg m = if b ∈ ((s.pair p).banks).map (fun e => e.1) ∧ 1 ≤ m ∧ m < 32
      then swept s p ((s.bank p b).reg m) else (s.bank p b).reg m := by
  obtain ⟨heff, hover, hreg⟩ := sweepPair_spec (s := { s with out := [] }) (p := p) hlat hbare
  have hready : (({ s with out := [] } : State).pair p).passReady = true := by
    show (s.pair p).passReady = true
    simp [Pair.passReady, hdue, hhalt, hdet, hrun]
  have hf : ({ s with out := [] } : State).eclPass p = ({ s with out := [] } : State).sweepPair p := if_pos hready
  exact ⟨_, (onUnit_has (decide_eq_true hp)).trans ((does_of_eclEffect (f := fun s => s.eclPass p) (hf ▸ heff) swclr_rest hq).trans
    (congrArg _ hf)), hover, heff.sameMemory, heff.2 _ (by decide), hreg⟩

/-- ECLIPSE_PASS where no pass is due or the pair may not take it does nothing (R93). -/
theorem exec_eclipsePass_deferred {p : Nat} {s : State} (hq : Quiet s) (hp : p < 104)
    (h : (s.pair p).passDue = false ∨ (s.pair p).halt.isSome = true ∨ (s.pair p).det = true) :
    exec (.eclipsePass p) s = .next { s with out := [] } := by
  have hready : (s.pair p).passReady = false := by
    unfold Pair.passReady
    rcases h with h | h | h
    · simp [h]
    · simp [Option.isNone_eq_false_iff.mpr h]
    · simp [h]
  refine (onUnit_has (decide_eq_true hp)).trans (does_nothing (f := fun s => s.eclPass p) hq (if_neg ?_))
  show ¬ (s.pair p).passReady = true
  rw [hready]; decide

end Sys2Proof.Laws
end

section
/-!
PROOFS. Eclipse epochs: the scan of a granule (O39).
-/
namespace Sys2Proof.Laws
open Sys2Proof.Machine
open Sys2Proof (Instr)

/-! ## What the scan of a granule may change -/

/-- The registers that a scan writes. -/
def scanRegs : List Nat := [Addr.ECL_CNT_GRAN, Addr.ECL_CNT_PAGES, Addr.ECL_ERR, Addr.ECL_CNT_SWCLR]

/-- Two states that differ in registers of a scan, the sweeper, pairs, tags and tenures alone. -/
def ScanEffect (s t : State) : Prop :=
  (∃ d w ps ts a, t = { s with dev := d, sweep := w, pairs := ps, tags := ts, arbs := a }) ∧ ∀ a, a ∉ scanRegs → t.rd a = s.rd a

namespace ScanEffect
variable {s t u : State}

theorem of_dev (h : t.dev = s.dev) (he : ∃ w ps ts a, t = { s with sweep := w, pairs := ps, tags := ts, arbs := a }) :
    ScanEffect s t := by
  obtain ⟨w, ps, ts, a, rfl⟩ := he
  exact ⟨⟨s.dev, w, ps, ts, a, rfl⟩, fun a _ => State.rd_of_dev h a⟩

theorem trans (h : ScanEffect s t) (k : ScanEffect t u) : ScanEffect s u := by
  obtain ⟨⟨d, w, ps, ts, a, rfl⟩, hr⟩ := h
  obtain ⟨⟨d', w', ps', ts', a', rfl⟩, kr⟩ := k
  exact ⟨⟨d', w', ps', ts', a', rfl⟩, fun a ha => (kr a ha).trans (hr a ha)⟩

theorem atRest (h : ScanEffect s t) (hq : Quiet s) (hout : s.out = []) : AtRest s t := by
  obtain ⟨⟨d, w, ps, ts, a, rfl⟩, hr⟩ := h
  have hrest : ∀ a ∈ restRegs, a ∉ scanRegs := by decide
  exact atRest_of_rd hq hout rfl rfl rfl fun a ha => hr a (hrest a ha)

theorem mem_eq (h : ScanEffect s t) : t.mem = s.mem := by obtain ⟨⟨d, w, ps, ts, a, rfl⟩, -⟩ := h; rfl
theorem bitmap_eq (h : ScanEffect s t) : t.bitmap = s.bitmap := by obtain ⟨⟨d, w, ps, ts, a, rfl⟩, -⟩ := h; rfl

end ScanEffect

/-! ## The counts of a scan -/

/-- The state once a granule is counted and a lost line noted, before its capability is looked at (R90). -/
def scanCounted (s : State) (g stop : Nat) : State :=
  let s1 := s.bump Addr.ECL_CNT_GRAN
  let s2 := if g % 256 = 255 || g + 1 == stop then s1.bump Addr.ECL_CNT_PAGES else s1
  if s2.poisoned (g * 16) then s2.setBit Addr.ECL_ERR 3 else s2

theorem scanCounted_spec (s : State) (g stop : Nat) : (∃ d, scanCounted s g stop = { s with dev := d }) ∧
    (∀ a, a ∉ scanRegs → (scanCounted s g stop).rd a = s.rd a) ∧
    (scanCounted s g stop).rd Addr.ECL_CNT_GRAN = (s.bump Addr.ECL_CNT_GRAN).rd Addr.ECL_CNT_GRAN := by
  obtain ⟨t, hrun, ht, hr, hg⟩ : ∃ t, scanCounted s g stop = (if t.poisoned (g * 16) then t.setBit Addr.ECL_ERR 3 else t) ∧
      (∃ d, t = { s with dev := d }) ∧ (∀ a, a ∉ scanRegs → t.rd a = s.rd a) ∧
      t.rd Addr.ECL_CNT_GRAN = (s.bump Addr.ECL_CNT_GRAN).rd Addr.ECL_CNT_GRAN := by
    refine ⟨if g % 256 = 255 || g + 1 == stop then (s.bump Addr.ECL_CNT_GRAN).bump Addr.ECL_CNT_PAGES else s.bump Addr.ECL_CNT_GRAN,
      rfl, ?_⟩
    have hgran : ∀ a, a ∉ scanRegs → (s.bump Addr.ECL_CNT_GRAN).rd a = s.rd a :=
      fun a ha => State.rd_bump_ne s fun h => ha (by rw [h]; decide)
    split
    · exact ⟨⟨_, rfl⟩, fun a ha => (State.rd_bump_ne _ fun h => ha (by rw [h]; decide)).trans (hgran a ha),
        State.rd_bump_ne _ (by decide)⟩
    · exact ⟨⟨_, rfl⟩, hgran, rfl⟩
  rw [hrun]
  split
  · obtain ⟨d, rfl⟩ := ht
    exact ⟨⟨_, rfl⟩, fun a ha => (State.rd_setBit_ne _ 3 fun h => ha (by rw [h]; decide)).trans (hr a ha),
      (State.rd_setBit_ne _ 3 (by decide)).trans hg⟩
  · exact ⟨ht, hr, hg⟩

/-! ## One granule of a physical range -/

/-- Does the scan of a physical range revoke the capability (R81, R90)? -/
def physRevoked (s : State) (c : Cap) : Bool :=
  c.tag && !c.malformed && (!neverRevoked c && decide (c.base < 2 ^ 41) && s.eclipsed c.base)

theorem rd_swClr_ne (s : State) {a : Nat} (h : a ≠ Addr.ECL_CNT_SWCLR) : s.swClr.rd a = s.rd a := State.rd_bump_ne s h

theorem tagAt_cleared (s : State) (l n a : Nat) : ((s.loseResv l n).swClr).tagAt .dram a = s.tagAt .dram a := rfl

theorem ScanEffect.swClr (s : State) : ScanEffect s s.swClr :=
  ⟨⟨_, _, s.pairs, s.tags, s.arbs, rfl⟩, fun _ ha => rd_swClr_ne s fun h => ha (by rw [h]; decide)⟩

section
variable {s : State} {r : ScanRange} (htcm : r.tcm = none) (hxl : r.xl = .physical) (hchans : s.tally.chans = [])
  (hlat : s.latent = [])
include htcm hxl hchans hlat

theorem scanGranule_eq : s.scanGranule r = if physRevoked s (s.capAt .dram (16 * r.first)) then
      (((scanCounted s r.first r.stop).setTag .dram (r.first * 16) false).loseResv (resvLine .dram (r.first * 16)) 1).swClr
    else scanCounted s r.first r.stop := by
  obtain ⟨⟨d, hd⟩, -, -⟩ := scanCounted_spec s r.first r.stop
  have hcap : (scanCounted s r.first r.stop).capAt .dram (r.first * 16) = s.capAt .dram (16 * r.first) := by
    rw [hd, Nat.mul_comm]; rfl
  have hrev : (scanCounted s r.first r.stop).scanRevoked .physical (s.capAt .dram (16 * r.first)) =
      (!neverRevoked (s.capAt .dram (16 * r.first)) && decide ((s.capAt .dram (16 * r.first)).base < 2 ^ 41)
        && s.eclipsed (s.capAt .dram (16 * r.first)).base, scanCounted s r.first r.stop) := by
    have hecl : ∀ pa, (scanCounted s r.first r.stop).eclipsed pa = s.eclipsed pa := fun pa => by rw [hd]; rfl
    have hno : (scanCounted s r.first r.stop).latent = [] := by rw [hd]; exact hlat
    unfold State.scanRevoked
    rw [bitmapRead_noLatent hno, hecl]
    dsimp only
    split
    · next h => rw [h, Bool.true_and]
    · next h => rw [Bool.eq_false_iff.mpr h, Bool.false_and]
  have hrun : s.scanGranule r = if (s.capAt .dram (16 * r.first)).tag && !(s.capAt .dram (16 * r.first)).malformed then
        match (scanCounted s r.first r.stop).scanRevoked .physical (s.capAt .dram (16 * r.first)) with
        | (true, s4) => ((s4.setTag .dram (r.first * 16) false).loseResv (resvLine .dram (r.first * 16)) 1).swClr
        | (false, s4) => s4
      else scanCounted s r.first r.stop := by
    rw [← hcap, ← hxl]
    unfold State.scanGranule
    rw [htcm]
    dsimp only
    rw [if_pos rfl, dramEnter_plain hchans hlat]
    rfl
  rw [hrun, hrev]
  unfold physRevoked
  cases (s.capAt .dram (16 * r.first)).tag && !(s.capAt .dram (16 * r.first)).malformed with
  | false => rfl
  | true =>
    cases !neverRevoked (s.capAt .dram (16 * r.first)) && decide ((s.capAt .dram (16 * r.first)).base < 2 ^ 41)
        && s.eclipsed (s.capAt .dram (16 * r.first)).base with
    | false => rfl
    | true => rfl

theorem scanGranule_spec : ScanEffect s (s.scanGranule r) ∧
    (s.scanGranule r).rd Addr.ECL_CNT_GRAN = (s.bump Addr.ECL_CNT_GRAN).rd Addr.ECL_CNT_GRAN ∧
    ∀ g, (s.scanGranule r).tagAt .dram g = if g / 16 = r.first ∧ physRevoked s (s.capAt .dram (16 * r.first)) = true then false
      else s.tagAt .dram g := by
  obtain ⟨⟨d, hd⟩, hr, hg⟩ := scanCounted_spec s r.first r.stop
  have hcount : ScanEffect s (scanCounted s r.first r.stop) := ⟨⟨d, s.sweep, s.pairs, s.tags, s.arbs, hd⟩, hr⟩
  have htag : ∀ g, (scanCounted s r.first r.stop).tagAt .dram g = s.tagAt .dram g := fun g => by rw [hd]; rfl
  rw [scanGranule_eq htcm hxl hchans hlat]
  split
  · next h =>
    have hclear : ScanEffect (scanCounted s r.first r.stop)
        ((((scanCounted s r.first r.stop).setTag .dram (r.first * 16) false).loseResv (resvLine .dram (r.first * 16)) 1)) :=
      .of_dev rfl ⟨_, _, _, _, rfl⟩
    refine ⟨(hcount.trans hclear).trans (.swClr _), (rd_swClr_ne _ (by decide)).trans hg, fun g => ?_⟩
    rw [tagAt_cleared, tagAt_setTag, htag, Nat.mul_div_cancel _ (by decide)]
    simp [h]
  · next h => exact ⟨hcount, hg, fun g => by simp [htag, h]⟩

end

/-! ## The tenure, and the command -/

theorem endTenure_eq (s : State) (ch q : Nat) : ∃ a, s.endTenure ch q = { s with arbs := a } := by
  unfold State.endTenure
  split
  · exact ⟨_, rfl⟩
  · exact ⟨s.arbs, rfl⟩

theorem endTenures_eq (s : State) (q : Nat) : ∃ a, s.endTenures q = { s with arbs := a } := by
  suffices h : ∀ (l : List Nat) (t : State), (∃ a, t = { s with arbs := a }) →
      ∃ a, l.foldl (fun s ch => s.endTenure ch q) t = { s with arbs := a } from h _ s ⟨s.arbs, rfl⟩
  intro l
  induction l with
  | nil => exact fun _ h => h
  | cons ch l ih =>
    rintro t ⟨a, rfl⟩
    obtain ⟨b, hb⟩ := endTenure_eq { s with arbs := a } ch q
    exact ih _ ⟨b, hb⟩

theorem sweepTenure_eq (s : State) (r : ScanRange) (more : Bool) : ∃ a, s.sweepTenure r more = { s with arbs := a } := by
  have hsame : ∃ a, s = { s with arbs := a } := ⟨s.arbs, rfl⟩
  unfold State.sweepTenure
  dsimp only
  split
  · exact endTenures_eq s 19
  · split
    · exact hsame
    · split
      · exact endTenure_eq _ _ _
      · exact ⟨_, rfl⟩

/-- SWEEP_GRANULE of a physical range (R90). -/
theorem exec_sweepGranule {s : State} {r : ScanRange} {rs : List ScanRange} (hq : Quiet s) (hph : s.eclPhase = 3 ∨ s.eclPhase = 4)
    (htodo : s.sweep.todo = r :: rs) (hlt : r.first < r.stop) (htcm : r.tcm = none) (hxl : r.xl = .physical)
    (hchans : s.tally.chans = []) (hlat : s.latent = []) : ∃ u, exec (.sweepGranule) s = .next u ∧
    u.sweep.todo = (if r.first + 1 < r.stop then { r with first := r.first + 1 } :: rs else rs) ∧
    (∀ g, u.tagAt .dram g = if g / 16 = r.first ∧ physRevoked s (s.capAt .dram (16 * r.first)) = true then false
      else s.tagAt .dram g) ∧ u.mem = s.mem ∧ u.bitmap = s.bitmap ∧
    u.rd Addr.ECL_CNT_GRAN = BitVec.ofNat 64 (min ((s.rd Addr.ECL_CNT_GRAN).toNat + 1) (2 ^ 64 - 1)) := by
  obtain ⟨hscan, hgran, htag⟩ := scanGranule_spec (s := { s with out := [] }) htcm hxl hchans hlat
  obtain ⟨t, hf, a, ht⟩ : ∃ t, ({ s with out := [] } : State).sweepGranule = t ∧ ∃ a, t =
      { ({ s with out := [] } : State).scanGranule r |>.updSweep (fun w => { w with
          todo := if r.first + 1 < r.stop then { r with first := r.first + 1 } :: rs else rs }) with arbs := a } := by
    refine ⟨_, rfl, ?_⟩
    have hph' : ¬ (!(decide (({ s with out := [] } : State).eclPhase = 3) || decide (({ s with out := [] } : State).eclPhase = 4))) =
        true := by
      have : ({ s with out := [] } : State).eclPhase = s.eclPhase := rfl
      rw [this]
      rcases hph with h | h <;> simp [h]
    have htodo' : ({ s with out := [] } : State).sweep.todo = r :: rs := htodo
    unfold State.sweepGranule
    rw [if_neg hph', htodo']
    dsimp only
    rw [if_neg (by omega)]
    exact sweepTenure_eq _ _ _
  have heff : ScanEffect { s with out := [] } t := by
    rw [ht]
    exact hscan.trans (.of_dev rfl ⟨_, _, _, _, rfl⟩)
  refine ⟨t, does_at_rest hf (heff.atRest hq rfl), by rw [ht]; rfl, fun g => ?_, heff.mem_eq, heff.bitmap_eq, ?_⟩
  · rw [ht]
    exact htag g
  · rw [ht]
    exact hgran.trans (rd_bump_same _ _)

/-- SWEEP_GRANULE outside the phases that scan does nothing (R90). -/
theorem exec_sweepGranule_off {s : State} (hq : Quiet s) (h3 : s.eclPhase ≠ 3) (h4 : s.eclPhase ≠ 4) :
    exec (.sweepGranule) s = .next { s with out := [] } := by
  refine does_nothing (f := fun s => s.sweepGranule) hq (if_pos ?_)
  show (!(decide (s.eclPhase = 3) || decide (s.eclPhase = 4))) = true
  simp [h3, h4]

end Sys2Proof.Laws
end

section
/-!
PROOFS. Eclipse epochs: passes fall due, phases advance, the epoch completes (O39).
-/
namespace Sys2Proof.Laws
open Sys2Proof.Machine
open Sys2Proof (Instr)

/-! ## Passes fall due -/

/-- A pair on which a pass falls due, unless it is halted (R93). -/
def passFallen (v : Pair) : Pair := if v.halt.isSome then v else { v with passDue := true }

theorem passFallen_passFallen (v : Pair) : passFallen (passFallen v) = passFallen v := by
  cases h : v.halt <;> simp [passFallen, h]

theorem passFallen_banks (v : Pair) : (passFallen v).banks = v.banks := by unfold passFallen; split <;> rfl

theorem passFallen_passDue {v : Pair} (h : v.halt = none) : (passFallen v).passDue = true := by simp [passFallen, h]

/-- A pass falls due on one pair of a state. -/
def duePass (s : State) (p : Nat) : State :=
  if (s.pair p).halt.isSome then s else s.updPair p (fun v => { v with passDue := true })

theorem pair_of_samePairs {s t : State} (h : t.pairs = s.pairs) (q : Nat) : t.pair q = s.pair q := by unfold State.pair; rw [h]

theorem setPasses_eq (s : State) : s.setPasses = (List.range 104).foldl duePass s := rfl

theorem duePass_spec (s : State) (p : Nat) : (∃ ps, duePass s p = { s with pairs := ps }) ∧
    ∀ q, (duePass s p).pair q = if q = p then passFallen (s.pair q) else s.pair q := by
  unfold duePass passFallen
  split
  · next h =>
    refine ⟨⟨s.pairs, rfl⟩, fun q => ?_⟩
    split
    · next hq => rw [hq, if_pos h]
    · rfl
  · next h =>
    refine ⟨⟨_, rfl⟩, fun q => ?_⟩
    rw [State.pair_updPair]
    split
    · next hq => rw [hq, if_neg h]
    · rfl

theorem foldl_duePass_spec (ps : List Nat) : ∀ s : State, (∃ x, ps.foldl duePass s = { s with pairs := x }) ∧
    ∀ q, (ps.foldl duePass s).pair q = if q ∈ ps then passFallen (s.pair q) else s.pair q := by
  induction ps with
  | nil => intro s; exact ⟨⟨s.pairs, rfl⟩, fun q => by simp⟩
  | cons p ps ih =>
    intro s
    obtain ⟨⟨x, hx⟩, hpair⟩ := duePass_spec s p
    obtain ⟨⟨y, hy⟩, hpairs⟩ := ih (duePass s p)
    rw [List.foldl_cons]
    refine ⟨⟨y, by rw [hy, hx]⟩, fun q => ?_⟩
    rw [hpairs, hpair]
    by_cases hq : q = p <;> by_cases hps : q ∈ ps <;> simp [hq, hps, passFallen_passFallen]

/-- The phase that ends by making passes due: the passes, and the next phase (R89, R93). -/
theorem exec_eclPhaseAdvance_passes {s : State} {n : Nat} (hq : Quiet s) (hn : n < 8)
    (hf : ({ s with out := [] } : State).eclAdvance = ({ s with out := [] } : State).setPasses.setFld Addr.ECL_STATUS 1 3 n) :
    ∃ u, exec (.eclPhaseAdvance) s = .next u ∧ u.eclPhase = n ∧
    (∀ q, q < 104 → (s.pair q).halt = none → (u.pair q).passDue = true) ∧ (∀ q, q < 104 → (u.pair q).banks = (s.pair q).banks) ∧
    (∀ a, a ∉ [Addr.ECL_STATUS] → u.rd a = s.rd a) ∧ { u with dev := s.dev, pairs := s.pairs, out := s.out } = s := by
  obtain ⟨⟨ps, hps⟩, hpair⟩ := foldl_duePass_spec (List.range 104) { s with out := [] }
  rw [← setPasses_eq] at hps hpair
  have he : EclEffect [Addr.ECL_STATUS] { s with out := [] }
      (({ s with out := [] } : State).setPasses.setFld Addr.ECL_STATUS 1 3 n) :=
    (eclEffect_pairs _ ⟨ps, hps⟩).trans (.setFld _ _ _ _ (List.mem_singleton.mpr rfl))
  have hpair' : ∀ q, (({ s with out := [] } : State).setPasses.setFld Addr.ECL_STATUS 1 3 n).pair q =
      if q ∈ List.range 104 then passFallen (s.pair q) else s.pair q := fun q =>
    (pair_of_samePairs (State.setFld_pairs _ _ _ _ _) q).trans (hpair q)
  refine ⟨_, (does_of_eclEffect (f := fun s => s.eclAdvance) (hf ▸ he) statusReg_rest hq).trans (congrArg _ hf), ?_⟩
  refine ⟨(fld_setFld_same _ _ _ _ _ (by decide)).trans (Nat.mod_eq_of_lt hn), fun q hlt hh => ?_, fun q hlt => ?_,
    fun a ha => he.2 a ha, he.frame_pairs (by rw [hps]; rfl) (by rw [hps]; rfl)⟩
  · rw [hpair', if_pos (List.mem_range.mpr hlt), passFallen_passDue hh]
  · rw [hpair', if_pos (List.mem_range.mpr hlt), passFallen_banks]

theorem eclAdvance_of_phase1 {s : State} (h : s.eclPhase = 1) : s.eclAdvance = s.setPasses.setFld Addr.ECL_STATUS 1 3 2 := by
  unfold State.eclAdvance
  rw [h]
  rfl

theorem eclAdvance_of_phase4 {s : State} (h : s.eclPhase = 4) (ht : s.sweep.todo = []) :
    s.eclAdvance = s.setPasses.setFld Addr.ECL_STATUS 1 3 5 := by
  unfold State.eclAdvance
  rw [h, ht]
  rfl

/-! ## The epoch completes -/

/-- The record of a completed epoch (R89, R379). -/
def epochRecord (s : State) : JReq :=
  ⟨0xF009, 0x0202, natBytes 8 (s.rd Addr.ECL_EPOCH_STARTED).toNat ++ natBytes 8 (s.us - s.sweep.startedAt) ++
    natBytes 8 s.sweep.cleared, .sweeper⟩

/-- The registers of a completed epoch, before the sweeper and the journal know of it. -/
def epochRegisters (s : State) : State :=
  ((s.wr Addr.ECL_EPOCH_DONE (BitVec.ofNat 64 (s.rd Addr.ECL_EPOCH_STARTED).toNat)).wr Addr.ECL_LAST_US
    (BitVec.ofNat 64 (s.us - s.sweep.startedAt))).setFld Addr.ECL_STATUS 0 4 0

/-- The state at the end of an epoch that completes, its event aside (R89). -/
def epochCompleted (s : State) : State :=
  ((epochRegisters s).updSweep (fun w =>
    { w with fresh := w.freshRun, freshRun := false, todo := [], waits := true, doneAt := some s.clk })).jrnRequest (epochRecord s)

/-- The registers that a completed epoch writes. -/
def doneRegs : List Nat := [Addr.ECL_EPOCH_DONE, Addr.ECL_LAST_US, Addr.ECL_STATUS, Addr.JRN_STATUS]

theorem doneRegs_rest : ∀ a ∈ restRegs, a ∉ doneRegs := by decide

/-- A request for a record: the queue and JRN_STATUS alone (R364). -/
theorem eclEffect_jrnRequest {l : List Nat} (s : State) (r : JReq) (h : Addr.JRN_STATUS ∈ l) : EclEffect l s (s.jrnRequest r) := by
  have hq : EclEffect l s (s.updJrn (fun j => { j with queue := j.queue ++ [r] })) := .of_dev rfl ⟨s.sweep, s.pairs, _, rfl⟩
  exact (hq.trans (.setFld _ _ _ _ h)).trans (.setFld _ _ _ _ h)

theorem rd_jrnRequest_ne (s : State) (r : JReq) {a : Nat} (h : a ≠ Addr.JRN_STATUS) : (s.jrnRequest r).rd a = s.rd a :=
  (State.rd_setFld_ne _ _ _ _ h).trans (State.rd_setFld_ne _ _ _ _ h)

theorem jrnRequest_frame (s : State) (r : JReq) : (s.jrnRequest r).jrn.queue = s.jrn.queue ++ [r] ∧
    (s.jrnRequest r).sweep = s.sweep ∧ (s.jrnRequest r).pairs = s.pairs := ⟨rfl, rfl, rfl⟩

theorem epochCompleted_effect (s : State) : EclEffect doneRegs s (epochCompleted s) := by
  have hregs : EclEffect doneRegs s (epochRegisters s) :=
    ((EclEffect.wr s _ (by decide)).trans (.wr _ _ (show Addr.ECL_LAST_US ∈ doneRegs by decide))).trans
      (.setFld _ _ _ _ (by decide))
  exact (hregs.trans (.updSweep _ _ _)).trans (eclEffect_jrnRequest _ _ (by decide))

theorem updSweep_sweep (s : State) (f : Sweeper → Sweeper) : (s.updSweep f).sweep = f s.sweep := rfl

theorem epochRegisters_frame (s : State) : (epochRegisters s).jrn = s.jrn ∧ (epochRegisters s).sweep = s.sweep ∧
    (epochRegisters s).pairs = s.pairs := ⟨rfl, rfl, rfl⟩

theorem rd_done_epochRegisters (s : State) : (epochRegisters s).rd Addr.ECL_EPOCH_DONE = s.rd Addr.ECL_EPOCH_STARTED := by
  unfold epochRegisters
  rw [State.rd_setFld_ne _ _ _ _ (by decide), State.rd_wr, if_neg (by decide), State.rd_wr, if_pos rfl, BitVec.ofNat_toNat,
    BitVec.setWidth_eq]

theorem rd_epochCompleted {s : State} {a : Nat} (h : a ≠ Addr.JRN_STATUS) : (epochCompleted s).rd a = (epochRegisters s).rd a :=
  (rd_jrnRequest_ne _ _ h).trans (rd_updSweep _ _ _)

theorem epochCompleted_spec (s : State) : (epochCompleted s).rd Addr.ECL_EPOCH_DONE = s.rd Addr.ECL_EPOCH_STARTED ∧
    (epochCompleted s).fld Addr.ECL_STATUS 0 4 = 0 ∧ (epochCompleted s).sweep = { s.sweep with
      fresh := s.sweep.freshRun, freshRun := false, todo := [], waits := true, doneAt := some s.clk } ∧
    (epochCompleted s).jrn.queue = s.jrn.queue ++ [epochRecord s] ∧ (epochCompleted s).pairs = s.pairs := by
  obtain ⟨hjrn, hsweep, hpairs⟩ := epochRegisters_frame s
  refine ⟨(rd_epochCompleted (by decide)).trans (rd_done_epochRegisters s), ?_, ?_, ?_, ?_⟩
  · rw [fld_of_rd (rd_epochCompleted (by decide))]
    exact fld_setFld_same _ _ _ _ _ (by decide)
  · exact (jrnRequest_frame _ _).2.1.trans (by rw [updSweep_sweep, hsweep])
  · exact (jrnRequest_frame _ _).1.trans (by rw [updSweep_jrn, hjrn])
  · exact (jrnRequest_frame _ _).2.2.trans (by rw [updSweep_pairs, hpairs])

/-- With events off, completion posts none. -/
theorem eclComplete_eq {s : State} (hph : s.eclPhase = 5) (hdue : s.passesDue = false) (hev : s.fld Addr.ECL_EVT 15 1 = 0) :
    s.eclComplete = epochCompleted s := by
  have hoff : (epochCompleted s).fld Addr.ECL_EVT 15 1 = 0 := by
    rw [fld_of_rd ((epochCompleted_effect s).2 Addr.ECL_EVT (by decide)), hev]
  unfold State.eclComplete
  rw [if_neg (by simp [hph, hdue])]
  exact evtPost_off 0x01 hoff

/-- EPOCH_COMPLETION (R89, R379). -/
theorem exec_epochCompletion {s : State} (hq : Quiet s) (hph : s.eclPhase = 5) (hdue : s.passesDue = false)
    (hev : s.fld Addr.ECL_EVT 15 1 = 0) : ∃ u, exec (.epochCompletion) s = .next u ∧
    u.rd Addr.ECL_EPOCH_DONE = s.rd Addr.ECL_EPOCH_STARTED ∧ u.fld Addr.ECL_STATUS 0 4 = 0 ∧
    u.sweep = { s.sweep with fresh := s.sweep.freshRun, freshRun := false, todo := [], waits := true, doneAt := some s.clk } ∧
    u.jrn.queue = s.jrn.queue ++ [epochRecord s] ∧
    { u with dev := s.dev, sweep := s.sweep, jrn := s.jrn, out := s.out } = s := by
  obtain ⟨hdone, hst, hsweep, hqueue, hpairs⟩ := epochCompleted_spec { s with out := [] }
  have hf : ({ s with out := [] } : State).eclComplete = epochCompleted { s with out := [] } := eclComplete_eq hph hdue hev
  have he := epochCompleted_effect { s with out := [] }
  exact ⟨_, (does_of_eclEffect (f := fun s => s.eclComplete) (hf ▸ he) doneRegs_rest hq).trans (congrArg _ hf), hdone, hst, hsweep,
    hqueue, he.frame_sweep_jrn hpairs⟩

/-- EPOCH_COMPLETION outside the closing pass does nothing (R89). -/
theorem exec_epochCompletion_off {s : State} (hq : Quiet s) (h : s.eclPhase ≠ 5) :
    exec (.epochCompletion) s = .next { s with out := [] } := by
  refine does_nothing (f := fun s => s.eclComplete) hq (if_pos ?_)
  show (!(decide (s.eclPhase = 5)) || s.passesDue) = true
  simp [h]

end Sys2Proof.Laws
end

section
/-!
PROOFS. Eclipse epochs: the memory phase begins; the obligation (O39).
-/
namespace Sys2Proof.Laws
open Sys2Proof.Machine
open Sys2Proof (Instr)

/-! ## Building the memory phase's work sends nothing -/

theorem out_dataWrite_dram (s : State) (pa : Nat) (bs : List Byte) : (s.dataWrite .dram pa bs).out = s.out := by
  obtain ⟨m, tg, po, la, st, ps, h, -⟩ := dataWrite_dram_eq s pa bs
  rw [h]

theorem out_notify (s : State) (q kind unit idx detail : Nat) : (s.notify q kind unit idx detail).out = s.out := by
  unfold State.notify
  dsimp only
  split
  · exact State.bumpF_out _ _ _ _
  · rfl

theorem out_poisonLine (s : State) (line : Nat) : (s.poisonLine line).out = s.out := by
  unfold State.poisonLine
  dsimp only
  rw [out_notify, State.bump_out, State.wr_out, State.setBit_out]
  exact out_dataWrite_dram (s.markEntry line) _ _

theorem out_touchLine (s : State) (line : Nat) : (s.touchLine line).out = s.out := by
  unfold State.touchLine
  split
  · rfl
  · rfl
  · exact out_poisonLine s line

theorem out_touchFrom (n : Nat) : ∀ (s : State) (line : Nat), (s.touchFrom line n).out = s.out := by
  induction n with
  | zero => exact fun _ _ => rfl
  | succ n ih => exact fun s line => (ih _ _).trans (out_touchLine s line)

theorem out_setTch (s : State) (ch : Nat) (t : TallyChan) : (s.setTch ch t).out = s.out := (DeviceEffect.setTch s ch t).out_eq

theorem out_cellErrors (ops : List TallyOp) : ∀ s : State, (s.cellErrors ops).out = s.out := by
  induction ops with
  | nil => exact fun _ => rfl
  | cons op ops ih => exact fun s => (ih _).trans (DeviceEffect.tallyReturn s op 6 none).out_eq

theorem out_decideAll (ch : Nat) (ops : List TallyOp) :
    ∀ (s : State) (d : List Byte) (n : Nat), (s.decideAll ch ops d n).1.out = s.out := by
  induction ops with
  | nil => exact fun _ _ _ => rfl
  | cons op ops ih => exact fun s d n => (ih _ _ _).trans (DeviceEffect.decideOne s ch op d).out_eq

theorem out_combLoad (s : State) (ch : Nat) (e : CombEntry) : (s.combLoad ch e).out = s.out := by
  unfold State.combLoad
  dsimp only
  split
  · rw [out_setTch, out_cellErrors, out_touchLine]
  · rw [out_setTch, (DeviceEffect.tallyTick _).out_eq, out_decideAll, out_touchLine]

theorem out_combWrite (s : State) (ch : Nat) (e : CombEntry) : (s.combWrite ch e).out = s.out :=
  out_dataWrite_dram s e.cell e.data

theorem out_cellRoute (s : State) (line : Nat) : (s.cellRoute line).out = s.out := by
  unfold State.cellRoute
  dsimp only
  split
  · rfl
  · next e _ =>
    have hload : (if e.st = .loading then s.combLoad (channelOf (line * 64)) e else s.touchLine line).out = s.out := by
      split
      · exact out_combLoad s _ e
      · exact out_touchLine s line
    split
    · exact hload
    · rw [out_setTch]
      split
      · rw [out_combWrite, hload]
      · exact hload

theorem out_cellRouteFrom (n : Nat) : ∀ (s : State) (line : Nat), (s.cellRouteFrom line n).out = s.out := by
  induction n with
  | zero => exact fun _ _ => rfl
  | succ n ih => exact fun s line => (ih _ _).trans (out_cellRoute s line)

/-- A read of DRAM sends nothing. -/
theorem out_dramEnter (s : State) (pa n : Nat) : (s.dramEnter pa n).out = s.out := by
  unfold State.dramEnter
  extract_lets s1
  have hroute : s1.out = s.out := by
    show (if s.tally.chans = [] then s else s.cellRouteFrom (pa / 64) (linesIn pa n)).out = s.out
    split
    · rfl
    · exact out_cellRouteFrom _ s _
  split
  · exact hroute
  · exact (out_touchFrom _ s1 _).trans hroute

theorem out_walkEntry {sub : State → Nat → RootWalk × State} (hsub : ∀ s t, (sub s t).2.out = s.out) (s : State)
    (ttbc level pe : Nat) : (walkEntry s ttbc level pe sub).2.out = s.out := by
  have hread := out_dramEnter s pe 8
  unfold walkEntry
  dsimp only
  split
  · rfl
  split
  · rfl
  split
  · exact hread
  split
  · exact hread
  split
  · exact hread
  split
  · exact (hsub _ _).trans hread
  split
  · exact hread
  · exact hread

theorem out_walkTable (ttbc fuel : Nat) : ∀ (level : Nat) (s : State) (table : Nat),
    (walkTable ttbc fuel level s table).2.out = s.out := by
  induction fuel with
  | zero => exact fun _ _ _ => rfl
  | succ fuel ih =>
    intro level s table
    unfold walkTable
    generalize List.range 512 = l
    generalize hacc : (RootWalk.ok [] 0, s) = acc
    have h : acc.2.out = s.out := by rw [← hacc]
    clear hacc
    induction l generalizing acc with
    | nil => exact h
    | cons i l ihl => exact ihl _ ((out_walkEntry (ih (level + 1)) acc.2 ttbc level _).trans h)

theorem out_rootWalk (s : State) (r : Nat × Nat × Nat) : (s.rootWalk r).2.out = s.out := by
  unfold State.rootWalk
  split
  · rfl
  · exact out_walkTable _ _ _ _ _

theorem out_buildRoots (rs : List (Nat × Nat × Nat)) : ∀ (s : State) (acc : List ScanRange), (s.buildRoots acc rs).1.out = s.out := by
  induction rs with
  | nil => exact fun _ _ => rfl
  | cons r rs ih =>
    intro s acc
    have hwalk := out_rootWalk s r
    unfold State.buildRoots
    split
    · next h => rw [h] at hwalk; exact (ih _ _).trans hwalk
    · next h => rw [h] at hwalk; exact hwalk
    · next h => rw [h] at hwalk; exact hwalk

/-! ## The memory phase begins -/

theorem eclAdvance_of_phase2 {s w : State} {l : List ScanRange} (h : s.eclPhase = 2) (hdue : s.passesDue = false)
    (hb : s.buildRoots [] s.sweep.roots = (w, some l)) :
    s.eclAdvance = (w.updSweep (fun x => { x with todo := l ++ tcmRanges })).setFld Addr.ECL_STATUS 1 3 3 := by
  unfold State.eclAdvance
  rw [h, hdue, hb]
  rfl

/-- A phase that begins with its work, as an effect of a command that is quiet until then (R89). -/
theorem does_begins_phase {s w : State} {f : State → State} {n : Nat} {m : List ScanRange} (hw : Quiet w) (hout : w.out = [])
    (hn : n < 8) (hf : f { s with out := [] } = (w.updSweep (fun x => { x with todo := m })).setFld Addr.ECL_STATUS 1 3 n) :
    ∃ u, does f s = .next u ∧ u.eclPhase = n ∧ u.sweep.todo = m := by
  have he : EclEffect [Addr.ECL_STATUS] w ((w.updSweep (fun x => { x with todo := m })).setFld Addr.ECL_STATUS 1 3 n) :=
    (EclEffect.updSweep _ w _).trans (.setFld _ _ _ _ (List.mem_singleton.mpr rfl))
  obtain ⟨hsent, hquiet, -⟩ := he.atRest statusReg_rest hw hout
  obtain ⟨_, _, hd⟩ := does_quiet hf hquiet hsent
  exact ⟨_, hd, (fld_setFld_same _ _ _ _ _ (by decide)).trans (Nat.mod_eq_of_lt hn), rfl⟩

/-- ECL_PHASE_ADVANCE from the first pass to the scan of memory (R89). -/
theorem exec_eclPhaseAdvance_memory {s w : State} {l : List ScanRange} (hw : Quiet w) (hph : s.eclPhase = 2)
    (hdue : s.passesDue = false) (hb : ({ s with out := [] } : State).buildRoots [] s.sweep.roots = (w, some l)) :
    ∃ u, exec (.eclPhaseAdvance) s = .next u ∧ u.eclPhase = 3 ∧ u.sweep.todo = l ++ tcmRanges := by
  have hout : w.out = [] := by
    have h := out_buildRoots s.sweep.roots { s with out := [] } []
    rwa [hb] at h
  exact does_begins_phase (f := fun s => s.eclAdvance) hw hout (by decide) (eclAdvance_of_phase2 hph hdue hb)

end Sys2Proof.Laws

namespace Sys2Proof
open Sys2Proof.Machine Sys2Proof.Laws

/-- Settles O39: command by command; a pass and a scan by what they make of one capability, the rest by the registers they write. -/
theorem eclipseEpochs : Obligations.EclipseEpochs := by
  rintro p b n c k r rs l w s s0 hq hw rfl
  refine ⟨exec_eclStart_begins hq, exec_eclStart_ignored hq, exec_eclAutoStart_begins hq, exec_eclAutoStart_stale hq,
    exec_eclAbort_running hq, fun h hd => exec_eclAbort_idle hq h (if_neg hd), exec_eclClrcnt hq, ?_, exec_eclipsePass_deferred hq, ?_,
    exec_sweepGranule_off hq, fun h => exec_eclPhaseAdvance_passes hq (by decide) (eclAdvance_of_phase1 h), fun h ht => ?_,
    exec_eclPhaseAdvance_memory hw, fun h hd hev => ?_, exec_epochCompletion_off hq,
    fun h hd => exec_eclAbort_idle hq h (if_pos hd)⟩
  · rintro hp hdue hhalt hdet hrun hbare - rfl hlat
    obtain ⟨u, hu, hover, hmem, hdone, hreg⟩ := exec_eclipsePass hq hp hdue hhalt hdet hrun hbare hlat
    refine ⟨u, hu, hover, ?_, fun htag hm hn hsp hb he h1 h32 hany => ?_, fun he => ?_, hmem, hdone⟩
    · rw [hreg]
      split
      · exact swept_bits _ _ _
      · rfl
    · have hin : b ∈ ((s.pair p).banks).map (fun e => e.1) := by simpa [List.any_eq_true] using hany
      rw [hreg, if_pos ⟨hin, h1, h32⟩]
      exact swept_of_eclipsed htag hm hn hsp hb he
    · rw [hreg, swept_of_not_eclipsed p he, ite_self]
  · rintro hph htodo hlt htcm hxl hchans hlat rfl
    obtain ⟨u, hu, hrest, htag, hmem, hmap, hgran⟩ := exec_sweepGranule hq hph htodo hlt htcm hxl hchans hlat
    refine ⟨u, hu, hrest, ?_, fun g hg => (htag g).trans (if_neg fun h => hg h.1), hmem, hmap, hgran⟩
    rw [htag, Nat.mul_div_cancel_left _ (by decide)]
    show _ = (s.tagAt .dram (16 * r.first) && _)
    unfold physRevoked
    rw [show (s.capAt .dram (16 * r.first)).tag = s.tagAt .dram (16 * r.first) from rfl]
    cases s.tagAt .dram (16 * r.first) <;> cases (s.capAt .dram (16 * r.first)).malformed <;>
      cases neverRevoked (s.capAt .dram (16 * r.first)) <;> simp
  · obtain ⟨u, hu, hph, hdue, -, hr, hfr⟩ := exec_eclPhaseAdvance_passes hq (by decide) (eclAdvance_of_phase4 h ht)
    exact ⟨u, hu, hph, hdue, hr, hfr⟩
  · obtain ⟨u, hu, hdone, hst, hsweep, hqueue, hfr⟩ := exec_epochCompletion hq h hd hev
    refine ⟨u, hu, hdone, hst, by rw [hsweep], by rw [hsweep], by rw [hsweep], by rw [hsweep],
      ⟨epochRecord s, hqueue, rfl, rfl, ?_⟩, hfr⟩
    show (natBytes 8 _ ++ natBytes 8 _ ++ natBytes 8 _).take 8 = _
    rw [List.append_assoc, List.take_left' (natBytes_length 8 _)]

end Sys2Proof
end

section
/-!
PROOFS. A syllable's word decodes to the syllable (O55, O56).
-/
namespace Sys2Proof.Laws
open Sys2Proof.Machine
open Sys2Proof (Instr Imm RegIx PredIx AccIx)

/-! ## Fields -/

/-- The fields of a syllable are of the widths of R102, `MAJ` is none of a B counterpart, and an extension comes with an
immediate form only (R107). -/
structure FieldsFit (f : SylFields) : Prop where
  cd : f.cd < 32
  cs1 : f.cs1 < 32
  cs2 : f.cs2 < 32
  mn : f.mn < 64
  maj : f.maj < 64
  notB : (decide (0x20 ≤ f.maj) && decide (f.maj < 0x28)) = false
  ext : f.ext.isSome = true → immForm f.maj = true

theorem immLow_lt (m : Imm) : immLow m < 64 := by
  cases m with
  | short v => exact v.isLt
  | ext v => exact (v.setWidth 6).isLt

/-- `MIN` and the extension of an immediate give the immediate back (R106). -/
theorem immOf_low_high (m : Imm) : immOf (immLow m) (immHigh m) = m := by
  cases m with
  | short v => simp [immOf, immLow, immHigh]
  | ext v =>
    have h : (v >>> 6).setWidth 23 ++ v.setWidth 6 = v := by
      ext j hj
      simp
      grind
    unfold immOf immLow immHigh
    simp only [BitVec.ofNat_toNat, BitVec.setWidth_eq]
    rw [h]

theorem fieldsFit_of_fieldsOf {i : Instr} {f : SylFields} (h : fieldsOf i = some f) : FieldsFit f := by
  have lt5 : ∀ x : RegIx, x.toNat < 32 := fun x => x.isLt
  have lt3 : ∀ x : PredIx, x.toNat < 32 := fun x => x.isLt.trans (by decide)
  have lt2 : ∀ x : AccIx, x.toNat < 32 := fun x => x.isLt.trans (by decide)
  cases i
  case compare p pd pc cond cs1 cs2 | wideCompare p pd pc cond cs1 cs2 =>
    obtain ⟨-, hf⟩ := Option.ite_none_left_eq_some.1 h
    cases hf
    have hmn : pc.toNat * 8 + cond.toNat < 64 := by have := pc.isLt; have := cond.isLt; omega
    constructor <;> simp [lt5, lt3, hmn]
  case mfs p r cs1 cs2 | mts p r cs1 cs2 =>
    obtain ⟨-, hf⟩ := Option.ite_none_left_eq_some.1 h
    cases hf
    constructor <;> simp [lt5]
  case wslli p cd cs1 amt | wsrli p cd cs1 amt | wsrai p cd cs1 amt =>
    cases h
    have := amt.isLt
    constructor <;> simp [lt5]
    all_goals omega
  case slli amt | srli amt | srai amt | customSyllable amt _ _ _ =>
    cases h
    have := amt.isLt
    constructor <;> simp [lt5]
    omega
  case tadd ca =>
    cases h
    have := lt5 ca
    constructor <;> simp [lt5]
    omega
  all_goals cases h
  all_goals constructor <;> simp [lt5, lt3, lt2, immLow_lt, immForm]

/-! ## Decoding from fields -/

/-- Operands of three bits in a field of five. -/
theorem small_predIx (x : PredIx) : small (x.setWidth 5) 8 = true ∧ (x.setWidth 5).setWidth 3 = x := by
  revert x; decide

/-- Operands of two bits in a field of five. -/
theorem small_accIx (x : AccIx) : small (x.setWidth 5) 4 = true ∧ (x.setWidth 5).setWidth 2 = x := by
  revert x; decide

/-- The fields of a compare give its predicates and its condition back (R142). -/
theorem compare_fields {pd pc : PredIx} (cond : BitVec 3) (h : ¬ (pd = pc ∧ pc ≠ 0)) :
    compareOk (pd.setWidth 5) (pc.toNat * 8 + cond.toNat) = true ∧
      BitVec.ofNat 3 ((pc.toNat * 8 + cond.toNat) / 8) = pc ∧ BitVec.ofNat 3 (pc.toNat * 8 + cond.toNat) = cond := by
  have h1 := cond.isLt
  have hpc : (pc.toNat * 8 + cond.toNat) / 8 = pc.toNat := by omega
  have hcond : (pc.toNat * 8 + cond.toNat) % 2 ^ 3 = cond.toNat := by omega
  refine ⟨?_, ?_, ?_⟩
  · have hpd : (pd.setWidth 5).toNat = pd.toNat := by
      have := pd.isLt
      rw [BitVec.toNat_setWidth]; omega
    unfold compareOk
    rw [(small_predIx pd).1, hpc, hpd]
    have : pd.toNat ≠ pc.toNat ∨ pc.toNat = 0 := by
      by_cases h0 : pc = 0
      · exact .inr (by rw [h0]; rfl)
      · exact .inl fun he => h ⟨BitVec.eq_of_toNat_eq he, h0⟩
    simpa using this
  · rw [hpc, BitVec.ofNat_toNat, BitVec.setWidth_eq]
  · exact BitVec.eq_of_toNat_eq (by rw [BitVec.toNat_ofNat, hcond])

/-- The fields of a wide shift immediate give its amount and its kind back (R143). -/
theorem wideShift_fields (amt : BitVec 7) {k : Nat} (hk : k < 4) :
    small (BitVec.ofNat 5 (amt.toNat / 64 * 4 + k)) 8 = true ∧ bitsAt (BitVec.ofNat 5 (amt.toNat / 64 * 4 + k)).toNat 0 2 = k ∧
      BitVec.ofNat 7 (bitsAt (BitVec.ofNat 5 (amt.toNat / 64 * 4 + k)).toNat 2 1 * 64 + amt.toNat % 64) = amt := by
  have h := amt.isLt
  have hnat : (BitVec.ofNat 5 (amt.toNat / 64 * 4 + k)).toNat = amt.toNat / 64 * 4 + k := by
    rw [BitVec.toNat_ofNat]; omega
  unfold small bitsAt
  rw [hnat]
  refine ⟨decide_eq_true (by omega), by omega, BitVec.eq_of_toNat_eq ?_⟩
  rw [BitVec.toNat_ofNat]; omega

/-- The decoder gives a syllable back from its fields, whatever its operands (R103, R106, R136-R144, R181-R189, R205). -/
theorem decodeMaj_fieldsOf {i : Instr} {f : SylFields} (h : fieldsOf i = some f) :
    decodeMaj f.pair f.maj (BitVec.ofNat 5 f.cd) (BitVec.ofNat 5 f.cs1) (BitVec.ofNat 5 f.cs2) f.mn f.ext = some i := by
  cases i
  case compare p pd pc cond cs1 cs2 | wideCompare p pd pc cond cs1 cs2 =>
    obtain ⟨hne, hf⟩ := Option.ite_none_left_eq_some.1 h
    cases hf
    obtain ⟨hok, hpc, hcond⟩ := compare_fields cond hne
    simp [decodeMaj, decodeCompare, decodeWideCompare, hok, hpc, hcond]
  case mfs p cd sr cs2 =>
    obtain ⟨hs, hf⟩ := Option.ite_none_left_eq_some.1 h
    cases hf
    simp at hs
    simp [decodeMaj, decodeGroup10, hs]
  case mts p sr cs1 cs2 =>
    obtain ⟨hs, hf⟩ := Option.ite_none_left_eq_some.1 h
    cases hf
    simp at hs
    simpa [decodeMaj, decodeGroup10, hs] using hs.2
  case wslli p cd cs1 amt =>
    cases h
    obtain ⟨hsmall, hkind, hamt⟩ := wideShift_fields amt (k := 0) (by decide)
    rw [Nat.add_zero] at hsmall hkind hamt
    simp [decodeMaj, decodeWideShift, hsmall, hkind, hamt, -BitVec.toNat_ofNat]
  case wsrli p cd cs1 amt =>
    cases h
    obtain ⟨hsmall, hkind, hamt⟩ := wideShift_fields amt (k := 1) (by decide)
    simp [decodeMaj, decodeWideShift, hsmall, hkind, hamt, -BitVec.toNat_ofNat]
  case wsrai p cd cs1 amt =>
    cases h
    obtain ⟨hsmall, hkind, hamt⟩ := wideShift_fields amt (k := 2) (by decide)
    simp [decodeMaj, decodeWideShift, hsmall, hkind, hamt, -BitVec.toNat_ofNat]
  case slli | srli | srai | customSyllable =>
    cases h
    simp [decodeMaj, decodeShift]
  case tadd ca =>
    cases h
    simp [decodeMaj, ca.isLt]
  case pand | por | pxor | pandn =>
    cases h
    simp [decodeMaj, decodeGroup10, small_predIx]
  case aclr | amova | asetw | asetx | asetm | asetg | agetg | agetr | aneg | qmul | qmac | qmsu | mmul | mmac | mmsu | aaddw | asubw
      | aaddq | asubq | aadda | arndq | arndw | arndm | ashrq | ashrw =>
    cases h
    simp [decodeMaj, decodeGroup30, decodeGroup31, decodeGroup32, small_accIx]
  all_goals cases h
  all_goals simp only [BitVec.ofNat_toNat, BitVec.setWidth_eq]
  case lb | lbu | lh | lhu | lw | lwu | ld | clc | sb | sh | sw | sd | csc | cincaddri | addi | andi | ori | xori | br | callm
      | loop | waddi =>
    simp [decodeMaj, immOf_low_high]
  all_goals rfl

/-! ## The word -/

/-- A word of fields that fit reads back every field, S, PS and PI (R102). -/
theorem sylWord_fields {f : SylFields} (hf : FieldsFit f) (last : Bool) (ps : PredIx) (inv : Bool) {w : Nat}
    (hw : w = sylWord f last ps inv) :
    w < 2 ^ 32 ∧ w / 2 ^ 31 % 2 = b2n last ∧ bitsAt w 28 3 = ps.toNat ∧ w / 2 ^ 27 % 2 = b2n inv ∧ bitsAt w 21 6 = f.maj ∧
      bitsAt w 16 5 = f.cd ∧ bitsAt w 11 5 = f.cs1 ∧ bitsAt w 6 5 = f.cs2 ∧ bitsAt w 0 6 = f.mn := by
  obtain ⟨hcd, hcs1, hcs2, hmn, hmaj, -, -⟩ := hf
  have hps := ps.isLt
  have hb : ∀ x, b2n x ≤ 1 := by decide
  have hlast := hb last
  have hinv := hb inv
  unfold sylWord at hw
  unfold bitsAt
  refine ⟨?_, ?_, ?_, ?_, ?_, ?_, ?_, ?_, ?_⟩ <;> omega

theorem testBit_eq_of_mod {w n : Nat} {x : Bool} (h : w / 2 ^ n % 2 = b2n x) : w.testBit n = x := by
  rw [Nat.testBit_eq_decide_div_mod_eq, h]
  cases x <;> rfl

/-- Decoding a word of fields that fit decodes the fields (R103, R107, R132). -/
theorem decodeSyl_sylWord {f : SylFields} (hf : FieldsFit f) (hl : f.legal = true) (last : Bool) (ps : PredIx) (inv : Bool) :
    decodeSyl f.pair (sylWord f last ps inv) f.ext =
      decodeMaj f.pair f.maj (BitVec.ofNat 5 f.cd) (BitVec.ofNat 5 f.cs1) (BitVec.ofNat 5 f.cs2) f.mn f.ext := by
  obtain ⟨-, -, -, -, hmaj, hcd, hcs1, hcs2, hmn⟩ := sylWord_fields hf last ps inv rfl
  have hext : (f.ext.isSome && !immForm f.maj) = false := by
    cases h : f.ext.isSome
    · rfl
    · rw [hf.ext h]; rfl
  have hsent : (isSentinel f.pair && decide (0x30 ≤ f.maj)) = false := by
    simpa only [SylFields.legal, Bool.not_eq_true'] using hl
  have hnotB := hf.notB
  unfold decodeSyl
  simp only [hmaj, hcd, hcs1, hcs2, hmn]
  simp [hnotB, hext, hsent]

end Sys2Proof.Laws

namespace Sys2Proof
open Sys2Proof.Machine Sys2Proof.Laws

/-- Settles O55: the word reads back its fields, and the decoder gives the syllable back from them. -/
theorem syllablesDecodeFromTheirWords : Obligations.SyllablesDecodeFromTheirWords := by
  intro i last ps inv w x h
  unfold encodeSyl at h
  cases hf : fieldsOf i with
  | none => rw [hf] at h; cases h
  | some f =>
    rw [hf] at h
    obtain ⟨hl, hw⟩ := Option.ite_none_right_eq_some.1 h
    cases hw
    have hfit := fieldsFit_of_fieldsOf hf
    have hpair : sylPair i = f.pair := by unfold sylPair; rw [hf]
    obtain ⟨hlt, hlast, hps, hinv, -⟩ := sylWord_fields hfit last ps inv rfl
    refine ⟨?_, hlt, testBit_eq_of_mod hlast, hps, testBit_eq_of_mod hinv⟩
    rw [hpair, decodeSyl_sylWord hfit hl, decodeMaj_fieldsOf hf]

/-- Settles O56: each word is decoded by evaluation. -/
theorem syllableWordsOfTheSpec : Obligations.SyllableWordsOfTheSpec := by
  unfold Obligations.SyllableWordsOfTheSpec
  decide

end Sys2Proof
end

section
/-!
PROOFS. What the operations of the ALU compute, on words of every width (R139, R140, R143).
-/
namespace Sys2Proof.Laws
open Sys2Proof.Machine

section
variable {w : Nat} (x y : BitVec w)

/-! ## Overflow and saturation -/

/-- Outside the signed range, in the terms of R139. -/
theorem outside_eq (w : Nat) (e : Int) : outside w e = decide (e < -2 ^ (w - 1) ∨ 2 ^ (w - 1) ≤ e) := by
  unfold outside loOf hiOf
  rw [← Bool.decide_or]
  exact decide_eq_decide.2 (by omega)

theorem wrapV_eq (e : Int) : wrapV w e true = (BitVec.ofInt w e, flagOV (decide (e < -2 ^ (w - 1) ∨ 2 ^ (w - 1) ≤ e))) := by
  unfold wrapV
  rw [outside_eq, Bool.true_and]

theorem clampS_eq (e : Int) : clampS w e =
    (BitVec.ofInt w (max (-2 ^ (w - 1)) (min (2 ^ (w - 1) - 1) e)), flagSATF (decide (e < -2 ^ (w - 1) ∨ 2 ^ (w - 1) ≤ e))) := by
  have hpos : (0 : Int) < 2 ^ (w - 1) := by positivity
  have hval : (if e < loOf w then loOf w else if hiOf w < e then hiOf w else e) = max (-2 ^ (w - 1)) (min (2 ^ (w - 1) - 1) e) := by
    unfold loOf hiOf
    omega
  unfold clampS
  rw [outside_eq, hval]

theorem opAddV_eq : opAddV x y = (x + y, flagOV (decide (x.toInt + y.toInt < -2 ^ (w - 1) ∨ 2 ^ (w - 1) ≤ x.toInt + y.toInt))) := by
  unfold opAddV
  rw [wrapV_eq, BitVec.ofInt_add, BitVec.ofInt_toInt, BitVec.ofInt_toInt]

theorem ofInt_toInt_sub : BitVec.ofInt w (x.toInt - y.toInt) = x - y := by
  rw [Int.sub_eq_add_neg, BitVec.ofInt_add, BitVec.ofInt_neg, BitVec.ofInt_toInt, BitVec.ofInt_toInt, BitVec.sub_eq_add_neg]

theorem opSubV_eq : opSubV x y = (x - y, flagOV (decide (x.toInt - y.toInt < -2 ^ (w - 1) ∨ 2 ^ (w - 1) ≤ x.toInt - y.toInt))) := by
  unfold opSubV
  rw [wrapV_eq, ofInt_toInt_sub]

theorem opMulV_eq : opMulV x y = (x * y, flagOV (decide (x.toInt * y.toInt < -2 ^ (w - 1) ∨ 2 ^ (w - 1) ≤ x.toInt * y.toInt))) := by
  unfold opMulV
  rw [wrapV_eq, BitVec.ofInt_mul, BitVec.ofInt_toInt, BitVec.ofInt_toInt]

/-- The smallest value is the one whose negation is out of range. -/
theorem neg_outside_iff (hw : 0 < w) : (-x.toInt < -2 ^ (w - 1) ∨ 2 ^ (w - 1) ≤ -x.toInt) ↔ x = BitVec.intMin w := by
  have hmin := BitVec.toInt_intMin_of_pos hw
  have hlt := BitVec.toInt_lt (x := x)
  constructor
  · intro h
    refine BitVec.eq_of_toInt_eq ?_
    have hle := BitVec.le_toInt x
    omega
  · rintro rfl
    omega

theorem opNeg_eq (hw : 0 < w) : opNeg x = (-x, flagOV (decide (x = BitVec.intMin w))) := by
  unfold opNeg
  rw [wrapV_eq, BitVec.ofInt_neg, BitVec.ofInt_toInt, decide_eq_decide.2 (neg_outside_iff x hw)]

theorem intMax_eq_ofInt (w : Nat) : BitVec.intMax w = BitVec.ofInt w (2 ^ (w - 1) - 1) := by
  rw [← BitVec.toInt_intMax, BitVec.ofInt_toInt]

/-- A value clamped within the range is itself, and 2^(w-1) is clamped to the largest value. -/
theorem clampS_of_cases {e : Int} {P : Prop} [Decidable P] (v : BitVec w) (hin : ¬ P → v.toInt = e)
    (hout : P → e = 2 ^ (w - 1)) : clampS w e = (if P then BitVec.intMax w else v, flagSATF (decide P)) := by
  have hpos : (0 : Int) < 2 ^ (w - 1) := by positivity
  rw [clampS_eq]
  by_cases hP : P
  · rw [if_pos hP, hout hP, decide_eq_true hP]
    rw [intMax_eq_ofInt, decide_eq_true (by omega)]
    congr 2
    omega
  · have hlo := BitVec.le_toInt v
    have hhi := BitVec.toInt_lt (x := v)
    rw [if_neg hP, ← hin hP, decide_eq_false hP, decide_eq_false (by omega)]
    congr 1
    rw [show max (-2 ^ (w - 1)) (min (2 ^ (w - 1) - 1) v.toInt) = v.toInt by omega, BitVec.ofInt_toInt]

theorem opNegS_eq (hw : 0 < w) : opNegS x =
    (if x = BitVec.intMin w then BitVec.intMax w else -x, flagSATF (decide (x = BitVec.intMin w))) := by
  refine clampS_of_cases (-x) (fun h => BitVec.toInt_neg_of_ne_intMin h) ?_
  rintro rfl
  rw [BitVec.toInt_intMin_of_pos hw, neg_neg]

/-! ## Order -/

theorem opMin_eq : opMin x y = (if x.slt y then x else y, noFlags) := by
  unfold opMin; simp only [BitVec.slt_iff_toInt_lt]
theorem opMax_eq : opMax x y = (if x.slt y then y else x, noFlags) := by
  unfold opMax; simp only [BitVec.slt_iff_toInt_lt]
theorem opSlt_eq (x y : Word) : opSlt x y = (if x.slt y then 1 else 0, noFlags) := by
  unfold opSlt; simp only [BitVec.slt_iff_toInt_lt]

/-! ## Shifts -/

theorem shlBy_eq (n : Nat) : shlBy x n = x <<< n := by
  unfold shlBy
  split
  · rfl
  · exact (BitVec.shiftLeft_eq_zero (by omega)).symm

theorem shrBy_eq (n : Nat) : shrBy x n = x >>> n := by
  unfold shrBy
  split
  · rfl
  · exact (BitVec.ushiftRight_eq_zero (by omega)).symm

/-- Beyond the width an arithmetic right shift fills with the sign. -/
theorem sarBy_eq (n : Nat) : sarBy x n = x.sshiftRight n := by
  unfold sarBy
  split
  · rfl
  · ext j hj
    rw [BitVec.getElem_sshiftRight, BitVec.getElem_sshiftRight, dif_neg (by omega), dif_neg (by omega)]

/-! ## Quotients and remainders (R140) -/

/-- The quotient of the smallest value by -1 is one more than the largest value. -/
theorem tdiv_intMin_neg_one (hw : 0 < w) (h : x = BitVec.intMin w ∧ y = -1) : x.toInt.tdiv y.toInt = 2 ^ (w - 1) := by
  obtain ⟨rfl, rfl⟩ := h
  have hneg : (-1 : BitVec w).toInt = -1 := by
    rw [show (-1 : BitVec w) = BitVec.allOnes w from BitVec.neg_one_eq_allOnes, BitVec.toInt_allOnes, if_pos hw]
  rw [BitVec.toInt_intMin_of_pos hw, hneg, Int.tdiv_neg, Int.tdiv_one, neg_neg]

theorem toInt_sdiv_of_not {x y : BitVec w} (h : ¬ (x = BitVec.intMin w ∧ y = -1)) : (x.sdiv y).toInt = x.toInt.tdiv y.toInt :=
  BitVec.toInt_sdiv_of_ne_or_ne x y (not_and_or.1 h)

/-- The only quotient out of range is that of the smallest value by -1. -/
theorem tdiv_outside_iff (hw : 0 < w) :
    (x.toInt.tdiv y.toInt < -2 ^ (w - 1) ∨ 2 ^ (w - 1) ≤ x.toInt.tdiv y.toInt) ↔ x = BitVec.intMin w ∧ y = -1 := by
  constructor
  · intro h
    by_contra hne
    have hlo := BitVec.le_toInt (x.sdiv y)
    have hhi := BitVec.toInt_lt (x := x.sdiv y)
    rw [toInt_sdiv_of_not hne] at hlo hhi
    omega
  · intro h
    exact .inr (tdiv_intMin_neg_one x y hw h).ge

theorem ofInt_tdiv : BitVec.ofInt w (x.toInt.tdiv y.toInt) = x.sdiv y :=
  BitVec.eq_of_toInt_eq (by rw [BitVec.toInt_ofInt, BitVec.toInt_sdiv])

theorem toInt_eq_zero_iff {y : BitVec w} : y.toInt = 0 ↔ y = 0 :=
  ⟨fun h => BitVec.eq_of_toInt_eq (by rw [h]; exact BitVec.toInt_zero.symm), fun h => by rw [h]; exact BitVec.toInt_zero⟩

/-- A zero divisor is not -1. -/
theorem zero_ne_neg_one (hw : 0 < w) : (0 : BitVec w) ≠ -1 :=
  fun h => hw.ne' (BitVec.zero_eq_neg_one_iff.1 h)

theorem opDiv_eq (hw : 0 < w) : opDiv x y =
    (x.sdiv y, ⟨decide (x = BitVec.intMin w ∧ y = -1), false, false, decide (y = 0), false⟩) := by
  unfold opDiv sdivE
  by_cases hy : y = 0
  · have hno : ¬ (x = BitVec.intMin w ∧ y = -1) := fun h => zero_ne_neg_one hw (hy.symm.trans h.2)
    rw [if_pos (toInt_eq_zero_iff.2 hy), decide_eq_false hno, decide_eq_true hy, hy]
    exact congrArg (·, _) BitVec.sdiv_zero.symm
  · rw [if_neg (mt toInt_eq_zero_iff.1 hy), wrapV_eq, ofInt_tdiv, decide_eq_decide.2 (tdiv_outside_iff x y hw), decide_eq_false hy]
    rfl

theorem opDivS_eq (hw : 0 < w) : opDivS x y =
    (if x = BitVec.intMin w ∧ y = -1 then BitVec.intMax w else x.sdiv y,
      ⟨false, decide (x = BitVec.intMin w ∧ y = -1), false, decide (y = 0), false⟩) := by
  unfold opDivS sdivS
  by_cases hy : y = 0
  · have hno : ¬ (x = BitVec.intMin w ∧ y = -1) := fun h => zero_ne_neg_one hw (hy.symm.trans h.2)
    rw [if_pos (toInt_eq_zero_iff.2 hy), if_neg hno, decide_eq_false hno, decide_eq_true hy, hy]
    exact congrArg (·, _) BitVec.sdiv_zero.symm
  · rw [if_neg (mt toInt_eq_zero_iff.1 hy), decide_eq_false hy]
    exact clampS_of_cases _ toInt_sdiv_of_not (tdiv_intMin_neg_one x y hw)

theorem opRem_eq (hw : 0 < w) : opRem x y =
    (x.srem y, ⟨decide (x = BitVec.intMin w ∧ y = -1), false, false, decide (y = 0), false⟩) := by
  unfold opRem sremE
  by_cases hy : y = 0
  · have hno : ¬ (x = BitVec.intMin w ∧ y = -1) := fun h => zero_ne_neg_one hw (hy.symm.trans h.2)
    rw [if_pos (toInt_eq_zero_iff.2 hy), decide_eq_false hno, decide_eq_true hy, hy, BitVec.ofInt_toInt]
    exact congrArg (·, _) BitVec.srem_zero.symm
  · rw [if_neg (mt toInt_eq_zero_iff.1 hy), outside_eq, decide_eq_decide.2 (tdiv_outside_iff x y hw), decide_eq_false hy,
      ← BitVec.toInt_srem, BitVec.ofInt_toInt]
    rfl

theorem opDivu_eq (x y : Word) : opDivu x y = (x / y, flagDZ (decide (y = 0))) := by
  unfold opDivu
  split
  · next h => rw [h]; exact congrArg (·, _) BitVec.udiv_zero.symm
  · next h => rw [decide_eq_false h]; exact congrArg (·, _) BitVec.udiv_def.symm

theorem opRemu_eq (x y : Word) : opRemu x y = (x % y, flagDZ (decide (y = 0))) := by
  unfold opRemu
  split
  · next h => rw [h]; exact congrArg (·, _) BitVec.umod_zero.symm
  · next h => rw [decide_eq_false h]; exact congrArg (·, _) BitVec.umod_def.symm

/-! ## Products -/

/-- The signed product of two integers, on 128 bits. -/
theorem signed_product (x y : Word) : x.signExtend 128 * y.signExtend 128 = BitVec.ofInt 128 (x.toInt * y.toInt) := by
  have hext : ∀ v : Word, v.signExtend 128 = BitVec.ofInt 128 v.toInt := fun v => rfl
  rw [hext, hext, BitVec.ofInt_mul]

theorem unsigned_product (x y : Word) : x.setWidth 128 * y.setWidth 128 = BitVec.ofNat 128 (x.toNat * y.toNat) := by
  refine BitVec.eq_of_toNat_eq ?_
  have hx := x.isLt
  have hy := y.isLt
  rw [BitVec.toNat_mul, BitVec.toNat_setWidth, BitVec.toNat_setWidth, Nat.mod_eq_of_lt (a := x.toNat) (by omega),
    Nat.mod_eq_of_lt (a := y.toNat) (by omega), BitVec.toNat_ofNat]

theorem opMulh_eq (x y : Word) : opMulh x y = (((x.signExtend 128 * y.signExtend 128) >>> 64).setWidth 64, noFlags) := by
  unfold opMulh
  rw [signed_product]
  generalize x.toInt * y.toInt = e
  refine congrArg (·, _) (BitVec.eq_of_toNat_eq ?_)
  rw [BitVec.toNat_setWidth, BitVec.toNat_ushiftRight, BitVec.toNat_ofInt, BitVec.toNat_ofInt, Nat.shiftRight_eq_div_pow]
  omega

theorem opMulhu_eq (x y : Word) : opMulhu x y = (((x.setWidth 128 * y.setWidth 128) >>> 64).setWidth 64, noFlags) := by
  unfold opMulhu
  rw [unsigned_product]
  generalize x.toNat * y.toNat = e
  refine congrArg (·, _) (BitVec.eq_of_toNat_eq ?_)
  rw [BitVec.toNat_setWidth, BitVec.toNat_ushiftRight, BitVec.toNat_ofNat, BitVec.toNat_ofNat, Nat.shiftRight_eq_div_pow]
  omega

/-! ## Counts of bits -/

theorem opPopc_eq (x : Word) : opPopc x = (BitVec.ofNat 64 ((List.range 64).countP (fun j => x.getLsbD j)), noFlags) := by
  have h : ∀ n, popFrom x.toNat n = (List.range n).countP (fun j => x.getLsbD j) := by
    intro n
    induction n with
    | zero => rfl
    | succ n ih =>
      rw [List.range_succ, List.countP_append, ← ih, List.countP_singleton]
      exact Nat.add_comm _ _
  unfold opPopc
  rw [h]

/-- Leading zeros counted from bit n - 1 down: all of them 0, the next bit 1. -/
theorem clzFrom_spec (x : Word) (n : Nat) : clzFrom x.toNat n ≤ n ∧
    (∀ j, n - clzFrom x.toNat n ≤ j → j < n → x.getLsbD j = false) ∧
    (clzFrom x.toNat n < n → x.getLsbD (n - 1 - clzFrom x.toNat n) = true) := by
  induction n with
  | zero => exact ⟨le_refl 0, fun j _ hj => absurd hj (Nat.not_lt_zero j), fun h => absurd h (Nat.not_lt_zero _)⟩
  | succ n ih =>
    obtain ⟨hle, hzero, hone⟩ := ih
    unfold clzFrom
    by_cases hbit : x.toNat.testBit n = true
    · rw [if_pos hbit]
      exact ⟨Nat.zero_le _, fun j h1 h2 => by omega, fun _ => hbit⟩
    · rw [if_neg hbit]
      refine ⟨by omega, fun j h1 h2 => ?_, fun h => ?_⟩
      · by_cases hj : j = n
        · rw [hj]; exact Bool.eq_false_iff.2 hbit
        · exact hzero j (by omega) (by omega)
      · rw [show n + 1 - 1 - (1 + clzFrom x.toNat n) = n - 1 - clzFrom x.toNat n by omega]
        exact hone (by omega)

/-- Trailing zeros counted from bit i up, at most n of them: all of them 0, the next bit 1. -/
theorem ctzFrom_spec (x : Word) (n : Nat) : ∀ i, ctzFrom x.toNat i n ≤ n ∧
    (∀ j, i ≤ j → j < i + ctzFrom x.toNat i n → x.getLsbD j = false) ∧
    (ctzFrom x.toNat i n < n → x.getLsbD (i + ctzFrom x.toNat i n) = true) := by
  induction n with
  | zero => exact fun i => ⟨le_refl 0, fun j h1 h2 => absurd h2 (Nat.not_lt.2 h1), fun h => absurd h (Nat.not_lt_zero _)⟩
  | succ n ih =>
    intro i
    obtain ⟨hle, hzero, hone⟩ := ih (i + 1)
    unfold ctzFrom
    by_cases hbit : x.toNat.testBit i = true
    · rw [if_pos hbit]
      exact ⟨Nat.zero_le _, fun j h1 h2 => by omega, fun _ => hbit⟩
    · rw [if_neg hbit]
      refine ⟨by omega, fun j h1 h2 => ?_, fun h => ?_⟩
      · by_cases hj : j = i
        · rw [hj]; exact Bool.eq_false_iff.2 hbit
        · exact hzero j (by omega) (by omega)
      · rw [← Nat.add_assoc]
        exact hone (by omega)

/-! ## Conditions (R142) -/

/-- The condition of a compare, by the three bits that name it. -/
theorem condHolds_iff (cond : BitVec 3) : condHolds cond.toNat x y = true ↔
    (cond = 0 ∧ x = y) ∨ (cond = 1 ∧ x ≠ y) ∨ (cond = 2 ∧ x.slt y = true) ∨ (cond = 3 ∧ y.sle x = true) ∨
      (cond = 4 ∧ x < y) ∨ (cond = 5 ∧ y ≤ x) ∨ (cond = 6 ∧ x &&& y ≠ 0) ∨ (cond = 7 ∧ x &&& y = 0) := by
  have hcond : cond = 0 ∨ cond = 1 ∨ cond = 2 ∨ cond = 3 ∨ cond = 4 ∨ cond = 5 ∨ cond = 6 ∨ cond = 7 := by
    revert cond; decide
  rw [BitVec.slt_eq_decide, BitVec.sle_eq_decide, BitVec.lt_def, BitVec.le_def]
  rcases hcond with rfl | rfl | rfl | rfl | rfl | rfl | rfl | rfl <;> simp [condHolds]

end

end Sys2Proof.Laws
end

section
/-!
PROOFS. Integer and wide syllables issued alone (O6, O7, O9).
-/
namespace Sys2Proof.Laws
open Sys2Proof.Machine
open Sys2Proof (Instr Imm)

section
variable {i : Instr} {p b : Nat} {cd cs1 cs2 : RegIx} {s : State} {n : SylInfo} {fl : Flags}

theorem srcW_issued (s : State) (p b n : Nat) : (issued s p b).srcW p b n = s.srcW p b n := by
  unfold State.srcW; rw [src_issued]

/-- An integer syllable of two sources writes its value and flags (R119, R139). -/
theorem intRR_writes {f : Word → Word → Word × Flags} {v : Word} (hi : Issues i p b s) (hn : infoOf i = some n)
    (hload : n.load = false) (hx : exec i s = runReg i p (intRR f cd cs1 cs2) s)
    (hf : f (s.srcX p b cs1.toNat) (s.srcX p b cs2.toNat) = (v, fl)) : exec i s = .next (intDone s p b cd v fl) := by
  refine runReg_retires hi hn hload hx (l := false) ?_
  have hv : f ((issued s p b).srcX p b cs1.toNat) ((issued s p b).srcX p b cs2.toNat) = (v, fl) := by
    rw [srcX_issued, srcX_issued, hf]
  exact congrArg (fun r : Word × Flags => Res.ok false (((issued s p b).setX p b cd.toNat r.1).addFlags p b r.2)) hv

/-- An integer syllable of one source writes its value and flags (R119, R139, R141). -/
theorem intR_writes {f : Word → Word × Flags} {v : Word} (hi : Issues i p b s) (hn : infoOf i = some n)
    (hload : n.load = false) (hx : exec i s = runReg i p (intR f cd cs1) s) (hf : f (s.srcX p b cs1.toNat) = (v, fl)) :
    exec i s = .next (intDone s p b cd v fl) := by
  rw [intR_completes hi hn hload hx, hf]

/-- An integer syllable of an immediate writes its value and flags (R137, R141). -/
theorem intRI_writes {f : Word → Word → Word × Flags} {imm : Imm} {v : Word} (hi : Issues i p b s) (hn : infoOf i = some n)
    (hload : n.load = false) (hx : exec i s = runReg i p (intRI f cd cs1 imm) s)
    (hf : f (s.srcX p b cs1.toNat) (BitVec.ofInt 64 (immVal imm)) = (v, fl)) : exec i s = .next (intDone s p b cd v fl) :=
  intR_writes (f := fun a => f a (BitVec.ofInt 64 (immVal imm))) hi hn hload hx hf

/-- A wide syllable of two sources writes its value and flags (R120, R143). -/
theorem wideRR_writes {f : Wide → Wide → Wide × Flags} {v : Wide} (hi : Issues i p b s) (hn : infoOf i = some n)
    (hload : n.load = false) (hx : exec i s = runReg i p (wideRR f cd cs1 cs2) s)
    (hf : f (s.srcW p b cs1.toNat) (s.srcW p b cs2.toNat) = (v, fl)) : exec i s = .next (wideDone s p b cd v fl) := by
  refine runReg_retires hi hn hload hx (l := false) ?_
  have hv : f ((issued s p b).srcW p b cs1.toNat) ((issued s p b).srcW p b cs2.toNat) = (v, fl) := by
    rw [srcW_issued, srcW_issued, hf]
  exact congrArg (fun r : Wide × Flags => Res.ok false (((issued s p b).setW p b cd.toNat r.1).addFlags p b r.2)) hv

/-- A wide syllable of one source writes its value and flags (R120, R143). -/
theorem wideR_writes {f : Wide → Wide × Flags} {v : Wide} (hi : Issues i p b s) (hn : infoOf i = some n)
    (hload : n.load = false) (hx : exec i s = runReg i p (wideR f cd cs1) s)
    (hf : f (s.srcW p b cs1.toNat) = (v, fl)) : exec i s = .next (wideDone s p b cd v fl) := by
  refine runReg_retires hi hn hload hx (l := false) ?_
  rw [← srcW_issued] at hf
  exact congrArg (fun r : Wide × Flags => Res.ok false (((issued s p b).setW p b cd.toNat r.1).addFlags p b r.2)) hf

/-- `WHI` writes the upper half as an integer (R119, R143). -/
theorem wideHi_writes (hi : Issues i p b s) (hn : infoOf i = some n) (hload : n.load = false)
    (hx : exec i s = runReg i p (wideHi cd cs1) s) :
    exec i s = .next (intDone s p b cd ((s.srcW p b cs1.toNat >>> 64).setWidth 64) noFlags) := by
  rw [intDone_noFlags]
  refine runReg_retires hi hn hload hx (l := false) ?_
  rw [← srcW_issued]
  rfl

end

end Sys2Proof.Laws

namespace Sys2Proof
open Sys2Proof.Machine Sys2Proof.Laws

/-- Settles O6: each syllable writes what its operation computes. -/
theorem integerArithmetic : Obligations.IntegerArithmetic := by
  refine ⟨?_, ?_⟩
  · rintro p b cd cs1 cs2 s x y rfl rfl
    refine ⟨?_, ?_, ?_, ?_, ?_, ?_, ?_, ?_, ?_, ?_, ?_, ?_, ?_, ?_, ?_, ?_, ?_, ?_, ?_, ?_⟩ <;> intro hi
    · exact intRR_writes hi rfl rfl rfl rfl
    · exact intRR_writes hi rfl rfl rfl rfl
    · exact intRR_writes hi rfl rfl rfl (opAddV_eq _ _)
    · exact intRR_writes hi rfl rfl rfl (opSubV_eq _ _)
    · exact intRR_writes hi rfl rfl rfl (clampS_eq _)
    · exact intRR_writes hi rfl rfl rfl (clampS_eq _)
    · exact intRR_writes hi rfl rfl rfl rfl
    · exact intRR_writes hi rfl rfl rfl rfl
    · exact intRR_writes hi rfl rfl rfl rfl
    · exact intRR_writes hi rfl rfl rfl rfl
    · exact intRR_writes hi rfl rfl rfl rfl
    · exact intRR_writes hi rfl rfl rfl (opMin_eq _ _)
    · exact intRR_writes hi rfl rfl rfl (opMax_eq _ _)
    · exact intRR_writes hi rfl rfl rfl rfl
    · exact intRR_writes hi rfl rfl rfl rfl
    · exact intRR_writes hi rfl rfl rfl (opSlt_eq _ _)
    · exact intRR_writes hi rfl rfl rfl rfl
    · exact intRR_writes hi rfl rfl rfl (congrArg (·, noFlags) (shlBy_eq _ _))
    · exact intRR_writes hi rfl rfl rfl (congrArg (·, noFlags) (shrBy_eq _ _))
    · exact intRR_writes hi rfl rfl rfl (congrArg (·, noFlags) (sarBy_eq _ _))
  · rintro p b cd cs1 cs2 s x y rfl rfl
    refine ⟨?_, ?_, ?_, ?_, ?_, ?_, ?_, ?_, ?_, ?_⟩ <;> intro hi
    · exact intRR_writes hi rfl rfl rfl rfl
    · exact intRR_writes hi rfl rfl rfl (opMulV_eq _ _)
    · exact intRR_writes hi rfl rfl rfl (clampS_eq _)
    · exact intRR_writes hi rfl rfl rfl (opMulh_eq _ _)
    · exact intRR_writes hi rfl rfl rfl (opMulhu_eq _ _)
    · exact intRR_writes hi rfl rfl rfl (opDiv_eq _ _ (by decide))
    · exact intRR_writes hi rfl rfl rfl (opDivu_eq _ _)
    · exact intRR_writes hi rfl rfl rfl (opRem_eq _ _ (by decide))
    · exact intRR_writes hi rfl rfl rfl (opRemu_eq _ _)
    · exact intRR_writes hi rfl rfl rfl (opDivS_eq _ _ (by decide))

/-- Settles O7: each syllable writes what its operation computes; the counts by what they count. -/
theorem integerUnaryAndImmediate : Obligations.IntegerUnaryAndImmediate := by
  refine ⟨?_, ?_⟩
  · rintro p b cd cs1 s x rfl
    refine ⟨?_, ?_, ?_, ?_, ?_, ?_, ?_, ?_, ?_⟩ <;> intro hi
    · exact intR_writes hi rfl rfl rfl (opNeg_eq _ (by decide))
    · exact intR_writes hi rfl rfl rfl (opNegS_eq _ (by decide))
    · exact intR_writes hi rfl rfl rfl rfl
    · exact intR_writes hi rfl rfl rfl rfl
    · exact intR_writes hi rfl rfl rfl rfl
    · exact intR_writes hi rfl rfl rfl rfl
    · exact intR_writes hi rfl rfl rfl (opPopc_eq _)
    · obtain ⟨hle, hzero, hone⟩ := clzFrom_spec (s.srcX p b cs1.toNat) 64
      exact ⟨_, hle, hzero, hone, intR_writes hi rfl rfl rfl rfl⟩
    · obtain ⟨hle, hzero, hone⟩ := ctzFrom_spec (s.srcX p b cs1.toNat) 64 0
      rw [Nat.zero_add] at hzero hone
      exact ⟨_, hle, fun j => hzero j (Nat.zero_le j), hone, intR_writes hi rfl rfl rfl rfl⟩
  · rintro p b cd cs1 imm amt s x rfl
    refine ⟨?_, ?_, ?_, ?_, ?_, ?_, ?_⟩ <;> intro hi
    · exact intRI_writes hi rfl rfl rfl rfl
    · exact intRI_writes hi rfl rfl rfl rfl
    · exact intRI_writes hi rfl rfl rfl rfl
    · exact intRI_writes hi rfl rfl rfl rfl
    · exact intR_writes hi rfl rfl rfl (congrArg (·, noFlags) (shlBy_eq _ _))
    · exact intR_writes hi rfl rfl rfl (congrArg (·, noFlags) (shrBy_eq _ _))
    · exact intR_writes hi rfl rfl rfl (congrArg (·, noFlags) (sarBy_eq _ _))

/-- Settles O9: each syllable writes what its operation computes on 128 bits. -/
theorem wideSyllables : Obligations.WideSyllables := by
  refine ⟨?_, ?_⟩
  · rintro p b cd cs1 cs2 s x y rfl rfl
    refine ⟨?_, ?_, ?_, ?_, ?_, ?_, ?_, ?_, ?_, ?_, ?_, ?_, ?_, ?_, ?_, ?_, ?_, ?_, ?_, ?_, ?_⟩ <;> intro hi
    · exact wideRR_writes hi rfl rfl rfl rfl
    · exact wideRR_writes hi rfl rfl rfl rfl
    · exact wideRR_writes hi rfl rfl rfl (opAddV_eq _ _)
    · exact wideRR_writes hi rfl rfl rfl (opSubV_eq _ _)
    · exact wideRR_writes hi rfl rfl rfl (clampS_eq _)
    · exact wideRR_writes hi rfl rfl rfl (clampS_eq _)
    · exact wideRR_writes hi rfl rfl rfl rfl
    · exact wideRR_writes hi rfl rfl rfl rfl
    · exact wideRR_writes hi rfl rfl rfl rfl
    · exact wideRR_writes hi rfl rfl rfl rfl
    · exact wideRR_writes hi rfl rfl rfl (opMulV_eq _ _)
    · exact wideRR_writes hi rfl rfl rfl (clampS_eq _)
    · exact wideRR_writes hi rfl rfl rfl (opDiv_eq _ _ (by decide))
    · exact wideRR_writes hi rfl rfl rfl (opRem_eq _ _ (by decide))
    · exact wideRR_writes hi rfl rfl rfl (opDivS_eq _ _ (by decide))
    · exact wideRR_writes hi rfl rfl rfl (congrArg (·, noFlags) (shlBy_eq _ _))
    · exact wideRR_writes hi rfl rfl rfl (congrArg (·, noFlags) (shrBy_eq _ _))
    · exact wideRR_writes hi rfl rfl rfl (congrArg (·, noFlags) (sarBy_eq _ _))
    · exact wideRR_writes hi rfl rfl rfl (congrArg (·, noFlags) (signed_product _ _).symm)
    · exact wideRR_writes hi rfl rfl rfl (congrArg (·, noFlags) (unsigned_product _ _).symm)
    · exact wideRR_writes hi rfl rfl rfl rfl
  · rintro p b cd cs1 imm amt s x rfl
    refine ⟨?_, ?_, ?_, ?_, ?_, ?_, ?_, ?_, ?_⟩ <;> intro hi
    · exact wideR_writes hi rfl rfl rfl (opNeg_eq _ (by decide))
    · exact wideR_writes hi rfl rfl rfl (opNegS_eq _ (by decide))
    · exact wideR_writes hi rfl rfl rfl rfl
    · exact wideR_writes hi rfl rfl rfl rfl
    · exact wideHi_writes hi rfl rfl rfl
    · exact wideR_writes hi rfl rfl rfl (congrArg (·, noFlags) (shlBy_eq _ _))
    · exact wideR_writes hi rfl rfl rfl (congrArg (·, noFlags) (shrBy_eq _ _))
    · exact wideR_writes hi rfl rfl rfl (congrArg (·, noFlags) (sarBy_eq _ _))
    · exact wideR_writes hi rfl rfl rfl rfl

end Sys2Proof
end

section
/-!
PROOFS. What a register syllable leaves unchanged (O12).
-/
namespace Sys2Proof.Laws
open Sys2Proof.Machine
open Sys2Proof (Instr Imm PredIx)

/-! ## Banks -/

/-- Bank k' is bank k but for the registers and predicates that a list names, as `SylInfo.writes` does, and for sticky flags, which
are only set (R117, R119, R121, R190). -/
structure BankFrame (ws : List Nat) (k k' : Bank) : Prop where
  regs : ∀ r, r ∉ ws → k'.reg r = k.reg r
  preds : ∀ r, r < 8 → 32 + r ∉ ws → k'.pred r = k.pred r
  modes : ∀ j, (j < 8 ∨ 12 < j) → k'.amode.getLsbD j = k.amode.getLsbD j
  sticky : ∀ j, k.amode.getLsbD j = true → k'.amode.getLsbD j = true
  others : { k' with regs := k.regs, preds := k.preds, amode := k.amode } = k

theorem pred_setPred (k : Bank) {n m : Nat} (v : Bool) (hm : m < 8) : (k.setPred n v).pred m =
    if m = 0 then true else if m = n then v else k.pred m := by
  unfold Bank.setPred Bank.pred
  by_cases h0 : m = 0
  · rw [if_pos h0, if_pos h0]
  · rw [if_neg h0, if_neg h0, if_neg h0]
    by_cases hn : n = 0
    · rw [if_pos hn, if_neg (by omega)]
    · rw [if_neg hn]
      have hbit : (BitVec.ofNat 8 (setBitsAt k.preds.toNat n 1 (b2n v))).getLsbD m =
          if n ≤ m ∧ m < n + 1 then (b2n v).testBit (m - n) else k.preds.toNat.testBit m := by
        rw [BitVec.getLsbD_ofNat, decide_eq_true hm, Bool.true_and, testBit_setBitsAt]
      rw [hbit]
      by_cases hmn : m = n
      · rw [if_pos (by omega), if_pos hmn, hmn, Nat.sub_self]
        cases v <;> rfl
      · rw [if_neg (by omega), if_neg hmn]
        rfl

/-- The flags of `AMODE` are its bits 8 to 12 (R129). -/
theorem getLsbD_flagMask (p : Nat) {j : Nat} (h : j < 8 ∨ 12 < j) : (flagMask p).getLsbD j = false := by
  have hbits : ∀ x : Word, x.toNat < 2 ^ 13 → x.toNat % 2 ^ 8 = 0 → x.getLsbD j = false := fun x hx h8 => by
    show x.toNat.testBit j = false
    rcases h with h | h
    · have := Nat.testBit_mod_two_pow x.toNat 8 j
      rw [h8, Nat.zero_testBit, decide_eq_true h, Bool.true_and] at this
      exact this.symm
    · exact Nat.testBit_lt_two_pow (lt_of_lt_of_le hx (Nat.pow_le_pow_right (by decide) h))
  unfold flagMask
  split <;> exact hbits _ (by decide) (by decide)

namespace BankFrame
variable {ws : List Nat} {k : Bank}

theorem trans {k' k'' : Bank} (h : BankFrame ws k k') (g : BankFrame ws k' k'') : BankFrame ws k k'' where
  regs r hr := (g.regs r hr).trans (h.regs r hr)
  preds r h8 hr := (g.preds r h8 hr).trans (h.preds r h8 hr)
  modes j hj := (g.modes j hj).trans (h.modes j hj)
  sticky j hj := g.sticky j (h.sticky j hj)
  others := by
    refine Eq.trans ?_ h.others
    exact congrArg (fun x : Bank => { x with regs := k.regs, preds := k.preds, amode := k.amode }) g.others

theorem setReg (k : Bank) {n : Nat} (c : Cap) (hn : n ∈ ws) : BankFrame ws k (k.setReg n c) := by
  have hrest : ∃ rs, k.setReg n c = { k with regs := rs } := by
    unfold Bank.setReg; split <;> exact ⟨_, rfl⟩
  have hregs : ∀ r, r ∉ ws → (k.setReg n c).reg r = k.reg r := fun r hr => reg_setReg_ne k c (ne_of_mem_of_not_mem hn hr).symm
  obtain ⟨rs, h⟩ := hrest
  rw [h] at hregs ⊢
  exact ⟨hregs, fun _ _ _ => rfl, fun _ _ => rfl, fun _ h => h, rfl⟩

theorem preds_only {bs : BitVec 8} (hp : ∀ r, r < 8 → 32 + r ∉ ws → ({ k with preds := bs } : Bank).pred r = k.pred r) :
    BankFrame ws k { k with preds := bs } :=
  ⟨fun _ _ => rfl, hp, fun _ _ => rfl, fun _ h => h, rfl⟩

theorem setPred (k : Bank) {n : Nat} (v : Bool) (hn : 32 + n ∈ ws) : BankFrame ws k (k.setPred n v) := by
  have hrest : ∃ bs, k.setPred n v = { k with preds := bs } := by
    unfold Bank.setPred; split <;> exact ⟨_, rfl⟩
  have hpreds : ∀ r, r < 8 → 32 + r ∉ ws → (k.setPred n v).pred r = k.pred r := fun r h8 hr => by
    rw [pred_setPred k v h8]
    by_cases h0 : r = 0
    · rw [if_pos h0, h0]; rfl
    · rw [if_neg h0, if_neg fun h : r = n => hr (h ▸ hn)]
  obtain ⟨bs, h⟩ := hrest
  rw [h] at hpreds ⊢
  exact preds_only hpreds

theorem addFlags (k : Bank) (p : Nat) (f : Word) : BankFrame ws k { k with amode := k.amode ||| (f &&& flagMask p) } where
  regs _ _ := rfl
  preds _ _ _ := rfl
  modes j hj := by
    show (k.amode ||| (f &&& flagMask p)).getLsbD j = _
    rw [BitVec.getLsbD_or, BitVec.getLsbD_and, getLsbD_flagMask p hj, Bool.and_false, Bool.or_false]
  sticky j hj := by
    show (k.amode ||| (f &&& flagMask p)).getLsbD j = _
    rw [BitVec.getLsbD_or, hj, Bool.true_or]
  others := rfl

end BankFrame

/-! ## Effects on one bank -/

/-- From s to u only bank b of pair p changed, and only registers and predicates that a list names and sticky flags. -/
structure RegEffect (ws : List Nat) (p b : Nat) (s u : State) : Prop where
  bank : BankFrame ws (s.bank p b) (u.bank p b)
  banks : ∀ e, e ≠ b → u.bank p e = s.bank p e
  pair : ∃ bs, u.pair p = { s.pair p with banks := bs }
  pairs : ∀ q, q ≠ p → u.pair q = s.pair q
  rest : ∃ ps, u = { s with pairs := ps }

namespace RegEffect
variable {ws : List Nat} {p b : Nat} {s u : State}

theorem trans {t : State} (h : RegEffect ws p b s t) (g : RegEffect ws p b t u) : RegEffect ws p b s u where
  bank := h.bank.trans g.bank
  banks e he := (g.banks e he).trans (h.banks e he)
  pair := by
    obtain ⟨bs, hbs⟩ := h.pair
    obtain ⟨bs', hbs'⟩ := g.pair
    exact ⟨bs', by rw [hbs', hbs]⟩
  pairs q hq := (g.pairs q hq).trans (h.pairs q hq)
  rest := by
    obtain ⟨ps, rfl⟩ := h.rest
    obtain ⟨ps', rfl⟩ := g.rest
    exact ⟨ps', rfl⟩

theorem updBank {f : Bank → Bank} (h : BankFrame ws (s.bank p b) (f (s.bank p b))) : RegEffect ws p b s (s.updBank p b f) where
  bank := by rw [State.bank_updBank, if_pos ⟨rfl, rfl⟩]; exact h
  banks e he := by rw [State.bank_updBank, if_neg fun h => he h.2]
  pair := ⟨_, (State.pair_setBank s p p b _).trans (if_pos rfl)⟩
  pairs q hq := (State.pair_setBank s p q b _).trans (if_neg hq)
  rest := ⟨_, rfl⟩

theorem setReg {n : Nat} (c : Cap) (hn : n ∈ ws) : RegEffect ws p b s (s.setReg p b n c) := updBank (.setReg _ c hn)

theorem addFlags (f : Flags) (h : RegEffect ws p b s u) : RegEffect ws p b s (u.addFlags p b f) := by
  unfold State.addFlags
  split
  · exact h
  · exact h.trans (updBank (.addFlags _ p f.bits))

end RegEffect

/-- From the command's start to its end: what comes before and after the body is sequencing alone. -/
theorem regEffect_retired {ws : List Nat} {p b : Nat} {s u : State} (h : RegEffect ws p b (issued s p b) u) :
    BankFrame ws (s.bank p b) ((retired p u).bank p b) ∧ (∀ e, e ≠ b → (retired p u).bank p e = s.bank p e) ∧
      (∃ bs r l, (retired p u).pair p = { s.pair p with banks := bs, resumed := r, delay := l }) ∧
      (∀ q, q ≠ p → (retired p u).pair q = s.pair q) ∧ SameMemory s (retired p u) ∧ SameUnits s (retired p u) := by
  have hstart := sameButSequencing_issued s p b
  obtain ⟨hbank, hbanks, ⟨bs, hpair⟩, hpairs, ps, hrest⟩ := h
  have hout : u.out = [] := by rw [hrest]; exact hstart.out_eq
  have hend : SameButSequencing p u (retired p u) := sameButSequencing_ended hout false p
  have hmemory : SameMemory (issued s p b) u := by rw [hrest]; exact ⟨SameMaps.refl _, rfl⟩
  have hunits : SameUnits (issued s p b) u := by
    rw [hrest]; exact ⟨rfl, rfl, rfl, rfl, rfl, rfl, rfl, rfl, rfl, rfl, rfl, rfl, rfl, rfl, rfl, rfl, rfl⟩
  refine ⟨?_, fun e he => ?_, ?_, fun q hq => ?_, ?_, ?_⟩
  · rw [hend.bank_eq, ← hstart.bank_eq]; exact hbank
  · rw [hend.bank_eq, hbanks e he, hstart.bank_eq]
  · obtain ⟨r, l, hlast⟩ := hend.pair_self
    obtain ⟨r', l', hfirst⟩ := hstart.pair_self
    exact ⟨bs, r, l, by rw [hlast, hpair, hfirst]⟩
  · rw [hend.pair_ne hq, hpairs q hq, hstart.pair_ne hq]
  · exact SameMemory.trans (SameMemory.trans hstart.sameMemory hmemory) hend.sameMemory
  · exact SameUnits.trans (SameUnits.trans hstart.sameUnits hunits) hend.sameUnits

/-! ## Bodies of register syllables -/

/-- A body that, where it completes, changes nothing but the registers and predicates of a list and sticky flags. -/
def BodyFrame (ws : List Nat) (f : Body) : Prop :=
  ∀ c s v u, f c s = .ok v u → RegEffect ws c.pair c.bank s u

section
variable {cd cs1 cs2 : RegIx}

theorem bodyFrame_of_ok {ws : List Nat} {f : Body} {g : SCtx → State → State} (hf : ∀ c s, f c s = .ok false (g c s))
    (hg : ∀ c s, RegEffect ws c.pair c.bank s (g c s)) : BodyFrame ws f := fun c s v u h => by
  rw [hf c s] at h
  cases h
  exact hg c s

theorem bodyFrame_intRR (f : Word → Word → Word × Flags) : BodyFrame [cd.toNat] (intRR f cd cs1 cs2) :=
  bodyFrame_of_ok (fun _ _ => rfl) fun _ _ => .addFlags _ (.setReg _ (List.mem_singleton_self _))

theorem bodyFrame_intR (f : Word → Word × Flags) : BodyFrame [cd.toNat] (intR f cd cs1) :=
  bodyFrame_of_ok (fun _ _ => rfl) fun _ _ => .addFlags _ (.setReg _ (List.mem_singleton_self _))

theorem bodyFrame_wideRR (f : Wide → Wide → Wide × Flags) : BodyFrame [cd.toNat] (wideRR f cd cs1 cs2) :=
  bodyFrame_of_ok (fun _ _ => rfl) fun _ _ => .addFlags _ (.setReg _ (List.mem_singleton_self _))

theorem bodyFrame_wideR (f : Wide → Wide × Flags) : BodyFrame [cd.toNat] (wideR f cd cs1) :=
  bodyFrame_of_ok (fun _ _ => rfl) fun _ _ => .addFlags _ (.setReg _ (List.mem_singleton_self _))

theorem bodyFrame_wideHi : BodyFrame [cd.toNat] (wideHi cd cs1) :=
  bodyFrame_of_ok (fun _ _ => rfl) fun _ _ => .setReg _ (List.mem_singleton_self _)

theorem bodyFrame_getPreds : BodyFrame [cd.toNat] (getPreds cd) :=
  bodyFrame_of_ok (fun _ _ => rfl) fun _ _ => .setReg _ (List.mem_singleton_self _)

/-- A capability syllable that completes writes its value; one with a malformed operand faults (R144, R231). -/
theorem regEffect_finish {o : CapOut} {c : SCtx} {s u : State} {v : Bool} (h : o.finish cd c s = .ok v u) :
    RegEffect [cd.toNat] c.pair c.bank s u := by
  cases o with
  | val x => cases h; exact .setReg _ (List.mem_singleton_self _)
  | bad n => cases h

theorem bodyFrame_capR (f : Cap → CapOut) : BodyFrame [cd.toNat] (capR f cd cs1) := fun _ _ _ _ h => regEffect_finish h

theorem bodyFrame_capRR (f : Cap → Cap → CapOut) : BodyFrame [cd.toNat] (capRR f cd cs1 cs2) :=
  fun _ _ _ _ h => regEffect_finish h

theorem bodyFrame_predRR (f : Bool → Bool → Bool) {pd ps1 ps2 : PredIx} : BodyFrame [32 + pd.toNat] (predRR f pd ps1 ps2) :=
  bodyFrame_of_ok (fun _ _ => rfl) fun _ _ => .updBank (.setPred _ _ (List.mem_singleton_self _))

theorem bodyFrame_putPreds : BodyFrame [33, 34, 35, 36, 37, 38, 39] (putPreds cs1) := by
  refine bodyFrame_of_ok (fun _ _ => rfl) fun c s => .updBank (.preds_only fun r h8 hr => ?_)
  obtain rfl : r = 0 := by
    simp only [List.mem_cons, List.not_mem_nil, or_false] at hr
    omega
  rfl

/-- A compare that writes one predicate twice is ILLEGAL (R142); any other writes both. -/
theorem bodyFrame_compareW (w : Nat) {pd pc : PredIx} {cond : BitVec 3} :
    BodyFrame [32 + pd.toNat, 32 + pc.toNat] (compareW w pd pc cond cs1 cs2) := fun c s v u h => by
  unfold compareW at h
  dsimp only at h
  split at h
  · cases h
  · cases h
    exact .updBank ((BankFrame.setPred _ _ (by simp)).trans (.setPred _ _ (by simp)))

end

/-- A register syllable has a word, and is neither `MFS` nor `MTS`. -/
theorem fields_of_registerOnly {i : Instr} (h : registerOnly i = true) :
    ∃ g, fieldsOf i = some g ∧ ¬ (g.maj = 0x10 ∧ (g.mn = 0x30 ∨ g.mn = 0x31)) := by
  unfold registerOnly at h
  cases hg : fieldsOf i with
  | none => rw [hg] at h; cases hn : infoOf i <;> simp [hn] at h
  | some g =>
    refine ⟨g, rfl, ?_⟩
    rintro ⟨hmaj, hmn⟩
    rw [hg] at h
    cases hn : infoOf i <;> rcases hmn with hmn | hmn <;> simp [hn, hmaj, hmn] at h

/-- A register syllable is no load, it changes what its `SylInfo` names, and it runs as one of its pair alone (R139-R144). -/
theorem registerOnly_body {i : Instr} {n : SylInfo} {f : Body} (h : registerOnly i = true) (hn : infoOf i = some n)
    (hf : bodyOf i = some f) : BodyFrame n.writes f ∧ n.load = false ∧ ∀ s, exec i s = runReg i (sylPair i) f s := by
  cases i
  case compare p pd pc cond cs1 cs2 | wideCompare p pd pc cond cs1 cs2 =>
    obtain ⟨g, hg, -⟩ := fields_of_registerOnly h
    obtain ⟨-, hfields⟩ := Option.ite_none_left_eq_some.1 hg
    cases hn
    cases hf
    refine ⟨bodyFrame_compareW _, rfl, fun _ => ?_⟩
    unfold sylPair
    rw [hg]
    cases hfields
    rfl
  case mfs =>
    obtain ⟨g, hg, hno⟩ := fields_of_registerOnly h
    obtain ⟨-, hfields⟩ := Option.ite_none_left_eq_some.1 hg
    cases hfields
    exact absurd ⟨rfl, .inl rfl⟩ hno
  case mts =>
    obtain ⟨g, hg, hno⟩ := fields_of_registerOnly h
    obtain ⟨-, hfields⟩ := Option.ite_none_left_eq_some.1 hg
    cases hfields
    exact absurd ⟨rfl, .inr rfl⟩ hno
  all_goals try (cases h; done)
  all_goals cases hn
  all_goals cases hf
  case add | sub | addv | subv | adds | subs | and | or | xor | andn | orn | min | max | minu | maxu | slt | sltu | sll | srl | sra
      | mul | mulv | muls | mulh | mulhu | div | divu | rem | remu | divs =>
    exact ⟨bodyFrame_intRR _, rfl, fun _ => rfl⟩
  case neg | negs | clz | ctz | popc | sextb | sexth | sextw | zextw | slli | srli | srai | crrl | cram =>
    exact ⟨bodyFrame_intR _, rfl, fun _ => rfl⟩
  case pand | por | pxor | pandn => exact ⟨bodyFrame_predRR _, rfl, fun _ => rfl⟩
  case pget => exact ⟨bodyFrame_getPreds, rfl, fun _ => rfl⟩
  case pput => exact ⟨bodyFrame_putPreds, rfl, fun _ => rfl⟩
  case wadd | wsub | waddv | wsubv | wadds | wsubs | wand | wor | wxor | wsll | wsrl | wsra | wmul | wmulv | wmuls | wmulx | wmulxu
      | wdiv | wrem | wdivs | wpack =>
    exact ⟨bodyFrame_wideRR _, rfl, fun _ => rfl⟩
  case wneg | wnegs | wsext | wzext | wslli | wsrli | wsrai => exact ⟨bodyFrame_wideR _, rfl, fun _ => rfl⟩
  case whi => exact ⟨bodyFrame_wideHi, rfl, fun _ => rfl⟩
  case csetaddr | cincaddr | csetbounds | csetboundsx | candperm | cseal | cunseal => exact ⟨bodyFrame_capRR _, rfl, fun _ => rfl⟩
  case cmove | ccleartag | csealentry | cgettag | cgetperm | cgettype | cgetaddr | cgetbase | cgettop | cgetlen =>
    exact ⟨bodyFrame_capR _, rfl, fun _ => rfl⟩

end Sys2Proof.Laws

namespace Sys2Proof
open Sys2Proof.Machine Sys2Proof.Laws

/-- Settles O12: the body changes its bank as `BankFrame` says, and what comes before and after it is sequencing alone. -/
theorem registerSyllableFrame : Obligations.RegisterSyllableFrame := by
  rintro i p b s t u n f v hreg rfl hn hf hi hb ht
  obtain ⟨hframe, hload, hx⟩ := registerOnly_body hreg hn hf
  obtain rfl : retired (sylPair i) u = t := by injection (runReg_retires hi hn hload (hx s) hb).symm.trans ht
  have heffect : RegEffect n.writes (sylPair i) b (issued s (sylPair i) b) u := hframe _ _ _ _ hb
  obtain ⟨⟨hregs, hpreds, hmodes, hsticky, hbank⟩, hbanks, hpair, hpairs, hmemory, hunits⟩ := regEffect_retired heffect
  obtain ⟨bs, r, l, hpair⟩ := hpair
  exact ⟨fun r _ => hregs r, hpreds, hmodes, hsticky,
    (congrArg Bank.status hbank :), (congrArg Bank.pcc hbank :), (congrArg Bank.lc hbank :), (congrArg Bank.ls hbank :),
    (congrArg Bank.le hbank :), (congrArg Bank.bkq hbank :), (congrArg Bank.tsbc hbank :), (congrArg Bank.ttbc hbank :), hbanks,
    (congrArg Pair.accs hpair :), (congrArg Pair.ctxcfg hpair :), (congrArg Pair.bankw hpair :), (congrArg Pair.escc hpair :),
    (congrArg Pair.essc hpair :), (congrArg Pair.det hpair :), hpairs, hmemory, hunits⟩

end Sys2Proof
end

section
/-!
PROOFS. Predicates and loop registers in a sentinel's load delay (O8, O26).
-/
namespace Sys2Proof.Laws
open Sys2Proof.Machine
open Sys2Proof (Instr)

/-- Sentinel 0 about to run its delay syllable: the bundle before loaded the predicates and `LC` of the running bank, whose p1 was 0
and whose `LC` was 0. The syllable still reads these old values (R133). -/
def delaySyllable : State :=
  (State.reset.setBank 96 0 { bankReset with st := .running, preds := 2, lc := 5 }).updPair 96
    (fun v => { v with run := some 0, delay := [(32, intCap 0), (44, intCap 0)] })

theorem quiet_delaySyllable : Quiet delaySyllable := by unfold Quiet; decide +kernel

theorem issues_pand_delaySyllable : Issues (.pand 96 1 1 1) 96 0 delaySyllable :=
  ⟨by decide, by decide +kernel, by decide +kernel, _, rfl, by decide +kernel, by decide⟩

theorem issues_mfs_delaySyllable : Issues (.mfs 96 3 4 0) 96 0 delaySyllable :=
  ⟨by decide, by decide +kernel, by decide +kernel, _, rfl, by decide +kernel, by decide⟩

/-- The model's `PAND` of p1 with itself: p1 was 0 before the load. -/
theorem pand_delaySyllable : ∃ t, exec (.pand 96 1 1 1) delaySyllable = .next t ∧ (t.bank 96 0).pred 1 = false :=
  ⟨_, runReg_retires issues_pand_delaySyllable rfl rfl rfl rfl, by decide +kernel⟩

/-- The model's `MFS` of `LC`: `LC` was 0 before the load. -/
theorem mfs_delaySyllable : ∃ t, exec (.mfs 96 3 4 0) delaySyllable = .next t ∧ (t.bank 96 0).reg 3 = intCap 0 :=
  ⟨_, runReg_retires issues_mfs_delaySyllable rfl rfl rfl rfl, by decide +kernel⟩

end Sys2Proof.Laws

namespace Sys2Proof
open Sys2Proof.Machine Sys2Proof.Laws

/-- Refutes O8: in a sentinel's load delay `PAND` reads the predicates as they stood before the load (R133), and the statement reads
those that the load wrote: the model clears p1 of `delaySyllable`, the statement sets it. -/
theorem not_predicatesAndCompares : ¬ Obligations.PredicatesAndCompares := by
  intro h
  obtain ⟨hpand, -⟩ := h.1 96 0 1 1 1 0 delaySyllable
  obtain ⟨t, ht, hpred⟩ := pand_delaySyllable
  have hstates := ht.symm.trans (hpand issues_pand_delaySyllable)
  injection hstates with hstates
  subst hstates
  revert hpred
  decide +kernel

/-- Refutes O26: in a sentinel's load delay `MFS` of `LC` reads the value that `LC` held before the load (R133), and the statement reads
the one that the load wrote: the model writes 0 to c3 of `delaySyllable`, the statement 5. -/
theorem not_specialRegisterAccess : ¬ Obligations.SpecialRegisterAccess := by
  intro h
  obtain ⟨-, -, -, -, hmfs, -⟩ := (h.1 96 0 3 0 delaySyllable _ _ _ _ rfl rfl rfl rfl quiet_delaySyllable (by decide +kernel))
  obtain ⟨t, ht, hreg⟩ := mfs_delaySyllable
  have hstates := ht.symm.trans (hmfs issues_mfs_delaySyllable)
  injection hstates with hstates
  subst hstates
  revert hreg
  decide +kernel

end Sys2Proof
end

section
/-!
PROOFS. What a syllable command does where its syllable's body faults (O23).
-/
namespace Sys2Proof.Laws
open Sys2Proof.Machine
open Sys2Proof (Instr)

section
variable {i : Instr} {p b : Nat} {s u : State} {n : SylInfo} {f : Body} {g : PFault} (hi : Issues i p b s) (hn : infoOf i = some n)
  (hb : f ((issued s p b).ctxFor p b n) (issued s p b) = .flt g u)
include hi hn hb

/-- A register syllable whose body faults has the fault taken, where that leaves the command's end nothing to do. -/
theorem runReg_flt {t : State} (hq : s.tallyBusy p b = false)
    (ht : t = (u.faultOf p b g n.unit (g.cause == arith && !n.arith)).stepped p) (hr : AtRest s t) : runReg i p f s = .next t := by
  unfold runReg
  rw [if_pos hi.1]
  simp only [sylRun_of_issues hi hn, hb, hq, Bool.false_eq_true, if_false]
  exact congrArg _ (cmd_at_rest ht.symm hr)

/-- A register syllable whose body faults waits while a tally status of the bank is outstanding (R206). -/
theorem runReg_flt_waits (hq : s.tallyBusy p b = true) : runReg i p f s = .next { s with out := [] } := by
  unfold runReg
  rw [if_pos hi.1]
  simp only [sylRun_of_issues hi hn, hb, hq, if_true]

/-- A syllable of memory or a unit whose body faults waits while a tally status of the bank is outstanding (R206). -/
theorem runSyl_flt_waits (hq : s.tallyBusy p b = true) (hquiet : Quiet s) : runSyl i p f s = .next { s with out := [] } := by
  unfold runSyl
  rw [onUnit_has (by simpa using hi.1)]
  refine does_at_rest ?_ (atRest_of_same hquiet rfl rfl rfl rfl rfl)
  rw [sylRun_of_issues hi hn, hb]
  simp only [hq, if_true]

end

end Sys2Proof.Laws

namespace Sys2Proof
open Sys2Proof.Machine Sys2Proof.Laws

/-- Settles O23: both ways in which `exec` runs a syllable take a fault of its body, or wait with it, alike. -/
theorem syllableFaultsAreTaken : Obligations.SyllableFaultsAreTaken := by
  intro i p b s u n f g hp hi hn hf hb
  rcases exec_of_body hp hf s with h | h
  · exact ⟨fun hq hr => h.trans (runReg_flt hi hn hb hq rfl hr), fun hq _ => h.trans (runReg_flt_waits hi hn hb hq)⟩
  · exact ⟨fun hq hr => h.trans (runSyl_flt hi hn hb hq rfl hr), fun hq hquiet => h.trans (runSyl_flt_waits hi hn hb hq hquiet)⟩

end Sys2Proof
end

section
/-!
PROOFS. Fixed-point syllables where no lazy save comes first: accumulator moves and exact accumulator arithmetic (O17, O18).
-/
namespace Sys2Proof.Laws
open Sys2Proof.Machine
open Sys2Proof (Instr)

/-! ## The range stage -/

/-- An exact value fitted with quantum 1 is fitted as R179 says. -/
theorem fitsAs_fit (r : Int) {w : Nat} (hw : 0 < w) (sat : Bool) :
    FitsAs r 1 sat (fit r w 1 sat).1 (fit r w 1 sat).2.1 (fit r w 1 sat).2.2 := by
  have hpow : (0 : Int) < 2 ^ (w - 1) := by positivity
  unfold fit
  by_cases hin : loOf w ≤ r ∧ r ≤ hiOf w
  · rw [if_pos hin]
    exact ⟨fun _ => ⟨rfl, rfl, rfl⟩, fun h => absurd hin h, fun h => absurd hin h⟩
  · rw [if_neg hin]
    refine ⟨fun h => absurd h hin, fun _ hsat => ?_, fun _ hsat => ?_⟩ <;> subst hsat
    · refine ⟨?_, rfl, rfl⟩
      have hends : ∀ x : Int, loOf w ≤ x → x ≤ hiOf w → (BitVec.ofInt w x).toInt = x := fun x hlo hhi =>
        BitVec.toInt_ofInt_eq_self hw hlo (by unfold hiOf at hhi; omega)
      simp only [if_true, Nat.cast_one, Int.ediv_one, mul_one]
      unfold loOf hiOf at *
      split
      · exact hends _ (by omega) le_rfl
      · rw [neg_neg]
        exact hends _ le_rfl (by omega)
    · exact ⟨rfl, rfl, rfl⟩

theorem fitsAs_fitOnly (k : Bank) (r : Int) {w : Nat} (hw : 0 < w) :
    FitsAs r 1 k.sat (fitOnly k r w).1 (fitOnly k r w).2.ov (fitOnly k r w).2.satf := fitsAs_fit r hw k.sat

/-- An exact value fitted without rounding raises OV and SATF alone. -/
theorem fitOnly_eq (k : Bank) (r : Int) (w : Nat) :
    fitOnly k r w = ((fitOnly k r w).1, ⟨(fitOnly k r w).2.ov, (fitOnly k r w).2.satf, false, false, false⟩) := rfl

/-! ## Fixed-point syllables as commands -/

/-- A fixed-point syllable in a context without a lazy save outstanding, whose value is v with flags g, completes unless these
raise ARITH (R191, R197). -/
theorem fixed_ok {α : Type} {f : SCtx → State → α × Flags} {put : SCtx → α → State → State} {c : SCtx} {s : State}
    {v : α} {g : Flags} (hlazy : (s.bank c.pair c.bank).lazy = false) (hf : f c s = (v, g))
    (hpa : (g.ov || g.dz) = true → (s.bank c.pair c.bank).pa = false) :
    fixed f put c s = .ok false (withApend c.pair c.bank g (put c v (s.addFlags c.pair c.bank g))) := by
  have hsave : s.lazySave c.pair c.bank = .ok () s := by unfold State.lazySave; dsimp only; rw [hlazy]; rfl
  unfold fixed withApend
  rw [hsave]
  dsimp only [Res.bind]
  rw [hf]
  by_cases hraise : (g.ov || g.dz) = true
  · rw [if_pos hraise, if_pos hraise, hpa hraise]
    rfl
  · rw [if_neg hraise, if_neg hraise]

/-- A step that changes nothing but pairs. -/
def PairsOnly (s u : State) : Prop := ∃ ps, u = { s with pairs := ps }

theorem PairsOnly.trans {s t u : State} (h : PairsOnly s t) (g : PairsOnly t u) : PairsOnly s u := by
  obtain ⟨ps, rfl⟩ := h
  obtain ⟨ps', rfl⟩ := g
  exact ⟨ps', rfl⟩

theorem pairsOnly_addFlags (s : State) (p b : Nat) (g : Flags) : PairsOnly s (s.addFlags p b g) := by
  unfold State.addFlags
  split <;> exact ⟨_, rfl⟩

theorem pairsOnly_withApend (s : State) (p b : Nat) (g : Flags) : PairsOnly s (withApend p b g s) := by
  unfold withApend
  split <;> exact ⟨_, rfl⟩

/-- A syllable that changes nothing but pairs leaves its command's end nothing to do. -/
theorem atRest_issued_pairs {s u : State} (p b : Nat) (hquiet : Quiet s) (hu : PairsOnly (issued s p b) u) : AtRest s u := by
  obtain ⟨ps, rfl⟩ := hu
  have hrest : AtRest s (issued s p b) := (sameButSequencing_issued s p b).atRest hquiet
  exact hrest

section
variable {i : Instr} {p b : Nat} {s : State} {n : SylInfo} (hi : Issues i p b s) (hn : infoOf i = some n) (hload : n.load = false)
  (hquiet : Quiet s)

include hi hn hload hquiet

/-- A syllable of memory or a unit whose body completes and changes nothing but pairs. -/
theorem runSyl_retires {body : Body} {l : Bool} {u : State} (hx : exec i s = runSyl i p body s)
    (hb : body ((issued s p b).ctxFor p b n) (issued s p b) = .ok l u) (hu : PairsOnly (issued s p b) u) :
    exec i s = .next (retired p u) := by
  have hend := atRest_ended (atRest_issued_pairs p b hquiet hu) n.load p
  rw [hx, runSyl_ok hi hn hb rfl hend, hload, if_neg (by decide)]

/-- A fixed-point syllable in a context without a lazy save outstanding (R183, R190, R191). -/
theorem fixed_retires {α : Type} {f : SCtx → State → α × Flags} {put : SCtx → α → State → State} {v : α} {g : Flags}
    (hx : exec i s = runSyl i p (fixed f put) s) (hlazy : (s.bank p b).lazy = false)
    (hput : ∀ c u, PairsOnly u (put c v u))
    (hf : f ((issued s p b).ctxFor p b n) (issued s p b) = (v, g)) (hpa : (g.ov || g.dz) = true → (s.bank p b).pa = false) :
    exec i s = .next (retired p (withApend p b g (put ((issued s p b).ctxFor p b n) v ((issued s p b).addFlags p b g)))) := by
  have hbank : (issued s p b).bank p b = s.bank p b := (sameButSequencing_issued s p b).bank_eq p b
  refine runSyl_retires hi hn hload hquiet hx (fixed_ok ?_ hf ?_) ?_
  · exact (congrArg Bank.lazy hbank).trans hlazy
  · exact fun h => (congrArg Bank.pa hbank).trans (hpa h)
  · exact ((pairsOnly_addFlags _ p b g).trans (hput _ _)).trans (pairsOnly_withApend _ p b g)

end

/-! ## The operands of a fixed-point syllable -/

section
variable {s : State} {p b : Nat} {n : SylInfo}

theorem acc_issued (s : State) (p b m : Nat) : ((issued s p b).pair p).acc m = (s.pair p).acc m := by
  obtain ⟨r, l, h⟩ := (sameButSequencing_issued s p b).pair_self
  rw [h]
  rfl

theorem accI_issued (m : AccIx) : accI ((issued s p b).ctxFor p b n) (issued s p b) m = ((s.pair p).acc m.toNat).toInt :=
  congrArg BitVec.toInt (acc_issued s p b m.toNat)

theorem xI_issued (m : RegIx) : xI ((issued s p b).ctxFor p b n) (issued s p b) m = (s.srcX p b m.toNat).toInt :=
  congrArg BitVec.toInt (srcX_issued s p b m.toNat)

theorem wI_issued (m : RegIx) : wI ((issued s p b).ctxFor p b n) (issued s p b) m = (s.srcW p b m.toNat).toInt :=
  congrArg BitVec.toInt (srcW_issued s p b m.toNat)

end

/-! ## Registers and accumulators as destinations -/

section
variable {i : Instr} {p b : Nat} {s : State} {n : SylInfo} {ad : AccIx} {cd : RegIx} (hi : Issues i p b s) (hn : infoOf i = some n)
  (hload : n.load = false) (hquiet : Quiet s) (hlazy : (s.bank p b).lazy = false)
include hi hn hload hquiet hlazy

theorem fixX_retires {f : SCtx → State → Word × Flags} {v : Word} {g : Flags} (hx : exec i s = runSyl i p (fixX cd f) s)
    (hf : f ((issued s p b).ctxFor p b n) (issued s p b) = (v, g)) (hpa : (g.ov || g.dz) = true → (s.bank p b).pa = false) :
    exec i s = .next (fixDoneX s p b cd v g) :=
  fixed_retires (put := fun c x s => s.setX c.pair c.bank cd.toNat x) hi hn hload hquiet hx hlazy (fun _ _ => ⟨_, rfl⟩) hf hpa

theorem fixW_retires {f : SCtx → State → Wide × Flags} {v : Wide} {g : Flags} (hx : exec i s = runSyl i p (fixW cd f) s)
    (hf : f ((issued s p b).ctxFor p b n) (issued s p b) = (v, g)) (hpa : (g.ov || g.dz) = true → (s.bank p b).pa = false) :
    exec i s = .next (fixDoneW s p b cd v g) :=
  fixed_retires (put := fun c x s => s.setW c.pair c.bank cd.toNat x) hi hn hload hquiet hx hlazy (fun _ _ => ⟨_, rfl⟩) hf hpa

/-- A move into an accumulator raises no flag (R184). -/
theorem accSet_retires {f : SCtx → State → AccWord} {v : AccWord} (hx : exec i s = runSyl i p (accSet ad f) s)
    (hf : f ((issued s p b).ctxFor p b n) (issued s p b) = v) : exec i s = .next (accDone s p b ad v noFlags) :=
  fixed_retires (put := putAcc ad) (v := v) (g := noFlags) hi hn hload hquiet hx hlazy (fun _ _ => ⟨_, rfl⟩)
    (congrArg (·, noFlags) hf) (fun h => (Bool.false_ne_true h).elim)

/-- An exact value fitted to an accumulator, where its overflow raises no ARITH (R179, R185, R191). -/
theorem accFit_retires {f : SCtx → State → Int} {r : Int} (hx : exec i s = runSyl i p (accFit ad f) s)
    (hf : f ((issued s p b).ctxFor p b n) (issued s p b) = r) :
    ∃ (v : AccWord) (ov satf : Bool), FitsAs r 1 (s.bank p b).sat v ov satf ∧
      (ov = false ∨ (s.bank p b).pa = false → exec i s = .next (accDone s p b ad v ⟨ov, satf, false, false, false⟩)) := by
  have hbank : (issued s p b).bank p b = s.bank p b := (sameButSequencing_issued s p b).bank_eq p b
  refine ⟨_, _, _, fitsAs_fitOnly (s.bank p b) r (by decide), fun hov => ?_⟩
  refine fixed_retires (put := putAcc ad) (v := (fitOnly (s.bank p b) r 144).1)
    (g := ⟨(fitOnly (s.bank p b) r 144).2.ov, (fitOnly (s.bank p b) r 144).2.satf, false, false, false⟩) hi hn hload hquiet hx hlazy
    (fun _ _ => ⟨_, rfl⟩) ?_ fun h => ?_
  · exact (congrArg₂ (fun (k : Bank) e => fitOnly k e 144) hbank hf).trans (fitOnly_eq _ r 144)
  · rw [Bool.or_false] at h
    exact hov.resolve_left fun hno => Bool.false_ne_true (hno.symm.trans h)

end

end Sys2Proof.Laws

namespace Sys2Proof
open Sys2Proof.Machine Sys2Proof.Laws

/-- Settles O17: each move is a fixed-point syllable without flags, and `FSYNC` without `APEND` changes nothing. -/
theorem accumulatorMovesAndFsync : Obligations.AccumulatorMovesAndFsync := by
  refine ⟨?_, fun p b s hquiet hapend hi => ?_⟩
  · rintro p b ad as_ cd cs1 cs2 s A B x y w rfl rfl rfl rfl rfl hquiet hlazy
    refine ⟨fun hi => ?_, fun hi => ?_, fun hi => ?_, fun hi => ?_, fun hi => ?_, fun hi => ?_, fun hi => ?_, fun hi => ?_⟩
    · exact accSet_retires hi rfl rfl hquiet hlazy rfl rfl
    · exact accSet_retires hi rfl rfl hquiet hlazy rfl (acc_issued s p b _)
    · exact accSet_retires hi rfl rfl hquiet hlazy rfl (congrArg _ (srcW_issued s p b _))
    · have hraised := congrArg (fun x : Word => (x.signExtend 144 : AccWord) <<< 64) (srcX_issued s p b cs1.toNat)
      exact accSet_retires hi rfl rfl hquiet hlazy rfl hraised
    · exact accSet_retires hi rfl rfl hquiet hlazy rfl (congrArg _ (srcX_issued s p b _))
    · have hguard := congrArg₂ setGuard (acc_issued s p b ad.toNat) (srcX_issued s p b cs1.toNat)
      exact accSet_retires hi rfl rfl hquiet hlazy rfl hguard
    · exact fixX_retires hi rfl rfl hquiet hlazy rfl
        (congrArg (fun a => (accGuard a, noFlags)) (acc_issued s p b _)) (fun h => (Bool.false_ne_true h).elim)
    · exact fixW_retires hi rfl rfl hquiet hlazy rfl
        (congrArg (fun a : AccWord => (a.setWidth 128, noFlags)) (acc_issued s p b _)) (fun h => (Bool.false_ne_true h).elim)
  · have hbank : (issued s p b).bank p b = s.bank p b := (sameButSequencing_issued s p b).bank_eq p b
    refine runSyl_retires hi rfl rfl hquiet rfl (l := false) ?_ ⟨_, rfl⟩
    exact if_neg (ne_true_of_eq_false ((congrArg Bank.apend hbank).trans hapend))

/-- Settles O18: each is a fixed-point syllable whose exact value is fitted once to its accumulator. -/
theorem multiplyAccumulate : Obligations.MultiplyAccumulate := by
  rintro p b ad as_ cd cs1 cs2 s A B x y w rfl rfl rfl rfl rfl hquiet hlazy
  refine ⟨fun hi => ?_, fun hi => ?_, fun hi => ?_, fun hi => ?_, fun hi => ?_, fun hi => ?_, fun hi => ?_, fun hi => ?_,
    fun hi => ?_, fun hi => ?_, fun hi => ?_, fun hi => ?_⟩ <;>
  · refine accFit_retires hi rfl rfl hquiet hlazy rfl ?_
    simp only [accI_issued, xI_issued, wI_issued]

end Sys2Proof
end

section
/-!
PROOFS. Barriers, and what leaves the TLBs and walk caches at an invalidation (O33).
-/
namespace Sys2Proof.Laws
open Sys2Proof.Machine
open Sys2Proof (Instr)

/-! ## The entries of one pair, then of all -/

/-- A pair without the TLB entries that f names. -/
def keepTlbs (f : TlbEntry → Bool) (v : Pair) : Pair := v.mapTlbs (fun l => l.filter (fun t => !f t))

/-- A pair without the walk-cache entries that f names. -/
def keepWalks (f : WalkEntry → Bool) (v : Pair) : Pair := { v with walkc := v.walkc.filter (fun w => !f w) }

theorem filter_not_of_any_false {α : Type} {l : List α} {f : α → Bool} (h : l.any f = false) : l.filter (fun t => !f t) = l := by
  rw [List.any_eq_false] at h
  exact List.filter_eq_self.2 fun t ht => by simpa using h t ht

theorem keepTlbs_self {v : Pair} {f : TlbEntry → Bool} (h : (v.tlb.any f || v.itlb.any f || v.dtlb.any f) = false) :
    keepTlbs f v = v := by
  simp only [Bool.or_eq_false_iff] at h
  obtain ⟨⟨htlb, hitlb⟩, hdtlb⟩ := h
  unfold keepTlbs Pair.mapTlbs
  dsimp only
  rw [filter_not_of_any_false htlb, filter_not_of_any_false hitlb, filter_not_of_any_false hdtlb]

theorem keepWalks_self {v : Pair} {f : WalkEntry → Bool} (h : v.walkc.any f = false) : keepWalks f v = v := by
  unfold keepWalks
  rw [filter_not_of_any_false h]

theorem pair_dropTlb (s : State) (issuer : Nat) (f : TlbEntry → Bool) (p q : Nat) :
    (s.dropTlb issuer f p).pair q = if q = p then keepTlbs f (s.pair q) else s.pair q := by
  have hupd : (s.updPair p (keepTlbs f)).pair q = if q = p then keepTlbs f (s.pair q) else s.pair q := by
    rw [State.pair_updPair]
    split
    · next hq => rw [hq]
    · rfl
  unfold State.dropTlb
  dsimp only
  split
  · split
    · exact hupd
    · exact hupd
  · next h =>
    split
    · next hq => rw [hq, keepTlbs_self (Bool.eq_false_of_not_eq_true h)]
    · rfl

theorem pair_dropWalk (s : State) (f : WalkEntry → Bool) (p q : Nat) :
    (s.dropWalk f p).pair q = if q = p then keepWalks f (s.pair q) else s.pair q := by
  unfold State.dropWalk
  split
  · rw [State.pair_updPair]
    split
    · next hq => rw [hq]; rfl
    · rfl
  · next h =>
    split
    · next hq => rw [hq, keepWalks_self (Bool.eq_false_of_not_eq_true h)]
    · rfl

/-- What happens to one pair after another, over the first n of them. -/
theorem pair_foldl_range {g : State → Nat → State} {f : Pair → Pair}
    (hg : ∀ s p q, (g s p).pair q = if q = p then f (s.pair q) else s.pair q) (s : State) (q : Nat) :
    ∀ n, ((List.range n).foldl g s).pair q = if q < n then f (s.pair q) else s.pair q := by
  intro n
  induction n with
  | zero => rfl
  | succ n ih =>
    rw [List.range_succ, List.foldl_concat, hg, ih]
    rcases Nat.lt_trichotomy q n with h | h | h
    · rw [if_neg (by omega), if_pos h, if_pos (by omega)]
    · rw [if_pos h, if_neg (by omega), if_pos (by omega)]
    · rw [if_neg (by omega), if_neg (by omega), if_neg (by omega)]

theorem pair_dropTlbs (s : State) (issuer : Nat) (f : TlbEntry → Bool) (q : Nat) :
    (s.dropTlbs issuer f).pair q = if q < 104 then keepTlbs f (s.pair q) else s.pair q :=
  pair_foldl_range (fun s e q => pair_dropTlb s issuer f e q) s q 104

theorem pair_dropWalks (s : State) (f : WalkEntry → Bool) (q : Nat) :
    (s.dropWalks f).pair q = if q < 104 then keepWalks f (s.pair q) else s.pair q :=
  pair_foldl_range (fun s e q => pair_dropWalk s f e q) s q 104

/-- The registers in which disturbed pairs show (R301). -/
def disturbRegs : List Nat := [Addr.PT_DIST0, Addr.PT_DIST1]

theorem eclEffect_disturb (s : State) (p : Nat) : EclEffect disturbRegs s (s.disturb p) := by
  unfold State.disturb pairBit
  split
  · exact .setFld s _ _ _ (List.mem_cons_self ..)
  · exact .setFld s _ _ _ (List.mem_cons_of_mem _ (List.mem_singleton_self _))

theorem eclEffect_updPair (l : List Nat) (s : State) (p : Nat) (f : Pair → Pair) : EclEffect l s (s.updPair p f) :=
  .of_dev rfl ⟨s.sweep, _, s.jrn, rfl⟩

theorem eclEffect_dropTlb (s : State) (issuer : Nat) (f : TlbEntry → Bool) (p : Nat) :
    EclEffect disturbRegs s (s.dropTlb issuer f p) := by
  have hupd := eclEffect_updPair disturbRegs s p (fun v => v.mapTlbs (fun l => l.filter (fun t => !f t)))
  unfold State.dropTlb
  dsimp only
  split
  · split
    · exact hupd.trans (eclEffect_disturb _ p)
    · exact hupd
  · exact .refl _ _

theorem eclEffect_dropTlbs (s : State) (issuer : Nat) (f : TlbEntry → Bool) : EclEffect disturbRegs s (s.dropTlbs issuer f) := by
  unfold State.dropTlbs
  generalize List.range 104 = l
  induction l generalizing s with
  | nil => exact .refl _ _
  | cons p l ih => exact (eclEffect_dropTlb s issuer f p).trans (ih _)

theorem pairsOnly_dropWalk (s : State) (f : WalkEntry → Bool) (p : Nat) : PairsOnly s (s.dropWalk f p) := by
  unfold State.dropWalk
  split <;> exact ⟨_, rfl⟩

theorem pairsOnly_dropWalks (s : State) (f : WalkEntry → Bool) : PairsOnly s (s.dropWalks f) := by
  unfold State.dropWalks
  generalize List.range 104 = l
  induction l generalizing s with
  | nil => exact ⟨_, rfl⟩
  | cons p l ih => exact (pairsOnly_dropWalk s f p).trans (ih _)

/-! ## Invalidations as commands -/

theorem sameButSequencing_retired {u : State} (hout : u.out = []) (p : Nat) : SameButSequencing p u (retired p u) :=
  sameButSequencing_ended hout false p

/-- With `SY` and the reserved bits zero an invalidation acts (R173, R174). -/
theorem invGuard_ok {c : SCtx} {s act : State} {bad : Bool} (hsy : s.holdsSy c = true) (hbad : bad = false) :
    invGuard c s bad act = .ok false act := by
  unfold invGuard
  rw [hsy, hbad]
  rfl

theorem srcX_ctxFor (s : State) (p b : Nat) (n : SylInfo) (m : Nat) :
    (issued s p b).srcX ((issued s p b).ctxFor p b n).pair ((issued s p b).ctxFor p b n).bank m = s.srcX p b m := srcX_issued s p b m

theorem holdsSy_issued {s : State} {p b : Nat} (n : SylInfo) (h : (s.bank p b).pcc.has permSY = true) :
    (issued s p b).holdsSy ((issued s p b).ctxFor p b n) = true := by
  have hbank : (issued s p b).bank p b = s.bank p b := (sameButSequencing_issued s p b).bank_eq p b
  exact (congrArg (fun k : Bank => k.pcc.has permSY) hbank).trans h

section
variable {i : Instr} {p b : Nat} {s : State} {n : SylInfo} {body : Body} (hi : Issues i p b s) (hn : infoOf i = some n)
  (hload : n.load = false) (hquiet : Quiet s) (hx : exec i s = runSyl i p body s)
include hi hn hload hquiet hx

/-- An invalidation of TLB entries, as a command: every pair keeps those that it does not name (R173). -/
theorem tlbinv_retires {f : TlbEntry → Bool}
    (hb : body ((issued s p b).ctxFor p b n) (issued s p b) = .ok false ((issued s p b).dropTlbs p f)) :
    ∃ t, exec i s = .next t ∧ (∀ q, q < 104 → (t.pair q).tlb = (s.pair q).tlb.filter (fun e => !f e) ∧
      (t.pair q).itlb = (s.pair q).itlb.filter (fun e => !f e) ∧ (t.pair q).dtlb = (s.pair q).dtlb.filter (fun e => !f e)) ∧
      SameMemory s t ∧ ∀ q, (t.pair q).banks = (s.pair q).banks := by
  have hstart := sameButSequencing_issued s p b
  have hdrop := eclEffect_dropTlbs (issued s p b) p f
  have hrest : AtRest s ((issued s p b).dropTlbs p f) := by
    obtain ⟨-, hq, hhb⟩ := hstart.atRest hquiet
    obtain ⟨hout, hq', hhb'⟩ := hdrop.atRest (by decide) hq hstart.out_eq
    exact ⟨hout, hq', hhb'.trans hhb⟩
  have hend := sameButSequencing_retired hrest.1 p
  refine ⟨retired p ((issued s p b).dropTlbs p f), ?_, fun q hq => ?_,
    SameMemory.trans (SameMemory.trans hstart.sameMemory hdrop.sameMemory) hend.sameMemory, fun q => ?_⟩
  · rw [hx, runSyl_ok hi hn hb rfl (atRest_ended hrest n.load p), hload, if_neg (by decide)]
  · obtain ⟨r, l, hlast⟩ := hend.pair_eq q
    obtain ⟨r', l', hfirst⟩ := hstart.pair_eq q
    rw [hlast, pair_dropTlbs, if_pos hq, hfirst]
    exact ⟨rfl, rfl, rfl⟩
  · obtain ⟨r, l, hlast⟩ := hend.pair_eq q
    obtain ⟨r', l', hfirst⟩ := hstart.pair_eq q
    rw [hlast, pair_dropTlbs, hfirst]
    split <;> rfl

/-- An invalidation of walk-cache entries, as a command: every pair keeps those that it does not name (R173). -/
theorem walkinv_retires {f : WalkEntry → Bool}
    (hb : body ((issued s p b).ctxFor p b n) (issued s p b) = .ok false ((issued s p b).dropWalks f)) :
    ∃ t, exec i s = .next t ∧ (∀ q, q < 104 → (t.pair q).walkc = (s.pair q).walkc.filter (fun w => !f w)) ∧
      SameMemory s t ∧ SameUnits s t ∧ SameRegisters s t := by
  have hstart := sameButSequencing_issued s p b
  have hdrop := pairsOnly_dropWalks (issued s p b) f
  have hrest := atRest_issued_pairs p b hquiet hdrop
  have hend := sameButSequencing_retired hrest.1 p
  have hmemory : SameMemory (issued s p b) ((issued s p b).dropWalks f) := by
    obtain ⟨ps, h⟩ := hdrop; rw [h]; exact ⟨SameMaps.refl _, rfl⟩
  have hunits : SameUnits (issued s p b) ((issued s p b).dropWalks f) := by
    obtain ⟨ps, h⟩ := hdrop
    rw [h]; exact ⟨rfl, rfl, rfl, rfl, rfl, rfl, rfl, rfl, rfl, rfl, rfl, rfl, rfl, rfl, rfl, rfl, rfl⟩
  refine ⟨retired p ((issued s p b).dropWalks f), runSyl_retires hi hn hload hquiet hx hb hdrop, fun q hq => ?_,
    SameMemory.trans (SameMemory.trans hstart.sameMemory hmemory) hend.sameMemory,
    SameUnits.trans (SameUnits.trans hstart.sameUnits hunits) hend.sameUnits, fun q => ?_⟩
  · obtain ⟨r, l, hlast⟩ := hend.pair_eq q
    obtain ⟨r', l', hfirst⟩ := hstart.pair_eq q
    rw [hlast, pair_dropWalks, if_pos hq, hfirst]
    rfl
  · obtain ⟨r, l, hlast⟩ := hend.pair_eq q
    obtain ⟨r', l', hfirst⟩ := hstart.pair_eq q
    rw [hlast, pair_dropWalks, hfirst]
    split <;> exact ⟨rfl, rfl, rfl, rfl, rfl, rfl, rfl, rfl⟩

end

/-! ## `MSYNC` -/

/-- A pair that takes its pending decode table clears its `MC_PEND` bit (R420). -/
theorem switchTable_some {s : State} {p : Nat} {d : DecodeTable} (h : (s.pair p).pendTable = some d) : s.switchTable p =
    (s.updPair p (fun v => { v with table := d, pendTable := none })).setFld (if p < 64 then Addr.MC_PEND0 else Addr.MC_PEND1)
      (if p < 64 then p else p - 64) 1 0 := by
  unfold State.switchTable
  rw [h]
  dsimp only
  split <;> rfl

theorem switchTable_none {s : State} {p : Nat} (h : (s.pair p).pendTable = none) : s.switchTable p = s := by
  unfold State.switchTable
  rw [h]

theorem getLsbD_rd_setFld_zero (s : State) (a j : Nat) : ((s.setFld a j 1 0).rd a).getLsbD j = false := by
  rw [State.rd_setFld, if_pos rfl, BitVec.getLsbD_ofNat, testBit_setBitsAt, if_pos ⟨le_rfl, by omega⟩, Nat.zero_testBit,
    Bool.and_false]

/-- At a barrier the old words of stored code are gone, and the pair's fetched lines (R134, R289). -/
theorem dropCode_eq (s : State) (p : Nat) : ∃ ps st, s.dropCode p = { s with pairs := ps, stale := st } := by
  unfold State.dropCode
  split
  · exact ⟨s.pairs, s.stale, rfl⟩
  · exact ⟨_, _, rfl⟩

theorem pair_dropCode (s : State) (p q : Nat) : ∃ l, (s.dropCode p).pair q = { s.pair q with ibuf := l } := by
  unfold State.dropCode
  split
  · exact ⟨(s.pair q).ibuf, rfl⟩
  · have hpair : (s.updPair p (fun v => { v with ibuf := [] })).pair q = _ := State.pair_updPair s p q _
    split at hpair
    · next hq => exact ⟨[], hpair.trans (by rw [hq])⟩
    · exact ⟨(s.pair q).ibuf, hpair⟩

theorem atRest_dropCode {s : State} (p b : Nat) (hquiet : Quiet s) : AtRest s ((issued s p b).dropCode p) := by
  obtain ⟨ps, st, h⟩ := dropCode_eq (issued s p b) p
  have hrest : AtRest s (issued s p b) := (sameButSequencing_issued s p b).atRest hquiet
  rw [h]
  exact hrest

theorem pendTable_dropCode (s : State) (p b : Nat) : (((issued s p b).dropCode p).pair p).pendTable = (s.pair p).pendTable := by
  obtain ⟨l, hcode⟩ := pair_dropCode (issued s p b) p p
  obtain ⟨r, d, hfirst⟩ := (sameButSequencing_issued s p b).pair_self
  rw [hcode, hfirst]

/-- `MSYNC` with a decode table ready for the pair (R171, R420). -/
theorem msync_switches {s : State} {p b : Nat} {d : DecodeTable} (hi : Issues (.msync p) p b s) (hquiet : Quiet s)
    (hd : (s.pair p).pendTable = some d) : ∃ t, exec (.msync p) s = .next t ∧ (t.pair p).table = d ∧ (t.pair p).pendTable = none ∧
      (t.rd (if p < 64 then Addr.MC_PEND0 else Addr.MC_PEND1)).getLsbD (if p < 64 then p else p - 64) = false ∧
      SameMaps s t ∧ t.stale = ((issued s p b).dropCode p).stale ∧ SameRegisters s t := by
  have hp : p < 104 := hi.1
  have hstart := sameButSequencing_issued s p b
  have hcode := atRest_dropCode p b hquiet
  have hpend := (pendTable_dropCode s p b).trans hd
  obtain ⟨u, hu⟩ : ∃ u, ((issued s p b).dropCode p).switchTable p = u := ⟨_, rfl⟩
  have hswitch := (switchTable_some hpend).symm.trans hu
  have hreg : (if p < 64 then Addr.MC_PEND0 else Addr.MC_PEND1) ∉ restRegs := by split <;> decide
  have hrest : AtRest s u := by
    obtain ⟨hout, hq, hhb⟩ := hcode
    have hsame : AtRest ((issued s p b).dropCode p) u := by
      subst hswitch
      exact atRest_of_rd hq hout rfl rfl rfl fun a ha => State.rd_setFld_ne _ _ _ _ (ne_of_mem_of_not_mem ha hreg)
    exact ⟨hsame.1, hsame.2.1, hsame.2.2.trans hhb⟩
  have hend := sameButSequencing_retired hrest.1 p
  have hpair : ∀ q, u.pair q = if q = p then { ((issued s p b).dropCode p).pair p with table := d, pendTable := none }
      else ((issued s p b).dropCode p).pair q := fun q => by
    subst hswitch
    rw [State.pair_setFld, State.pair_updPair]
  have hmaps : SameMaps s u ∧ u.stale = ((issued s p b).dropCode p).stale := by
    obtain ⟨ps, st, h⟩ := dropCode_eq (issued s p b) p
    subst hswitch
    refine ⟨SameMaps.trans hstart.sameMemory.1 ?_, rfl⟩
    rw [h]
    exact SameMaps.refl _
  obtain ⟨r, l, hlast⟩ := hend.pair_self
  refine ⟨retired p u, ?_, ?_, ?_, ?_, SameMaps.trans hmaps.1 hend.sameMemory.1, hend.sameMemory.2.trans hmaps.2, fun q => ?_⟩
  · subst hu
    exact runSyl_ok hi rfl rfl rfl (atRest_ended hrest false p)
  · rw [hlast, hpair, if_pos rfl]
  · rw [hlast, hpair, if_pos rfl]
  · rw [State.rd_of_dev hend.sameUnits.1]
    subst hswitch
    exact getLsbD_rd_setFld_zero _ _ _
  · obtain ⟨r, l, hlast⟩ := hend.pair_eq q
    obtain ⟨i, hlines⟩ := pair_dropCode (issued s p b) p q
    obtain ⟨r', l', hfirst⟩ := hstart.pair_eq q
    rw [hlast, hpair]
    split
    · next hq =>
      subst hq
      rw [hlines, hfirst]
      exact ⟨rfl, rfl, rfl, rfl, rfl, rfl, rfl, rfl⟩
    · rw [hlines, hfirst]
      exact ⟨rfl, rfl, rfl, rfl, rfl, rfl, rfl, rfl⟩

end Sys2Proof.Laws

namespace Sys2Proof
open Sys2Proof.Machine Sys2Proof.Laws

/-- Settles O33: barriers by what they drop, invalidations by what one pair after another keeps. -/
theorem barriersAndInvalidations : Obligations.BarriersAndInvalidations := by
  rintro p b cs1 cs2 s va x rfl rfl hquiet
  refine ⟨fun hnone hi => ?_, fun d hd hi => msync_switches hi hquiet hd, fun hi => runReg_retires hi rfl rfl rfl rfl,
    fun hsy hx hi => ?_, fun hsy hx hi => ?_, fun hsy hi => ?_, fun hsy hx hi => ?_, fun hsy hi => ?_⟩
  · have hend := atRest_ended (atRest_dropCode p b hquiet) false p
    refine runSyl_ok (l := false) hi rfl ?_ rfl hend
    exact congrArg _ (switchTable_none ((pendTable_dropCode s p b).trans hnone))
  · refine tlbinv_retires hi rfl rfl hquiet rfl ?_
    show tlbinvVa cs1 cs2 _ _ = _
    unfold tlbinvVa
    simp only [srcX_ctxFor]
    exact invGuard_ok (holdsSy_issued _ hsy) (decide_eq_false (by omega))
  · refine tlbinv_retires hi rfl rfl hquiet rfl ?_
    show tlbinvAsid cs2 _ _ = _
    unfold tlbinvAsid
    simp only [srcX_ctxFor]
    exact invGuard_ok (holdsSy_issued _ hsy) (decide_eq_false (by omega))
  · exact tlbinv_retires hi rfl rfl hquiet rfl (invGuard_ok (holdsSy_issued _ hsy) rfl)
  · refine walkinv_retires hi rfl rfl hquiet rfl ?_
    show walkinvVa cs1 cs2 _ _ = _
    unfold walkinvVa
    simp only [srcX_ctxFor]
    exact invGuard_ok (holdsSy_issued _ hsy) (decide_eq_false (by omega))
  · exact walkinv_retires hi rfl rfl hquiet rfl (invGuard_ok (holdsSy_issued _ hsy) rfl)

end Sys2Proof
end

section
/-!
PROOFS. A fetch changes no bank, whatever its memory accesses meet (O35).
-/
namespace Sys2Proof.Laws
open Sys2Proof.Machine
open Sys2Proof (Instr)

/-- Every bank of every pair is the same in two states. -/
def SameBanks (s t : State) : Prop := ∀ q, (t.pair q).banks = (s.pair q).banks

namespace SameBanks

theorem refl (s : State) : SameBanks s s := fun _ => rfl

theorem of_pairs {s t : State} (h : t.pairs = s.pairs) : SameBanks s t := fun q => by rw [pair_of_samePairs h]

theorem trans {s t u : State} (h : SameBanks s t) (k : SameBanks t u) : SameBanks s u := fun q => (k q).trans (h q)

theorem bank_eq {s t : State} (h : SameBanks s t) (p b : Nat) : t.bank p b = s.bank p b := by
  unfold State.bank Pair.bank
  rw [h p]

theorem updPair (s : State) (p : Nat) {f : Pair → Pair} (hf : ∀ v, (f v).banks = v.banks) : SameBanks s (s.updPair p f) := fun q => by
  rw [State.pair_updPair]
  split
  · next hq => rw [hf, hq]
  · rfl

theorem ite {s t u : State} {c : Prop} [Decidable c] (h : SameBanks s t) (k : SameBanks s u) : SameBanks s (if c then t else u) := by
  split
  exacts [h, k]

/-- Sequencing: what an operation leaves is what the next one starts from, or the end. -/
theorem bind {α β : Type} {s : State} {r : Res α} {k : α → State → Res β} (h : SameBanks s r.state)
    (hk : ∀ a t, SameBanks t (k a t).state) : SameBanks s (r.bind k).state := by
  cases r with
  | ok a t => exact h.trans (hk a t)
  | flt f t => exact h

/-! ## Reads of DRAM -/

theorem dataWrite (s : State) (pa : Nat) (bs : List Byte) : SameBanks s (s.dataWrite .dram pa bs) := fun q => by
  obtain ⟨r, h⟩ := pair_dataWrite s pa bs q
  rw [h]

theorem notify (s : State) (q kind unit idx detail : Nat) : SameBanks s (s.notify q kind unit idx detail) := by
  unfold State.notify
  exact .ite (.of_pairs (State.bumpF_pairs _ _ _ _)) (.of_pairs rfl)

theorem poisonLine (s : State) (line : Nat) : SameBanks s (s.poisonLine line) := by
  have hmark : SameBanks s (s.markEntry line) := .of_pairs rfl
  unfold State.poisonLine
  extract_lets pa ch s1 s2 s3
  have hzero : SameBanks s s1 := hmark.trans (dataWrite _ _ _)
  have hrecord : s3.pairs = s1.pairs := by
    show State.pairs (State.bump _ _) = _
    rw [State.bump_pairs, State.wr_pairs, State.setBit_pairs]
  exact (hzero.trans (.of_pairs hrecord)).trans (notify _ _ _ _ _ _)

theorem touchLine (s : State) (line : Nat) : SameBanks s (s.touchLine line) := by
  unfold State.touchLine
  split
  exacts [.refl s, .of_pairs rfl, poisonLine s line]

theorem touchFrom (n : Nat) : ∀ (s : State) (line : Nat), SameBanks s (s.touchFrom line n) := by
  induction n with
  | zero => exact fun s _ => .refl s
  | succ n ih => exact fun s line => (touchLine s line).trans (ih _ _)

theorem setTch (s : State) (ch : Nat) (t : TallyChan) : SameBanks s (s.setTch ch t) := .of_pairs (DeviceEffect.setTch s ch t).pairs_eq

theorem cellErrors (ops : List TallyOp) : ∀ s : State, SameBanks s (s.cellErrors ops) := by
  induction ops with
  | nil => exact fun s => .refl s
  | cons op ops ih => exact fun s => trans (.of_pairs rfl) (ih _)

theorem decideAll (ch : Nat) (ops : List TallyOp) : ∀ (s : State) (d : List Byte) (n : Nat), SameBanks s (s.decideAll ch ops d n).1 := by
  induction ops with
  | nil => exact fun s _ _ => .refl s
  | cons op ops ih => exact fun s d n => trans (.of_pairs (DeviceEffect.decideOne s ch op d).pairs_eq) (ih _ _ _)

theorem combLoad (s : State) (ch : Nat) (e : CombEntry) : SameBanks s (s.combLoad ch e) := by
  have htouch := touchLine s (e.cell / 64)
  unfold State.combLoad
  dsimp only
  split
  · exact (htouch.trans (cellErrors _ _)).trans (setTch _ _ _)
  · exact ((htouch.trans (decideAll _ _ _ _ _)).trans (.of_pairs (DeviceEffect.tallyTick _).pairs_eq)).trans (setTch _ _ _)

theorem combWrite (s : State) (ch : Nat) (e : CombEntry) : SameBanks s (s.combWrite ch e) := dataWrite s e.cell e.data

theorem cellRoute (s : State) (line : Nat) : SameBanks s (s.cellRoute line) := by
  unfold State.cellRoute
  dsimp only
  split
  · exact .refl s
  · next e _ =>
    have hload : SameBanks s (if e.st = .loading then s.combLoad (channelOf (line * 64)) e else s.touchLine line) :=
      .ite (combLoad s _ e) (touchLine s line)
    split
    · exact hload
    · exact trans (.ite (hload.trans (combWrite _ _ _)) hload) (setTch _ _ _)

theorem cellRouteFrom (n : Nat) : ∀ (s : State) (line : Nat), SameBanks s (s.cellRouteFrom line n) := by
  induction n with
  | zero => exact fun s _ => .refl s
  | succ n ih => exact fun s line => (cellRoute s line).trans (ih _ _)

theorem dramEnter (s : State) (pa n : Nat) : SameBanks s (s.dramEnter pa n) := by
  unfold State.dramEnter
  extract_lets s1
  have hroute : SameBanks s s1 := .ite (.refl s) (cellRouteFrom _ s _)
  exact .ite hroute (hroute.trans (touchFrom _ _ _))

theorem readPieces (cs : List Piece) : ∀ s : State, SameBanks s (s.readPieces cs).2 := by
  induction cs with
  | nil => exact fun s => .refl s
  | cons c cs ih => exact fun s => trans (.ite (dramEnter s _ _) (.refl s)) (ih _)

/-! ## Translation -/

theorem readPte (s : State) (wc pr : Option Nat) (table idx level : Nat) : SameBanks s (s.readPte wc pr table idx level).2 := by
  unfold State.readPte
  extract_lets pe cached sp s1
  have h1 : SameBanks s s1 := .ite (dramEnter s _ _) (.refl s)
  clear_value cached
  split
  · exact .refl s
  · split <;> exact h1

theorem cacheWalk (s : State) (wc : Option Nat) (table idx level e : Nat) : SameBanks s (s.cacheWalk wc table idx level e) := by
  unfold State.cacheWalk
  split
  · exact .refl s
  · refine .ite (.refl s) (updPair s _ fun v => ?_)
    dsimp only
    split <;> rfl

theorem walkGo (wc pr : Option Nat) (va asid n : Nat) :
    ∀ (s : State) (table level : Nat), SameBanks s (walkGo s wc pr va asid table level n).state := by
  induction n with
  | zero => exact fun s _ _ => .refl s
  | succ n ih =>
    intro s table level
    have hread : ∀ {o t}, s.readPte wc pr table (vaIndex va level) level = (o, t) → SameBanks s t := fun {o t} h => by
      have hpte := readPte s wc pr table (vaIndex va level) level
      rwa [h] at hpte
    unfold Machine.walkGo
    extract_lets idx pe
    split
    · exact .refl s
    split
    · exact .refl s
    split
    next h => exact hread h
    next h =>
      split
      · exact hread h
      split
      · exact hread h
      split
      · exact ((hread h).trans (cacheWalk _ _ _ _ _ _)).trans (ih _ _ _)
      · exact hread h

theorem walk (s : State) (wc pr : Option Nat) (va ttbc : Nat) : SameBanks s (s.walk wc pr va ttbc).state := by
  unfold State.walk
  split
  · exact .refl s
  · have hcount : SameBanks s (if pr.isSome then s.bump Addr.TR_CNT_WALK else s) := .ite (.of_pairs (State.bump_pairs s _)) (.refl s)
    exact hcount.trans (walkGo _ _ _ _ _ _ _ _)

theorem l1Put_banks (v : Pair) (x : Bool) (t : TlbEntry) : (v.l1Put x t).banks = v.banks := by unfold Pair.l1Put; split <;> rfl

theorem tlbFill (s : State) (p : Nat) (x : Bool) (t : TlbEntry) : SameBanks s (s.tlbFill p x t) := by
  unfold State.tlbFill
  refine updPair s p fun v => ?_
  dsimp only
  split
  · rfl
  · exact l1Put_banks _ x t

theorem tlbHit (s : State) (p : Nat) (x : Bool) (t : TlbEntry) : SameBanks s (s.tlbHit p x t) := by
  unfold State.tlbHit
  refine updPair s p fun v => ?_
  split
  · rfl
  · split
    · rfl
    · exact l1Put_banks v x t

theorem leafOf (s : State) (p : Nat) (x : Bool) (ttbc va : Nat) : SameBanks s (s.leafOf p x ttbc va).state := by
  unfold State.leafOf
  extract_lets hit
  split
  · exact .refl s
  split
  · exact .refl s
  split
  · exact tlbHit s p x _
  · exact (walk s _ _ _ _).bind fun _ _ => tlbFill _ _ _ _

theorem mapTlbs_banks (v : Pair) (f : List TlbEntry → List TlbEntry) : (v.mapTlbs f).banks = v.banks := rfl

theorem releaf (s : State) (p : Nat) (x : Bool) (ttbc va : Nat) : SameBanks s (s.releaf p x ttbc va).state := by
  unfold State.releaf
  extract_lets s0
  have hdrop : SameBanks s s0 := updPair s p fun v => mapTlbs_banks v _
  exact (hdrop.trans (walk _ _ _ _ _)).bind fun _ _ => tlbFill _ _ _ _

theorem bareXlate (s : State) (v : Via) (k : AKind) (va len : Nat) : SameBanks s (bareXlate s v k va len).state := by
  unfold Machine.bareXlate
  split
  · exact .refl s
  extract_lets sp
  split
  · exact .refl s
  extract_lets bad
  split <;> exact .refl s

theorem xlate (s : State) (v : Via) (k : AKind) (va len : Nat) : SameBanks s (xlate s v k va len).state := by
  unfold Machine.xlate
  split
  · exact bareXlate s v k va len
  refine (leafOf s _ _ _ _).bind fun t s1 => ?_
  split
  · exact .refl s1
  split
  · exact .refl s1
  refine (releaf s1 _ _ _ _).bind fun t2 s2 => ?_
  split
  · exact .refl s2
  split <;> exact .refl s2

theorem planParts (v : Via) (k : AKind) (one capAcc : Bool) (ea size : Nat) (l : List (Nat × Nat)) :
    ∀ (upper : Bool) (s : State), SameBanks s (planParts v k one capAcc ea size upper s l).state := by
  induction l with
  | nil => exact fun _ s => .refl s
  | cons a l ih =>
    intro upper s
    have hx := xlate s v k a.1 a.2
    unfold Machine.planParts
    split
    next h => rwa [h] at hx
    next c s1 h =>
      rw [h] at hx
      have hrest := ih one s1
      split
      · exact hx
      split
      next h2 => rw [h2] at hrest; exact trans hx hrest
      next h2 => rw [h2] at hrest; exact trans hx hrest

/-! ## Fetch -/

theorem staleWord (s : State) (p : Nat) (sp : Space) (pa cur : Nat) : SameBanks s (s.staleWord p sp pa cur).2 := by
  unfold State.staleWord
  extract_lets old
  clear_value old
  split
  exacts [.refl s, .of_pairs rfl]

theorem fetchLine (s : State) (p line : Nat) : SameBanks s (s.fetchLine p line) := by
  unfold State.fetchLine
  exact .ite (.refl s) (updPair s p fun _ => rfl)

theorem fetchWord (s : State) (p b a : Nat) : SameBanks s (fetchWord p b a s).state := by
  unfold Machine.fetchWord
  split
  · exact .refl s
  refine SameBanks.bind (planParts _ _ _ _ _ _ _ _ s) fun ps s1 => ?_
  extract_lets r
  have hread : SameBanks s1 r.2 := readPieces ps s1
  split
  · next c =>
    have hword : SameBanks s1 (r.2.staleWord p c.sp c.pa (bytesNat r.1)).2 := hread.trans (staleWord _ _ _ _ _)
    exact .ite (hword.trans (fetchLine _ _ _)) hword
  · exact hread

theorem fetchWords (p b n : Nat) : ∀ (s : State) (a : Nat), SameBanks s (fetchWords p b a s n).state := by
  induction n with
  | zero => exact fun s _ => .refl s
  | succ n ih =>
    intro s a
    unfold Machine.fetchWords
    refine (fetchWord s p b a).bind fun w s1 => ?_
    split
    · exact .refl s1
    · exact (ih s1 _).bind fun _ t => .refl t

theorem fetchBundle (s : State) (p b a : Nat) (named : Bool) : SameBanks s (fetchBundle p b a named s).state := by
  unfold Machine.fetchBundle
  extract_lets at_
  refine (fetchWords p b 5 s a).bind fun o s1 => ?_
  split
  · exact .refl s1
  split
  · exact .refl s1
  split <;> exact .refl s1

end SameBanks

end Sys2Proof.Laws
end

section
/-!
PROOFS. Bundles run and retire, and mode writes take effect (O35).
-/
namespace Sys2Proof.Laws
open Sys2Proof.Machine
open Sys2Proof (Instr PredIx)

/-! ## The run of a bundle -/

theorem AtRest.trans {s t u : State} (h : AtRest s t) (k : AtRest t u) : AtRest s u := by
  obtain ⟨-, -, hhb⟩ := h
  obtain ⟨hout, hquiet, hhb'⟩ := k
  exact ⟨hout, hquiet, hhb'.trans hhb⟩

theorem ownEffect_retireBundle {s : State} (hout : s.out = []) (c : SCtx) (k : Bank) (w : Bool) : OwnEffect s (s.retireBundle c k w) :=
  .updBank hout _ _ _

section
variable {p b : Nat} {s : State} (hexec : ({ s with out := [] } : State).execBank p = some b) (hpend : s.apendDue p b = false)
  (hshadow : (s.pair p).shadow = []) (hmask : maskUpdate s.clk (s.pair p) = s.pair p)

/-- The state in which a bundle at a boundary without mode writes and mask timer is fetched. -/
def atBoundary (s : State) (p b : Nat) : State := issued (s.setPair p (s.pair p)) p b

theorem fetched_atBoundary (s : State) (p b : Nat) : Fetched p s (atBoundary s p b) := by
  obtain ⟨ps, e, r, h, -, hp⟩ := issued_eq (s.setPair p (s.pair p)) p b
  have hself : (s.setPair p (s.pair p)).pair p = s.pair p := (State.pair_setPair s p p _).trans (if_pos rfl)
  have hpair : (atBoundary s p b).pair p = { s.pair p with resumed := r } := by
    unfold atBoundary
    rw [h, ← hself]
    exact hp
  exact ⟨⟨ps, e, s.sec.dbgHalt, h⟩, r, (s.pair p).ibuf, hpair⟩

theorem pair_atBoundary_ne (s : State) {p q : Nat} (b : Nat) (hq : q ≠ p) : (atBoundary s p b).pair q = s.pair q :=
  ((sameButSequencing_issued _ p b).pair_ne hq).trans ((State.pair_setPair s p q _).trans (if_neg hq))

include hexec hpend hshadow hmask

/-- A bundle whose syllables all complete leaves what they leave, retired unless one of them left it (R104, R113, R165). -/
theorem bundleOn_completes {s2 u : State} {v : Bundle} {l : Bool} {x : Option DSyl} {c : SCtx} (hrep : (s.bank p b).rep = 0)
    (hfetch : fetchBundle p b (s.bank p b).pcc.addr false (atBoundary s p b) = .ok v s2) (hwait : s2.bundleWaits p b v = false)
    (hc : c = ⟨p, b, (s.bank p b).pcc.addr, addrOf (((s.bank p b).pcc.addr : Int) + v.len), 0⟩)
    (hrun : runSyls c s2 false 0 s2 v.syls = (.ok l u, x)) :
    ({ s with out := [] } : State).bundleOn p b = (if l then u
      else u.retireBundle c (s2.bank p b) ((executed s2 p b 0 v.syls).any (writesLc c s2))).stepped p := by
  subst hc
  obtain ⟨-, hpass, hentry⟩ := bundleCmd_of_execBank hexec hpend
  have hstart : (({ s with out := [] } : State).updPair p (fun v => maskUpdate s.clk (tickShadow v))).enter p b = atBoundary s p b := by
    show (({ s with out := [] } : State).setPair p (maskUpdate s.clk (tickShadow (s.pair p)))).enter p b = _
    rw [tickShadow_none hshadow, hmask]
    rfl
  have hbank : (atBoundary s p b).bank p b = s.bank p b := (fetched_atBoundary s p b).bank_eq b
  have hrep2 : (s2.bank p b).rep = 0 := by
    have hsame := (SameBanks.fetchBundle (atBoundary s p b) p b (s.bank p b).pcc.addr false).bank_eq p b
    rw [hfetch] at hsame
    rw [hsame, hbank, hrep]
  unfold State.bundleOn
  dsimp only
  rw [hpass, if_neg (by rw [show ({ s with out := [] } : State).apendDue p b = s.apendDue p b from rfl, hpend]; decide),
    if_neg (by rw [hentry]; decide), hstart, hbank, hfetch]
  dsimp only
  rw [hwait, if_neg (by decide), if_pos hrep2]
  unfold State.bundleEnd
  rw [hrun]

/-- BUNDLE of such a bundle, as a command. -/
theorem bundle_completes {s2 u : State} {v : Bundle} {l : Bool} {x : Option DSyl} {c : SCtx} (hp : p < 104)
    (hrep : (s.bank p b).rep = 0)
    (hfetch : fetchBundle p b (s.bank p b).pcc.addr false (atBoundary s p b) = .ok v s2) (hwait : s2.bundleWaits p b v = false)
    (hc : c = ⟨p, b, (s.bank p b).pcc.addr, addrOf (((s.bank p b).pcc.addr : Int) + v.len), 0⟩)
    (hrun : runSyls c s2 false 0 s2 v.syls = (.ok l u, x)) (hrest : AtRest s u) :
    exec (.bundle p) s = .next ((if l then u
      else u.retireBundle c (s2.bank p b) ((executed s2 p b 0 v.syls).any (writesLc c s2))).stepped p) := by
  have hcmd : ({ s with out := [] } : State).bundleCmd p = _ :=
    (bundleCmd_of_execBank hexec hpend).1.trans (bundleOn_completes hexec hpend hshadow hmask hrep hfetch hwait hc hrun)
  have hretired : OwnEffect u (if l then u
      else u.retireBundle c (s2.bank p b) ((executed s2 p b 0 v.syls).any (writesLc c s2))) := by
    cases l
    · exact ownEffect_retireBundle hrest.1 _ _ _
    · exact (SameButSequencing.refl (p := p) hrest.1).ownEffect
  have hend := hretired.trans (sameButSequencing_stepped hretired.out_eq p).ownEffect
  exact (onUnit_has (decide_eq_true hp)).trans (does_at_rest hcmd (AtRest.trans hrest (hend.atRest hrest.2.1)))

end

/-! ## A bundle of one ADD word -/

/-- The fields of ADD (R136, R139). -/
def addFields (p : Nat) (cd cs1 cs2 : RegIx) : SylFields := ⟨p, 0x10, cd.toNat, cs1.toNat, cs2.toNat, 0, none⟩

/-- ADD as the one syllable of a bundle, under a predicate. -/
def addSyl (p : Nat) (cd cs1 cs2 : RegIx) (ps : PredIx) (inv : Bool) : DSyl :=
  ⟨.add p cd cs1 cs2, ⟨1, [cs1.toNat, cs2.toNat], [cd.toNat], none, false, false, false, false, false⟩, 1, ps.toNat, inv⟩

section
variable (p : Nat) (cd cs1 cs2 : RegIx) (ps : PredIx) (inv : Bool)

theorem sylWord_add : sylWord (addFields p cd cs1 cs2) true ps inv = 2 ^ 31 + ps.toNat * 2 ^ 28 + b2n inv * 2 ^ 27 + 0x10 * 2 ^ 21 +
    cd.toNat * 2 ^ 16 + cs1.toNat * 2 ^ 11 + cs2.toNat * 2 ^ 6 := by
  unfold sylWord addFields
  rw [show b2n true = 1 from rfl, one_mul, Nat.add_zero]

/-- The word of an ADD reads back as an ADD (R102, R104). -/
theorem addWord_fields {w : Nat} (hw : w = sylWord (addFields p cd cs1 cs2) true ps inv) :
    decodeSyl p w none = some (.add p cd cs1 cs2) ∧ bitsAt w 21 6 = 0x10 ∧ bitsAt w 28 3 = ps.toNat ∧ w.testBit 27 = inv ∧
      w.testBit 31 = true := by
  have hfields : fieldsOf (.add p cd cs1 cs2) = some (addFields p cd cs1 cs2) := rfl
  have hlegal : (addFields p cd cs1 cs2).legal = true := by
    show (!(isSentinel p && false)) = true
    rw [Bool.and_false]
    rfl
  have hfit := fieldsFit_of_fieldsOf hfields
  obtain ⟨-, hlast, hps, hinv, hmaj, -⟩ := sylWord_fields hfit true ps inv hw
  refine ⟨?_, hmaj, hps, testBit_eq_of_mod hinv, testBit_eq_of_mod hlast⟩
  rw [hw]
  exact (decodeSyl_sylWord hfit hlegal true ps inv).trans (decodeMaj_fieldsOf hfields)

theorem decodeBundle_addWord {w : Nat} (hw : w = sylWord (addFields p cd cs1 cs2) true ps inv) (list : Bool) (t : DecodeTable) :
    decodeBundle p list t [w] = .inl [addSyl p cd cs1 cs2 ps inv] := by
  obtain ⟨hdec, hmaj, hps, hinv, -⟩ := addWord_fields p cd cs1 cs2 ps inv hw
  unfold decodeBundle
  simp only [List.reverse_cons, List.reverse_nil, List.nil_append, hmaj]
  unfold decodeWords
  rw [if_neg (by decide)]
  dsimp only
  rw [hdec, hmaj, hps, hinv]
  rfl

/-- A bundle of one ADD word fetched from plain memory (R104, R112). -/
theorem fetchBundle_add {s : State} {b w : Nat} (hw : w = sylWord (addFields p cd cs1 cs2) true ps inv) (h : PlainFetch s p b w) :
    fetchBundle p b (s.bank p b).pcc.addr false s =
      .ok ⟨[addSyl p cd cs1 cs2 ps inv], 4⟩ (s.fetchLine p ((s.bank p b).pcc.addr / 64)) := by
  obtain ⟨-, -, -, -, hlast⟩ := addWord_fields p cd cs1 cs2 ps inv hw
  unfold fetchBundle fetchWords
  rw [fetchWord_plain h]
  simp only [Res.bind, hlast, if_true, decodeBundle_addWord p cd cs1 cs2 ps inv hw]
  rfl

end

/-- The body of ADD: the sum modulo 2^64, no flag (R139). -/
theorem sylAdd_eq (cd cs1 cs2 : RegIx) (c : SCtx) (s : State) : sylAdd cd cs1 cs2 c s =
    .ok false (s.setX c.pair c.bank cd.toNat (s.srcX c.pair c.bank cs1.toNat + s.srcX c.pair c.bank cs2.toNat)) := by
  unfold sylAdd intRR opAdd State.addFlags
  dsimp only
  rw [if_pos rfl]

/-- What a bundle of one ADD leaves before it retires: the sum where its predicate holds (R114, R139). -/
def addRun (s : State) (p b : Nat) (cd cs1 cs2 : RegIx) (go : Bool) : State :=
  (if go then s.setX p b cd.toNat (s.srcX p b cs1.toNat + s.srcX p b cs2.toNat) else s).endDelay p

section
variable {p b : Nat} {cd cs1 cs2 : RegIx} {ps : PredIx} {inv go : Bool} {s : State} (hdelay : (s.pair p).delay = [])
  (hgo : go = ((s.bank p b).pred ps.toNat != inv))
include hdelay hgo

theorem executes_addSyl : (addSyl p cd cs1 cs2 ps inv).executes (s.bankFor p b 0) = go := by
  have hseen : s.bankFor p b 0 = s.bank p b := by
    unfold State.bankFor State.seen
    rw [if_pos rfl]
    dsimp only
    rw [hdelay]
    rfl
  rw [hseen, hgo]
  rfl

theorem runSyls_add (pc next : Nat) : runSyls ⟨p, b, pc, next, 0⟩ s false 0 s [addSyl p cd cs1 cs2 ps inv] =
    (.ok false (addRun s p b cd cs1 cs2 go), none) := by
  unfold runSyls
  rw [executes_addSyl hdelay hgo]
  cases go
  · rfl
  · dsimp only [Bool.not_true, Bool.false_eq_true, if_false]
    rw [show bodyOf (addSyl p cd cs1 cs2 ps inv).ins = some (sylAdd cd cs1 cs2) from rfl]
    dsimp only
    rw [sylAdd_eq]
    rfl

theorem executed_add : executed s p b 0 [addSyl p cd cs1 cs2 ps inv] = if go then [addSyl p cd cs1 cs2 ps inv] else [] := by
  unfold executed
  rw [executes_addSyl hdelay hgo]
  rfl

/-- A bundle with no tally status outstanding does not wait (R206). -/
theorem bundleWaits_add (h : s.tallyBusy p b = false) (len : Nat) : s.bundleWaits p b ⟨[addSyl p cd cs1 cs2 ps inv], len⟩ = false := by
  have hout : s.tallyOut p b = [] := by
    unfold State.tallyBusy at h
    simpa using h
  have hholds : ∀ n, s.tallyHolds p b n = false := fun n => by unfold State.tallyHolds; rw [hout]; rfl
  unfold State.bundleWaits State.sylWaits
  dsimp only
  rw [executed_add hdelay hgo]
  cases go <;> simp [h, hholds]

end

/-- `LC` is not among what an ADD writes (R124). -/
theorem writesLc_add {p : Nat} {cd cs1 cs2 : RegIx} {ps : PredIx} {inv go : Bool} (c : SCtx) (s : State) :
    (if go then [addSyl p cd cs1 cs2 ps inv] else []).any (writesLc c s) = false := by cases go <;> rfl

/-- The bank after a bundle of one ADD, its sum written where the predicate holds, retired (R139, R165). -/
def addBank (k : Bank) (go : Bool) (cd : RegIx) (sum : Word) : Bank :=
  let k1 := if go then k.setReg cd.toNat (intCap sum) else k
  let next := addrOf ((k.pcc.addr : Int) + 4)
  if k.le.toNat = k.pcc.addr then
    if 2 ≤ k.lc.toNat then ({ k1 with lc := k.lc - 1 } : Bank).moveTo k.ls.toNat else ({ k1 with lc := 0 } : Bank).moveTo next
  else k1.moveTo next

section
variable {k : Bank} {go : Bool} {cd : RegIx} {sum : Word}

theorem addr_moveTo (k : Bank) (x : Nat) : (k.moveTo x).pcc.addr = x % 2 ^ 64 := addr_withAddr _ _ _

theorem reg_addBank (n : Nat) : (addBank k go cd sum).reg n = (if go then k.setReg cd.toNat (intCap sum) else k).reg n := by
  unfold addBank
  dsimp only
  split
  · split <;> rfl
  · rfl

theorem reg_addBank_same : (addBank k go cd sum).reg cd.toNat = if go = true ∧ cd ≠ 0 then intCap sum else k.reg cd.toNat := by
  rw [reg_addBank]
  cases go
  · rw [if_neg (by decide), if_neg (fun h => Bool.false_ne_true h.1)]
  · rw [if_pos rfl, Bank.reg_setReg, if_pos rfl]
    by_cases h0 : cd = 0
    · rw [if_pos (by rw [h0]; rfl), if_neg (fun h => h.2 h0), h0]
      rfl
    · rw [if_neg (fun h => h0 ((toNat_eq_zero_iff cd).1 h)), if_pos ⟨rfl, h0⟩]

theorem reg_addBank_ne {n : Nat} (h : n ≠ cd.toNat) : (addBank k go cd sum).reg n = k.reg n := by
  rw [reg_addBank]
  cases go
  · rfl
  · exact reg_setReg_ne k _ h

theorem lc_setReg (k : Bank) (n : Nat) (c : Cap) : (k.setReg n c).lc = k.lc := by unfold Bank.setReg; split <;> rfl

theorem addr_next {x : Nat} (h : x + 4 ≤ 2 ^ 41) : addrOf ((x : Int) + 4) % 2 ^ 64 = x + 4 := by unfold addrOf; omega

/-- A bundle that is no loop's end goes on to the next word (R165). -/
theorem addBank_next (hle : k.le.toNat ≠ k.pcc.addr) (hpc : k.pcc.addr + 4 ≤ 2 ^ 41) :
    (addBank k go cd sum).pcc.addr = k.pcc.addr + 4 ∧ (addBank k go cd sum).lc = k.lc := by
  unfold addBank
  rw [if_neg hle]
  refine ⟨(addr_moveTo _ _).trans (addr_next hpc), ?_⟩
  cases go
  · rfl
  · exact lc_setReg k _ _

/-- The end of a loop with rounds left goes back to its start (R165). -/
theorem addBank_back (hle : k.le.toNat = k.pcc.addr) (hlc : 2 ≤ k.lc.toNat) :
    (addBank k go cd sum).pcc.addr = k.ls.toNat ∧ (addBank k go cd sum).lc = k.lc - 1 := by
  unfold addBank
  rw [if_pos hle, if_pos hlc]
  exact ⟨(addr_moveTo _ _).trans (Nat.mod_eq_of_lt k.ls.isLt), rfl⟩

/-- The last round of a loop goes on to the next word (R165). -/
theorem addBank_last (hle : k.le.toNat = k.pcc.addr) (hlc : k.lc.toNat < 2) (hpc : k.pcc.addr + 4 ≤ 2 ^ 41) :
    (addBank k go cd sum).pcc.addr = k.pcc.addr + 4 ∧ (addBank k go cd sum).lc = 0 := by
  unfold addBank
  rw [if_pos hle, if_neg (by omega)]
  exact ⟨(addr_moveTo _ _).trans (addr_next hpc), rfl⟩

end

/-- From s to t only bank b of pair p and pairs' own sequencing changed. -/
def BankEffect (p b : Nat) (s t : State) : Prop :=
  OwnEffect s t ∧ (∀ e, e ≠ b → t.bank p e = s.bank p e) ∧ ∀ q, q ≠ p → t.pair q = s.pair q

namespace BankEffect
variable {p b : Nat} {s t u : State}

theorem trans (h : BankEffect p b s t) (k : BankEffect p b t u) : BankEffect p b s u := by
  obtain ⟨h1, h2, h3⟩ := h
  obtain ⟨k1, k2, k3⟩ := k
  exact ⟨h1.trans k1, fun e he => (k2 e he).trans (h2 e he), fun q hq => (k3 q hq).trans (h3 q hq)⟩

theorem updBank (hout : s.out = []) (p b : Nat) (f : Bank → Bank) : BankEffect p b s (s.updBank p b f) :=
  ⟨.updBank hout p b f, fun _ he => (State.bank_updBank s p p b _ f).trans (if_neg fun h => he h.2),
    fun q hq => (State.pair_setBank s p q b _).trans (if_neg hq)⟩

theorem retireBundle (hout : s.out = []) (c : SCtx) (k : Bank) (w : Bool) : BankEffect c.pair c.bank s (s.retireBundle c k w) :=
  .updBank hout _ _ _

theorem of_sequencing (h : SameButSequencing p s t) : BankEffect p b s t :=
  ⟨h.ownEffect, fun e _ => h.bank_eq p e, fun _ hq => h.pair_ne hq⟩

end BankEffect

theorem bankEffect_fetched {s : State} (p b line : Nat) : BankEffect p b s ((atBoundary s p b).fetchLine p line) := by
  have hstart := fetched_atBoundary s p b
  have hline := fetched_fetchLine hstart.1.out_eq p line
  have hfetched := hstart.trans hline
  refine ⟨hfetched.1, fun e _ => hfetched.bank_eq e, fun q hq => ?_⟩
  rw [← pair_atBoundary_ne s b hq]
  unfold State.fetchLine
  dsimp only
  split
  · rfl
  · exact (State.pair_updPair _ p q _).trans (if_neg hq)

theorem addRun_effect {s : State} (hout : s.out = []) (p b : Nat) (cd cs1 cs2 : RegIx) (go : Bool) :
    BankEffect p b s (addRun s p b cd cs1 cs2 go) ∧ (addRun s p b cd cs1 cs2 go).bank p b =
      if go then (s.bank p b).setReg cd.toNat (intCap (s.srcX p b cs1.toNat + s.srcX p b cs2.toNat)) else s.bank p b := by
  unfold addRun
  cases go
  · have hdelay := sameButSequencing_endDelay hout p
    exact ⟨.of_sequencing hdelay, hdelay.bank_eq p b⟩
  · have hset : BankEffect p b s (s.setX p b cd.toNat (s.srcX p b cs1.toNat + s.srcX p b cs2.toNat)) :=
      .updBank hout p b (fun k => k.setReg cd.toNat (intCap (s.srcX p b cs1.toNat + s.srcX p b cs2.toNat)))
    have hdelay := sameButSequencing_endDelay hset.1.out_eq p
    exact ⟨hset.trans (.of_sequencing hdelay),
      (hdelay.bank_eq p b).trans ((State.bank_updBank s p p b b _).trans (if_pos ⟨rfl, rfl⟩))⟩

section
variable {p b : Nat} {s : State} (hexec : ({ s with out := [] } : State).execBank p = some b) (hpend : s.apendDue p b = false)
  (hshadow : (s.pair p).shadow = []) (hmask : maskUpdate s.clk (s.pair p) = s.pair p)
include hexec hpend hshadow hmask

/-- BUNDLE of one ADD word in plain memory changes its bank as `addBank` says and nothing else (R104, R114, R139, R165). -/
theorem bundle_add_completes {cd cs1 cs2 : RegIx} {ps : PredIx} {inv go : Bool} {w : Nat} (hp : p < 104) (hquiet : Quiet s)
    (hrep : (s.bank p b).rep = 0) (hbusy : s.tallyBusy p b = false) (hdelay : (s.pair p).delay = []) (hplain : PlainFetch s p b w)
    (hw : w = sylWord (addFields p cd cs1 cs2) true ps inv) (hgo : go = ((s.bank p b).pred ps.toNat != inv)) :
    ∃ t, exec (.bundle p) s = .next t ∧ BankEffect p b s t ∧
      t.bank p b = addBank (s.bank p b) go cd (s.srcX p b cs1.toNat + s.srcX p b cs2.toNat) := by
  have hstart := fetched_atBoundary s p b
  have hfetch := fetchBundle_add p cd cs1 cs2 ps inv hw (hstart.plainFetch hplain)
  rw [hstart.bank_eq b] at hfetch
  have hfetched := hstart.trans (fetched_fetchLine hstart.1.out_eq p ((s.bank p b).pcc.addr / 64))
  have heffect := bankEffect_fetched (s := s) p b ((s.bank p b).pcc.addr / 64)
  generalize (atBoundary s p b).fetchLine p ((s.bank p b).pcc.addr / 64) = s2 at hfetch hfetched heffect
  have hbank := hfetched.bank_eq b
  have hdelay2 : (s2.pair p).delay = [] := by
    obtain ⟨-, r, l, hpair⟩ := hfetched
    rw [hpair]
    exact hdelay
  have hgo2 : go = ((s2.bank p b).pred ps.toNat != inv) := by rw [hbank]; exact hgo
  obtain ⟨hrun, hwritten⟩ := addRun_effect heffect.1.out_eq p b cd cs1 cs2 go
  have hall := heffect.trans hrun
  have hcmd := bundle_completes hexec hpend hshadow hmask hp hrep hfetch
    (bundleWaits_add hdelay2 hgo2 ((hfetched.tallyBusy_eq b).trans hbusy) 4) rfl (runSyls_add hdelay2 hgo2 _ _) (hall.1.atRest hquiet)
  rw [executed_add hdelay2 hgo2, writesLc_add, if_neg (by decide), hbank] at hcmd
  have hretire := BankEffect.retireBundle hall.1.out_eq
    ⟨p, b, (s.bank p b).pcc.addr, addrOf (((s.bank p b).pcc.addr : Int) + 4), 0⟩ (s.bank p b) false
  have hend := sameButSequencing_stepped hretire.1.out_eq p
  refine ⟨_, hcmd, (hall.trans hretire).trans (.of_sequencing hend), (hend.bank_eq p b).trans ?_⟩
  refine (State.bank_updBank _ p p b b _).trans ((if_pos ⟨rfl, rfl⟩).trans ?_)
  rw [hwritten, hbank, hfetched.srcX_eq, hfetched.srcX_eq]
  rfl

end

/-! ## The end of a mode shadow -/

/-- The mask timer is apart from what mode writes change (R227). -/
theorem maskUpdate_modes (clk : Nat) (v : Pair) : (maskUpdate clk v).banks = v.banks ∧ (maskUpdate clk v).shadow = v.shadow ∧
    (maskUpdate clk v).ctxcfg = v.ctxcfg ∧ (maskUpdate clk v).bankw = v.bankw ∧ (maskUpdate clk v).det = v.det := by
  unfold maskUpdate
  split
  · exact ⟨rfl, rfl, rfl, rfl, rfl⟩
  split <;> exact ⟨rfl, rfl, rfl, rfl, rfl⟩

theorem bank_of_banks {v v' : Pair} (h : v'.banks = v.banks) (e : Nat) : v'.bank e = v.bank e := by unfold Pair.bank; rw [h]

/-- A mode write changes no register (R286). -/
theorem reg_applyShadow (v : Pair) (w : ShadowWrite) (e n : Nat) : ((applyShadow v w).bank e).reg n = (v.bank e).reg n := by
  have hset : ∀ k : Bank, (∀ n, k.reg n = (v.bank w.bank).reg n) → ((v.setBank w.bank k).bank e).reg n = (v.bank e).reg n := by
    intro k hk
    rw [Pair.bank_setBank]
    split
    · next he => rw [he]; exact hk n
    · rfl
  unfold applyShadow
  dsimp only
  cases w.reg
  · exact hset _ fun _ => rfl
  · exact hset _ fun _ => rfl
  · rfl
  · exact hset _ fun _ => rfl
  · rfl

/-- What a mode write of each register leaves: the masked bits those of its value (R286). -/
theorem applyShadow_modes (v : Pair) (w : ShadowWrite) :
    (w.reg = .amode → ((applyShadow v w).bank w.bank).amode = merge (v.bank w.bank).amode w.value w.mask) ∧
    (w.reg = .ttbc → ((applyShadow v w).bank w.bank).ttbc = merge (v.bank w.bank).ttbc w.value w.mask) ∧
    (w.reg = .ctxcfg → (applyShadow v w).ctxcfg = merge v.ctxcfg w.value w.mask) ∧
    (w.reg = .bankw → (applyShadow v w).bankw = merge v.bankw w.value w.mask) ∧
    (w.reg = .status → ((applyShadow v w).bank w.bank).status = merge (v.bank w.bank).status w.value (w.mask &&& ~~~2) ∧
      (w.mask.getLsbD 1 = true → (applyShadow v w).det = w.value.getLsbD 1)) := by
  have hset : ∀ k : Bank, (v.setBank w.bank k).bank w.bank = k := fun k => (Pair.bank_setBank v _ _ k).trans (if_pos rfl)
  unfold applyShadow
  refine ⟨fun h => ?_, fun h => ?_, fun h => ?_, fun h => ?_, fun h => ?_⟩ <;> rw [h]
  · exact congrArg Bank.amode (hset _)
  · exact congrArg Bank.ttbc (hset _)
  · exact ⟨congrArg Bank.status (hset _), fun hdet => if_pos hdet⟩

/-- MODE_SHADOW_END, as a command: the oldest mode write of the pair takes effect (R286). -/
theorem modeShadowEnd_completes {s : State} {p : Nat} {w : ShadowWrite} {ws : List ShadowWrite} (hquiet : Quiet s) (hp : p < 104)
    (h : (s.pair p).shadow = w :: ws) : ∃ t, exec (.modeShadowEnd p) s = .next t ∧
      t.pair p = maskUpdate s.clk { applyShadow (s.pair p) w with shadow := ws } ∧ (∀ q, q ≠ p → t.pair q = s.pair q) ∧
      SameMemory s t ∧ SameUnits s t := by
  have hend := shadowEnd_eq (s := { s with out := [] }) h
  have hown := (ownEffect_clearOut s).trans
    (OwnEffect.updPair (s := { s with out := [] }) rfl p (fun v => maskUpdate s.clk { applyShadow v w with shadow := ws }))
  have hpair := State.pair_updPair { s with out := [] } p
  exact ⟨_, (onUnit_has (decide_eq_true hp)).trans (does_at_rest (f := fun s => s.shadowEnd p) hend (hown.atRest hquiet)),
    (hpair p _).trans (if_pos rfl), fun q hq => (hpair q _).trans (if_neg hq), hown.sameMemory, hown.sameUnits⟩

end Sys2Proof.Laws

namespace Sys2Proof
open Sys2Proof.Machine Sys2Proof.Laws

/-- Settles O35: a bundle's boundary leaves its fetch and its syllables' run, and the oldest mode write is applied to the pair. -/
theorem bundlesRunAndRetire : Obligations.BundlesRunAndRetire := by
  intro p b s hp hquiet
  refine ⟨?_, ?_, ?_⟩
  · rintro s1 s2 u v l x c hexec hpend hshadow hmask hrep rfl hfetch hwait hc hrun hrest
    exact bundle_completes hexec hpend hshadow hmask hp hrep hfetch hwait hc hrun hrest
  · rintro cd cs1 cs2 ps inv go w pc hexec hpend hshadow hmask hrep hbusy hdelay rfl hplain hw hgo
    obtain ⟨t, ht, ⟨hown, hbanks, hpairs⟩, hbank⟩ :=
      bundle_add_completes hexec hpend hshadow hmask hp hquiet hrep hbusy hdelay hplain
        (hw.trans (sylWord_add p cd cs1 cs2 ps inv).symm) hgo
    obtain ⟨-, -, hpc, -⟩ := hplain
    refine ⟨t, ht, ?_, fun m hm => ?_, fun hle => ?_, fun hle hlc => ?_, fun hle hlc => ?_, hbanks, hpairs, hown.sameMemory,
      hown.sameUnits⟩ <;> rw [hbank]
    · exact reg_addBank_same
    · exact reg_addBank_ne hm
    · exact addBank_next hle hpc
    · exact addBank_back hle hlc
    · exact addBank_last hle hlc hpc
  · intro w ws hw
    obtain ⟨t, ht, hpair, hpairs, hmemory, hunits⟩ := modeShadowEnd_completes hquiet hp hw
    obtain ⟨hbanks, hshadow, hctxcfg, hbankw, hdet⟩ := maskUpdate_modes s.clk { applyShadow (s.pair p) w with shadow := ws }
    rw [← hpair] at hbanks hshadow hctxcfg hbankw hdet
    have hbank : ∀ e, t.bank p e = (applyShadow (s.pair p) w).bank e := bank_of_banks hbanks
    obtain ⟨hamode, httbc, hctx, hwin, hstatus⟩ := applyShadow_modes (s.pair p) w
    refine ⟨t, ht, hshadow, fun h => ?_, fun h => ?_, fun h => hctxcfg.trans (hctx h), fun h => hbankw.trans (hwin h),
      fun h => ⟨?_, fun hm => hdet.trans ((hstatus h).2 hm)⟩, fun e n => ?_, hpairs, hmemory, hunits⟩
    · exact (congrArg Bank.amode (hbank _)).trans (hamode h)
    · exact (congrArg Bank.ttbc (hbank _)).trans (httbc h)
    · exact (congrArg Bank.status (hbank _)).trans (hstatus h).1
    · exact (congrArg (Bank.reg · n) (hbank e)).trans (reg_applyShadow _ w e n)

end Sys2Proof
end

section
/-!
PROOFS. A context saved in a sentinel's load delay (O28).
-/
namespace Sys2Proof.Laws
open Sys2Proof.Machine
open Sys2Proof (Instr)

/-- The sentinel of `delaySyllable` in list style, with a capability for a save area of 512 bytes of plain DRAM in c2: p1 is 1, and
was 0 before the load of the bundle just executed. -/
def delaySave : State :=
  (delaySyllable.setReg 96 0 2 (mintCap 0xFFFF 0 0x100000 0x100200)).updPair 96 (fun v => { v with ctxcfg := 1 })

theorem quiet_delaySave : Quiet delaySave := by unfold Quiet; decide +kernel

theorem issues_svctxU_delaySave : Issues (.svctxU 96 1 2) 96 0 delaySave :=
  ⟨by decide, by decide +kernel, by decide +kernel, _, rfl, by decide +kernel, by decide⟩

/-- The save area lies in plain DRAM that c2 permits. -/
theorem plainRange_delaySave :
    PlainRange delaySave 96 0 (delaySave.src 96 0 2) (delaySave.src 96 0 2).addr 512 [permST, permSC, permSL] := by
  unfold PlainRange PlainSpan; decide +kernel

/-- The model's `SVCTX.U` stores the p1 that the delay syllable still sees, which is 0. -/
theorem svctxU_delaySave : ∃ t, exec (.svctxU 96 1 2) delaySave = .next t ∧
    (t.numAt .dram ((delaySave.src 96 0 2).addr + 16) 8).testBit 1 = false :=
  ⟨_, rfl, by decide +kernel⟩

theorem pred_delaySave : (delaySave.bank 96 0).pred 1 = true := by decide +kernel

end Sys2Proof.Laws

namespace Sys2Proof
open Sys2Proof.Machine Sys2Proof.Laws

/-- Refutes O28: in a sentinel's load delay `SVCTX.U` stores the predicates as they stood before the load (R133), and the statement
names those that the load wrote: the model stores p1 of `delaySave` as 0, the statement as 1. -/
theorem not_severalSlotSyllables : ¬ Obligations.SeveralSlotSyllables := by
  intro h
  obtain ⟨-, harea, -⟩ := h
  obtain ⟨hsave, -⟩ := harea 96 0 1 2 delaySave _ _ _ _ rfl rfl rfl rfl (by decide +kernel) quiet_delaySave
  obtain ⟨t, ht, -, hpreds, -⟩ := hsave plainRange_delaySave (by decide) (by decide) issues_svctxU_delaySave
  obtain ⟨u, hu, hsaved⟩ := svctxU_delaySave
  obtain rfl : t = u := by injection ht.symm.trans hu
  exact Bool.false_ne_true (hsaved.symm.trans ((hpreds 1 (by decide) (by decide)).trans pred_delaySave))

end Sys2Proof
end

section
/-!
PROOFS. Reservations: loads that reserve their line, stores on condition of it (O16).
-/
namespace Sys2Proof.Laws
open Sys2Proof.Machine
open Sys2Proof (Instr)

/-! ## A reservation set or given up -/

/-- The state with the reservation of pair p replaced (R152). -/
def withResv (s : State) (p : Nat) (r : Option Nat) : State := s.updPair p (fun v => { v with resv := r })

section
variable (s : State) (p : Nat) (r : Option Nat)

theorem pair_withResv_self : (withResv s p r).pair p = { s.pair p with resv := r } := (State.pair_updPair s p p _).trans (if_pos rfl)

theorem pair_withResv_ne {q : Nat} (h : q ≠ p) : (withResv s p r).pair q = s.pair q := (State.pair_updPair s p q _).trans (if_neg h)

theorem bank_withResv (q b : Nat) : (withResv s p r).bank q b = s.bank q b := by
  by_cases h : q = p
  · subst h; unfold State.bank; rw [pair_withResv_self]; rfl
  · unfold State.bank; rw [pair_withResv_ne s p r h]

end

/-- A reservation replaced alike in two states leaves them to differ in sequencing alone. -/
theorem SameButSequencing.withResv {p : Nat} {s t : State} (h : SameButSequencing p s t) (r : Option Nat) :
    SameButSequencing p (withResv s p r) (withResv t p r) := by
  have hne : ∀ q, q ≠ p → (Laws.withResv t p r).pair q = (Laws.withResv s p r).pair q := fun q hq => by
    rw [pair_withResv_ne t p r hq, pair_withResv_ne s p r hq, h.pair_ne hq]
  obtain ⟨m, l, hself⟩ := h.pair_self
  have hp : (Laws.withResv t p r).pair p = { (Laws.withResv s p r).pair p with resumed := m, delay := l } := by
    rw [pair_withResv_self, pair_withResv_self, hself]
  obtain ⟨ps, e, d, rfl, -⟩ := h
  exact ⟨_, e, d, rfl, hne, m, l, hp⟩

/-- A register written in a state of which the reservation alone was changed is the only register written. -/
theorem onlyRegister_of_withResv {s t : State} {p b : Nat} {r : Option Nat} {cd : RegIx} {x : Cap}
    (h : OnlyRegister (withResv s p r) t p b cd x) : OnlyRegister s t p b cd x := by
  obtain ⟨hreg, hregs, hbank, hbanks, haccs, hctxcfg, hbankw, hescc, hessc, hdet, hrun, hpairs⟩ := h
  rw [pair_withResv_self] at haccs hctxcfg hbankw hescc hessc hdet hrun
  rw [bank_withResv] at hbank
  simp only [bank_withResv] at hregs hbanks
  exact ⟨hreg, hregs, hbank, hbanks, haccs, hctxcfg, hbankw, hescc, hessc, hdet, hrun,
    fun q hq => (hpairs q hq).trans (pair_withResv_ne s p r hq)⟩

/-- What a load or conditional store leaves in memory and units where its body has brought them from s to w: the rest is the
reservation, one register, and sequencing. -/
theorem reservation_completes {i : Instr} {p b : Nat} {s w u : State} {n : SylInfo} {f : Body} {r : Option Nat} {cd : RegIx} {x : Cap}
    (hi : Issues i p b s) (hp : pairOf i = some p) (hn : infoOf i = some n) (hf : bodyOf i = some f)
    (hbody : f ((issued s p b).ctxFor p b n) (issued s p b) = .ok false u)
    (hw : AtRest s w) (hu : SameButSequencing p ((withResv w p r).setReg p b cd.toNat x) u) :
    ∃ t, exec i s = .next t ∧ SameButSequencing p ((withResv w p r).setReg p b cd.toNat x) t ∧ SameMemory w t ∧ SameUnits w t := by
  obtain ⟨hout, hquiet, hhb⟩ := hw
  have hresv := OwnEffect.updPair hout p (fun v => { v with resv := r })
  have hreg : OwnEffect w u := (hresv.trans (.updBank hresv.out_eq p b (fun k => k.setReg cd.toNat x))).trans hu.ownEffect
  have hend := sameButSequencing_ended hreg.out_eq n.load p
  obtain ⟨h1, h2, h3⟩ := hreg.atRest hquiet
  have hall := hreg.trans hend.ownEffect
  exact ⟨_, syllableCompletes i p b s u n f false hp hi hn hf hbody ⟨h1, h2, h3.trans hhb⟩, hu.trans hend, hall.sameMemory,
    hall.sameUnits⟩

section
variable {s t : State} {p b : Nat} {r : Option Nat} {cd : RegIx} {x : Cap}
  (h : SameButSequencing p ((withResv s p r).setReg p b cd.toNat x) t)
include h

theorem resv_of_reservation : (t.pair p).resv = r := by
  obtain ⟨m, l, hp⟩ := h.pair_self
  rw [hp]
  unfold State.setReg State.updBank
  rw [State.pair_setBank, if_pos rfl, pair_withResv_self]
  rfl

theorem reg_of_reservation : (t.bank p b).reg cd.toNat = if cd = 0 then nullCap else x := by
  rw [h.bank_eq, bank_setReg_same, reg_setReg_same]
  exact if_congr (toNat_eq_zero_iff cd) rfl rfl

end

/-! ## Loads that reserve their line (R152) -/

theorem doLoad_plain {s : State} (ht : s.tally.chans = []) (hl : s.latent = []) (ea n : Nat) :
    s.doLoad [⟨ea, ea, n, .dram, 0, true, none⟩] = (s.numAt .dram ea n, s) := by
  simp only [State.doLoad, if_neg (show (Space.dram ≠ Space.dev) by decide)]
  simp [State.readPieces, dramEnter_plain ht hl, State.numAt]

/-- The body of `LRC.D` on plain memory reserves the line and writes the double word. -/
theorem loadResD_plain {s : State} {c : SCtx} (cd : RegIx) {cs1 : RegIx} {a : Cap} (ha : s.src c.pair c.bank cs1.toNat = a)
    (hm : PlainAccess s c.pair c.bank a a.addr 8 [permLD]) (halign : a.addr % 8 = 0) :
    loadResD cd cs1 c s = .ok false (((withResv s c.pair (some (a.addr / 64))).setReg c.pair c.bank cd.toNat
      (intCap (BitVec.ofNat 64 (s.numAt .dram a.addr 8)))).loaded c [(cd.toNat, (s.bank c.pair c.bank).reg cd.toNat)]) := by
  have hplan := planAccess_plain hm .load false
  obtain ⟨hcheck, -, -, -, -, -, -, htally, hlat⟩ := hm
  unfold loadResD
  simp only [ha, hcheck, hplan, halign, Res.bind, doLoad_plain htally hlat]
  rfl

/-- The body of `LRC.C` on a plain granule reserves the line and writes what the load gives. -/
theorem loadResC_plain {s : State} {c : SCtx} (cd : RegIx) {cs1 : RegIx} {a x : Cap} (ha : s.src c.pair c.bank cs1.toNat = a)
    (hm : PlainAccess s c.pair c.bank a a.addr 16 [permLD]) (halign : a.addr % 16 = 0)
    (hload : s.capLoad (s.via c.pair c.bank) (a.has permLC) (plainPiece a.addr) = (x, s)) :
    loadResC cd cs1 c s = .ok false (((withResv s c.pair (some (a.addr / 64))).setReg c.pair c.bank cd.toNat x).loaded c
      [(cd.toNat, (s.bank c.pair c.bank).reg cd.toNat)]) := by
  have hplan := planCap_plain hm .load
  obtain ⟨hcheck, -⟩ := hm
  unfold loadResC
  simp only [ha, hcheck, hplan, halign, Res.bind, hload]
  rfl

/-- A load that reserves its line completes with the reservation, and changes no register but its own (R152). -/
theorem loadReserved_completes {i : Instr} {p b : Nat} {s : State} {n : SylInfo} {f : Body} {line : Nat} {cd : RegIx} {x : Cap}
    (hi : Issues i p b s) (hp : pairOf i = some p) (hn : infoOf i = some n) (hf : bodyOf i = some f) (hq : Quiet s)
    (hbody : f ((issued s p b).ctxFor p b n) (issued s p b) = .ok false
      (((withResv (issued s p b) p (some line)).setReg p b cd.toNat x).loaded ((issued s p b).ctxFor p b n)
        [(cd.toNat, ((issued s p b).bank p b).reg cd.toNat)])) :
    ∃ t, exec i s = .next t ∧ OnlyRegister s t p b cd x ∧ (t.pair p).resv = some line ∧ SameMemory s t ∧ SameUnits s t := by
  have hv := sameButSequencing_issued s p b
  obtain ⟨t, ht, hseq, hmemory, hunits⟩ := reservation_completes hi hp hn hf hbody (hv.atRest hq)
    (sameButSequencing_loaded (s := (withResv (issued s p b) p (some line)).setReg p b cd.toNat x) hv.out_eq _ _)
  exact ⟨t, ht, onlyRegister_of_withResv (onlyRegister_setReg (hv.withResv _) rfl hseq), resv_of_reservation hseq,
    SameMemory.trans hv.sameMemory hmemory, SameUnits.trans hv.sameUnits hunits⟩

/-! ## Stores on condition of the reservation (R153) -/

/-- The body of `SCC.D` on plain memory stores where the pair holds the line. -/
theorem storeCondD_plain {s : State} {c : SCtx} (cd : RegIx) {cs1 cs2 : RegIx} {a : Cap} {x : Word}
    (ha : s.src c.pair c.bank cs1.toNat = a) (hx : s.srcX c.pair c.bank cs2.toNat = x)
    (hm : PlainAccess s c.pair c.bank a a.addr 8 [permST]) (halign : a.addr % 8 = 0) :
    storeCondD cd cs1 cs2 c s = .ok false
      ((if (s.pair c.pair).resv == some (a.addr / 64) then s.dataWrite .dram a.addr (natBytes 8 x.toNat) else s).condEnd c cd
        ((s.pair c.pair).resv == some (a.addr / 64))) := by
  have hplan := planAccess_plain hm .store false
  obtain ⟨hcheck, -, -, -, -, -, -, htally, hlat⟩ := hm
  unfold storeCondD
  simp only [ha, hx, hcheck, hplan, halign, Res.bind, doStore_plain htally hlat]
  rfl

/-- The body of `SCC.C` on a plain granule stores where the pair holds the line. -/
theorem storeCondC_plain {s : State} {c : SCtx} (cd : RegIx) {cs1 cs2 : RegIx} {a v : Cap}
    (ha : s.src c.pair c.bank cs1.toNat = a) (hv : s.src c.pair c.bank cs2.toNat = v)
    (hm : PlainAccess s c.pair c.bank a a.addr 16 (storeNeed v)) (halign : a.addr % 16 = 0) :
    storeCondC cd cs1 cs2 c s = .ok false
      ((if (s.pair c.pair).resv == some (a.addr / 64) then s.capWrite .dram a.addr v else s).condEnd c cd
        ((s.pair c.pair).resv == some (a.addr / 64))) := by
  have hplan := planCap_plain hm (storeKind v)
  obtain ⟨hcheck, -, -, -, -, -, -, htally, hlat⟩ := hm
  unfold storeCondC
  simp only [ha, hv, hcheck, hplan, halign, Res.bind, capStore_plain htally hlat]
  rfl

theorem byteAt_of_maps {s t : State} (h : SameMaps s t) (a : Nat) : t.byteAt .dram a = s.byteAt .dram a := by
  unfold State.byteAt; rw [h.1]

theorem tagAt_of_maps {s t : State} (h : SameMaps s t) (a : Nat) : t.tagAt .dram a = s.tagAt .dram a := by
  unfold State.tagAt; rw [h.2.1]

/-- What a conditional store leaves, where w is the state in which its value is stored: with the reservation, what w holds and 0
in its register; without it, memory as it was and 1 there (R153). -/
theorem storeCond_completes {i : Instr} {p b : Nat} {s w : State} {n : SylInfo} {f : Body} {line : Nat} {cd : RegIx}
    (hi : Issues i p b s) (hp : pairOf i = some p) (hn : infoOf i = some n) (hf : bodyOf i = some f) (hq : Quiet s)
    (hw : AtRest s w) (hunits : SameUnits s w)
    (hbody : f ((issued s p b).ctxFor p b n) (issued s p b) = .ok false
      ((if ((issued s p b).pair p).resv == some line then w else issued s p b).condEnd ((issued s p b).ctxFor p b n) cd
        (((issued s p b).pair p).resv == some line))) :
    ∃ t, exec i s = .next t ∧ (t.pair p).resv = none ∧ SameUnits s t ∧
      ((s.pair p).resv = some line → (t.bank p b).reg cd.toNat = nullCap ∧ SameMaps w t) ∧
      ((s.pair p).resv ≠ some line → (t.bank p b).reg cd.toNat = (if cd = 0 then nullCap else intCap 1) ∧ SameMemory s t) := by
  have hv := sameButSequencing_issued s p b
  have hresv : ((issued s p b).pair p).resv = (s.pair p).resv := by
    obtain ⟨m, l, hself⟩ := hv.pair_self
    rw [hself]
  rw [hresv] at hbody
  by_cases hheld : (s.pair p).resv = some line
  · rw [beq_iff_eq.mpr hheld, if_pos rfl] at hbody
    obtain ⟨t, ht, hseq, hmemory, hunits'⟩ := reservation_completes (x := intCap 0) hi hp hn hf hbody hw (.refl hw.1)
    refine ⟨t, ht, resv_of_reservation hseq, SameUnits.trans hunits hunits', fun _ => ⟨?_, hmemory.1⟩, fun h => absurd hheld h⟩
    rw [reg_of_reservation hseq]
    exact ite_self nullCap
  · rw [beq_eq_false_iff_ne.mpr hheld, if_neg Bool.false_ne_true] at hbody
    obtain ⟨t, ht, hseq, hmemory, hunits'⟩ :=
      reservation_completes (x := intCap 1) hi hp hn hf hbody (hv.atRest hq) (.refl hv.out_eq)
    exact ⟨t, ht, resv_of_reservation hseq, SameUnits.trans hv.sameUnits hunits', fun h => absurd h hheld,
      fun _ => ⟨reg_of_reservation hseq, SameMemory.trans hv.sameMemory hmemory⟩⟩

section
variable {p b : Nat} {cd cs1 cs2 : RegIx} {s : State} (hq : Quiet s)
include hq

/-- `SCC.D` stores the low 64 bits of its register where the pair holds the line. -/
theorem sccD_completes {a : Cap} {x : Word} (ha : s.src p b cs1.toNat = a) (hx : s.srcX p b cs2.toNat = x)
    (hm : PlainAccess s p b a a.addr 8 [permST]) (halign : a.addr % 8 = 0) (hi : Issues (.sccD p cd cs1 cs2) p b s) :
    ∃ t, exec (.sccD p cd cs1 cs2) s = .next t ∧ (t.pair p).resv = none ∧ SameUnits s t ∧
      ((s.pair p).resv = some (a.addr / 64) → (t.bank p b).reg cd.toNat = nullCap ∧ t.numAt .dram a.addr 8 = x.toNat ∧
        SameBytesOutside s t a.addr 8 ∧ SameTagsOutside s t a.addr 8) ∧
      ((s.pair p).resv ≠ some (a.addr / 64) →
        (t.bank p b).reg cd.toNat = (if cd = 0 then nullCap else intCap 1) ∧ SameMemory s t) := by
  have hv := sameButSequencing_issued s p b
  have hrest := atRest_dataWrite (issued s p b) a.addr (natBytes 8 x.toNat) (hv.atRest hq)
  obtain ⟨hnum, hbytes, -, htags, -, hunits, -⟩ := stored_dataWrite (n := 8) (by decide) x hv (.refl hrest.1)
  obtain ⟨t, ht, hresv, hunits', hheld, hlost⟩ := storeCond_completes hi rfl rfl rfl hq hrest hunits
    (storeCondD_plain (c := (issued s p b).ctxFor p b _) cd ((src_issued s p b cs1.toNat).trans ha)
      ((srcX_issued s p b cs2.toNat).trans hx) (hv.plainAccess hm) halign)
  refine ⟨t, ht, hresv, hunits', fun h => ?_, hlost⟩
  obtain ⟨hreg, hmaps⟩ := hheld h
  exact ⟨hreg, (numAt_of_mem hmaps.1 _ _).trans (hnum.trans (Nat.mod_eq_of_lt x.isLt)),
    fun e he => (byteAt_of_maps hmaps e).trans (hbytes e he), fun e he => (tagAt_of_maps hmaps e).trans (htags e he)⟩

/-- `SCC.C` stores its register where the pair holds the line. -/
theorem sccC_completes {a v : Cap} (ha : s.src p b cs1.toNat = a) (hx : s.src p b cs2.toNat = v)
    (hm : PlainAccess s p b a a.addr 16 (storeNeed v)) (halign : a.addr % 16 = 0) (hi : Issues (.sccC p cd cs1 cs2) p b s) :
    ∃ t, exec (.sccC p cd cs1 cs2) s = .next t ∧ (t.pair p).resv = none ∧ SameUnits s t ∧
      ((s.pair p).resv = some (a.addr / 64) → (t.bank p b).reg cd.toNat = nullCap ∧ t.capAt .dram a.addr = v ∧
        SameBytesOutside s t a.addr 16 ∧ SameTagsOutside s t a.addr 16) ∧
      ((s.pair p).resv ≠ some (a.addr / 64) →
        (t.bank p b).reg cd.toNat = (if cd = 0 then nullCap else intCap 1) ∧ SameMemory s t) := by
  have hv := sameButSequencing_issued s p b
  have hrest : AtRest s ((issued s p b).capWrite .dram a.addr v) :=
    atRest_dataWrite (issued s p b) a.addr (natBytes 16 v.bits.toNat) (hv.atRest hq)
  obtain ⟨hcap, hbytes, htags, -, hunits, -⟩ := (capStored_capWrite (issued s p b) halign v).of_sequencing hv (.refl hrest.1)
  obtain ⟨t, ht, hresv, hunits', hheld, hlost⟩ := storeCond_completes hi rfl rfl rfl hq hrest hunits
    (storeCondC_plain (c := (issued s p b).ctxFor p b _) cd ((src_issued s p b cs1.toNat).trans ha)
      ((src_issued s p b cs2.toNat).trans hx) (hv.plainAccess hm) halign)
  refine ⟨t, ht, hresv, hunits', fun h => ?_, hlost⟩
  obtain ⟨hreg, hmaps⟩ := hheld h
  exact ⟨hreg, (capAt_of_maps hmaps _).trans hcap, fun e he => (byteAt_of_maps hmaps e).trans (hbytes e he),
    fun e he => (tagAt_of_maps hmaps e).trans (htags e he)⟩

end

end Sys2Proof.Laws

namespace Sys2Proof
open Sys2Proof.Machine Sys2Proof.Laws

/-- Settles O16: each body reserves, or stores where the reservation holds; what it stores is a data or capability store's. -/
theorem reservationPair : Obligations.ReservationPair := by
  rintro p b cd cs1 cs2 s a v x ha rfl rfl hq
  have hv := sameButSequencing_issued s p b
  have hsrc := (src_issued s p b cs1.toNat).trans ha.symm
  refine ⟨fun hm halign hi => ?_, fun hm halign htag hi => ?_, fun hm halign hi => sccD_completes hq ha.symm rfl hm halign hi,
    fun hm halign hi => sccC_completes hq ha.symm rfl hm halign hi⟩
  · have hbody := fun n => loadResD_plain (c := (issued s p b).ctxFor p b n) cd hsrc (hv.plainAccess hm) halign
    rw [numAt_of_mem hv.sameMemory.1.1] at hbody
    exact loadReserved_completes hi rfl rfl rfl hq (hbody _)
  · have huntagged : ((s.capAt .dram a.addr).tag && a.has permLC) = false := by
      rw [Bool.and_eq_false_iff]
      exact htag
    have hload := capLoad_issued_passes hm (fun ht hlc => absurd huntagged (by rw [ht, hlc]; decide))
    rw [huntagged] at hload
    exact loadReserved_completes hi rfl rfl rfl hq
      (loadResC_plain (c := (issued s p b).ctxFor p b _) cd hsrc (hv.plainAccess hm) halign hload)

end Sys2Proof
end

section
/-!
PROOFS. Ranges of plain memory, the return to another bank, and a bank that waits for a unit's answer (O31).
-/
namespace Sys2Proof.Laws
open Sys2Proof.Machine
open Sys2Proof (Instr)

/-! ## Ranges of plain memory (R147 item 4) -/

/-- The part of a plain range that lies in one page. -/
def dramPiece (h : Nat × Nat) : Piece := ⟨h.1, h.1, h.2, .dram, 0, true, none⟩

/-- A part [h.1, h.1 + h.2) that pair p reaches in DRAM. -/
def InDram (p : Nat) (h : Nat × Nat) : Prop := h.1 + h.2 ≤ 2 ^ 41 ∧ h.1 < 2 ^ 41 ∧ (isSentinel p = true → 0x80000 ≤ h.1)

theorem pairOk_rcuOff {s : State} (hrcu : s.rcuOn = false) (p : Nat) (task : Option Bank) (pa n : Nat) (k : RKind) :
    s.pairOk p task .dram pa n k = true := by
  unfold State.pairOk State.globalOk
  rw [hrcu]
  cases task <;> rfl

/-- DRAM in bare mode is translated to itself, Normal-WB, for loads and stores (R309). -/
theorem xlate_dram (s : State) {v : Via} {h : Nat × Nat} (hbare : v.ttbc % 2 = 0) (hdram : InDram v.pair h) {k : AKind}
    (hk : k = .load ∨ k = .store) : xlate s v k h.1 h.2 = .ok (dramPiece h) s := by
  obtain ⟨-, htop, hsen⟩ := hdram
  unfold xlate bareXlate
  rw [if_pos hbare, if_neg (by omega)]
  dsimp only
  rw [spaceOf_dram hsen htop]
  rcases hk with rfl | rfl <;> rfl

/-- The parts of a range in DRAM are permitted and translated one by one (R147). -/
theorem planParts_dram {s : State} {v : Via} (hbare : v.ttbc % 2 = 0) (hrcu : s.rcuOn = false) {k : AKind}
    (hk : k = .load ∨ k = .store) (ea size : Nat) : ∀ (l : List (Nat × Nat)), (∀ h ∈ l, InDram v.pair h) → ∀ upper,
    planParts v k false false ea size upper s l = .ok (l.map dramPiece) s
  | [], _, _ => rfl
  | h :: hs, hl, upper => by
    have hcheck : pieceCheck s v k false false ea size (dramPiece h) = none := by
      unfold pieceCheck
      rcases hk with rfl | rfl <;> simp [dramPiece, pairOk_rcuOff hrcu]
    unfold planParts
    rw [xlate_dram s hbare (hl h List.mem_cons_self) hk]
    dsimp only
    rw [hcheck]
    dsimp only
    rw [planParts_dram hbare hrcu hk ea size hs (fun x hx => hl x (List.mem_cons_of_mem _ hx))]
    rfl

theorem readPieces_dram {s : State} (ht : s.tally.chans = []) (hl : s.latent = []) : ∀ l : List (Nat × Nat),
    s.readPieces (l.map dramPiece) = (l.flatMap (fun h => s.bytesAt .dram h.1 h.2), s)
  | [] => rfl
  | h :: hs => by
    simp only [List.map_cons, State.readPieces, dramPiece, if_true, dramEnter_plain ht hl]
    rw [readPieces_dram ht hl hs]
    rfl

/-- The pages' parts of a range lie in it. -/
theorem mem_splitPages : ∀ (fuel ea n : Nat) (h : Nat × Nat), 0 < n → h ∈ splitPages ea n fuel →
    ea ≤ h.1 ∧ h.1 < ea + n ∧ h.1 + h.2 ≤ ea + n
  | 0, _, _, _, _, hmem => by simp [splitPages] at hmem
  | fuel + 1, ea, n, h, hn, hmem => by
    unfold splitPages at hmem
    dsimp only at hmem
    split at hmem
    · rw [List.mem_singleton] at hmem
      subst hmem
      dsimp only
      omega
    · rcases List.mem_cons.mp hmem with rfl | hrest
      · dsimp only
        omega
      · have hin := mem_splitPages fuel _ _ h (by omega) hrest
        omega

/-- With a part for every page that it meets, the parts' bytes are the range's. -/
theorem bytes_splitPages (s : State) : ∀ (fuel ea n : Nat), n + ea % 4096 ≤ 4096 * fuel →
    (splitPages ea n fuel).flatMap (fun h => s.bytesAt .dram h.1 h.2) = s.bytesAt .dram ea n
  | 0, ea, n, h => by
    obtain rfl : n = 0 := by omega
    rfl
  | fuel + 1, ea, n, h => by
    unfold splitPages
    dsimp only
    split
    · rw [List.flatMap_singleton]
    · rw [List.flatMap_cons, bytes_splitPages s fuel _ _ (by omega), ← bytesAt_add]
      congr 1
      omega

/-- A range of plain memory is planned, and its bytes read, without any effect (R147, R309). -/
theorem planRange_dram {s : State} {v : Via} {ea n : Nat} (hn : 0 < n) (hdram : InDram v.pair (ea, n)) (hbare : v.ttbc % 2 = 0)
    (hrcu : s.rcuOn = false) (ht : s.tally.chans = []) (hl : s.latent = []) :
    ∃ l : List (Nat × Nat), planRange s v .load ea n = .ok (l.map dramPiece) s ∧
      s.readPieces (l.map dramPiece) = (s.bytesAt .dram ea n, s) := by
  obtain ⟨htop, -, hsen⟩ := hdram
  have hparts : ∀ h ∈ splitPages ea n (n / 4096 + 2), InDram v.pair h := fun h hmem => by
    have hin := mem_splitPages _ _ _ h hn hmem
    dsimp only at htop hsen
    exact ⟨by omega, by omega, fun hs => Nat.le_trans (hsen hs) hin.1⟩
  refine ⟨splitPages ea n (n / 4096 + 2), planParts_dram hbare hrcu (.inl rfl) ea n _ hparts false, ?_⟩
  rw [readPieces_dram ht hl, bytes_splitPages s _ _ _ (by omega)]

/-! ## The return to a bank that resumes plainly (R264, R270) -/

theorem poisonAt_none {s : State} (h : s.poison = []) (ps : List Piece) : poisonAt s ps = none := by
  have hlines : ∀ x : Piece, (List.range (linesIn x.pa x.len)).filter (fun i => smGet (always false) s.poison (x.pa / 64 + i)) = [] :=
    fun x => by rw [h]; exact List.filter_eq_nil_iff.mpr fun i _ => Bool.false_ne_true
  unfold poisonAt
  simp [hlines]

/-- The region set of a task in plain memory is read without any effect where it breaks no rule of R327 (R270). -/
theorem regionRead_plain {s : State} {p : Nat} {e : TaskEntry} (hbare : e.ttbc.toNat % 2 = 0)
    (hdram : InDram p (e.tsb.addr + 0x400, 256)) (hbad : (regionOfBytes (s.bytesAt .dram (e.tsb.addr + 0x400) 256)).any taskDescBad = false)
    (hrcu : s.rcuOn = false) (ht : s.tally.chans = []) (hl : s.latent = []) (hpoison : s.poison = []) :
    ∃ ds, s.regionRead p e = .ok ds s := by
  have haddr : addrOf ((e.tsb.addr : Int) + 0x400) = e.tsb.addr + 0x400 := by
    obtain ⟨htop, -⟩ := hdram
    dsimp only at htop
    unfold addrOf
    omega
  obtain ⟨l, hplan, hread⟩ := planRange_dram (v := spillVia p e.ttbc.toNat) (by decide) hdram hbare hrcu ht hl
  refine ⟨regionOfBytes (s.bytesAt .dram (e.tsb.addr + 0x400) 256), ?_⟩
  unfold State.regionRead
  simp only [haddr, hplan, Res.bind, hread, poisonAt_none hpoison, hbad]
  rfl

/-- What a bank waits with: its state and its destination. -/
def SameWait (k k' : Bank) : Prop := k'.st = k.st ∧ k'.waitCd = k.waitCd

theorem SameWait.trans {k k' k'' : Bank} (h : SameWait k k') (h' : SameWait k' k'') : SameWait k k'' :=
  ⟨h'.1.trans h.1, h'.2.trans h.2⟩

/-- A mode write changes no bank's wait (R286). -/
theorem sameWait_applyShadow (v : Pair) (w : ShadowWrite) (e : Nat) : SameWait (v.bank e) ((applyShadow v w).bank e) := by
  have hset : ∀ k : Bank, SameWait (v.bank w.bank) k → SameWait (v.bank e) ((v.setBank w.bank k).bank e) := by
    intro k hk
    rw [Pair.bank_setBank]
    split
    · next he => rw [he]; exact hk
    · exact ⟨rfl, rfl⟩
  unfold applyShadow
  dsimp only
  cases w.reg
  · exact hset _ ⟨rfl, rfl⟩
  · exact hset _ ⟨rfl, rfl⟩
  · exact ⟨rfl, rfl⟩
  · exact hset _ ⟨rfl, rfl⟩
  · exact ⟨rfl, rfl⟩

theorem sameWait_flushShadow (v : Pair) (e : Nat) : SameWait (v.bank e) ((flushShadow v).bank e) := by
  have hfold : ∀ (l : List ShadowWrite) (u : Pair), SameWait (u.bank e) ((l.foldl applyShadow u).bank e) := fun l => by
    induction l with
    | nil => exact fun u => ⟨rfl, rfl⟩
    | cons w ws ih => exact fun u => (sameWait_applyShadow u w e).trans (ih _)
  exact hfold v.shadow v

/-- A bank switch changes the wait of no bank but the one that runs next. -/
theorem sameWait_switchPair (clk order : Nat) (v : Pair) {dest : Option Nat} {e : Nat} (h : dest ≠ some e) :
    SameWait (v.bank e) ((switchPair clk order v dest).bank e) := by
  unfold switchPair
  dsimp only
  rw [bank_of_banks (maskUpdate_banks_shadow _ _).1]
  cases dest with
  | none => exact sameWait_flushShadow v e
  | some o =>
    dsimp only
    rw [Pair.bank_setBank, if_neg (fun he => h (congrArg some he.symm))]
    exact sameWait_flushShadow v e

theorem ownEffect_switchTo {s : State} (hout : s.out = []) (p : Nat) (dest : Option Nat) : OwnEffect s (s.switchTo p dest) :=
  ⟨_, _, s.sec.dbgHalt, by rw [← hout]; rfl⟩

theorem sameWait_switchTo (s : State) (p : Nat) {dest : Option Nat} {e : Nat} (h : dest ≠ some e) :
    SameWait (s.bank p e) ((s.switchTo p dest).bank p e) := by
  unfold State.switchTo State.bank
  dsimp only
  rw [State.pair_updPair, if_pos rfl]
  exact sameWait_switchPair _ _ _ h

/-- A bank resumes plainly where its bank, the memory, and what makes an access plain are as they were. -/
theorem resumesPlainly_of_same {s t : State} {p o : Nat} (h : ResumesPlainly s p o) (hbank : t.bank p o = s.bank p o)
    (hmaps : SameMaps s t) (hrcu : t.rcuOn = s.rcuOn) (htally : t.tally = s.tally) : ResumesPlainly t p o := by
  obtain ⟨hmem, -, hpoison, hlatent, -⟩ := hmaps
  unfold ResumesPlainly at h ⊢
  simp only [hbank, hrcu, htally, hpoison, hlatent, bytesAt_of_mem hmem]
  exact h

/-- The return to a bank that resumes plainly changes pairs and dispatch records alone, and no wait of another bank. -/
theorem resumeBank_plain {s : State} {p o e : Nat} (hout : s.out = []) (hplain : ResumesPlainly s p o) (he : o ≠ e) :
    OwnEffect s (s.resumeBank p o) ∧ SameWait (s.bank p e) ((s.resumeBank p o).bank p e) := by
  have hdest : some o ≠ some e := fun h => he (Option.some.inj h)
  unfold State.resumeBank
  cases htask : (s.bank p o).task with
  | none => exact ⟨ownEffect_switchTo hout p _, sameWait_switchTo s p hdest⟩
  | some t =>
    obtain hnone | ⟨hentry, hrcu, htally, hlat, hpoison⟩ := hplain
    · rw [hnone] at htask; cases htask
    cases hent : (s.bank p o).entry with
    | none => rw [hent] at hentry; cases hentry
    | some te =>
      rw [hent] at hentry
      simp only [Option.any_some, Bool.and_eq_true, Bool.or_eq_true, Bool.not_eq_true', beq_iff_eq, decide_eq_true_eq] at hentry
      obtain ⟨⟨⟨⟨hbare, htop⟩, -⟩, hsen⟩, hbad⟩ := hentry
      obtain ⟨ds, hread⟩ := regionRead_plain hbare (p := p)
        ⟨by dsimp only; omega, by dsimp only; omega, fun hs => by
          rcases hsen with h | h
          · rw [hs] at h; cases h
          · dsimp only; omega⟩ hbad hrcu htally hlat hpoison
      have hat : s.entryAt p o t = (some te, s) := by unfold State.entryAt; rw [hent]
      simp only [hat, hread]
      have hupd := OwnEffect.updBank hout p o (fun k => { k with region := ds })
      refine ⟨hupd.trans (ownEffect_switchTo hupd.out_eq p _), SameWait.trans ?_ (sameWait_switchTo _ p hdest)⟩
      rw [State.bank_updBank, if_neg (fun h => he h.2.symm)]
      exact ⟨rfl, rfl⟩

theorem resumeCtx_plain {s : State} {p e : Nat} {prior : Option CtxRef} (hout : s.out = [])
    (hplain : ∀ o, prior = some (.bank o) → o ≠ e ∧ ResumesPlainly s p o) :
    OwnEffect s (s.resumeCtx p prior) ∧ SameWait (s.bank p e) ((s.resumeCtx p prior).bank p e) := by
  have hidle := ownEffect_switchTo hout p none
  have hwait := sameWait_switchTo s p (dest := none) (e := e) (by simp)
  unfold State.resumeCtx
  split
  · next o =>
    obtain ⟨hne, hbank⟩ := hplain o rfl
    exact resumeBank_plain hout hbank hne
  · next t =>
    refine ⟨hidle.trans (.updPair hidle.out_eq p _), hwait.trans ?_⟩
    unfold State.bank
    rw [State.pair_updPair, if_pos rfl]
    exact ⟨rfl, rfl⟩
  · exact ⟨hidle, hwait⟩

/-- The bank that a pair goes on with is another one, and resumes plainly. -/
theorem resumesNext_bank {s : State} {p b o : Nat} (h : ResumesNext s p b) (hprior : (s.bank p b).prior = some (.bank o)) :
    o ≠ b ∧ ResumesPlainly s p o := by
  unfold ResumesNext at h
  rw [hprior] at h
  exact h

/-- What a pair goes on with resumes plainly where banks, memory, and what makes an access plain are as they were. -/
theorem resumesNext_of_same {s t : State} {p b : Nat} (h : ResumesNext s p b) (hbank : ∀ o, t.bank p o = s.bank p o)
    (hmaps : SameMaps s t) (hrcu : t.rcuOn = s.rcuOn) (htally : t.tally = s.tally) : ResumesNext t p b := by
  unfold ResumesNext
  rw [hbank b]
  split
  · next o hprior =>
    obtain ⟨hne, hplain⟩ := resumesNext_bank h hprior
    exact ⟨hne, resumesPlainly_of_same hplain (hbank o) hmaps hrcu htally⟩
  · trivial

/-! ## A bank waits for a unit's answer (R170, R264, R368) -/

theorem updBank_bank_self (s : State) (p b : Nat) (f : Bank → Bank) : (s.updBank p b f).bank p b = f (s.bank p b) :=
  (State.bank_updBank s p p b b f).trans (if_pos ⟨rfl, rfl⟩)

theorem updBank_bank_ne (s : State) (p : Nat) {b e : Nat} (f : Bank → Bank) (h : e ≠ b) : (s.updBank p b f).bank p e = s.bank p e :=
  (State.bank_updBank s p p b e f).trans (if_neg fun hb => h hb.2)

/-- The end of a bundle moves `PCC` and counts a loop, and leaves what its bank waits with and goes back to (R165). -/
theorem retireBundle_eq (s : State) (c : SCtx) (k0 : Bank) (wroteLc : Bool) :
    ∃ f : Bank → Bank, s.retireBundle c k0 wroteLc = s.updBank c.pair c.bank f ∧
      ∀ k, SameWait k (f k) ∧ (f k).prior = k.prior := by
  refine ⟨_, rfl, fun k => ?_⟩
  dsimp only
  repeat' split
  all_goals exact ⟨⟨rfl, rfl⟩, rfl⟩

/-- A bank that waits for a unit: what it had asked for is kept, and only pairs and dispatch records change. -/
theorem unitWait_plain {s : State} {c : SCtx} {cd : RegIx} (hout : s.out = []) (hplain : ResumesNext s c.pair c.bank) :
    OwnEffect s (s.unitWait c cd) ∧ ((s.unitWait c cd).bank c.pair c.bank).st = .waiting ∧
      ((s.unitWait c cd).bank c.pair c.bank).waitCd = some cd.toNat := by
  obtain ⟨f, hretire, hf⟩ := retireBundle_eq s c (s.bank c.pair c.bank) false
  have hret := OwnEffect.updBank hout c.pair c.bank f
  have hask := hret.trans (.updBank hret.out_eq c.pair c.bank (fun k => { k with waitCd := some cd.toNat, ready := false }))
  unfold State.unitWait
  rw [hretire]
  dsimp only
  split
  · refine ⟨hask.trans (.updBank hask.out_eq _ _ _), ?_, ?_⟩
    · rw [updBank_bank_self]
    · rw [updBank_bank_self, updBank_bank_self]
  · unfold State.leaveChain
    have hleave := hask.trans (.updBank hask.out_eq c.pair c.bank (fun k => { k with st := .waiting, prior := none, ready := false }))
    have hnext : ∀ o, (s.bank c.pair c.bank).prior = some (.bank o) → o ≠ c.bank ∧ ResumesPlainly _ c.pair o := fun o hprior => by
      obtain ⟨hne, hres⟩ := resumesNext_bank hplain hprior
      refine ⟨hne, resumesPlainly_of_same hres ?_ hleave.sameMemory.1 rfl hleave.tally_eq⟩
      rw [updBank_bank_ne _ _ _ hne, updBank_bank_ne _ _ _ hne, updBank_bank_ne _ _ _ hne]
    obtain ⟨hown, hst, hcd⟩ := resumeCtx_plain (e := c.bank) hleave.out_eq hnext
    rw [updBank_bank_self, updBank_bank_self, show (f (s.bank c.pair c.bank)).prior = _ from (hf _).2]
    refine ⟨hleave.trans hown, hst.trans ?_, hcd.trans ?_⟩
    · rw [updBank_bank_self]
    · rw [updBank_bank_self, updBank_bank_self]

end Sys2Proof.Laws
end

section
/-!
PROOFS. Requests of a bank to the journal engine and the draw unit (O31).
-/
namespace Sys2Proof.Laws
open Sys2Proof.Machine
open Sys2Proof (Instr)

/-! ## What a request changes before its bank waits -/

/-- The registers in which the journal engine and the draw unit show their requests. -/
def showRegs : List Nat := [Addr.JRN_STATUS, Addr.DRW_STATUS, Addr.DRW_IDTAB]

/-- Two states that differ in the journal engine, the draw unit and the registers that show their requests alone. -/
def Asked (s t : State) : Prop :=
  (∃ d j w, t = { s with dev := d, jrn := j, draw := w }) ∧ ∀ a, a ∉ showRegs → t.rd a = s.rd a

namespace Asked

theorem refl (s : State) : Asked s s := ⟨⟨s.dev, s.jrn, s.draw, rfl⟩, fun _ _ => rfl⟩

theorem trans {s t u : State} (h : Asked s t) (k : Asked t u) : Asked s u := by
  obtain ⟨⟨d, j, w, rfl⟩, hr⟩ := h
  obtain ⟨⟨d', j', w', rfl⟩, kr⟩ := k
  exact ⟨⟨d', j', w', rfl⟩, fun a ha => (kr a ha).trans (hr a ha)⟩

theorem updJrn (s : State) (f : Jrn → Jrn) : Asked s (s.updJrn f) := ⟨⟨s.dev, _, s.draw, rfl⟩, fun _ _ => rfl⟩

theorem updDraw (s : State) (f : Draw → Draw) : Asked s (s.updDraw f) := ⟨⟨s.dev, s.jrn, _, rfl⟩, fun _ _ => rfl⟩

theorem setFld (s : State) {a : Nat} (lo w v : Nat) (h : a ∈ showRegs) : Asked s (s.setFld a lo w v) :=
  ⟨⟨_, s.jrn, s.draw, rfl⟩, fun e he => by
    unfold State.setFld
    rw [State.rd_wr, if_neg]
    rintro rfl
    exact he h⟩

theorem jrnShow (s : State) : Asked s s.jrnShow := (setFld s _ _ _ (by decide)).trans (setFld _ _ _ _ (by decide))

theorem drawShow (s : State) : Asked s s.drawShow :=
  ((setFld s _ _ _ (by decide)).trans (setFld _ _ _ _ (by decide))).trans (setFld _ _ _ _ (by decide))

theorem jrnRequest (s : State) (r : JReq) : Asked s (s.jrnRequest r) := (updJrn s _).trans (jrnShow _)

theorem drawAsk (s : State) (r : DrawReq) : Asked s (s.drawAsk r) := (updDraw s _).trans (drawShow _)

theorem signStart (s : State) : Asked s s.signStart := by
  unfold State.signStart
  dsimp only
  split
  · exact refl s
  split
  · exact (updJrn s _).trans (jrnShow _)
  · exact refl s

theorem sealRequest (s : State) (i : JIssuer) : Asked s (s.sealRequest i) := (updJrn s _).trans (signStart _)

variable {s t : State} (h : Asked s t)
include h

theorem sameMemory : SameMemory s t := by obtain ⟨⟨d, j, w, rfl⟩, -⟩ := h; exact ⟨SameMaps.refl _, rfl⟩
theorem bank_eq (p b : Nat) : t.bank p b = s.bank p b := by obtain ⟨⟨d, j, w, rfl⟩, -⟩ := h; rfl
theorem tally_eq : t.tally = s.tally := by obtain ⟨⟨d, j, w, rfl⟩, -⟩ := h; rfl
theorem rcuOn_eq : t.rcuOn = s.rcuOn := by unfold State.rcuOn; rw [fld_of_rd (h.2 _ (by decide))]

theorem atRest (hout : s.out = []) (hq : Quiet s) : AtRest s t := by
  obtain ⟨⟨d, j, w, rfl⟩, hr⟩ := h
  refine ⟨hout, quiet_of_rd hq rfl rfl fun a ha => hr a ?_, ?_⟩
  · revert a; decide
  · unfold State.hbStatus State.pwrState
    rw [fld_of_rd (hr Addr.PCI_CTRL (by decide)), fld_of_rd (hr Addr.PWR_STATUS (by decide))]
    rfl

end Asked

/-- What a request that makes its bank wait leaves, where u is the state in which the request is made: u's units, the bank's wait,
and memory as it was (R170, R264). -/
theorem ask_completes {i : Instr} {p b : Nat} {s u : State} {n : SylInfo} {f : Body} {cd : RegIx} (hi : Issues i p b s)
    (hp : pairOf i = some p) (hn : infoOf i = some n) (hf : bodyOf i = some f) (hq : Quiet s) (hnext : ResumesNext s p b)
    (hask : Asked (issued s p b) u)
    (hbody : f ((issued s p b).ctxFor p b n) (issued s p b) = .ok true (u.unitWait ((issued s p b).ctxFor p b n) cd)) :
    ∃ t, exec i s = .next t ∧ t.jrn = u.jrn ∧ t.draw = u.draw ∧ (t.bank p b).st = .waiting ∧
      (t.bank p b).waitCd = some cd.toNat ∧ SameMemory s t := by
  have hv := sameButSequencing_issued s p b
  obtain ⟨-, hquiet, hhb⟩ := hv.atRest hq
  obtain ⟨hout, hquiet', hhb'⟩ := hask.atRest hv.out_eq hquiet
  have hmemory := SameMemory.trans hv.sameMemory hask.sameMemory
  have hresume : ResumesNext u p b := resumesNext_of_same hnext (fun o => (hask.bank_eq p o).trans (hv.bank_eq p o)) hmemory.1
    (hask.rcuOn_eq.trans hv.rcuOn_eq) (hask.tally_eq.trans hv.tally_eq)
  obtain ⟨hown, hst, hcd⟩ := unitWait_plain (c := (issued s p b).ctxFor p b n) (cd := cd) hout hresume
  obtain ⟨hout'', hquiet'', hhb''⟩ := hown.atRest hquiet'
  have hend := sameButSequencing_ended hout'' n.load p
  obtain ⟨-, -, -, -, -, -, hjrn, hdraw, -⟩ := SameUnits.trans hown.sameUnits hend.sameUnits
  refine ⟨_, syllableCompletes i p b s _ n f true hp hi hn hf hbody ⟨hout'', hquiet'', hhb''.trans (hhb'.trans hhb)⟩, hjrn, hdraw,
    ?_, ?_, SameMemory.trans hmemory (SameMemory.trans hown.sameMemory hend.sameMemory)⟩
  · rw [hend.bank_eq]; exact hst
  · rw [hend.bank_eq]; exact hcd

theorem lazyLeave_none {s : State} {c : SCtx} (hlazy : (s.bank c.pair c.bank).lazy = false)
    (hlzs : (s.bank c.pair c.bank).lzs = false) : s.lazyLeave c = .ok () s := by
  unfold State.lazyLeave State.lazyComplete
  dsimp only
  rw [hlazy, hlzs]
  exact ite_self _

theorem gen_issued (s : State) (p b : Nat) : ((issued s p b).pair p).gen = (s.pair p).gen := by
  obtain ⟨m, l, hself⟩ := (sameButSequencing_issued s p b).pair_self
  rw [hself]

/-- The answer to a request goes to the task that the bank ran before the command (R277). -/
theorem issuer_issued (s : State) (p b : Nat) (n : SylInfo) :
    (issued s p b).issuer ((issued s p b).ctxFor p b n) = .bank p b ((s.bank p b).task.getD 0) (s.pair p).gen := by
  show JIssuer.bank p b (((issued s p b).bank p b).task.getD 0) ((issued s p b).pair p).gen = _
  rw [gen_issued, (sameButSequencing_issued s p b).bank_eq]

namespace SameButSequencing
variable {p : Nat} {s t : State} (h : SameButSequencing p s t)
include h

theorem plainSpan {q b ea n : Nat} {a : Cap} {need : List Nat} (k : PlainSpan s q b a ea n need) : PlainSpan t q b a ea n need := by
  unfold PlainSpan at k ⊢
  rwa [h.bank_eq, h.rcuOn_eq, h.tally_eq, h.latent_eq]

theorem jStatus_eq : t.jStatus = s.jStatus := by obtain ⟨ps, e, d, rfl, -⟩ := h; rfl
theorem jsealStatus_eq : t.jsealStatus = s.jsealStatus := by obtain ⟨ps, e, d, rfl, -⟩ := h; rfl
theorem standby_eq : t.standby = s.standby := by obtain ⟨ps, e, d, rfl, -⟩ := h; rfl
theorem jrn_eq : t.jrn = s.jrn := by obtain ⟨ps, e, d, rfl, -⟩ := h; rfl
theorem draw_eq : t.draw = s.draw := by obtain ⟨ps, e, d, rfl, -⟩ := h; rfl

end SameButSequencing

/-! ## JAPP (R368) -/

section
variable {s : State} {c : SCtx} (cd : RegIx) {cs1 cs2 : RegIx} {a : Cap} {x : Nat} (ha : s.src c.pair c.bank cs1.toNat = a)
  (hx : (s.srcX c.pair c.bank cs2.toNat).toNat = x) (hm : PlainSpan s c.pair c.bank a a.addr (x % 65536) [permJA, permLD])
  (hlt : x < 2 ^ 32)
include ha hx hm hlt

/-- With its payload planned and read without any effect, `JAPP` goes by the status of its request. -/
theorem japp_planned : ∃ ps, s.readPieces ps = (s.bytesAt .dram a.addr (x % 65536), s) ∧
    (∀ k, s.jappStatus c.pair (x % 65536) (x / 65536) = some k → japp cd cs1 cs2 c s = .ok false (s.unitStatus c cd k)) ∧
    (s.jappStatus c.pair (x % 65536) (x / 65536) = none → japp cd cs1 cs2 c s = jappAsk c cd (x / 65536) ps s) := by
  obtain ⟨hcheck, htop, hsen, hbare, hrcu, htally, hlat⟩ := hm
  obtain ⟨ps, hplan, hread⟩ : ∃ ps, (if x % 65536 = 0 then Res.ok [] s
      else planRange s (s.via c.pair c.bank) .load a.addr (x % 65536)) = .ok ps s ∧
      s.readPieces ps = (s.bytesAt .dram a.addr (x % 65536), s) := by
    by_cases hlen : x % 65536 = 0
    · exact ⟨[], if_pos hlen, by rw [hlen]; rfl⟩
    · obtain ⟨l, hplan, hread⟩ := planRange_dram (v := s.via c.pair c.bank) (ea := a.addr) (n := x % 65536) (by omega)
        ⟨htop, by dsimp only; omega, hsen⟩ hbare hrcu htally hlat
      exact ⟨_, (if_neg hlen).trans hplan, hread⟩
  have hlen : bitsAt x 0 16 = x % 65536 := by unfold bitsAt; simp
  have htyp : bitsAt x 16 16 = x / 65536 := by unfold bitsAt; omega
  have hhigh : bitsAt x 32 32 = 0 := by unfold bitsAt; omega
  refine ⟨ps, hread, fun k hk => ?_, fun hk => ?_⟩
  all_goals
    unfold japp
    simp only [ha, hx, hlen, htyp, hhigh, hcheck, hplan, Res.bind, hk]
    rfl

/-- The request of `JAPP`: its payload's bytes, and its bank waits. -/
theorem japp_requests (hst : s.jappStatus c.pair (x % 65536) (x / 65536) = none) (hroom : s.jrn.queue.length < 1024)
    (hlazy : (s.bank c.pair c.bank).lazy = false) (hlzs : (s.bank c.pair c.bank).lzs = false) :
    japp cd cs1 cs2 c s = .ok true ((s.jrnRequest
      ⟨x / 65536, pairCode c.pair, s.bytesAt .dram a.addr (x % 65536), s.issuer c⟩).unitWait c cd) := by
  obtain ⟨ps, hread, -, hask⟩ := japp_planned cd ha hx hm hlt
  rw [hask hst]
  unfold jappAsk
  rw [if_neg (by omega), lazyLeave_none hlazy hlzs]
  simp only [Res.bind, hread]

end

/-- A request of accepted length and type has no status where the journal takes requests (R362, R368). -/
theorem jappStatus_none {s : State} {p len typ : Nat} (hlen : len ≤ 4032) (htyp : typ < if isSentinel p then 0xF000 else 0xE000)
    (hstandby : s.standby = false ∨ isSentinel p = true) (hst : s.jStatus = none) : s.jappStatus p len typ = none := by
  unfold State.jappStatus
  rw [if_neg (by omega), if_neg (by omega), if_neg, hst]
  rcases hstandby with h | h <;> simp [h]

theorem jappStatus_long (s : State) (p typ : Nat) {len : Nat} (hlen : 4032 < len) : s.jappStatus p len typ = some 3 := if_pos hlen

/-! ## JSEAL (R369) -/

/-- `JSEAL` asks for a signing, and its bank waits. -/
theorem jseal_requests {s : State} {c : SCtx} (cd : RegIx) {cs1 : RegIx} (hcheck : jsealCheck (s.src c.pair c.bank cs1.toNat) = none)
    (hst : s.jsealStatus = none) (hlazy : (s.bank c.pair c.bank).lazy = false) (hlzs : (s.bank c.pair c.bank).lzs = false) :
    jseal cd cs1 c s = .ok true ((s.sealRequest (s.issuer c)).unitWait c cd) := by
  unfold jseal
  rw [hcheck, hst, lazyLeave_none hlazy hlzs]
  rfl

/-- A signing takes no request from the queue and no entry from the ring (R365). -/
theorem jrn_sealRequest (s : State) (i : JIssuer) :
    (s.sealRequest i).jrn.queue = s.jrn.queue ∧ (s.sealRequest i).jrn.ring = s.jrn.ring := by
  unfold State.sealRequest State.signStart
  dsimp only
  repeat' split
  all_goals exact ⟨rfl, rfl⟩

/-! ## DRAW (R395, R397) -/

/-- A destination inside one page of plain DRAM is one part (R395). -/
theorem drawPages_plain {s : State} {c : SCtx} {ea n : Nat} (hdram : InDram c.pair (ea, n))
    (hbare : (s.bank c.pair c.bank).ttbc.toNat % 2 = 0) (hrcu : s.rcuOn = false) : drawPages c s [(ea, n)] = .ok [(ea, n)] s := by
  have hx := xlate_dram s (v := s.via c.pair c.bank) hbare hdram (.inr rfl)
  dsimp only at hx
  unfold drawPages
  simp only [hx, dramPiece, pairOk_rcuOff hrcu]
  rfl

/-- The destination of a draw of k double words through d: permitted, aligned, inside one page of plain DRAM (R395). -/
def PlainDest (s : State) (p b : Nat) (d : Cap) (k : Nat) : Prop :=
  checkAccess d d.addr (8 * k) [permST] = none ∧ d.addr % 8 = 0 ∧ 0 < k ∧ d.addr % 4096 + 8 * k ≤ 4096 ∧
    InDram p (d.addr, 8 * k) ∧ (s.bank p b).ttbc.toNat % 2 = 0 ∧ s.rcuOn = false

theorem SameButSequencing.plainDest {p q b k : Nat} {s t : State} {d : Cap} (h : SameButSequencing p s t) (hm : PlainDest s q b d k) :
    PlainDest t q b d k := by
  unfold PlainDest at hm ⊢
  rwa [h.bank_eq, h.rcuOn_eq]

/-- What `DRAW` asks for: id from x4, the size of the range from x5, the count and the kind from x6 (R395). -/
def drawRequest (s : State) (p b : Nat) (cd : RegIx) (d : Cap) : DrawReq :=
  let y := (s.srcX p b 6).toNat
  ⟨p, b, (s.bank p b).task.getD 0, (s.pair p).gen, cd.toNat, (s.srcX p b 4).toNat, (s.srcX p b 5).toNat, y % 65536, y.testBit 16,
    [(d.addr, 8 * (y % 65536))]⟩

/-- The request of `DRAW` names its operands and the destination's physical address, and its bank waits. -/
theorem drawSyl_requests {s : State} {c : SCtx} (cd : RegIx) {cs1 cs2 : RegIx} {d : Cap} (hd : s.src c.pair c.bank cs2.toNat = d)
    (hdraw : drawCheck (s.src c.pair c.bank cs1.toNat) (s.srcX c.pair c.bank 4).toNat = none)
    (hlt : (s.srcX c.pair c.bank 6).toNat < 2 ^ 17) (hdest : PlainDest s c.pair c.bank d ((s.srcX c.pair c.bank 6).toNat % 65536))
    (hroom : s.draw.queue.length < 64) (hlazy : (s.bank c.pair c.bank).lazy = false) (hlzs : (s.bank c.pair c.bank).lzs = false) :
    drawSyl cd cs1 cs2 c s = .ok true ((s.drawAsk (drawRequest s c.pair c.bank cd d)).unitWait c cd) := by
  obtain ⟨hcheck, halign, hpos, hpage, hdram, hbare, hrcu⟩ := hdest
  unfold drawSyl drawRequest
  generalize (s.srcX c.pair c.bank 6).toNat = y at *
  have hcount : bitsAt y 0 16 = y % 65536 := by unfold bitsAt; simp
  have hhigh : bitsAt y 17 47 = 0 := by unfold bitsAt; omega
  have hsplit : splitPages d.addr (8 * (y % 65536)) (8 * (y % 65536) / 4096 + 2) = [(d.addr, 8 * (y % 65536))] := by
    unfold splitPages
    exact if_pos (by omega)
  simp only [hd, hdraw, hcheck, hcount, hhigh, halign, if_neg (Nat.ne_of_gt hpos), hsplit, drawPages_plain hdram hbare hrcu, Res.bind,
    if_neg (Nat.not_le.mpr hroom), lazyLeave_none hlazy hlzs]
  rfl

theorem drawRequest_issued (s : State) (p b : Nat) (cd : RegIx) (d : Cap) :
    drawRequest (issued s p b) p b cd d = drawRequest s p b cd d := by
  unfold drawRequest
  rw [(sameButSequencing_issued s p b).bank_eq, gen_issued, srcX_issued, srcX_issued, srcX_issued]

/-! ## The three syllables as commands -/

section
variable {p b : Nat} {cd cs1 cs2 : RegIx} {s : State} (hq : Quiet s)
include hq

/-- `JAPP` of a payload that is too long answers at once (R362). -/
theorem japp_answers_long {x : Nat} (hx : (s.srcX p b cs2.toNat).toNat = x)
    (hm : PlainSpan s p b (s.src p b cs1.toNat) (s.src p b cs1.toNat).addr (x % 65536) [permJA, permLD]) (hlt : x < 2 ^ 32)
    (hlen : 4032 < x % 65536) (hi : Issues (.japp p cd cs1 cs2) p b s) :
    exec (.japp p cd cs1 cs2) s = .next (intDone s p b cd 3 noFlags) := by
  have hv := sameButSequencing_issued s p b
  obtain ⟨ps, -, hanswer, -⟩ := japp_planned (c := (issued s p b).ctxFor p b _) cd (src_issued s p b cs1.toNat)
    ((congrArg BitVec.toNat (srcX_issued s p b cs2.toNat)).trans hx) (hv.plainSpan hm) hlt
  rw [intDone_noFlags]
  exact syllableCompletes _ p b s _ _ _ false rfl hi rfl rfl (hanswer 3 (jappStatus_long _ _ _ hlen)) (hv.atRest hq)

variable (hlazy : (s.bank p b).lazy = false) (hlzs : (s.bank p b).lzs = false) (hnext : ResumesNext s p b)
include hlazy hlzs hnext

/-- `JAPP` gives its request to the journal engine (R368). -/
theorem japp_completes {x : Nat} (hx : (s.srcX p b cs2.toNat).toNat = x)
    (hm : PlainSpan s p b (s.src p b cs1.toNat) (s.src p b cs1.toNat).addr (x % 65536) [permJA, permLD]) (hlt : x < 2 ^ 32)
    (hst : (issued s p b).jappStatus p (x % 65536) (x / 65536) = none) (hroom : s.jrn.queue.length < 1024)
    (hi : Issues (.japp p cd cs1 cs2) p b s) :
    ∃ t, exec (.japp p cd cs1 cs2) s = .next t ∧
      t.jrn.queue = s.jrn.queue ++ [⟨x / 65536, pairCode p, s.bytesAt .dram (s.src p b cs1.toNat).addr (x % 65536),
        .bank p b ((s.bank p b).task.getD 0) (s.pair p).gen⟩] ∧
      (t.bank p b).st = .waiting ∧ (t.bank p b).waitCd = some cd.toNat ∧ SameMemory s t := by
  have hv := sameButSequencing_issued s p b
  have hbank := hv.bank_eq p b
  obtain ⟨t, ht, hjrn, -, hwait, hcd, hmemory⟩ := ask_completes hi rfl rfl rfl hq hnext (Asked.jrnRequest _ _)
    (japp_requests (c := (issued s p b).ctxFor p b _) cd (src_issued s p b cs1.toNat)
      ((congrArg BitVec.toNat (srcX_issued s p b cs2.toNat)).trans hx) (hv.plainSpan hm) hlt hst (by rw [hv.jrn_eq]; exact hroom)
      ((congrArg Bank.lazy hbank).trans hlazy) ((congrArg Bank.lzs hbank).trans hlzs))
  refine ⟨t, ht, ?_, hwait, hcd, hmemory⟩
  rw [hjrn, issuer_issued, bytesAt_of_mem hv.sameMemory.1.1, ← hv.jrn_eq]
  rfl

/-- `JSEAL` asks the journal engine for a signing (R369). -/
theorem jseal_completes (hcheck : jsealCheck (s.src p b cs1.toNat) = none) (hst : s.jsealStatus = none)
    (hi : Issues (.jseal p cd cs1) p b s) :
    ∃ t, exec (.jseal p cd cs1) s = .next t ∧ (t.bank p b).st = .waiting ∧ (t.bank p b).waitCd = some cd.toNat ∧
      t.jrn.queue = s.jrn.queue ∧ t.jrn.ring = s.jrn.ring ∧ SameMemory s t := by
  have hv := sameButSequencing_issued s p b
  have hbank := hv.bank_eq p b
  obtain ⟨t, ht, hjrn, -, hwait, hcd, hmemory⟩ := ask_completes hi rfl rfl rfl hq hnext (Asked.sealRequest _ _)
    (jseal_requests (c := (issued s p b).ctxFor p b _) cd ((congrArg jsealCheck (src_issued s p b cs1.toNat)).trans hcheck)
      (hv.jsealStatus_eq.trans hst) ((congrArg Bank.lazy hbank).trans hlazy) ((congrArg Bank.lzs hbank).trans hlzs))
  obtain ⟨hqueue, hring⟩ := jrn_sealRequest (issued s p b) ((issued s p b).issuer ((issued s p b).ctxFor p b _))
  rw [hv.jrn_eq] at hqueue hring
  exact ⟨t, ht, hwait, hcd, (congrArg Jrn.queue hjrn).trans hqueue, (congrArg Jrn.ring hjrn).trans hring, hmemory⟩

/-- `DRAW` gives its request to the draw unit (R397). -/
theorem draw_completes (hdraw : drawCheck (s.src p b cs1.toNat) (s.srcX p b 4).toNat = none) (hlt : (s.srcX p b 6).toNat < 2 ^ 17)
    (hdest : PlainDest s p b (s.src p b cs2.toNat) ((s.srcX p b 6).toNat % 65536)) (hroom : s.draw.queue.length < 64)
    (hi : Issues (.draw p cd cs1 cs2) p b s) :
    ∃ t, exec (.draw p cd cs1 cs2) s = .next t ∧ t.draw.queue = s.draw.queue ++ [drawRequest s p b cd (s.src p b cs2.toNat)] ∧
      (t.bank p b).st = .waiting ∧ (t.bank p b).waitCd = some cd.toNat ∧ SameMemory s t := by
  have hv := sameButSequencing_issued s p b
  have hbank := hv.bank_eq p b
  have hsrc := src_issued s p b
  have hsrcX := srcX_issued s p b
  obtain ⟨t, ht, -, hunit, hwait, hcd, hmemory⟩ := ask_completes hi rfl rfl rfl hq hnext (Asked.drawAsk _ _)
    (drawSyl_requests (c := (issued s p b).ctxFor p b _) cd (hsrc cs2.toNat)
      ((congrArg₂ drawCheck (hsrc cs1.toNat) (congrArg BitVec.toNat (hsrcX 4))).trans hdraw)
      (show ((issued s p b).srcX p b 6).toNat < 2 ^ 17 by rw [hsrcX]; exact hlt)
      (show PlainDest (issued s p b) p b _ (((issued s p b).srcX p b 6).toNat % 65536) by rw [hsrcX]; exact hv.plainDest hdest)
      (by rw [hv.draw_eq]; exact hroom) ((congrArg Bank.lazy hbank).trans hlazy) ((congrArg Bank.lzs hbank).trans hlzs))
  refine ⟨t, ht, ?_, hwait, hcd, hmemory⟩
  rw [hunit, ← drawRequest_issued s p b, ← hv.draw_eq]
  rfl

end

end Sys2Proof.Laws

namespace Sys2Proof
open Sys2Proof.Machine Sys2Proof.Laws

/-- Settles O31: each body makes its request and leaves its bank waiting, and what the pair goes on with resumes plainly. -/
theorem journalAndDrawSyllables : Obligations.JournalAndDrawSyllables := by
  rintro p b cd cs1 cs2 s a d x id n y rfl rfl rfl rfl rfl rfl hq hlazy hlzs hnext
  have hv := sameButSequencing_issued s p b
  refine ⟨fun hm hlt hlen htyp hstandby hst hroom hi => ?_, fun hm hlt hlen hi => japp_answers_long hq rfl hm hlt hlen hi,
    fun hcheck hst hi => jseal_completes hq hlazy hlzs hnext hcheck hst hi,
    fun hdraw hcheck hlt hpos halign hpage htop hsen hbare hrcu hroom hi => ?_⟩
  · exact japp_completes hq hlazy hlzs hnext rfl hm hlt
      (jappStatus_none hlen htyp (hv.standby_eq ▸ hstandby) (hv.jStatus_eq.trans hst)) hroom hi
  · exact draw_completes hq hlazy hlzs hnext hdraw hlt
      ⟨hcheck, halign, hpos, hpage, ⟨htop, by dsimp only; omega, hsen⟩, hbare, hrcu⟩ hroom hi

end Sys2Proof
end

section
/-!
PROOFS. Fixed-point sums, rounding and division in registers: one rounding and one fit for each syllable (O19 to O21).
-/
namespace Sys2Proof.Laws
open Sys2Proof.Machine
open Sys2Proof (Instr)

/-! ## Rounding -/

/-- `rnd` rounds as R178 says. -/
theorem roundedTo_rnd (n : Int) {d q : Nat} (hd : 0 < d) (hq : 0 < q) (m : Nat) :
    RoundedTo n d q m (rnd n d q m).1 (rnd n d q m).2.1 (rnd n d q m).2.2 := by
  have hpos : (0 : Int) < d * q := by positivity
  have hdiv : n - n / (d * q) * (d * q) = n % (d * q) := by rw [Int.emod_def, mul_comm]
  refine ⟨n / (d * q), n % (d * q), (Int.ediv_mul_add_emod n (d * q)).symm, Int.emod_nonneg _ hpos.ne', Int.emod_lt_of_pos _ hpos,
    fun hf => ?_, fun hf => ?_⟩
  · simp only [rnd, hdiv, if_pos hf, and_self]
  · simp only [rnd, hdiv, if_neg hf]
    refine ⟨trivial, trivial, ?_, ?_, ?_, ?_, ?_⟩
    case refine_1 | refine_2 =>
      rintro rfl
      simp only [← Bool.decide_and, ← Bool.decide_or, ← decide_not, decide_eq_true_eq, ite_not, one_ne_zero, if_true, if_false]
    case refine_3 =>
      have hsign (x y : Int) : (if n < 0 then x else y) = if 0 ≤ n then y else x := by simp only [← not_le, ite_not]
      rintro (rfl | rfl) <;> simp [hsign]
    case refine_4 | refine_5 => rintro rfl; simp

/-- Where the quantum exceeds twice the value, the value lies between 0 and half a quantum, and the denominator does not matter. -/
theorem rnd_congr_den {n : Int} {d e q : Nat} (m : Nat) (hd : 2 * |n| < (d : Int) * q) (he : 2 * |n| < (e : Int) * q) :
    rnd n d q m = rnd n e q m := by
  simp only [rnd]
  generalize (d : Int) * q = D at *
  generalize (e : Int) * q = E at *
  rcases le_or_gt 0 n with hn | hn
  · rw [abs_of_nonneg hn] at hd he
    rw [Int.ediv_eq_zero_of_lt hn (show n < D by omega), Int.ediv_eq_zero_of_lt hn (show n < E by omega)]
    simp [hd, he]
  · rw [abs_of_neg hn] at hd he
    have hquot {a : Int} (ha : 2 * -n < a) : n / a = -1 :=
      le_antisymm (Int.le_of_lt_add_one (Int.ediv_lt_of_lt_mul (by omega) (by omega)))
        ((Int.le_ediv_iff_mul_le (by omega)).2 (by omega))
    have hrem {a : Int} (ha : 2 * -n < a) : n - -1 * a ≠ 0 ∧ ¬ 2 * (n - -1 * a) < a ∧ 2 * (n - -1 * a) ≠ a := by omega
    obtain ⟨hd0, hdlt, hdeq⟩ := hrem hd
    obtain ⟨he0, helt, heeq⟩ := hrem he
    simp only [hquot hd, hquot he, hd0, hdlt, hdeq, he0, helt, heeq]

/-- An accumulator shifted by more than 300 places rounds as one shifted by 300 does (R186). -/
theorem rnd_shiftDen (a : AccWord) (s : Nat) {q : Nat} (hq : 0 < q) (m : Nat) :
    rnd a.toInt (shiftDen s) q m = rnd a.toInt (2 ^ s) q m := by
  unfold shiftDen
  rcases Nat.le_total s 300 with hs | hs
  · rw [Nat.min_eq_left hs]
  · have hsmall : ∀ t, 300 ≤ t → 2 * |a.toInt| < ((2 ^ t : Nat) : Int) * q := fun t ht => by
      have habs : |a.toInt| ≤ 2 ^ 143 := abs_le.2 ⟨BitVec.le_toInt a, (BitVec.toInt_lt (x := a)).le⟩
      calc 2 * |a.toInt| < (2 ^ 200 : Int) := by omega
        _ ≤ ((2 ^ t : Nat) : Int) := by exact_mod_cast Nat.pow_le_pow_right (by decide) (le_trans (by decide) ht)
        _ ≤ ((2 ^ t : Nat) : Int) * q := le_mul_of_one_le_right (by positivity) (by omega)
    rw [Nat.min_eq_right hs]
    exact rnd_congr_den m (hsmall 300 le_rfl) (hsmall s hs)

theorem bkq_pos {k : Bank} (hbkq : k.bkq ≠ 0) : 0 < k.bkq.toNat :=
  Nat.pos_of_ne_zero fun h => hbkq (BitVec.eq_of_toNat_eq h)

theorem qr_pos {k : Bank} (hbkq : k.bkq ≠ 0) : 0 < k.qr := by
  unfold Bank.qr
  split
  · exact bkq_pos hbkq
  · exact Nat.one_pos

/-! ## The range stage with a quantum -/

/-- A rounded value is fitted as R179 says, whatever its quantum. -/
theorem fitsAs_fit_quantum (r : Int) {w : Nat} (hw : 0 < w) (q : Nat) (sat : Bool) :
    FitsAs r q sat (fit r w q sat).1 (fit r w q sat).2.1 (fit r w q sat).2.2 := by
  have hpow : (0 : Int) < 2 ^ (w - 1) := by positivity
  have hmultiple {x : Int} (hx : 0 ≤ x) : 0 ≤ x / q * q ∧ x / q * q ≤ x := by
    refine ⟨mul_nonneg (Int.ediv_nonneg hx q.cast_nonneg) q.cast_nonneg, ?_⟩
    rcases q.eq_zero_or_pos with rfl | hq
    · simpa using hx
    · exact Int.ediv_mul_le _ (by omega)
  unfold fit
  by_cases hin : loOf w ≤ r ∧ r ≤ hiOf w
  · rw [if_pos hin]
    exact ⟨fun _ => ⟨rfl, rfl, rfl⟩, fun h => absurd hin h, fun h => absurd hin h⟩
  · rw [if_neg hin]
    refine ⟨fun h => absurd h hin, fun _ hsat => ?_, fun _ hsat => ?_⟩ <;> subst hsat
    · refine ⟨?_, rfl, rfl⟩
      obtain ⟨hlo, hhi⟩ := hmultiple hpow.le
      obtain ⟨hlo', hhi'⟩ := hmultiple (Int.le_sub_one_of_lt hpow)
      unfold loOf hiOf
      rw [neg_neg]
      refine BitVec.toInt_ofInt_eq_self hw ?_ ?_ <;> split <;> omega
    · exact ⟨rfl, rfl, rfl⟩

/-- With SAT clear, an exact value out of range wraps with OV (R179). -/
theorem fitOnly_wraps {k : Bank} {r : Int} {w : Nat} (hw : 0 < w) (hsat : k.sat = false)
    (hout : ¬ (-2 ^ (w - 1) ≤ r ∧ r ≤ 2 ^ (w - 1) - 1)) : fitOnly k r w = (BitVec.ofInt w r, flagOV true) := by
  obtain ⟨-, -, hwraps⟩ := fitsAs_fitOnly k r hw
  obtain ⟨hv, hov, hsatf⟩ := hwraps hout hsat
  rw [fitOnly_eq, hv, hov, hsatf]
  rfl

/-- A zero divisor answers the end of the range on the dividend's side (R180). -/
theorem divZero_eq (n : Int) {w : Nat} (hw : 0 < w) :
    divZero n w = ((if 0 < n then BitVec.intMax w else if n < 0 then BitVec.intMin w else 0), flagDZ true) := by
  have hmin : BitVec.ofInt w (loOf w) = BitVec.intMin w := by
    rw [loOf, ← BitVec.toInt_intMin_of_pos hw, BitVec.ofInt_toInt]
  have hmax : BitVec.ofInt w (hiOf w) = BitVec.intMax w := (intMax_eq_ofInt w).symm
  unfold divZero
  split
  · rw [hmax]
  · split
    · rw [hmin]
    · rfl

/-! ## Fixed-point syllables with a register as destination -/

theorem ctxBank_issued {s : State} {p b : Nat} {n : SylInfo} :
    (issued s p b).bank ((issued s p b).ctxFor p b n).pair ((issued s p b).ctxFor p b n).bank = s.bank p b := bank_issued s p b

/-- A fixed-point syllable whose value is v with flags g ends in the state `done v g`, unless its flags raise ARITH (R191). -/
def FixedEnds (i : Instr) (p b : Nat) (s : State) (n : SylInfo) {w : Nat} (f : SCtx → State → BitVec w × Flags)
    (done : BitVec w → Flags → State) : Prop :=
  ∀ v g, f ((issued s p b).ctxFor p b n) (issued s p b) = (v, g) → ((g.ov || g.dz) = true → (s.bank p b).pa = false) →
    exec i s = .next (done v g)

section
variable {i : Instr} {p b : Nat} {s : State} {n : SylInfo} {cd : RegIx} (hi : Issues i p b s) (hn : infoOf i = some n)
  (hload : n.load = false) (hquiet : Quiet s) (hlazy : (s.bank p b).lazy = false)
include hi hn hload hquiet hlazy

theorem fixX_ends {f : SCtx → State → Word × Flags} (hx : exec i s = runSyl i p (fixX cd f) s) :
    FixedEnds i p b s n f (fixDoneX s p b cd) := fun _ _ => fixX_retires hi hn hload hquiet hlazy hx

theorem fixW_ends {f : SCtx → State → Wide × Flags} (hx : exec i s = runSyl i p (fixW cd f) s) :
    FixedEnds i p b s n f (fixDoneW s p b cd) := fun _ _ => fixW_retires hi hn hload hquiet hlazy hx

end

/-- Flags without DZ raise ARITH only by OV, which comes with PA clear. -/
theorem pa_clear_of_raised {ov pa : Bool} (hov : ov = false ∨ pa = false) (hraise : (ov || false) = true) : pa = false := by
  rw [Bool.or_false] at hraise
  exact hov.resolve_left (ne_false_of_eq_true hraise)

/-- The ratio x / d, rounded once with quantum q and fitted once, is what a syllable writes, unless its overflow raises ARITH
(R178, R179, R191). -/
def RoundsAndFits (i : Instr) (p b : Nat) (s : State) (x : Int) (d q : Nat) {w : Nat} (done : BitVec w → Flags → State) : Prop :=
  ∃ (r : Int) (inx bkr : Bool) (v : BitVec w) (ov satf : Bool),
    RoundedTo x d q (s.bank p b).rm r inx bkr ∧ FitsAs r q (s.bank p b).sat v ov satf ∧
    (ov = false ∨ (s.bank p b).pa = false → exec i s = .next (done v ⟨ov, satf, inx, false, bkr⟩))

section
variable {i : Instr} {p b : Nat} {s : State} {n : SylInfo} {w : Nat} {done : BitVec w → Flags → State} (hw : 0 < w)
include hw

/-- An exact value fitted to its destination, where its overflow raises no ARITH (R179, R187, R191). -/
theorem fitted_completes {f : SCtx → State → Int} {r : Int} (hends : FixedEnds i p b s n (fitted f) done)
    (hf : f ((issued s p b).ctxFor p b n) (issued s p b) = r) :
    ∃ (v : BitVec w) (ov satf : Bool), FitsAs r 1 (s.bank p b).sat v ov satf ∧
      (ov = false ∨ (s.bank p b).pa = false → exec i s = .next (done v ⟨ov, satf, false, false, false⟩)) := by
  refine ⟨_, _, _, fitsAs_fitOnly (s.bank p b) r hw, fun hov => hends _ _ ?_ (pa_clear_of_raised hov)⟩
  exact (congrArg₂ (fun (k : Bank) e => fitOnly k e w) (bank_issued s p b) hf).trans (fitOnly_eq _ r w)

/-- A ratio that a syllable rounds and fits by `rndFit` (R178, R179). -/
theorem rndFit_completes {f : SCtx → State → BitVec w × Flags} {num : Int} {den q : Nat} (hends : FixedEnds i p b s n f done)
    (hf : f ((issued s p b).ctxFor p b n) (issued s p b) = rndFit (s.bank p b) num den w q) (hden : 0 < den) (hq : 0 < q) :
    RoundsAndFits i p b s num den q done := by
  exact ⟨_, _, _, _, _, _, roundedTo_rnd num hden hq _, fitsAs_fit_quantum _ hw q _,
    fun hov => hends _ _ hf (pa_clear_of_raised hov)⟩

section
variable (hbkq : (s.bank p b).bkq ≠ 0)
include hbkq

/-- A ratio rounded with the quantum of R178 (R186, R187). -/
theorem rounded_completes {num : SCtx → State → Int} {den : SCtx → State → Nat} {x : Int} {d : Nat}
    (hends : FixedEnds i p b s n (rounded num den) done) (hnum : num ((issued s p b).ctxFor p b n) (issued s p b) = x)
    (hden : den ((issued s p b).ctxFor p b n) (issued s p b) = d) (hd : 0 < d) :
    RoundsAndFits i p b s x d (s.bank p b).qr done := by
  refine rndFit_completes hw hends ?_ hd (qr_pos hbkq)
  unfold rounded
  rw [hnum, hden, ctxBank_issued]

/-- An accumulator shifted right and rounded, with no limit to the shift (R186). -/
theorem shifted_completes {as_ : AccIx} {cs2 : RegIx}
    (hends : FixedEnds i p b s n
      (rounded (fun c s => accI c s as_) (fun c s => shiftDen (s.srcX c.pair c.bank cs2.toNat).toNat)) done) :
    RoundsAndFits i p b s ((s.pair p).acc as_.toNat).toInt (2 ^ (s.srcX p b cs2.toNat).toNat) (s.bank p b).qr done := by
  refine rndFit_completes hw hends ?_ (Nat.two_pow_pos _) (qr_pos hbkq)
  unfold rounded rndFit
  simp only [accI_issued, ctxBank_issued, srcX_ctxFor, rnd_shiftDen _ _ (qr_pos hbkq)]

/-- A value rounded to a multiple of `BKQ` and fitted (R189). -/
theorem quantum_completes {f : SCtx → State → Int} {x : Int} (hends : FixedEnds i p b s n (quantum f) done)
    (hf : f ((issued s p b).ctxFor p b n) (issued s p b) = x) :
    RoundsAndFits i p b s x 1 (s.bank p b).bkq.toNat done := by
  refine rndFit_completes hw hends ?_ Nat.one_pos (bkq_pos hbkq)
  unfold quantum
  rw [hf, ctxBank_issued]

/-- A division: the quotient is rounded and fitted once, and a zero divisor is answered with DZ (R180, R188). -/
theorem divided_completes {num den : SCtx → State → Int} {x d : Int} (hends : FixedEnds i p b s n (divided num den) done)
    (hnum : num ((issued s p b).ctxFor p b n) (issued s p b) = x) (hden : den ((issued s p b).ctxFor p b n) (issued s p b) = d) :
    (d ≠ 0 → RoundsAndFits i p b s (if d < 0 then -x else x) d.natAbs (s.bank p b).qr done) ∧
    (d = 0 → (s.bank p b).pa = false → exec i s =
      .next (done (if 0 < x then BitVec.intMax w else if x < 0 then BitVec.intMin w else 0) (flagDZ true))) := by
  have hf : divided num den ((issued s p b).ctxFor p b n) (issued s p b) = divFit (s.bank p b) x d w := by
    unfold divided
    rw [hnum, hden, ctxBank_issued]
  refine ⟨fun hd => ?_, fun hd hpa => ?_⟩
  · exact rndFit_completes hw hends (hf.trans (if_neg hd)) (Int.natAbs_pos.2 hd) (qr_pos hbkq)
  · exact hends _ _ ((hf.trans (if_pos hd)).trans (divZero_eq x hw)) fun _ => hpa

end
end

/-- What rounding to `BKQ` discards; nothing overflows (R189). -/
theorem breakage_completes {i : Instr} {p b : Nat} {s : State} {n : SylInfo} {done : Wide → Flags → State}
    {f : SCtx → State → Int} {x : Int} (hbkq : (s.bank p b).bkq ≠ 0) (hends : FixedEnds i p b s n (breakage f) done)
    (hf : f ((issued s p b).ctxFor p b n) (issued s p b) = x) :
    ∃ (r : Int) (inx bkr : Bool), RoundedTo x 1 (s.bank p b).bkq.toNat (s.bank p b).rm r inx bkr ∧
      exec i s = .next (done (BitVec.ofInt 128 (x - r)) ⟨false, false, inx, false, bkr⟩) := by
  refine ⟨_, _, _, roundedTo_rnd x Nat.one_pos (bkq_pos hbkq) _, hends _ _ ?_ fun h => (Bool.false_ne_true h).elim⟩
  unfold breakage
  rw [hf, ctxBank_issued]

/-! ## Overflow -/

/-- A fixed-point syllable that raises ARITH under PA leaves its flags alone (R191). -/
theorem fixX_flt {cd : RegIx} {f : SCtx → State → Word × Flags} {c : SCtx} {s : State} {v : Word} {g : Flags}
    (hlazy : (s.bank c.pair c.bank).lazy = false) (hf : f c s = (v, g)) (hraise : (g.ov || g.dz) = true)
    (hpa : (s.bank c.pair c.bank).pa = true) : fixX cd f c s = .flt (flt0 arith) (s.addFlags c.pair c.bank g) := by
  have hsave : s.lazySave c.pair c.bank = .ok () s := by unfold State.lazySave; dsimp only; rw [hlazy]; rfl
  unfold fixX fixed
  rw [hsave]
  dsimp only [Res.bind]
  rw [hf, if_pos hraise, if_pos hpa]

/-- An overflow sets OV, bit 8 of `AMODE` (R129, R190). -/
theorem amode_addFlags_ov (s : State) (p b : Nat) : ((s.addFlags p b (flagOV true)).bank p b).amode.getLsbD 8 = true := by
  have hbit : ((flagOV true).bits &&& flagMask p).getLsbD 8 = true := by unfold flagMask; split <;> decide
  unfold State.addFlags
  rw [if_neg (by decide), State.bank_updBank, if_pos ⟨rfl, rfl⟩]
  exact BitVec.getLsbD_or.trans ((congrArg _ hbit).trans (Bool.or_true _))

theorem amode_setReg (k : Bank) (n : Nat) (c : Cap) : (k.setReg n c).amode = k.amode := by
  unfold Bank.setReg
  split <;> rfl

theorem apend_stSet (k : Bank) : (k.stSet 5 1 1).apend = true := by
  have hbit : (setBitsAt k.status.toNat 5 1 1).testBit 5 = true := (testBit_setBitsAt _ 5 1 1 5).trans (if_pos (by decide))
  simp only [Bank.apend, Bank.stBit, Bank.stSet, BitVec.toNat_ofNat, Nat.testBit_mod_two_pow, hbit]
  decide

/-- The bank after an integer result whose overflow raises no ARITH (R191). -/
theorem bank_fixDoneX_ov (s : State) (p b : Nat) (cd : RegIx) (x : Word) :
    (fixDoneX s p b cd x (flagOV true)).bank p b =
      ((((issued s p b).addFlags p b (flagOV true)).bank p b).setReg cd.toNat (intCap x)).stSet 5 1 1 := by
  have hout : (withApend p b (flagOV true) (((issued s p b).addFlags p b (flagOV true)).setX p b cd.toNat x)).out = [] :=
    (sameButSequencing_issued s p b).out_eq
  unfold fixDoneX
  rw [(sameButSequencing_retired hout p).bank_eq, ← bank_setReg_same]
  unfold withApend
  rw [if_pos (by decide), State.bank_updBank, if_pos ⟨rfl, rfl⟩]
  rfl

/-- A pending overflow: the wrapped result is in its register, and `STATUS.APEND` and OV are set (R191). -/
theorem fixDoneX_ov (s : State) (p b : Nat) (cd : RegIx) (x : Word) :
    ((fixDoneX s p b cd x (flagOV true)).bank p b).reg cd.toNat = (if cd = 0 then nullCap else intCap x) ∧
      ((fixDoneX s p b cd x (flagOV true)).bank p b).apend = true ∧
      ((fixDoneX s p b cd x (flagOV true)).bank p b).amode.getLsbD 8 = true := by
  have hcd : cd.toNat = 0 ↔ cd = 0 := ⟨fun h => BitVec.eq_of_toNat_eq h, fun h => congrArg BitVec.toNat h⟩
  rw [bank_fixDoneX_ov]
  refine ⟨?_, apend_stSet _, ?_⟩
  · exact (reg_setReg_same _ cd.toNat (intCap x)).trans (if_congr hcd rfl rfl)
  · exact (congrArg (·.getLsbD 8) (amode_setReg _ _ _)).trans (amode_addFlags_ov _ p b)

/-- The upper half of a wide value is the value shifted by 64 places (R187). -/
theorem setWidth_shiftLeft_eq_append (x : Word) : (x.setWidth 128 <<< 64 : Wide) = x ++ (0 : Word) := by
  have hlt := x.isLt
  refine BitVec.eq_of_toNat_eq ?_
  rw [BitVec.toNat_append, show (0 : Word).toNat = 0 from rfl, Nat.or_zero, BitVec.toNat_shiftLeft, BitVec.toNat_setWidth,
    Nat.shiftLeft_eq, Nat.shiftLeft_eq]
  omega

end Sys2Proof.Laws

namespace Sys2Proof
open Sys2Proof.Machine Sys2Proof.Laws

/-- Settles O19: each is a fixed-point syllable whose exact value is fitted once, and a sum out of range wraps with OV. -/
theorem fixedAddSubtractAndPendingOverflow : Obligations.FixedAddSubtractAndPendingOverflow := by
  refine ⟨?_, ?_⟩
  · rintro p b as_ cd cs1 cs2 s B x y u w rfl rfl rfl rfl rfl hquiet hlazy - -
    refine ⟨fun hi => ?_, fun hi => ?_, fun hi => ?_, fun hi => ?_, fun hi => ?_, fun hi => ?_, fun hi => ?_⟩
    case refine_1 | refine_2 | refine_3 =>
      refine fitted_completes (by decide) (fixX_ends hi rfl rfl hquiet hlazy rfl) ?_
      simp only [xI_issued]
    case refine_4 | refine_5 | refine_6 =>
      refine fitted_completes (by decide) (fixW_ends hi rfl rfl hquiet hlazy rfl) ?_
      simp only [wI_issued]
    case refine_7 =>
      refine fixW_ends hi rfl rfl hquiet hlazy rfl _ _ ?_ fun h => (Bool.false_ne_true h).elim
      rw [srcX_ctxFor, setWidth_shiftLeft_eq_append]
  · rintro p b cd cs1 cs2 s e rfl hquiet hlazy hsat hout hi
    have hvalue (n : SylInfo) : fitted (w := 64) (fun c s => xI c s cs1 + xI c s cs2) ((issued s p b).ctxFor p b n) (issued s p b) =
        (BitVec.ofInt 64 ((s.srcX p b cs1.toNat).toInt + (s.srcX p b cs2.toNat).toInt), flagOV true) := by
      simp only [fitted, xI_issued]
      exact fitOnly_wraps (by decide) ((congrArg Bank.sat (bank_issued s p b)).trans hsat) hout
    refine ⟨fun hpa => ?_, fun hpa => ?_⟩
    · exact ⟨_, fixX_ends hi rfl rfl hquiet hlazy rfl _ _ (hvalue _) fun _ => hpa, fixDoneX_ov s p b cd _⟩
    · refine ⟨_, fixX_flt ((congrArg Bank.lazy (bank_issued s p b)).trans hlazy) (hvalue _) rfl ?_, rfl⟩
      exact (congrArg Bank.pa (bank_issued s p b)).trans hpa

/-- Settles O20: each is a fixed-point syllable that rounds its ratio once, by `AMODE.RM`, and fits it once. -/
theorem roundingSyllables : Obligations.RoundingSyllables := by
  rintro p b as_ cd cs1 cs2 s B x y u w rfl rfl rfl rfl rfl hquiet hlazy - hbkq
  refine ⟨fun hi => ?_, fun hi => ?_, fun hi => ?_, fun hi => ?_, fun hi => ?_, fun hi => ?_, fun hi => ?_, fun hi => ?_, fun hi => ?_⟩
  case refine_1 | refine_3 | refine_6 | refine_8 =>
    refine rounded_completes (by decide) hbkq (fixX_ends hi rfl rfl hquiet hlazy rfl) ?_ rfl (by decide)
    simp only [accI_issued, xI_issued, wI_issued]
  case refine_2 | refine_7 | refine_9 =>
    refine rounded_completes (by decide) hbkq (fixW_ends hi rfl rfl hquiet hlazy rfl) ?_ rfl (by decide)
    simp only [accI_issued, xI_issued, wI_issued]
  case refine_4 => exact shifted_completes (by decide) hbkq (fixX_ends hi rfl rfl hquiet hlazy rfl)
  case refine_5 => exact shifted_completes (by decide) hbkq (fixW_ends hi rfl rfl hquiet hlazy rfl)

/-- Settles O21: a division rounds and fits its quotient once or answers its zero divisor, and breakage rounds to `BKQ`. -/
theorem divisionAndBreakage : Obligations.DivisionAndBreakage := by
  rintro p b as_ cd cs1 cs2 s B x y u w rfl rfl rfl rfl rfl hquiet hlazy - hbkq
  refine ⟨?_, ?_, ?_, ?_, fun hi => ?_, fun hi => ?_, fun hi => ?_⟩
  case refine_1 =>
    rintro n d rfl rfl hi
    refine divided_completes (by decide) hbkq (fixX_ends hi rfl rfl hquiet hlazy rfl) ?_ (xI_issued cs2)
    simp only [xI_issued]
  case refine_2 | refine_3 | refine_4 =>
    rintro n d rfl rfl hi
    refine divided_completes (by decide) hbkq (fixW_ends hi rfl rfl hquiet hlazy rfl) ?_ (wI_issued cs2)
    simp only [wI_issued]
  · exact quantum_completes (by decide) hbkq (fixW_ends hi rfl rfl hquiet hlazy rfl) (wI_issued cs1)
  · exact quantum_completes (by decide) hbkq (fixX_ends hi rfl rfl hquiet hlazy rfl) (xI_issued cs1)
  · exact breakage_completes hbkq (fixW_ends hi rfl rfl hquiet hlazy rfl) (wI_issued cs1)

end Sys2Proof
end

section
/-!
PROOFS. The tally syllables send their requests to the tally units (O27).
-/
namespace Sys2Proof.Laws
open Sys2Proof.Machine
open Sys2Proof (Instr)

/-! ## The operands of a tally syllable (R208) -/

theorem SameButSequencing.plainCell {p q b : Nat} {s t : State} {a : Cap} {need : List Nat} (h : SameButSequencing p s t)
    (k : PlainCell s q b a need) : PlainCell t q b a need := by
  unfold PlainCell at k ⊢
  rwa [h.bank_eq, h.rcuOn_eq]

/-- A cell in plain DRAM is its own physical address, with or without the tests that the syllable skips. -/
theorem cellOperand_plain {s : State} {c : SCtx} {a : Cap} {need : List Nat} (h : PlainCell s c.pair c.bank a need) {k : AKind}
    (hk : k = .load ∨ k = .store) (needW : Bool) : cellOperand c a need k needW s = .ok (dramPiece (a.addr, 64)) s := by
  obtain ⟨hcheck, halign, htop, hsen, hbare, hrcu⟩ := h
  have hx := xlate_dram s (v := { s.via c.pair c.bank with noW := !needW, noA := true, noD := true }) hbare
    (h := (a.addr, 64)) ⟨htop, by dsimp only; omega, hsen⟩ hk
  unfold cellOperand cellPiece
  simp [hcheck, halign, hx, Res.bind, dramPiece, pairOk_rcuOff hrcu]

/-- A store inside one page of plain DRAM is planned as one part (R147). -/
theorem planRange_page {s : State} {v : Via} {ea n : Nat} (hpage : ea % 4096 + n ≤ 4096) (hdram : InDram v.pair (ea, n))
    (hbare : v.ttbc % 2 = 0) (hrcu : s.rcuOn = false) : planRange s v .store ea n = .ok [dramPiece (ea, n)] s := by
  have hsplit : splitPages ea n (n / 4096 + 2) = [(ea, n)] := by
    unfold splitPages
    exact if_pos (by omega)
  unfold planRange
  rw [hsplit]
  exact planParts_dram hbare hrcu (.inr rfl) ea n [(ea, n)] (by simpa using hdram) false

/-! ## Bodies of the tally syllables (R211-R213) -/

section
variable {s : State} {c : SCtx} (cd : RegIx) {cs1 cs2 : RegIx} {a d : Cap} (ha : s.src c.pair c.bank cs1.toNat = a)
include ha

theorem tadd_sends {ca : RegIx} {w : Wide} (hd : s.src c.pair c.bank cs2.toNat = d) (hw : s.srcW c.pair c.bank ca.toNat = w)
    (hstamp : checkTyped d 0xFF06 = none) (hcell : PlainCell s c.pair c.bank a [permTA]) :
    tadd cd cs1 cs2 ca c s = .ok false (s.tallySend { s.tallyReq c .add a.addr cd with
      amount := w, stampTime := d.addr % 2 ^ 62, stampUnc := d.addr.testBit 62, stampPort := d.basem }) := by
  unfold tadd
  simp only [ha, hd, hw, hstamp, cellOperand_plain hcell (.inr rfl), Res.bind, dramPiece]

theorem tclose_sends {x : Word} (hx : s.srcX c.pair c.bank cs2.toNat = x) (hcell : PlainCell s c.pair c.bank a [permTA, permST]) :
    tclose cd cs1 cs2 c s = .ok false (s.tallySend { s.tallyReq c .close a.addr cd with reqT := x.toNat }) := by
  unfold tclose
  simp only [ha, hx, cellOperand_plain hcell (.inr rfl), Res.bind, dramPiece]

/-- `TREAD` with a destination inside one page of plain DRAM names that as the place of its snapshot. -/
theorem tread_sends (hd : s.src c.pair c.bank cs2.toNat = d) (hcell : PlainCell s c.pair c.bank a [permTA, permLD])
    (hcheck : checkAccess d d.addr 64 [permST] = none) (halign : d.addr % 16 = 0) (hpage : d.addr % 4096 + 64 ≤ 4096)
    (hdram : InDram c.pair (d.addr, 64)) :
    tread cd cs1 cs2 c s = .ok false (s.tallySend { s.tallyReq c .read a.addr cd with dst := [(d.addr, 64)] }) := by
  have hop := cellOperand_plain hcell (.inl rfl) true
  obtain ⟨-, -, -, -, hbare, hrcu⟩ := hcell
  have hplan := planRange_page (v := s.via c.pair c.bank) hpage hdram hbare hrcu
  unfold tread
  simp only [ha, hd, hop, Res.bind, hcheck, halign, hplan]
  rfl

end

/-! ## The tally syllables as commands (R205, R206) -/

/-- The request names the bank, the task and the saturation mode as they were before the command. -/
theorem tallyReq_issued (s : State) (p b : Nat) (n : SylInfo) (kind : TallyKind) (cell : Nat) (cd : RegIx) :
    (issued s p b).tallyReq ((issued s p b).ctxFor p b n) kind cell cd =
      ⟨s.tally.nextId, p, b, (s.bank p b).task, kind, cell, 0, 0, false, 0, (s.bank p b).sat, 0, cd.toNat, []⟩ := by
  show (⟨(issued s p b).tally.nextId, p, b, ((issued s p b).bank p b).task, kind, cell, 0, 0, false, 0,
    ((issued s p b).bank p b).sat, 0, cd.toNat, []⟩ : TallyOp) = _
  rw [bank_issued, (sameButSequencing_issued s p b).tally_eq]

/-- A syllable whose body sends one request, as a command: the request has joined those in transit. -/
theorem tallySend_completes {i : Instr} {p b : Nat} {s : State} {n : SylInfo} {f : Body} {o : TallyOp} (hi : Issues i p b s)
    (hp : pairOf i = some p) (hn : infoOf i = some n) (hf : bodyOf i = some f) (hload : n.load = false) (hq : Quiet s)
    (hbody : f ((issued s p b).ctxFor p b n) (issued s p b) = .ok false ((issued s p b).tallySend o)) :
    exec i s = .next (retired p ((issued s p b).tallySend o)) := by
  have hrest : AtRest s ((issued s p b).tallySend o) := (sameButSequencing_issued s p b).atRest hq
  rw [syllableCompletes i p b s _ n f false hp hi hn hf hbody hrest, hload]
  rfl

end Sys2Proof.Laws

namespace Sys2Proof
open Sys2Proof.Machine Sys2Proof.Laws

/-- Settles O27: each body sends one request, whose cell and destination plain DRAM leaves as they are. -/
theorem tallySyllablesSendRequests : Obligations.TallySyllablesSendRequests := by
  rintro p b cd cs1 cs2 ca s a c op ha hc hq rfl
  have hv := sameButSequencing_issued s p b
  have hsrc := (src_issued s p b cs1.toNat).trans ha.symm
  have hsrc2 := (src_issued s p b cs2.toNat).trans hc.symm
  refine ⟨fun hcell hstamp hi => ?_, fun hcell hi => ?_, fun hcell hcheck halign hpage htop hsen hi => ?_,
    fun o => ⟨rfl, rfl, rfl, rfl⟩⟩
  · have hbody := fun n => tadd_sends (c := (issued s p b).ctxFor p b n) cd hsrc hsrc2 (srcW_issued s p b ca.toNat) hstamp
      (hv.plainCell hcell)
    simp only [tallyReq_issued] at hbody
    exact tallySend_completes hi rfl rfl rfl rfl hq (hbody _)
  · have hbody := fun n => tclose_sends (c := (issued s p b).ctxFor p b n) cd hsrc (srcX_issued s p b cs2.toNat) (hv.plainCell hcell)
    simp only [tallyReq_issued] at hbody
    exact tallySend_completes hi rfl rfl rfl rfl hq (hbody _)
  · have hbody := fun n => tread_sends (c := (issued s p b).ctxFor p b n) cd hsrc hsrc2 (hv.plainCell hcell) hcheck halign hpage
      ⟨htop, by dsimp only; omega, hsen⟩
    simp only [tallyReq_issued] at hbody
    exact tallySend_completes hi rfl rfl rfl rfl hq (hbody _)

end Sys2Proof
end

section
/-!
PROOFS. An operation parked in a channel whose occupancy register would be one of the host interface's (O40).
-/
namespace Sys2Proof.Laws
open Sys2Proof.Machine
open Sys2Proof (Instr)

/-! ## A channel that no machine has, but the channel map may list -/

/-- The channel number at which the addresses of `TCH_OCC`, which go up by 0x100 from channel to channel, come to `PCI_CTRL`. -/
def hostChannel : Nat := (Addr.PCI_CTRL - Addr.TCH_OCC 0) / 0x100

/-- The machine at reset, then in operation with the host link up and enabled, so that HB_STATUS is READY, and with an operation parked
in `hostChannel`. -/
def hostParked : State :=
  { ((State.reset.setFld Addr.PWR_STATUS 0 3 1).setFld Addr.PCI_STATUS 0 1 1).setFld Addr.PCI_CTRL 0 1 1 with
    tally := { State.reset.tally with chans := [(hostChannel, ⟨[], [strayOp]⟩)] } }

theorem quiet_hostParked : Quiet hostParked := by unfold Quiet; decide +kernel

theorem parkedOp_hostParked : hostParked.parkedOp 0 = some (hostChannel, strayOp) := by decide +kernel

/-- The time-out records no entries in use in `PCI_CTRL` (R221), which ends READY, so the host's vector for HB_STATUS becomes pending
(R502). -/
theorem vectorPending_hostParked {u : State} (h : exec (.parkTimeout 0) hostParked = .next u) :
    u.hb hbPending ≠ hostParked.hb hbPending := by
  obtain rfl : State.cmd (fun s => s.parkTimeout 0) hostParked = u := by injection h
  decide +kernel

end Sys2Proof.Laws

namespace Sys2Proof
open Sys2Proof.Machine Sys2Proof.Laws

/-- Refutes O40 at its clause on PARK_TIMEOUT: it says that nothing but device registers, the tally units and messages changes, for
every quiet state, without the premise that the channel of the parked operation is one of the sixteen; where the map lists the
operation under `hostChannel`, the registers of the host interface change too. -/
theorem not_tallyUnitOperations : ¬ Obligations.TallyUnitOperations := by
  intro h
  obtain ⟨-, -, -, -, -, -, -, -, -, htimeout, -⟩ :=
    h 0 hostChannel 0 0 0 ⟨[], 0, false⟩ 0 strayOp ⟨0, .active, [], [], 0, false, 0, 0⟩ ⟨strayOp, 0, none⟩ [] hostParked quiet_hostParked
  obtain ⟨u, hu, -, -, -, -, -, hframe⟩ := htimeout parkedOp_hostParked
  have hhost := congrArg (fun t : State => t.hb hbPending) hframe
  exact vectorPending_hostParked hu hhost

end Sys2Proof
end

section
/-!
PROOFS. A fault posted on a channel past the last one (O37).
-/
namespace Sys2Proof.Laws
open Sys2Proof.Machine
open Sys2Proof (Instr)

/-! ## A fault post whose channel's register is the module's role -/

/-- The number past the last channel, 4095, at which the layout of EVD_CHSTAT meets JRN_REPL_STATUS. -/
def roleChannel : Nat := (Addr.JRN_REPL_STATUS - Addr.EVD_CHSTAT 0) / 8

/-- The one post of `roleFault`: the fault of bank 2 of pair 0. -/
def rolePost : Post := ⟨roleChannel, [], some (0, 2), 0, none, 0⟩

/-- Bank 2 of the idle pair 0 is suspended for a fault whose post waits on the channel `roleChannel`, which no module has: what would
count its posts, 2, is the field of JRN_REPL_STATUS that says that this module is the primary. The partner has detached (R510), the
link's notices go to channel 0, whose task is not cached, and line 0 of DRAM, which holds the task's entry, has a correctable error. -/
def roleFault : State :=
  let k : Bank := { bankReset with st := .suspended, fault := some (9, []) }
  let s := ((State.reset.setBank 0 2 k).updPair 0
    (fun v => { v with escc := mintCap 0xFFFF 0 0x1000 0x2000, essc := mintCap 0xFFFF 0 0x2000 0x3000 })).wr Addr.JRN_REPL_STATUS 2
  { s.wr Addr.CWL_EVT 0x8000 with
    latent := [(0, some false)]
    cwl := { s.cwl with detached := true, partnerDur := 0 }
    evd := { s.evd with posts := [rolePost] } }

theorem quiet_roleFault : Quiet roleFault := by unfold Quiet; decide +kernel

/-- The fault of bank 2 may time out. -/
theorem timesOut_roleFault : (roleFault.bank 0 2).st = .suspended ∧ (roleFault.bank 0 2).ready = false ∧
    (roleFault.bank 0 2).fault = some (9, []) ∧ (roleFault.pair 0).run = none ∧ (roleFault.pair 0).returning = none ∧
    (roleFault.pair 0).halt = none ∧ (roleFault.pair 0).shadow = [] ∧ (∀ d ∈ roleFault.evd.delivs, d.fault ≠ some (0, 2)) ∧
    roleFault.evd.posts.find? (fun x => x.fault == some (0, 2)) = some rolePost ∧ esccOk (roleFault.pair 0).escc = true ∧
    esscOk (roleFault.pair 0).essc = true := by decide +kernel

/-- Taken from the count, the post makes the module a standby whose partner has detached; the takeover at the command's end (R510) posts
its notice, and the read of the entry of the channel's task corrects line 0 (R339). -/
theorem latent_roleFault {u : State} (h : exec (.faultTimeout 0 2) roleFault = .next u) : u.latent = [] := by
  obtain rfl : State.cmd (fun s => s.faultTimeout 0 2) roleFault = u := by injection h
  decide +kernel

end Sys2Proof.Laws

namespace Sys2Proof
open Sys2Proof.Machine Sys2Proof.Laws

/-- Refutes O37 at its second clause: it has no premise that the channel of the fault's post is one of the 4,096. For `roleFault` the
field that counts the channel's posts holds the module's role; the timeout changes it, the module takes over at the command's end, and
DRAM does not stay as it was. -/
theorem not_haltsAndSupervision : ¬ Obligations.HaltsAndSupervision := by
  intro h
  obtain ⟨-, htimeout, -⟩ := h 9 0 0 0 2 false 0 ⟨nullCap, 0, true, 3, 0⟩ rolePost [] roleFault _ quiet_roleFault rfl
  obtain ⟨hst, hready, hfault, hrun, hret, hhalt, hshadow, hdelivs, hposts, hescc, hessc⟩ := timesOut_roleFault
  obtain ⟨u, hu, -, -, -, -, -, -, -, hmaps, -⟩ := htimeout (by decide) (by decide) hst hready hfault hrun hret hhalt hshadow hdelivs
    hposts hescc hessc
  obtain ⟨-, -, -, hlatent, -⟩ := hmaps
  exact List.cons_ne_nil _ _ (hlatent.symm.trans (latent_roleFault hu))

end Sys2Proof
end

section
/-!
PROOFS. A post of a channel past the last one (O38).
-/
namespace Sys2Proof.Laws
open Sys2Proof.Machine
open Sys2Proof (Instr)

/-! ## A post whose channel's register is another unit's -/

/-- The number past the last channel, 4095, at which the layout of EVD_CHSTAT meets RCU_ERR. -/
def rcuChannel : Nat := (Addr.RCU_ERR - Addr.EVD_CHSTAT 0) / 8

/-- The one post of `rcuPosted`. -/
def rcuPost : Post := ⟨rcuChannel, [], none, 0, none, 0⟩

/-- The table entry of task 7: priority 3 on pair 0, its TSB at 0 in bare mode. -/
def rcuTask : TaskEntry := ⟨nullCap, 0, true, 3, 0⟩

/-- The post of task 7 as work of pair 0. -/
def rcuWork : Cand := ⟨3, false, 0, .event 0, some rcuChannel, 7⟩

/-- Dispatch is enabled and pair 0 idles; a post waits on the channel `rcuChannel`, which no module has, of task 7. A descriptor of the
task's region set has a reserved bit set (R327), and RCU_ERR, where the unit counts that channel's posts, holds 1. -/
def rcuPosted : State :=
  let s := (State.reset.wr Addr.EVD_CTRL 1).wr Addr.RCU_ERR 1
  { s with
    mem := [(0x404, 0x40)]
    evd := { s.evd with tasks := [(7, some rcuTask)], slots := [(rcuChannel, 7)], posts := [rcuPost] } }

theorem quiet_rcuPosted : Quiet rcuPosted := by unfold Quiet; decide +kernel

/-- Pair 0 may take the post. -/
theorem selectable_rcuPosted : rcuPosted.fld Addr.EVD_CTRL 0 1 = 1 ∧ (rcuPosted.pair 0).halt = none ∧
    (rcuPosted.pair 0).selected = none ∧ (rcuPosted.pair 0).returning = none ∧ rcuPosted.noPair = false ∧
    rcuPosted.nextWork 0 = some rcuWork ∧ rcuPosted.runPrio 0 < 3 + 1 ∧ rcuPosted.takePost 0 7 = some rcuPost := by decide +kernel

/-- The selection takes the post from the count, and its read of the region set then sets bit 2 of RCU_ERR (R332). -/
theorem fld_rcuPosted {u : State} (h : exec (.eventSelect 0) rcuPosted = .next u) : u.fld (Addr.EVD_CHSTAT rcuChannel) 0 16 = 4 := by
  obtain rfl : State.cmd (fun s => s.evdSelect 0) rcuPosted = u := by injection h
  decide +kernel

end Sys2Proof.Laws

namespace Sys2Proof
open Sys2Proof.Machine Sys2Proof.Laws

/-- Refutes O38 at its first clause: it has no premise that the post's channel is one of the 4,096, and for `rcuPosted` the field that
counts the channel's posts is the low half of RCU_ERR. The count falls from 1 to 0 as the statement says, and the region set read for
the selected event then sets bit 2 there, so the model leaves 4. -/
theorem not_dispatchingWork : ¬ Obligations.DispatchingWork := by
  intro h
  obtain ⟨hselect, -⟩ := h 0 0 0 rcuWork rcuPost ⟨0, 0, 0, 0, [], 0, none, 0, false, false, false, 0, none, none, 0⟩ rcuTask [] nullCap
    bankReset ⟨bankReset, 0, false, false, 0, []⟩ [] .lockup none rcuPosted rcuPosted _ quiet_rcuPosted quiet_rcuPosted rfl
  obtain ⟨hon, hhalt, hsel, hret, hpair, hnext, hprio, htake⟩ := selectable_rcuPosted
  obtain ⟨u, hu, -, hcount, -⟩ := hselect (by decide) hon hhalt hsel hret hpair hnext hprio htake rfl rfl rfl
  have hkept : (4 : Nat) = (rcuPosted.fld (Addr.EVD_CHSTAT rcuChannel) 0 16 - 1) % 65536 := (fld_rcuPosted hu).symm.trans hcount
  revert hkept
  decide +kernel

end Sys2Proof
end

section
/-!
PROOFS. A sentinel enters its escalation bank on a fault, or locks up (O24).
-/
namespace Sys2Proof.Laws
open Sys2Proof.Machine
open Sys2Proof (Instr Imm)

/-! ## What a lockup does -/

/-- The registers that a lockup's notice and settlement leave: those that the command's end looks at, and the lockup bits. -/
def lockupKept : List Nat := restRegs ++ [Addr.EXC_LOCKUP0, Addr.EXC_LOCKUP1]

/-- No occupancy register of the sixteen channels is among them. -/
theorem tchOcc_not_mem_lockupKept {ch a : Nat} (hch : ch < 16) (ha : a ∈ lockupKept) : a ≠ Addr.TCH_OCC ch := by
  have h : ∀ a ∈ lockupKept, ∀ ch < 16, a ≠ Addr.TCH_OCC ch := by decide
  exact h a ha ch hch

theorem rd_abortChan {a : Nat} (ha : a ∈ lockupKept) (p : Nat) (l : List Nat) (hl : ∀ ch ∈ l, ch < 16) :
    ∀ s : State, (s.abortChan p l).rd a = s.rd a := by
  induction l with
  | nil => exact fun _ => rfl
  | cons ch l ih =>
    intro s
    refine (ih (fun c hc => hl c (List.mem_cons_of_mem _ hc)) _).trans ?_
    split
    · rfl
    · exact rd_setTch s ch _ (tchOcc_not_mem_lockupKept (hl ch List.mem_cons_self) ha)

/-- The settlement at a halt writes the status and occupancy registers of the tally units alone (R219). -/
theorem rd_haltSettle {a : Nat} (ha : a ∈ lockupKept) (s : State) (p : Nat) : (s.haltSettle p).rd a = s.rd a := by
  have hne : a ≠ Addr.TALLY_STATUS := by rintro rfl; exact absurd ha (by decide)
  unfold State.haltSettle State.tallySettle
  dsimp only
  split
  · rfl
  · rw [State.rd_setFld_ne _ _ _ _ hne, State.rd_setFld_ne _ _ _ _ hne, State.rd_setFld_ne _ _ _ _ hne,
      rd_abortChan ha p _ (fun ch hch => List.mem_range.mp hch)]
    rfl

theorem deviceEffect_haltSettle (s : State) (p : Nat) : DeviceEffect s (s.haltSettle p) := by
  unfold State.haltSettle
  split
  · exact .refl s
  · exact deviceEffect_tallySettle s p

/-- The register and bit of a pair's lockup (R242, R250). -/
def lockupBit (p : Nat) : Nat × Nat := pairBit Addr.EXC_LOCKUP0 Addr.EXC_LOCKUP1 p

/-- What a lockup makes of its pair (R241). -/
def lockedPair (clk : Nat) (r : Rec) (v : Pair) : Pair :=
  { maskUpdate clk { flushShadow v with run := none } with
    halt := some .lockup, resv := none, selected := none, standby := none, lockRec := recRegs r }

/-- A lockup in its steps: the bit, the pair, the notice, the settlement. -/
theorem lockup_eq (s : State) (p : Nat) (r : Rec) : s.lockup p r =
    (((s.setBit (lockupBit p).1 (lockupBit p).2).updPair p (lockedPair s.clk r)).notify (if p = 99 then 0 else 3) 2 0 p
      ((recRegs r).headD nullCap).addr).haltSettle p := rfl

/-- The registers of a lockup's notice and settlement are apart from those. -/
theorem nqstat_not_mem_lockupKept {p a : Nat} (ha : a ∈ lockupKept) : a ≠ Addr.SEN_NQSTAT (if p = 99 then 0 else 3) := by
  have h : ∀ q ∈ [0, 3], ∀ a ∈ lockupKept, a ≠ Addr.SEN_NQSTAT q := by decide
  refine h _ ?_ a ha
  split <;> simp

theorem lockupBit_not_mem_restRegs {p a : Nat} (ha : a ∈ restRegs) : a ≠ (lockupBit p).1 := by
  have h : ∀ l ∈ [Addr.EXC_LOCKUP0, Addr.EXC_LOCKUP1], ∀ a ∈ restRegs, a ≠ l := by decide
  refine h _ ?_ a ha
  unfold lockupBit pairBit
  split <;> simp

/-- After the pair's change a lockup changes device registers, the tally units and notices alone. -/
theorem deviceEffect_lockup (s : State) (p : Nat) (r : Rec) :
    DeviceEffect ((s.setBit (lockupBit p).1 (lockupBit p).2).updPair p (lockedPair s.clk r)) (s.lockup p r) := by
  rw [lockup_eq]
  exact (deviceEffect_notify _ (fun h => nqstat_not_mem_lockupKept (p := p) (by simp [lockupKept, restRegs, h]) rfl) _ _ _ _).trans
    (deviceEffect_haltSettle _ p)

theorem rd_lockup {a : Nat} (ha : a ∈ lockupKept) (s : State) (p : Nat) (r : Rec) :
    (s.lockup p r).rd a = (s.setBit (lockupBit p).1 (lockupBit p).2).rd a := by
  rw [lockup_eq, rd_haltSettle ha, rd_notify _ _ _ _ _ (nqstat_not_mem_lockupKept ha), State.rd_updPair]

theorem pair_lockup (s : State) (p : Nat) (r : Rec) : (s.lockup p r).pair p = lockedPair s.clk r (s.pair p) := by
  unfold State.pair
  rw [(deviceEffect_lockup s p r).pairs_eq]
  exact (State.pair_updPair _ p p _).trans (if_pos rfl)

theorem getLsbD_rd_setBit (s : State) (a : Nat) {i : Nat} (h : i < 64) : ((s.setBit a i).rd a).getLsbD i = true := by
  unfold State.setBit
  rw [State.rd_setFld, if_pos rfl, BitVec.getLsbD_ofNat, testBit_setBitsAt, if_pos ⟨le_rfl, by omega⟩, Nat.sub_self]
  simp [h]

/-- The pair has locked up: halted, nothing running, no reservation, its bit set, memory as it was (R241). -/
def LockedUp (p : Nat) (s t : State) : Prop :=
  (t.pair p).halt = some .lockup ∧ (t.pair p).run = none ∧ (t.pair p).resv = none ∧ SameMemory s t ∧
    (if p < 64 then (t.rd Addr.EXC_LOCKUP0).getLsbD p = true else (t.rd Addr.EXC_LOCKUP1).getLsbD (p - 64) = true)

theorem lockedUp_lockup {p : Nat} (hp : p < 104) (s : State) (r : Rec) : LockedUp p s (s.lockup p r) := by
  have hmaps : SameMemory s (s.lockup p r) := by
    obtain ⟨⟨d, τ, a, n, h⟩, -⟩ := deviceEffect_lockup s p r
    rw [h]; exact ⟨SameMaps.refl _, rfl⟩
  refine ⟨by rw [pair_lockup]; rfl, by rw [pair_lockup]; rfl, by rw [pair_lockup]; rfl, hmaps, ?_⟩
  split
  · next h =>
    have hbit : lockupBit p = (Addr.EXC_LOCKUP0, p) := if_pos h
    rw [rd_lockup (by decide), hbit]
    exact getLsbD_rd_setBit s _ h
  · next h =>
    have hbit : lockupBit p = (Addr.EXC_LOCKUP1, p - 64) := if_neg h
    rw [rd_lockup (by decide), hbit]
    exact getLsbD_rd_setBit s _ (by omega)

/-- A lockup leaves nothing for the command's end to do. -/
theorem atRest_lockup {s : State} (p : Nat) (r : Rec) (hq : Quiet s) (hout : s.out = []) : AtRest s (s.lockup p r) := by
  have hrd : ∀ a ∈ restRegs, (s.lockup p r).rd a = s.rd a := fun a ha =>
    (rd_lockup (List.mem_append_left _ ha) s p r).trans (State.rd_setBit_ne s _ (lockupBit_not_mem_restRegs ha))
  obtain ⟨⟨d, τ, a, n, h⟩, -⟩ := deviceEffect_lockup s p r
  rw [h] at hrd ⊢
  exact atRest_of_rd hq hout rfl rfl rfl hrd

/-! ## What a sentinel's escalation does -/

/-- An escalation whose entry capabilities fail their checks is a lockup (R239). -/
theorem escalate_lockup {s : State} {p : Nat} (h : esccOk (s.pair p).escc = false ∨ esscOk (s.pair p).essc = false)
    (prior : Option CtxRef) (esc : EscInfo) (r : Rec) : s.escalate p prior esc r = s.lockup p r := by
  have hbad : (esccOk (s.pair p).escc && esscOk (s.pair p).essc) = false := by rcases h with h | h <;> simp [h]
  unfold State.escalate
  exact if_pos (by rw [hbad]; rfl)

/-- The escalation bank at entry (R239). -/
def escEntered (escc essc : Cap) (prior : Option CtxRef) (r : Rec) (k : Bank) : Bank :=
  ({ k with pcc := escc.withOtype 0 true, status := 5, prior := prior, deliv := none, task := none,
            lazyCap := nullCap, gateLink := 0, ready := false, waitCd := none }.setReg 2 essc).setRegs 28 (recRegs r)

/-- An escalation in its steps (R239). -/
theorem escalate_enters {s : State} {p : Nat} (hescc : esccOk (s.pair p).escc = true) (hessc : esscOk (s.pair p).essc = true)
    (prior : Option CtxRef) (esc : EscInfo) (r : Rec) : s.escalate p prior esc r =
      (((s.switchTo p (some (escBank p))).updBank p (escBank p) (escEntered (s.pair p).escc (s.pair p).essc prior r)).updPair p
        (fun v => maskUpdate s.clk { v with esc := esc })).bump Addr.EXC_ESCCNT := by
  unfold State.escalate
  exact if_neg (by rw [hescc, hessc]; decide)

/-- The mask timer is apart from what runs and what is reserved (R227). -/
theorem maskUpdate_run_resv (clk : Nat) (v : Pair) : (maskUpdate clk v).run = v.run ∧ (maskUpdate clk v).resv = v.resv := by
  unfold maskUpdate
  split
  · exact ⟨rfl, rfl⟩
  split <;> exact ⟨rfl, rfl⟩

theorem flushShadow_of_none {v : Pair} (h : v.shadow = []) : flushShadow v = v := by
  unfold flushShadow; rw [h]; cases v; cases h; rfl

/-- Where no mode write is pending, a bank switch changes of the banks that one alone which runs next, and that one's state. -/
theorem bank_switchPair {v : Pair} (clk order o e : Nat) (h : v.shadow = []) : (switchPair clk order v (some o)).bank e =
    if e = o then { v.bank o with st := .running, lastRun := order } else v.bank e := by
  unfold switchPair
  dsimp only
  rw [bank_of_banks (maskUpdate_banks_shadow _ _).1, Pair.bank_setBank, flushShadow_of_none h]
  rfl

theorem switchPair_run_resv (clk order : Nat) (v : Pair) (dest : Option Nat) :
    (switchPair clk order v dest).run = dest ∧ (switchPair clk order v dest).resv = none := by
  unfold switchPair
  dsimp only
  rw [(maskUpdate_run_resv _ _).1, (maskUpdate_run_resv _ _).2]
  cases dest <;> exact ⟨rfl, rfl⟩

theorem pair_switchTo (s : State) (p : Nat) (dest : Option Nat) :
    (s.switchTo p dest).pair p = switchPair s.clk s.evd.nextId (s.pair p) dest := by
  unfold State.switchTo
  dsimp only
  exact (State.pair_updPair _ p p _).trans (if_pos rfl)

theorem bank_switchTo {s : State} {p : Nat} (o e : Nat) (h : (s.pair p).shadow = []) : (s.switchTo p (some o)).bank p e =
    if e = o then { s.bank p o with st := .running, lastRun := s.evd.nextId } else s.bank p e := by
  unfold State.bank
  rw [pair_switchTo, bank_switchPair _ _ _ _ h]

/-- The registers of the escalation bank at entry: the stack in c2, the record in c28 to c31 (R230, R239). -/
theorem reg_escEntered (escc essc : Cap) (prior : Option CtxRef) (r : Rec) (k : Bank) :
    (escEntered escc essc prior r k).reg 2 = essc ∧
      ∀ i < 4, (escEntered escc essc prior r k).reg (28 + i) = (recRegs r).getD i nullCap := by
  unfold escEntered recRegs
  simp only [Bank.setRegs, Bank.reg_setReg]
  refine ⟨rfl, fun i hi => ?_⟩
  interval_cases i <;> rfl

theorem fields_escEntered (escc essc : Cap) (prior : Option CtxRef) (r : Rec) (k : Bank) :
    (escEntered escc essc prior r k).pcc = escc.withOtype 0 true ∧ (escEntered escc essc prior r k).status = 5 ∧
      (escEntered escc essc prior r k).prior = prior := by
  unfold escEntered recRegs
  exact ⟨rfl, rfl, rfl⟩

/-! ## The fault of a load through an untagged capability -/

/-- LD through an authority that is not malformed but has no tag faults with CAP_TAG, the operand and the address (R51, R230). -/
theorem loadData_untagged {s : State} {c : SCtx} (size : Nat) (signed : Bool) (cd : RegIx) {cs1 : RegIx} (d : SCtx → State → Int)
    {a : Cap} (ha : s.src c.pair c.bank cs1.toNat = a) (hm : a.malformed = false) (ht : a.tag = false) :
    loadData size signed cd cs1 d c s = .flt (fltA capTag 1 (effAddr a (d c s))) s := by
  unfold loadData memLoad checkAccess
  simp only [ha, hm, ht, Bool.false_eq_true, if_false, Bool.not_false, if_true, Res.bind]

/-- A fault of its capability's tag is taken as it is: it is neither ARITH nor LAZY_STACK. -/
theorem faultOf_capTag (s : State) (p b detail addr slot : Nat) (impr : Bool) :
    s.faultOf p b (fltA capTag detail addr) slot impr = s.takeFault p b (fltA capTag detail addr) slot impr := rfl

/-- A fault in an escalation context is a lockup (R241). -/
theorem takeFault_escalated {s : State} {p b : Nat} (h : (s.bank p b).escd = true) (f : PFault) (slot : Nat) (impr : Bool) :
    s.takeFault p b f slot impr = (s.updPair p (fun v => { v with resv := none })).lockup p (faultRec s p b f slot impr) := by
  have hbank : (s.updPair p (fun v => { v with resv := none })).bank p b = s.bank p b := by
    unfold State.bank; rw [State.pair_updPair, if_pos rfl]; rfl
  unfold State.takeFault
  exact if_pos (by rw [hbank]; exact h)

/-- On a sentinel every other fault enters bank 1 (R229). -/
theorem takeFault_sentinel {s : State} {p b : Nat} (hp : isSentinel p = true) (h : (s.bank p b).escd = false) (f : PFault) (slot : Nat)
    (impr : Bool) : s.takeFault p b f slot impr =
      ((s.updPair p (fun v => { v with resv := none })).preempt p b).escalate p (some (.bank b)) ⟨none, none, none⟩
        (faultRec s p b f slot impr) := by
  have hbank : (s.updPair p (fun v => { v with resv := none })).bank p b = s.bank p b := by
    unfold State.bank; rw [State.pair_updPair, if_pos rfl]; rfl
  unfold State.takeFault
  dsimp only
  rw [if_neg (by rw [hbank, h]; decide), if_pos hp]

/-- The pair's reservation taken away leaves its banks, its capabilities of entry and its mode writes. -/
theorem bank_loseOwnResv (s : State) (p q e : Nat) : (s.updPair p (fun v => { v with resv := none })).bank q e = s.bank q e := by
  unfold State.bank
  rw [State.pair_updPair]
  split
  · next h => rw [h]; rfl
  · rfl

/-! ## A load through an untagged capability as a command -/

section
variable {p b : Nat} {cd cs1 : RegIx} {imm : Imm} {s : State} {a : Cap}

/-- LD through an untagged authority has CAP_TAG taken, where that leaves the command's end nothing to do. -/
theorem ld_untagged (ha : a = s.src p b cs1.toNat) (hm : a.malformed = false) (ht : a.tag = false) (hbusy : s.tallyBusy p b = false)
    (hi : Issues (.ld p cd cs1 imm) p b s)
    (hrest : AtRest (issued s p b) ((issued s p b).takeFault p b (fltA capTag 1 (effAddr a (immDisp imm 8))) 0 false)) (hq : Quiet s) :
    exec (.ld p cd cs1 imm) s =
      .next (((issued s p b).takeFault p b (fltA capTag 1 (effAddr a (immDisp imm 8))) 0 false).stepped p) := by
  have hall := AtRest.trans ((sameButSequencing_issued s p b).atRest hq) hrest
  have hbody := fun n => loadData_untagged (c := (issued s p b).ctxFor p b n) 8 false cd (fun _ _ => immDisp imm 8)
    ((src_issued s p b cs1.toNat).trans ha.symm) hm ht
  exact (syllableFaultsAreTaken (.ld p cd cs1 imm) p b s _ _ _ _ rfl hi rfl rfl (hbody _)).1 hbusy
    (atRest_of_sequencing hall (sameButSequencing_stepped hall.1 p))

/-- In an escalation, or on a sentinel whose entry capabilities fail, a fault locks the pair up (R239, R241). -/
theorem takeFault_lockup {u : State} (hout : u.out = []) (f : PFault) (slot : Nat) (impr : Bool)
    (h : (u.bank p b).escd = true ∨ (96 ≤ p ∧ (esccOk (u.pair p).escc = false ∨ esscOk (u.pair p).essc = false))) :
    ∃ v r, OwnEffect u v ∧ u.takeFault p b f slot impr = v.lockup p r := by
  have hresv := OwnEffect.updPair hout p (fun v => { v with resv := none })
  by_cases hesc : (u.bank p b).escd = true
  · exact ⟨_, _, hresv, takeFault_escalated hesc f slot impr⟩
  · obtain ⟨hp, hbad⟩ := h.resolve_left hesc
    have hpair : ((u.updPair p (fun v => { v with resv := none })).preempt p b).pair p =
        { u.pair p with resv := none }.setBank b { u.bank p b with st := .preempted } := by
      unfold State.preempt State.updBank
      rw [State.pair_setBank, if_pos rfl, State.pair_updPair, if_pos rfl, bank_loseOwnResv]
    refine ⟨(u.updPair p (fun v => { v with resv := none })).preempt p b, faultRec u p b f slot impr,
      hresv.trans (.updBank hresv.out_eq p b _), ?_⟩
    rw [takeFault_sentinel (decide_eq_true hp) (by simpa using hesc)]
    exact escalate_lockup (by rw [hpair]; exact hbad) _ _ _

theorem ld_locks_up (ha : a = s.src p b cs1.toNat) (hm : a.malformed = false) (ht : a.tag = false) (hbusy : s.tallyBusy p b = false)
    (hi : Issues (.ld p cd cs1 imm) p b s) (hq : Quiet s)
    (h : (s.bank p b).escd = true ∨ (96 ≤ p ∧ (esccOk (s.pair p).escc = false ∨ esscOk (s.pair p).essc = false))) :
    ∃ t, exec (.ld p cd cs1 imm) s = .next t ∧ LockedUp p s t := by
  have hseq := sameButSequencing_issued s p b
  have hissued := hseq.atRest hq
  obtain ⟨r, l, hpair⟩ := hseq.pair_self
  obtain ⟨v, rec, hown, hfault⟩ := takeFault_lockup (p := p) (b := b) hseq.out_eq (fltA capTag 1 (effAddr a (immDisp imm 8))) 0 false
    (by rw [hseq.bank_eq, hpair]; exact h)
  obtain ⟨-, hquiet, hhb⟩ := hown.atRest hissued.2.1
  have hrest := AtRest.trans ⟨hown.out_eq, hquiet, hhb⟩ (atRest_lockup p rec hquiet hown.out_eq)
  refine ⟨_, ld_untagged ha hm ht hbusy hi (hfault ▸ hrest) hq, ?_⟩
  rw [hfault]
  have hend := sameButSequencing_stepped hrest.1 p
  obtain ⟨r', l', hp⟩ := hend.pair_self
  obtain ⟨hhalt, hrun, hresv, hmem, hbit⟩ := lockedUp_lockup hi.1 v rec
  refine ⟨by rw [hp]; exact hhalt, by rw [hp]; exact hrun, by rw [hp]; exact hresv,
    SameMemory.trans hseq.sameMemory (SameMemory.trans hown.sameMemory (SameMemory.trans hmem hend.sameMemory)), ?_⟩
  rw [State.rd_of_dev hend.sameUnits.1, State.rd_of_dev hend.sameUnits.1]
  exact hbit

end

/-! ## A sentinel enters its escalation bank -/

section
variable {p : Nat} {s : State} (hp : isSentinel p = true) (hshadow : (s.pair p).shadow = [])
  (hescc : esccOk (s.pair p).escc = true) (hessc : esscOk (s.pair p).essc = true)
include hp hshadow hescc hessc

/-- The pair after an escalation runs bank 1, entered over the context it left; its other banks are as they were (R239). -/
theorem escalate_sentinel (prior : Option CtxRef) (esc : EscInfo) (r : Rec) :
    ((s.escalate p prior esc r).pair p).run = some 1 ∧ ((s.escalate p prior esc r).pair p).resv = none ∧
      (∃ k, (s.escalate p prior esc r).bank p 1 = escEntered (s.pair p).escc (s.pair p).essc prior r k) ∧
      (∀ e, e ≠ 1 → (s.escalate p prior esc r).bank p e = s.bank p e) := by
  have hbank1 : escBank p = 1 := if_pos hp
  rw [escalate_enters hescc hessc, hbank1]
  have hpair : ∀ k : State, ((k.updPair p (fun v => maskUpdate s.clk { v with esc := esc })).bump Addr.EXC_ESCCNT).pair p =
      maskUpdate s.clk { k.pair p with esc := esc } := fun k =>
    (State.pair_updPair k p p (fun v => maskUpdate s.clk { v with esc := esc })).trans (if_pos rfl)
  have hbank : ∀ (k : State) e, ((k.updPair p (fun v => maskUpdate s.clk { v with esc := esc })).bump Addr.EXC_ESCCNT).bank p e =
      k.bank p e := fun k e => by
    unfold State.bank; rw [hpair, bank_of_banks (maskUpdate_banks_shadow _ _).1]; rfl
  obtain ⟨hrun, hresv⟩ := switchPair_run_resv s.clk s.evd.nextId (s.pair p) (some 1)
  rw [hpair, (maskUpdate_run_resv _ _).1, (maskUpdate_run_resv _ _).2]
  unfold State.updBank
  rw [State.pair_setBank, if_pos rfl, pair_switchTo]
  refine ⟨hrun, hresv, ⟨_, by rw [hbank, State.bank_setBank, if_pos ⟨rfl, rfl⟩]⟩, fun e he => ?_⟩
  rw [hbank, State.bank_setBank, if_neg (fun h => he h.2), bank_switchTo _ _ hshadow, if_neg he]

omit hp hshadow in
/-- An escalation counts itself and otherwise changes its pair alone: the command's end has nothing to do. -/
theorem atRest_escalate (hq : Quiet s) (hout : s.out = []) (prior : Option CtxRef) (esc : EscInfo) (r : Rec) :
    AtRest s (s.escalate p prior esc r) ∧ SameMemory s (s.escalate p prior esc r) := by
  rw [escalate_enters hescc hessc]
  have hcount : ∀ a ∈ restRegs, a ≠ Addr.EXC_ESCCNT := by decide
  exact ⟨atRest_of_rd hq hout rfl rfl rfl fun a ha => State.rd_bump_ne _ (hcount a ha), SameMaps.refl _, rfl⟩

end

/-- The record of a load's CAP_TAG in a bank 0 of no task, with no mode write pending: the cause and the operand, the address, the
bundle's address, 0 (R230). -/
theorem recRegs_ld {u : State} {p : Nat} (htask : (u.bank p 0).task = none) (hshadow : (u.pair p).shadow = []) (ea : Nat) :
    recRegs (faultRec u p 0 (fltA capTag 1 ea) 0 false) =
      [intCap (BitVec.ofNat 64 (0x01 + 1 * 2 ^ 8)), intCap (BitVec.ofNat 64 ea), intCap (BitVec.ofNat 64 (u.bank p 0).pcc.addr),
        nullCap] := by
  have hrec : faultRec u p 0 (fltA capTag 1 ea) 0 false =
      { cause := 1, detail := 1, slot := 0, impr := false, shadow := false, upper := false, bank := 0, tsbn := 0, orig := 0,
        addr := ea, bundle := (u.bank p 0).pcc.addr, reason := 0, chan := none } := by
    unfold faultRec
    simp only [htask, hshadow]
    rfl
  have hnull : intCap 0#64 = nullCap := rfl
  rw [hrec]
  simp [recRegs, b2n, hnull]

/-- A sentinel whose running bank 0 is in no escalation takes a fault: it runs bank 1, entered with the record (R229, R239). -/
theorem takeFault_enters {u : State} {p : Nat} (hp : isSentinel p = true) (hesc : (u.bank p 0).escd = false)
    (hshadow : (u.pair p).shadow = []) (hescc : esccOk (u.pair p).escc = true) (hessc : esscOk (u.pair p).essc = true)
    (hq : Quiet u) (hout : u.out = []) (f : PFault) (slot : Nat) (impr : Bool) :
    AtRest u (u.takeFault p 0 f slot impr) ∧ SameMemory u (u.takeFault p 0 f slot impr) ∧
      ((u.takeFault p 0 f slot impr).pair p).run = some 1 ∧ ((u.takeFault p 0 f slot impr).pair p).resv = none ∧
      (∃ k, (u.takeFault p 0 f slot impr).bank p 1 =
        escEntered (u.pair p).escc (u.pair p).essc (some (.bank 0)) (faultRec u p 0 f slot impr) k) ∧
      (u.takeFault p 0 f slot impr).bank p 0 = { u.bank p 0 with st := .preempted } := by
  have hlost := OwnEffect.updPair hout p (fun v => { v with resv := none })
  have hown := hlost.trans (.updBank hlost.out_eq p 0 (fun k => { k with st := .preempted }))
  obtain ⟨-, hquiet, hhb⟩ := hown.atRest hq
  have hpair : ((u.updPair p (fun v => { v with resv := none })).preempt p 0).pair p =
      { u.pair p with resv := none }.setBank 0 { u.bank p 0 with st := .preempted } := by
    unfold State.preempt State.updBank
    rw [State.pair_setBank, if_pos rfl, State.pair_updPair, if_pos rfl, bank_loseOwnResv]
  have hbank : ((u.updPair p (fun v => { v with resv := none })).preempt p 0).bank p 0 = { u.bank p 0 with st := .preempted } := by
    unfold State.preempt
    rw [updBank_bank_self, bank_loseOwnResv]
  rw [takeFault_sentinel hp hesc]
  obtain ⟨hrun, hresv, ⟨k, hk⟩, hother⟩ := escalate_sentinel (s := (u.updPair p (fun v => { v with resv := none })).preempt p 0) hp
    (by rw [hpair]; exact hshadow) (by rw [hpair]; exact hescc) (by rw [hpair]; exact hessc) (some (.bank 0)) ⟨none, none, none⟩
    (faultRec u p 0 f slot impr)
  obtain ⟨hrest, hmem⟩ := atRest_escalate (s := (u.updPair p (fun v => { v with resv := none })).preempt p 0)
    (by rw [hpair]; exact hescc) (by rw [hpair]; exact hessc) hquiet hown.out_eq (some (.bank 0)) ⟨none, none, none⟩
    (faultRec u p 0 f slot impr)
  rw [hpair] at hk
  exact ⟨AtRest.trans ⟨hown.out_eq, hquiet, hhb⟩ hrest, SameMemory.trans hown.sameMemory hmem, hrun, hresv, ⟨k, hk⟩,
    (hother 0 (by decide)).trans hbank⟩

end Sys2Proof.Laws

namespace Sys2Proof
open Sys2Proof.Machine Sys2Proof.Laws

/-- Settles O24: a load's fault enters bank 1 of a sentinel with its record, or locks the pair up. -/
theorem sentinelFaults : Obligations.SentinelFaults := by
  refine ⟨?_, fun p b cd cs1 imm s a hq ha hm ht hbusy hi h => ?_⟩
  · intro p cd cs1 imm s a hlo hhi hq ha hm ht hesc hshadow hbusy hescc hessc htask hi
    have hseq := sameButSequencing_issued s p 0
    obtain ⟨hout, hquiet, -⟩ := hseq.atRest hq
    obtain ⟨r, l, hpair⟩ := hseq.pair_self
    have hbank := hseq.bank_eq p 0
    obtain ⟨hrest, hmem, hrun, hresv, ⟨k, hk⟩, hk0⟩ := takeFault_enters (u := issued s p 0) (decide_eq_true hlo)
      (by rw [hbank]; exact hesc) (by rw [hpair]; exact hshadow) (by rw [hpair]; exact hescc) (by rw [hpair]; exact hessc) hquiet hout
      (fltA capTag 1 (effAddr a (immDisp imm 8))) 0 false
    have hrec := recRegs_ld (u := issued s p 0) (p := p) (by rw [hbank]; exact htask) (by rw [hpair]; exact hshadow)
      (effAddr a (immDisp imm 8))
    have hend := sameButSequencing_stepped hrest.1 p
    obtain ⟨r', l', hp'⟩ := hend.pair_self
    obtain ⟨hpcc, hstatus, hprior⟩ := fields_escEntered (s.pair p).escc (s.pair p).essc (some (.bank 0))
      (faultRec (issued s p 0) p 0 (fltA capTag 1 (effAddr a (immDisp imm 8))) 0 false) k
    obtain ⟨hstack, hregs⟩ := reg_escEntered (s.pair p).escc (s.pair p).essc (some (.bank 0))
      (faultRec (issued s p 0) p 0 (fltA capTag 1 (effAddr a (immDisp imm 8))) 0 false) k
    rw [hpair] at hk
    rw [hrec, hbank] at hregs
    rw [hbank] at hk0
    refine ⟨_, ld_untagged ha hm ht hbusy hi hrest hq, by rw [hp']; exact hrun, by rw [hp']; exact hresv, ?_⟩
    rw [hend.bank_eq, hend.bank_eq, hk, hk0]
    exact ⟨hpcc, hstatus, hprior, hstack, hregs 0 (by decide), hregs 1 (by decide), hregs 2 (by decide), hregs 3 (by decide), rfl,
      fun _ => rfl, SameMemory.trans hseq.sameMemory (SameMemory.trans hmem hend.sameMemory)⟩
  · obtain ⟨t, hexec, hhalt, hrun, hresv, hmem, hbit⟩ := ld_locks_up ha hm ht hbusy hi hq h
    exact ⟨t, hexec, hhalt, hrun, hresv, hmem, hbit⟩

end Sys2Proof
end

section
/-!
PROOFS. Numbers in bytes, and the granules of gates in plain memory (O29, O30).
-/
namespace Sys2Proof.Laws
open Sys2Proof.Machine
open Sys2Proof (Instr Imm)

/-! ## Parts of a little-endian number -/

theorem bytesNat_drop (l : List Byte) : ∀ i, bytesNat l / 256 ^ i = bytesNat (l.drop i) := by
  induction l with
  | nil => intro i; simp [bytesNat]
  | cons x l ih =>
    intro i
    cases i with
    | zero => simp
    | succ i =>
      have hx := x.isLt
      rw [List.drop_succ_cons, ← ih, bytesNat, Nat.pow_succ', ← Nat.div_div_eq_div_mul]
      congr 1
      omega

theorem bytesNat_take (l : List Byte) : ∀ m, bytesNat l % 256 ^ m = bytesNat (l.take m) := by
  induction l with
  | nil => intro m; simp [bytesNat]
  | cons x l ih =>
    intro m
    cases m with
    | zero => simp [bytesNat, Nat.mod_one]
    | succ m =>
      have hx := x.isLt
      rw [List.take_succ_cons, bytesNat, bytesNat, ← ih, Nat.pow_succ', Nat.mod_mul]
      congr 1
      · omega
      · congr 2; omega

theorem bitsAt_bytesNat (l : List Byte) (i m : Nat) : bitsAt (bytesNat l) (8 * i) (8 * m) = bytesNat ((l.drop i).take m) := by
  unfold bitsAt
  rw [Nat.pow_mul, Nat.pow_mul, ← bytesNat_take, ← bytesNat_drop]

theorem bytesAt_drop_take (s : State) (sp : Space) (pa : Nat) {n i m : Nat} (h : i + m ≤ n) :
    ((s.bytesAt sp pa n).drop i).take m = s.bytesAt sp (pa + i) m := by
  have hlen : ∀ n pa, (s.bytesAt sp pa n).length = n := fun n pa => by rw [bytesAt_eq_map]; simp
  obtain ⟨r, rfl⟩ : ∃ r, n = i + (m + r) := ⟨n - i - m, by omega⟩
  rw [bytesAt_add, bytesAt_add, List.drop_left' (hlen i pa), List.take_left' (hlen m _)]

/-- A field of whole bytes of a number in memory is the number in those bytes. -/
theorem bitsAt_numAt (s : State) (sp : Space) (pa : Nat) {n i m : Nat} (h : i + m ≤ n) :
    bitsAt (s.numAt sp pa n) (8 * i) (8 * m) = s.numAt sp (pa + i) m := by
  unfold State.numAt
  rw [bitsAt_bytesNat, bytesAt_drop_take s sp pa h]

theorem cellGet_bytesAt (s : State) (sp : Space) (pa : Nat) {n i m : Nat} (h : i + m ≤ n) :
    cellGet (s.bytesAt sp pa n) i m = s.numAt sp (pa + i) m := by
  unfold cellGet State.numAt
  rw [bytesAt_drop_take s sp pa h]

theorem numAt_lt (s : State) (sp : Space) (pa n : Nat) : s.numAt sp pa n < 256 ^ n := by
  have h := bytesNat_lt (s.bytesAt sp pa n)
  rwa [show (s.bytesAt sp pa n).length = n by rw [bytesAt_eq_map]; simp] at h

/-- A field of whole bytes of a granule's capability is the number in those bytes. -/
theorem bitsAt_capAt (s : State) (sp : Space) (pa : Nat) {i m : Nat} (h : i + m ≤ 16) :
    bitsAt (s.capAt sp pa).bits.toNat (8 * i) (8 * m) = s.numAt sp (pa + i) m := by
  have hbits : (s.capAt sp pa).bits.toNat = s.numAt sp pa 16 := by
    unfold State.capAt
    exact (BitVec.toNat_ofNat _ _).trans (Nat.mod_eq_of_lt (numAt_lt s sp pa 16))
  rw [hbits, bitsAt_numAt s sp pa h]

/-- A field of a field. -/
theorem bitsAt_bitsAt (x : Nat) {lo w lo' w' : Nat} (h : lo' + w' ≤ w) : bitsAt (bitsAt x lo w) lo' w' = bitsAt x (lo + lo') w' := by
  refine Nat.eq_of_testBit_eq fun i => ?_
  rw [testBit_bitsAt, testBit_bitsAt, testBit_bitsAt, Nat.add_assoc]
  by_cases hi : i < w'
  · simp [show lo' + i < w by omega]
  · simp [hi]

/-! ## Fields of STATUS -/

theorem toNat_status_stSet (k : Bank) {lo w : Nat} (v : Nat) (h : lo + w ≤ 64) :
    (k.stSet lo w v).status.toNat = setBitsAt k.status.toNat lo w v :=
  (BitVec.toNat_ofNat _ _).trans (Nat.mod_eq_of_lt (setBitsAt_lt k.status.isLt h))

theorem stBit_stSet (k : Bank) {lo w : Nat} (v i : Nat) (h : lo + w ≤ 64) :
    (k.stSet lo w v).stBit i = if lo ≤ i ∧ i < lo + w then v.testBit (i - lo) else k.stBit i := by
  unfold Bank.stBit
  rw [toNat_status_stSet k v h, testBit_setBitsAt]

theorem gdepth_stSet_same (k : Bank) (v : Nat) : (k.stSet 8 8 v).gdepth = v % 256 := by
  unfold Bank.gdepth
  exact (congrArg (bitsAt · 8 8) (toNat_status_stSet k v (by decide))).trans (bitsAt_setBitsAt_same _ _ _ _)

theorem gdepth_stSet_apart (k : Bank) {lo w : Nat} (v : Nat) (h : lo + w ≤ 8) : (k.stSet lo w v).gdepth = k.gdepth := by
  unfold Bank.gdepth
  rw [toNat_status_stSet k v (by omega), bitsAt_setBitsAt_apart _ _ _ _ _ _ (.inr h)]

theorem gdepth_lt (k : Bank) : k.gdepth < 256 := Nat.mod_lt _ (by decide)

/-! ## The registers that a gate clears -/

/-- c12 to c15 and c28 to c31 are null, the others stay (R247, R248). -/
theorem reg_clearGateRegs (k : Bank) (n : Nat) :
    (clearGateRegs k).reg n = if n ∈ [12, 13, 14, 15, 28, 29, 30, 31] then nullCap else k.reg n := by
  have hfold : ∀ (l : List Nat) (k : Bank), (l.foldl (fun k n => k.setReg n nullCap) k).reg n = if n ∈ l then nullCap else k.reg n := by
    intro l
    induction l with
    | nil => intro k; simp
    | cons m l ih =>
      intro k
      rw [List.foldl_cons, ih, Bank.reg_setReg]
      by_cases hl : n ∈ l
      · simp [hl]
      · by_cases hm : n = m
        · simp [hm]
        · by_cases h0 : n = 0
          · subst h0; simp [hl, hm, Bank.reg]
          · simp [hl, hm, h0]
  exact hfold _ k

theorem status_setReg (k : Bank) (n : Nat) (c : Cap) : (k.setReg n c).status = k.status := by
  unfold Bank.setReg; split <;> rfl

theorem status_clearGateRegs (k : Bank) : (clearGateRegs k).status = k.status := by
  unfold clearGateRegs
  simp only [List.foldl, status_setReg]

/-- A bank changed, and the mask timer with it, is the bank changed. -/
theorem bank_updBank_maskUpdate (s : State) (p b clk : Nat) (f : Bank → Bank) :
    ((s.updBank p b f).updPair p (maskUpdate clk)).bank p b = f (s.bank p b) := by
  have hpair : ((s.updBank p b f).updPair p (maskUpdate clk)).pair p = maskUpdate clk ((s.updBank p b f).pair p) :=
    (State.pair_updPair _ p p _).trans (if_pos rfl)
  unfold State.bank
  rw [hpair, bank_of_banks (maskUpdate_banks_shadow _ _).1]
  exact updBank_bank_self s p b f

/-! ## Granules of plain memory -/

/-- Gates find plain memory from bank b of pair p: bare mode (R309), no region checks (R331), no combining entry (R217), no error in
memory (R339), nothing eclipsed (R81). -/
def GateMemory (s : State) (p b : Nat) : Prop :=
  (s.bank p b).ttbc.toNat % 2 = 0 ∧ s.rcuOn = false ∧ s.tally.chans = [] ∧ s.latent = [] ∧ s.bitmap = []

/-- A granule that pair p may reach in DRAM. -/
def GateGranule (p va : Nat) : Prop := va % 16 = 0 ∧ va + 16 ≤ 2 ^ 41 ∧ (isSentinel p = true → 0x80000 ≤ va)

/-- A capability of all of memory: gates check their own operand, not each granule. -/
def allMemory : Cap := mintCap 0xFFFF 0 0 (2 ^ 64)

theorem checkAccess_allMemory {va : Nat} (h : va + 16 ≤ 2 ^ 41) : checkAccess allMemory va 16 [] = none := by
  have hmal : allMemory.malformed = false := by decide
  have htag : allMemory.tag = true := rfl
  have htype : allMemory.otype = 0 := by decide
  have hbase : allMemory.base = 0 := by decide
  have htop : allMemory.top = 2 ^ 64 := by decide
  unfold checkAccess
  rw [hmal, htag, htype, hbase, htop]
  simp [Cap.hasAll]
  omega

section
variable {s : State} {p b va : Nat} (hm : GateMemory s p b) (hg : GateGranule p va)
include hm hg

theorem plainAccess_granule : PlainAccess s p b allMemory va 16 [] := by
  obtain ⟨hbare, hrcu, htally, hlat, -⟩ := hm
  obtain ⟨halign, htop, hsen⟩ := hg
  exact ⟨checkAccess_allMemory htop, by decide, by omega, htop, hsen, hbare, hrcu, htally, hlat⟩

/-- A granule that a gate reads is the capability in memory: nothing of it is eclipsed (R48, R87). -/
theorem getGranule_plain {c : SCtx} (hp : c.pair = p) (hb : c.bank = b) : getGranule c true va s = .ok (s.capAt .dram va) s := by
  have hplan := planCap_plain (plainAccess_granule hm hg) .load
  obtain ⟨hbare, -, htally, hlat, hbit⟩ := hm
  have hpass : ∀ x : Cap, s.barrier (s.via p b).pair (s.via p b).ttbc x = (x, s) := fun x =>
    barrier_passes hbare hlat fun ⟨_, _, _, hecl⟩ => by
      unfold State.eclipsed at hecl; rw [hbit] at hecl; exact absurd hecl Bool.false_ne_true
  subst hp hb
  unfold getGranule
  rw [hplan]
  simp only [Res.bind, capLoad_plain htally hlat, hpass, Bool.and_true]
  generalize s.capAt .dram va = x
  obtain ⟨bits, tag⟩ := x
  cases tag <;> rfl

end

end Sys2Proof.Laws
end

section
/-!
PROOFS. The returns from a gate and from an event (O30).
-/
namespace Sys2Proof.Laws
open Sys2Proof.Machine
open Sys2Proof (Instr Imm)

/-! ## RETG (R248) -/

/-- The bank after a gate's return (R248). -/
def gateBackBank (pcc c2 c3 lz : Cap) (link word : Nat) (k : Bank) : Bank :=
  { (((((((clearGateRegs k).setReg 1 nullCap).setReg 2 c2).setReg 3 c3).stSet 0 1 (bitsAt word 0 1)).stSet 3 1 (bitsAt word 1 1)).stSet 4 1
      (bitsAt word 2 1)).stSet 8 8 (k.gdepth - 1) with
    pcc := pcc, lazyCap := lz, gateLink := BitVec.ofNat 64 link }

theorem gateBack_eq (c : SCtx) (pcc c2 c3 lz : Cap) (link word : Nat) (s : State) : gateBack c pcc c2 c3 lz link word s =
    (s.updBank c.pair c.bank (gateBackBank pcc c2 c3 lz link word)).updPair c.pair (maskUpdate s.clk) := rfl

theorem reg_gateBackBank (pcc c2 c3 lz : Cap) (link word : Nat) (k : Bank) (n : Nat) :
    (gateBackBank pcc c2 c3 lz link word k).reg n = if n = 2 then c2 else if n = 3 then c3
      else if n ∈ [1, 12, 13, 14, 15, 28, 29, 30, 31] then nullCap else k.reg n := by
  have hregs : (gateBackBank pcc c2 c3 lz link word k).reg n =
      ((((clearGateRegs k).setReg 1 nullCap).setReg 2 c2).setReg 3 c3).reg n := rfl
  rw [hregs, Bank.reg_setReg, Bank.reg_setReg, Bank.reg_setReg, reg_clearGateRegs]
  by_cases h0 : n = 0
  · subst h0; simp [Bank.reg]
  by_cases h2 : n = 2
  · subst h2; simp
  by_cases h3 : n = 3
  · subst h3; simp
  by_cases h1 : n = 1
  · subst h1; simp
  simp only [if_neg h0, if_neg h2, if_neg h3, List.mem_cons, h1, false_or, if_false]

theorem gdepth_gateBackBank (pcc c2 c3 lz : Cap) (link word : Nat) (k : Bank) :
    (gateBackBank pcc c2 c3 lz link word k).gdepth = k.gdepth - 1 := by
  have hlt := gdepth_lt k
  exact (gdepth_stSet_same _ _).trans (Nat.mod_eq_of_lt (by omega))

theorem evm_gateBackBank (pcc c2 c3 lz : Cap) (link word : Nat) (k : Bank) :
    (gateBackBank pcc c2 c3 lz link word k).evm = word.testBit 0 := by
  have hevm : ∀ k' : Bank, ((((k'.stSet 0 1 (bitsAt word 0 1)).stSet 3 1 (bitsAt word 1 1)).stSet 4 1 (bitsAt word 2 1)).stSet 8 8
      (k.gdepth - 1)).stBit 0 = word.testBit 0 := fun k' => by
    rw [stBit_stSet _ _ _ (by decide), if_neg (by decide), stBit_stSet _ _ _ (by decide), if_neg (by decide),
      stBit_stSet _ _ _ (by decide), if_neg (by decide), stBit_stSet _ _ _ (by decide), if_pos (by decide), testBit_bitsAt]
    simp
  exact hevm _

section
variable {s : State} {c : SCtx} {cs1 : RegIx} {g : Cap}

/-- A gate's return over a frame of plain memory that records the current depth, where no lazy save is outstanding (R248). -/
theorem gateReturn_plain (hg : s.src c.pair c.bank cs1.toNat = g) (htyped : checkTyped g 0xFF03 = none)
    (hapend : (s.bank c.pair c.bank).apend = false) (hlzs : (s.bank c.pair c.bank).lzs = false)
    (hdepth : 0 < (s.bank c.pair c.bank).gdepth) (hlink : g.addr = (s.bank c.pair c.bank).gateLink.toNat)
    (halign : g.addr % 16 = 0) (htop : g.addr + 96 ≤ 2 ^ 41) (hsen : isSentinel c.pair = true → 0x80000 ≤ g.addr)
    (hm : GateMemory s c.pair c.bank) (hrec : s.numAt .dram (g.addr + 73) 1 = (s.bank c.pair c.bank).gdepth) :
    gateReturn cs1 c s = .ok true (gateBack c (s.capAt .dram g.addr) (s.capAt .dram (g.addr + 16)) (s.capAt .dram (g.addr + 32))
      (s.capAt .dram (g.addr + 48)) (s.numAt .dram (g.addr + 64) 8) (s.numAt .dram (g.addr + 72) 8) s) := by
  have hget : ∀ i, i < 6 → getGranule c true (g.addr + 16 * i) s = .ok (s.capAt .dram (g.addr + 16 * i)) s := fun i hi =>
    getGranule_plain hm ⟨by omega, by omega, fun h => Nat.le_trans (hsen h) (Nat.le_add_right _ _)⟩ rfl rfl
  have hlow : bitsAt (s.capAt .dram (g.addr + 64)).bits.toNat 0 64 = s.numAt .dram (g.addr + 64) 8 :=
    bitsAt_capAt s .dram (g.addr + 64) (i := 0) (m := 8) (by decide)
  have hword : bitsAt (s.capAt .dram (g.addr + 64)).bits.toNat 64 64 = s.numAt .dram (g.addr + 72) 8 :=
    bitsAt_capAt s .dram (g.addr + 64) (i := 8) (m := 8) (by decide)
  have hfield : bitsAt (s.numAt .dram (g.addr + 72) 8) 8 8 = (s.bank c.pair c.bank).gdepth :=
    (bitsAt_numAt s .dram (g.addr + 72) (i := 1) (m := 1) (by decide)).trans hrec
  have hreload : s.lazyReload c.pair c.bank = .ok () s := if_pos (by rw [hlzs]; rfl)
  unfold gateReturn
  dsimp only
  rw [hg, htyped]
  dsimp only
  rw [if_neg (by rw [hapend]; decide), if_neg (by rw [← hlink]; simp; omega), show getGranule c true g.addr s = _ from hget 0 (by decide)]
  simp only [Res.bind, show getGranule c true (g.addr + 16) s = _ from hget 1 (by decide),
    show getGranule c true (g.addr + 32) s = _ from hget 2 (by decide), show getGranule c true (g.addr + 48) s = _ from hget 3 (by decide),
    show getGranule c true (g.addr + 64) s = _ from hget 4 (by decide), hlow, hword, hfield, hreload, beq_self_eq_true, Bool.not_true,
    Bool.false_eq_true, if_false]
  rfl

end

/-- A change of a bank, and of the mask timer with it, is the pair's own. -/
theorem ownEffect_updBank_maskUpdate {s : State} (hout : s.out = []) (p b clk : Nat) (f : Bank → Bank) :
    OwnEffect s ((s.updBank p b f).updPair p (maskUpdate clk)) :=
  have h := OwnEffect.updBank hout p b f
  h.trans (.updPair h.out_eq p _)

/-- Plain memory stays plain where the pair's banks and the memory are as they were. -/
theorem gateMemory_issued {s : State} {p b : Nat} (h : GateMemory s p b) : GateMemory (issued s p b) p b := by
  have hseq := sameButSequencing_issued s p b
  obtain ⟨hbare, hrcu, htally, hlat, hbit⟩ := h
  obtain ⟨⟨-, -, -, -, ubit, -⟩, -⟩ := hseq.sameMemory
  exact ⟨by rw [hseq.bank_eq]; exact hbare, by rw [hseq.rcuOn_eq]; exact hrcu, by rw [hseq.tally_eq]; exact htally,
    by rw [hseq.latent_eq]; exact hlat, ubit.trans hbit⟩

section
variable {p b : Nat} {cs1 : RegIx} {s : State} {g : Cap}

/-- RETG over such a frame: the bank as the frame says, memory and units as before (R248). -/
theorem retg_returns (hg : g = s.src p b cs1.toNat) (hq : Quiet s) (htyped : checkTyped g 0xFF03 = none)
    (hapend : (s.bank p b).apend = false) (hlzs : (s.bank p b).lzs = false) (hdepth : 0 < (s.bank p b).gdepth)
    (hlink : g.addr = (s.bank p b).gateLink.toNat) (halign : g.addr % 16 = 0) (htop : g.addr + 96 ≤ 2 ^ 41)
    (hsen : isSentinel p = true → 0x80000 ≤ g.addr) (hm : GateMemory s p b)
    (hrec : s.numAt .dram (g.addr + 73) 1 = (s.bank p b).gdepth) (hi : Issues (.retg p cs1) p b s) :
    ∃ t, exec (.retg p cs1) s = .next t ∧ (∃ lz, t.bank p b = gateBackBank (s.capAt .dram g.addr) (s.capAt .dram (g.addr + 16))
      (s.capAt .dram (g.addr + 32)) lz (s.numAt .dram (g.addr + 64) 8) (s.numAt .dram (g.addr + 72) 8) (s.bank p b)) ∧
      SameMemory s t ∧ SameUnits s t := by
  have hseq := sameButSequencing_issued s p b
  have hcap := capAt_of_maps hseq.sameMemory.1
  have hnum := numAt_of_mem hseq.sameMemory.1.1
  have hbank := bank_issued s p b
  have hbody := fun n => gateReturn_plain (s := issued s p b) (c := (issued s p b).ctxFor p b n) (cs1 := cs1)
    ((src_issued s p b cs1.toNat).trans hg.symm) htyped (hbank ▸ hapend) (hbank ▸ hlzs) (hbank ▸ hdepth) (hbank ▸ hlink) halign htop hsen
    (gateMemory_issued hm) (by rw [hnum, hrec]; exact congrArg Bank.gdepth hbank.symm)
  simp only [hcap, hnum, gateBack_eq] at hbody
  have hown := fun f => hseq.ownEffect.trans (ownEffect_updBank_maskUpdate hseq.out_eq p b (issued s p b).clk f)
  have hend := fun f => sameButSequencing_ended (hown f).out_eq false p
  exact ⟨_, syllableCompletes (.retg p cs1) p b s _ _ _ _ rfl hi rfl rfl (hbody _) ((hown _).atRest hq),
    ⟨_, ((hend _).bank_eq p b).trans ((bank_updBank_maskUpdate _ p b _ _).trans (congrArg _ hbank))⟩,
    SameMemory.trans (hown _).sameMemory (hend _).sameMemory, SameUnits.trans (hown _).sameUnits (hend _).sameUnits⟩

end

/-! ## RETE (R237) -/

/-- The tags that `RETE` clears of a bank: of c28 to c31, and of local capabilities (R237). -/
def reteUntags (n : Nat) (c : Cap) : Bool := 28 ≤ n || !c.has permGL

/-- One register of the handler's bank at `RETE` (R237). -/
def reteStep (k : Bank) (n : Nat) : Bank := if reteUntags n (k.reg n) then k.setReg n (k.reg n).untag else k

theorem reg_reteStep (k : Bank) (m n : Nat) :
    (reteStep k m).reg n = if n = m ∧ reteUntags n (k.reg n) then (k.reg n).untag else k.reg n := by
  unfold reteStep
  by_cases hm : n = m
  · subst hm
    by_cases hc : reteUntags n (k.reg n) = true
    · rw [if_pos hc, if_pos ⟨rfl, hc⟩, Bank.reg_setReg, if_pos rfl]
      split
      · next h0 => subst h0; rfl
      · rfl
    · rw [if_neg hc, if_neg fun h => hc h.2]
  · rw [if_neg (fun h : n = m ∧ _ => hm h.1)]
    split
    · rw [Bank.reg_setReg, if_neg hm]
      split
      · next h0 => subst h0; rfl
      · rfl
    · rfl

theorem reg_foldl_reteStep (l : List Nat) (n : Nat) : ∀ k : Bank,
    (l.foldl reteStep k).reg n = if n ∈ l ∧ reteUntags n (k.reg n) then (k.reg n).untag else k.reg n := by
  induction l with
  | nil => intro k; rw [if_neg fun h => List.not_mem_nil h.1]; rfl
  | cons m l ih =>
    intro k
    rw [List.foldl_cons, ih, reg_reteStep]
    have hagain : reteUntags n (k.reg n).untag = reteUntags n (k.reg n) := rfl
    by_cases hc : reteUntags n (k.reg n) = true
    · by_cases hm : n = m
      · rw [if_pos (⟨hm, hc⟩ : _ ∧ _), if_pos (⟨List.mem_cons.mpr (.inl hm), hc⟩ : _ ∧ _)]
        exact ite_self _
      · simp only [hm, hc, and_true, if_false, List.mem_cons, false_or]
    · simp [hc]

theorem reg_reteClear (k : Bank) {n : Nat} :
    (reteClear k).reg n = if n < 32 ∧ reteUntags n (k.reg n) then (k.reg n).untag else k.reg n := by
  refine (reg_foldl_reteStep (List.range 32) n k).trans ?_
  simp only [List.mem_range]

/-- A bank whose event has ended, but for its tags (R237). -/
def endedBank (st : BankState) (k : Bank) : Bank := { (k.stSet 3 1 0).stSet 4 1 0 with st := st, prior := none, deliv := none }

theorem reg_endedBank (st : BankState) (k : Bank) (n : Nat) : (endedBank st k).reg n = k.reg n := rfl

/-- The handler's bank after `RETE` (R237). -/
def reteBank (st : BankState) (k : Bank) : Bank := endedBank st (reteClear k)

/-- `RETE` in a bank that is no escalation's, with no lazy state and no delivery record to end (R237). -/
theorem rete_plain {s : State} {p b : Nat} (hesc : b ≠ escBank p) (hdeliv : (s.bank p b).deliv = none)
    (hlazy : (s.bank p b).lazy = false) (hlzs : (s.bank p b).lzs = false) :
    s.rete p b = (s.updBank p b (reteBank .idle)).resumeCtx p (s.bank p b).prior := by
  unfold State.rete
  dsimp only
  rw [if_neg hesc, if_neg hesc, hlazy, hlzs, hdeliv]
  dsimp only
  rw [if_neg (by decide)]
  simp only [if_neg hesc]
  rfl

/-- The pair switches to a bank that resumes plainly; its region set is read first where it runs a task (R270). -/
theorem resumeBank_switches {s : State} {p o : Nat} (hplain : ResumesPlainly s p o) :
    s.resumeBank p o = s.switchTo p (some o) ∨
      ∃ ds, s.resumeBank p o = (s.updBank p o (fun k => { k with region := ds })).switchTo p (some o) := by
  unfold State.resumeBank
  cases htask : (s.bank p o).task with
  | none => exact .inl rfl
  | some t =>
    obtain hnone | ⟨hentry, hrcu, htally, hlat, hpoison⟩ := hplain
    · rw [hnone] at htask; cases htask
    cases hent : (s.bank p o).entry with
    | none => rw [hent] at hentry; cases hentry
    | some te =>
      rw [hent] at hentry
      simp only [Option.any_some, Bool.and_eq_true, Bool.or_eq_true, Bool.not_eq_true', beq_iff_eq, decide_eq_true_eq] at hentry
      obtain ⟨⟨⟨⟨hbare, htop⟩, -⟩, hsen⟩, hbad⟩ := hentry
      have hdram : InDram p (te.tsb.addr + 0x400, 256) := ⟨by dsimp only; omega, by dsimp only; omega, fun hs => by
        have hlow := hsen.resolve_left (by rw [hs]; decide)
        dsimp only; omega⟩
      obtain ⟨ds, hread⟩ := regionRead_plain hbare hdram hbad hrcu htally hlat hpoison
      have hat : s.entryAt p o t = (some te, s) := by unfold State.entryAt; rw [hent]
      simp only [hat, hread]
      exact .inr ⟨ds, rfl⟩

/-- Bank o of pair p runs after s, its registers as they were, the other banks too; the reservation is lost. -/
def RunsInstead (p o : Nat) (s t : State) : Prop :=
  OwnEffect s t ∧ (t.pair p).run = some o ∧ (t.pair p).resv = none ∧ (t.bank p o).st = .running ∧
    (∀ n, (t.bank p o).reg n = (s.bank p o).reg n) ∧ ∀ e, e ≠ o → t.bank p e = s.bank p e

theorem runsInstead_switchTo {s : State} {p : Nat} (o : Nat) (hout : s.out = []) (hshadow : (s.pair p).shadow = []) :
    RunsInstead p o s (s.switchTo p (some o)) := by
  have hbank := fun e => bank_switchTo o e hshadow
  obtain ⟨hrun, hresv⟩ := switchPair_run_resv s.clk s.evd.nextId (s.pair p) (some o)
  refine ⟨ownEffect_switchTo hout p _, by rw [pair_switchTo]; exact hrun, by rw [pair_switchTo]; exact hresv, ?_, fun n => ?_,
    fun e he => ?_⟩
  · rw [hbank, if_pos rfl]
  · rw [hbank, if_pos rfl]; rfl
  · rw [hbank, if_neg he]

theorem runsInstead_resumeBank {s : State} {p o : Nat} (hout : s.out = []) (hshadow : (s.pair p).shadow = [])
    (hplain : ResumesPlainly s p o) : RunsInstead p o s (s.resumeBank p o) := by
  rcases resumeBank_switches hplain with h | ⟨ds, h⟩ <;> rw [h]
  · exact runsInstead_switchTo o hout hshadow
  · have hupd := OwnEffect.updBank hout p o (fun k => { k with region := ds })
    have hpair : ((s.updBank p o (fun k => { k with region := ds })).pair p).shadow = [] := by
      unfold State.updBank; rw [State.pair_setBank, if_pos rfl]; exact hshadow
    obtain ⟨hown, hrun, hresv, hst, hregs, hother⟩ := runsInstead_switchTo o hupd.out_eq hpair
    refine ⟨hupd.trans hown, hrun, hresv, hst, fun n => (hregs n).trans ?_, fun e he => (hother e he).trans ?_⟩
    · rw [updBank_bank_self]; rfl
    · exact updBank_bank_ne _ _ _ he

/-- The same after a change of another bank. -/
theorem runsInstead_updBank {s : State} {p b o : Nat} (f : Bank → Bank) (hout : s.out = []) (hshadow : (s.pair p).shadow = []) (hne : o ≠ b)
    (hplain : ResumesPlainly s p o) : RunsInstead p o (s.updBank p b f) ((s.updBank p b f).resumeBank p o) := by
  have hupd := OwnEffect.updBank hout p b f
  refine runsInstead_resumeBank hupd.out_eq ?_
    (resumesPlainly_of_same hplain (updBank_bank_ne s p f hne) hupd.sameMemory.1 rfl hupd.tally_eq)
  unfold State.updBank
  rw [State.pair_setBank, if_pos rfl]
  exact hshadow

/-- The handler's bank after `RETE`: idle, its bits as before, the tags of c28 to c31 and of local capabilities cleared (R237). -/
theorem reg_reteBank (st : BankState) (k : Bank) : (reteBank st k).st = st ∧ (∀ n, 28 ≤ n → n < 32 → ((reteBank st k).reg n).tag = false) ∧
    (∀ n, n < 28 → (k.reg n).has permGL = false → ((reteBank st k).reg n).tag = false) ∧
    (∀ n, ((reteBank st k).reg n).bits = (k.reg n).bits) := by
  have hreg : ∀ n, (reteBank st k).reg n = if n < 32 ∧ reteUntags n (k.reg n) then (k.reg n).untag else k.reg n :=
    fun n => (reg_endedBank st _ n).trans (reg_reteClear k)
  refine ⟨rfl, fun n hlo hhi => ?_, fun n hn hgl => ?_, fun n => ?_⟩
  · rw [hreg, if_pos ⟨hhi, by unfold reteUntags; simp [hlo]⟩]; rfl
  · rw [hreg, if_pos ⟨by omega, by unfold reteUntags; simp [hgl]⟩]; rfl
  · rw [hreg]; split <;> rfl

/-- At gate depth 0, with no ARITH pending and no lazy state to reload, RETE ends its event (R237). -/
theorem eventReturn_plain {c : SCtx} {p b : Nat} {s u : State} (hreload : s.lazyReload p b = .ok () s) (hdepth : (s.bank p b).gdepth = 0)
    (hapend : (s.bank p b).apend = false) (hu : s.rete p b = u) (hp : c.pair = p := by rfl) (hb : c.bank = b := by rfl) :
    eventReturn c s = .ok true u := by
  subst hp hb
  unfold eventReturn
  simp only [hdepth, hapend, hreload, hu, Res.bind, beq_self_eq_true, Bool.not_true, Bool.false_eq_true, if_false]

section
variable {p b o : Nat} {s : State} (hq : Quiet s) (hne : o ≠ b) (hplain : ResumesPlainly s p o) (hshadow : (s.pair p).shadow = [])
  (hi : Issues (.rete p) p b s)
include hq hne hplain hshadow hi

/-- RETE whose body changes its bank and resumes another completes with both (R237). -/
theorem rete_completes {f : Bank → Bank} (hbody : ∀ n, eventReturn ((issued s p b).ctxFor p b n) (issued s p b) =
      .ok true (((issued s p b).updBank p b f).resumeBank p o)) :
    ∃ t, exec (.rete p) s = .next t ∧ t.bank p b = f (s.bank p b) ∧ (t.pair p).run = some o ∧ (t.pair p).resv = none ∧
      (t.bank p o).st = .running ∧ (∀ n, (t.bank p o).reg n = (s.bank p o).reg n) ∧ SameMemory s t ∧ SameUnits s t := by
  have hseq := sameButSequencing_issued s p b
  have hidle := OwnEffect.updBank hseq.out_eq p b f
  obtain ⟨r, l, hpair⟩ := hseq.pair_self
  obtain ⟨hown, hrun, hresv, hst, hregs, hother⟩ := runsInstead_updBank (b := b) f hseq.out_eq (by rw [hpair]; exact hshadow) hne
    (resumesPlainly_of_same hplain (hseq.bank_eq p o) hseq.sameMemory.1 hseq.rcuOn_eq hseq.tally_eq)
  have hall := hseq.ownEffect.trans (hidle.trans hown)
  have hend := sameButSequencing_ended hall.out_eq false p
  obtain ⟨r', l', hp⟩ := hend.pair_self
  refine ⟨_, syllableCompletes (.rete p) p b s _ _ _ _ rfl hi rfl rfl (hbody _) (hall.atRest hq), ?_, (congrArg Pair.run hp).trans hrun,
    (congrArg Pair.resv hp).trans hresv, (congrArg Bank.st (hend.bank_eq p o)).trans hst, fun n => ?_,
    SameMemory.trans hall.sameMemory hend.sameMemory, SameUnits.trans hall.sameUnits hend.sameUnits⟩
  · calc _ = _ := hend.bank_eq p b
      _ = _ := hother b hne.symm
      _ = _ := updBank_bank_self _ p b f
      _ = _ := congrArg f (bank_issued s p b)
  · calc _ = _ := congrArg (Bank.reg · n) (hend.bank_eq p o)
      _ = _ := hregs n
      _ = _ := congrArg (Bank.reg · n) ((updBank_bank_ne _ p f hne).trans (hseq.bank_eq p o))

/-- RETE in an event's bank over a bank that resumes plainly (R237). -/
theorem rete_returns (hprior : (s.bank p b).prior = some (.bank o)) (hesc : b ≠ escBank p) (hdeliv : (s.bank p b).deliv = none)
    (hdepth : (s.bank p b).gdepth = 0) (hapend : (s.bank p b).apend = false) (hlazy : (s.bank p b).lazy = false)
    (hlzs : (s.bank p b).lzs = false) :
    ∃ t, exec (.rete p) s = .next t ∧ t.bank p b = reteBank .idle (s.bank p b) ∧ (t.pair p).run = some o ∧ (t.pair p).resv = none ∧
      (t.bank p o).st = .running ∧ (∀ n, (t.bank p o).reg n = (s.bank p o).reg n) ∧ SameMemory s t ∧ SameUnits s t := by
  have hbank := bank_issued s p b
  have hreload : (issued s p b).lazyReload p b = .ok () (issued s p b) := if_pos (by rw [hbank, hlzs]; rfl)
  refine rete_completes hq hne hplain hshadow hi fun n => eventReturn_plain hreload (by rw [hbank]; exact hdepth)
    (by rw [hbank]; exact hapend) ?_
  rw [rete_plain hesc (by rw [hbank]; exact hdeliv) (by rw [hbank]; exact hlazy) (by rw [hbank]; exact hlzs), hbank, hprior]
  rfl

end

end Sys2Proof.Laws

namespace Sys2Proof
open Sys2Proof.Machine Sys2Proof.Laws

/-- Settles O30: a return from a gate, and a return from an event to another bank. -/
theorem gateAndEventReturns : Obligations.GateAndEventReturns := by
  intro p b cs1 s g hg hq
  refine ⟨?_, ?_⟩
  · intro htyped hapend hlzs hdepth hlink halign htop hsen hbare hrcu htally hlat hbit hrec hi
    obtain ⟨t, hexec, ⟨lz, hbank⟩, hmem, hunits⟩ := retg_returns hg hq htyped hapend hlzs hdepth hlink halign htop hsen
      ⟨hbare, hrcu, htally, hlat, hbit⟩ hrec hi
    have hevm : (s.numAt .dram (g.addr + 72) 8).testBit 0 = (s.numAt .dram (g.addr + 72) 1).testBit 0 := by
      rw [← bitsAt_numAt s .dram (g.addr + 72) (n := 8) (i := 0) (m := 1) (by decide), testBit_bitsAt]; rfl
    refine ⟨t, hexec, ?_⟩
    rw [hbank]
    refine ⟨rfl, by rw [reg_gateBackBank]; rfl, by rw [reg_gateBackBank]; rfl, fun n hn => ?_, fun n hn => ?_, gdepth_gateBackBank _ _ _ _ _ _ _,
      (evm_gateBackBank _ _ _ _ _ _ _).trans hevm, ?_, hmem, hunits⟩
    · have h23 : n ≠ 2 ∧ n ≠ 3 := by constructor <;> (rintro rfl; exact absurd hn (by decide))
      rw [reg_gateBackBank, if_neg h23.1, if_neg h23.2, if_pos hn]
    · have hout : n ∉ [1, 12, 13, 14, 15, 28, 29, 30, 31] := by
        simp only [List.mem_cons, List.not_mem_nil, or_false]; omega
      rw [reg_gateBackBank, if_neg (by omega), if_neg (by omega), if_neg hout]
    · exact (BitVec.toNat_ofNat _ _).trans (Nat.mod_eq_of_lt (numAt_lt s .dram _ 8))
  · intro o hprior hne hplain hesc hdeliv hdepth hapend hlazy hlzs hshadow hi
    obtain ⟨t, hexec, hbank, hrun, hresv, hst, hregs, hmem, hunits⟩ := rete_returns hq hne hplain hshadow hi hprior hesc hdeliv hdepth
      hapend hlazy hlzs
    obtain ⟨hidle, hevents, hlocal, hbits⟩ := reg_reteBank .idle (s.bank p b)
    rw [← hbank] at hidle hevents hlocal hbits
    exact ⟨t, hexec, hrun, hst, hidle, hevents, hlocal, hbits, hregs, hresv, hmem, hunits⟩

end Sys2Proof
end

section
/-!
PROOFS. A gate's frame written to plain memory (O29).
-/
namespace Sys2Proof.Laws
open Sys2Proof.Machine
open Sys2Proof (Instr Imm)

/-! ## Capabilities written to consecutive granules -/

/-- The capabilities of a list written to the granules from va on. -/
def storeCaps (s : State) (va : Nat) : List Cap → State
  | [] => s
  | v :: vs => storeCaps (s.capWrite .dram va v) (va + 16) vs

theorem latent_unpoison (n : Nat) : ∀ (s : State) (line : Nat), s.latent = [] → (s.unpoison line n).latent = [] := by
  induction n with
  | zero => exact fun _ _ h => h
  | succ n ih => exact fun s line h => ih _ _ (by dsimp only; rw [h]; rfl)

/-- A write meets no error in memory that was not there. -/
theorem latent_capWrite {s : State} (h : s.latent = []) (va : Nat) (v : Cap) : (s.capWrite .dram va v).latent = [] := by
  have hclear : ∀ (u : State) (n : Nat), (u.clearTagsFrom .dram va n).latent = u.latent := fun u n => by
    obtain ⟨tg, ht⟩ := clearTagsFrom_dram_eq n u va
    rw [ht]
  exact (hclear _ _).trans (latent_unpoison _ s _ h)

theorem capAt_of_bytes {s t : State} {pa : Nat} (hbytes : ∀ a, pa ≤ a → a < pa + 16 → t.byteAt .dram a = s.byteAt .dram a)
    (htag : t.tagAt .dram pa = s.tagAt .dram pa) : t.capAt .dram pa = s.capAt .dram pa := by
  have hnum : t.bytesAt .dram pa 16 = s.bytesAt .dram pa 16 := by
    rw [bytesAt_eq_map, bytesAt_eq_map]
    refine List.map_congr_left fun i hi => hbytes _ (Nat.le_add_right _ _) ?_
    have := List.mem_range.mp hi
    omega
  unfold State.capAt State.numAt
  rw [hnum, htag]

theorem sameUnits_refl (s : State) : SameUnits s s :=
  ⟨rfl, rfl, rfl, rfl, rfl, rfl, rfl, rfl, rfl, rfl, rfl, rfl, rfl, rfl, rfl, rfl, rfl⟩

/-- What the capabilities written leave: each in its granule; bytes and tags elsewhere, units and banks as they were. -/
structure CapsStored (s t : State) (va : Nat) (vs : List Cap) : Prop where
  caps : ∀ i v, vs[i]? = some v → t.capAt .dram (va + 16 * i) = v
  bytes : SameBytesOutside s t va (16 * vs.length)
  tags : SameTagsOutside s t va (16 * vs.length)
  units : SameUnits s t
  pairs : ∀ q, ∃ r, t.pair q = { s.pair q with resv := r }
  rest : ∀ s0, AtRest s0 s → AtRest s0 t

theorem capsStored (vs : List Cap) : ∀ (s : State) (va : Nat), va % 16 = 0 → CapsStored s (storeCaps s va vs) va vs := by
  induction vs with
  | nil =>
    intro s va _
    exact ⟨fun i v h => by simp at h, fun _ _ => rfl, fun _ _ => rfl, sameUnits_refl s, fun q => ⟨_, rfl⟩,
      fun _ h => h⟩
  | cons v vs ih =>
    intro s va halign
    obtain ⟨hcap, hbytes, htags, -, hunits, -⟩ := capStored_capWrite s halign v
    have hrest := ih (s.capWrite .dram va v) (va + 16) (by omega)
    have hfirst : (storeCaps s va (v :: vs)).capAt .dram va = v :=
      (capAt_of_bytes (fun a _ ha => hrest.bytes a (.inl ha)) (hrest.tags va (.inl (by omega)))).trans hcap
    refine ⟨fun i w hw => ?_, fun a ha => ?_, fun a ha => ?_, SameUnits.trans hunits hrest.units, fun q => ?_,
      fun s0 h => hrest.rest s0 (atRest_dataWrite s va (natBytes 16 v.bits.toNat) h)⟩
    · cases i with
      | zero => obtain rfl := Option.some.inj hw; exact hfirst
      | succ i =>
        rw [show va + 16 * (i + 1) = va + 16 + 16 * i by omega]
        exact hrest.caps i w hw
    · rw [List.length_cons] at ha
      exact (hrest.bytes a (by omega)).trans (hbytes a (by omega))
    · rw [List.length_cons] at ha
      exact (hrest.tags a (by omega)).trans (htags a (by omega))
    · obtain ⟨r, hr⟩ := hrest.pairs q
      obtain ⟨r', hr'⟩ := pair_dataWrite s va (natBytes 16 v.bits.toNat) q
      have hpair : (s.capWrite .dram va v).pair q = { s.pair q with resv := r' } := hr'
      exact ⟨r, hr.trans (by rw [hpair])⟩

/-! ## The frame's granules planned and written (R246) -/

theorem granulesFrom_cons {va : Nat} (h : va + 16 < 2 ^ 64) (v : Cap) (vs : List Cap) :
    granulesFrom va (v :: vs) = (va, v) :: granulesFrom (va + 16) vs := by
  have haddr : addrOf ((va : Int) + 16) = va + 16 := by unfold addrOf; omega
  unfold granulesFrom
  rw [haddr]
  cases vs <;> rfl

section
variable {c : SCtx}

theorem planFrame_plain {s : State} (hm : GateMemory s c.pair c.bank) (vs : List Cap) : ∀ va, va % 16 = 0 → va + 16 * vs.length ≤ 2 ^ 41 →
    (isSentinel c.pair = true → 0x80000 ≤ va) →
    planFrame c s (granulesFrom va vs) = ((granulesFrom va vs).map (fun g => (plainPiece g.1, g.2)), .ok () s) := by
  induction vs with
  | nil => exact fun _ _ _ _ => rfl
  | cons v vs ih =>
    intro va halign htop hsen
    rw [List.length_cons] at htop
    have hplan := planCap_plain (plainAccess_granule hm ⟨halign, by omega, hsen⟩) (storeKind v)
    rw [granulesFrom_cons (by omega)]
    unfold planFrame
    dsimp only
    rw [hplan]
    dsimp only
    rw [ih (va + 16) (by omega) (by omega) fun h => Nat.le_trans (hsen h) (Nat.le_add_right _ _)]
    rfl

theorem writeFrame_plain (vs : List Cap) : ∀ (s : State) (i va : Nat), s.tally.chans = [] → s.latent = [] → i + vs.length ≤ 6 →
    va + 16 * vs.length ≤ 2 ^ 41 →
    writeFrame c 63 i s ((granulesFrom va vs).map (fun g => (plainPiece g.1, g.2))) = storeCaps s va vs := by
  induction vs with
  | nil => exact fun _ _ _ _ _ _ _ => rfl
  | cons v vs ih =>
    intro s i va htally hlat hi htop
    rw [List.length_cons] at hi htop
    have hbit : (63).testBit i = true := by
      have hlt : i < 6 := by omega
      interval_cases i <;> rfl
    have hunits : (s.capWrite .dram va v).tally = s.tally := (sameUnits_dataWrite s va (natBytes 16 v.bits.toNat)).2.1
    rw [granulesFrom_cons (by omega), List.map_cons]
    unfold writeFrame
    dsimp only
    rw [hbit, if_pos rfl, capStore_plain htally hlat,
      ih _ _ _ (by rw [hunits]; exact htally) (latent_capWrite hlat va v) (by omega) (by omega)]
    rfl

/-- A frame of six granules of plain memory is written whole (R246). -/
theorem putFrame_plain {s : State} (hm : GateMemory s c.pair c.bank) {vs : List Cap} {va : Nat} (hlen : vs.length ≤ 6) (halign : va % 16 = 0)
    (htop : va + 16 * vs.length ≤ 2 ^ 41) (hsen : isSentinel c.pair = true → 0x80000 ≤ va) :
    putFrame c (granulesFrom va vs) s = .ok () (storeCaps s va vs) := by
  have hplan := planFrame_plain hm vs va halign htop hsen
  obtain ⟨-, -, htally, hlat, -⟩ := hm
  unfold putFrame
  rw [hplan]
  exact congrArg (Res.ok ()) (writeFrame_plain vs s 0 va htally hlat (by omega) htop)

end

end Sys2Proof.Laws
end

section
/-!
PROOFS. The entry of a gate (O29).
-/
namespace Sys2Proof.Laws
open Sys2Proof.Machine
open Sys2Proof (Instr Imm)

/-! ## The commit of INVOKE (R247) -/

/-- A bank that enters code with a gate link and a lazy area (R247). -/
def enterAt (pcc : Cap) (link : Word) (lz : Cap) (k : Bank) : Bank := { k with pcc := pcc, gateLink := link, lazyCap := lz }

theorem reg_enterAt (pcc : Cap) (link : Word) (lz : Cap) (k : Bank) (n : Nat) : (enterAt pcc link lz k).reg n = k.reg n := rfl

theorem gdepth_enterAt (pcc : Cap) (link : Word) (lz : Cap) (k : Bank) : (enterAt pcc link lz k).gdepth = k.gdepth := rfl

/-- STATUS at a gate's entry (R247): one level deeper, lazy state left to the callee where `lz`, EVM where the descriptor says so. -/
def gateStatus (depth ctl : Nat) (lz : Bool) (k : Bank) : Bank :=
  let k1 := ((k.stSet 8 8 depth).stSet 3 1 (b2n lz)).stSet 4 1 0
  if ctl.testBit 16 then k1.stSet 0 1 1 else k1

theorem reg_gateStatus (depth ctl : Nat) (lz : Bool) (k : Bank) (n : Nat) : (gateStatus depth ctl lz k).reg n = k.reg n := by
  unfold gateStatus
  dsimp only
  split <;> rfl

theorem gdepth_gateStatus {depth : Nat} (h : depth < 256) (ctl : Nat) (lz : Bool) (k : Bank) :
    (gateStatus depth ctl lz k).gdepth = depth := by
  have hdepth : (((k.stSet 8 8 depth).stSet 3 1 (b2n lz)).stSet 4 1 0).gdepth = depth := by
    rw [gdepth_stSet_apart _ _ (by decide), gdepth_stSet_apart _ _ (by decide), gdepth_stSet_same, Nat.mod_eq_of_lt h]
  unfold gateStatus
  dsimp only
  split
  · rw [gdepth_stSet_apart _ _ (by decide), hdepth]
  · exact hdepth

/-- The bank after a gate's entry (R247). -/
def gateBank (entry data stack c2 : Cap) (f ctl : Nat) (lz : Bool) (k : Bank) : Bank :=
  enterAt (entry.withOtype 0 true) (BitVec.ofNat 64 f) (if lz then lazyCapOf c2 else nullCap) (gateStatus (k.gdepth + 1) ctl lz
    ((((clearGateRegs k).setReg 1 (mintCap 0 0xFF03 f (f + 96))).setReg 2 stack).setReg 3 data))

theorem gateCommit_eq (c : SCtx) (entry data stack c2 : Cap) (f ctl : Nat) (s : State) : gateCommit c entry data stack c2 f ctl s =
    (s.updBank c.pair c.bank (gateBank entry data stack c2 f ctl (!isSentinel c.pair))).updPair c.pair (maskUpdate s.clk) := rfl

theorem reg_gateBank (entry data stack c2 : Cap) (f ctl : Nat) (lz : Bool) (k : Bank) (n : Nat) :
    (gateBank entry data stack c2 f ctl lz k).reg n = if n = 0 then nullCap else if n = 3 then data else if n = 2 then stack
      else if n = 1 then mintCap 0 0xFF03 f (f + 96) else if n ∈ [12, 13, 14, 15, 28, 29, 30, 31] then nullCap else k.reg n := by
  unfold gateBank
  rw [reg_enterAt, reg_gateStatus, Bank.reg_setReg, Bank.reg_setReg, Bank.reg_setReg, reg_clearGateRegs]
  by_cases h0 : n = 0
  · rw [if_pos h0, if_pos h0]
  · simp only [if_neg h0]

theorem gdepth_gateBank (entry data stack c2 : Cap) (f ctl : Nat) (lz : Bool) {k : Bank} (h : k.gdepth < 255) :
    (gateBank entry data stack c2 f ctl lz k).gdepth = k.gdepth + 1 :=
  (gdepth_enterAt _ _ _ _).trans (gdepth_gateStatus (by omega) ctl lz _)

/-! ## The checks of INVOKE (R245) -/

theorem firstBadArg_none {c : SCtx} {s : State} {bs : List Byte} (l : List Nat)
    (h : ∀ i ∈ l, argOk (s.src c.pair c.bank (4 + i)) (cellGet bs (0x40 + 16 * i) 8) (cellGet bs (0x48 + 16 * i) 8) = true) :
    firstBadArg c s bs l = none := by
  induction l with
  | nil => rfl
  | cons i l ih =>
    unfold firstBadArg
    rw [if_pos (h i List.mem_cons_self), ih fun j hj => h j (List.mem_cons_of_mem _ hj)]

/-- The conditions under which a gate is entered (R245): the descriptor at a, with its capabilities, the caller's c2, the frame at f. -/
structure GateOpen (s : State) (p b a f : Nat) (c2 : Cap) : Prop where
  reserved : descReserved (s.bytesAt .dram a 192) = false
  target : checkTarget (s.capAt .dram a) = none
  args : ∀ i, i < 8 → argOk (s.src p b (4 + i)) (s.numAt .dram (a + 0x40 + 16 * i) 8) (s.numAt .dram (a + 0x48 + 16 * i) 8) = true
  depth : (s.bank p b).gdepth < 255
  stack : calleeStackOk (s.capAt .dram (a + 32)) (s.numAt .dram (a + 0x30) 2) = true
  lazyArea : isSentinel p = false → lazyOk c2 = true
  frame : (f : Int) = frameAt p c2
  room : frameOk p c2 f = true
  top : f + 96 ≤ 2 ^ 41
  sentinel : isSentinel p = true → 0x80000 ≤ f

/-- c2 is aligned where it may hold a frame, and so is the frame below it (R198, R245). -/
theorem frame_aligned {p f : Nat} {c2 : Cap} (hlazy : isSentinel p = false → lazyOk c2 = true) (hf : (f : Int) = frameAt p c2)
    (hroom : frameOk p c2 f = true) : f % 16 = 0 := by
  have haddr : c2.addr % 16 = 0 := by
    cases hp : isSentinel p
    · have h := hlazy hp
      simp only [lazyOk, Bool.and_eq_true, beq_iff_eq] at h
      exact h.1.1.1.2
    · simp only [frameOk, hp, Bool.not_true, Bool.false_or, Bool.and_eq_true, beq_iff_eq] at hroom
      exact hroom.2.2
  unfold frameAt at hf
  split at hf <;> omega

/-- The checks of a gate that is open pass, and the frame is written before the entry (R245, R246). -/
theorem gateCheck_passes {s : State} {c : SCtx} {g c2 : Cap} {f : Nat} (hm : GateMemory s c.pair c.bank)
    (hc2 : s.src c.pair c.bank 2 = c2) (ho : GateOpen s c.pair c.bank g.addr f c2) :
    gateCheck c g (s.capAt .dram g.addr) (s.capAt .dram (g.addr + 16)) (s.capAt .dram (g.addr + 32)) (s.bytesAt .dram g.addr 192) s =
      .ok true (gateCommit c (s.capAt .dram g.addr) (s.capAt .dram (g.addr + 16)) (s.capAt .dram (g.addr + 32)) c2 f
        (s.numAt .dram (g.addr + 0x30) 8) (storeCaps s f (frameGranules s c c2 (s.src c.pair c.bank 3)))) := by
  have hctl : cellGet (s.bytesAt .dram g.addr 192) 0x30 8 = s.numAt .dram (g.addr + 0x30) 8 := cellGet_bytesAt s .dram _ (by decide)
  have hmin : bitsAt (s.numAt .dram (g.addr + 0x30) 8) 0 16 = s.numAt .dram (g.addr + 0x30) 2 :=
    bitsAt_numAt s .dram (g.addr + 0x30) (i := 0) (m := 2) (by decide)
  have hargs : firstBadArg c s (s.bytesAt .dram g.addr 192) (List.range 8) = none := firstBadArg_none _ fun i hi => by
    have hlt := List.mem_range.mp hi
    rw [cellGet_bytesAt s .dram _ (by omega), cellGet_bytesAt s .dram _ (by omega), ← Nat.add_assoc, ← Nat.add_assoc]
    exact ho.args i hlt
  have haddr : addrOf (f : Int) = f := by have := ho.top; unfold addrOf; omega
  have hput := putFrame_plain (c := c) hm (vs := frameGranules s c c2 (s.src c.pair c.bank 3)) (va := f) le_rfl
    (frame_aligned ho.lazyArea ho.frame ho.room) ho.top ho.sentinel
  have hlazy : (!isSentinel c.pair && !lazyOk c2) = false := by
    cases hp : isSentinel c.pair
    · rw [ho.lazyArea hp]; rfl
    · rfl
  have hdepth : (s.bank c.pair c.bank).gdepth ≠ 255 := Nat.ne_of_lt ho.depth
  unfold gateCheck
  simp only [hc2, ho.reserved, ho.target, hargs, hctl, hmin, ho.stack, hlazy, ← ho.frame, ho.room, haddr, hput, Res.bind,
    Bool.false_eq_true, if_false, Option.isSome_none, hdepth, Bool.not_true]

/-- The whole of INVOKE where its gate passes and is open (R245, R247). -/
theorem gateCall_plain {s : State} {c : SCtx} {cs1 : RegIx} {g c2 : Cap} {f : Nat} (hg : s.src c.pair c.bank cs1.toNat = g)
    (htyped : checkTyped g 0xFF02 = none) (hperms : g.hasAll [permIV, permLD, permLC] = true)
    (hapend : (s.bank c.pair c.bank).apend = false) (hbase : g.base ≤ g.addr) (htop : g.addr + 192 ≤ g.top) (halign : g.addr % 64 = 0)
    (hphys : g.addr + 192 ≤ 2 ^ 41) (hsen : isSentinel c.pair = true → 0x80000 ≤ g.addr) (hm : GateMemory s c.pair c.bank)
    (hc2 : s.src c.pair c.bank 2 = c2) {c3 : Cap} (hc3 : s.src c.pair c.bank 3 = c3) (ho : GateOpen s c.pair c.bank g.addr f c2) :
    gateCall cs1 c s = .ok true (gateCommit c (s.capAt .dram g.addr) (s.capAt .dram (g.addr + 16)) (s.capAt .dram (g.addr + 32)) c2 f
        (s.numAt .dram (g.addr + 0x30) 8) (storeCaps s f (frameGranules s c c2 c3))) := by
  have hget : ∀ i, i < 3 → getGranule c true (g.addr + 16 * i) s = .ok (s.capAt .dram (g.addr + 16 * i)) s := fun i hi =>
    getGranule_plain hm ⟨by omega, by omega, fun h => Nat.le_trans (hsen h) (Nat.le_add_right _ _)⟩ rfl rfl
  have hcheck := gateCheck_passes hm hc2 ho
  obtain ⟨hbare, hrcu, htally, hlat, -⟩ := hm
  obtain ⟨l, hplan, hread⟩ := planRange_dram (s := s) (v := s.via c.pair c.bank) (ea := g.addr) (n := 192) (by decide)
    ⟨hphys, by dsimp only; omega, hsen⟩ hbare hrcu htally hlat
  unfold gateCall
  dsimp only
  rw [hg, htyped]
  dsimp only
  rw [if_neg (by rw [hperms]; decide), if_neg (by rw [hapend]; decide), if_neg (by simp; omega), if_neg (by simp; omega), hplan]
  simp only [Res.bind, show getGranule c true g.addr s = _ from hget 0 (by decide),
    show getGranule c true (g.addr + 16) s = _ from hget 1 (by decide), show getGranule c true (g.addr + 32) s = _ from hget 2 (by decide),
    hread]
  exact hc3 ▸ hcheck

/-- A gate that is open stays open where its syllable acts. -/
theorem gateOpen_issued {s : State} {p b a f : Nat} {c2 : Cap} (h : GateOpen s p b a f c2) : GateOpen (issued s p b) p b a f c2 := by
  have hseq := sameButSequencing_issued s p b
  have hcap := capAt_of_maps hseq.sameMemory.1
  have hnum := numAt_of_mem hseq.sameMemory.1.1
  have hbytes := bytesAt_of_mem hseq.sameMemory.1.1
  have hbank := bank_issued s p b
  exact ⟨by rw [hbytes]; exact h.reserved, by rw [hcap]; exact h.target, fun i hi => by rw [src_issued, hnum, hnum]; exact h.args i hi,
    by rw [hbank]; exact h.depth, by rw [hcap, hnum]; exact h.stack, h.lazyArea, h.frame, h.room, h.top, h.sentinel⟩

/-- The frame that a gate's entry leaves in DRAM at f (R246): the return point, c2, c3, the lazy area, the previous gate link with flags,
and null. -/
def FrameAt (t : State) (f : Nat) (k c2 c3 : Cap) (nx : Nat) (link : Word) : Prop :=
  t.capAt .dram f = k.withAddr nx (k.tag && k.representable nx) ∧ t.capAt .dram (f + 16) = c2 ∧ t.capAt .dram (f + 32) = c3 ∧
    t.numAt .dram (f + 64) 8 = link.toNat

theorem frameAt_of_stored {s t : State} {c : SCtx} {c2 c3 : Cap} {f : Nat} (h : CapsStored s t f (frameGranules s c c2 c3)) :
    FrameAt t f (s.bank c.pair c.bank).pcc c2 c3 c.next (s.bank c.pair c.bank).gateLink := by
  refine ⟨h.caps 0 _ rfl, h.caps 1 _ rfl, h.caps 2 _ rfl, ?_⟩
  have hlink := h.caps 4 _ rfl
  rw [← bitsAt_capAt t .dram (f + 64) (i := 0) (m := 8) (by decide), hlink]
  have hlt := (s.bank c.pair c.bank).gateLink.isLt
  unfold bitsAt
  rw [BitVec.toNat_ofNat]
  omega

/-- What INVOKE makes of s before its bank enters the gate: the frame at f, all else as before (R246). -/
structure FrameWritten (s w : State) (p b f : Nat) (c2 : Cap) : Prop where
  rest : AtRest s w
  bank : w.bank p b = s.bank p b
  frame : FrameAt w f (s.bank p b).pcc c2 (s.src p b 3) (addrOf (((s.bank p b).pcc.addr : Int) + 4)) (s.bank p b).gateLink
  bytes : SameBytesOutside s w f 96
  tags : SameTagsOutside s w f 96
  units : SameUnits s w

/-- The frame's granules stored from the state in which the syllable acts. -/
theorem frameWritten_issued {s w : State} {p b f : Nat} {c2 : Cap} {n : SylInfo} (himm : n.imm = none) (hq : Quiet s)
    (h : CapsStored (issued s p b) w f (frameGranules (issued s p b) ((issued s p b).ctxFor p b n) c2 (s.src p b 3))) :
    FrameWritten s w p b f c2 := by
  have hseq := sameButSequencing_issued s p b
  have hframe := frameAt_of_stored h
  rw [next_issued_of_none s p b himm, ctxBank_issued] at hframe
  obtain ⟨r, hpair⟩ := h.pairs p
  refine ⟨h.rest s (hseq.atRest hq), ?_, hframe, fun a ha => (h.bytes a ha).trans (byteAt_of_maps hseq.sameMemory.1 a),
    fun a ha => (h.tags a ha).trans (tagAt_of_maps hseq.sameMemory.1 a), SameUnits.trans hseq.sameUnits h.units⟩
  rw [← bank_issued s p b]
  unfold State.bank
  rw [hpair]
  rfl

section
variable {p b : Nat} {cs1 : RegIx} {s : State} {g c2 : Cap} {f : Nat} (hg : g = s.src p b cs1.toNat) (hc2 : c2 = s.src p b 2)
  (hq : Quiet s) (htyped : checkTyped g 0xFF02 = none) (hperms : g.hasAll [permIV, permLD, permLC] = true)
  (hapend : (s.bank p b).apend = false) (hbase : g.base ≤ g.addr) (htop : g.addr + 192 ≤ g.top) (halign : g.addr % 64 = 0)
  (hphys : g.addr + 192 ≤ 2 ^ 41) (hsen : isSentinel p = true → 0x80000 ≤ g.addr) (hm : GateMemory s p b)
  (ho : GateOpen s p b g.addr f c2)
include hg hc2 hq htyped hperms hapend hbase htop halign hphys hsen hm ho

/-- The body of INVOKE at an open gate writes the frame and enters the gate. -/
theorem gateCall_issued {n : SylInfo} (himm : n.imm = none) : ∃ w ctl lz clk, FrameWritten s w p b f c2 ∧
    gateCall cs1 ((issued s p b).ctxFor p b n) (issued s p b) = .ok true ((w.updBank p b (gateBank (s.capAt .dram g.addr)
      (s.capAt .dram (g.addr + 16)) (s.capAt .dram (g.addr + 32)) c2 f ctl lz)).updPair p (maskUpdate clk)) := by
  have hcap := capAt_of_maps (sameButSequencing_issued s p b).sameMemory.1
  have hbank := bank_issued s p b
  have hstored := capsStored (frameGranules (issued s p b) ((issued s p b).ctxFor p b n) c2 (s.src p b 3)) (issued s p b) f
    (frame_aligned ho.lazyArea ho.frame ho.room)
  have hbody := gateCall_plain (s := issued s p b) (c := (issued s p b).ctxFor p b n) (cs1 := cs1)
    ((src_issued s p b cs1.toNat).trans hg.symm) htyped hperms (hbank ▸ hapend) hbase htop halign hphys hsen (gateMemory_issued hm)
    ((src_issued s p b 2).trans hc2.symm) (src_issued s p b 3) (gateOpen_issued ho)
  rw [gateCommit_eq, hcap, hcap, hcap] at hbody
  exact ⟨_, _, _, _, frameWritten_issued himm hq hstored, hbody⟩

/-- INVOKE of an open gate: the bank as the gate says, the frame in memory, all else as before (R246, R247). -/
theorem invoke_enters (hi : Issues (.invoke p cs1) p b s) :
    ∃ t, exec (.invoke p cs1) s = .next t ∧
      (∃ ctl lz, t.bank p b = gateBank (s.capAt .dram g.addr) (s.capAt .dram (g.addr + 16)) (s.capAt .dram (g.addr + 32)) c2 f ctl lz
        (s.bank p b)) ∧
      FrameAt t f (s.bank p b).pcc c2 (s.src p b 3) (addrOf (((s.bank p b).pcc.addr : Int) + 4)) (s.bank p b).gateLink ∧
      SameBytesOutside s t f 96 ∧ SameTagsOutside s t f 96 ∧ SameUnits s t := by
  obtain ⟨n, hn, himm, hload⟩ : ∃ n, infoOf (.invoke p cs1) = some n ∧ n.imm = none ∧ n.load = false := ⟨_, rfl, rfl, rfl⟩
  obtain ⟨w, ctl, lz, clk, hw, hbody⟩ := gateCall_issued hg hc2 hq htyped hperms hapend hbase htop halign hphys hsen hm ho himm
  obtain ⟨hout, hquiet, hhb⟩ := hw.rest
  have hown := ownEffect_updBank_maskUpdate hout p b clk (gateBank (s.capAt .dram g.addr) (s.capAt .dram (g.addr + 16))
    (s.capAt .dram (g.addr + 32)) c2 f ctl lz)
  have hend := sameButSequencing_ended hown.out_eq false p
  have hmem := SameMemory.trans hown.sameMemory hend.sameMemory
  have hexec := syllableCompletes (.invoke p cs1) p b s _ n _ _ rfl hi hn rfl hbody
    (AtRest.trans ⟨hout, hquiet, hhb⟩ (hown.atRest hquiet))
  rw [hload] at hexec
  obtain ⟨hcall, hstack, hdata, hlink⟩ := hw.frame
  refine ⟨_, hexec, ⟨ctl, lz, ?_⟩, ⟨?_, ?_, ?_, ?_⟩, fun a ha => (byteAt_of_maps hmem.1 a).trans (hw.bytes a ha),
    fun a ha => (tagAt_of_maps hmem.1 a).trans (hw.tags a ha), SameUnits.trans hw.units (SameUnits.trans hown.sameUnits hend.sameUnits)⟩
  · rw [← hw.bank]
    exact (hend.bank_eq p b).trans (bank_updBank_maskUpdate w p b clk _)
  · exact (capAt_of_maps hmem.1 _).trans hcall
  · exact (capAt_of_maps hmem.1 _).trans hstack
  · exact (capAt_of_maps hmem.1 _).trans hdata
  · exact (numAt_of_mem hmem.1.1 _ _).trans hlink

end

end Sys2Proof.Laws

namespace Sys2Proof
open Sys2Proof.Machine Sys2Proof.Laws

/-- Settles O29: a gate that is open is entered, with the caller's frame written. -/
theorem gateCallEntersTheCallee : Obligations.GateCallEntersTheCallee := by
  intro p b cs1 s g c2 k f nx hg hc2 hk hnx hq htyped hperms hapend hbase htop halign hphys hsen hbare hrcu htally hlat hbit hres htarget
    hargs hdepth hstk hlazy hf hroom hphysf hi
  subst hk hnx
  obtain ⟨t, hexec, ⟨ctl, lz, hbank⟩, ⟨hcall, hstack, hdata, hlink⟩, hbytes, htags, hunits⟩ := invoke_enters hg hc2 hq htyped hperms hapend
    hbase htop halign hphys (fun h => (hsen h).1) ⟨hbare, hrcu, htally, hlat, hbit⟩
    ⟨hres, htarget, hargs, hdepth, hstk, hlazy, hf, hroom, hphysf, fun h => (hsen h).2⟩ hi
  refine ⟨t, hexec, ?_⟩
  rw [hbank]
  refine ⟨rfl, by rw [reg_gateBank]; rfl, by rw [reg_gateBank]; rfl, by rw [reg_gateBank]; rfl, fun n hn => ?_, fun n hn => ?_,
    gdepth_gateBank _ _ _ _ _ _ _ hdepth, rfl, hcall, hstack, hdata, hlink, hbytes, htags, hunits⟩
  · have hne : n ≠ 0 ∧ n ≠ 3 ∧ n ≠ 2 ∧ n ≠ 1 := by
      refine ⟨?_, ?_, ?_, ?_⟩ <;> (rintro rfl; exact absurd hn (by decide))
    obtain ⟨h0, h3, h2, h1⟩ := hne
    rw [reg_gateBank, if_neg h0, if_neg h3, if_neg h2, if_neg h1, if_pos hn]
  · have hout : n ∉ [12, 13, 14, 15, 28, 29, 30, 31] := by
      simp only [List.mem_cons, List.not_mem_nil, or_false]; omega
    rw [reg_gateBank, if_neg (by omega), if_neg (by omega), if_neg (by omega), if_neg (by omega), if_neg hout]

end Sys2Proof
end

section
/-!
PROOFS. Commands of the dispatch unit that write its registers (O36).
-/
namespace Sys2Proof.Laws
open Sys2Proof.Machine
open Sys2Proof (Instr Imm)

/-! ## Effects on registers of a list alone -/

/-- Two states that differ in the device registers of a list alone. -/
def RegsOnly (l : List Nat) (s t : State) : Prop := (∃ d, t = { s with dev := d }) ∧ ∀ a, a ∉ l → t.rd a = s.rd a

namespace RegsOnly

theorem refl (l : List Nat) (s : State) : RegsOnly l s s := ⟨⟨s.dev, rfl⟩, fun _ _ => rfl⟩

theorem wr {l : List Nat} (s : State) {a : Nat} (v : Word) (h : a ∈ l) : RegsOnly l s (s.wr a v) :=
  ⟨⟨_, rfl⟩, fun b hb => by rw [State.rd_wr, if_neg]; rintro rfl; exact hb h⟩

theorem setFld {l : List Nat} (s : State) {a : Nat} (lo w v : Nat) (h : a ∈ l) : RegsOnly l s (s.setFld a lo w v) := wr s _ h

theorem trans {l : List Nat} {s t u : State} (h : RegsOnly l s t) (k : RegsOnly l t u) : RegsOnly l s u := by
  obtain ⟨⟨d, rfl⟩, hr⟩ := h
  obtain ⟨⟨d', rfl⟩, kr⟩ := k
  exact ⟨⟨d', rfl⟩, fun a ha => (kr a ha).trans (hr a ha)⟩

theorem foldl {α : Type} {l : List Nat} {f : State → α → State} (hf : ∀ s x, RegsOnly l s (f s x)) (xs : List α) :
    ∀ s : State, RegsOnly l s (xs.foldl f s) := by
  induction xs with
  | nil => exact refl l
  | cons x xs ih => exact fun s => (hf s x).trans (ih _)

theorem pair_eq {l : List Nat} {s t : State} (h : RegsOnly l s t) (q : Nat) : t.pair q = s.pair q := by
  obtain ⟨⟨d, rfl⟩, -⟩ := h; rfl

theorem atRest {l : List Nat} {s t : State} (h : RegsOnly l s t) (hl : ∀ a ∈ restRegs, a ∉ l) (hq : Quiet s) (hout : s.out = []) :
    AtRest s t := by
  obtain ⟨⟨d, rfl⟩, hr⟩ := h
  exact atRest_of_rd hq hout rfl rfl rfl fun a ha => hr a (hl a ha)

end RegsOnly

/-- Such an effect as a command: its state, with messages gone. -/
theorem does_of_regsOnly {l : List Nat} {s t : State} {f : State → State} (h : RegsOnly l { s with out := [] } t)
    (hf : f { s with out := [] } = t) (hl : ∀ a ∈ restRegs, a ∉ l) (hq : Quiet s) :
    does f s = .next t ∧ (∀ a, a ∉ l → t.rd a = s.rd a) ∧ { t with dev := s.dev, out := s.out } = s := by
  refine ⟨does_at_rest hf (h.atRest hl hq rfl), h.2, ?_⟩
  obtain ⟨⟨d, rfl⟩, -⟩ := h
  rfl

/-! ## The result of a command of the dispatch unit -/

theorem regsOnly_evdLast {l : List Nat} (s : State) (r : Nat) (h : Addr.EVD_STATUS ∈ l) : RegsOnly l s (s.evdLast r) :=
  (RegsOnly.setFld s _ _ _ h).trans (.setFld _ _ _ _ h)

theorem fld_evdLast (s : State) {r : Nat} (h : r < 4) : (s.evdLast r).fld Addr.EVD_STATUS 1 2 = r := by
  unfold State.evdLast
  rw [fld_setFld_apart _ _ _ _ _ _ _ (by decide) (by decide), fld_setFld_same _ _ _ _ _ (by decide)]
  exact Nat.mod_eq_of_lt h

theorem rd_evdLast (s : State) (r : Nat) {a : Nat} (h : a ≠ Addr.EVD_STATUS) : (s.evdLast r).rd a = s.rd a := by
  unfold State.evdLast
  rw [State.rd_setFld_ne _ _ _ _ h, State.rd_setFld_ne _ _ _ _ h]

/-- What the command's end looks at is apart from the registers of the 4,096 channels and the unit's status. -/
theorem chstat_not_mem_restRegs {ch : Nat} (h : ch < 4096) : ∀ a ∈ restRegs, a ∉ [Addr.EVD_CHSTAT ch, Addr.EVD_STATUS] := by
  intro a ha hmem
  have hstatus : ∀ a ∈ restRegs, a ≠ Addr.EVD_STATUS := by decide
  have hrange : ∀ a ∈ restRegs, a < 0xF0002018000 ∨ 0xF0002020000 ≤ a := by decide
  simp only [List.mem_cons, List.not_mem_nil, or_false] at hmem
  rcases hmem with rfl | rfl
  · have := hrange _ ha
    simp only [Addr.EVD_CHSTAT] at this
    omega
  · exact hstatus _ ha rfl

/-! ## Posts that are no software posts, CLRCH, CLRCNT and commands that do nothing but answer -/

section
variable {s : State} (hq : Quiet s)
include hq

/-- A command that only answers sets LASTCMD alone. -/
theorem does_evdLast {f : State → State} {r : Nat} (hr : r < 4) (hf : f { s with out := [] } = ({ s with out := [] } : State).evdLast r) :
    ∃ u, does f s = .next u ∧ u.fld Addr.EVD_STATUS 1 2 = r ∧ (∀ a, a ∉ [Addr.EVD_STATUS] → u.rd a = s.rd a) ∧
      { u with dev := s.dev, out := s.out } = s := by
  obtain ⟨hdoes, hrd, hall⟩ := does_of_regsOnly (l := [Addr.EVD_STATUS]) (regsOnly_evdLast _ r (by decide)) hf (by decide) hq
  exact ⟨_, hdoes, fld_evdLast _ hr, hrd, hall⟩

theorem evdPost_refused {ch : BitVec 12} (h : bitsAt (s.slot ch.toNat) 20 3 ≠ 0) :
    ∃ u, exec (.evdPost ch) s = .next u ∧ u.fld Addr.EVD_STATUS 1 2 = 1 ∧ (∀ a, a ∉ [Addr.EVD_STATUS] → u.rd a = s.rd a) ∧
      { u with dev := s.dev, out := s.out } = s :=
  does_evdLast hq (f := fun s => s.softPost ch.toNat) (by decide) (if_neg h)

theorem evdEnd_nowhere {t : BitVec 16} (h : s.residentOn t.toNat = none) :
    ∃ u, exec (.evdEnd t) s = .next u ∧ u.fld Addr.EVD_STATUS 1 2 = 1 ∧ (∀ a, a ∉ [Addr.EVD_STATUS] → u.rd a = s.rd a) ∧
      { u with dev := s.dev, out := s.out } = s := by
  refine does_evdLast hq (f := fun s => s.evdEnd t.toNat) (by decide) ?_
  have h' : ({ s with out := [] } : State).residentOn t.toNat = none := h
  unfold State.evdEnd
  rw [h']

theorem restart_running {c : BitVec 16} (hc : c.toNat < 96) (h : (s.pair c.toNat).halt = none) :
    ∃ u, exec (.restart c) s = .next u ∧ u.fld Addr.EVD_STATUS 1 2 = 1 ∧ (∀ a, a ∉ [Addr.EVD_STATUS] → u.rd a = s.rd a) ∧
      { u with dev := s.dev, out := s.out } = s := by
  refine does_evdLast hq (f := fun s => s.restart c.toNat) (by decide) ?_
  have h' : (({ s with out := [] } : State).pair c.toNat).halt = none := h
  unfold State.restart
  rw [if_neg (by omega), h']
  rfl

/-- CLRCH of a channel keeps PEND alone (R280). -/
theorem clrch_keepsPend {c : BitVec 16} (hc : c.toNat < 4096) :
    ∃ u, exec (.clrch c) s = .next u ∧ u.rd (Addr.EVD_CHSTAT c.toNat) = BitVec.ofNat 64 (s.fld (Addr.EVD_CHSTAT c.toNat) 0 16) ∧
      u.fld Addr.EVD_STATUS 1 2 = 0 ∧ (∀ a, a ∉ [Addr.EVD_CHSTAT c.toNat, Addr.EVD_STATUS] → u.rd a = s.rd a) ∧
      { u with dev := s.dev, out := s.out } = s := by
  have hne : Addr.EVD_CHSTAT c.toNat ≠ Addr.EVD_STATUS := by simp only [Addr.EVD_CHSTAT, Addr.EVD_STATUS]; omega
  obtain ⟨hdoes, hrd, hall⟩ := does_of_regsOnly (f := fun s => s.clrCh c.toNat) (l := [Addr.EVD_CHSTAT c.toNat, Addr.EVD_STATUS])
    ((RegsOnly.wr _ _ (by simp)).trans (regsOnly_evdLast _ 0 (by simp))) (if_neg (Nat.not_le.mpr hc))
    (chstat_not_mem_restRegs hc) hq
  refine ⟨_, hdoes, ?_, fld_evdLast _ (by decide), hrd, hall⟩
  rw [rd_evdLast _ _ hne, State.rd_wr, if_pos rfl]
  rfl

/-- CLRCH of a number past the channels answers 3 and notes it (R12, R280). -/
theorem clrch_outOfRange {c : BitVec 16} (hc : 4096 ≤ c.toNat) :
    ∃ u, exec (.clrch c) s = .next u ∧ u.fld Addr.EVD_STATUS 1 2 = 3 ∧ u.fld Addr.EVD_ERR 0 1 = 1 ∧
      (∀ a, a ∉ [Addr.EVD_ERR, Addr.EVD_STATUS] → u.rd a = s.rd a) ∧ { u with dev := s.dev, out := s.out } = s := by
  obtain ⟨hdoes, hrd, hall⟩ := does_of_regsOnly (f := fun s => s.clrCh c.toNat) (l := [Addr.EVD_ERR, Addr.EVD_STATUS])
    (t := (({ s with out := [] } : State).setBit Addr.EVD_ERR 0).evdLast 3)
    ((RegsOnly.setFld _ _ _ _ (by decide)).trans (regsOnly_evdLast _ 3 (by decide))) (if_pos hc) (by decide) hq
  refine ⟨_, hdoes, fld_evdLast _ (by decide), ?_, hrd, hall⟩
  rw [fld_of_rd (rd_evdLast _ 3 (by decide))]
  exact fld_setFld_same _ _ _ _ _ (by decide)

/-- The five dispatch counters (R280). -/
def evdCounters : List Nat := [Addr.EVD_CNT_RES, Addr.EVD_CNT_FILL, Addr.EVD_CNT_SPILL, Addr.EVD_CNT_STALL, Addr.EVD_CNT_REDISP]

theorem evdClrcnt_clears : ∃ u, exec .evdClrcnt s = .next u ∧ (∀ a ∈ evdCounters, u.rd a = 0) ∧ u.fld Addr.EVD_STATUS 1 2 = 0 ∧
    (∀ a, a ∉ evdCounters ++ [Addr.EVD_STATUS] → u.rd a = s.rd a) ∧ { u with dev := s.dev, out := s.out } = s := by
  have hclear : RegsOnly (evdCounters ++ [Addr.EVD_STATUS]) { s with out := [] }
      (evdCounters.foldl (fun s a => s.wr a 0) { s with out := [] }) :=
    ⟨foldl_wr_zero_eq _ _, fun a ha => (rd_foldl_wr_zero _ a _).trans (if_neg fun h => ha (List.mem_append_left _ h))⟩
  obtain ⟨hdoes, hrd, hall⟩ := does_of_regsOnly (f := fun s => s.evdClrCnt) (hclear.trans (regsOnly_evdLast _ 0 (by decide))) rfl
    (by decide) hq
  refine ⟨_, hdoes, fun a ha => ?_, fld_evdLast _ (by decide), hrd, hall⟩
  have hne : ∀ a ∈ evdCounters, a ≠ Addr.EVD_STATUS := by decide
  rw [rd_evdLast _ _ (hne a ha), rd_foldl_wr_zero, if_pos ha]

theorem excClrcnt_clears : ∃ u, exec .excClrcnt s = .next u ∧ u.rd Addr.EXC_ESCCNT = 0 ∧
    (∀ a, a ∉ [Addr.EXC_ESCCNT] → u.rd a = s.rd a) ∧ { u with dev := s.dev, out := s.out } = s := by
  obtain ⟨hdoes, hrd, hall⟩ := does_of_regsOnly (f := fun s => s.excClrCnt) (l := [Addr.EXC_ESCCNT]) (.wr _ 0 (by decide)) rfl
    (by decide) hq
  exact ⟨_, hdoes, by rw [State.rd_wr, if_pos rfl], hrd, hall⟩

theorem lockPoint_locks : exec .lockPoint s = .next { s with locked := true, out := [] } :=
  does_at_rest (f := fun s => s.lockPoint) rfl (atRest_of_same hq rfl rfl rfl rfl rfl)

theorem evdEnable_on (h : s.fld Addr.EVD_CTRL 0 1 = 1) : exec .evdEnable s = .next { s with out := [] } :=
  does_nothing (f := fun s => s.evdEnable) hq (if_pos h)

/-- RESTART of a halted pair whose re-dispatch is still to be made waits for it (R276, R279). -/
theorem restart_waits {c : BitVec 16} (hc : c.toNat < 96) (hhalt : (s.pair c.toNat).halt.isSome = true)
    (h : (s.pair c.toNat).redispDone = false) : ∃ u, exec (.restart c) s = .next u ∧ (u.pair c.toNat).restartWait = true ∧
      (u.pair c.toNat).halt = (s.pair c.toNat).halt ∧ u.fld Addr.EVD_STATUS 0 1 = 1 ∧
      (∀ a, a ∉ [Addr.EVD_STATUS] → u.rd a = s.rd a) ∧ { u with dev := s.dev, pairs := s.pairs, out := s.out } = s := by
  have hf : ({ s with out := [] } : State).restart c.toNat =
      (({ s with out := [] } : State).updPair c.toNat (fun v => { v with restartWait := true })).setBit Addr.EVD_STATUS 0 := by
    have hhalt' : (({ s with out := [] } : State).pair c.toNat).halt.isSome = true := hhalt
    have h' : (({ s with out := [] } : State).pair c.toNat).redispDone = false := h
    unfold State.restart
    rw [if_neg (by omega), if_neg (by rw [Option.isNone_eq_false_iff.mpr hhalt']; decide), if_neg (by rw [h']; decide)]
  have hpair : ((({ s with out := [] } : State).updPair c.toNat (fun v => { v with restartWait := true })).setBit Addr.EVD_STATUS 0).pair
      c.toNat = { s.pair c.toNat with restartWait := true } :=
    (State.pair_updPair { s with out := [] } c.toNat c.toNat (fun v => { v with restartWait := true })).trans (if_pos rfl)
  have hrd : ∀ a, a ∉ [Addr.EVD_STATUS] → ((({ s with out := [] } : State).updPair c.toNat
      (fun v => { v with restartWait := true })).setBit Addr.EVD_STATUS 0).rd a = s.rd a := fun a ha =>
    State.rd_setBit_ne _ _ (by simpa using ha)
  refine ⟨_, does_at_rest (f := fun s => s.restart c.toNat) hf (atRest_of_rd hq rfl rfl rfl rfl fun a ha => hrd a ?_), by rw [hpair],
    by rw [hpair], fld_setFld_same _ _ _ _ _ (by decide), hrd, rfl⟩
  revert a ha
  decide

end

/-! ## LOCKUP_CLEAR (R242) -/

/-- One bit of LOCKUP_CLEAR: i of the register a, of the pair base + i (R242). -/
def lockupStep (a base mask : Nat) (s : State) (i : Nat) : State :=
  if mask.testBit i && (s.rd a).toNat.testBit i then
    if (s.pair (base + i)).halt.isSome then s.setBit Addr.EXC_ERR 0 else s.setFld a i 1 0
  else s

theorem lockupClear_eq (s : State) (second : Bool) (mask : Nat) : s.lockupClear second mask =
    (List.range 64).foldl (lockupStep (if second then Addr.EXC_LOCKUP1 else Addr.EXC_LOCKUP0) (if second then 64 else 0) mask) s := rfl

theorem regsOnly_lockupStep {l : List Nat} {a : Nat} (ha : a ∈ l) (herr : Addr.EXC_ERR ∈ l) (base mask : Nat) (s : State) (i : Nat) :
    RegsOnly l s (lockupStep a base mask s i) := by
  unfold lockupStep
  split
  · split
    · exact .setFld s _ _ _ herr
    · exact .setFld s _ _ _ ha
  · exact .refl l s

/-- One bit cleared: that one alone, where the mask names it and its pair runs. -/
theorem getLsbD_lockupStep {a : Nat} (ha : a ≠ Addr.EXC_ERR) (base mask : Nat) (s : State) {j : Nat} (hj : j < 64) {i : Nat} (hi : i < 64) :
    ((lockupStep a base mask s j).rd a).getLsbD i =
      ((s.rd a).getLsbD i && !(decide (i = j) && (mask.testBit i && (s.pair (base + i)).halt.isNone))) := by
  have hbit : (s.rd a).toNat.testBit j = (s.rd a).getLsbD j := rfl
  unfold lockupStep
  split
  · next hon =>
    obtain ⟨hmask, -⟩ := (Bool.and_eq_true _ _).mp hon
    split
    · next hhalt =>
      rw [State.rd_setBit_ne _ _ ha]
      by_cases hij : i = j
      · subst hij; rw [Option.isNone_eq_false_iff.mpr hhalt]; simp
      · simp [hij]
    · next hhalt =>
      rw [State.rd_setFld, if_pos rfl, BitVec.getLsbD_ofNat, testBit_setBitsAt, decide_eq_true hi, Bool.true_and]
      by_cases hij : i = j
      · subst hij
        rw [if_pos ⟨le_rfl, by omega⟩, Nat.zero_testBit, hmask, Option.isSome_eq_false_iff.mp (Bool.eq_false_iff.mpr hhalt)]
        simp
      · rw [if_neg (by omega)]; simp [hij]; rfl
  · next hoff =>
    by_cases hij : i = j
    · subst hij
      rw [hbit] at hoff
      cases hb : (s.rd a).getLsbD i
      · rfl
      · rw [hb, Bool.and_true] at hoff; simp [hoff]
    · simp [hij]

theorem getLsbD_lockupFold {a : Nat} (ha : a ≠ Addr.EXC_ERR) (base mask : Nat) (l : List Nat) (hl : ∀ j ∈ l, j < 64) {i : Nat} (hi : i < 64) :
    ∀ s : State, ((l.foldl (lockupStep a base mask) s).rd a).getLsbD i =
      ((s.rd a).getLsbD i && !(decide (i ∈ l) && (mask.testBit i && (s.pair (base + i)).halt.isNone))) := by
  induction l with
  | nil => intro s; simp
  | cons j l ih =>
    intro s
    have hpair := (regsOnly_lockupStep (l := [a, Addr.EXC_ERR]) (a := a) (by simp) (by simp) base mask s j).pair_eq (base + i)
    rw [List.foldl_cons, ih (fun x hx => hl x (List.mem_cons_of_mem _ hx)), getLsbD_lockupStep ha base mask s (hl j List.mem_cons_self) hi,
      hpair]
    have hmem : decide (i ∈ j :: l) = (decide (i = j) || decide (i ∈ l)) := by rw [← Bool.decide_or]; exact decide_eq_decide.mpr List.mem_cons
    have hbool : ∀ x y z w : Bool, ((x && !(y && w)) && !(z && w)) = (x && !((y || z) && w)) := by decide
    rw [hmem]
    exact hbool _ _ _ _

/-- LOCKUP_CLEAR clears the bits that the mask names, of pairs that run (R242). -/
theorem lockupClear_clears {s : State} (hq : Quiet s) (second : Bool) (mask : Word) : ∃ u, exec (.lockupClear second mask) s = .next u ∧
    (∀ i, i < 64 → (u.rd (if second then Addr.EXC_LOCKUP1 else Addr.EXC_LOCKUP0)).getLsbD i =
      ((s.rd (if second then Addr.EXC_LOCKUP1 else Addr.EXC_LOCKUP0)).getLsbD i &&
        !(mask.getLsbD i && (s.pair ((if second then 64 else 0) + i)).halt.isNone))) ∧
    (∀ a, a ∉ [Addr.EXC_LOCKUP0, Addr.EXC_LOCKUP1, Addr.EXC_ERR] → u.rd a = s.rd a) ∧ { u with dev := s.dev, out := s.out } = s := by
  have ha : (if second then Addr.EXC_LOCKUP1 else Addr.EXC_LOCKUP0) ∈ [Addr.EXC_LOCKUP0, Addr.EXC_LOCKUP1, Addr.EXC_ERR] ∧
      (if second then Addr.EXC_LOCKUP1 else Addr.EXC_LOCKUP0) ≠ Addr.EXC_ERR := by cases second <;> decide
  obtain ⟨hdoes, hrd, hall⟩ := does_of_regsOnly (f := fun s => s.lockupClear second mask.toNat)
    (l := [Addr.EXC_LOCKUP0, Addr.EXC_LOCKUP1, Addr.EXC_ERR])
    (RegsOnly.foldl (regsOnly_lockupStep ha.1 (by decide) (if second then 64 else 0) mask.toNat) (List.range 64) _)
    (lockupClear_eq _ _ _) (by decide) hq
  refine ⟨_, hdoes, fun i hi => ?_, hrd, hall⟩
  rw [getLsbD_lockupFold ha.2 _ _ _ (fun j hj => List.mem_range.mp hj) hi, decide_eq_true (List.mem_range.mpr hi), Bool.true_and]
  rfl

end Sys2Proof.Laws
end

section
/-!
PROOFS. A software post (O36).
-/
namespace Sys2Proof.Laws
open Sys2Proof.Machine
open Sys2Proof (Instr Imm)

/-! ## A software post (R258) -/

/-- An entry that is read without effect is a cached one (R252). -/
theorem cached_of_task {s : State} {t : Nat} {e : TaskEntry} (h : s.task t = (some e, s)) :
    ∃ x, s.evd.tasks.find? (fun e => e.1 == t) = some x ∧ x.2 = some e := by
  unfold State.task at h
  cases hfind : s.evd.tasks.find? (fun e => e.1 == t) with
  | some x =>
    rw [hfind] at h
    exact ⟨x, rfl, congrArg Prod.fst h⟩
  | none =>
    rw [hfind] at h
    have htasks := congrArg (fun r : Option TaskEntry × State => r.2.evd.tasks.find? (fun e => e.1 == t)) h
    dsimp only at htasks
    rw [hfind, List.find?_cons_of_pos (by simp)] at htasks
    cases htasks

theorem task_of_cached {s : State} {t : Nat} {e : TaskEntry} {x : Nat × Option TaskEntry}
    (h : s.evd.tasks.find? (fun e => e.1 == t) = some x) (hx : x.2 = some e) : s.task t = (some e, s) := by
  unfold State.task
  rw [h, ← hx]

/-- A post joins the others. -/
def addPost (x : Post) (s : State) : State := { s with evd := { s.evd with posts := s.evd.posts ++ [x] } }

theorem rd_addPost (x : Post) (s : State) (a : Nat) : (addPost x s).rd a = s.rd a := rfl

theorem rd_evdTick (s : State) (a : Nat) : s.evdTick.2.rd a = s.rd a := rfl

theorem evd_addPost (x : Post) (s : State) : (addPost x s).evd = { s.evd with posts := s.evd.posts ++ [x] } := rfl

theorem evd_evdTick (s : State) : s.evdTick.2.evd = { s.evd with nextId := s.evd.nextId + 1 } := rfl

theorem evd_evdLast (s : State) (r : Nat) : (s.evdLast r).evd = s.evd := rfl

/-- Two states that differ in device registers and the dispatch unit's records alone. -/
def EvdOnly (s t : State) : Prop := ∃ d e, t = { s with dev := d, evd := e }

namespace EvdOnly

theorem trans {s t u : State} (h : EvdOnly s t) (k : EvdOnly t u) : EvdOnly s u := by
  obtain ⟨d, e, rfl⟩ := h
  obtain ⟨d', e', rfl⟩ := k
  exact ⟨d', e', rfl⟩

theorem wr (s : State) (a : Nat) (v : Word) : EvdOnly s (s.wr a v) := ⟨_, s.evd, rfl⟩
theorem setFld (s : State) (a lo w v : Nat) : EvdOnly s (s.setFld a lo w v) := wr s a _
theorem addPost (x : Post) (s : State) : EvdOnly s (addPost x s) := ⟨s.dev, _, rfl⟩
theorem evdLast (s : State) (r : Nat) : EvdOnly s (s.evdLast r) := (setFld s _ _ _ _).trans (setFld _ _ _ _ _)
theorem evdTick (s : State) : EvdOnly s s.evdTick.2 := ⟨s.dev, _, rfl⟩

/-- What such an effect leaves, as a command. -/
theorem does {s t : State} {l : List Nat} {f : State → State} (h : EvdOnly { s with out := [] } t) (hf : f { s with out := [] } = t)
    (hrd : ∀ a, a ∉ l → t.rd a = s.rd a) (hl : ∀ a ∈ restRegs, a ∉ l) (hq : Quiet s) :
    does f s = .next t ∧ { t with dev := s.dev, evd := s.evd, out := s.out } = s := by
  obtain ⟨d, e, rfl⟩ := h
  exact ⟨does_at_rest hf (atRest_of_rd hq rfl rfl rfl rfl fun a ha => hrd a (hl a ha)), rfl⟩

end EvdOnly

/-- What a software post makes of the state, before its result (R258). -/
def posted (s : State) (ch : Nat) : State :=
  addPost ⟨ch, [], none, (s.bumpF (Addr.EVD_CHSTAT ch) 32 32).evdTick.1, none, s.clk⟩
    ((s.bumpF (Addr.EVD_CHSTAT ch) 32 32).evdTick.2.setFld (Addr.EVD_CHSTAT ch) 0 16 (s.fld (Addr.EVD_CHSTAT ch) 0 16 + 1))

theorem evdOnly_posted (s : State) (ch : Nat) : EvdOnly s (posted s ch) :=
  (((EvdOnly.setFld _ _ _ _ _).trans (EvdOnly.evdTick _)).trans (EvdOnly.setFld _ _ _ _ _)).trans (EvdOnly.addPost _ _)

theorem evdTick_fst (s : State) : s.evdTick.1 = s.evd.nextId := rfl

theorem posts_posted (s : State) (ch : Nat) :
    (posted s ch).evd.posts = s.evd.posts ++ [⟨ch, [], none, s.evd.nextId, none, s.clk⟩] := by
  unfold posted
  rw [evd_addPost, State.setFld_evd, evd_evdTick, evdTick_fst, State.bumpF_evd]

theorem delivs_posted (s : State) (ch : Nat) : (posted s ch).evd.delivs = s.evd.delivs := by
  unfold posted
  rw [evd_addPost, State.setFld_evd, evd_evdTick, State.bumpF_evd]

theorem addPost_mk (x : Post) (s : State) : { s with evd := { s.evd with posts := s.evd.posts ++ [x] } } = addPost x s := rfl

/-- A post of an enabled software channel whose task is cached and whose PEND is below its limit (R258). -/
theorem evdPost_accepted {s : State} {ch : Nat} {e : TaskEntry} (hsrc : bitsAt (s.slot ch) 20 3 = 0) (hen : (s.slot ch).testBit 23 = true)
    (htask : s.task (bitsAt (s.slot ch) 0 16) = (some e, s)) (hpend : s.fld (Addr.EVD_CHSTAT ch) 0 16 < 0xFFFF) :
    s.evdPost ch 0 [] none none = posted s ch := by
  obtain ⟨x, hfind, hx⟩ := cached_of_task htask
  have htask' : (s.bumpF (Addr.EVD_CHSTAT ch) 32 32).task (bitsAt (s.slot ch) 0 16) = (some e, s.bumpF (Addr.EVD_CHSTAT ch) 32 32) :=
    task_of_cached (by rw [State.bumpF_evd]; exact hfind) hx
  have hslot : (s.bumpF (Addr.EVD_CHSTAT ch) 32 32).slot ch = s.slot ch := by unfold State.slot; rw [State.bumpF_evd]
  have hfld : (s.bumpF (Addr.EVD_CHSTAT ch) 32 32).fld (Addr.EVD_CHSTAT ch) 0 16 = s.fld (Addr.EVD_CHSTAT ch) 0 16 :=
    fld_setFld_apart _ _ _ _ _ _ _ (by decide) (by decide)
  have hfull : (s.fld (Addr.EVD_CHSTAT ch) 0 16 == 0xFFFF) = false := by simp; omega
  unfold State.evdPost posted
  simp only [hslot, hsrc, htask', hen, hfld, hfull, beq_self_eq_true, Bool.not_true, Bool.false_eq_true, if_false, Bool.or_self,
    Option.isNone_some, addPost_mk]

theorem rd_posted_ne (s : State) (ch : Nat) {a : Nat} (h : a ≠ Addr.EVD_CHSTAT ch) : (posted s ch).rd a = s.rd a := by
  unfold posted
  rw [rd_addPost, State.rd_setFld_ne _ _ _ _ h, rd_evdTick]
  exact State.rd_setFld_ne _ _ _ _ h

/-- PEND counts the post, and so does POSTED up to all ones (R258). -/
theorem fld_posted (s : State) {ch : Nat} (h : s.fld (Addr.EVD_CHSTAT ch) 0 16 < 0xFFFF) :
    (posted s ch).fld (Addr.EVD_CHSTAT ch) 0 16 = s.fld (Addr.EVD_CHSTAT ch) 0 16 + 1 ∧
      (posted s ch).fld (Addr.EVD_CHSTAT ch) 32 32 = min (s.fld (Addr.EVD_CHSTAT ch) 32 32 + 1) (2 ^ 32 - 1) := by
  have hlt : s.fld (Addr.EVD_CHSTAT ch) 32 32 < 2 ^ 32 := Nat.mod_lt _ (by decide)
  have hsat : satInc 32 (s.fld (Addr.EVD_CHSTAT ch) 32 32) = min (s.fld (Addr.EVD_CHSTAT ch) 32 32 + 1) (2 ^ 32 - 1) := by
    unfold satInc; split <;> omega
  unfold posted
  rw [fld_of_rd (rd_addPost _ _ _), fld_of_rd (rd_addPost _ _ _), fld_setFld_same _ _ _ _ _ (by decide),
    fld_setFld_apart _ _ _ _ _ _ _ (by decide) (by decide), fld_of_rd (rd_evdTick _ _)]
  refine ⟨Nat.mod_eq_of_lt (by omega), ?_⟩
  unfold State.bumpF
  rw [fld_setFld_same _ _ _ _ _ (by decide), hsat]
  exact Nat.mod_eq_of_lt (by omega)

/-- EVD_POST of such a channel adds the post and counts it (R258). -/
theorem evdPost_posts {s : State} (hq : Quiet s) {ch : BitVec 12} {e : TaskEntry} (hsrc : bitsAt (s.slot ch.toNat) 20 3 = 0)
    (hen : (s.slot ch.toNat).testBit 23 = true)
    (htask : ({ s with out := [] } : State).task (bitsAt (s.slot ch.toNat) 0 16) = (some e, { s with out := [] }))
    (hpend : s.fld (Addr.EVD_CHSTAT ch.toNat) 0 16 < 0xFFFF) :
    ∃ u, exec (.evdPost ch) s = .next u ∧ u.evd.posts = s.evd.posts ++ [⟨ch.toNat, [], none, s.evd.nextId, none, s.clk⟩] ∧
      u.fld (Addr.EVD_CHSTAT ch.toNat) 0 16 = s.fld (Addr.EVD_CHSTAT ch.toNat) 0 16 + 1 ∧
      u.fld (Addr.EVD_CHSTAT ch.toNat) 32 32 = min (s.fld (Addr.EVD_CHSTAT ch.toNat) 32 32 + 1) (2 ^ 32 - 1) ∧
      u.fld Addr.EVD_STATUS 1 2 = 0 ∧ u.evd.delivs = s.evd.delivs ∧
      (∀ a, a ∉ [Addr.EVD_CHSTAT ch.toNat, Addr.EVD_STATUS] → u.rd a = s.rd a) ∧
      { u with dev := s.dev, evd := s.evd, out := s.out } = s := by
  have hch : ch.toNat < 4096 := ch.isLt
  have hne : Addr.EVD_CHSTAT ch.toNat ≠ Addr.EVD_STATUS := by simp only [Addr.EVD_CHSTAT, Addr.EVD_STATUS]; omega
  have hf : ({ s with out := [] } : State).softPost ch.toNat = (posted { s with out := [] } ch.toNat).evdLast 0 :=
    (if_pos hsrc).trans (congrArg (State.evdLast · 0) (evdPost_accepted hsrc hen htask hpend))
  have hrd : ∀ a, a ∉ [Addr.EVD_CHSTAT ch.toNat, Addr.EVD_STATUS] → ((posted { s with out := [] } ch.toNat).evdLast 0).rd a = s.rd a := by
    intro a ha
    simp only [List.mem_cons, List.not_mem_nil, or_false, not_or] at ha
    exact (rd_evdLast _ _ ha.2).trans (rd_posted_ne _ _ ha.1)
  obtain ⟨hcount, hposted⟩ := fld_posted { s with out := [] } hpend
  obtain ⟨hdoes, hall⟩ := EvdOnly.does (f := fun s => s.softPost ch.toNat)
    ((evdOnly_posted _ _).trans (EvdOnly.evdLast _ 0)) hf hrd (chstat_not_mem_restRegs hch) hq
  refine ⟨_, hdoes, ?_, ?_, ?_, fld_evdLast _ (by decide), ?_, hrd, hall⟩
  · rw [evd_evdLast, posts_posted]
  · rw [fld_of_rd (rd_evdLast _ 0 hne)]; exact hcount
  · rw [fld_of_rd (rd_evdLast _ 0 hne)]; exact hposted
  · rw [evd_evdLast, delivs_posted]

end Sys2Proof.Laws
end

section
/-!
PROOFS. The end of a task (O36).
-/
namespace Sys2Proof.Laws
open Sys2Proof.Machine
open Sys2Proof (Instr Imm)

/-! ## Delivery records that go (R260, R274) -/

theorem ite_rxFree (c : Prop) [Decidable c] (s : State) (r : List (Nat × List Nat)) :
    ∃ r', (if c then s else { s with rxFree := r }) = { s with rxFree := r' } := by
  split
  · exact ⟨s.rxFree, rfl⟩
  · exact ⟨r, rfl⟩

theorem freeBuf_eq (s : State) (b : Option (Nat × Nat)) : ∃ r, s.freeBuf b = { s with rxFree := r } := by
  unfold State.freeBuf
  cases b with
  | none => exact ⟨s.rxFree, rfl⟩
  | some x => exact ite_rxFree _ s _

theorem slotSync_eq (s : State) (ch : Nat) : ∃ m, s.slotSync ch = { s with evd := { s.evd with slots := m } } := by
  unfold State.slotSync
  split
  · exact ⟨s.evd.slots, rfl⟩
  · exact ⟨_, rfl⟩

/-- A deleted record leaves the others, and changes the dispatch unit and the free receive buffers alone. -/
theorem dropDeliv_eq (s : State) (id : Nat) : ∃ e r, s.dropDeliv id = { s with evd := e, rxFree := r } ∧
    e.delivs = s.evd.delivs.filter (fun d => !(d.id == id)) := by
  unfold State.dropDeliv
  cases h : s.deliv id with
  | none =>
    refine ⟨s.evd, s.rxFree, rfl, (List.filter_eq_self.mpr fun d hd => ?_).symm⟩
    simpa using List.find?_eq_none.mp h d hd
  | some d =>
    obtain ⟨r, hr⟩ := freeBuf_eq { s with evd := { s.evd with delivs := s.evd.delivs.filter (fun x => !(x.id == id)) } } d.buf
    obtain ⟨m, hm⟩ := slotSync_eq (({ s with evd := { s.evd with delivs := s.evd.delivs.filter (fun x => !(x.id == id)) } } : State).freeBuf d.buf)
      d.chan
    dsimp only
    rw [hm, hr]
    exact ⟨_, r, rfl, rfl⟩

theorem dropDelivs_eq (ids : List Nat) : ∀ s : State, ∃ e r, ids.foldl (fun s id => s.dropDeliv id) s = { s with evd := e, rxFree := r } ∧
    e.delivs = s.evd.delivs.filter (fun d => !ids.contains d.id) := by
  induction ids with
  | nil => exact fun s => ⟨s.evd, s.rxFree, rfl, (List.filter_eq_self.mpr fun _ _ => rfl).symm⟩
  | cons id ids ih =>
    intro s
    obtain ⟨e, r, he, hd⟩ := dropDeliv_eq s id
    obtain ⟨e', r', he', hd'⟩ := ih (s.dropDeliv id)
    rw [he] at hd'
    rw [List.foldl_cons, he', he]
    refine ⟨e', r', rfl, ?_⟩
    rw [hd', hd, List.filter_filter]
    refine List.filter_congr fun d _ => ?_
    rw [List.contains_cons, Bool.not_or, Bool.and_comm]

/-- A change of the values of a map that keeps what unlisted keys read as. -/
theorem smGet_map_values {β : Type} {d : Nat → β} {f : Nat × β → Nat × β} {g : β → β} (hf : ∀ e, f e = (e.1, g e.2))
    (hd : ∀ k, g (d k) = d k) (m : List (Nat × β)) (k : Nat) : smGet d (m.map f) k = g (smGet d m k) := by
  induction m with
  | nil => exact (hd k).symm
  | cons e m ih =>
    rw [List.map_cons, hf]
    unfold smGet
    split
    · rfl
    · exact ih

/-- A pair that presented a record that went presents none. -/
def unpresent (ids : List Nat) (v : Pair) : Pair :=
  match v.selected with
  | some (.event id) => if ids.contains id then { v with selected := none, standby := none } else v
  | _ => v

theorem unpresent_of_none (ids : List Nat) {v : Pair} (h : v.selected = none) : unpresent ids v = v := by
  unfold unpresent; rw [h]

theorem pairReset_selected (p : Nat) : (pairReset p).selected = none := by
  unfold pairReset; split <;> rfl

theorem unpresent_banks (ids : List Nat) (v : Pair) : (unpresent ids v).banks = v.banks := by
  unfold unpresent
  split
  · split <;> rfl
  · rfl

theorem unpresent_selected (ids : List Nat) (v : Pair) : (unpresent ids v).selected = v.selected ∨ (unpresent ids v).selected = none := by
  unfold unpresent
  split
  · split
    · exact .inr rfl
    · exact .inl rfl
  · exact .inl rfl

/-- Once a task's records are gone, none names it, and memory and registers are as they were (R274). -/
theorem dropTask_eq (s : State) (t : Nat) : ∃ e r ps, s.dropTask t = { s with evd := e, rxFree := r, pairs := ps } ∧
    (∀ d ∈ e.delivs, d.task ≠ t) ∧ ∃ ids, ∀ q, (s.dropTask t).pair q = unpresent ids (s.pair q) := by
  obtain ⟨e, r, he, hd⟩ := dropDelivs_eq ((s.evd.delivs.filter (fun d => d.task == t)).map (fun d => d.id)) s
  have hpairs : ∀ q, (s.dropTask t).pair q =
      unpresent ((s.evd.delivs.filter (fun d => d.task == t)).map (fun d => d.id)) (s.pair q) := by
    intro q
    unfold State.dropTask
    dsimp only
    rw [he]
    refine smGet_map_values (g := unpresent _) (fun x => ?_) (fun k => ?_) s.pairs q
    · unfold unpresent
      cases hsel : x.2.selected with
      | none => rfl
      | some c =>
        cases c with
        | bank b => rfl
        | event id =>
          dsimp only
          split <;> rfl
    · exact unpresent_of_none _ (pairReset_selected k)
  refine ⟨e, r, (s.dropTask t).pairs, ?_, ?_, _, hpairs⟩
  · unfold State.dropTask
    dsimp only
    rw [he]
  · intro d hmem htask
    rw [hd, List.mem_filter] at hmem
    obtain ⟨hin, hout⟩ := hmem
    have hid : d.id ∈ (s.evd.delivs.filter (fun d => d.task == t)).map (fun d => d.id) :=
      List.mem_map_of_mem (List.mem_filter.mpr ⟨hin, by simpa using htask⟩)
    rw [List.contains_iff_mem.mpr hid] at hout
    cases hout

/-! ## END (R274) -/

/-- A pair that had selected a bank that went selects nothing. -/
def unselectBank (b : Nat) (v : Pair) : Pair :=
  if v.selected = some (.bank b) then { v with selected := none, standby := none } else v

theorem unselectBank_banks (b : Nat) (v : Pair) : (unselectBank b v).banks = v.banks := by
  unfold unselectBank; split <;> rfl

theorem unselectBank_selected (b : Nat) (v : Pair) : (unselectBank b v).selected ≠ some (.bank b) := by
  unfold unselectBank
  split
  · exact nofun
  · next h => exact h

/-- What END changes first: the bank is free, and not selected. -/
def endBank (s : State) (p b : Nat) : State := (s.setBank p b bankReset).updPair p (unselectBank b)

theorem bank_endBank (s : State) (p b q e : Nat) : (endBank s p b).bank q e = if q = p ∧ e = b then bankReset else s.bank q e := by
  have h : ((endBank s p b).pair q).banks = ((s.setBank p b bankReset).pair q).banks := by
    unfold endBank
    rw [State.pair_updPair]
    split
    · next hq => rw [unselectBank_banks, hq]
    · rfl
  exact (bank_of_banks h e).trans (State.bank_setBank ..)

theorem selected_endBank (s : State) (p b : Nat) : ((endBank s p b).pair p).selected ≠ some (.bank b) := by
  unfold endBank
  rw [State.pair_updPair, if_pos rfl]
  exact unselectBank_selected b _

/-- What END changes second: no post and no record names the bank as a faulting one. -/
def forgetFault (s : State) (p b : Nat) : State :=
  let clr (f : Option (Nat × Nat)) : Option (Nat × Nat) := if f = some (p, b) then none else f
  { s with evd := { s.evd with
    posts := s.evd.posts.map (fun (x : Post) => { x with fault := clr x.fault }),
    delivs := s.evd.delivs.map (fun (d : Delivery) => { d with fault := clr d.fault }) } }

theorem evdEnd_frees {s : State} {t p b : Nat} (hres : s.residentOn t = some p) (hbank : (s.pair p).bankOf t = some b)
    (hst : (s.bank p b).st = .suspended ∨ (s.bank p b).st = .idle) :
    s.evdEnd t = ((forgetFault (endBank s p b) p b).dropTask t).evdLast 0 := by
  unfold State.evdEnd
  rw [hres]
  dsimp only
  rw [hbank]
  dsimp only
  rw [if_pos (by simpa using hst)]
  rfl

theorem evdEnd_ends {s : State} (hq : Quiet s) {tn : BitVec 16} {p b : Nat} (hres : s.residentOn tn.toNat = some p)
    (hbank : (s.pair p).bankOf tn.toNat = some b) (hst : (s.bank p b).st = .suspended ∨ (s.bank p b).st = .idle) :
    ∃ u, exec (.evdEnd tn) s = .next u ∧ u.bank p b = bankReset ∧ u.fld Addr.EVD_STATUS 1 2 = 0 ∧
      (∀ q e, (q, e) ≠ (p, b) → u.bank q e = s.bank q e) ∧ (∀ d ∈ u.evd.delivs, d.task ≠ tn.toNat) ∧
      (u.pair p).selected ≠ some (.bank b) ∧ SameMemory s u := by
  have hf := evdEnd_frees (s := { s with out := [] }) hres hbank hst
  obtain ⟨e, r, ps, he, hd, ids, hpair⟩ := dropTask_eq (forgetFault (endBank { s with out := [] } p b) p b) tn.toNat
  have hbanks : ∀ q o, (((forgetFault (endBank { s with out := [] } p b) p b).dropTask tn.toNat).evdLast 0).bank q o =
      if q = p ∧ o = b then bankReset else s.bank q o := fun q o =>
    (bank_of_banks ((congrArg Pair.banks (hpair q)).trans (unpresent_banks ids _)) o).trans (bank_endBank { s with out := [] } p b q o)
  have hselected : ((((forgetFault (endBank { s with out := [] } p b) p b).dropTask tn.toNat).evdLast 0).pair p).selected ≠
      some (.bank b) := by
    have h : ((((forgetFault (endBank { s with out := [] } p b) p b).dropTask tn.toNat).evdLast 0).pair p).selected =
        (unpresent ids ((endBank { s with out := [] } p b).pair p)).selected := congrArg Pair.selected (hpair p)
    rw [h]
    rcases unpresent_selected ids ((endBank { s with out := [] } p b).pair p) with h | h
    · rw [h]; exact selected_endBank _ p b
    · rw [h]; exact nofun
  refine ⟨_, does_at_rest (f := fun s => s.evdEnd tn.toNat) hf ?_, (hbanks p b).trans (if_pos ⟨rfl, rfl⟩), fld_evdLast _ (by decide),
    fun q o hqo => (hbanks q o).trans (if_neg fun h => hqo (Prod.ext h.1 h.2)), ?_, hselected, ?_⟩
  · rw [he]
    exact (regsOnly_evdLast (l := [Addr.EVD_STATUS]) _ 0 (by decide)).atRest (by decide) hq rfl
  · rw [evd_evdLast, he]; exact hd
  · rw [he]; exact ⟨SameMaps.refl _, rfl⟩

end Sys2Proof.Laws
end

section
/-!
PROOFS. What the dispatch unit's reads of memory leave unchanged (O36).
-/
namespace Sys2Proof.Laws
open Sys2Proof.Machine
open Sys2Proof (Instr Imm)

/-! ## Reads without combining entries and latent errors (R252, R270) -/

/-- The registers that reads of the dispatch unit count and note in. -/
def readRegs : List Nat := [Addr.TR_CNT_WALK, Addr.ECL_CNT_LBCLR, Addr.RCU_ERR]

/-- Two pairs that differ in cached translations alone. -/
def CachesOnly (v w : Pair) : Prop := ∃ l i d c, w = { v with tlb := l, itlb := i, dtlb := d, walkc := c }

theorem CachesOnly.refl (v : Pair) : CachesOnly v v := ⟨v.tlb, v.itlb, v.dtlb, v.walkc, rfl⟩

theorem CachesOnly.trans {v w x : Pair} (h : CachesOnly v w) (k : CachesOnly w x) : CachesOnly v x := by
  obtain ⟨l, i, d, c, rfl⟩ := h
  obtain ⟨l', i', d', c', rfl⟩ := k
  exact ⟨l', i', d', c', rfl⟩

/-- Two states that differ in the registers of `readRegs`, cached task entries and, where the read is for a pair, its cached
translations alone. -/
def ReadOnly (o : Option Nat) (s t : State) : Prop :=
  (∃ d ps ts, t = { s with dev := d, pairs := ps, evd := { s.evd with tasks := ts } }) ∧ (∀ a, a ∉ readRegs → t.rd a = s.rd a) ∧
    (∀ q, q ∉ o → t.pair q = s.pair q) ∧ (∀ q, CachesOnly (s.pair q) (t.pair q)) ∧ (o = none → t.pairs = s.pairs)

theorem ReadOnly.refl (o : Option Nat) (s : State) : ReadOnly o s s :=
  ⟨⟨s.dev, s.pairs, s.evd.tasks, rfl⟩, fun _ _ => rfl, fun _ _ => rfl, fun _ => .refl _, fun _ => rfl⟩

theorem ReadOnly.trans {o : Option Nat} {s t u : State} (h : ReadOnly o s t) (k : ReadOnly o t u) : ReadOnly o s u := by
  obtain ⟨⟨d, ps, ts, ht⟩, hrd, hother, hcache, hnone⟩ := h
  obtain ⟨⟨d', ps', ts', hu⟩, krd, kother, kcache, knone⟩ := k
  exact ⟨⟨d', ps', ts', by rw [hu, ht]⟩, fun a ha => (krd a ha).trans (hrd a ha), fun q hq => (kother q hq).trans (hother q hq),
    fun q => (hcache q).trans (kcache q), fun ho => (knone ho).trans (hnone ho)⟩

/-- No access meets a combining entry or an error (R217, R339). -/
def Plain (s : State) : Prop := s.tally.chans = [] ∧ s.latent = []

theorem Plain.dramEnter {s : State} (h : Plain s) (pa n : Nat) : s.dramEnter pa n = s := dramEnter_plain h.1 h.2 pa n

theorem ReadOnly.plain {o : Option Nat} {s t : State} (h : ReadOnly o s t) (hs : Plain s) : Plain t := by
  obtain ⟨⟨d, ps, ts, rfl⟩, -⟩ := h
  exact hs

/-- A read that starts with no combining entry and no latent error. -/
def Reads (o : Option Nat) (s t : State) : Prop := Plain s → ReadOnly o s t

namespace Reads

variable {p : Nat} {o : Option Nat}

theorem refl (s : State) : Reads o s s := fun _ => .refl o s

theorem trans {s t u : State} (h : Reads o s t) (k : Reads o t u) : Reads o s u := fun hs => (h hs).trans (k ((h hs).plain hs))

theorem ite {s t u : State} {c : Prop} [Decidable c] (h : Reads o s t) (k : Reads o s u) : Reads o s (if c then t else u) := by
  split
  exacts [h, k]

theorem bind {α β : Type} {s : State} {r : Res α} {k : α → State → Res β} (h : Reads o s r.state)
    (hk : ∀ a t, Reads o t (k a t).state) : Reads o s (r.bind k).state := by
  cases r with
  | ok a t => exact h.trans (hk a t)
  | flt f t => exact h

theorem wr (s : State) {a : Nat} (v : Word) (h : a ∈ readRegs) : Reads o s (s.wr a v) := fun _ =>
  ⟨⟨_, s.pairs, s.evd.tasks, rfl⟩, fun b hb => by rw [State.rd_wr, if_neg]; rintro rfl; exact hb h, fun _ _ => rfl, fun _ => .refl _, fun _ => rfl⟩

theorem bump (s : State) {a : Nat} (h : a ∈ readRegs) : Reads o s (s.bump a) := wr s _ h

theorem setBit (s : State) {a : Nat} (i : Nat) (h : a ∈ readRegs) : Reads o s (s.setBit a i) := wr s _ h

theorem setTasks (s : State) (ts : List (Nat × Option TaskEntry)) : Reads o s { s with evd := { s.evd with tasks := ts } } := fun _ =>
  ⟨⟨s.dev, s.pairs, ts, rfl⟩, fun _ _ => rfl, fun _ _ => rfl, fun _ => .refl _, fun _ => rfl⟩

theorem updPair (s : State) {f : Pair → Pair} (hf : ∀ v, CachesOnly v (f v)) : Reads (some p) s (s.updPair p f) := by
  refine fun _ => ⟨⟨s.dev, _, s.evd.tasks, rfl⟩, fun _ _ => rfl, fun q hq => ?_, fun q => ?_, nofun⟩
  · exact (State.pair_updPair s p q f).trans (if_neg fun h => hq (congrArg some h.symm))
  · rw [State.pair_updPair]
    split
    · next h => rw [h]; exact hf _
    · exact .refl _

theorem dramEnter (s : State) (pa n : Nat) : Reads o s (s.dramEnter pa n) := fun hs => by
  rw [hs.dramEnter]; exact .refl o s

theorem bitmapRead (s : State) (pa : Nat) : Reads o s (s.bitmapRead pa).2 := fun hs => by
  rw [bitmapRead_noLatent hs.2]; exact .refl o s

theorem readPieces (cs : List Piece) : ∀ s : State, Reads o s (s.readPieces cs).2 := by
  induction cs with
  | nil => exact refl
  | cons c cs ih => exact fun s => trans (.ite (dramEnter s _ _) (refl s)) (ih _)

/-! ## Translation (R314-R320) -/

theorem readPte (s : State) (wc pr : Option Nat) (table idx level : Nat) : Reads o s (s.readPte wc pr table idx level).2 := by
  unfold State.readPte
  extract_lets pe cached sp s1
  have h1 : Reads o s s1 := .ite (dramEnter s _ _) (refl s)
  clear_value cached
  split
  · exact refl s
  · split <;> exact h1

theorem cacheWalk (s : State) {wc : Option Nat} (hwc : ∀ q ∈ wc, o = some q) (table idx level e : Nat) :
    Reads o s (s.cacheWalk wc table idx level e) := by
  unfold State.cacheWalk
  split
  · exact refl s
  · next q =>
    obtain rfl := hwc q rfl
    refine .ite (refl s) (updPair s fun v => ?_)
    dsimp only
    split
    · exact .refl v
    · exact ⟨v.tlb, v.itlb, v.dtlb, _, rfl⟩

theorem walkGo {wc : Option Nat} (hwc : ∀ q ∈ wc, o = some q) (pr : Option Nat) (va asid n : Nat) :
    ∀ (s : State) (table level : Nat), Reads o s (walkGo s wc pr va asid table level n).state := by
  induction n with
  | zero => exact fun s _ _ => refl s
  | succ n ih =>
    intro s table level
    have hread : ∀ {x t}, s.readPte wc pr table (vaIndex va level) level = (x, t) → Reads o s t := fun {x t} h => by
      have hpte := readPte (o := o) s wc pr table (vaIndex va level) level
      rwa [h] at hpte
    unfold Machine.walkGo
    extract_lets idx pe
    split
    · exact refl s
    split
    · exact refl s
    split
    next h => exact hread h
    next h =>
      split
      · exact hread h
      split
      · exact hread h
      split
      · exact ((hread h).trans (cacheWalk _ hwc _ _ _ _)).trans (ih _ _ _)
      · exact hread h

theorem walk (s : State) {wc : Option Nat} (hwc : ∀ q ∈ wc, o = some q) (pr : Option Nat) (va ttbc : Nat) :
    Reads o s (s.walk wc pr va ttbc).state := by
  unfold State.walk
  split
  · exact refl s
  · have hcount : Reads o s (if pr.isSome then s.bump Addr.TR_CNT_WALK else s) := .ite (bump s (by decide)) (refl s)
    exact hcount.trans (walkGo hwc _ _ _ _ _ _ _)

theorem l1Put_caches (v : Pair) (x : Bool) (t : TlbEntry) : CachesOnly v (v.l1Put x t) := by
  unfold Pair.l1Put
  split
  · exact ⟨v.tlb, _, v.dtlb, v.walkc, rfl⟩
  · exact ⟨v.tlb, v.itlb, _, v.walkc, rfl⟩

theorem tlbPut_caches (v : Pair) (l : List TlbEntry) : CachesOnly v { v with tlb := l } := ⟨l, v.itlb, v.dtlb, v.walkc, rfl⟩

theorem tlbFill (s : State) (x : Bool) (t : TlbEntry) : Reads (some p) s (s.tlbFill p x t) := by
  unfold State.tlbFill
  refine updPair s fun v => ?_
  dsimp only
  split
  · exact tlbPut_caches v _
  · exact (tlbPut_caches v _).trans (l1Put_caches _ x t)

theorem tlbHit (s : State) (x : Bool) (t : TlbEntry) : Reads (some p) s (s.tlbHit p x t) := by
  unfold State.tlbHit
  refine updPair s fun v => ?_
  split
  · exact tlbPut_caches v _
  · split
    · exact .refl v
    · exact l1Put_caches v x t

theorem leafOf (s : State) (x : Bool) (ttbc va : Nat) : Reads (some p) s (s.leafOf p x ttbc va).state := by
  unfold State.leafOf
  extract_lets hit
  split
  · exact refl s
  split
  · exact refl s
  split
  · exact tlbHit s x _
  · refine (walk s (fun q hq => ?_) _ _ _).bind fun _ _ => tlbFill _ _ _
    split at hq
    · cases hq
    · exact hq

theorem releaf (s : State) (x : Bool) (ttbc va : Nat) : Reads (some p) s (s.releaf p x ttbc va).state := by
  unfold State.releaf
  extract_lets s0
  have hdrop : Reads (some p) s s0 := updPair s fun v => ⟨_, _, _, v.walkc, rfl⟩
  exact (hdrop.trans (walk _ (by simp) _ _ _)).bind fun _ _ => tlbFill _ _ _

theorem bareXlate (s : State) (v : Via) (k : AKind) (va len : Nat) : Reads o s (bareXlate s v k va len).state := by
  unfold Machine.bareXlate
  split
  · exact refl s
  extract_lets sp
  split
  · exact refl s
  extract_lets bad
  split <;> exact refl s

theorem xlate (s : State) {v : Via} (hv : v.pair = p) (k : AKind) (va len : Nat) : Reads (some p) s (xlate s v k va len).state := by
  subst hv
  unfold Machine.xlate
  split
  · exact bareXlate s v k va len
  refine (leafOf s _ _ _).bind fun t s1 => ?_
  split
  · exact refl s1
  split
  · exact refl s1
  refine (releaf s1 _ _ _).bind fun t2 s2 => ?_
  split
  · exact refl s2
  split <;> exact refl s2

theorem planParts {v : Via} (hv : v.pair = p) (k : AKind) (one capAcc : Bool) (ea size : Nat) (l : List (Nat × Nat)) :
    ∀ (upper : Bool) (s : State), Reads (some p) s (planParts v k one capAcc ea size upper s l).state := by
  induction l with
  | nil => exact fun _ s => refl s
  | cons a l ih =>
    intro upper s
    have hx := xlate s hv k a.1 a.2
    unfold Machine.planParts
    split
    next h => rwa [h] at hx
    next c s1 h =>
      rw [h] at hx
      have hrest := ih one s1
      split
      · exact hx
      split
      next h2 => rw [h2] at hrest; exact trans hx hrest
      next h2 => rw [h2] at hrest; exact trans hx hrest

theorem planRange (s : State) {v : Via} (hv : v.pair = p) (k : AKind) (ea size : Nat) : Reads (some p) s (planRange s v k ea size).state :=
  planParts hv _ _ _ _ _ _ _ s

theorem planCap (s : State) {v : Via} (hv : v.pair = p) (k : AKind) (ea : Nat) : Reads (some p) s (planCap s v k ea).state := by
  have hplan : Reads (some p) s (planAccess s v k true ea 16).state := planParts hv _ _ _ _ _ _ _ _
  unfold Machine.planCap
  split
  all_goals next h => rw [h] at hplan; exact hplan

/-! ## Capabilities loaded (R73, R81, R87) -/

theorem lookupPa (s : State) (ttbc va : Nat) : Reads (some p) s (s.lookupPa p ttbc va).2 := by
  have hleaf := leafOf (p := p) s false ttbc va
  unfold State.lookupPa
  split
  · exact refl s
  split
  all_goals next h => rw [h] at hleaf; exact hleaf

theorem revoked (s : State) (ttbc : Nat) (c : Cap) : Reads (some p) s (s.revoked p ttbc c).2 := by
  have hpa := lookupPa (p := p) s ttbc c.base
  unfold State.revoked
  split
  · exact refl s
  split
  next h => rwa [h] at hpa
  next pa s1 h =>
    rw [h] at hpa
    split
    · exact hpa.trans (bitmapRead s1 pa)
    · exact hpa

theorem barrier (s : State) (ttbc : Nat) (c : Cap) : Reads (some p) s (s.barrier p ttbc c).2 := by
  have hrevoked := revoked (p := p) s ttbc c
  unfold State.barrier
  split
  next h => rw [h] at hrevoked; exact hrevoked.trans (bump _ (by decide))
  next h => rwa [h] at hrevoked

theorem capLoad (s : State) {v : Via} (hv : v.pair = p) (lc : Bool) (c : Piece) : Reads (some p) s (s.capLoad v lc c).2 := by
  subst hv
  unfold State.capLoad
  extract_lets s1 x
  have h1 : Reads (some v.pair) s s1 := .ite (dramEnter s _ _) (refl s)
  split
  · exact h1.trans (barrier s1 _ _)
  · exact h1

/-! ## Reads of the unit itself (R252, R270) -/

theorem dispPa (s : State) (ttbc va : Nat) : Reads o s (s.dispPa ttbc va).state := by
  unfold State.dispPa
  split
  · split <;> exact refl s
  · refine (walk s (by simp) _ _ _).bind fun t s1 => ?_
    split <;> exact refl s1

theorem dispRevoked (s : State) (ttbc : Nat) (c : Cap) : Reads o s (s.dispRevoked ttbc c).2 := by
  have hpa := dispPa (o := o) s ttbc c.base
  unfold State.dispRevoked
  split
  · exact refl s
  split
  next pa s1 h => rw [h] at hpa; exact hpa.trans (bitmapRead s1 pa)
  next h => rwa [h] at hpa

theorem dispBarrier (s : State) (ttbc : Nat) (c : Cap) : Reads o s (s.dispBarrier ttbc c).2 := by
  have hrevoked := dispRevoked (o := o) s ttbc c
  unfold State.dispBarrier
  split
  next h => rw [h] at hrevoked; exact hrevoked.trans (bump _ (by decide))
  next h => rwa [h] at hrevoked

theorem readTask (s : State) (t : Nat) : Reads o s (s.readTask t).2.2 := by
  unfold State.readTask
  extract_lets pa s1 ttbc ctl r
  have h : Reads o s r.2 := (dramEnter s _ _).trans (dispBarrier s1 _ _)
  split
  · exact refl s
  split
  · exact h
  split <;> exact h

theorem task (s : State) (t : Nat) : Reads o s (s.task t).2 := by
  unfold State.task
  split
  · exact refl s
  · exact (readTask s t).trans (setTasks _ _)

theorem entryAt (s : State) (b t : Nat) : Reads (some p) s (s.entryAt p b t).2 := by
  unfold State.entryAt
  split
  · exact refl s
  · exact task s t

theorem entryFor (s : State) (t : Nat) : Reads (some p) s (s.entryFor p t).2 := by
  unfold State.entryFor
  split
  · exact entryAt s _ t
  · exact task s t

theorem regionRead (s : State) (e : TaskEntry) : Reads (some p) s (s.regionRead p e).state := by
  unfold State.regionRead
  refine bind (planRange s rfl _ _ _) fun cs s1 => ?_
  extract_lets r ds
  have hread : Reads (some p) s1 r.2 := readPieces cs s1
  split
  · exact hread
  · exact hread.trans (.ite (setBit _ _ (by decide)) (refl _))

theorem entryCap (s : State) (k : Nat) (e : TaskEntry) : Reads (some p) s (s.entryCap p k e).state := by
  unfold State.entryCap
  exact bind (planCap s rfl _ _) fun c s1 => capLoad s1 rfl _ c

theorem preload (s : State) (w : Work) : Reads (some p) s (s.preload p w).state := by
  unfold State.preload
  extract_lets x e
  have hentry : Reads (some p) s e.2 := entryFor s x.1
  split
  · exact hentry
  · refine bind (hentry.trans (regionRead e.2 _)) fun ds s1 => ?_
    split
    · exact refl s1
    · exact bind (entryCap s1 _ _) fun _ s2 => refl s2

end Reads

end Sys2Proof.Laws
end

section
/-!
PROOFS. INVTASK (O36).
-/
namespace Sys2Proof.Laws
open Sys2Proof.Machine
open Sys2Proof (Instr Imm)

/-! ## INVTASK (R252) -/

theorem evdOnly_of_readOnly {s t : State} (h : ReadOnly none s t) : EvdOnly s t := by
  obtain ⟨⟨d, ps, ts, rfl⟩, -, -, -, hpairs⟩ := h
  obtain rfl : ps = s.pairs := hpairs rfl
  exact ⟨d, _, rfl⟩

/-- An entry is cached. -/
def putTask (s : State) (t : Nat) (e : Option TaskEntry) : State :=
  { s with evd := { s.evd with tasks := (t, e) :: s.evd.tasks.filter (fun e => !(e.1 == t)) } }

/-- A task is recorded as spilled or not. -/
def putSpilled (s : State) (t : Nat) (v : Bool) : State := { s with evd := { s.evd with spilled := smSet (always false) s.evd.spilled t v } }

/-- An entry that breaks R251 is noted. -/
def noteBadEntry (s : State) (bad : Bool) : State := if bad then s.setBit Addr.EVD_ERR 5 else s

/-- The state with an entry cached, a bad entry noted and the record of spilled tasks set, before the result. -/
def cacheEntry (s : State) (t : Nat) (e : Option TaskEntry) (bad : Bool) : State :=
  putSpilled (noteBadEntry (putTask s t e) bad) t (match e with
    | none => false
    | some _ => ((noteBadEntry (putTask s t e) bad).residentOn t).isNone)

theorem invTask_eq (s : State) (t : Nat) :
    s.invTask t = (cacheEntry (s.readTask t).2.2 t (s.readTask t).1 (s.readTask t).2.1).evdLast 0 := rfl

theorem EvdOnly.setEvd (s : State) (e : Evd) : EvdOnly s { s with evd := e } := ⟨s.dev, e, rfl⟩

theorem evdOnly_noteBadEntry (s : State) (bad : Bool) : EvdOnly s (noteBadEntry s bad) := by
  cases bad
  exacts [⟨s.dev, s.evd, rfl⟩, .setFld _ _ _ _ _]

theorem rd_noteBadEntry (s : State) (bad : Bool) {a : Nat} (h : a ≠ Addr.EVD_ERR) : (noteBadEntry s bad).rd a = s.rd a := by
  cases bad
  exacts [rfl, State.rd_setBit_ne _ _ h]

theorem evd_noteBadEntry (s : State) (bad : Bool) : (noteBadEntry s bad).evd = s.evd := by cases bad <;> rfl

theorem tasks_putSpilled (s : State) (t : Nat) (v : Bool) : (putSpilled s t v).evd.tasks = s.evd.tasks := rfl

theorem evdOnly_cacheEntry (s : State) (t : Nat) (e : Option TaskEntry) (bad : Bool) : EvdOnly s (cacheEntry s t e bad) :=
  ((EvdOnly.setEvd _ _).trans (evdOnly_noteBadEntry _ _)).trans (EvdOnly.setEvd _ _)

theorem rd_cacheEntry (s : State) (t : Nat) (e : Option TaskEntry) (bad : Bool) {a : Nat} (h : a ≠ Addr.EVD_ERR) :
    (cacheEntry s t e bad).rd a = s.rd a :=
  rd_noteBadEntry (putTask s t e) bad h

theorem tasks_cacheEntry (s : State) (t : Nat) (e : Option TaskEntry) (bad : Bool) :
    (cacheEntry s t e bad).evd.tasks = (t, e) :: s.evd.tasks.filter (fun e => !(e.1 == t)) := by
  unfold cacheEntry
  rw [tasks_putSpilled, evd_noteBadEntry]
  rfl

/-- An entry at the head of the cached ones is the task's. -/
theorem task_of_head {s : State} {t : Nat} {e : Option TaskEntry} {l : List (Nat × Option TaskEntry)}
    (h : s.evd.tasks = (t, e) :: l) : (s.task t).1 = e := by
  unfold State.task
  rw [h, List.find?_cons_of_pos (by simp)]

/-- INVTASK reads the entry again: it applies from then on (R252). -/
theorem invtask_rereads {s : State} (hq : Quiet s) {tn : BitVec 16} (hc : s.tally.chans = []) (hl : s.latent = []) :
    ∃ u, exec (.invtask tn) s = .next u ∧ (u.task tn.toNat).1 = (({ s with out := [] } : State).readTask tn.toNat).1 ∧
      u.fld Addr.EVD_STATUS 1 2 = 0 ∧ { u with dev := s.dev, evd := s.evd, out := s.out } = s := by
  have hread : ReadOnly none { s with out := [] } (({ s with out := [] } : State).readTask tn.toNat).2.2 := Reads.readTask _ _ ⟨hc, hl⟩
  have hrd : ∀ a, a ∉ readRegs ++ [Addr.EVD_ERR, Addr.EVD_STATUS] → (({ s with out := [] } : State).invTask tn.toNat).rd a = s.rd a := by
    intro a ha
    simp only [List.mem_append, List.mem_cons, List.not_mem_nil, or_false, not_or] at ha
    obtain ⟨hregs, herr, hstatus⟩ := ha
    rw [invTask_eq, rd_evdLast _ _ hstatus, rd_cacheEntry _ _ _ _ herr]
    exact hread.2.1 a hregs
  have hall : EvdOnly { s with out := [] } (({ s with out := [] } : State).invTask tn.toNat) :=
    ((evdOnly_of_readOnly hread).trans (evdOnly_cacheEntry _ _ _ _)).trans (EvdOnly.evdLast _ 0)
  obtain ⟨hdoes, hframe⟩ := EvdOnly.does (f := fun s => s.invTask tn.toNat) hall rfl hrd (by decide) hq
  refine ⟨_, hdoes, ?_, ?_, hframe⟩
  · rw [invTask_eq]
    exact task_of_head (by rw [evd_evdLast]; exact tasks_cacheEntry _ _ _ _)
  · rw [invTask_eq]
    exact fld_evdLast _ (by decide)

end Sys2Proof.Laws
end

section
/-!
PROOFS. The init task on pairs: EVD_ENABLE and RESTART (O36).
-/
namespace Sys2Proof.Laws
open Sys2Proof.Machine
open Sys2Proof (Instr Imm)

/-! ## Work presented to a pair (R262, R270) -/

/-- Two pairs that differ in cached translations and in the work presented: its standby set may be there. -/
def PresentsOnly (w : Work) (v x : Pair) : Prop :=
  ∃ l i d c b, x = { v with tlb := l, itlb := i, dtlb := d, walkc := c, selected := some w, standby := b, stalled := false }

/-- What an effect on the dispatch unit for pair p leaves: the registers apart from `readRegs`, the other pairs, memory and the
other units. -/
def ServesPair (p : Nat) (s t : State) : Prop :=
  (∃ d ps e, t = { s with dev := d, pairs := ps, evd := e }) ∧ (∀ a, a ∉ readRegs → t.rd a = s.rd a) ∧ ∀ q, q ≠ p → t.pair q = s.pair q

theorem ServesPair.trans {p : Nat} {s t u : State} (h : ServesPair p s t) (k : ServesPair p t u) : ServesPair p s u := by
  obtain ⟨⟨d, ps, e, ht⟩, hrd, hother⟩ := h
  obtain ⟨⟨d', ps', e', hu⟩, krd, kother⟩ := k
  exact ⟨⟨d', ps', e', by rw [hu, ht]⟩, fun a ha => (krd a ha).trans (hrd a ha), fun q hq => (kother q hq).trans (hother q hq)⟩

theorem ServesPair.updPair (p : Nat) (s : State) (f : Pair → Pair) : ServesPair p s (s.updPair p f) :=
  ⟨⟨s.dev, _, s.evd, rfl⟩, fun _ _ => rfl, fun q hq => (State.pair_updPair s p q f).trans (if_neg hq)⟩

theorem ServesPair.setEvd (p : Nat) (s : State) (e : Evd) : ServesPair p s { s with evd := e } :=
  ⟨⟨s.dev, s.pairs, e, rfl⟩, fun _ _ => rfl, fun _ _ => rfl⟩

theorem ReadOnly.servesPair {p : Nat} {s t : State} (h : ReadOnly (some p) s t) : ServesPair p s t := by
  obtain ⟨⟨d, ps, ts, ht⟩, hrd, hother, -, -⟩ := h
  exact ⟨⟨d, ps, _, ht⟩, hrd, fun q hq => hother q (by simpa using hq.symm)⟩

/-- The records with one of them at pair p. -/
def atPair (id p : Nat) (ds : List Delivery) : List Delivery := ds.map (fun d => if d.id == id then { d with pair := p } else d)

/-- The pair with an event selected. -/
def selectOn (id : Nat) (v : Pair) : Pair := { v with selected := some (.event id), standby := none, stalled := false }

/-- An event is selected on a pair, its set not yet read. -/
def selectEvent (s : State) (p id : Nat) : State :=
  let s1 := s.updPair p (selectOn id)
  { s1 with evd := { s1.evd with delivs := atPair id p s1.evd.delivs } }

theorem pair_selectEvent (s : State) (p id : Nat) : (selectEvent s p id).pair p = selectOn id (s.pair p) :=
  (State.pair_updPair s p p _).trans (if_pos rfl)

/-- The set that was read becomes the pair's standby set. -/
def takeSet (p : Nat) : Res Standby → State
  | .ok x s => s.updPair p (fun v => { v with standby := some x })
  | .flt _ s => s

theorem present_eq (s : State) (p id : Nat) : s.present p (.event id) = takeSet p ((selectEvent s p id).preload p (.event id)) := rfl

theorem evd_takeSet (p : Nat) (r : Res Standby) : (takeSet p r).evd = r.state.evd := by cases r <;> rfl

theorem servesPair_takeSet (p : Nat) (r : Res Standby) : ServesPair p r.state (takeSet p r) := by
  cases r with
  | ok x s => exact .updPair p s (fun v => { v with standby := some x })
  | flt f s => exact ⟨⟨s.dev, s.pairs, s.evd, rfl⟩, fun _ _ => rfl, fun _ _ => rfl⟩

theorem pair_takeSet (p : Nat) (r : Res Standby) : ∃ b, (takeSet p r).pair p = { r.state.pair p with standby := b } := by
  cases r with
  | ok x s => exact ⟨some x, (State.pair_updPair s p p _).trans (if_pos rfl)⟩
  | flt f s => exact ⟨(s.pair p).standby, rfl⟩

/-- Once an event is presented, its set is loaded or to be read again: that is all that has changed. -/
theorem present_spec {s : State} (hs : Plain s) (p id : Nat) : ServesPair p s (s.present p (.event id)) ∧
    PresentsOnly (.event id) (s.pair p) ((s.present p (.event id)).pair p) ∧
    (s.present p (.event id)).evd.nextId = s.evd.nextId ∧ (s.present p (.event id)).evd.delivs = atPair id p s.evd.delivs := by
  have hread : ReadOnly (some p) (selectEvent s p id) ((selectEvent s p id).preload p (.event id)).state := Reads.preload _ _ hs
  have hselect : ServesPair p s (selectEvent s p id) := (ServesPair.updPair p s _).trans (.setEvd p _ _)
  rw [present_eq]
  refine ⟨(hselect.trans hread.servesPair).trans (servesPair_takeSet p _), ?_, ?_⟩
  · obtain ⟨b, hb⟩ := pair_takeSet p ((selectEvent s p id).preload p (.event id))
    obtain ⟨l, i, d, c, hcache⟩ := hread.2.2.2.1 p
    rw [hb, hcache, pair_selectEvent]
    exact ⟨l, i, d, c, b, rfl⟩
  · obtain ⟨d, ps, ts, ht⟩ := hread.1
    rw [evd_takeSet, ht]
    exact ⟨rfl, rfl⟩

/-! ## The init task on a pair (R275) -/

/-- The record that brings the init task to a pair: channel 4096, entry 0, the pair and whether it restarts in c28. -/
def initDeliv (s : State) (p : Nat) (restart : Bool) : Delivery :=
  { id := s.evd.nextId, chan := 4096, task := s.fld (Addr.EVD_PAIRCFG p) 16 16, entry := 0,
    payload := [intCap (BitVec.ofNat 64 (p + b2n restart * 256))], pair := p, fault := none,
    prio := s.evdTick.2.prioOf (s.fld (Addr.EVD_PAIRCFG p) 16 16), accepted := false, filled := false, entered := false,
    at_ := s.evd.nextId, buf := none, redisp := none, since := s.clk }

/-- The record begins and the pair is in its init task. -/
def beginInit (s : State) (p : Nat) (restart : Bool) : State :=
  ({ s.evdTick.2 with evd := { s.evdTick.2.evd with delivs := s.evdTick.2.evd.delivs ++ [initDeliv s p restart] } }).updPair p
    (fun v => { v with init := true })

theorem initEntry_eq (s : State) (p : Nat) (restart : Bool) :
    s.initEntry p restart = (beginInit s p restart).present p (.event s.evd.nextId) := rfl

theorem pair_beginInit (s : State) (p : Nat) (restart : Bool) : (beginInit s p restart).pair p = { s.pair p with init := true } :=
  (State.pair_updPair _ p p _).trans (if_pos rfl)

theorem evd_beginInit (s : State) (p : Nat) (restart : Bool) : (beginInit s p restart).evd =
    { s.evd with nextId := s.evd.nextId + 1, delivs := s.evd.delivs ++ [initDeliv s p restart] } := rfl

theorem servesPair_beginInit (s : State) (p : Nat) (restart : Bool) : ServesPair p s (beginInit s p restart) :=
  ((ServesPair.setEvd p s _).trans (.setEvd p _ _)).trans (.updPair p _ _)

/-- The init task's entry is selected on a pair: its record is the next one, and the records before it stay. -/
theorem initEntry_spec {s : State} (hs : Plain s) (p : Nat) (restart : Bool) : ServesPair p s (s.initEntry p restart) ∧
    PresentsOnly (.event s.evd.nextId) { s.pair p with init := true } ((s.initEntry p restart).pair p) ∧
    (s.initEntry p restart).evd.nextId = s.evd.nextId + 1 ∧
    (s.initEntry p restart).evd.delivs = atPair s.evd.nextId p s.evd.delivs ++ [initDeliv s p restart] := by
  obtain ⟨hserves, hpair, hnext, hdelivs⟩ := present_spec (s := beginInit s p restart) hs p s.evd.nextId
  rw [initEntry_eq]
  rw [pair_beginInit] at hpair
  rw [evd_beginInit] at hnext hdelivs
  refine ⟨(servesPair_beginInit s p restart).trans hserves, hpair, hnext, hdelivs.trans ?_⟩
  unfold atPair
  rw [List.map_append]
  congr 1
  exact congrArg (fun d => [d]) (if_pos (beq_self_eq_true s.evd.nextId))

end Sys2Proof.Laws
end

section
/-!
PROOFS. RESTART and EVD_ENABLE (O36).
-/
namespace Sys2Proof.Laws
open Sys2Proof.Machine
open Sys2Proof (Instr Imm)

/-! ## RESTART once the re-dispatch is made (R275, R276) -/

theorem ServesPair.atRest {p : Nat} {s t : State} (h : ServesPair p s t) (hq : Quiet s) (hout : s.out = []) : AtRest s t := by
  obtain ⟨⟨d, ps, e, rfl⟩, hrd, -⟩ := h
  have hrest : ∀ a ∈ restRegs, a ∉ readRegs := by decide
  exact atRest_of_rd hq hout rfl rfl rfl fun a ha => hrd a (hrest a ha)

theorem ServesPair.sameMemory {p : Nat} {s t : State} (h : ServesPair p s t) : SameMemory s t := by
  obtain ⟨⟨d, ps, e, rfl⟩, -, -⟩ := h
  exact ⟨SameMaps.refl _, rfl⟩

/-- What a restart leaves of a pair: its cached translations and code, its decode table, and whether it failed or is stopped. -/
def restarted (v : Pair) : Pair :=
  { pairCold with
    tlb := v.tlb, itlb := v.itlb, dtlb := v.dtlb, ibuf := v.ibuf, walkc := v.walkc, table := v.table, pendTable := v.pendTable,
    failed := v.failed, stopped := v.stopped, gen := v.gen }

theorem restartPair_eq (s : State) (p : Nat) :
    s.restartPair p = ((((s.updPair p restarted).switchTable p).initEntry p true).evdLast 0) := rfl

/-- A pair that takes its pending table changes that and its `MC_PEND` bit alone (R420). -/
theorem switchTable_spec (s : State) (p : Nat) : (∃ d ps, s.switchTable p = { s with dev := d, pairs := ps }) ∧
    (∀ a, a ∉ [Addr.MC_PEND0, Addr.MC_PEND1] → (s.switchTable p).rd a = s.rd a) ∧
    (∀ q, q ≠ p → (s.switchTable p).pair q = s.pair q) ∧
    ∃ t n, (s.switchTable p).pair p = { s.pair p with table := t, pendTable := n } := by
  cases h : (s.pair p).pendTable with
  | none =>
    rw [switchTable_none h]
    exact ⟨⟨s.dev, s.pairs, rfl⟩, fun _ _ => rfl, fun _ _ => rfl, (s.pair p).table, (s.pair p).pendTable, rfl⟩
  | some d =>
    rw [switchTable_some h]
    have hreg : (if p < 64 then Addr.MC_PEND0 else Addr.MC_PEND1) ∈ [Addr.MC_PEND0, Addr.MC_PEND1] := by split <;> decide
    generalize (if p < 64 then Addr.MC_PEND0 else Addr.MC_PEND1) = r at hreg
    have hpair := State.pair_updPair s p
    refine ⟨⟨_, _, rfl⟩, fun a ha => State.rd_setFld_ne _ _ _ _ (ne_of_mem_of_not_mem hreg ha).symm, fun q hq => ?_, d, none, ?_⟩
    · rw [State.pair_setFld, hpair, if_neg hq]
    · rw [State.pair_setFld, hpair, if_pos rfl]

/-- The init task of a record is selected on a pair. -/
def InitTask (u : State) (p : Nat) (d : Delivery) : Prop :=
  (u.pair p).init = true ∧ d ∈ u.evd.delivs ∧ (u.pair p).selected = some (.event d.id) ∧ d.chan = 4096 ∧ d.entry = 0 ∧ d.pair = p

theorem initEntry_presents {s : State} (hs : Plain s) (p : Nat) (restart : Bool) :
    InitTask (s.initEntry p restart) p (initDeliv s p restart) := by
  obtain ⟨-, ⟨l, i, d, c, b, hpair⟩, -, hdelivs⟩ := initEntry_spec hs p restart
  unfold InitTask
  rw [hdelivs, hpair]
  exact ⟨rfl, List.mem_append_right _ List.mem_cons_self, rfl, rfl, rfl, rfl⟩

theorem InitTask.evdLast {u : State} {p : Nat} {d : Delivery} (h : InitTask u p d) (r : Nat) : InitTask (u.evdLast r) p d := h

theorem payload_initDeliv (s : State) (p : Nat) : (initDeliv s p true).payload = [intCap (BitVec.ofNat 64 (p + 256))] := rfl

theorem pair_evdLast (s : State) (r q : Nat) : (s.evdLast r).pair q = s.pair q := rfl

theorem sameMemory_evdLast (s : State) (r : Nat) : SameMemory s (s.evdLast r) := ⟨SameMaps.refl _, rfl⟩

theorem restart_of_redispatched {s : State} {p : Nat} (hp : p < 96) (hhalt : (s.pair p).halt.isSome = true)
    (hdone : (s.pair p).redispDone = true) : s.restart p = s.restartPair p := by
  unfold State.restart
  rw [if_neg (by omega), if_neg (by rw [Option.isNone_eq_false_iff.mpr hhalt]; decide), if_pos hdone]

/-- The restarted pair before its init task: the others, memory and the other registers are as they were. -/
theorem coldStart_spec {s : State} (hq : Quiet s) (hout : s.out = []) (hs : Plain s) (p : Nat) :
    AtRest s ((s.updPair p restarted).switchTable p) ∧ Plain ((s.updPair p restarted).switchTable p) ∧
      SameMemory s ((s.updPair p restarted).switchTable p) ∧
      (∀ q, q ≠ p → ((s.updPair p restarted).switchTable p).pair q = s.pair q) ∧
      ∃ t n, ((s.updPair p restarted).switchTable p).pair p = { restarted (s.pair p) with table := t, pendTable := n } := by
  obtain ⟨⟨d, ps, hswitch⟩, hrd, hother, t, n, hself⟩ := switchTable_spec (s.updPair p restarted) p
  have hregs : ∀ a ∈ restRegs, a ∉ [Addr.MC_PEND0, Addr.MC_PEND1] := by decide
  rw [State.pair_updPair, if_pos rfl] at hself
  refine ⟨?_, ?_, ?_, fun q hqp => ?_, t, n, hself⟩
  · exact atRest_of_rd hq (by rw [hswitch]; exact hout) (by rw [hswitch]; rfl) (by rw [hswitch]; rfl) (by rw [hswitch]; rfl)
      fun a ha => hrd a (hregs a ha)
  · rw [hswitch]; exact hs
  · rw [hswitch]; exact ⟨SameMaps.refl _, rfl⟩
  · exact (hother q hqp).trans ((State.pair_updPair s p q _).trans (if_neg hqp))

/-- A restarted pair is out of its halt, with no bank in use, and in its init task. -/
theorem restart_restarts {s : State} (hq : Quiet s) {c : BitVec 16} (hp : c.toNat < 96) (hhalt : (s.pair c.toNat).halt.isSome = true)
    (hdone : (s.pair c.toNat).redispDone = true) (hc : s.tally.chans = []) (hl : s.latent = []) :
    ∃ u, exec (.restart c) s = .next u ∧ (u.pair c.toNat).halt = none ∧ (u.pair c.toNat).run = none ∧
      (∀ e, u.bank c.toNat e = bankReset) ∧ (u.pair c.toNat).init = true ∧ u.fld Addr.EVD_STATUS 1 2 = 0 ∧
      (∃ d ∈ u.evd.delivs, (u.pair c.toNat).selected = some (.event d.id) ∧ d.chan = 4096 ∧ d.pair = c.toNat ∧
        d.payload = [intCap (BitVec.ofNat 64 (c.toNat + 256))]) ∧
      (∀ q, q ≠ c.toNat → u.pair q = s.pair q) ∧ SameMemory s u := by
  generalize hpc : c.toNat = p at hp hhalt hdone
  have hf : ({ s with out := [] } : State).restart p = _ :=
    (restart_of_redispatched (s := { s with out := [] }) hp hhalt hdone).trans (restartPair_eq _ p)
  obtain ⟨hrest, hplain, hmem, hother, t, n, hself⟩ := coldStart_spec (s := { s with out := [] }) hq rfl ⟨hc, hl⟩ p
  generalize (({ s with out := [] } : State).updPair p restarted).switchTable p = s1 at hf hrest hplain hmem hother hself
  obtain ⟨hserves, ⟨l, i, dt, w, b, hpair⟩, -, -⟩ := initEntry_spec hplain p true
  have hinit := (initEntry_presents hplain p true).evdLast 0
  have hpay := payload_initDeliv s1 p
  generalize s1.initEntry p true = s2 at hf hserves hpair hinit
  generalize initDeliv s1 p true = d at hinit hpay
  have hentered := AtRest.trans hrest (hserves.atRest hrest.2.1 hrest.1)
  have hend := AtRest.trans hentered ((regsOnly_evdLast (l := [Addr.EVD_STATUS]) s2 0 (by decide)).atRest (by decide) hentered.2.1 hentered.1)
  rw [hself] at hpair
  have hcold : (s2.evdLast 0).pair p = _ := (pair_evdLast s2 0 p).trans hpair
  obtain ⟨hpairInit, hin, hsel, hchan, -, hat⟩ := hinit
  refine ⟨s2.evdLast 0, does_at_rest (f := fun s => s.restart c.toNat) (by rw [hpc]; exact hf) hend, by rw [hcold]; rfl,
    by rw [hcold]; rfl, fun e => bank_of_banks (v := pairCold) (by rw [hcold]; rfl) e, hpairInit, fld_evdLast s2 (by decide),
    ⟨d, hin, hsel, hchan, hat, hpay⟩,
    fun q hqp => (pair_evdLast s2 0 q).trans ((hserves.2.2 q hqp).trans (hother q hqp)), ?_⟩
  exact SameMemory.trans (SameMemory.trans hmem hserves.sameMemory) (sameMemory_evdLast s2 0)

end Sys2Proof.Laws
end

section
/-!
PROOFS. EVD_ENABLE: the init task on every usable pair (O36).
-/
namespace Sys2Proof.Laws
open Sys2Proof.Machine
open Sys2Proof (Instr Imm)

/-! ## The init task on the pairs of a list (R275) -/

/-- What init entries on the pairs of a list keep: the registers apart from `readRegs`, the other pairs, every bank, memory, the
other units and the records made before. -/
structure InitFrame (l : List Nat) (s t : State) : Prop where
  eq : ∃ d ps e, t = { s with dev := d, pairs := ps, evd := e }
  rd : ∀ a, a ∉ readRegs → t.rd a = s.rd a
  pair : ∀ q, q ∉ l → t.pair q = s.pair q
  banks : ∀ q, (t.pair q).banks = (s.pair q).banks
  next : s.evd.nextId ≤ t.evd.nextId
  delivs : ∀ d ∈ s.evd.delivs, d.id < s.evd.nextId → d ∈ t.evd.delivs

namespace InitFrame

theorem refl (l : List Nat) (s : State) : InitFrame l s s :=
  ⟨⟨s.dev, s.pairs, s.evd, rfl⟩, fun _ _ => rfl, fun _ _ => rfl, fun _ => rfl, le_rfl, fun _ h _ => h⟩

theorem trans {l : List Nat} {s t u : State} (h : InitFrame l s t) (k : InitFrame l t u) : InitFrame l s u where
  eq := by
    obtain ⟨d, ps, e, ht⟩ := h.eq
    obtain ⟨d', ps', e', hu⟩ := k.eq
    exact ⟨d', ps', e', by rw [hu, ht]⟩
  rd a ha := (k.rd a ha).trans (h.rd a ha)
  pair q hq := (k.pair q hq).trans (h.pair q hq)
  banks q := (k.banks q).trans (h.banks q)
  next := h.next.trans k.next
  delivs d hd hid := k.delivs d (h.delivs d hd hid) (hid.trans_le h.next)

theorem mono {l m : List Nat} {s t : State} (h : InitFrame l s t) (hlm : l ⊆ m) : InitFrame m s t :=
  { h with pair := fun q hq => h.pair q fun hl => hq (hlm hl) }

theorem plain {l : List Nat} {s t : State} (h : InitFrame l s t) (hs : Plain s) : Plain t := by
  obtain ⟨d, ps, e, rfl⟩ := h.eq
  exact hs

/-- A record made before, selected on a pair that the list does not name, stays. -/
theorem initTask {l : List Nat} {s t : State} (h : InitFrame l s t) {p : Nat} {d : Delivery} (hp : p ∉ l) (hid : d.id < s.evd.nextId)
    (k : InitTask s p d) : InitTask t p d := by
  obtain ⟨hinit, hin, hsel, hd⟩ := k
  unfold InitTask
  rw [h.pair p hp]
  exact ⟨hinit, h.delivs d hin hid, hsel, hd⟩

/-- Whether a pair is usable, and which task is its init task, are read from registers and the pair itself. -/
theorem pairCfg {l : List Nat} {s t : State} (h : InitFrame l s t) {q : Nat} (hq : q < 96) (lo w : Nat) :
    t.fld (Addr.EVD_PAIRCFG q) lo w = s.fld (Addr.EVD_PAIRCFG q) lo w := by
  have hreg : Addr.EVD_PAIRCFG q ∉ readRegs := by
    simp only [readRegs, List.mem_cons, List.not_mem_nil, or_false, Addr.EVD_PAIRCFG, Addr.TR_CNT_WALK, Addr.ECL_CNT_LBCLR, Addr.RCU_ERR]
    omega
  exact fld_of_rd (h.rd _ hreg) lo w

theorem usable {l : List Nat} {s t : State} (h : InitFrame l s t) {q : Nat} (h96 : q < 96) (hq : q ∉ l) : t.usable q = s.usable q := by
  unfold State.usable
  rw [h.pair q hq, h.pairCfg h96]

end InitFrame

theorem atPair_keeps {id p : Nat} {ds : List Delivery} {d : Delivery} (h : d ∈ ds) (hid : d.id ≠ id) : d ∈ atPair id p ds :=
  List.mem_map.mpr ⟨d, h, if_neg (by simpa using hid)⟩

theorem initFrame_initEntry {s : State} (hs : Plain s) (p : Nat) (restart : Bool) : InitFrame [p] s (s.initEntry p restart) := by
  obtain ⟨⟨heq, hrd, hother⟩, ⟨l, i, d, c, b, hpair⟩, hnext, hdelivs⟩ := initEntry_spec hs p restart
  refine ⟨heq, hrd, fun q hq => hother q (by simpa using hq), fun q => ?_, by omega, fun x hx hid => ?_⟩
  · by_cases hq : q = p
    · rw [hq, hpair]
    · rw [hother q hq]
  · rw [hdelivs]
    exact List.mem_append_left _ (atPair_keeps hx (by omega))

/-- One pair of the list: the init task is entered where the pair is usable. -/
def initStep (s : State) (p : Nat) : State := if s.usable p then s.initEntry p false else s

theorem initFrame_initStep {s : State} (hs : Plain s) (p : Nat) : InitFrame [p] s (initStep s p) := by
  unfold initStep
  split
  exacts [initFrame_initEntry hs p false, .refl _ s]

/-- The init task is selected on every usable pair of the list. -/
theorem initAll_spec (l : List Nat) : ∀ s : State, l.Nodup → Plain s → InitFrame l s (s.initAll l) ∧
    ∀ q ∈ l, q < 96 → s.usable q = true → ∃ d, InitTask (s.initAll l) q d ∧ d.task = s.fld (Addr.EVD_PAIRCFG q) 16 16 := by
  induction l with
  | nil => exact fun s _ _ => ⟨.refl _ s, nofun⟩
  | cons p l ih =>
    intro s hnodup hs
    obtain ⟨hp, hl⟩ := List.nodup_cons.mp hnodup
    have hstep := initFrame_initStep hs p
    obtain ⟨hframe, htasks⟩ := ih (initStep s p) hl (hstep.plain hs)
    refine ⟨(hstep.mono (by simp)).trans (hframe.mono (by simp)), fun q hq h96 husable => ?_⟩
    rcases List.mem_cons.mp hq with rfl | hq
    · have hentered : initStep s q = s.initEntry q false := if_pos husable
      have hnext := (initEntry_spec hs q false).2.2.1
      refine ⟨initDeliv s q false, hframe.initTask hp ?_ ?_, rfl⟩
      · rw [hentered, hnext]; exact Nat.lt_succ_self _
      · rw [hentered]; exact initEntry_presents hs q false
    · have hne : q ∉ [p] := fun h => hp (List.mem_singleton.mp h ▸ hq)
      obtain ⟨d, hd, htask⟩ := htasks q hq h96 ((hstep.usable h96 hne).trans husable)
      exact ⟨d, hd, htask.trans (hstep.pairCfg h96 16 16)⟩

/-! ## EVD_ENABLE (R275, R564) -/

/-- EN is set and the lock point passed. -/
def enabled (s : State) : State := (s.setFld Addr.EVD_CTRL 0 1 1).lockPoint

theorem enabled_eq (s : State) : ∃ d, enabled s = { s with dev := d, locked := true } := ⟨_, rfl⟩

theorem rd_enabled (s : State) {a : Nat} (h : a ≠ Addr.EVD_CTRL) : (enabled s).rd a = s.rd a := State.rd_setFld_ne s _ _ _ h

theorem fld_enabled (s : State) : (enabled s).fld Addr.EVD_CTRL 0 1 = 1 := fld_setFld_same s _ _ _ _ (by decide)

theorem pairCfg_enabled (s : State) (q lo w : Nat) : (enabled s).fld (Addr.EVD_PAIRCFG q) lo w = s.fld (Addr.EVD_PAIRCFG q) lo w := by
  have hne : Addr.EVD_PAIRCFG q ≠ Addr.EVD_CTRL := by simp only [Addr.EVD_PAIRCFG, Addr.EVD_CTRL]; omega
  exact fld_of_rd (rd_enabled s hne) lo w

theorem pair_enabled (s : State) (q : Nat) : (enabled s).pair q = s.pair q := rfl

theorem usable_enabled (s : State) (q : Nat) : (enabled s).usable q = s.usable q := by
  unfold State.usable
  rw [pair_enabled, pairCfg_enabled]

/-- EVD_ENABLE with EN 0 sets EN, passes the lock point and selects the init task on every usable pair. -/
theorem evdEnable_enables {s : State} (hq : Quiet s) (hen : s.fld Addr.EVD_CTRL 0 1 = 0) (hc : s.tally.chans = []) (hl : s.latent = []) :
    ∃ u, exec .evdEnable s = .next u ∧ u.fld Addr.EVD_CTRL 0 1 = 1 ∧ u.locked = true ∧
      (∀ q, q < 96 → s.usable q = true → (u.pair q).init = true ∧ ∃ d ∈ u.evd.delivs, (u.pair q).selected = some (.event d.id) ∧
        d.chan = 4096 ∧ d.entry = 0 ∧ d.pair = q ∧ d.task = s.fld (Addr.EVD_PAIRCFG q) 16 16) ∧
      (∀ q e, u.bank q e = s.bank q e) ∧ SameMemory s u := by
  have hf : ({ s with out := [] } : State).evdEnable = (enabled { s with out := [] }).initAll (List.range 96) := by
    refine if_neg ?_
    show ¬ s.fld Addr.EVD_CTRL 0 1 = 1
    omega
  have husable := usable_enabled { s with out := [] }
  have hcfg := pairCfg_enabled { s with out := [] }
  have hrd : ∀ a ∈ restRegs, (enabled { s with out := [] }).rd a = s.rd a := fun a ha =>
    rd_enabled { s with out := [] } (ne_of_mem_of_not_mem ha (by decide))
  have hctrl := fld_enabled { s with out := [] }
  obtain ⟨d0, heq⟩ := enabled_eq { s with out := [] }
  generalize enabled { s with out := [] } = s1 at hf husable hcfg hrd hctrl heq
  obtain ⟨hframe, htasks⟩ := initAll_spec (List.range 96) s1 List.nodup_range (by rw [heq]; exact ⟨hc, hl⟩)
  generalize s1.initAll (List.range 96) = u at hf hframe htasks
  obtain ⟨d, ps, e, hu⟩ := hframe.eq
  have hrest : AtRest s u := by
    have hregs : ∀ a ∈ restRegs, a ∉ readRegs := by decide
    rw [heq] at hu
    exact atRest_of_rd hq (by rw [hu]) (by rw [hu]) (by rw [hu]) (by rw [hu]) fun a ha => (hframe.rd a (hregs a ha)).trans (hrd a ha)
  refine ⟨u, does_at_rest (f := fun s => s.evdEnable) hf hrest, ?_, ?_, fun q hq96 hus => ?_, fun q b => ?_, ?_⟩
  · rw [fld_of_rd (hframe.rd _ (by decide))]; exact hctrl
  · rw [hu, heq]
  · obtain ⟨x, ⟨hinit, hin, hsel, hchan, hentry, hpair⟩, htask⟩ := htasks q (List.mem_range.mpr hq96) hq96 ((husable q).trans hus)
    exact ⟨hinit, x, hin, hsel, hchan, hentry, hpair, htask.trans (hcfg q 16 16)⟩
  · refine (bank_of_banks (hframe.banks q) b).trans ?_
    rw [heq]; rfl
  · rw [hu, heq]; exact ⟨SameMaps.refl _, rfl⟩

end Sys2Proof.Laws
end

section
namespace Sys2Proof
open Sys2Proof.Machine Sys2Proof.Laws

/-- Settles O36: each command by the records and registers that it writes, the init task by what the unit's reads of memory keep. -/
theorem dispatchCommands : Obligations.DispatchCommands := by
  rintro ch c16 tn p b second mask e x pay s s0 hq rfl
  exact ⟨fun hsrc hen htask hpend => evdPost_posts hq hsrc hen htask hpend, fun h => evdPost_refused hq h,
    fun hen hc hl => evdEnable_enables hq hen hc hl, fun h => evdEnable_on hq h, fun hc hl => invtask_rereads hq hc hl,
    fun hres hbank hst => evdEnd_ends hq hres hbank hst, fun h => evdEnd_nowhere hq h, fun h => clrch_keepsPend hq h,
    fun h => clrch_outOfRange hq h, evdClrcnt_clears hq,
    fun hp hhalt hdone hc hl => restart_restarts hq hp hhalt hdone hc hl, fun hp h => restart_running hq hp h, excClrcnt_clears hq,
    lockupClear_clears hq second mask, lockPoint_locks hq, fun hp hhalt h => restart_waits hq hp hhalt h⟩

end Sys2Proof
end
